-- ==== Sys2Proof/Word.lean ====
section
/-! DEFINITION. Words: the engine's 36-bit word (R5, R217) and the plainest arithmetic on numbers that stand for
words. A word's value is a natural number below 2^36; two's complement readings go through `toI` and `ofI`. -/

namespace Sys2Proof

/-- A 36-bit word, as its unsigned value (Words, bytes and units). -/
abbrev Word := Nat

/-- The unsigned value `n` of a field of `w` bits, read as two's complement. -/
def toI (w n : Nat) : Int := if n % 2 ^ w < 2 ^ (w - 1) then (n % 2 ^ w : Nat) else (n % 2 ^ w : Nat) - (2 ^ w : Nat)

/-- The two's complement code of `i` in `w` bits, as an unsigned value. -/
def ofI (w : Nat) (i : Int) : Nat := (i % (2 ^ w : Nat)).toNat

/-- Bits `hi` down to `lo` of `n`. -/
def bitsOf (n hi lo : Nat) : Nat := n / 2 ^ lo % 2 ^ (hi - lo + 1)

/-- Bit `k` of `n`. -/
def bitOf (n k : Nat) : Bool := n / 2 ^ k % 2 == 1

end Sys2Proof
end

