-- ==== Sys2Proof/Syntax.lean ====
section
/-! DEFINITION. The commands the engine takes: one constructor per row of the table of operations and events. The
table gives no fields, so the operands are the model's (log entry 2): a dictionary command carries the session and tag
of its request and the value it writes; an event carries what the outside world decides about it, such as the raw codes
of a converter block, the fields of a received frame or the verdict of a test. -/

namespace Sys2Proof

/-- A received Ethernet frame as the port's receiver sees it (R242 to R245). -/
structure RxFrame where
  dstMac : Nat := 0
  srcMac : Nat := 0
  /-- VLAN identifier of the tag, if the frame is tagged. -/
  vlan : Option Nat := none
  /-- An option that R8 excludes is used. -/
  excluded : Bool := false
  checksumOk : Bool := true
  /-- Octets of the IP payload. -/
  length : Nat := 0
  srcIp : Nat := 0
  srcUdp : Nat := 0
  ver : Nat := 1
  kind : Nat := 0
  flags : Nat := 0
  flow : Nat := 0
  session : Nat := 255
  incarn : Nat := 0
  seq : Nat := 0
  tries : Nat := 0
  /-- SENT, ns. -/
  sent : Nat := 0
  final : Bool := false
  /-- The tag holds under some key of the sender, and the epoch of that key (R368). -/
  tagOk : Bool := true
  epoch : Nat := 0
  /-- Payload octets. -/
  payload : List Nat := []
  deriving DecidableEq, Repr, Inhabited

/-- One block of an ACK payload (Table 11.5). -/
structure AckBlock where
  start : Nat
  count : Nat
  deriving DecidableEq, Repr, Inhabited

/-- The ACK payload of Table 11.5, with the frame's SEQ. -/
structure Ack where
  seq : Nat
  cum : Nat
  high : Nat
  echo : Nat := 0
  window : Nat := 0
  blocks : List AckBlock := []
  deriving DecidableEq, Repr, Inhabited

/-- What a peer's link HELLO carries (R382). -/
structure PeerHello where
  devId : Nat
  fw : Nat
  anchorHash : Nat
  ownerState : Nat
  tenonMin : Nat
  tenonMax : Nat
  certOk : Bool
  signatureOk : Bool
  rolePref : Nat
  hasOutputs : Bool
  isolated : Bool := false
  /-- Lowest and highest versions that the peer offers: dictionary, Sluice, record. -/
  dict : Nat × Nat := (1, 1)
  sluice : Nat × Nat := (1, 1)
  record : Nat × Nat := (1, 1)
  /-- The peer's CONV_SYNC_NEXT, read over the link; none while its CONV_SYNC_MODE is not CHECK (R390). -/
  syncNext : Option Nat := none
  deriving DecidableEq, Repr, Inhabited

/-- A mirrored item (Table 17.2). -/
inductive MirrorBody where
  /-- A commit's snapshot: session, its request's tag, scope, requested tick, commit number, values. -/
  | snapshot (sess tag scope req cseq : Nat) (vals : List (Nat × Nat))
  /-- A write or command of a mirrored object: session, key, value. -/
  | write (sess key value : Nat)
  /-- Session opening: number, role, versions, secret, and where its host is reached. -/
  | sessionOpen (sess role dict sluice secret port mac ip udp : Nat)
  | sessionEnd (sess : Nat)
  /-- A transmission log entry (R387); LEN in octets, TRY 0 for a first transmission. -/
  | logEntry (flow seq tries wordPos len firstRec tick port : Nat)
  /-- Accepted ACK effects. -/
  | ackEffect (flow : Nat) (ack : Ack)
  /-- A record the primary entered into a paired flow, with its type, source, tick, payload and word position. -/
  | entered (flow wordPos type srcKind srcIndex flags hdrExt tick : Nat) (payload : List Nat)
  /-- A shed step: class, stopped or resumed, cause, unit, product, session. -/
  | shed (cls event cause unit product sess : Nat)
  /-- A piece of device time: start in 2^−16 tick, time in 2^−16 ns, and 2^−16 ns per tick as a fraction. -/
  | timePiece (start time num den : Nat)
  /-- Step 4 of R390: the first record boundary of a flow that the standby holds, by its WORDPOS and its record's tick. -/
  | streamStart (flow wordPos tick : Nat)
  /-- A custody manifest and the close of its segment. -/
  | manifest (flow hash : Nat)
  deriving DecidableEq, Repr, Inhabited

/-- A mirrored item with the tick at which the primary served it and whether the standby's firmware offers it. -/
structure MirrorItem where
  at_ : Nat
  offered : Bool
  body : MirrorBody
  deriving DecidableEq, Repr, Inhabited

/-- The header fields of an image and the outcome of its checks (Tables 18.1 and 18.3). -/
structure ImageInfo where
  magicOk : Bool
  format : Nat
  hlen : Nat
  bodyLen : Nat
  patchLen : Nat
  resLen : Nat
  part : Nat
  signatureOk : Bool
  bodyHashOk : Bool
  loaderMin : Nat
  svn : Nat
  fwVersion : Nat
  hoAcceptLo : Nat
  hoAcceptHi : Nat
  hoProduce : Nat
  /-- Per persistent group (0 to 18): accepted range and stored format (R415). -/
  psFormats : List (Nat × Nat × Nat × Nat)
  hash : Nat
  deriving DecidableEq, Repr, Inhabited

/-- A reassembled OPEN (R265, R343, R365) with the outcome of its cryptographic checks. -/
structure OpenInfo where
  sluiceMin : Nat
  sluiceMax : Nat
  dictMin : Nat
  dictMax : Nat
  role : Nat
  chainOk : Bool
  /-- The slots of the installed anchors that the chain reaches (R367). -/
  anchors : List Nat
  datesOk : Bool
  transcript : Nat
  srcMac : Nat
  srcIp : Nat
  srcUdp : Nat
  port : Nat
  deriving DecidableEq, Repr, Inhabited

/-- The commands of opcode_table.json, in the table's order: first those that have operands, then those that have none. -/
inductive Instr where
  | converterBlockEntry (ch : Nat) (prev : Int) (raw : List Int) (next : Int)
  | floorScaleUpdate (pvinMv : Nat)
  | convCalCmd (sess tag ch v : Nat)
  | convCalAll (sess tag : Nat)
  | boardPathSkewCmd (sess tag : Nat)
  | boardPathSkewDone (arrivals : List Nat) (combOk : Bool)
  | calIntervalEnd (ch : Nat) (off gain skew bw : List Int) (sourceOk : Bool) (tj : Int)
  | calSetStored (ch : Nat) (readBackOk : Bool)
  | trackingUpdate (ch kind : Nat) (target : List Int) (powerOk : Bool)
  | syncAlignCmd (sess tag : Nat)
  | syncModeOff (sess tag : Nat)
  | syncModeCheck (sess tag : Nat)
  | syncCheckBoundary (edges : List Int)
  | convPathDelayWrite (sess tag ch v : Nat)
  | tunerSampleRelease (t : Nat)
  | tunerJoint (t : Nat)
  | tunerEnableJoint (t : Nat)
  | frameDispatch (c : Nat)
  | frameRelease (c : Nat)
  | frameStagingSkip (c : Nat)
  | contextJoint (c : Nat)
  | xfmUwinWrite (sess tag c v : Nat)
  | productPeriodRelease (c : Nat)
  | detHoldClear (sess tag c v : Nat)
  | detectorJoint (c : Nat)
  | trigInEdge (pin : Nat) (rising : Bool) (sixteenths : Nat)
  | trigTimeEvent (k : Nat)
  | twinMarkReceive (s posTick posFine : Nat)
  | trigSrcForce (sess tag k v : Nat)
  | seqPosition (s : Nat)
  | trigTimerExpiry (s timer : Nat)
  | trigSeqRearm (sess tag s v : Nat)
  | triggerJoint (sess : Nat)
  | groupResolve (g : Nat)
  | trigGrpArm (sess tag g v : Nat)
  | trigGrpDisarm (sess tag g v : Nat)
  | trigOutLaunch (pin : Nat)
  | trigOutPulseEnd (pin : Nat)
  | trigOutModeWrite (sess tag pin v : Nat)
  | trigMaskSegsWrite (sess tag m v : Nat)
  | trigMaskWrite (sess tag m v : Nat)
  | trigCapArm (sess tag u v : Nat)
  | captureFillEnd (u : Nat)
  | captureSegmentRead (u : Nat) (bad : List Nat)
  | columnSetApply (p : Nat)
  | planeBoundary (p : Nat)
  | harvestReadDone (p : Nat)
  | crysClear (sess tag p v : Nat)
  | crysHarvCmd (sess tag p v : Nat)
  | histLineWrite (h : Nat)
  | histRingJoint (h : Nat)
  | reservoirRequestServe (pch bank row addr corrected uncorrectable : Nat)
  | refreshDue (stack : Nat) (tempQ8 : Int)
  | pchPowerDown (pch : Nat)
  | pchRetrain (pch : Nat) (ok fullOk : Bool)
  | scrub (pch addr corrected uncorrectable : Nat)
  | reservoirTrainingDone (failed : List Nat)
  | rsvRplStart (sess tag x : Nat)
  | rsvRplAbort (sess tag x : Nat)
  | replayRead (x : Nat) (uncorrectable : Bool)
  | moveClaim (sess tag m : Nat)
  | moveRelease (sess tag m : Nat)
  | moveDescWrite (sess tag m v : Nat)
  | moveStart (sess tag m : Nat)
  | moveHalt (sess tag m beats : Nat)
  | moveRetry (sess tag m : Nat)
  | moveSkip (sess tag m : Nat)
  | moveAbort (sess tag m beats : Nat)
  | moveResume (sess tag m : Nat)
  | descriptorComplete (m : Nat)
  | beatError (m beat code dir : Nat)
  | portConfigWrite (sess tag k v : Nat)
  | portLinkUp (p media : Nat)
  | portLinkDown (p : Nat)
  | arpRequest (p ip mac : Nat)
  | ndSolicitation (p ip mac : Nat)
  | frameReceive (p : Nat) (f : RxFrame)
  | frameClose (f : Nat)
  | flowFlushTimer (f : Nat)
  | frameTransmit (p : Nat)
  | ackReceive (p : Nat)
  | rtoExpiry (f seq : Nat)
  | flowStall (f : Nat)
  | receiveFlowData (p : Nat)
  | receiveFlowAckTimer (f : Nat)
  | flowClaim (sess tag f : Nat)
  | flowRelease (sess tag f : Nat)
  | flowEnableJoint (f : Nat)
  | flowDisableJoint (f : Nat)
  | flowDrainEnd (f : Nat)
  | openSegmentReceive (p : Nat)
  | openReassemblyTimeout (srcIp srcUdp : Nat)
  | openSession (o : OpenInfo)
  | closeFrame (p : Nat)
  | scanLineSend (y : Nat) (missing : List Nat)
  | scanCrcCheck (pad : Nat)
  | layerBufferRelease (l : Nat)
  | scanLClaim (sess tag l : Nat)
  | scanLRelease (sess tag l : Nat)
  | scanLPalWrite (sess tag l v : Nat)
  | refPresenceChange (r st : Nat) (ppb : Int)
  | holdoverTrim (tj : Int)
  | clkRefSelWrite (sess tag v : Nat)
  | clkChangeCmd (sess tag v : Nat)
  | clkChangeResume (syncEdge : Bool)
  | clkOutDivWrite (sess tag v : Nat)
  | clkTest (sess tag v : Nat)
  | clkTestDone (fs : Nat)
  | plmbClaim (sess tag : Nat)
  | plmbRelease (sess tag : Nat)
  | plmbEdge (input : Nat) (rising : Bool) (tick fine : Nat)
  | plmbResNext (sess tag v : Nat)
  | cntPoint (n tick fine : Nat) (outOfRange : Bool)
  | ppsInEdge (tick fine : Nat)
  | plmbTodNext (sess tag v : Nat)
  | ptpMessageReceive (offset : Int) (rtt : Nat) (utc : Int)
  | plmbConvTickWrite (sess tag v : Nat)
  | i3cDynamicAddress (cmd addr : Nat)
  | i3cCommonCommand (code arg : Nat)
  | i3cPrivateWrite (ddr : Bool) (code : Nat) (octets : List Nat)
  | i3cPrivateRead (ddr : Bool) (code got : Nat)
  | hello (sess tag vmin vmax : Nat) (wellFormed : Bool)
  | dictRead (sess tag idx sub view nwords : Nat)
  | dictWrite (sess tag idx sub : Nat) (words : List Nat)
  | close (sess tag : Nat) (wellFormed : Bool)
  | sessionIdleTimeout (s : Nat)
  | devSessEnd (sess tag s v : Nat)
  | sessionEndJoint (s : Nat)
  | devCommit (sess tag : Nat)
  | commitValidated (sess : Nat)
  | devCommitValidate (sess tag : Nat)
  | devCommitDiscard (sess tag : Nat)
  | swapComplete (sess : Nat)
  | devStore (sess tag : Nat)
  | storeRun (sess : Nat)
  | secAnchorWrite (sess tag v : Nat)
  | secAnchorInstall (sess tag role slot : Nat) (parses p384 ca selfSigned : Bool)
  | secAnchorRemove (sess tag slot : Nat)
  | secProvision (sess tag v : Nat)
  | secAttestCmd (sess tag v : Nat)
  | attestDone (sess : Nat)
  | custodySegmentClose (f : Nat)
  | tenonLaneTrained (lane : Nat)
  | tenonHello (p : PeerHello)
  | tenonLaneDrop (lane : Nat)
  | mirrorItem (m : MirrorItem)
  | logEntryAck (f seq tries : Nat)
  | heartbeatReceive (ready : Bool) (cseq : Nat) (sense : Bool) (sinceNs peerState : Nat) (floors : List Nat)
  | twinFaultMessage (cause : Nat)
  | substRetx (f seq : Nat)
  | twinHandoverCmd (sess tag : Nat)
  | twinDetachCmd (sess tag : Nat)
  | twinEnableFalse (sess tag : Nat)
  | standbySnapshotApply (js : Nat) (vals owners : List (Nat × Nat)) (clockEqual : Bool)
  | updLockTake (sess tag : Nat)
  | updLockRelease (sess tag : Nat)
  | updLength (sess tag v : Nat)
  | updOffsetWrite (sess tag v : Nat)
  | updData (sess tag v : Nat)
  | updVerify (sess tag v : Nat)
  | updVerifyDone (signatureOk : Bool)
  | updActivateHandover (sess tag : Nat)
  | updActivateRestart (sess tag : Nat)
  | updMramFail (page : Nat)
  | stateHandoverComplete (ms : Nat) (checksOk : Bool)
  | updConfirm (sess tag v : Nat)
  | probationFail (code : Nat)
  | loaderTwinFetch (linkUp twinSends : Bool) (image : ImageInfo)
  | pwrReqService (sess tag : Nat)
  | pwrReqHold (sess tag : Nat)
  | pwrReqWatch (sess tag : Nat)
  | pwrReqDormant (sess tag : Nat)
  | handshakeDeferExpiry (row : Nat)
  | forcedDormant (cause arg : Nat)
  | coreVoltageAdjust (slice slack : Nat) (above8For20us : Bool) (iinMa : Nat)
  | thermEmergBegin (sensor : Nat) (temp : Int)
  | thermEmergClear (temps : List Int)
  | wakeTrigIn (pin : Nat)
  | watchBurstStart (w : Nat)
  | watchBurstEnd (w : Nat) (hit : Option (Nat × Nat))
  | pvinValid (addrSel : Nat) (tj : Int)
  | imageLoaded (hashOk : Bool)
  | controlSetReady (passed : Bool)
  | selfTestEnd (slices channels ports lanes : List Nat) (master stopBank dsi : Bool) (planes : List Nat) (remapKib lostKib : Nat)
  | ready (failedGroups : List Nat)
  | resetNRise (addrSel : Nat)
  | diagReset (sess tag v : Nat)
  | sliceFail (slice : Nat) (noHandshake : Bool)
  | diagAlertAck (sess tag v : Nat)
  | convJoint (ch : Nat)
  | moveBufferJoint (m : Nat)
  | tokenCheckFailure (slice src seq : Nat)
  | snapshotReceipt (sess : Nat)
  | snapshotReceiptTimeout (sess : Nat)
  | forwardedAckReceive (f : Nat) (ack : Ack)
  | shedStep
  | shedRestore
  | syncAlignEdge
  | syncAlignTimeout
  | syncOutPulse
  | timeAnchorEmit
  | statusEmit
  | scanLatch
  | teInEdge
  | scanTeTimeout
  | densityRenderDone
  | refEdgeMiss
  | clkHoldLong
  | pullInDone
  | refRevert
  | masterLock
  | lockTimeout
  | masterUnlock
  | clkChangeGate
  | plmbTimeStart
  | plmbMeasureClose
  | plmbStopUnmatched
  | plumbJoint
  | cntGateEnd
  | cntAbsent
  | ppsMiss
  | ppsOutRise
  | ppsOutFall
  | rstdaa
  | rstactInterface
  | rstactEngine
  | ibiRequest
  | twinSenseRise
  | twinSenseFall
  | heartbeatLoss
  | logAckTimeout
  | twinYield
  | takeoverGuardEnd
  | takeover
  | twinHandoverAt
  | twinDetachAt
  | standbyReady
  | updLockIdleTimeout
  | journalClose
  | twinImageRequest
  | pwrSuspend
  | pwrDrainEnd
  | pwrDomainsDone
  | pwrResume
  | undervoltageShutdown
  | thermalTrip
  | wakeN
  | wakeTimer
  | vauxValid
  | railsInRegulation
  | startSlow
  | resetNFall
  | vauxLoss
  | watchdog
  | logSnapshot
  | tickLimitJoint
  | heartbeatSend
  deriving DecidableEq, Repr, Inhabited

end Sys2Proof
end

