-- ==== Sys2Proof/Decode.lean ====
section
/-! DEFINITION. The command that a word of the opcode table spells. No row of the table gives bits, so no word spells a
command: commands are put into the queue from outside. -/

namespace Sys2Proof

/-- The table numbers no bits of any row: every word is refused. -/
def decodeTableWord (_nbits _w : Nat) : Option Instr := none

end Sys2Proof
end

