-- ==== Sys2Proof/Config.lean ====
section
/-! DEFINITION. What one engine fixes and the manual does not: identity, factory values and the free values. Every
constant below is opaque, so that no proof can lean on a value of it. Log entries 3, 4 and 5. -/

namespace Sys2Proof.Config

/-- DEV_ID (R360), the first 16 octets of SHA-384 over the identity public key. -/
opaque deviceId : Nat
/-- DEV_SERIAL. -/
opaque serial : Nat
/-- DEV_SILICON_REV. -/
opaque siliconRev : Nat
/-- The patch level of DEV_FW_VERSION, which R1 does not fix. -/
opaque fwPatch : Nat
/-- Minor and patch level of DEV_LOADER_VERSION (R1). -/
opaque loaderMinorPatch : Nat
/-- The MIPI manufacturer identifier of Wenroth Signalworks (Table 15.1). -/
opaque mipiId : Nat
/-- SEC_ID_PUBKEY, 97 octets (R360). -/
opaque identityPublicKey : Nat
/-- The factory PORT_MAC base address B (R241). -/
opaque macBase : Nat
/-- SEC_SVN_IMAGE of the image as shipped (R372). -/
opaque factorySvn : Nat
/-- What production test found of a channel (R39): factor kind 0 to 3 of a sub-converter; kind 4 the TIME80, 5 the Tj at its completion
and 6 the firmware version. -/
opaque factoryFactor : Nat → Nat → Nat → Int
/-- An octet of the device and product authority certificates held at production (R361). -/
opaque certOctet : Nat → Nat → Nat
/-- Lengths of those certificates. -/
opaque certLen : Nat → Nat

/-- SHA-384 of the image as shipped and of the loader (Table 16.2). -/
opaque factoryImageHash : Nat
opaque loaderHash : Nat

/-- A value the manual leaves open: the n-th such value of a run. -/
opaque freeNat : Nat → Nat
/-- A signed value the manual leaves open. -/
opaque freeInt : Nat → Int

/-- What a LOGP36 conversion of a power × 2^70 adds to the rounded value: its rest modulo 3, less 1, within the unit that R87 allows. -/
opaque logError : Nat → Nat
/-- The transform's inner structure, which R84 leaves open: whether its stages decimate in time or in frequency, the weight of a 24-bit
twiddle factor, and the relative error of the output scaling of a bin, from the samples, the coefficients and the bin; the model bounds it. -/
opaque stagesInTime : Bool
opaque twiddleFraction : Nat
opaque scaleError : List Nat → List Int → Int → Int × Int
/-- A bin under a window whose coefficients sum to zero, and XFM_WIN_ENBW of it: the manual states no value (R83). -/
opaque unstatedBin : List Nat → List Int → Int → Int × Int
opaque unstatedEnbw : List Int → Nat
/-- XFM_WIN_SCALLOP of a list of coefficients (R80), where its greatest fall lies between the offsets that the model computes or its
response vanishes. -/
opaque scallop : List Int → Nat

/-- The tuner's filters (R58 to R65), of which the manual gives the structure and the response: half-band coefficients at odd distances
from the centre and FIR coefficients of a decimation by their distance, × 2^40; the weight of a 24-bit word; what a sine or cosine word of
a phase adds to the rounded value (its rest modulo 3, less 1); and the CIC's residual gain error. -/
opaque halfBandTap : Nat → Int
opaque firTap : Nat → Nat → Int
opaque wideFraction : Nat
opaque ncoError : Nat → Nat
opaque cicGain : Nat → Nat

/-- SHA-384 of a string of octets (FIPS 180-4). -/
opaque sha384 : List Nat → Nat
/-- ECDSA signature (r, s) by the identity key over a SHA-384 value, 96 octets (FIPS 186-5). -/
opaque sign : Nat → Nat
/-- Key material of R368: the shared secret of an OPEN exchange, from its transcript. -/
opaque sessionSecret : Nat → Nat
/-- hkdf_expand over SHA-384 to 36 octets (R368): of a pseudo-random key and the info octets. -/
opaque hkdf : Nat → List Nat → Nat
/-- A staged anchor certificate parses as R362 requires, with a P-384 key, the CA flag and a self-signature that verifies. -/
opaque certSound : List Nat → Bool

end Sys2Proof.Config
end

