-- ==== Sys2Proof/Machine/Objects.lean ====
section
/-! DEFINITION. The object dictionary's tables: every object of the manual's tables 1.12 to 20.8, as the file and
rule of its chapter give it (R29, R57, R75, R99, R115, R153, R176, R200, R216, R268, R289, R307, R328, R359, R378,
R402, R417, R436, R454), with its type (R5), access code (R6), default and range. -/

namespace Sys2Proof.Machine

/-- Value types of Table 0.4 (R5); STR(n) is stored as BLOB(n), n octets as one big-endian number. -/
inductive Ty where
  | bool | u8 | u16 | u32 | enum8 | u36 | i36 | u64 | i64 | pow36 | logp36 | time80
  | blob (n : Nat)
  deriving DecidableEq, Repr

/-- Access codes of Table 0.5 (R6). -/
inductive Acc where
  | ro | rw | sh | wo | rc | ps
  deriving DecidableEq, Repr

/-- An object's own range (step 7 of Table 15.5). -/
inductive Rng where
  | any
  | between (lo hi : Nat)
  | zeroOr (lo hi : Nat)
  | zeroOrMult (m lo hi : Nat)
  | multUpTo (m hi : Nat)
  | upToOr (hi x : Nat)
  | sbetween (lo hi : Int)
  | bits (mask : Nat)
  | lowPorts
  deriving DecidableEq, Repr

/-- One row of an object table: first index, distance between units, number of units, sub-index range, type, access,
administrator only, default, range. -/
structure Row where
  idx : Nat
  stride : Nat
  n : Nat
  lo : Nat
  hi : Nat
  ty : Ty
  acc : Acc
  adm : Bool
  dflt : Nat
  rng : Rng
  deriving DecidableEq, Repr

/-- Objects of spec file 01, part 0. -/
def admissionRows0 : List Row := [
  ⟨0x2200, 1, 1, 0x00, 0x00, .u8, .ro, false, 5, .any⟩,
  ⟨0x2200, 1, 1, 0x01, 0x01, .u64, .ro, false, 10000000000000, .any⟩,
  ⟨0x2200, 1, 1, 0x02, 0x02, .u64, .ro, false, 256000000000, .any⟩,
  ⟨0x2200, 1, 1, 0x03, 0x03, .u64, .ro, false, 2300000000000, .any⟩,
  ⟨0x2200, 1, 1, 0x04, 0x04, .u64, .ro, false, 95000000000, .any⟩,
  ⟨0x2200, 1, 1, 0x05, 0x05, .u64, .ro, false, 134217728, .any⟩,
  ⟨0x2201, 1, 1, 0x01, 0x01, .u64, .ro, false, 0, .any⟩,
  ⟨0x2201, 1, 1, 0x02, 0x02, .u64, .ro, false, 0, .any⟩,
  ⟨0x2201, 1, 1, 0x03, 0x03, .u64, .ro, false, 0, .any⟩,
  ⟨0x2201, 1, 1, 0x04, 0x04, .u64, .ro, false, 0, .any⟩,
  ⟨0x2201, 1, 1, 0x05, 0x05, .u64, .ro, false, 0, .any⟩,
  ⟨0x2202, 1, 1, 0x01, 0x01, .u64, .ro, false, 0, .any⟩,
  ⟨0x2202, 1, 1, 0x02, 0x02, .u64, .ro, false, 0, .any⟩,
  ⟨0x2202, 1, 1, 0x03, 0x03, .u64, .ro, false, 0, .any⟩,
  ⟨0x2202, 1, 1, 0x04, 0x04, .u64, .ro, false, 0, .any⟩,
  ⟨0x2202, 1, 1, 0x05, 0x05, .u64, .ro, false, 0, .any⟩,
  ⟨0x2203, 1, 1, 0x01, 0x01, .enum8, .ro, false, 0, .any⟩,
  ⟨0x2203, 1, 1, 0x02, 0x02, .enum8, .ro, false, 0, .any⟩,
  ⟨0x2203, 1, 1, 0x03, 0x03, .u32, .ro, false, 0, .any⟩,
  ⟨0x2203, 1, 1, 0x04, 0x04, .u64, .ro, false, 0, .any⟩,
  ⟨0x2203, 1, 1, 0x05, 0x05, .u8, .ro, false, 0, .any⟩,
  ⟨0x2204, 1, 1, 0x00, 0x00, .u8, .ro, false, 28, .any⟩,
  ⟨0x2204, 1, 1, 0x01, 0x1C, .u64, .ro, false, 0, .any⟩,
  ⟨0x2205, 1, 1, 0x01, 0x01, .u8, .ro, false, 8, .any⟩,
  ⟨0x2205, 1, 1, 0x02, 0x02, .u8, .ro, false, 128, .any⟩,
  ⟨0x2205, 1, 1, 0x03, 0x03, .u8, .ro, false, 28, .any⟩,
  ⟨0x2206, 1, 1, 0x00, 0x00, .u32, .ro, false, 65536, .any⟩,
  ⟨0x2210, 1, 1, 0x01, 0x01, .u32, .rc, false, 0, .any⟩,
  ⟨0x2210, 1, 1, 0x02, 0x02, .u32, .rc, false, 0, .any⟩,
  ⟨0x2210, 1, 1, 0x03, 0x03, .u32, .rc, false, 0, .any⟩,
  ⟨0x2210, 1, 1, 0x04, 0x04, .u32, .rc, false, 0, .any⟩,
  ⟨0x2210, 1, 1, 0x05, 0x05, .u32, .rc, false, 0, .any⟩,
  ⟨0x2211, 1, 1, 0x00, 0x00, .u8, .ro, false, 0, .any⟩,
  ⟨0x2212, 1, 1, 0x01, 0x08, .u32, .ro, false, 0, .any⟩,
  ⟨0x2213, 1, 1, 0x01, 0x04, .u16, .rc, false, 0, .any⟩,
  ⟨0x2213, 1, 1, 0x05, 0x08, .u32, .rc, false, 0, .any⟩,
  ⟨0x2212, 1, 1, 0x00, 0x00, .u8, .ro, false, 8, .any⟩]

/-- Every object of spec file 01. -/
def admissionRows : List Row := admissionRows0

/-- Objects of spec file 02, part 0. -/
def convRows0 : List Row := [
  ⟨0x3000, 256, 4, 0x00, 0x00, .enum8, .ro, false, 0, .any⟩,
  ⟨0x3001, 256, 4, 0x00, 0x00, .bool, .sh, false, 1, .any⟩,
  ⟨0x3002, 256, 4, 0x00, 0x00, .u32, .rc, false, 0, .any⟩,
  ⟨0x3003, 256, 4, 0x00, 0x00, .u64, .ro, false, 0, .any⟩,
  ⟨0x3010, 256, 4, 0x00, 0x00, .u8, .ro, false, 64, .any⟩,
  ⟨0x3010, 256, 4, 0x01, 0x40, .i36, .ro, false, 0, .any⟩,
  ⟨0x3011, 256, 4, 0x01, 0x40, .i36, .ro, false, 0, .any⟩,
  ⟨0x3012, 256, 4, 0x01, 0x40, .i36, .ro, false, 0, .any⟩,
  ⟨0x3013, 256, 4, 0x01, 0x40, .i36, .ro, false, 0, .any⟩,
  ⟨0x3014, 256, 4, 0x01, 0x01, .enum8, .ro, false, 0, .any⟩,
  ⟨0x3014, 256, 4, 0x02, 0x02, .u32, .ro, false, 0, .any⟩,
  ⟨0x3014, 256, 4, 0x03, 0x03, .time80, .ro, false, 0, .any⟩,
  ⟨0x3014, 256, 4, 0x04, 0x04, .i36, .ro, false, 0, .any⟩,
  ⟨0x3020, 256, 4, 0x00, 0x00, .u8, .wo, true, 0, .any⟩,
  ⟨0x3021, 256, 4, 0x01, 0x01, .enum8, .ro, false, 0, .any⟩,
  ⟨0x3021, 256, 4, 0x02, 0x02, .enum8, .ro, false, 0, .any⟩,
  ⟨0x3021, 256, 4, 0x03, 0x03, .bool, .ro, false, 0, .any⟩,
  ⟨0x3022, 256, 4, 0x00, 0x00, .bool, .rw, false, 1, .any⟩,
  ⟨0x3023, 256, 4, 0x01, 0x03, .i36, .ro, false, 0, .any⟩,
  ⟨0x3030, 256, 4, 0x00, 0x00, .i36, .ps, false, 0, .between 0 8000000⟩,
  ⟨0x30F0, 1, 1, 0x00, 0x00, .u8, .wo, true, 0, .any⟩,
  ⟨0x30F1, 1, 1, 0x00, 0x00, .bool, .ps, true, 1, .any⟩,
  ⟨0x30F2, 1, 1, 0x00, 0x00, .enum8, .rw, true, 0, .between 0 2⟩,
  ⟨0x30F3, 1, 1, 0x00, 0x00, .u64, .rw, true, 32000000, .any⟩,
  ⟨0x30F4, 1, 1, 0x00, 0x00, .u64, .rw, true, 0, .multUpTo 64 18446744073709551615⟩,
  ⟨0x30F5, 1, 1, 0x00, 0x00, .u64, .ro, false, 0, .any⟩,
  ⟨0x30F6, 1, 1, 0x00, 0x00, .enum8, .ro, false, 0, .any⟩,
  ⟨0x30F7, 1, 1, 0x00, 0x00, .u32, .rc, false, 0, .any⟩,
  ⟨0x30F8, 1, 1, 0x00, 0x00, .bool, .rw, true, 0, .any⟩,
  ⟨0x30F9, 1, 1, 0x01, 0x01, .enum8, .rw, true, 0, .between 0 2⟩,
  ⟨0x30F9, 1, 1, 0x02, 0x02, .u36, .rw, true, 134217728, .between 13421773 2147483648⟩,
  ⟨0x30F9, 1, 1, 0x03, 0x03, .u8, .rw, true, 0, .between 0 30⟩,
  ⟨0x30FA, 1, 1, 0x00, 0x00, .u64, .ro, false, 0, .any⟩,
  ⟨0x3011, 256, 4, 0x00, 0x00, .u8, .ro, false, 64, .any⟩,
  ⟨0x3012, 256, 4, 0x00, 0x00, .u8, .ro, false, 64, .any⟩,
  ⟨0x3013, 256, 4, 0x00, 0x00, .u8, .ro, false, 64, .any⟩,
  ⟨0x3023, 256, 4, 0x00, 0x00, .u8, .ro, false, 3, .any⟩]

/-- Every object of spec file 02. -/
def convRows : List Row := convRows0

/-- Objects of spec file 03, part 0. -/
def tuneRows0 : List Row := [
  ⟨0x3400, 64, 16, 0x00, 0x00, .enum8, .ro, false, 0, .any⟩,
  ⟨0x3401, 64, 16, 0x00, 0x00, .bool, .sh, false, 0, .any⟩,
  ⟨0x3402, 64, 16, 0x00, 0x00, .u64, .sh, false, 70368744177664, .between 0 140737488355328⟩,
  ⟨0x3403, 64, 16, 0x00, 0x00, .u64, .sh, false, 0, .between 0 281474976710655⟩,
  ⟨0x3404, 64, 16, 0x00, 0x00, .u32, .sh, false, 1, .between 1 65536⟩,
  ⟨0x3405, 64, 16, 0x01, 0x01, .enum8, .ro, false, 0, .any⟩,
  ⟨0x3405, 64, 16, 0x02, 0x02, .u8, .ro, false, 1, .any⟩,
  ⟨0x3405, 64, 16, 0x03, 0x03, .u32, .ro, false, 1, .any⟩,
  ⟨0x3405, 64, 16, 0x04, 0x04, .u8, .ro, false, 100, .any⟩,
  ⟨0x3406, 64, 16, 0x01, 0x01, .u36, .ro, false, 47, .any⟩,
  ⟨0x3406, 64, 16, 0x02, 0x02, .u36, .ro, false, 47, .any⟩,
  ⟨0x3406, 64, 16, 0x03, 0x03, .u36, .ro, false, 0, .any⟩,
  ⟨0x3406, 64, 16, 0x04, 0x04, .u36, .ro, false, 0, .any⟩,
  ⟨0x3407, 64, 16, 0x00, 0x00, .u36, .ro, false, 0, .any⟩,
  ⟨0x3408, 64, 16, 0x00, 0x00, .u64, .ro, false, 0, .any⟩,
  ⟨0x3409, 64, 16, 0x01, 0x01, .u64, .ro, false, 0, .any⟩,
  ⟨0x3409, 64, 16, 0x02, 0x02, .u64, .ro, false, 0, .any⟩,
  ⟨0x340A, 64, 16, 0x00, 0x00, .u32, .rc, false, 0, .any⟩,
  ⟨0x340B, 64, 16, 0x00, 0x00, .u32, .rc, false, 0, .any⟩]

/-- Every object of spec file 03. -/
def tuneRows : List Row := tuneRows0

/-- Objects of spec file 04, part 0. -/
def xfmRows0 : List Row := [
  ⟨0x3800, 64, 32, 0x00, 0x00, .enum8, .ro, false, 0, .any⟩,
  ⟨0x3801, 64, 32, 0x00, 0x00, .bool, .sh, false, 0, .any⟩,
  ⟨0x3802, 64, 32, 0x00, 0x00, .u8, .sh, false, 0, .between 0 15⟩,
  ⟨0x3803, 64, 32, 0x00, 0x00, .u8, .sh, false, 10, .between 4 20⟩,
  ⟨0x3804, 64, 32, 0x00, 0x00, .u32, .sh, false, 256, .between 1 1048576⟩,
  ⟨0x3805, 64, 32, 0x00, 0x00, .u32, .sh, false, 0, .between 0 1048575⟩,
  ⟨0x3806, 64, 32, 0x01, 0x01, .enum8, .sh, false, 1, .between 0 6⟩,
  ⟨0x3806, 64, 32, 0x02, 0x02, .u32, .sh, false, 0, .between 0 10240⟩,
  ⟨0x3807, 64, 32, 0x01, 0x01, .u32, .ro, false, 98304, .any⟩,
  ⟨0x3807, 64, 32, 0x02, 0x02, .u36, .ro, false, 536870912, .any⟩,
  ⟨0x3807, 64, 32, 0x03, 0x03, .logp36, .ro, false, 93299, .any⟩,
  ⟨0x3808, 64, 32, 0x01, 0x01, .enum8, .sh, false, 0, .between 0 3⟩,
  ⟨0x3808, 64, 32, 0x02, 0x02, .u32, .sh, false, 1, .between 1 16777216⟩,
  ⟨0x3808, 64, 32, 0x03, 0x03, .i36, .sh, false, 0, .sbetween (-524288) (524287)⟩,
  ⟨0x3808, 64, 32, 0x04, 0x04, .u32, .sh, false, 0, .between 0 1048576⟩,
  ⟨0x3809, 64, 32, 0x00, 0x00, .u64, .ro, false, 0, .any⟩,
  ⟨0x380A, 64, 32, 0x00, 0x00, .u32, .ro, false, 0, .any⟩,
  ⟨0x380B, 64, 32, 0x00, 0x00, .u64, .ro, false, 0, .any⟩,
  ⟨0x380C, 64, 32, 0x00, 0x00, .u64, .sh, false, 0, .any⟩,
  ⟨0x380D, 64, 32, 0x00, 0x00, .i64, .ro, false, 0, .any⟩,
  ⟨0x380E, 64, 32, 0x01, 0x01, .u64, .ro, false, 0, .any⟩,
  ⟨0x380E, 64, 32, 0x02, 0x02, .u32, .rc, false, 0, .any⟩,
  ⟨0x380E, 64, 32, 0x03, 0x03, .u32, .rc, false, 0, .any⟩,
  ⟨0x380E, 64, 32, 0x04, 0x04, .u32, .rc, false, 0, .any⟩,
  ⟨0x380E, 64, 32, 0x05, 0x05, .u32, .rc, false, 0, .any⟩,
  ⟨0x380F, 64, 32, 0x00, 0x00, .u32, .ro, false, 0, .any⟩,
  ⟨0x3830, 1, 1, 0x00, 0x00, .u16, .ro, false, 0, .any⟩,
  ⟨0x3831, 1, 1, 0x00, 0x00, .u16, .rc, false, 0, .any⟩,
  ⟨0x3832, 1, 1, 0x01, 0x01, .u32, .ro, false, 0, .any⟩,
  ⟨0x3832, 1, 1, 0x02, 0x02, .u32, .ro, false, 2097152, .any⟩]

/-- Every object of spec file 04. -/
def xfmRows : List Row := xfmRows0

/-- Objects of spec file 05, part 0. DESIGN CHOICE: Table 5.5 gives the bins of the detector range and of the integrators' bands a type and no
write range: a write is held to what any N allows, −524,288 to 524,287, and a count to 1,048,576 (log entry 66). -/
def detRows0 : List Row := [
  ⟨0x4000, 32, 32, 0x00, 0x00, .enum8, .ro, false, 0, .any⟩,
  ⟨0x4001, 32, 32, 0x00, 0x00, .u64, .sh, false, 3200000, .between 1024 4398046511104⟩,
  ⟨0x4002, 32, 32, 0x01, 0x01, .i36, .sh, false, 0, .sbetween (-524288) (524287)⟩,
  ⟨0x4002, 32, 32, 0x02, 0x02, .u32, .sh, false, 0, .between 0 1048576⟩,
  ⟨0x4003, 32, 32, 0x01, 0x01, .enum8, .sh, false, 0, .between 0 4⟩,
  ⟨0x4003, 32, 32, 0x02, 0x02, .enum8, .sh, false, 0, .between 0 1⟩,
  ⟨0x4003, 32, 32, 0x03, 0x03, .u8, .sh, false, 4, .between 1 16⟩,
  ⟨0x4004, 32, 32, 0x01, 0x01, .enum8, .sh, false, 0, .between 0 3⟩,
  ⟨0x4004, 32, 32, 0x02, 0x02, .enum8, .sh, false, 1, .between 0 1⟩,
  ⟨0x4005, 32, 32, 0x00, 0x00, .enum8, .sh, false, 3, .between 2 3⟩,
  ⟨0x4006, 32, 32, 0x01, 0x01, .u8, .sh, false, 0, .between 0 32⟩,
  ⟨0x4006, 32, 32, 0x02, 0x02, .enum8, .sh, false, 0, .between 0 1⟩,
  ⟨0x4006, 32, 32, 0x03, 0x03, .logp36, .sh, false, 68713578496, .any⟩,
  ⟨0x4006, 32, 32, 0x04, 0x04, .u16, .sh, false, 0, .between 0 1023⟩,
  ⟨0x4007, 32, 32, 0x01, 0x01, .u16, .sh, false, 1024, .between 16 4096⟩,
  ⟨0x4007, 32, 32, 0x02, 0x02, .enum8, .sh, false, 0, .between 0 5⟩,
  ⟨0x4008, 32, 32, 0x01, 0x01, .u8, .sh, false, 255, .upToOr 7 255⟩,
  ⟨0x4008, 32, 32, 0x02, 0x02, .u16, .sh, false, 2048, .between 16 2048⟩,
  ⟨0x4008, 32, 32, 0x03, 0x03, .enum8, .sh, false, 0, .between 0 5⟩,
  ⟨0x4008, 32, 32, 0x04, 0x04, .u64, .sh, false, 0, .between 0 18446744073709551615⟩,
  ⟨0x4009, 32, 32, 0x00, 0x00, .u8, .wo, false, 0, .any⟩,
  ⟨0x400A, 32, 32, 0x00, 0x00, .u64, .ro, false, 0, .any⟩,
  ⟨0x400B, 32, 32, 0x01, 0x01, .u32, .ro, false, 0, .any⟩,
  ⟨0x400B, 32, 32, 0x02, 0x02, .u64, .ro, false, 0, .any⟩,
  ⟨0x400C, 32, 32, 0x01, 0x01, .u32, .rc, false, 0, .any⟩,
  ⟨0x400C, 32, 32, 0x02, 0x02, .u64, .ro, false, 0, .any⟩,
  ⟨0x4010, 1, 1, 0x01, 0x40, .u8, .sh, false, 255, .upToOr 31 255⟩,
  ⟨0x4011, 1, 1, 0x01, 0x40, .i36, .sh, false, 0, .sbetween (-524288) (524287)⟩,
  ⟨0x4012, 1, 1, 0x01, 0x40, .i36, .sh, false, 0, .sbetween (-524288) (524287)⟩,
  ⟨0x4013, 1, 1, 0x01, 0x40, .pow36, .ro, false, 0, .any⟩,
  ⟨0x4014, 1, 1, 0x01, 0x40, .u64, .ro, false, 0, .any⟩,
  ⟨0x4015, 1, 1, 0x01, 0x01, .u32, .ro, false, 0, .any⟩,
  ⟨0x4015, 1, 1, 0x02, 0x02, .u32, .ro, false, 8388608, .any⟩,
  ⟨0x4015, 1, 1, 0x03, 0x03, .u32, .ro, false, 0, .any⟩,
  ⟨0x4010, 1, 1, 0x00, 0x00, .u8, .ro, false, 64, .any⟩,
  ⟨0x4011, 1, 1, 0x00, 0x00, .u8, .ro, false, 64, .any⟩,
  ⟨0x4012, 1, 1, 0x00, 0x00, .u8, .ro, false, 64, .any⟩,
  ⟨0x4013, 1, 1, 0x00, 0x00, .u8, .ro, false, 64, .any⟩,
  ⟨0x4014, 1, 1, 0x00, 0x00, .u8, .ro, false, 64, .any⟩]

/-- Every object of spec file 05. -/
def detRows : List Row := detRows0

/-- Objects of spec file 06, part 0. -/
def trigRows0 : List Row := [
  ⟨0x4800, 16, 32, 0x00, 0x00, .enum8, .ro, false, 0, .any⟩,
  ⟨0x4801, 16, 32, 0x00, 0x00, .enum8, .sh, false, 0, .between 0 7⟩,
  ⟨0x4802, 16, 32, 0x00, 0x00, .u8, .sh, false, 0, .between 0 63⟩,
  ⟨0x4803, 16, 32, 0x00, 0x00, .enum8, .sh, false, 0, .between 0 2⟩,
  ⟨0x4804, 16, 32, 0x00, 0x00, .logp36, .sh, false, 68718166016, .any⟩,
  ⟨0x4805, 16, 32, 0x00, 0x00, .logp36, .sh, false, 0, .between 0 2621440⟩,
  ⟨0x4806, 16, 32, 0x00, 0x00, .u32, .sh, false, 1, .between 1 65536⟩,
  ⟨0x4807, 16, 32, 0x00, 0x00, .u64, .sh, false, 512, .between 512 1099511627776⟩,
  ⟨0x4808, 16, 32, 0x01, 0x01, .u8, .sh, false, 0, .between 0 15⟩,
  ⟨0x4808, 16, 32, 0x02, 0x02, .enum8, .sh, false, 1, .between 1 3⟩,
  ⟨0x4808, 16, 32, 0x03, 0x03, .u32, .sh, false, 1, .between 1 1048576⟩,
  ⟨0x4809, 16, 32, 0x01, 0x01, .u64, .sh, false, 0, .any⟩,
  ⟨0x4809, 16, 32, 0x02, 0x02, .u64, .sh, false, 0, .zeroOr 512 18446744073709551615⟩,
  ⟨0x480A, 16, 32, 0x00, 0x00, .u64, .wo, false, 0, .any⟩,
  ⟨0x480B, 16, 32, 0x01, 0x01, .u64, .ro, false, 0, .any⟩,
  ⟨0x480B, 16, 32, 0x02, 0x02, .u32, .rc, false, 0, .any⟩,
  ⟨0x480B, 16, 32, 0x03, 0x03, .u32, .rc, false, 0, .any⟩,
  ⟨0x480B, 16, 32, 0x04, 0x04, .u64, .ro, false, 0, .any⟩,
  ⟨0x480C, 16, 32, 0x00, 0x00, .u64, .ro, false, 0, .any⟩,
  ⟨0x4A00, 16, 16, 0x00, 0x00, .u16, .sh, false, 1, .between 1 2048⟩,
  ⟨0x4A01, 16, 16, 0x00, 0x00, .u64, .sh, false, 0, .any⟩,
  ⟨0x4A02, 16, 16, 0x00, 0x00, .i64, .ro, false, 0, .any⟩,
  ⟨0x4400, 64, 16, 0x01, 0x01, .enum8, .ro, false, 0, .any⟩,
  ⟨0x4400, 64, 16, 0x02, 0x02, .u8, .ro, false, 0, .any⟩,
  ⟨0x4401, 64, 16, 0x00, 0x00, .bool, .sh, false, 0, .any⟩,
  ⟨0x4402, 64, 16, 0x00, 0x00, .u8, .sh, false, 0, .between 0 7⟩,
  ⟨0x4403, 64, 16, 0x00, 0x00, .u16, .sh, false, 0, .any⟩,
  ⟨0x4404, 64, 16, 0x00, 0x00, .u32, .sh, false, 100000, .multUpTo 1000 62500000⟩,
  ⟨0x4408, 64, 16, 0x01, 0x04, .u32, .sh, false, 0, .any⟩,
  ⟨0x4409, 64, 16, 0x01, 0x04, .u32, .ro, false, 0, .any⟩,
  ⟨0x440A, 64, 16, 0x01, 0x04, .u64, .sh, false, 32000, .between 512 18446744073709551615⟩,
  ⟨0x440B, 64, 16, 0x01, 0x04, .enum8, .sh, false, 0, .between 0 1⟩,
  ⟨0x440C, 64, 16, 0x01, 0x04, .u64, .ro, false, 0, .any⟩,
  ⟨0x4410, 64, 16, 0x01, 0x04, .u36, .sh, false, 0, .any⟩,
  ⟨0x4411, 64, 16, 0x01, 0x04, .u36, .sh, false, 0, .any⟩,
  ⟨0x4412, 64, 16, 0x01, 0x04, .u36, .sh, false, 0, .any⟩,
  ⟨0x4413, 64, 16, 0x01, 0x04, .u36, .sh, false, 0, .any⟩,
  ⟨0x4414, 64, 16, 0x01, 0x04, .u36, .sh, false, 0, .any⟩,
  ⟨0x4415, 64, 16, 0x01, 0x04, .u36, .sh, false, 0, .any⟩,
  ⟨0x4416, 64, 16, 0x01, 0x04, .u36, .sh, false, 0, .any⟩]

/-- Objects of spec file 06, part 1. -/
def trigRows1 : List Row := [
  ⟨0x4417, 64, 16, 0x01, 0x04, .u36, .sh, false, 0, .any⟩,
  ⟨0x4418, 64, 16, 0x00, 0x00, .u8, .wo, false, 0, .any⟩,
  ⟨0x4419, 64, 16, 0x01, 0x01, .u64, .ro, false, 0, .any⟩,
  ⟨0x4419, 64, 16, 0x02, 0x02, .u32, .rc, false, 0, .any⟩,
  ⟨0x4419, 64, 16, 0x03, 0x03, .u32, .rc, false, 0, .any⟩,
  ⟨0x4419, 64, 16, 0x04, 0x04, .u32, .rc, false, 0, .any⟩,
  ⟨0x441A, 64, 16, 0x00, 0x00, .u64, .ro, false, 0, .any⟩,
  ⟨0x441B, 64, 16, 0x00, 0x00, .u64, .ro, false, 0, .any⟩,
  ⟨0x441C, 64, 16, 0x00, 0x00, .u32, .ro, false, 0, .any⟩,
  ⟨0x4B00, 16, 4, 0x00, 0x00, .enum8, .ro, false, 0, .any⟩,
  ⟨0x4B01, 16, 4, 0x00, 0x00, .bool, .sh, false, 0, .any⟩,
  ⟨0x4B02, 16, 4, 0x00, 0x00, .u8, .sh, false, 0, .between 0 15⟩,
  ⟨0x4B03, 16, 4, 0x00, 0x00, .u16, .sh, false, 0, .any⟩,
  ⟨0x4B04, 16, 4, 0x00, 0x00, .u8, .sh, false, 0, .between 0 15⟩,
  ⟨0x4B05, 16, 4, 0x00, 0x00, .u16, .sh, false, 0, .any⟩,
  ⟨0x4B06, 16, 4, 0x00, 0x00, .u8, .wo, false, 0, .any⟩,
  ⟨0x4B07, 16, 4, 0x00, 0x00, .u8, .wo, false, 0, .any⟩,
  ⟨0x4B08, 16, 4, 0x01, 0x01, .u64, .ro, false, 0, .any⟩,
  ⟨0x4B08, 16, 4, 0x02, 0x02, .u32, .rc, false, 0, .any⟩,
  ⟨0x4B08, 16, 4, 0x03, 0x03, .u64, .ro, false, 0, .any⟩,
  ⟨0x4B09, 16, 4, 0x00, 0x00, .u32, .sh, false, 100000, .multUpTo 1000 62500000⟩,
  ⟨0x4B0A, 16, 4, 0x00, 0x00, .u64, .ro, false, 0, .any⟩,
  ⟨0x4B40, 1, 1, 0x01, 0x04, .u36, .ps, true, 0, .between 0 10000000⟩,
  ⟨0x4B41, 1, 1, 0x01, 0x04, .enum8, .rw, true, 0, .between 0 2⟩,
  ⟨0x4B42, 1, 1, 0x01, 0x04, .u64, .sh, true, 64000, .zeroOr 1024 4294967295⟩,
  ⟨0x4B43, 1, 1, 0x01, 0x04, .u32, .sh, true, 3200, .between 64 4294967295⟩,
  ⟨0x4B44, 1, 1, 0x01, 0x04, .u32, .rc, false, 0, .any⟩,
  ⟨0x4B50, 1, 1, 0x00, 0x00, .u32, .ro, false, 0, .any⟩,
  ⟨0x4B51, 1, 1, 0x01, 0x01, .u32, .ro, false, 0, .any⟩,
  ⟨0x4B51, 1, 1, 0x02, 0x02, .u32, .ro, false, 62500000, .any⟩,
  ⟨0x4B52, 1, 1, 0x00, 0x00, .u32, .rc, false, 0, .any⟩,
  ⟨0x4B80, 16, 4, 0x00, 0x00, .enum8, .ro, false, 0, .any⟩,
  ⟨0x4B81, 16, 4, 0x00, 0x00, .bool, .sh, false, 0, .any⟩,
  ⟨0x4B82, 16, 4, 0x00, 0x00, .u8, .sh, false, 0, .between 0 15⟩,
  ⟨0x4B83, 16, 4, 0x00, 0x00, .u8, .sh, false, 0, .between 0 19⟩,
  ⟨0x4B84, 16, 4, 0x00, 0x00, .u32, .sh, false, 4096, .between 64 16777216⟩,
  ⟨0x4B85, 16, 4, 0x00, 0x00, .u32, .sh, false, 1024, .between 0 16777215⟩,
  ⟨0x4B86, 16, 4, 0x00, 0x00, .u32, .sh, false, 1, .between 0 65536⟩,
  ⟨0x4B87, 16, 4, 0x00, 0x00, .u8, .wo, false, 0, .any⟩,
  ⟨0x4B88, 16, 4, 0x01, 0x01, .u32, .ro, false, 0, .any⟩]

/-- Objects of spec file 06, part 2. -/
def trigRows2 : List Row := [
  ⟨0x4B88, 16, 4, 0x02, 0x02, .u32, .rc, false, 0, .any⟩,
  ⟨0x4B88, 16, 4, 0x03, 0x03, .u32, .rc, false, 0, .any⟩,
  ⟨0x4B89, 16, 4, 0x00, 0x00, .u64, .ro, false, 0, .any⟩,
  ⟨0x4408, 64, 16, 0x00, 0x00, .u8, .ro, false, 4, .any⟩,
  ⟨0x4409, 64, 16, 0x00, 0x00, .u8, .ro, false, 4, .any⟩,
  ⟨0x440A, 64, 16, 0x00, 0x00, .u8, .ro, false, 4, .any⟩,
  ⟨0x440B, 64, 16, 0x00, 0x00, .u8, .ro, false, 4, .any⟩,
  ⟨0x440C, 64, 16, 0x00, 0x00, .u8, .ro, false, 4, .any⟩,
  ⟨0x4410, 64, 16, 0x00, 0x00, .u8, .ro, false, 4, .any⟩,
  ⟨0x4411, 64, 16, 0x00, 0x00, .u8, .ro, false, 4, .any⟩,
  ⟨0x4412, 64, 16, 0x00, 0x00, .u8, .ro, false, 4, .any⟩,
  ⟨0x4413, 64, 16, 0x00, 0x00, .u8, .ro, false, 4, .any⟩,
  ⟨0x4414, 64, 16, 0x00, 0x00, .u8, .ro, false, 4, .any⟩,
  ⟨0x4415, 64, 16, 0x00, 0x00, .u8, .ro, false, 4, .any⟩,
  ⟨0x4416, 64, 16, 0x00, 0x00, .u8, .ro, false, 4, .any⟩,
  ⟨0x4417, 64, 16, 0x00, 0x00, .u8, .ro, false, 4, .any⟩,
  ⟨0x4B40, 1, 1, 0x00, 0x00, .u8, .ro, false, 4, .any⟩,
  ⟨0x4B41, 1, 1, 0x00, 0x00, .u8, .ro, false, 4, .any⟩,
  ⟨0x4B42, 1, 1, 0x00, 0x00, .u8, .ro, false, 4, .any⟩,
  ⟨0x4B43, 1, 1, 0x00, 0x00, .u8, .ro, false, 4, .any⟩,
  ⟨0x4B44, 1, 1, 0x00, 0x00, .u8, .ro, false, 4, .any⟩]

/-- Every object of spec file 06. -/
def trigRows : List Row := trigRows0 ++ trigRows1 ++ trigRows2

/-- Objects of spec file 07, part 0. -/
def crysRows0 : List Row := [
  ⟨0x4C00, 128, 8, 0x00, 0x00, .enum8, .ro, false, 0, .any⟩,
  ⟨0x4C01, 128, 8, 0x00, 0x00, .bool, .sh, false, 0, .any⟩,
  ⟨0x4C02, 128, 8, 0x01, 0x01, .u16, .sh, false, 2048, .between 16 2048⟩,
  ⟨0x4C02, 128, 8, 0x02, 0x02, .u16, .sh, false, 1024, .between 16 1024⟩,
  ⟨0x4C03, 128, 8, 0x01, 0x01, .logp36, .sh, false, 0, .any⟩,
  ⟨0x4C03, 128, 8, 0x02, 0x02, .logp36, .sh, false, 6553600, .any⟩,
  ⟨0x4C03, 128, 8, 0x03, 0x03, .enum8, .sh, false, 1, .between 0 2⟩,
  ⟨0x4C04, 128, 8, 0x00, 0x00, .u16, .sh, false, 0, .between 0 1023⟩,
  ⟨0x4C05, 128, 8, 0x00, 0x00, .u16, .sh, false, 64, .between 1 4096⟩,
  ⟨0x4C06, 128, 8, 0x01, 0x01, .u64, .sh, false, 0, .zeroOr 32000000 1920000000000⟩,
  ⟨0x4C06, 128, 8, 0x02, 0x02, .u36, .ro, false, 4294967296, .any⟩,
  ⟨0x4C07, 128, 8, 0x01, 0x01, .u64, .sh, false, 0, .zeroOrMult 4194304 33554432 1099511627776⟩,
  ⟨0x4C07, 128, 8, 0x02, 0x02, .enum8, .sh, false, 0, .between 0 1⟩,
  ⟨0x4C07, 128, 8, 0x03, 0x03, .bool, .sh, false, 0, .any⟩,
  ⟨0x4C08, 128, 8, 0x00, 0x00, .u8, .wo, false, 0, .any⟩,
  ⟨0x4C09, 128, 8, 0x00, 0x00, .u8, .wo, false, 0, .any⟩,
  ⟨0x4C0A, 128, 8, 0x01, 0x01, .u32, .ro, false, 0, .any⟩,
  ⟨0x4C0A, 128, 8, 0x02, 0x02, .u64, .ro, false, 0, .any⟩,
  ⟨0x4C0A, 128, 8, 0x03, 0x03, .u32, .rc, false, 0, .any⟩,
  ⟨0x4C0A, 128, 8, 0x04, 0x04, .u32, .ro, false, 0, .any⟩,
  ⟨0x4C0B, 128, 8, 0x00, 0x00, .u64, .ro, false, 0, .any⟩,
  ⟨0x4C0C, 128, 8, 0x01, 0x01, .u64, .ro, false, 0, .any⟩,
  ⟨0x4C0C, 128, 8, 0x02, 0x02, .u32, .rc, false, 0, .any⟩,
  ⟨0x4C0C, 128, 8, 0x03, 0x03, .u32, .rc, false, 0, .any⟩,
  ⟨0x4C0C, 128, 8, 0x04, 0x04, .u32, .rc, false, 0, .any⟩,
  ⟨0x4C0C, 128, 8, 0x05, 0x05, .u32, .rc, false, 0, .any⟩,
  ⟨0x4C0C, 128, 8, 0x06, 0x06, .u32, .rc, false, 0, .any⟩,
  ⟨0x4C0D, 128, 8, 0x00, 0x00, .u32, .ro, false, 0, .any⟩,
  ⟨0x4C0E, 128, 8, 0x00, 0x00, .u64, .ro, false, 0, .any⟩,
  ⟨0x4C0F, 128, 8, 0x00, 0x00, .u64, .ro, false, 0, .any⟩]

/-- Every object of spec file 07. -/
def crysRows : List Row := crysRows0

/-- Objects of spec file 08, part 0. -/
def rsvRows0 : List Row := [
  ⟨0x5000, 1, 1, 0x00, 0x00, .enum8, .ro, false, 0, .any⟩,
  ⟨0x5001, 1, 1, 0x01, 0x01, .u16, .ro, false, 910, .any⟩,
  ⟨0x5001, 1, 1, 0x02, 0x02, .u16, .ro, false, 910, .any⟩,
  ⟨0x5001, 1, 1, 0x03, 0x03, .u8, .ro, false, 0, .any⟩,
  ⟨0x5002, 1, 1, 0x01, 0x04, .u32, .ro, false, 0, .any⟩,
  ⟨0x5003, 1, 1, 0x00, 0x00, .u32, .rw, true, 1000, .zeroOr 100 1000000⟩,
  ⟨0x5004, 1, 1, 0x01, 0x01, .u32, .rw, true, 1000, .between 100 10000⟩,
  ⟨0x5004, 1, 1, 0x02, 0x02, .u16, .rw, true, 1280, .any⟩,
  ⟨0x5004, 1, 1, 0x03, 0x03, .u32, .rc, false, 0, .any⟩,
  ⟨0x5005, 1, 1, 0x00, 0x00, .u16, .rw, true, 24, .any⟩,
  ⟨0x5006, 1, 1, 0x01, 0x01, .u32, .rc, false, 0, .any⟩,
  ⟨0x5006, 1, 1, 0x02, 0x02, .u32, .rc, false, 0, .any⟩,
  ⟨0x5006, 1, 1, 0x03, 0x03, .u64, .ro, false, 0, .any⟩,
  ⟨0x5007, 1, 1, 0x01, 0x01, .u32, .rc, false, 0, .any⟩,
  ⟨0x5007, 1, 1, 0x02, 0x02, .u32, .rc, false, 0, .any⟩,
  ⟨0x5007, 1, 1, 0x03, 0x03, .u16, .ro, false, 0, .any⟩,
  ⟨0x5008, 1, 1, 0x01, 0x04, .i36, .ro, false, 0, .any⟩,
  ⟨0x5008, 1, 1, 0x05, 0x08, .bool, .ro, false, 0, .any⟩,
  ⟨0x5009, 1, 1, 0x01, 0x01, .u32, .ro, false, 0, .any⟩,
  ⟨0x5009, 1, 1, 0x02, 0x02, .u16, .ro, false, 0, .any⟩,
  ⟨0x5009, 1, 1, 0x03, 0x03, .u16, .rc, false, 0, .any⟩,
  ⟨0x5009, 1, 1, 0x04, 0x04, .u32, .rc, false, 0, .any⟩,
  ⟨0x5100, 16, 20, 0x00, 0x00, .enum8, .ro, false, 0, .any⟩,
  ⟨0x5101, 16, 20, 0x00, 0x00, .bool, .sh, false, 0, .any⟩,
  ⟨0x5102, 16, 20, 0x00, 0x00, .u16, .sh, false, 1, .between 1 910⟩,
  ⟨0x5103, 16, 20, 0x00, 0x00, .u8, .sh, false, 20, .between 16 24⟩,
  ⟨0x5104, 16, 20, 0x01, 0x01, .u64, .ro, false, 0, .any⟩,
  ⟨0x5104, 16, 20, 0x02, 0x02, .u64, .ro, false, 0, .any⟩,
  ⟨0x5104, 16, 20, 0x03, 0x03, .u64, .ro, false, 0, .any⟩,
  ⟨0x5105, 16, 20, 0x00, 0x00, .u64, .ro, false, 0, .any⟩,
  ⟨0x5106, 16, 20, 0x00, 0x00, .u8, .ro, false, 0, .any⟩,
  ⟨0x5107, 16, 20, 0x00, 0x00, .u32, .rc, false, 0, .any⟩,
  ⟨0x5108, 16, 20, 0x00, 0x00, .u64, .ro, false, 0, .any⟩,
  ⟨0x5300, 16, 16, 0x00, 0x00, .enum8, .ro, false, 0, .any⟩,
  ⟨0x5301, 16, 16, 0x00, 0x00, .u8, .sh, false, 0, .between 0 19⟩,
  ⟨0x5302, 16, 16, 0x00, 0x00, .u64, .sh, false, 0, .between 0 300000000000⟩,
  ⟨0x5303, 16, 16, 0x00, 0x00, .u32, .sh, false, 16384, .between 64 1048576⟩,
  ⟨0x5304, 16, 16, 0x01, 0x01, .u64, .rw, false, 0, .any⟩,
  ⟨0x5304, 16, 16, 0x02, 0x02, .u64, .rw, false, 0, .any⟩,
  ⟨0x5305, 16, 16, 0x00, 0x00, .u8, .wo, false, 0, .any⟩]

/-- Objects of spec file 08, part 1. -/
def rsvRows1 : List Row := [
  ⟨0x5306, 16, 16, 0x00, 0x00, .u64, .ro, false, 0, .any⟩,
  ⟨0x5307, 16, 16, 0x00, 0x00, .i64, .ro, false, 0, .any⟩,
  ⟨0x5308, 16, 16, 0x00, 0x00, .u32, .rc, false, 0, .any⟩,
  ⟨0x5309, 16, 16, 0x00, 0x00, .u32, .ro, false, 0, .any⟩,
  ⟨0x5002, 1, 1, 0x00, 0x00, .u8, .ro, false, 4, .any⟩]

/-- Every object of spec file 08. -/
def rsvRows : List Row := rsvRows0 ++ rsvRows1

/-- Objects of spec file 09, part 0. -/
def moveRows0 : List Row := [
  ⟨0x5400, 8, 96, 0x01, 0x01, .enum8, .ro, false, 0, .any⟩,
  ⟨0x5400, 8, 32, 0x02, 0x02, .u8, .ro, false, 254, .any⟩,
  ⟨0x5500, 8, 64, 0x02, 0x02, .u8, .ro, false, 255, .any⟩,
  ⟨0x5401, 8, 96, 0x00, 0x00, .u8, .wo, false, 0, .any⟩,
  ⟨0x5402, 8, 96, 0x01, 0x01, .u8, .sh, false, 0, .zeroOr 12 24⟩,
  ⟨0x5402, 8, 96, 0x02, 0x02, .u36, .ro, false, 0, .any⟩,
  ⟨0x5403, 8, 96, 0x00, 0x00, .u64, .rw, false, 0, .any⟩,
  ⟨0x5404, 8, 96, 0x01, 0x01, .u8, .rw, false, 0, .between 0 15⟩,
  ⟨0x5404, 8, 96, 0x02, 0x02, .u8, .wo, false, 0, .any⟩,
  ⟨0x5405, 8, 96, 0x01, 0x01, .u8, .ro, false, 0, .any⟩,
  ⟨0x5405, 8, 96, 0x02, 0x02, .u32, .ro, false, 0, .any⟩,
  ⟨0x5405, 8, 96, 0x03, 0x03, .u32, .ro, false, 0, .any⟩,
  ⟨0x5405, 8, 96, 0x04, 0x04, .u32, .ro, false, 0, .any⟩,
  ⟨0x5406, 8, 96, 0x01, 0x01, .enum8, .ro, false, 0, .any⟩,
  ⟨0x5406, 8, 96, 0x02, 0x02, .enum8, .ro, false, 0, .any⟩,
  ⟨0x5406, 8, 96, 0x03, 0x03, .u64, .ro, false, 0, .any⟩,
  ⟨0x5406, 8, 96, 0x04, 0x04, .u32, .ro, false, 0, .any⟩,
  ⟨0x5406, 8, 96, 0x05, 0x05, .u8, .ro, false, 0, .any⟩,
  ⟨0x5406, 8, 96, 0x06, 0x06, .bool, .ro, false, 0, .any⟩,
  ⟨0x5407, 8, 96, 0x01, 0x01, .u64, .ro, false, 0, .any⟩,
  ⟨0x5407, 8, 96, 0x02, 0x02, .u32, .ro, false, 0, .any⟩,
  ⟨0x5407, 8, 96, 0x03, 0x03, .u32, .rc, false, 0, .any⟩]

/-- Every object of spec file 09. -/
def moveRows : List Row := moveRows0

/-- Objects of spec file 11, part 0. -/
def flowRows0 : List Row := [
  ⟨0x5800, 16, 28, 0x01, 0x01, .enum8, .ro, false, 0, .any⟩,
  ⟨0x5800, 16, 28, 0x02, 0x02, .enum8, .ro, false, 0, .any⟩,
  ⟨0x5801, 16, 28, 0x00, 0x00, .bool, .ps, true, 1, .any⟩,
  ⟨0x5802, 16, 28, 0x00, 0x00, .enum8, .ps, true, 0, .between 0 2⟩,
  ⟨0x5803, 16, 28, 0x00, 0x00, .u64, .ps, true, 0, .between 0 281474976710655⟩,
  ⟨0x5804, 16, 28, 0x01, 0x01, .bool, .ps, true, 0, .any⟩,
  ⟨0x5804, 16, 28, 0x02, 0x02, .u16, .ps, true, 1, .between 1 4094⟩,
  ⟨0x5804, 16, 28, 0x03, 0x03, .u8, .ps, true, 0, .between 0 7⟩,
  ⟨0x5805, 16, 28, 0x01, 0x01, .u32, .ps, true, 0, .any⟩,
  ⟨0x5805, 16, 28, 0x02, 0x02, .u8, .ps, true, 24, .between 1 31⟩,
  ⟨0x5806, 16, 28, 0x01, 0x01, (.blob 16), .ps, true, 0, .any⟩,
  ⟨0x5806, 16, 28, 0x02, 0x02, .u8, .ps, true, 64, .between 1 127⟩,
  ⟨0x5807, 16, 28, 0x00, 0x00, .u16, .ps, true, 9000, .between 1500 9000⟩,
  ⟨0x5808, 16, 28, 0x00, 0x00, .u16, .ps, true, 47360, .any⟩,
  ⟨0x5809, 16, 28, 0x01, 0x01, .u64, .ps, true, 0, .between 0 281474976710655⟩,
  ⟨0x5809, 16, 28, 0x02, 0x02, .u64, .ro, false, 0, .any⟩,
  ⟨0x580A, 16, 28, 0x01, 0x01, .u64, .ro, false, 0, .any⟩,
  ⟨0x580A, 16, 28, 0x02, 0x02, .u64, .ro, false, 0, .any⟩,
  ⟨0x580A, 16, 28, 0x03, 0x03, .u32, .rc, false, 0, .any⟩,
  ⟨0x580A, 16, 28, 0x04, 0x04, .u32, .rc, false, 0, .any⟩,
  ⟨0x580A, 16, 28, 0x05, 0x05, .u32, .rc, false, 0, .any⟩,
  ⟨0x580A, 16, 28, 0x06, 0x06, .u32, .rc, false, 0, .any⟩,
  ⟨0x580B, 16, 28, 0x01, 0x01, .u64, .ro, false, 0, .any⟩,
  ⟨0x580B, 16, 28, 0x02, 0x02, .u64, .ro, false, 0, .any⟩,
  ⟨0x580C, 16, 28, 0x00, 0x00, .u32, .rc, false, 0, .any⟩,
  ⟨0x6000, 8, 256, 0x01, 0x01, .enum8, .ro, false, 0, .any⟩,
  ⟨0x6000, 8, 256, 0x02, 0x02, .u8, .ro, false, 255, .any⟩,
  ⟨0x6000, 8, 256, 0x03, 0x03, .u8, .wo, false, 0, .any⟩,
  ⟨0x6000, 8, 256, 0x04, 0x04, .u16, .ro, false, 0, .any⟩,
  ⟨0x6001, 8, 256, 0x01, 0x01, .bool, .sh, false, 0, .any⟩,
  ⟨0x6001, 8, 256, 0x02, 0x02, .enum8, .sh, false, 0, .between 0 1⟩,
  ⟨0x6001, 8, 256, 0x03, 0x03, .enum8, .sh, false, 0, .between 0 8⟩,
  ⟨0x6001, 8, 256, 0x04, 0x04, .u8, .sh, false, 0, .any⟩,
  ⟨0x6001, 8, 256, 0x05, 0x05, .u8, .sh, false, 255, .upToOr 6 255⟩,
  ⟨0x6001, 8, 256, 0x06, 0x06, .u32, .sh, false, 16384, .between 64 1048576⟩,
  ⟨0x6001, 8, 256, 0x07, 0x07, .bool, .sh, false, 0, .any⟩,
  ⟨0x6001, 8, 256, 0x08, 0x08, .u64, .sh, false, 0, .any⟩,
  ⟨0x6002, 8, 256, 0x01, 0x01, .u32, .sh, false, 0, .between 0 268435455⟩,
  ⟨0x6002, 8, 256, 0x02, 0x02, .enum8, .sh, false, 1, .between 1 4⟩,
  ⟨0x6002, 8, 256, 0x03, 0x03, .bool, .sh, false, 0, .any⟩]

/-- Objects of spec file 11, part 1. -/
def flowRows1 : List Row := [
  ⟨0x6002, 8, 256, 0x04, 0x04, .u16, .sh, false, 247, .any⟩,
  ⟨0x6003, 8, 256, 0x01, 0x01, (.blob 16), .sh, false, 0, .any⟩,
  ⟨0x6003, 8, 256, 0x02, 0x02, .u16, .sh, false, 47361, .any⟩,
  ⟨0x6003, 8, 256, 0x03, 0x03, .u8, .sh, false, 1, .any⟩,
  ⟨0x6004, 8, 256, 0x01, 0x01, .u8, .sh, false, 20, .between 12 24⟩,
  ⟨0x6004, 8, 256, 0x02, 0x02, .u32, .sh, false, 1000, .between 10 100000⟩,
  ⟨0x6004, 8, 256, 0x03, 0x03, .u32, .sh, false, 500, .between 50 100000⟩,
  ⟨0x6004, 8, 256, 0x04, 0x04, .u8, .sh, false, 8, .between 1 255⟩,
  ⟨0x6004, 8, 256, 0x05, 0x05, .u32, .sh, false, 10000, .between 1000 1000000⟩,
  ⟨0x6004, 8, 256, 0x06, 0x06, .u8, .sh, false, 8, .between 1 64⟩,
  ⟨0x6005, 8, 256, 0x01, 0x01, .u64, .ro, false, 0, .any⟩,
  ⟨0x6005, 8, 256, 0x02, 0x02, .u64, .ro, false, 0, .any⟩,
  ⟨0x6005, 8, 256, 0x03, 0x03, .u32, .ro, false, 0, .any⟩,
  ⟨0x6005, 8, 256, 0x04, 0x04, .u8, .ro, false, 1, .any⟩,
  ⟨0x6006, 8, 256, 0x01, 0x01, .u64, .ro, false, 0, .any⟩,
  ⟨0x6006, 8, 256, 0x02, 0x02, .u64, .ro, false, 0, .any⟩,
  ⟨0x6006, 8, 256, 0x03, 0x03, .u32, .rc, false, 0, .any⟩,
  ⟨0x6006, 8, 256, 0x04, 0x04, .u32, .rc, false, 0, .any⟩,
  ⟨0x6006, 8, 256, 0x05, 0x05, .u64, .ro, false, 0, .any⟩,
  ⟨0x6006, 8, 256, 0x06, 0x06, .u32, .rc, false, 0, .any⟩,
  ⟨0x6007, 8, 256, 0x01, 0x01, .u32, .ro, false, 0, .any⟩,
  ⟨0x6007, 8, 256, 0x02, 0x02, .u64, .ro, false, 0, .any⟩,
  ⟨0x6007, 8, 256, 0x03, 0x03, .u64, .ro, false, 0, .any⟩,
  ⟨0x59C0, 1, 1, 0x01, 0x01, .u8, .ro, false, 1, .any⟩,
  ⟨0x59C0, 1, 1, 0x02, 0x02, .u8, .ro, false, 1, .any⟩,
  ⟨0x59C1, 1, 1, 0x00, 0x00, .u8, .ro, false, 1, .any⟩,
  ⟨0x59C2, 1, 1, 0x00, 0x00, .u16, .ro, false, 249, .any⟩,
  ⟨0x59C3, 1, 1, 0x00, 0x00, .u32, .rc, false, 0, .any⟩]

/-- Every object of spec file 11. -/
def flowRows : List Row := flowRows0 ++ flowRows1

/-- Objects of spec file 12, part 0. -/
def scanRows0 : List Row := [
  ⟨0x6800, 1, 1, 0x00, 0x00, .enum8, .ro, false, 0, .any⟩,
  ⟨0x6801, 1, 1, 0x00, 0x00, .bool, .sh, true, 0, .any⟩,
  ⟨0x6802, 1, 1, 0x00, 0x00, .enum8, .sh, true, 0, .between 0 1⟩,
  ⟨0x6803, 1, 1, 0x00, 0x00, .u16, .sh, true, 2500, .between 80 2500⟩,
  ⟨0x6804, 1, 1, 0x01, 0x01, .u16, .sh, true, 2560, .any⟩,
  ⟨0x6804, 1, 1, 0x02, 0x02, .u16, .sh, true, 48, .any⟩,
  ⟨0x6804, 1, 1, 0x03, 0x03, .u16, .sh, true, 32, .any⟩,
  ⟨0x6804, 1, 1, 0x04, 0x04, .u16, .sh, true, 80, .any⟩,
  ⟨0x6805, 1, 1, 0x01, 0x01, .u16, .sh, true, 1600, .any⟩,
  ⟨0x6805, 1, 1, 0x02, 0x02, .u16, .sh, true, 3, .any⟩,
  ⟨0x6805, 1, 1, 0x03, 0x03, .u16, .sh, true, 6, .any⟩,
  ⟨0x6805, 1, 1, 0x04, 0x04, .u16, .sh, true, 37, .any⟩,
  ⟨0x6806, 1, 1, 0x00, 0x00, .u32, .sh, true, 268627200, .any⟩,
  ⟨0x6807, 1, 1, 0x01, 0x01, .u32, .sh, true, 60000, .between 1000 120000⟩,
  ⟨0x6807, 1, 1, 0x02, 0x02, .u32, .ro, false, 0, .any⟩,
  ⟨0x6808, 1, 1, 0x00, 0x00, .u32, .sh, true, 100000, .any⟩,
  ⟨0x6809, 1, 1, 0x00, 0x00, .u8, .sh, true, 16, .between 4 48⟩,
  ⟨0x680A, 1, 1, 0x00, 0x00, .u32, .ro, false, 0, .any⟩,
  ⟨0x680B, 1, 1, 0x00, 0x00, .u32, .sh, true, 0, .between 0 16777215⟩,
  ⟨0x680C, 1, 1, 0x01, 0x01, .u64, .ro, false, 0, .any⟩,
  ⟨0x680C, 1, 1, 0x02, 0x02, .u64, .ro, false, 0, .any⟩,
  ⟨0x680C, 1, 1, 0x03, 0x03, .u64, .ro, false, 0, .any⟩,
  ⟨0x680D, 1, 1, 0x01, 0x01, .u32, .rc, false, 0, .any⟩,
  ⟨0x680D, 1, 1, 0x02, 0x02, .u32, .rc, false, 0, .any⟩,
  ⟨0x680D, 1, 1, 0x03, 0x03, .u32, .rc, false, 0, .any⟩,
  ⟨0x680E, 1, 1, 0x01, 0x01, .u32, .ro, false, 0, .any⟩,
  ⟨0x680E, 1, 1, 0x02, 0x02, .u64, .ro, false, 0, .any⟩,
  ⟨0x680E, 1, 1, 0x03, 0x03, .u32, .rc, false, 0, .any⟩,
  ⟨0x680E, 1, 1, 0x04, 0x04, .u64, .ro, false, 0, .any⟩,
  ⟨0x6820, 1, 1, 0x01, 0x04, .u16, .sh, false, 65535, .any⟩,
  ⟨0x6821, 1, 1, 0x01, 0x04, .u32, .sh, false, 4294967295, .any⟩,
  ⟨0x6822, 1, 1, 0x01, 0x01, .logp36, .sh, false, 0, .any⟩,
  ⟨0x6822, 1, 1, 0x02, 0x02, .logp36, .sh, false, 6553600, .any⟩,
  ⟨0x6840, 16, 4, 0x01, 0x01, .enum8, .ro, false, 0, .any⟩,
  ⟨0x6840, 16, 4, 0x02, 0x02, .u8, .ro, false, 255, .any⟩,
  ⟨0x6841, 16, 4, 0x00, 0x00, .u8, .wo, false, 0, .any⟩,
  ⟨0x6842, 16, 4, 0x00, 0x00, .bool, .sh, false, 0, .any⟩,
  ⟨0x6843, 16, 4, 0x01, 0x01, .u16, .sh, false, 0, .any⟩,
  ⟨0x6843, 16, 4, 0x02, 0x02, .u16, .sh, false, 0, .any⟩,
  ⟨0x6843, 16, 4, 0x03, 0x03, .u16, .sh, false, 2560, .any⟩]

/-- Objects of spec file 12, part 1. -/
def scanRows1 : List Row := [
  ⟨0x6843, 16, 4, 0x04, 0x04, .u16, .sh, false, 1600, .any⟩,
  ⟨0x6843, 16, 4, 0x05, 0x05, .u8, .sh, false, 255, .any⟩,
  ⟨0x6844, 16, 1, 0x00, 0x00, .enum8, .sh, false, 0, .between 0 1⟩,
  ⟨0x6864, 16, 2, 0x00, 0x00, .enum8, .sh, false, 0, .between 0 1⟩,
  ⟨0x6845, 16, 1, 0x01, 0x01, .u8, .sh, false, 0, .zeroOr 12 24⟩,
  ⟨0x6865, 16, 2, 0x01, 0x01, .u8, .sh, false, 0, .zeroOr 12 24⟩,
  ⟨0x6845, 16, 1, 0x02, 0x02, .u36, .ro, false, 0, .any⟩,
  ⟨0x6865, 16, 2, 0x02, 0x02, .u36, .ro, false, 0, .any⟩,
  ⟨0x6846, 16, 1, 0x00, 0x00, .u36, .sh, false, 0, .any⟩,
  ⟨0x6866, 16, 2, 0x00, 0x00, .u36, .sh, false, 0, .any⟩,
  ⟨0x6847, 16, 1, 0x00, 0x00, .u32, .sh, false, 2560, .any⟩,
  ⟨0x6867, 16, 2, 0x00, 0x00, .u32, .sh, false, 2560, .any⟩,
  ⟨0x6848, 16, 4, 0x00, 0x00, .u64, .sh, false, 0, .any⟩,
  ⟨0x6849, 16, 1, 0x01, 0x01, .u8, .sh, false, 255, .upToOr 7 255⟩,
  ⟨0x6849, 16, 1, 0x02, 0x02, .u16, .sh, false, 1, .any⟩,
  ⟨0x6849, 16, 1, 0x03, 0x03, .u16, .sh, false, 3073, .any⟩,
  ⟨0x684A, 16, 4, 0x00, 0x00, .u64, .ro, false, 0, .any⟩,
  ⟨0x6820, 1, 1, 0x00, 0x00, .u8, .ro, false, 4, .any⟩,
  ⟨0x6821, 1, 1, 0x00, 0x00, .u8, .ro, false, 4, .any⟩]

/-- Every object of spec file 12. -/
def scanRows : List Row := scanRows0 ++ scanRows1

/-- Objects of spec file 13, part 0. -/
def clkRows0 : List Row := [
  ⟨0x6900, 1, 1, 0x00, 0x00, .enum8, .ro, false, 0, .any⟩,
  ⟨0x6901, 1, 1, 0x01, 0x01, .enum8, .ps, true, 2, .between 0 2⟩,
  ⟨0x6901, 1, 1, 0x02, 0x02, .enum8, .ro, false, 3, .any⟩,
  ⟨0x6901, 1, 1, 0x03, 0x03, .u32, .ps, true, 0, .any⟩,
  ⟨0x6902, 1, 1, 0x01, 0x01, .u32, .ps, true, 100000000, .between 10000000 1000000000⟩,
  ⟨0x6902, 1, 1, 0x02, 0x02, .u32, .ps, true, 100000000, .between 10000000 1000000000⟩,
  ⟨0x6903, 1, 1, 0x01, 0x02, .enum8, .ro, false, 0, .any⟩,
  ⟨0x6903, 1, 1, 0x03, 0x04, .i36, .ro, false, 0, .any⟩,
  ⟨0x6903, 1, 1, 0x05, 0x06, .u32, .rc, false, 0, .any⟩,
  ⟨0x6904, 1, 1, 0x01, 0x01, .bool, .ps, true, 1, .any⟩,
  ⟨0x6904, 1, 1, 0x02, 0x02, .u32, .ps, true, 1515847681, .any⟩,
  ⟨0x6904, 1, 1, 0x03, 0x03, .u16, .ro, false, 320, .any⟩,
  ⟨0x6904, 1, 1, 0x04, 0x04, .u32, .ro, false, 0, .any⟩,
  ⟨0x6904, 1, 1, 0x05, 0x05, .u32, .ro, false, 1, .any⟩,
  ⟨0x6905, 1, 1, 0x01, 0x01, .enum8, .rw, true, 0, .between 0 1⟩,
  ⟨0x6905, 1, 1, 0x02, 0x02, .u32, .rw, true, 100000000, .between 0 4294967295⟩,
  ⟨0x6905, 1, 1, 0x03, 0x03, .u64, .rw, true, 0, .any⟩,
  ⟨0x6905, 1, 1, 0x04, 0x04, .u8, .wo, true, 0, .any⟩,
  ⟨0x6905, 1, 1, 0x05, 0x05, .enum8, .ro, false, 0, .any⟩,
  ⟨0x6906, 1, 1, 0x01, 0x01, .u8, .ro, false, 0, .any⟩,
  ⟨0x6906, 1, 1, 0x02, 0x02, .u32, .rc, false, 0, .any⟩,
  ⟨0x6906, 1, 1, 0x03, 0x03, .u64, .ro, false, 0, .any⟩,
  ⟨0x6906, 1, 1, 0x04, 0x04, .u64, .ro, false, 0, .any⟩,
  ⟨0x6907, 1, 1, 0x01, 0x01, .u32, .rc, false, 0, .any⟩,
  ⟨0x6907, 1, 1, 0x02, 0x02, .u64, .ro, false, 0, .any⟩,
  ⟨0x6907, 1, 1, 0x03, 0x03, .u32, .ps, true, 2000, .between 100 20000⟩,
  ⟨0x6907, 1, 1, 0x04, 0x04, .u32, .rc, false, 0, .any⟩,
  ⟨0x6908, 1, 1, 0x01, 0x01, .u16, .ps, true, 0, .zeroOr 32 3200⟩,
  ⟨0x6908, 1, 1, 0x02, 0x02, .u32, .ro, false, 0, .any⟩,
  ⟨0x6909, 1, 1, 0x00, 0x00, .u8, .wo, true, 0, .any⟩,
  ⟨0x690A, 1, 1, 0x01, 0x01, .u32, .ro, false, 0, .any⟩,
  ⟨0x690A, 1, 1, 0x02, 0x02, .enum8, .ro, false, 0, .any⟩]

/-- Every object of spec file 13. -/
def clkRows : List Row := clkRows0

/-- Objects of spec file 14, part 0. -/
def plmbRows0 : List Row := [
  ⟨0x6B00, 1, 1, 0x01, 0x01, .enum8, .ro, false, 0, .any⟩,
  ⟨0x6B00, 1, 1, 0x02, 0x02, .u8, .ro, false, 255, .any⟩,
  ⟨0x6B01, 1, 1, 0x00, 0x00, .u8, .wo, false, 0, .any⟩,
  ⟨0x6B02, 1, 1, 0x00, 0x00, .bool, .sh, false, 0, .any⟩,
  ⟨0x6B03, 1, 1, 0x00, 0x00, .enum8, .sh, false, 0, .between 0 1⟩,
  ⟨0x6B04, 1, 1, 0x01, 0x01, .enum8, .sh, false, 0, .between 0 10⟩,
  ⟨0x6B04, 1, 1, 0x02, 0x02, .enum8, .sh, false, 0, .between 0 1⟩,
  ⟨0x6B04, 1, 1, 0x03, 0x03, .u64, .sh, false, 0, .any⟩,
  ⟨0x6B04, 1, 1, 0x04, 0x04, .u64, .sh, false, 0, .zeroOr 64 18446744073709551615⟩,
  ⟨0x6B05, 1, 1, 0x01, 0x01, .u16, .sh, false, 0, .bits 0x3FE⟩,
  ⟨0x6B05, 1, 1, 0x02, 0x02, .enum8, .sh, false, 0, .between 0 1⟩,
  ⟨0x6B05, 1, 1, 0x03, 0x03, .u8, .sh, false, 64, .between 1 64⟩,
  ⟨0x6B06, 1, 1, 0x00, 0x00, .u64, .sh, false, 320000, .between 64 32000000000000⟩,
  ⟨0x6B07, 1, 1, 0x01, 0x05, .u36, .ps, true, 0, .between 0 10000000⟩,
  ⟨0x6B08, 1, 1, 0x01, 0x01, .u32, .ro, false, 0, .any⟩,
  ⟨0x6B08, 1, 1, 0x02, 0x02, .u64, .ro, false, 0, .any⟩,
  ⟨0x6B08, 1, 1, 0x03, 0x03, .u16, .ro, false, 0, .any⟩,
  ⟨0x6B08, 1, 1, 0x04, 0x04, .u8, .ro, false, 0, .any⟩,
  ⟨0x6B08, 1, 1, 0x05, 0x05, .u8, .ro, false, 0, .any⟩,
  ⟨0x6B08, 1, 1, 0x06, 0x06, .u16, .ro, false, 0, .any⟩,
  ⟨0x6B09, 1, 1, 0x01, 0x40, .i64, .ro, false, 0, .any⟩,
  ⟨0x6B0A, 1, 1, 0x01, 0x40, .u16, .ro, false, 0, .any⟩,
  ⟨0x6B0B, 1, 1, 0x00, 0x00, .u8, .wo, false, 0, .any⟩,
  ⟨0x6B0C, 1, 1, 0x01, 0x01, .u32, .rc, false, 0, .any⟩,
  ⟨0x6B0C, 1, 1, 0x02, 0x02, .u32, .rc, false, 0, .any⟩,
  ⟨0x6B0C, 1, 1, 0x03, 0x03, .u32, .rc, false, 0, .any⟩,
  ⟨0x6B0C, 1, 1, 0x04, 0x04, .u32, .rc, false, 0, .any⟩,
  ⟨0x6B0C, 1, 1, 0x05, 0x05, .u32, .rc, false, 0, .any⟩,
  ⟨0x6B0D, 1, 1, 0x00, 0x00, .u64, .ro, false, 0, .any⟩,
  ⟨0x6B20, 1, 1, 0x00, 0x00, .bool, .sh, false, 0, .any⟩,
  ⟨0x6B21, 1, 1, 0x00, 0x00, .u8, .sh, false, 1, .between 1 64⟩,
  ⟨0x6B22, 1, 1, 0x00, 0x00, .u64, .sh, false, 32000000, .between 32000 32000000000000⟩,
  ⟨0x6B23, 1, 1, 0x00, 0x00, .u32, .sh, false, 1, .between 1 1048576⟩,
  ⟨0x6B24, 1, 1, 0x00, 0x00, .u32, .sh, false, 100, .between 1 1000000⟩,
  ⟨0x6B25, 1, 1, 0x00, 0x00, .enum8, .ro, false, 0, .any⟩,
  ⟨0x6B26, 1, 1, 0x01, 0x01, .u64, .ro, false, 0, .any⟩,
  ⟨0x6B26, 1, 1, 0x02, 0x02, .u64, .ro, false, 0, .any⟩,
  ⟨0x6B26, 1, 1, 0x03, 0x03, .u64, .ro, false, 0, .any⟩,
  ⟨0x6B26, 1, 1, 0x04, 0x04, .u64, .ro, false, 0, .any⟩,
  ⟨0x6B26, 1, 1, 0x05, 0x05, .u64, .ro, false, 0, .any⟩]

/-- Objects of spec file 14, part 1. -/
def plmbRows1 : List Row := [
  ⟨0x6B26, 1, 1, 0x06, 0x06, .u8, .ro, false, 0, .any⟩,
  ⟨0x6B26, 1, 1, 0x07, 0x07, .u32, .ro, false, 0, .any⟩,
  ⟨0x6C00, 1, 1, 0x00, 0x00, .enum8, .ps, true, 0, .between 0 3⟩,
  ⟨0x6C01, 1, 1, 0x00, 0x00, .enum8, .ro, false, 0, .any⟩,
  ⟨0x6C02, 1, 1, 0x00, 0x00, .time80, .ro, false, 0, .any⟩,
  ⟨0x6C03, 1, 1, 0x00, 0x00, .u64, .wo, true, 0, .any⟩,
  ⟨0x6C04, 1, 1, 0x00, 0x00, .i36, .rw, true, 37, .any⟩,
  ⟨0x6C05, 1, 1, 0x01, 0x01, .u32, .ps, true, 1000, .between 10 100000000⟩,
  ⟨0x6C05, 1, 1, 0x02, 0x02, .u36, .ps, true, 100000000, .any⟩,
  ⟨0x6C05, 1, 1, 0x03, 0x03, .u32, .ps, true, 500, .any⟩,
  ⟨0x6C06, 1, 1, 0x01, 0x01, .u32, .rc, false, 0, .any⟩,
  ⟨0x6C06, 1, 1, 0x02, 0x02, .u32, .rc, false, 0, .any⟩,
  ⟨0x6C06, 1, 1, 0x03, 0x03, .u32, .rc, false, 0, .any⟩,
  ⟨0x6C07, 1, 1, 0x00, 0x00, .u36, .ro, false, 68719476735, .any⟩,
  ⟨0x6C08, 1, 1, 0x01, 0x01, .bool, .rw, true, 0, .any⟩,
  ⟨0x6C08, 1, 1, 0x02, 0x02, .u64, .rw, true, 3200000000, .between 64 16000000000⟩,
  ⟨0x6C09, 1, 1, 0x01, 0x01, .u64, .rw, false, 0, .any⟩,
  ⟨0x6C09, 1, 1, 0x02, 0x02, .time80, .ro, false, 0, .any⟩,
  ⟨0x6C0A, 1, 1, 0x01, 0x01, .u8, .ps, true, 0, .between 0 127⟩,
  ⟨0x6C0A, 1, 1, 0x02, 0x02, .enum8, .ps, true, 0, .between 0 2⟩,
  ⟨0x6B07, 1, 1, 0x00, 0x00, .u8, .ro, false, 5, .any⟩,
  ⟨0x6B09, 1, 1, 0x00, 0x00, .u8, .ro, false, 64, .any⟩,
  ⟨0x6B0A, 1, 1, 0x00, 0x00, .u8, .ro, false, 64, .any⟩]

/-- Every object of spec file 14. -/
def plmbRows : List Row := plmbRows0 ++ plmbRows1

/-- Objects of spec file 15, part 0. -/
def devRows0 : List Row := [
  ⟨0x1000, 1, 1, 0x01, 0x01, (.blob 16), .ro, false, 89491025582596945379728024603637186560, .any⟩,
  ⟨0x1000, 1, 1, 0x02, 0x02, (.blob 16), .ro, false, 0, .any⟩,
  ⟨0x1000, 1, 1, 0x03, 0x03, (.blob 16), .ro, false, 0, .any⟩,
  ⟨0x1000, 1, 1, 0x04, 0x04, .u16, .ro, false, 0, .any⟩,
  ⟨0x1001, 1, 1, 0x01, 0x01, .u32, .ro, false, 0, .any⟩,
  ⟨0x1001, 1, 1, 0x02, 0x02, .u32, .ro, false, 0, .any⟩,
  ⟨0x1001, 1, 1, 0x03, 0x03, .u8, .ro, false, 1, .any⟩,
  ⟨0x1001, 1, 1, 0x04, 0x04, .u8, .ro, false, 1, .any⟩,
  ⟨0x1002, 1, 1, 0x01, 0x01, .u8, .ro, false, 0, .any⟩,
  ⟨0x1002, 1, 1, 0x02, 0x02, .u8, .ro, false, 0, .any⟩,
  ⟨0x1003, 1, 1, 0x00, 0x00, .u32, .ps, true, 30, .between 1 3600⟩,
  ⟨0x1010, 1, 8, 0x01, 0x01, .enum8, .ro, false, 0, .any⟩,
  ⟨0x1010, 1, 8, 0x02, 0x02, .enum8, .ro, false, 0, .any⟩,
  ⟨0x1010, 1, 8, 0x03, 0x03, .u64, .ro, false, 0, .any⟩,
  ⟨0x1010, 1, 8, 0x04, 0x04, .u8, .ro, false, 0, .any⟩,
  ⟨0x1010, 1, 8, 0x05, 0x05, .u8, .ro, false, 255, .any⟩,
  ⟨0x1010, 1, 8, 0x06, 0x06, .u32, .rc, false, 0, .any⟩,
  ⟨0x1010, 1, 8, 0x07, 0x07, .u32, .rc, false, 0, .any⟩,
  ⟨0x1010, 1, 8, 0x08, 0x08, .u8, .wo, true, 0, .any⟩,
  ⟨0x1020, 1, 8, 0x01, 0x01, .u64, .ps, true, 10000000000000, .any⟩,
  ⟨0x1020, 1, 8, 0x02, 0x02, .u64, .ps, true, 256000000000, .any⟩,
  ⟨0x1020, 1, 8, 0x03, 0x03, .u64, .ps, true, 2300000000000, .any⟩,
  ⟨0x1020, 1, 8, 0x04, 0x04, .u64, .ps, true, 2660000000000, .any⟩,
  ⟨0x1020, 1, 8, 0x05, 0x05, .u64, .ps, true, 134217728, .any⟩,
  ⟨0x1020, 1, 8, 0x06, 0x06, .u8, .ps, true, 32, .any⟩,
  ⟨0x1020, 1, 8, 0x07, 0x07, .u16, .ps, true, 249, .any⟩,
  ⟨0x1020, 1, 8, 0x08, 0x08, .u8, .ps, true, 64, .any⟩,
  ⟨0x2000, 1, 1, 0x00, 0x00, .enum8, .ro, false, 0, .any⟩,
  ⟨0x2001, 1, 1, 0x01, 0x01, .u32, .rc, false, 0, .any⟩,
  ⟨0x2001, 1, 1, 0x02, 0x02, .u16, .ro, false, 0, .any⟩,
  ⟨0x2010, 1, 1, 0x01, 0x01, .u64, .ro, false, 0, .any⟩,
  ⟨0x2010, 1, 1, 0x02, 0x02, .u64, .rw, false, 0, .any⟩,
  ⟨0x2010, 1, 1, 0x03, 0x03, .u64, .ro, false, 0, .any⟩,
  ⟨0x2011, 1, 1, 0x01, 0x08, .u36, .ro, false, 0, .any⟩,
  ⟨0x2020, 1, 1, 0x00, 0x00, .u8, .wo, false, 0, .any⟩,
  ⟨0x2021, 1, 1, 0x00, 0x00, .u8, .rw, false, 7, .between 0 7⟩,
  ⟨0x2022, 1, 1, 0x00, 0x00, .u32, .rc, false, 0, .any⟩,
  ⟨0x2030, 1, 1, 0x01, 0x01, .u8, .ro, false, 0, .any⟩,
  ⟨0x2030, 1, 1, 0x02, 0x02, .u32, .rc, false, 0, .any⟩,
  ⟨0x2030, 1, 1, 0x03, 0x03, .u32, .rc, false, 0, .any⟩]

/-- Objects of spec file 15, part 1. -/
def devRows1 : List Row := [
  ⟨0x2100, 1, 1, 0x00, 0x00, .u8, .wo, false, 0, .any⟩,
  ⟨0x2101, 1, 1, 0x00, 0x00, .u64, .rw, false, 0, .any⟩,
  ⟨0x2102, 1, 1, 0x00, 0x00, .u16, .rw, false, 0, .bits 0x7FF⟩,
  ⟨0x2103, 1, 1, 0x01, 0x01, .enum8, .ro, false, 0, .any⟩,
  ⟨0x2103, 1, 1, 0x02, 0x02, .enum8, .ro, false, 0, .any⟩,
  ⟨0x2103, 1, 1, 0x03, 0x03, .u32, .ro, false, 0, .any⟩,
  ⟨0x2103, 1, 1, 0x04, 0x04, .u32, .ro, false, 0, .any⟩,
  ⟨0x2103, 1, 1, 0x05, 0x05, .u8, .ro, false, 0, .any⟩,
  ⟨0x2104, 1, 1, 0x01, 0x01, .u64, .ro, false, 0, .any⟩,
  ⟨0x2104, 1, 1, 0x02, 0x02, .u64, .ro, false, 0, .any⟩,
  ⟨0x2104, 1, 1, 0x03, 0x03, .u64, .ro, false, 0, .any⟩,
  ⟨0x2104, 1, 1, 0x04, 0x04, .u64, .ro, false, 0, .any⟩,
  ⟨0x2104, 1, 1, 0x05, 0x05, .u16, .ro, false, 0, .any⟩,
  ⟨0x2104, 1, 1, 0x06, 0x06, .u32, .rc, false, 0, .any⟩,
  ⟨0x2105, 1, 1, 0x00, 0x00, .u16, .ro, false, 0, .any⟩,
  ⟨0x2011, 1, 1, 0x00, 0x00, .u8, .ro, false, 8, .any⟩]

/-- Every object of spec file 15. -/
def devRows : List Row := devRows0 ++ devRows1

/-- Objects of spec file 16, part 0. -/
def secRows0 : List Row := [
  ⟨0x7200, 1, 1, 0x01, 0x01, .enum8, .ro, false, 0, .any⟩,
  ⟨0x7200, 1, 1, 0x02, 0x02, .bool, .ro, false, 0, .any⟩,
  ⟨0x7201, 1, 1, 0x00, 0x00, .u8, .wo, true, 0, .any⟩,
  ⟨0x7202, 1, 1, 0x01, 0x01, (.blob 97), .ro, false, 0, .any⟩,
  ⟨0x7202, 1, 1, 0x02, 0x02, .u32, .ro, false, 0, .any⟩,
  ⟨0x7203, 1, 1, 0x01, 0x01, .enum8, .rw, false, 0, .between 0 9⟩,
  ⟨0x7203, 1, 1, 0x02, 0x02, .u16, .rw, false, 0, .multUpTo 256 65535⟩,
  ⟨0x7203, 1, 1, 0x03, 0x03, .u16, .ro, false, 0, .any⟩,
  ⟨0x7204, 1, 1, 0x01, 0x40, .u36, .ro, false, 0, .any⟩,
  ⟨0x7210, 1, 1, 0x00, 0x00, .u64, .rw, true, 0, .any⟩,
  ⟨0x7210, 1, 1, 0x01, 0x01, .u16, .rw, true, 0, .between 1 2048⟩,
  ⟨0x7211, 1, 1, 0x00, 0x00, .u32, .wo, true, 0, .any⟩,
  ⟨0x7212, 1, 1, 0x01, 0x08, .u8, .ro, false, 255, .any⟩,
  ⟨0x7213, 1, 1, 0x00, 0x00, (.blob 48), .ro, false, 0, .any⟩,
  ⟨0x7220, 1, 1, 0x01, 0x01, .u32, .ro, false, 0, .any⟩,
  ⟨0x7220, 1, 1, 0x02, 0x02, .u32, .ro, false, 0, .any⟩,
  ⟨0x7230, 1, 1, 0x00, 0x00, (.blob 48), .rw, false, 0, .any⟩,
  ⟨0x7231, 1, 1, 0x00, 0x00, .u8, .wo, false, 0, .any⟩,
  ⟨0x7232, 1, 1, 0x00, 0x00, .enum8, .ro, false, 0, .any⟩,
  ⟨0x7233, 1, 1, 0x01, 0x56, .u36, .ro, false, 0, .any⟩,
  ⟨0x7240, 1, 1, 0x01, 0x01, .u32, .rc, false, 0, .any⟩,
  ⟨0x7240, 1, 1, 0x02, 0x02, .u32, .rc, false, 0, .any⟩,
  ⟨0x7240, 1, 1, 0x03, 0x03, .u32, .rc, false, 0, .any⟩,
  ⟨0x7240, 1, 1, 0x04, 0x04, .u32, .rc, false, 0, .any⟩,
  ⟨0x7300, 1, 1, 0x01, 0xF9, .bool, .rw, false, 0, .any⟩,
  ⟨0x7301, 1, 1, 0x01, 0xF9, .u32, .rw, false, 65536, .between 1 1048576⟩,
  ⟨0x7302, 1, 1, 0x01, 0xF9, .u32, .rw, false, 1000, .between 1 10000⟩,
  ⟨0x7303, 1, 1, 0x01, 0xF9, .u64, .ro, false, 0, .any⟩,
  ⟨0x7304, 1, 1, 0x01, 0xF9, .u32, .rc, false, 0, .any⟩,
  ⟨0x7204, 1, 1, 0x00, 0x00, .u8, .ro, false, 64, .any⟩,
  ⟨0x7212, 1, 1, 0x00, 0x00, .u8, .ro, false, 8, .any⟩,
  ⟨0x7233, 1, 1, 0x00, 0x00, .u8, .ro, false, 86, .any⟩,
  ⟨0x7300, 1, 1, 0x00, 0x00, .u8, .ro, false, 249, .any⟩,
  ⟨0x7301, 1, 1, 0x00, 0x00, .u8, .ro, false, 249, .any⟩,
  ⟨0x7302, 1, 1, 0x00, 0x00, .u8, .ro, false, 249, .any⟩,
  ⟨0x7303, 1, 1, 0x00, 0x00, .u8, .ro, false, 249, .any⟩,
  ⟨0x7304, 1, 1, 0x00, 0x00, .u8, .ro, false, 249, .any⟩]

/-- Every object of spec file 16. -/
def secRows : List Row := secRows0

/-- Objects of spec file 17, part 0. -/
def twinRows0 : List Row := [
  ⟨0x7100, 1, 1, 0x01, 0x01, .enum8, .ro, false, 0, .any⟩,
  ⟨0x7100, 1, 1, 0x02, 0x02, .enum8, .ro, false, 0, .any⟩,
  ⟨0x7100, 1, 1, 0x03, 0x03, .enum8, .ro, false, 0, .any⟩,
  ⟨0x7101, 1, 1, 0x00, 0x00, .bool, .ps, true, 0, .any⟩,
  ⟨0x7102, 1, 1, 0x00, 0x00, (.blob 16), .ps, true, 0, .any⟩,
  ⟨0x7103, 1, 1, 0x01, 0x01, .enum8, .ps, true, 0, .between 0 2⟩,
  ⟨0x7103, 1, 1, 0x02, 0x02, .bool, .ps, true, 0, .any⟩,
  ⟨0x7104, 1, 1, 0x00, 0x00, .u8, .wo, true, 0, .any⟩,
  ⟨0x7105, 1, 1, 0x00, 0x00, .u64, .rw, true, 0, .any⟩,
  ⟨0x7106, 1, 1, 0x01, 0x01, .u8, .ro, false, 0, .any⟩,
  ⟨0x7106, 1, 1, 0x02, 0x02, .u8, .ro, false, 0, .any⟩,
  ⟨0x7106, 1, 1, 0x03, 0x03, .u32, .ro, false, 0, .any⟩,
  ⟨0x7106, 1, 1, 0x04, 0x04, .enum8, .ro, false, 0, .any⟩,
  ⟨0x7106, 1, 1, 0x05, 0x05, .bool, .ro, false, 0, .any⟩,
  ⟨0x7107, 1, 1, 0x01, 0x01, .u32, .ro, false, 0, .any⟩,
  ⟨0x7107, 1, 1, 0x02, 0x02, .u32, .ro, false, 0, .any⟩,
  ⟨0x7107, 1, 1, 0x03, 0x03, .u64, .ro, false, 0, .any⟩,
  ⟨0x7108, 1, 1, 0x01, 0x01, .u32, .rc, false, 0, .any⟩,
  ⟨0x7108, 1, 1, 0x02, 0x02, .u64, .ro, false, 0, .any⟩,
  ⟨0x7108, 1, 1, 0x03, 0x03, .enum8, .ro, false, 0, .any⟩,
  ⟨0x7108, 1, 1, 0x04, 0x04, .u32, .rc, false, 0, .any⟩,
  ⟨0x7109, 1, 1, 0x01, 0x01, .u32, .rc, false, 0, .any⟩,
  ⟨0x7109, 1, 1, 0x02, 0x02, .u32, .rc, false, 0, .any⟩,
  ⟨0x710A, 1, 1, 0x01, 0xF9, .bool, .ro, false, 0, .any⟩,
  ⟨0x710B, 1, 1, 0x00, 0x00, .enum8, .ro, false, 0, .any⟩,
  ⟨0x710A, 1, 1, 0x00, 0x00, .u8, .ro, false, 249, .any⟩]

/-- Every object of spec file 17. -/
def twinRows : List Row := twinRows0

/-- Objects of spec file 18, part 0. -/
def updRows0 : List Row := [
  ⟨0x7400, 1, 1, 0x01, 0x01, .enum8, .ro, false, 0, .any⟩,
  ⟨0x7400, 1, 1, 0x02, 0x02, .u8, .ro, false, 255, .any⟩,
  ⟨0x7400, 1, 1, 0x03, 0x03, .u32, .ro, false, 0, .any⟩,
  ⟨0x7401, 1, 1, 0x00, 0x00, .u8, .wo, true, 0, .any⟩,
  ⟨0x7402, 1, 1, 0x00, 0x00, .u32, .rw, true, 0, .any⟩,
  ⟨0x7403, 1, 1, 0x01, 0x01, .u32, .rw, true, 0, .any⟩,
  ⟨0x7403, 1, 1, 0x02, 0x02, .u32, .ro, false, 0, .any⟩,
  ⟨0x7404, 1, 1, 0x00, 0x00, (.blob 256), .wo, true, 0, .any⟩,
  ⟨0x7405, 1, 1, 0x00, 0x00, .u8, .wo, true, 0, .any⟩,
  ⟨0x7406, 1, 1, 0x01, 0x01, .enum8, .ro, false, 0, .any⟩,
  ⟨0x7406, 1, 1, 0x02, 0x02, .u32, .ro, false, 0, .any⟩,
  ⟨0x7406, 1, 1, 0x03, 0x03, .u32, .ro, false, 0, .any⟩,
  ⟨0x7406, 1, 1, 0x04, 0x04, (.blob 48), .ro, false, 0, .any⟩,
  ⟨0x7407, 1, 1, 0x00, 0x00, .u8, .wo, true, 0, .any⟩,
  ⟨0x7408, 1, 1, 0x01, 0x01, .u16, .ro, false, 0, .any⟩,
  ⟨0x7408, 1, 1, 0x02, 0x02, .u16, .ro, false, 0, .any⟩,
  ⟨0x7408, 1, 1, 0x03, 0x03, (.blob 48), .ro, false, 0, .any⟩,
  ⟨0x7409, 1, 1, 0x00, 0x00, .u8, .wo, true, 0, .any⟩,
  ⟨0x740A, 1, 1, 0x01, 0x01, .bool, .ro, false, 0, .any⟩,
  ⟨0x740A, 1, 1, 0x02, 0x02, .u32, .ps, true, 0, .zeroOr 60 2592000⟩,
  ⟨0x740A, 1, 1, 0x03, 0x03, .u8, .ro, false, 0, .any⟩,
  ⟨0x740A, 1, 1, 0x04, 0x04, .enum8, .ro, false, 0, .any⟩,
  ⟨0x740B, 1, 1, 0x00, 0x00, .u8, .ro, false, 0, .any⟩,
  ⟨0x740B, 1, 1, 0x01, 0xFF, .u32, .ro, false, 0, .any⟩,
  ⟨0x740C, 1, 1, 0x01, 0x01, .u8, .ro, false, 1, .any⟩,
  ⟨0x740C, 1, 1, 0x02, 0x02, .u8, .ro, false, 1, .any⟩,
  ⟨0x740C, 1, 1, 0x03, 0x03, .u8, .ro, false, 1, .any⟩,
  ⟨0x740D, 1, 1, 0x01, 0x01, .u32, .ro, false, 0, .any⟩,
  ⟨0x740D, 1, 1, 0x02, 0x02, .enum8, .ro, false, 3, .any⟩,
  ⟨0x740D, 1, 1, 0x03, 0x03, .u32, .ro, false, 0, .any⟩]

/-- Every object of spec file 18. -/
def updRows : List Row := updRows0

/-- Objects of spec file 19, part 0. -/
def pwrRows0 : List Row := [
  ⟨0x7000, 1, 1, 0x00, 0x00, .enum8, .ro, false, 0, .any⟩,
  ⟨0x7001, 1, 1, 0x00, 0x00, .u8, .wo, true, 0, .any⟩,
  ⟨0x7002, 1, 1, 0x01, 0x01, .enum8, .ro, false, 0, .any⟩,
  ⟨0x7002, 1, 1, 0x02, 0x02, .enum8, .ro, false, 255, .any⟩,
  ⟨0x7002, 1, 1, 0x03, 0x03, .u8, .ro, false, 0, .any⟩,
  ⟨0x7002, 1, 1, 0x04, 0x04, .enum8, .ro, false, 0, .any⟩,
  ⟨0x7002, 1, 1, 0x05, 0x05, .u64, .ro, false, 0, .any⟩,
  ⟨0x7002, 1, 1, 0x06, 0x06, .u64, .ro, false, 0, .any⟩,
  ⟨0x7003, 1, 1, 0x00, 0x00, .u32, .rw, true, 100, .between 0 10000⟩,
  ⟨0x7004, 1, 1, 0x00, 0x00, .u32, .ps, true, 1, .lowPorts⟩,
  ⟨0x7005, 1, 1, 0x01, 0x01, .u8, .ps, true, 7, .between 0 15⟩,
  ⟨0x7005, 1, 1, 0x02, 0x02, .u64, .rw, true, 0, .any⟩,
  ⟨0x7005, 1, 1, 0x03, 0x03, .enum8, .ro, false, 0, .any⟩,
  ⟨0x7005, 1, 1, 0x04, 0x04, .u32, .rc, false, 0, .any⟩,
  ⟨0x7006, 1, 1, 0x01, 0x01, .u32, .ro, false, 0, .any⟩,
  ⟨0x7006, 1, 1, 0x02, 0x02, .u32, .ro, false, 0, .any⟩,
  ⟨0x7006, 1, 1, 0x03, 0x03, .u32, .ro, false, 0, .any⟩,
  ⟨0x7006, 1, 1, 0x04, 0x04, .u32, .ro, false, 0, .any⟩,
  ⟨0x7007, 1, 1, 0x01, 0x08, .u16, .ro, false, 0, .any⟩,
  ⟨0x7008, 1, 1, 0x01, 0x01, .i36, .ro, false, 0, .any⟩,
  ⟨0x7008, 1, 1, 0x02, 0x02, .bool, .ro, false, 0, .any⟩,
  ⟨0x7008, 1, 1, 0x03, 0x03, .u32, .rc, false, 0, .any⟩,
  ⟨0x7008, 1, 1, 0x04, 0x04, .u32, .rc, false, 0, .any⟩,
  ⟨0x7009, 1, 1, 0x01, 0x01, .u32, .rc, false, 0, .any⟩,
  ⟨0x7009, 1, 1, 0x02, 0x02, .u32, .rc, false, 0, .any⟩,
  ⟨0x7010, 8, 4, 0x00, 0x00, .bool, .rw, true, 0, .any⟩,
  ⟨0x7011, 8, 4, 0x00, 0x00, .u8, .rw, true, 0, .between 0 31⟩,
  ⟨0x7012, 8, 4, 0x00, 0x00, .u64, .rw, true, 320000000, .between 32000000 1099511627776⟩,
  ⟨0x7013, 8, 4, 0x00, 0x00, .u64, .rw, true, 0, .any⟩,
  ⟨0x7014, 8, 4, 0x00, 0x00, .u32, .rw, true, 64, .between 1 65536⟩,
  ⟨0x7015, 8, 4, 0x01, 0x01, .u64, .ro, false, 0, .any⟩,
  ⟨0x7015, 8, 4, 0x02, 0x02, .u32, .rc, false, 0, .any⟩,
  ⟨0x7015, 8, 4, 0x03, 0x03, .u32, .rc, false, 0, .any⟩,
  ⟨0x7016, 8, 4, 0x00, 0x00, .u64, .ro, false, 0, .any⟩,
  ⟨0x7007, 1, 1, 0x00, 0x00, .u8, .ro, false, 8, .any⟩]

/-- Every object of spec file 19. -/
def pwrRows : List Row := pwrRows0

/-- Objects of spec file 20, part 0. -/
def diagRows0 : List Row := [
  ⟨0x7500, 1, 1, 0x01, 0x01, .u64, .ro, false, 0, .any⟩,
  ⟨0x7500, 1, 1, 0x02, 0x02, .u32, .ro, false, 0, .any⟩,
  ⟨0x7500, 1, 1, 0x03, 0x03, .u32, .ro, false, 0, .any⟩,
  ⟨0x7501, 1, 1, 0x01, 0x01, .enum8, .ro, false, 0, .any⟩,
  ⟨0x7501, 1, 1, 0x02, 0x02, .enum8, .ro, false, 0, .any⟩,
  ⟨0x7501, 1, 1, 0x03, 0x03, .u32, .ro, false, 0, .any⟩,
  ⟨0x7501, 1, 1, 0x04, 0x04, .enum8, .ro, false, 0, .any⟩,
  ⟨0x7502, 1, 1, 0x00, 0x00, .u8, .ro, false, 16, .any⟩,
  ⟨0x7502, 1, 1, 0x01, 0x10, .i36, .ro, false, 0, .any⟩,
  ⟨0x7503, 1, 1, 0x01, 0x01, .enum8, .ro, false, 0, .any⟩,
  ⟨0x7F00, 1, 1, 0x00, 0x00, .u8, .ro, false, 0, .any⟩,
  ⟨0x7F01, 1, 1, 0x01, 0x04, .u32, .ro, false, 0, .any⟩,
  ⟨0x7F02, 1, 1, 0x00, 0x00, .u32, .ro, false, 0, .any⟩,
  ⟨0x7F03, 1, 1, 0x00, 0x00, .u8, .ro, false, 0, .any⟩,
  ⟨0x7F04, 1, 1, 0x00, 0x00, .u16, .ro, false, 0, .any⟩,
  ⟨0x7F05, 1, 1, 0x00, 0x00, .u32, .ro, false, 0, .any⟩,
  ⟨0x7F08, 1, 1, 0x00, 0x00, .u8, .wo, true, 0, .any⟩,
  ⟨0x7F09, 1, 1, 0x00, 0x00, .u8, .wo, true, 0, .any⟩,
  ⟨0x7F0A, 1, 1, 0x00, 0x00, .bool, .ro, false, 0, .any⟩,
  ⟨0x7F0B, 1, 1, 0x00, 0x00, .u32, .rc, false, 0, .any⟩,
  ⟨0x7F0C, 1, 1, 0x01, 0x01, .u32, .ro, false, 0, .any⟩,
  ⟨0x7F0C, 1, 1, 0x02, 0x02, .u64, .ro, false, 0, .any⟩,
  ⟨0x7F01, 1, 1, 0x00, 0x00, .u8, .ro, false, 4, .any⟩]

/-- Every object of spec file 20. -/
def diagRows : List Row := diagRows0

/-- The index map (Table 15.12, R356): the rows of the chapter that an index falls in. -/
def rowsAt (idx : Nat) : List Row :=
  match idx / 0x100 with
  | 0x10 => devRows | 0x20 => devRows | 0x21 => devRows
  | 0x22 => admissionRows
  | 0x30 => convRows | 0x31 => convRows | 0x32 => convRows | 0x33 => convRows
  | 0x34 => tuneRows | 0x35 => tuneRows | 0x36 => tuneRows | 0x37 => tuneRows
  | 0x38 => xfmRows | 0x39 => xfmRows | 0x3A => xfmRows | 0x3B => xfmRows
  | 0x3C => xfmRows | 0x3D => xfmRows | 0x3E => xfmRows | 0x3F => xfmRows
  | 0x40 => detRows | 0x41 => detRows | 0x42 => detRows | 0x43 => detRows
  | 0x44 => trigRows | 0x45 => trigRows | 0x46 => trigRows | 0x47 => trigRows
  | 0x48 => trigRows | 0x49 => trigRows | 0x4A => trigRows | 0x4B => trigRows
  | 0x4C => crysRows | 0x4D => crysRows | 0x4E => crysRows | 0x4F => crysRows
  | 0x50 => rsvRows | 0x51 => rsvRows | 0x52 => rsvRows | 0x53 => rsvRows
  | 0x54 => moveRows | 0x55 => moveRows | 0x56 => moveRows
  | 0x58 => flowRows | 0x59 => flowRows
  | 0x60 => flowRows | 0x61 => flowRows | 0x62 => flowRows | 0x63 => flowRows
  | 0x64 => flowRows | 0x65 => flowRows | 0x66 => flowRows | 0x67 => flowRows
  | 0x68 => scanRows
  | 0x69 => clkRows
  | 0x6B => plmbRows | 0x6C => plmbRows
  | 0x70 => pwrRows
  | 0x71 => twinRows
  | 0x72 => secRows | 0x73 => secRows
  | 0x74 => updRows
  | 0x75 => diagRows | 0x7F => diagRows
  | _ => []

/-- The row covers this index and sub-index. -/
def Row.covers (r : Row) (idx sub : Nat) : Bool :=
  r.lo.ble sub && sub.ble r.hi && r.idx.ble idx && ((idx - r.idx) % r.stride).beq 0 &&
    Nat.blt ((idx - r.idx) / r.stride) r.n

/-- The object at an index and sub-index, where there is one (step 2 of Table 15.5). -/
def findRow (idx sub : Nat) : Option Row := (rowsAt idx).find? fun r => r.covers idx sub

/-- An object's key: index in bits 23:8, sub-index in bits 7:0 (DEV_COMMIT_OBJECT's layout, R359). -/
def key (idx sub : Nat) : Nat := idx * 256 + sub

/-- The object of a key, whichever session's copy it names. -/
def keyRow (k : Nat) : Option Row := findRow (k % 2 ^ 24 / 256) (k % 256)

/-- Defaults the manual leaves to the individual engine (identity, factory address, version patch levels: R1, R241,
R360): constants of Config. -/
def identityDefault (idx sub : Nat) : Option Nat :=
  match idx, sub with
  | 0x1000, 2 => some (Config.deviceId % 2 ^ 128)
  | 0x1000, 3 => some (Config.serial % 2 ^ 128)
  | 0x1000, 4 => some (Config.siliconRev % 2 ^ 16)
  | 0x1001, 1 => some (0x01040000 + Config.fwPatch % 2 ^ 16)
  | 0x1001, 2 => some (0x01000000 + Config.loaderMinorPatch % 2 ^ 24)
  | 0x7202, 1 => some (Config.identityPublicKey % 2 ^ 776)
  | 0x7202, 2 => some (Config.deviceId % 2 ^ 128 / 2 ^ 96)
  | 0x7220, 1 => some (Config.factorySvn % 2 ^ 32)
  | i, 0 => if Nat.ble 0x5800 i && Nat.blt i 0x59C0 && (i % 16).beq 3
            then some ((Config.macBase % 2 ^ 48 + (i - 0x5803) / 16) % 2 ^ 48) else none
  | _, _ => none

/-- What an object reads before anything has written it. -/
def dflt (k : Nat) : Nat :=
  match identityDefault (k % 2 ^ 24 / 256) (k % 256) with
  | some v => v
  | none => match keyRow k with
    | some r => r.dflt
    | none => 0

end Sys2Proof.Machine
end

