-- ==== Sys2Proof/Machine/Names.lean ====
section
/-! DEFINITION. The dictionary's names: each mnemonic of the object tables as the key of its object. Where the table
places an object in every unit of a kind, i is the unit; where it is an array, j counts its entries from 0. -/

namespace Sys2Proof.Machine.Obj

def DEV_FLOOR_BFLY : Nat := key 0x2200 0x01
def DEV_FLOOR_CELL : Nat := key 0x2200 0x02
def DEV_FLOOR_RSV : Nat := key 0x2200 0x03
def DEV_FLOOR_PORT : Nat := key 0x2200 0x04
def DEV_FLOOR_POOL : Nat := key 0x2200 0x05
def DEV_LOAD_BFLY : Nat := key 0x2201 0x01
def DEV_LOAD_CELL : Nat := key 0x2201 0x02
def DEV_LOAD_RSV : Nat := key 0x2201 0x03
def DEV_LOAD_PORT : Nat := key 0x2201 0x04
def DEV_LOAD_POOL : Nat := key 0x2201 0x05
def DEV_LOAD_STG_BFLY : Nat := key 0x2202 0x01
def DEV_LOAD_STG_CELL : Nat := key 0x2202 0x02
def DEV_LOAD_STG_RSV : Nat := key 0x2202 0x03
def DEV_LOAD_STG_PORT : Nat := key 0x2202 0x04
def DEV_LOAD_STG_POOL : Nat := key 0x2202 0x05
def DEV_ADMIT_RESULT : Nat := key 0x2203 0x01
def DEV_ADMIT_RESOURCE : Nat := key 0x2203 0x02
def DEV_ADMIT_OBJECT : Nat := key 0x2203 0x03
def DEV_ADMIT_EXCESS : Nat := key 0x2203 0x04
def DEV_ADMIT_PORT : Nat := key 0x2203 0x05
def DEV_PORT_LOAD (j : Nat) : Nat := key 0x2204 (0x01 + j)
def DEV_SLICES_IN_SERVICE : Nat := key 0x2205 0x01
def DEV_PCH_IN_SERVICE : Nat := key 0x2205 0x02
def DEV_PORTS_IN_SERVICE : Nat := key 0x2205 0x03
def DEV_PVIN_SCALE : Nat := key 0x2206 0x00
def DEV_SHED_COUNT_CRYS : Nat := key 0x2210 0x01
def DEV_SHED_COUNT_DISP : Nat := key 0x2210 0x02
def DEV_SHED_COUNT_SPEC : Nat := key 0x2210 0x03
def DEV_SHED_COUNT_SSTR : Nat := key 0x2210 0x04
def DEV_SHED_COUNT_IQ : Nat := key 0x2210 0x05
def DEV_SHED_ACTIVE : Nat := key 0x2211 0x00
def DEV_SLICE_SLACK (j : Nat) : Nat := key 0x2212 (0x01 + j)
def DEV_CONVQ_PEAK (j : Nat) : Nat := key 0x2213 (0x01 + j)
def DEV_CONVQ_DROP (j : Nat) : Nat := key 0x2213 (0x05 + j)
def CONV_STATE (i : Nat) : Nat := key (0x3000 + 0x100 * i) 0x00
def CONV_ENABLE (i : Nat) : Nat := key (0x3001 + 0x100 * i) 0x00
def CONV_OVR_COUNT (i : Nat) : Nat := key (0x3002 + 0x100 * i) 0x00
def CONV_OVR_LAST (i : Nat) : Nat := key (0x3003 + 0x100 * i) 0x00
def CONV_F_OFFSET (i j : Nat) : Nat := key (0x3010 + 0x100 * i) (0x01 + j)
def CONV_F_GAIN (i j : Nat) : Nat := key (0x3011 + 0x100 * i) (0x01 + j)
def CONV_F_SKEW (i j : Nat) : Nat := key (0x3012 + 0x100 * i) (0x01 + j)
def CONV_F_BW (i j : Nat) : Nat := key (0x3013 + 0x100 * i) (0x01 + j)
def CONV_SET_ACTIVE (i : Nat) : Nat := key (0x3014 + 0x100 * i) 0x01
def CONV_SET_SEQ (i : Nat) : Nat := key (0x3014 + 0x100 * i) 0x02
def CONV_SET_TIME (i : Nat) : Nat := key (0x3014 + 0x100 * i) 0x03
def CONV_SET_TJ (i : Nat) : Nat := key (0x3014 + 0x100 * i) 0x04
def CONV_CAL_CMD (i : Nat) : Nat := key (0x3020 + 0x100 * i) 0x00
def CONV_CAL_STATUS (i : Nat) : Nat := key (0x3021 + 0x100 * i) 0x01
def CONV_CAL_REASON (i : Nat) : Nat := key (0x3021 + 0x100 * i) 0x02
def CONV_CAL_ADVISED (i : Nat) : Nat := key (0x3021 + 0x100 * i) 0x03
def CONV_TRACK_ENABLE (i : Nat) : Nat := key (0x3022 + 0x100 * i) 0x00
def CONV_TRACK_DRIFT (i j : Nat) : Nat := key (0x3023 + 0x100 * i) (0x01 + j)
def CONV_PATH_DELAY (i : Nat) : Nat := key (0x3030 + 0x100 * i) 0x00
def CONV_CAL_ALL : Nat := key 0x30F0 0x00
def CONV_CAL_AT_START : Nat := key 0x30F1 0x00
def CONV_SYNC_MODE : Nat := key 0x30F2 0x00
def CONV_SYNC_PERIOD : Nat := key 0x30F3 0x00
def CONV_SYNC_LOAD : Nat := key 0x30F4 0x00
def CONV_SYNC_NEXT : Nat := key 0x30F5 0x00
def CONV_SYNC_STATUS : Nat := key 0x30F6 0x00
def CONV_SYNC_ERR : Nat := key 0x30F7 0x00
def CONV_SYNC_OUT_EN : Nat := key 0x30F8 0x00
def CONV_TONE_MODE : Nat := key 0x30F9 0x01
def CONV_TONE_FREQ : Nat := key 0x30F9 0x02
def CONV_TONE_ATTEN : Nat := key 0x30F9 0x03
def CONV_TICK_NOW : Nat := key 0x30FA 0x00
def TUNE_STATE (i : Nat) : Nat := key (0x3400 + 0x40 * i) 0x00
def TUNE_ENABLE (i : Nat) : Nat := key (0x3401 + 0x40 * i) 0x00
def TUNE_FREQ (i : Nat) : Nat := key (0x3402 + 0x40 * i) 0x00
def TUNE_PHASE (i : Nat) : Nat := key (0x3403 + 0x40 * i) 0x00
def TUNE_DECIM (i : Nat) : Nat := key (0x3404 + 0x40 * i) 0x00
def TUNE_MODE (i : Nat) : Nat := key (0x3405 + 0x40 * i) 0x01
def TUNE_DF (i : Nat) : Nat := key (0x3405 + 0x40 * i) 0x02
def TUNE_DC (i : Nat) : Nat := key (0x3405 + 0x40 * i) 0x03
def TUNE_PROTECT (i : Nat) : Nat := key (0x3405 + 0x40 * i) 0x04
def TUNE_DELAY (i : Nat) : Nat := key (0x3406 + 0x40 * i) 0x01
def TUNE_DELAY_HB (i : Nat) : Nat := key (0x3406 + 0x40 * i) 0x02
def TUNE_DELAY_CIC (i : Nat) : Nat := key (0x3406 + 0x40 * i) 0x03
def TUNE_DELAY_FIR (i : Nat) : Nat := key (0x3406 + 0x40 * i) 0x04
def TUNE_KERF_HALF (i : Nat) : Nat := key (0x3407 + 0x40 * i) 0x00
def TUNE_LAST_JOINT (i : Nat) : Nat := key (0x3408 + 0x40 * i) 0x00
def TUNE_LAST_KERF_FIRST (i : Nat) : Nat := key (0x3409 + 0x40 * i) 0x01
def TUNE_LAST_KERF_LAST (i : Nat) : Nat := key (0x3409 + 0x40 * i) 0x02
def TUNE_SAT_COUNT (i : Nat) : Nat := key (0x340A + 0x40 * i) 0x00
def TUNE_KERF_COUNT (i : Nat) : Nat := key (0x340B + 0x40 * i) 0x00
def XFM_STATE (i : Nat) : Nat := key (0x3800 + 0x40 * i) 0x00
def XFM_ENABLE (i : Nat) : Nat := key (0x3801 + 0x40 * i) 0x00
def XFM_SOURCE (i : Nat) : Nat := key (0x3802 + 0x40 * i) 0x00
def XFM_SIZE_LOG2 (i : Nat) : Nat := key (0x3803 + 0x40 * i) 0x00
def XFM_HOP (i : Nat) : Nat := key (0x3804 + 0x40 * i) 0x00
def XFM_FRAME_PHASE (i : Nat) : Nat := key (0x3805 + 0x40 * i) 0x00
def XFM_WIN_TYPE (i : Nat) : Nat := key (0x3806 + 0x40 * i) 0x01
def XFM_WIN_PARAM (i : Nat) : Nat := key (0x3806 + 0x40 * i) 0x02
def XFM_WIN_ENBW (i : Nat) : Nat := key (0x3807 + 0x40 * i) 0x01
def XFM_WIN_CGAIN (i : Nat) : Nat := key (0x3807 + 0x40 * i) 0x02
def XFM_WIN_SCALLOP (i : Nat) : Nat := key (0x3807 + 0x40 * i) 0x03
def XFM_OUT_FORMAT (i : Nat) : Nat := key (0x3808 + 0x40 * i) 0x01
def XFM_OUT_EVERY (i : Nat) : Nat := key (0x3808 + 0x40 * i) 0x02
def XFM_BIN_FIRST (i : Nat) : Nat := key (0x3808 + 0x40 * i) 0x03
def XFM_BIN_COUNT (i : Nat) : Nat := key (0x3808 + 0x40 * i) 0x04
def XFM_LOAD (i : Nat) : Nat := key (0x3809 + 0x40 * i) 0x00
def XFM_POOL (i : Nat) : Nat := key (0x380A + 0x40 * i) 0x00
def XFM_LAST_JOINT (i : Nat) : Nat := key (0x380B + 0x40 * i) 0x00
def XFM_UWIN_WRITE (i : Nat) : Nat := key (0x380C + 0x40 * i) 0x00
def XFM_UWIN_SUM (i : Nat) : Nat := key (0x380D + 0x40 * i) 0x00
def XFM_FRAME_COUNT (i : Nat) : Nat := key (0x380E + 0x40 * i) 0x01
def XFM_SKIP_KERF (i : Nat) : Nat := key (0x380E + 0x40 * i) 0x02
def XFM_SKIP_CONV (i : Nat) : Nat := key (0x380E + 0x40 * i) 0x03
def XFM_SKIP_STAGING (i : Nat) : Nat := key (0x380E + 0x40 * i) 0x04
def XFM_POW_UFLOW (i : Nat) : Nat := key (0x380E + 0x40 * i) 0x05
def XFM_LAT_AVG (i : Nat) : Nat := key (0x380F + 0x40 * i) 0x00
def XFM_SLOTS_INFLIGHT : Nat := key 0x3830 0x00
def XFM_SLOTS_PEAK : Nat := key 0x3831 0x00
def XFM_UWIN_USED : Nat := key 0x3832 0x01
def XFM_UWIN_CAP : Nat := key 0x3832 0x02
def DET_STATE (i : Nat) : Nat := key (0x4000 + 0x20 * i) 0x00
def DET_PERIOD (i : Nat) : Nat := key (0x4001 + 0x20 * i) 0x00
def DET_BIN_FIRST (i : Nat) : Nat := key (0x4002 + 0x20 * i) 0x01
def DET_BIN_COUNT (i : Nat) : Nat := key (0x4002 + 0x20 * i) 0x02
def DET_AVG_MODE (i : Nat) : Nat := key (0x4003 + 0x20 * i) 0x01
def DET_AVG_KIND (i : Nat) : Nat := key (0x4003 + 0x20 * i) 0x02
def DET_AVG_SHIFT (i : Nat) : Nat := key (0x4003 + 0x20 * i) 0x03
def DET_HOLD_MODE (i : Nat) : Nat := key (0x4004 + 0x20 * i) 0x01
def DET_HOLD_RESET (i : Nat) : Nat := key (0x4004 + 0x20 * i) 0x02
def DET_OUT_FORMAT (i : Nat) : Nat := key (0x4005 + 0x20 * i) 0x00
def DET_PK_K (i : Nat) : Nat := key (0x4006 + 0x20 * i) 0x01
def DET_PK_INPUT (i : Nat) : Nat := key (0x4006 + 0x20 * i) 0x02
def DET_PK_THRESH (i : Nat) : Nat := key (0x4006 + 0x20 * i) 0x03
def DET_PK_SEP (i : Nat) : Nat := key (0x4006 + 0x20 * i) 0x04
def DET_SG_POINTS (i : Nat) : Nat := key (0x4007 + 0x20 * i) 0x01
def DET_SG_MODE (i : Nat) : Nat := key (0x4007 + 0x20 * i) 0x02
def DET_COL_PLANE (i : Nat) : Nat := key (0x4008 + 0x20 * i) 0x01
def DET_COL_COUNT (i : Nat) : Nat := key (0x4008 + 0x20 * i) 0x02
def DET_COL_MODE (i : Nat) : Nat := key (0x4008 + 0x20 * i) 0x03
def DET_COL_PERIOD (i : Nat) : Nat := key (0x4008 + 0x20 * i) 0x04
def DET_HOLD_CLEAR (i : Nat) : Nat := key (0x4009 + 0x20 * i) 0x00
def DET_LAST_JOINT (i : Nat) : Nat := key (0x400A + 0x20 * i) 0x00
def DET_STORE_WORDS (i : Nat) : Nat := key (0x400B + 0x20 * i) 0x01
def DET_PERIODS (i : Nat) : Nat := key (0x400B + 0x20 * i) 0x02
def DET_PARTIAL (i : Nat) : Nat := key (0x400C + 0x20 * i) 0x01
def DET_HOLD_CLEARED (i : Nat) : Nat := key (0x400C + 0x20 * i) 0x02
def DET_BP_CONTEXT (j : Nat) : Nat := key 0x4010 (0x01 + j)
def DET_BP_FIRST (j : Nat) : Nat := key 0x4011 (0x01 + j)
def DET_BP_LAST (j : Nat) : Nat := key 0x4012 (0x01 + j)
def DET_BP_VALUE (j : Nat) : Nat := key 0x4013 (0x01 + j)
def DET_BP_TICK (j : Nat) : Nat := key 0x4014 (0x01 + j)
def DET_STORE_USED : Nat := key 0x4015 0x01
def DET_STORE_CAP : Nat := key 0x4015 0x02
def DET_STORE_ACTIVE : Nat := key 0x4015 0x03
def TRIG_SRC_STATE (i : Nat) : Nat := key (0x4800 + 0x10 * i) 0x00
def TRIG_SRC_KIND (i : Nat) : Nat := key (0x4801 + 0x10 * i) 0x00
def TRIG_SRC_INPUT (i : Nat) : Nat := key (0x4802 + 0x10 * i) 0x00
def TRIG_SRC_DIR (i : Nat) : Nat := key (0x4803 + 0x10 * i) 0x00
def TRIG_SRC_THRESH (i : Nat) : Nat := key (0x4804 + 0x10 * i) 0x00
def TRIG_SRC_HYST (i : Nat) : Nat := key (0x4805 + 0x10 * i) 0x00
def TRIG_SRC_WIDTH (i : Nat) : Nat := key (0x4806 + 0x10 * i) 0x00
def TRIG_SRC_HOLDOFF (i : Nat) : Nat := key (0x4807 + 0x10 * i) 0x00
def TRIG_SRC_MASK (i : Nat) : Nat := key (0x4808 + 0x10 * i) 0x01
def TRIG_SRC_MASK_TEST (i : Nat) : Nat := key (0x4808 + 0x10 * i) 0x02
def TRIG_SRC_MINBINS (i : Nat) : Nat := key (0x4808 + 0x10 * i) 0x03
def TRIG_SRC_TIME_FIRST (i : Nat) : Nat := key (0x4809 + 0x10 * i) 0x01
def TRIG_SRC_TIME_PERIOD (i : Nat) : Nat := key (0x4809 + 0x10 * i) 0x02
def TRIG_SRC_FORCE (i : Nat) : Nat := key (0x480A + 0x10 * i) 0x00
def TRIG_SRC_EVENTS (i : Nat) : Nat := key (0x480B + 0x10 * i) 0x01
def TRIG_SRC_HELD (i : Nat) : Nat := key (0x480B + 0x10 * i) 0x02
def TRIG_SRC_LATE (i : Nat) : Nat := key (0x480B + 0x10 * i) 0x03
def TRIG_SRC_LAST (i : Nat) : Nat := key (0x480B + 0x10 * i) 0x04
def TRIG_SRC_LAST_JOINT (i : Nat) : Nat := key (0x480C + 0x10 * i) 0x00
def TRIG_MASK_SEGS (i : Nat) : Nat := key (0x4A00 + 0x10 * i) 0x00
def TRIG_MASK_WRITE (i : Nat) : Nat := key (0x4A01 + 0x10 * i) 0x00
def TRIG_MASK_SUM (i : Nat) : Nat := key (0x4A02 + 0x10 * i) 0x00
def TRIG_SEQ_RUN (i : Nat) : Nat := key (0x4400 + 0x40 * i) 0x01
def TRIG_SEQ_CUR (i : Nat) : Nat := key (0x4400 + 0x40 * i) 0x02
def TRIG_SEQ_ENABLE (i : Nat) : Nat := key (0x4401 + 0x40 * i) 0x00
def TRIG_SEQ_INIT (i : Nat) : Nat := key (0x4402 + 0x40 * i) 0x00
def TRIG_SEQ_TUNERS (i : Nat) : Nat := key (0x4403 + 0x40 * i) 0x00
def TRIG_SEQ_MARK_BUDGET (i : Nat) : Nat := key (0x4404 + 0x40 * i) 0x00
def TRIG_CNT_LIMIT (i j : Nat) : Nat := key (0x4408 + 0x40 * i) (0x01 + j)
def TRIG_CNT_VALUE (i j : Nat) : Nat := key (0x4409 + 0x40 * i) (0x01 + j)
def TRIG_TMR_PERIOD (i j : Nat) : Nat := key (0x440A + 0x40 * i) (0x01 + j)
def TRIG_TMR_MODE (i j : Nat) : Nat := key (0x440B + 0x40 * i) (0x01 + j)
def TRIG_TMR_EXPIRY (i j : Nat) : Nat := key (0x440C + 0x40 * i) (0x01 + j)
def TRIG_SEQ_SLOT (i q k : Nat) : Nat := key (0x4410 + 0x40 * i + q) (0x01 + k)
def TRIG_SEQ_REARM (i : Nat) : Nat := key (0x4418 + 0x40 * i) 0x00
def TRIG_SEQ_MARKS (i : Nat) : Nat := key (0x4419 + 0x40 * i) 0x01
def TRIG_SEQ_MARK_DROP (i : Nat) : Nat := key (0x4419 + 0x40 * i) 0x02
def TRIG_SEQ_LOOP (i : Nat) : Nat := key (0x4419 + 0x40 * i) 0x03
def TRIG_SEQ_INPUT_GAP (i : Nat) : Nat := key (0x4419 + 0x40 * i) 0x04
def TRIG_SEQ_LAST_MARK (i : Nat) : Nat := key (0x441A + 0x40 * i) 0x00
def TRIG_SEQ_LAST_JOINT (i : Nat) : Nat := key (0x441B + 0x40 * i) 0x00
def TRIG_SEQ_LAT_AVG (i : Nat) : Nat := key (0x441C + 0x40 * i) 0x00
def TRIG_GRP_STATE (i : Nat) : Nat := key (0x4B00 + 0x10 * i) 0x00
def TRIG_GRP_ENABLE (i : Nat) : Nat := key (0x4B01 + 0x10 * i) 0x00
def TRIG_GRP_MASTER (i : Nat) : Nat := key (0x4B02 + 0x10 * i) 0x00
def TRIG_GRP_MEMBERS (i : Nat) : Nat := key (0x4B03 + 0x10 * i) 0x00
def TRIG_GRP_OUT (i : Nat) : Nat := key (0x4B04 + 0x10 * i) 0x00
def TRIG_GRP_TUNERS (i : Nat) : Nat := key (0x4B05 + 0x10 * i) 0x00
def TRIG_GRP_ARM (i : Nat) : Nat := key (0x4B06 + 0x10 * i) 0x00
def TRIG_GRP_DISARM (i : Nat) : Nat := key (0x4B07 + 0x10 * i) 0x00
def TRIG_GRP_FIRES (i : Nat) : Nat := key (0x4B08 + 0x10 * i) 0x01
def TRIG_GRP_IGNORED (i : Nat) : Nat := key (0x4B08 + 0x10 * i) 0x02
def TRIG_GRP_LAST (i : Nat) : Nat := key (0x4B08 + 0x10 * i) 0x03
def TRIG_GRP_MARK_BUDGET (i : Nat) : Nat := key (0x4B09 + 0x10 * i) 0x00
def TRIG_GRP_LAST_JOINT (i : Nat) : Nat := key (0x4B0A + 0x10 * i) 0x00
def TRIG_IN_DELAY (j : Nat) : Nat := key 0x4B40 (0x01 + j)
def TRIG_OUT_MODE (j : Nat) : Nat := key 0x4B41 (0x01 + j)
def TRIG_OUT_DELAY (j : Nat) : Nat := key 0x4B42 (0x01 + j)
def TRIG_OUT_WIDTH (j : Nat) : Nat := key 0x4B43 (0x01 + j)
def TRIG_OUT_LATE (j : Nat) : Nat := key 0x4B44 (0x01 + j)
def TRIG_MARK_ID : Nat := key 0x4B50 0x00
def TRIG_MARK_BUDGET_USED : Nat := key 0x4B51 0x01
def TRIG_MARK_CAP : Nat := key 0x4B51 0x02
def TRIG_MARK_DROP_ALL : Nat := key 0x4B52 0x00
def TRIG_CAP_STATE (i : Nat) : Nat := key (0x4B80 + 0x10 * i) 0x00
def TRIG_CAP_ENABLE (i : Nat) : Nat := key (0x4B81 + 0x10 * i) 0x00
def TRIG_CAP_TUNER (i : Nat) : Nat := key (0x4B82 + 0x10 * i) 0x00
def TRIG_CAP_SEQ (i : Nat) : Nat := key (0x4B83 + 0x10 * i) 0x00
def TRIG_CAP_LEN (i : Nat) : Nat := key (0x4B84 + 0x10 * i) 0x00
def TRIG_CAP_PRE (i : Nat) : Nat := key (0x4B85 + 0x10 * i) 0x00
def TRIG_CAP_COUNT (i : Nat) : Nat := key (0x4B86 + 0x10 * i) 0x00
def TRIG_CAP_ARM (i : Nat) : Nat := key (0x4B87 + 0x10 * i) 0x00
def TRIG_CAP_SEGS (i : Nat) : Nat := key (0x4B88 + 0x10 * i) 0x01
def TRIG_CAP_IGNORED (i : Nat) : Nat := key (0x4B88 + 0x10 * i) 0x02
def TRIG_CAP_LOST (i : Nat) : Nat := key (0x4B88 + 0x10 * i) 0x03
def TRIG_CAP_LAST (i : Nat) : Nat := key (0x4B89 + 0x10 * i) 0x00
def CRYS_STATE (i : Nat) : Nat := key (0x4C00 + 0x80 * i) 0x00
def CRYS_ENABLE (i : Nat) : Nat := key (0x4C01 + 0x80 * i) 0x00
def CRYS_COLS (i : Nat) : Nat := key (0x4C02 + 0x80 * i) 0x01
def CRYS_ROWS (i : Nat) : Nat := key (0x4C02 + 0x80 * i) 0x02
def CRYS_TOP (i : Nat) : Nat := key (0x4C03 + 0x80 * i) 0x01
def CRYS_RANGE (i : Nat) : Nat := key (0x4C03 + 0x80 * i) 0x02
def CRYS_CLIP (i : Nat) : Nat := key (0x4C03 + 0x80 * i) 0x03
def CRYS_FILL (i : Nat) : Nat := key (0x4C04 + 0x80 * i) 0x00
def CRYS_WEIGHT (i : Nat) : Nat := key (0x4C05 + 0x80 * i) 0x00
def CRYS_HALFLIFE (i : Nat) : Nat := key (0x4C06 + 0x80 * i) 0x01
def CRYS_EVAP_FACTOR (i : Nat) : Nat := key (0x4C06 + 0x80 * i) 0x02
def CRYS_HARV_PERIOD (i : Nat) : Nat := key (0x4C07 + 0x80 * i) 0x01
def CRYS_HARV_FORMAT (i : Nat) : Nat := key (0x4C07 + 0x80 * i) 0x02
def CRYS_HARV_CLEAR (i : Nat) : Nat := key (0x4C07 + 0x80 * i) 0x03
def CRYS_HARV_CMD (i : Nat) : Nat := key (0x4C08 + 0x80 * i) 0x00
def CRYS_CLEAR (i : Nat) : Nat := key (0x4C09 + 0x80 * i) 0x00
def CRYS_HARV_SEQ (i : Nat) : Nat := key (0x4C0A + 0x80 * i) 0x01
def CRYS_HARV_LAST (i : Nat) : Nat := key (0x4C0A + 0x80 * i) 0x02
def CRYS_HARV_SKIP (i : Nat) : Nat := key (0x4C0A + 0x80 * i) 0x03
def CRYS_HARV_TIME_AVG (i : Nat) : Nat := key (0x4C0A + 0x80 * i) 0x04
def CRYS_LOAD (i : Nat) : Nat := key (0x4C0B + 0x80 * i) 0x00
def CRYS_SETS (i : Nat) : Nat := key (0x4C0C + 0x80 * i) 0x01
def CRYS_OVER (i : Nat) : Nat := key (0x4C0C + 0x80 * i) 0x02
def CRYS_UNDER (i : Nat) : Nat := key (0x4C0C + 0x80 * i) 0x03
def CRYS_FILL_CUT (i : Nat) : Nat := key (0x4C0C + 0x80 * i) 0x04
def CRYS_SAT_HITS (i : Nat) : Nat := key (0x4C0C + 0x80 * i) 0x05
def CRYS_SET_MISMATCH (i : Nat) : Nat := key (0x4C0C + 0x80 * i) 0x06
def CRYS_SAT_CELLS (i : Nat) : Nat := key (0x4C0D + 0x80 * i) 0x00
def CRYS_LAST_JOINT (i : Nat) : Nat := key (0x4C0E + 0x80 * i) 0x00
def CRYS_LAST_CLEAR (i : Nat) : Nat := key (0x4C0F + 0x80 * i) 0x00
def RSV_STATE : Nat := key 0x5000 0x00
def RSV_PANS_TOTAL : Nat := key 0x5001 0x01
def RSV_PANS_FREE : Nat := key 0x5001 0x02
def RSV_PCH_FAILED : Nat := key 0x5001 0x03
def RSV_PCH_MAP (j : Nat) : Nat := key 0x5002 (0x01 + j)
def RSV_IDLE_PD : Nat := key 0x5003 0x00
def RSV_RETRAIN_PERIOD : Nat := key 0x5004 0x01
def RSV_RETRAIN_DT : Nat := key 0x5004 0x02
def RSV_RETRAIN_DEFER : Nat := key 0x5004 0x03
def RSV_SCRUB_PERIOD : Nat := key 0x5005 0x00
def RSV_ECC_CE : Nat := key 0x5006 0x01
def RSV_ECC_UE : Nat := key 0x5006 0x02
def RSV_ECC_LAST : Nat := key 0x5006 0x03
def RSV_TRR_COUNT : Nat := key 0x5007 0x01
def RSV_THROTTLE_COUNT : Nat := key 0x5007 0x02
def RSV_THROTTLE_LAST : Nat := key 0x5007 0x03
def RSV_STACK_TEMP (j : Nat) : Nat := key 0x5008 (0x01 + j)
def RSV_REFRESH_X2 (j : Nat) : Nat := key 0x5008 (0x05 + j)
def RSV_LAT_AVG : Nat := key 0x5009 0x01
def RSV_OUTSTANDING : Nat := key 0x5009 0x02
def RSV_OUTSTANDING_PEAK : Nat := key 0x5009 0x03
def RSV_PANIC_COUNT : Nat := key 0x5009 0x04
def RSV_HIST_STATE (i : Nat) : Nat := key (0x5100 + 0x10 * i) 0x00
def RSV_HIST_ENABLE (i : Nat) : Nat := key (0x5101 + 0x10 * i) 0x00
def RSV_HIST_PANS (i : Nat) : Nat := key (0x5102 + 0x10 * i) 0x00
def RSV_HIST_SIDE_LOG2 (i : Nat) : Nat := key (0x5103 + 0x10 * i) 0x00
def RSV_HIST_NEWEST (i : Nat) : Nat := key (0x5104 + 0x10 * i) 0x01
def RSV_HIST_OLDEST (i : Nat) : Nat := key (0x5104 + 0x10 * i) 0x02
def RSV_HIST_SIDE_OLDEST (i : Nat) : Nat := key (0x5104 + 0x10 * i) 0x03
def RSV_HIST_SPAN (i : Nat) : Nat := key (0x5105 + 0x10 * i) 0x00
def RSV_HIST_ALLOC (i : Nat) : Nat := key (0x5106 + 0x10 * i) 0x00
def RSV_HIST_DROP (i : Nat) : Nat := key (0x5107 + 0x10 * i) 0x00
def RSV_HIST_LAST_JOINT (i : Nat) : Nat := key (0x5108 + 0x10 * i) 0x00
def RSV_RPL_STATE (i : Nat) : Nat := key (0x5300 + 0x10 * i) 0x00
def RSV_RPL_RING (i : Nat) : Nat := key (0x5301 + 0x10 * i) 0x00
def RSV_RPL_RATE (i : Nat) : Nat := key (0x5302 + 0x10 * i) 0x00
def RSV_RPL_RECLEN (i : Nat) : Nat := key (0x5303 + 0x10 * i) 0x00
def RSV_RPL_FIRST (i : Nat) : Nat := key (0x5304 + 0x10 * i) 0x01
def RSV_RPL_LAST (i : Nat) : Nat := key (0x5304 + 0x10 * i) 0x02
def RSV_RPL_CMD (i : Nat) : Nat := key (0x5305 + 0x10 * i) 0x00
def RSV_RPL_POS (i : Nat) : Nat := key (0x5306 + 0x10 * i) 0x00
def RSV_RPL_MARGIN (i : Nat) : Nat := key (0x5307 + 0x10 * i) 0x00
def RSV_RPL_LOST (i : Nat) : Nat := key (0x5308 + 0x10 * i) 0x00
def RSV_RPL_COUNT (i : Nat) : Nat := key (0x5309 + 0x10 * i) 0x00
def MOVE_STATE (i : Nat) : Nat := key (0x5400 + 0x8 * i) 0x01
def MOVE_OWNER (i : Nat) : Nat := key (0x5400 + 0x8 * i) 0x02
def MOVE_CLAIM (i : Nat) : Nat := key (0x5401 + 0x8 * i) 0x00
def MOVE_BUF_LOG2 (i : Nat) : Nat := key (0x5402 + 0x8 * i) 0x01
def MOVE_BUF_BASE (i : Nat) : Nat := key (0x5402 + 0x8 * i) 0x02
def MOVE_DESC_WRITE (i : Nat) : Nat := key (0x5403 + 0x8 * i) 0x00
def MOVE_START (i : Nat) : Nat := key (0x5404 + 0x8 * i) 0x01
def MOVE_CMD (i : Nat) : Nat := key (0x5404 + 0x8 * i) 0x02
def MOVE_DESC_CUR (i : Nat) : Nat := key (0x5405 + 0x8 * i) 0x01
def MOVE_BEATS_LEFT (i : Nat) : Nat := key (0x5405 + 0x8 * i) 0x02
def MOVE_DONE_TAG (i : Nat) : Nat := key (0x5405 + 0x8 * i) 0x03
def MOVE_DONE_COUNT (i : Nat) : Nat := key (0x5405 + 0x8 * i) 0x04
def MOVE_ERR_CODE (i : Nat) : Nat := key (0x5406 + 0x8 * i) 0x01
def MOVE_ERR_DIR (i : Nat) : Nat := key (0x5406 + 0x8 * i) 0x02
def MOVE_ERR_ADDR (i : Nat) : Nat := key (0x5406 + 0x8 * i) 0x03
def MOVE_ERR_BEATS (i : Nat) : Nat := key (0x5406 + 0x8 * i) 0x04
def MOVE_ERR_DESC (i : Nat) : Nat := key (0x5406 + 0x8 * i) 0x05
def MOVE_ERR_FINAL (i : Nat) : Nat := key (0x5406 + 0x8 * i) 0x06
def MOVE_WORDS (i : Nat) : Nat := key (0x5407 + 0x8 * i) 0x01
def MOVE_RATE_AVG (i : Nat) : Nat := key (0x5407 + 0x8 * i) 0x02
def MOVE_ERR_COUNT (i : Nat) : Nat := key (0x5407 + 0x8 * i) 0x03
def PORT_STATE (i : Nat) : Nat := key (0x5800 + 0x10 * i) 0x01
def PORT_MEDIA_ACTIVE (i : Nat) : Nat := key (0x5800 + 0x10 * i) 0x02
def PORT_ENABLE (i : Nat) : Nat := key (0x5801 + 0x10 * i) 0x00
def PORT_MEDIA (i : Nat) : Nat := key (0x5802 + 0x10 * i) 0x00
def PORT_MAC (i : Nat) : Nat := key (0x5803 + 0x10 * i) 0x00
def PORT_VLAN_EN (i : Nat) : Nat := key (0x5804 + 0x10 * i) 0x01
def PORT_VLAN_ID (i : Nat) : Nat := key (0x5804 + 0x10 * i) 0x02
def PORT_VLAN_PCP (i : Nat) : Nat := key (0x5804 + 0x10 * i) 0x03
def PORT_IP4 (i : Nat) : Nat := key (0x5805 + 0x10 * i) 0x01
def PORT_IP4_PREFIX (i : Nat) : Nat := key (0x5805 + 0x10 * i) 0x02
def PORT_IP6 (i : Nat) : Nat := key (0x5806 + 0x10 * i) 0x01
def PORT_IP6_PREFIX (i : Nat) : Nat := key (0x5806 + 0x10 * i) 0x02
def PORT_MTU (i : Nat) : Nat := key (0x5807 + 0x10 * i) 0x00
def PORT_UDP (i : Nat) : Nat := key (0x5808 + 0x10 * i) 0x00
def PORT_PEER_MAC (i : Nat) : Nat := key (0x5809 + 0x10 * i) 0x01
def PORT_PEER_LEARNED (i : Nat) : Nat := key (0x5809 + 0x10 * i) 0x02
def PORT_TX_FRAMES (i : Nat) : Nat := key (0x580A + 0x10 * i) 0x01
def PORT_RX_FRAMES (i : Nat) : Nat := key (0x580A + 0x10 * i) 0x02
def PORT_RX_DROP (i : Nat) : Nat := key (0x580A + 0x10 * i) 0x03
def PORT_AUTH_FAIL (i : Nat) : Nat := key (0x580A + 0x10 * i) 0x04
def PORT_FEC_CORR (i : Nat) : Nat := key (0x580A + 0x10 * i) 0x05
def PORT_FEC_UNCORR (i : Nat) : Nat := key (0x580A + 0x10 * i) 0x06
def PORT_WIRE_AVG (i : Nat) : Nat := key (0x580B + 0x10 * i) 0x01
def PORT_RETX_AVG (i : Nat) : Nat := key (0x580B + 0x10 * i) 0x02
def PORT_LINK_DOWNS (i : Nat) : Nat := key (0x580C + 0x10 * i) 0x00
def FLOW_STATE (i : Nat) : Nat := key (0x6000 + 0x8 * i) 0x01
def FLOW_OWNER (i : Nat) : Nat := key (0x6000 + 0x8 * i) 0x02
def FLOW_CLAIM (i : Nat) : Nat := key (0x6000 + 0x8 * i) 0x03
def FLOW_INCARN (i : Nat) : Nat := key (0x6000 + 0x8 * i) 0x04
def FLOW_ENABLE (i : Nat) : Nat := key (0x6001 + 0x8 * i) 0x01
def FLOW_DIR (i : Nat) : Nat := key (0x6001 + 0x8 * i) 0x02
def FLOW_SRC (i : Nat) : Nat := key (0x6001 + 0x8 * i) 0x03
def FLOW_SRC_INDEX (i : Nat) : Nat := key (0x6001 + 0x8 * i) 0x04
def FLOW_SRC_PRODUCT (i : Nat) : Nat := key (0x6001 + 0x8 * i) 0x05
def FLOW_RECLEN (i : Nat) : Nat := key (0x6001 + 0x8 * i) 0x06
def FLOW_STATUS (i : Nat) : Nat := key (0x6001 + 0x8 * i) 0x07
def FLOW_RATE (i : Nat) : Nat := key (0x6001 + 0x8 * i) 0x08
def FLOW_PORTS (i : Nat) : Nat := key (0x6002 + 0x8 * i) 0x01
def FLOW_WIDTH (i : Nat) : Nat := key (0x6002 + 0x8 * i) 0x02
def FLOW_HALF_SWAP (i : Nat) : Nat := key (0x6002 + 0x8 * i) 0x03
def FLOW_BEATS (i : Nat) : Nat := key (0x6002 + 0x8 * i) 0x04
def FLOW_DEST_IP (i : Nat) : Nat := key (0x6003 + 0x8 * i) 0x01
def FLOW_DEST_UDP (i : Nat) : Nat := key (0x6003 + 0x8 * i) 0x02
def FLOW_REC_VER_MAX (i : Nat) : Nat := key (0x6003 + 0x8 * i) 0x03
def FLOW_RETAIN_LOG2 (i : Nat) : Nat := key (0x6004 + 0x8 * i) 0x01
def FLOW_ACK_MAX (i : Nat) : Nat := key (0x6004 + 0x8 * i) 0x02
def FLOW_RTO (i : Nat) : Nat := key (0x6004 + 0x8 * i) 0x03
def FLOW_TRY_MAX (i : Nat) : Nat := key (0x6004 + 0x8 * i) 0x04
def FLOW_FLUSH (i : Nat) : Nat := key (0x6004 + 0x8 * i) 0x05
def FLOW_BURST (i : Nat) : Nat := key (0x6004 + 0x8 * i) 0x06
def FLOW_F (i : Nat) : Nat := key (0x6005 + 0x8 * i) 0x01
def FLOW_WIRE (i : Nat) : Nat := key (0x6005 + 0x8 * i) 0x02
def FLOW_RETAIN_TIME (i : Nat) : Nat := key (0x6005 + 0x8 * i) 0x03
def FLOW_REC_VER (i : Nat) : Nat := key (0x6005 + 0x8 * i) 0x04
def FLOW_SEQ_NEXT (i : Nat) : Nat := key (0x6006 + 0x8 * i) 0x01
def FLOW_CUM (i : Nat) : Nat := key (0x6006 + 0x8 * i) 0x02
def FLOW_RETX (i : Nat) : Nat := key (0x6006 + 0x8 * i) 0x03
def FLOW_LOST (i : Nat) : Nat := key (0x6006 + 0x8 * i) 0x04
def FLOW_LOST_FIRST (i : Nat) : Nat := key (0x6006 + 0x8 * i) 0x05
def FLOW_RX_BEYOND (i : Nat) : Nat := key (0x6006 + 0x8 * i) 0x06
def FLOW_RTT_AVG (i : Nat) : Nat := key (0x6007 + 0x8 * i) 0x01
def FLOW_ACK_LAST (i : Nat) : Nat := key (0x6007 + 0x8 * i) 0x02
def FLOW_LAST_JOINT (i : Nat) : Nat := key (0x6007 + 0x8 * i) 0x03
def FLOW_VER_MIN : Nat := key 0x59C0 0x01
def FLOW_VER_MAX : Nat := key 0x59C0 0x02
def FLOW_REC_VER_ENGINE : Nat := key 0x59C1 0x00
def FLOW_FREE : Nat := key 0x59C2 0x00
def FLOW_LOST_ALL : Nat := key 0x59C3 0x00
def SCAN_STATE : Nat := key 0x6800 0x00
def SCAN_ENABLE : Nat := key 0x6801 0x00
def SCAN_MODE : Nat := key 0x6802 0x00
def SCAN_LANE_MBPS : Nat := key 0x6803 0x00
def SCAN_HACTIVE : Nat := key 0x6804 0x01
def SCAN_HFP : Nat := key 0x6804 0x02
def SCAN_HSYNC : Nat := key 0x6804 0x03
def SCAN_HBP : Nat := key 0x6804 0x04
def SCAN_VACTIVE : Nat := key 0x6805 0x01
def SCAN_VFP : Nat := key 0x6805 0x02
def SCAN_VSYNC : Nat := key 0x6805 0x03
def SCAN_VBP : Nat := key 0x6805 0x04
def SCAN_PIXEL_HZ : Nat := key 0x6806 0x00
def SCAN_RATE_MAX : Nat := key 0x6807 0x01
def SCAN_RATE : Nat := key 0x6807 0x02
def SCAN_TE_TIMEOUT : Nat := key 0x6808 0x00
def SCAN_TOL_LINES : Nat := key 0x6809 0x00
def SCAN_TOLERANCE : Nat := key 0x680A 0x00
def SCAN_BG : Nat := key 0x680B 0x00
def SCAN_FRAME : Nat := key 0x680C 0x01
def SCAN_FRAME_EFFECT : Nat := key 0x680C 0x02
def SCAN_LATCH_TICK : Nat := key 0x680C 0x03
def SCAN_UNDERRUN : Nat := key 0x680D 0x01
def SCAN_TE_MISS : Nat := key 0x680D 0x02
def SCAN_TE_EXTRA : Nat := key 0x680D 0x03
def SCAN_CRC_LAST : Nat := key 0x680E 0x01
def SCAN_CRC_FRAME : Nat := key 0x680E 0x02
def SCAN_CRC_ERR : Nat := key 0x680E 0x03
def SCAN_CRC_ERR_FRAME : Nat := key 0x680E 0x04
def SCAN_TR_SRC (j : Nat) : Nat := key 0x6820 (0x01 + j)
def SCAN_TR_COLOR (j : Nat) : Nat := key 0x6821 (0x01 + j)
def SCAN_TR_TOP : Nat := key 0x6822 0x01
def SCAN_TR_RANGE : Nat := key 0x6822 0x02
def SCAN_L_STATE (i : Nat) : Nat := key (0x6840 + 0x10 * i) 0x01
def SCAN_L_OWNER (i : Nat) : Nat := key (0x6840 + 0x10 * i) 0x02
def SCAN_L_CLAIM (i : Nat) : Nat := key (0x6841 + 0x10 * i) 0x00
def SCAN_L_ENABLE (i : Nat) : Nat := key (0x6842 + 0x10 * i) 0x00
def SCAN_L_X (i : Nat) : Nat := key (0x6843 + 0x10 * i) 0x01
def SCAN_L_Y (i : Nat) : Nat := key (0x6843 + 0x10 * i) 0x02
def SCAN_L_W (i : Nat) : Nat := key (0x6843 + 0x10 * i) 0x03
def SCAN_L_H (i : Nat) : Nat := key (0x6843 + 0x10 * i) 0x04
def SCAN_L_ALPHA (i : Nat) : Nat := key (0x6843 + 0x10 * i) 0x05
def SCAN_L_FORMAT (i : Nat) : Nat := key (0x6844 + 0x10 * i) 0x00
def SCAN_L_BUF_LOG2 (i : Nat) : Nat := key (0x6845 + 0x10 * i) 0x01
def SCAN_L_BUF_BASE (i : Nat) : Nat := key (0x6845 + 0x10 * i) 0x02
def SCAN_L_OFFSET (i : Nat) : Nat := key (0x6846 + 0x10 * i) 0x00
def SCAN_L_STRIDE (i : Nat) : Nat := key (0x6847 + 0x10 * i) 0x00
def SCAN_L_PAL_WRITE (i : Nat) : Nat := key (0x6848 + 0x10 * i) 0x00
def SCAN_L_DENS_PLANE : Nat := key 0x6849 0x01
def SCAN_L_DENS_LO : Nat := key 0x6849 0x02
def SCAN_L_DENS_HI : Nat := key 0x6849 0x03
def SCAN_L_LAST_SHOWN (i : Nat) : Nat := key (0x684A + 0x10 * i) 0x00
def CLK_STATE : Nat := key 0x6900 0x00
def CLK_REF_SEL : Nat := key 0x6901 0x01
def CLK_REF_ACTIVE : Nat := key 0x6901 0x02
def CLK_REVERT_S : Nat := key 0x6901 0x03
def CLK_REF_A_HZ : Nat := key 0x6902 0x01
def CLK_REF_B_HZ : Nat := key 0x6902 0x02
def CLK_REF_STATE (j : Nat) : Nat := key 0x6903 (0x01 + j)
def CLK_REF_PPB (j : Nat) : Nat := key 0x6903 (0x03 + j)
def CLK_REF_LOSS (j : Nat) : Nat := key 0x6903 (0x05 + j)
def CLK_DITHER : Nat := key 0x6904 0x01
def CLK_SEED : Nat := key 0x6904 0x02
def CLK_RATIO_INT : Nat := key 0x6904 0x03
def CLK_RATIO_NUM : Nat := key 0x6904 0x04
def CLK_RATIO_DEN : Nat := key 0x6904 0x05
def CLK_CHANGE_REF : Nat := key 0x6905 0x01
def CLK_CHANGE_HZ : Nat := key 0x6905 0x02
def CLK_CHANGE_AT : Nat := key 0x6905 0x03
def CLK_CHANGE_CMD : Nat := key 0x6905 0x04
def CLK_CHANGE_STATUS : Nat := key 0x6905 0x05
def CLK_LOCKED_MASK : Nat := key 0x6906 0x01
def CLK_UNLOCK_COUNT : Nat := key 0x6906 0x02
def CLK_LAST_RELOCK_FIRST : Nat := key 0x6906 0x03
def CLK_LAST_RELOCK_LAST : Nat := key 0x6906 0x04
def CLK_HOLD_COUNT : Nat := key 0x6907 0x01
def CLK_HOLD_SINCE : Nat := key 0x6907 0x02
def CLK_SLEW_PPB : Nat := key 0x6907 0x03
def CLK_SWITCH_COUNT : Nat := key 0x6907 0x04
def CLK_OUT_DIV : Nat := key 0x6908 0x01
def CLK_OUT_HZ : Nat := key 0x6908 0x02
def CLK_TEST : Nat := key 0x6909 0x00
def CLK_JITTER_EST : Nat := key 0x690A 0x01
def CLK_TEST_STATUS : Nat := key 0x690A 0x02
def PLMB_STATE : Nat := key 0x6B00 0x01
def PLMB_OWNER : Nat := key 0x6B00 0x02
def PLMB_CLAIM : Nat := key 0x6B01 0x00
def PLMB_TDC_ENABLE : Nat := key 0x6B02 0x00
def PLMB_MODE : Nat := key 0x6B03 0x00
def PLMB_START_IN : Nat := key 0x6B04 0x01
def PLMB_START_EDGE : Nat := key 0x6B04 0x02
def PLMB_START_AT : Nat := key 0x6B04 0x03
def PLMB_START_PERIOD : Nat := key 0x6B04 0x04
def PLMB_STOP_MASK : Nat := key 0x6B05 0x01
def PLMB_STOP_EDGE : Nat := key 0x6B05 0x02
def PLMB_STOPS_MAX : Nat := key 0x6B05 0x03
def PLMB_WINDOW : Nat := key 0x6B06 0x00
def PLMB_IN_DELAY (j : Nat) : Nat := key 0x6B07 (0x01 + j)
def PLMB_RES_SEQ : Nat := key 0x6B08 0x01
def PLMB_RES_START : Nat := key 0x6B08 0x02
def PLMB_RES_START_FINE : Nat := key 0x6B08 0x03
def PLMB_RES_NSTOPS : Nat := key 0x6B08 0x04
def PLMB_RES_FLAGS : Nat := key 0x6B08 0x05
def PLMB_RES_COUNT : Nat := key 0x6B08 0x06
def PLMB_RES_INTERVAL (j : Nat) : Nat := key 0x6B09 (0x01 + j)
def PLMB_RES_STOPINFO (j : Nat) : Nat := key 0x6B0A (0x01 + j)
def PLMB_RES_NEXT : Nat := key 0x6B0B 0x00
def PLMB_STOP_UNMATCHED : Nat := key 0x6B0C 0x01
def PLMB_START_IGNORED : Nat := key 0x6B0C 0x02
def PLMB_STOP_EXCESS : Nat := key 0x6B0C 0x03
def PLMB_DEAD : Nat := key 0x6B0C 0x04
def PLMB_DROP : Nat := key 0x6B0C 0x05
def PLMB_LAST_JOINT : Nat := key 0x6B0D 0x00
def PLMB_CNT_ENABLE : Nat := key 0x6B20 0x00
def PLMB_CNT_DIV : Nat := key 0x6B21 0x00
def PLMB_GATE : Nat := key 0x6B22 0x00
def PLMB_CNT_TAU : Nat := key 0x6B23 0x00
def PLMB_CNT_ABSENT_US : Nat := key 0x6B24 0x00
def PLMB_CNT_STATE : Nat := key 0x6B25 0x00
def PLMB_FREQ : Nat := key 0x6B26 0x01
def PLMB_FREQ_SIGMA : Nat := key 0x6B26 0x02
def PLMB_FREQ_POINTS : Nat := key 0x6B26 0x03
def PLMB_FREQ_EDGES : Nat := key 0x6B26 0x04
def PLMB_FREQ_GATE : Nat := key 0x6B26 0x05
def PLMB_FREQ_FLAGS : Nat := key 0x6B26 0x06
def PLMB_FREQ_SEQ : Nat := key 0x6B26 0x07
def PLMB_TIME_SRC : Nat := key 0x6C00 0x00
def PLMB_TIME_STATE : Nat := key 0x6C01 0x00
def PLMB_TIME_NOW : Nat := key 0x6C02 0x00
def PLMB_TOD_NEXT : Nat := key 0x6C03 0x00
def PLMB_UTC_OFFSET : Nat := key 0x6C04 0x00
def PLMB_PPS_TOL : Nat := key 0x6C05 0x01
def PLMB_PPS_ACC : Nat := key 0x6C05 0x02
def PLMB_HOLD_PPB : Nat := key 0x6C05 0x03
def PLMB_PPS_REJECT : Nat := key 0x6C06 0x01
def PLMB_PPS_MISS : Nat := key 0x6C06 0x02
def PLMB_TIME_STEPS : Nat := key 0x6C06 0x03
def PLMB_UNCERT : Nat := key 0x6C07 0x00
def PLMB_PPS_OUT_EN : Nat := key 0x6C08 0x01
def PLMB_PPS_OUT_WIDTH : Nat := key 0x6C08 0x02
def PLMB_CONV_TICK : Nat := key 0x6C09 0x01
def PLMB_CONV_TIME : Nat := key 0x6C09 0x02
def PLMB_PTP_DOMAIN : Nat := key 0x6C0A 0x01
def PLMB_PTP_TRANSPORT : Nat := key 0x6C0A 0x02
def DEV_PART : Nat := key 0x1000 0x01
def DEV_ID : Nat := key 0x1000 0x02
def DEV_SERIAL : Nat := key 0x1000 0x03
def DEV_SILICON_REV : Nat := key 0x1000 0x04
def DEV_FW_VERSION : Nat := key 0x1001 0x01
def DEV_LOADER_VERSION : Nat := key 0x1001 0x02
def DEV_DICT_VER_MIN : Nat := key 0x1001 0x03
def DEV_DICT_VER_MAX : Nat := key 0x1001 0x04
def DEV_SESS_SELF : Nat := key 0x1002 0x01
def DEV_DICT_VER : Nat := key 0x1002 0x02
def DEV_SESSION_IDLE_S : Nat := key 0x1003 0x00
def DEV_SESS_STATE (i : Nat) : Nat := key (0x1010 + 0x1 * i) 0x01
def DEV_SESS_ROLE (i : Nat) : Nat := key (0x1010 + 0x1 * i) 0x02
def DEV_SESS_OPENED (i : Nat) : Nat := key (0x1010 + 0x1 * i) 0x03
def DEV_SESS_OUTSTANDING (i : Nat) : Nat := key (0x1010 + 0x1 * i) 0x04
def DEV_SESS_PORT (i : Nat) : Nat := key (0x1010 + 0x1 * i) 0x05
def DEV_SESS_TAG_DUP (i : Nat) : Nat := key (0x1010 + 0x1 * i) 0x06
def DEV_SESS_BAD (i : Nat) : Nat := key (0x1010 + 0x1 * i) 0x07
def DEV_SESS_END (i : Nat) : Nat := key (0x1010 + 0x1 * i) 0x08
def DEV_QUOTA_BFLY (i : Nat) : Nat := key (0x1020 + 0x1 * i) 0x01
def DEV_QUOTA_CELL (i : Nat) : Nat := key (0x1020 + 0x1 * i) 0x02
def DEV_QUOTA_RSV (i : Nat) : Nat := key (0x1020 + 0x1 * i) 0x03
def DEV_QUOTA_PORT (i : Nat) : Nat := key (0x1020 + 0x1 * i) 0x04
def DEV_QUOTA_POOL (i : Nat) : Nat := key (0x1020 + 0x1 * i) 0x05
def DEV_QUOTA_CONTEXTS (i : Nat) : Nat := key (0x1020 + 0x1 * i) 0x06
def DEV_QUOTA_FLOWS (i : Nat) : Nat := key (0x1020 + 0x1 * i) 0x07
def DEV_QUOTA_MOVERS (i : Nat) : Nat := key (0x1020 + 0x1 * i) 0x08
def DEV_STATE : Nat := key 0x2000 0x00
def DEV_ALERT_COUNT : Nat := key 0x2001 0x01
def DEV_ALERT_LAST : Nat := key 0x2001 0x02
def DEV_LOG_NEWEST : Nat := key 0x2010 0x01
def DEV_LOG_CURSOR : Nat := key 0x2010 0x02
def DEV_LOG_OLDEST : Nat := key 0x2010 0x03
def DEV_LOG_WORD (j : Nat) : Nat := key 0x2011 (0x01 + j)
def DEV_STORE : Nat := key 0x2020 0x00
def DEV_NOTIFY_MASK : Nat := key 0x2021 0x00
def DEV_NOTIFY_LOST : Nat := key 0x2022 0x00
def DEV_I3C_ADDR : Nat := key 0x2030 0x01
def DEV_I3C_CRC_ERR : Nat := key 0x2030 0x02
def DEV_I3C_NACK : Nat := key 0x2030 0x03
def DEV_COMMIT : Nat := key 0x2100 0x00
def DEV_JOINT_AT : Nat := key 0x2101 0x00
def DEV_COMMIT_SCOPE : Nat := key 0x2102 0x00
def DEV_COMMIT_STATE : Nat := key 0x2103 0x01
def DEV_COMMIT_REASON : Nat := key 0x2103 0x02
def DEV_COMMIT_OBJECT : Nat := key 0x2103 0x03
def DEV_COMMIT_SEQ : Nat := key 0x2103 0x04
def DEV_COMMIT_QUOTA : Nat := key 0x2103 0x05
def DEV_JOINT_SERVED : Nat := key 0x2104 0x01
def DEV_JOINT_REQ : Nat := key 0x2104 0x02
def DEV_JOINT_FIRST : Nat := key 0x2104 0x03
def DEV_JOINT_LAST : Nat := key 0x2104 0x04
def DEV_DEFERRED : Nat := key 0x2104 0x05
def DEV_DEFERRED_DROP : Nat := key 0x2104 0x06
def DEV_SCOPE_BUSY : Nat := key 0x2105 0x00
def SEC_OWNER_STATE : Nat := key 0x7200 0x01
def SEC_TAP_LOCKED : Nat := key 0x7200 0x02
def SEC_PROVISION : Nat := key 0x7201 0x00
def SEC_ID_PUBKEY : Nat := key 0x7202 0x01
def SEC_KEY_ID : Nat := key 0x7202 0x02
def SEC_CERT_SEL : Nat := key 0x7203 0x01
def SEC_CERT_OFFSET : Nat := key 0x7203 0x02
def SEC_CERT_LEN : Nat := key 0x7203 0x03
def SEC_CERT_WORD (j : Nat) : Nat := key 0x7204 (0x01 + j)
def SEC_ANCHOR_WRITE : Nat := key 0x7210 0x00
def SEC_ANCHOR_STAGE_LEN : Nat := key 0x7210 0x01
def SEC_ANCHOR_CMD : Nat := key 0x7211 0x00
def SEC_ANCHOR_ROLE (j : Nat) : Nat := key 0x7212 (0x01 + j)
def SEC_ANCHOR_SET_HASH : Nat := key 0x7213 0x00
def SEC_SVN_IMAGE : Nat := key 0x7220 0x01
def SEC_SVN_FLOOR : Nat := key 0x7220 0x02
def SEC_ATTEST_NONCE : Nat := key 0x7230 0x00
def SEC_ATTEST_CMD : Nat := key 0x7231 0x00
def SEC_ATTEST_STATE : Nat := key 0x7232 0x00
def SEC_ATTEST_WORD (j : Nat) : Nat := key 0x7233 (0x01 + j)
def SEC_OPEN_COUNT : Nat := key 0x7240 0x01
def SEC_OPEN_AUTH_FAIL : Nat := key 0x7240 0x02
def SEC_OPEN_DROP : Nat := key 0x7240 0x03
def SEC_OPEN_NOTIME : Nat := key 0x7240 0x04
def SEC_CUST_ENABLE (j : Nat) : Nat := key 0x7300 (0x01 + j)
def SEC_CUST_RECORDS (j : Nat) : Nat := key 0x7301 (0x01 + j)
def SEC_CUST_MS (j : Nat) : Nat := key 0x7302 (0x01 + j)
def SEC_CUST_SEGMENT (j : Nat) : Nat := key 0x7303 (0x01 + j)
def SEC_CUST_LATE (j : Nat) : Nat := key 0x7304 (0x01 + j)
def TWIN_STATE : Nat := key 0x7100 0x01
def TWIN_REFUSE_REASON : Nat := key 0x7100 0x02
def TWIN_NOT_READY : Nat := key 0x7100 0x03
def TWIN_ENABLE : Nat := key 0x7101 0x00
def TWIN_PEER_ID : Nat := key 0x7102 0x00
def TWIN_ROLE_PREF : Nat := key 0x7103 0x01
def TWIN_REVERT : Nat := key 0x7103 0x02
def TWIN_CMD : Nat := key 0x7104 0x00
def TWIN_CMD_AT : Nat := key 0x7105 0x00
def TWIN_LANES : Nat := key 0x7106 0x01
def TWIN_LINK_VER : Nat := key 0x7106 0x02
def TWIN_PEER_FW : Nat := key 0x7106 0x03
def TWIN_PEER_STATE : Nat := key 0x7106 0x04
def TWIN_SENSE_STATE : Nat := key 0x7106 0x05
def TWIN_HB_AVG : Nat := key 0x7107 0x01
def TWIN_MIRROR_LAT_AVG : Nat := key 0x7107 0x02
def TWIN_READY_SINCE : Nat := key 0x7107 0x03
def TWIN_TAKEOVERS : Nat := key 0x7108 0x01
def TWIN_LAST_TAKEOVER : Nat := key 0x7108 0x02
def TWIN_LAST_CAUSE : Nat := key 0x7108 0x03
def TWIN_YIELDS : Nat := key 0x7108 0x04
def TWIN_SUBST_RETX : Nat := key 0x7109 0x01
def TWIN_MIRROR_LATE : Nat := key 0x7109 0x02
def TWIN_FLOW_MATCH (j : Nat) : Nat := key 0x710A (0x01 + j)
def TWIN_CMD_STATUS : Nat := key 0x710B 0x00
def UPD_STATE : Nat := key 0x7400 0x01
def UPD_LOCK_HOLDER : Nat := key 0x7400 0x02
def UPD_LOCK_IDLE_S : Nat := key 0x7400 0x03
def UPD_LOCK : Nat := key 0x7401 0x00
def UPD_LENGTH : Nat := key 0x7402 0x00
def UPD_OFFSET : Nat := key 0x7403 0x01
def UPD_MISSING : Nat := key 0x7403 0x02
def UPD_DATA : Nat := key 0x7404 0x00
def UPD_VERIFY : Nat := key 0x7405 0x00
def UPD_VERIFY_REASON : Nat := key 0x7406 0x01
def UPD_STAGED_VERSION : Nat := key 0x7406 0x02
def UPD_STAGED_SVN : Nat := key 0x7406 0x03
def UPD_STAGED_HASH : Nat := key 0x7406 0x04
def UPD_ACTIVATE : Nat := key 0x7407 0x00
def UPD_JOURNAL_DONE : Nat := key 0x7408 0x01
def UPD_JOURNAL_PAGES : Nat := key 0x7408 0x02
def UPD_JOURNAL_HASH : Nat := key 0x7408 0x03
def UPD_CONFIRM : Nat := key 0x7409 0x00
def UPD_PROBATION : Nat := key 0x740A 0x01
def UPD_PROBATION_LIMIT_S : Nat := key 0x740A 0x02
def UPD_PROBATION_STARTS : Nat := key 0x740A 0x03
def UPD_LAST_FAIL : Nat := key 0x740A 0x04
def UPD_RESET_LIST (j : Nat) : Nat := key 0x740B (0x01 + j)
def UPD_FMT_MIN : Nat := key 0x740C 0x01
def UPD_FMT_MAX : Nat := key 0x740C 0x02
def UPD_HANDOVER_FMT : Nat := key 0x740C 0x03
def UPD_HANDOVER_MS : Nat := key 0x740D 0x01
def UPD_SOURCE : Nat := key 0x740D 0x02
def UPD_ACTIVATIONS : Nat := key 0x740D 0x03
def PWR_STATE : Nat := key 0x7000 0x00
def PWR_REQ : Nat := key 0x7001 0x00
def PWR_REQ_RESULT : Nat := key 0x7002 0x01
def PWR_QUEUED : Nat := key 0x7002 0x02
def PWR_REFUSE_BLOCK : Nat := key 0x7002 0x03
def PWR_REFUSE_REASON : Nat := key 0x7002 0x04
def PWR_SUSPEND_TICK : Nat := key 0x7002 0x05
def PWR_RESUME_TICK : Nat := key 0x7002 0x06
def PWR_DRAIN_MS : Nat := key 0x7003 0x00
def PWR_LOW_PORTS : Nat := key 0x7004 0x00
def PWR_WAKE_MASK : Nat := key 0x7005 0x01
def PWR_WAKE_AT : Nat := key 0x7005 0x02
def PWR_WAKE_LAST : Nat := key 0x7005 0x03
def PWR_WAKE_IGNORED : Nat := key 0x7005 0x04
def PWR_PVIN_MV : Nat := key 0x7006 0x01
def PWR_IIN_MA : Nat := key 0x7006 0x02
def PWR_PIN_MW : Nat := key 0x7006 0x03
def PWR_VAUX_MV : Nat := key 0x7006 0x04
def PWR_SLICE_MV (j : Nat) : Nat := key 0x7007 (0x01 + j)
def PWR_TJ : Nat := key 0x7008 0x01
def PWR_THERM_EMERG : Nat := key 0x7008 0x02
def PWR_THERM_COUNT : Nat := key 0x7008 0x03
def PWR_FORCED : Nat := key 0x7008 0x04
def PWR_DEFERS : Nat := key 0x7009 0x01
def PWR_REFUSALS : Nat := key 0x7009 0x02
def PWR_W_ENABLE (i : Nat) : Nat := key (0x7010 + 0x8 * i) 0x00
def PWR_W_SOURCE (i : Nat) : Nat := key (0x7011 + 0x8 * i) 0x00
def PWR_W_PERIOD (i : Nat) : Nat := key (0x7012 + 0x8 * i) 0x00
def PWR_W_PHASE (i : Nat) : Nat := key (0x7013 + 0x8 * i) 0x00
def PWR_W_COUNT (i : Nat) : Nat := key (0x7014 + 0x8 * i) 0x00
def PWR_W_BURSTS (i : Nat) : Nat := key (0x7015 + 0x8 * i) 0x01
def PWR_W_HITS (i : Nat) : Nat := key (0x7015 + 0x8 * i) 0x02
def PWR_W_SKIP (i : Nat) : Nat := key (0x7015 + 0x8 * i) 0x03
def PWR_W_LAST (i : Nat) : Nat := key (0x7016 + 0x8 * i) 0x00
def DEV_UPTIME : Nat := key 0x7500 0x01
def DEV_POWER_HOURS : Nat := key 0x7500 0x02
def DEV_START_COUNT : Nat := key 0x7500 0x03
def DEV_RESET_KIND : Nat := key 0x7501 0x01
def DEV_RESET_CAUSE : Nat := key 0x7501 0x02
def DEV_READY_MS : Nat := key 0x7501 0x03
def DEV_START_STEP : Nat := key 0x7501 0x04
def DEV_TJ_SENSOR (j : Nat) : Nat := key 0x7502 (0x01 + j)
def DEV_THERM_DIODE : Nat := key 0x7503 0x01
def DIAG_FENCE_SLICES : Nat := key 0x7F00 0x00
def DIAG_FENCE_PCH (j : Nat) : Nat := key 0x7F01 (0x01 + j)
def DIAG_FENCE_PORTS : Nat := key 0x7F02 0x00
def DIAG_FENCE_CONV : Nat := key 0x7F03 0x00
def DIAG_FENCE_OTHER : Nat := key 0x7F04 0x00
def DIAG_SRAM_REMAP : Nat := key 0x7F05 0x00
def DIAG_RESET : Nat := key 0x7F08 0x00
def DIAG_ALERT_ACK : Nat := key 0x7F09 0x00
def DIAG_ALERT_PENDING : Nat := key 0x7F0A 0x00
def DIAG_ALERT_MERGED : Nat := key 0x7F0B 0x00
def DIAG_LOG_SNAPS : Nat := key 0x7F0C 0x01
def DIAG_LOG_SNAP_LAST : Nat := key 0x7F0C 0x02

end Sys2Proof.Machine.Obj
end

