-- ==== Sys2Proof/Machine/Factors.lean ====
section
/-! DEFINITION. Stored factor sets (R39): what a set holds, its CRC-32, and the sets written at production test. -/

namespace Sys2Proof.Machine

/-- n octets of a number, most significant first. -/
def toOctets (n v : Nat) : List Nat := (List.range n).map fun i => v / 256 ^ (n - 1 - i) % 256

/-- CRC-32 of IEEE 802.3 over one more octet, least significant bit first. -/
def crc32Octet (r o : Nat) : Nat :=
  [0, 1, 2, 3, 4, 5, 6, 7].foldl (fun r i =>
    let b := (r % 2 == 1) != bitOf o i
    if b then Nat.xor (r / 2) 0xEDB88320 else r / 2) r

/-- CRC-32 of IEEE 802.3 over octets. -/
def crc32 (l : List Nat) : Nat := Nat.xor (l.foldl crc32Octet 0xFFFFFFFF) 0xFFFFFFFF

/-- A stored factor set (R39): its 256 factors by kind and sub-converter, its sequence number, the TIME80 and Tj at completion, the
firmware version and the stored CRC-32. An empty place holds no factors. -/
structure FactorSet where
  seq : Nat := 0
  time : Nat := 0
  tj : Int := 0
  fw : Nat := 0
  off : List Int := []
  gain : List Int := []
  skew : List Int := []
  bw : List Int := []
  crc : Nat := 0
  deriving DecidableEq, Repr, Inhabited

/-- The octets of a set that its CRC covers: their order and widths are the model's (log entry 58). -/
def FactorSet.octets (f : FactorSet) : List Nat :=
  ((f.off ++ f.gain ++ f.skew ++ f.bw).map fun x => toOctets 5 (ofI 36 x)).flatten ++
    toOctets 4 f.seq ++ toOctets 10 f.time ++ toOctets 5 (ofI 36 f.tj) ++ toOctets 5 f.fw

/-- The set with its CRC-32. -/
def FactorSet.seal (f : FactorSet) : FactorSet := { f with crc := crc32 f.octets }

/-- A set is valid when its CRC is correct (R40). -/
def FactorSet.valid (f : FactorSet) : Bool := !f.off.isEmpty && f.crc == crc32 f.octets

/-- What production test stores of a channel, under a sequence number (R39): the factors, time and Tj are the engine's own. -/
def productionSet (ch seq : Nat) : FactorSet :=
  let l (kind : Nat) := (List.range 64).map (Config.factoryFactor ch kind)
  FactorSet.seal
    { seq := seq, time := (Config.factoryFactor ch 4 0).toNat % 2 ^ 80, tj := Config.factoryFactor ch 5 0
      fw := (Config.factoryFactor ch 6 0).toNat % 2 ^ 36, off := l 0, gain := l 1, skew := l 2, bw := l 3 }

end Sys2Proof.Machine
end

