-- ==== Sys2Proof/Machine/State.lean ====
section
/-! DEFINITION. The engine's state as plain data: the object dictionary's values, the queues, buffers, engines and
sequencers the chapters describe, the reasons a step can stop, and the state after reset. -/

namespace Sys2Proof.Machine

/-- Why a step stops. The manual gives every command an effect, so no meaning raises this; it is kept so that the
outcome type is closed. Safe: it is never answered. -/
inductive Fault where
  /-- Raised by no meaning. Safe. -/
  | none
  deriving DecidableEq, Repr

/-- Why a command is refused. -/
inductive Refusal where
  /-- Raised by an arm of exec whose command has no meaning yet. Safe: nothing can be proved of a refused command. -/
  | notModelled (mnemonic : String)
  deriving DecidableEq, Repr

/-- Stored values by key, strictly rising, none equal to what an unlisted key reads as. -/
abbrev Mem := List (Nat × Nat)

/-- The kinds of unit that a session owns (R342). -/
inductive UKind where
  | converter | tuner | context | integrator | source | mask | sequencer | group | capture | plane | ring | replay
  | mover | flow | layer | plumb | global
  deriving DecidableEq, Repr, Inhabited

/-- One unit. -/
structure UnitId where
  kind : UKind
  i : Nat
  deriving DecidableEq, Repr, Inhabited

/-- An outstanding request (R337): the session, its incarnation, the tag and the object. -/
structure Req where
  sess : Nat
  inc : Nat
  tag : Nat
  key : Nat
  deriving DecidableEq, Repr, Inhabited

/-- A response or notification frame (Table 15.3). -/
structure Frame where
  kind : Nat
  tag : Nat
  status : Nat
  detail : Nat
  idx : Nat
  sub : Nat
  words : List Nat
  deriving DecidableEq, Repr, Inhabited

/-- A record (Table 10.1) with its payload words. -/
structure Record where
  type : Nat
  srcKind : Nat
  srcIndex : Nat
  flags : Nat := 0
  hdrExt : Nat := 0
  tick : Nat
  payload : List Nat := []
  deriving DecidableEq, Repr, Inhabited

/-- An event log entry (Table 15.13). -/
structure LogEntry where
  seq : Nat
  tick : Nat
  cls : Nat
  sess : Nat
  code : Nat
  d5 : Nat := 0
  d6 : Nat := 0
  d7 : Nat := 0
  deriving DecidableEq, Repr, Inhabited

/-- Raisings of one code: the times of those written within the last second, and those merged (R452). -/
structure CodeRate where
  code : Nat
  times : List Nat
  merged : Nat
  deriving DecidableEq, Repr, Inhabited

/-- The event log (R446, R451, R452). -/
structure Log where
  /-- Newest first, at most 4,096. -/
  ring : List LogEntry := []
  /-- The sequence number the next entry takes. -/
  next : Nat := 1
  /-- The reservation mark in MRAM. -/
  mark : Nat := 2 ^ 20
  rates : List CodeRate := []
  /-- The MRAM snapshot area, newest first. -/
  snap : List LogEntry := []
  /-- The MRAM fault area, newest first, at most 2,048. -/
  fault : List LogEntry := []
  /-- Times of the snapshots of the last hour. -/
  snapTimes : List Nat := []
  lastSnap : Nat := 0
  /-- A snapshot is due at once, after a class 3 entry. -/
  due : Bool := false
  /-- Alerts raised since the start. -/
  alerts : Nat := 0
  /-- Tick of the latest alert raised and not acknowledged, as a wall time. -/
  alertAt : Nat := 0
  deriving DecidableEq, Repr, Inhabited

/-- One session (R341 to R345). -/
structure Sess where
  isOpen : Bool := false
  ending : Bool := false
  inc : Nat := 0
  ver : Nat := 0
  role : Nat := 0
  /-- Tags of outstanding requests (R337). -/
  tags : List Nat := []
  /-- Frames waiting for the host, oldest first. -/
  txq : List Frame := []
  /-- Requests received whole and not yet served, and the octets of the one that is arriving (R336). -/
  inbox : List (List Nat) := []
  rx : List Nat := []
  /-- Shadow writes held during a swap (R353), oldest first: key and value. -/
  deferred : List (Nat × Nat) := []
  /-- Staged values at the session's latest validation that are not committed since (R115). -/
  checked : List (Nat × Nat) := []
  /-- Wall time of the last authenticated frame (R344). -/
  heard : Nat := 0
  /-- PS objects written since the last store (R357). -/
  psDirty : List Nat := []
  /-- Wall time of the last store served. -/
  lastStore : Option Nat := none
  /-- Store requests merged into the waiting store, and when it runs. -/
  storeReqs : List Req := []
  storeAt : Option Nat := none
  /-- Tag of a CLOSE request answered OK whose response has not left the engine (R344). -/
  closing : Option Nat := none
  srcIp : Nat := 0
  srcUdp : Nat := 0
  srcMac : Nat := 0
  secret : Nat := 0
  /-- A standby holds the session for its primary (R386). -/
  mirror : Bool := false
  deriving DecidableEq, Repr, Inhabited

/-- A unit's part of a swap: its scope group and its boundary (R352). -/
structure Change where
  group : Nat
  unit : UnitId
  boundary : Nat
  deriving DecidableEq, Repr, Inhabited

/-- A commit or an engine Joint in progress (R350 to R353). -/
structure Swap where
  /-- The model's own number of the swap. -/
  id : Nat
  req : Req
  sess : Nat
  seq : Nat
  groups : Nat
  /-- Validation is still running. -/
  validating : Bool
  served : Nat
  /-- DEV_PVIN_SCALE when the commit was served (R18). -/
  k : Nat := 65536
  /-- The requested tick in force. -/
  reqTick : Nat := 0
  vals : List (Nat × Nat) := []
  /-- Loaded tables that the snapshot holds, by their number. -/
  tables : List (Nat × Mem) := []
  /-- Changes still to apply, each with its boundary. -/
  units : List Change := []
  /-- Boundaries already reported. -/
  done : List Nat := []
  /-- Cause of Table 20.6 for an engine Joint. -/
  cause : Option Nat := none
  /-- Waiting for the standby's receipt since (R386). -/
  receipt : Option Nat := none
  deriving DecidableEq, Repr, Inhabited

/-- The I3C target (R329 to R332, R479). -/
structure I3c where
  /-- ADDR_SEL sampled. -/
  addrSel : Nat := 0
  /-- Requests received and not yet served, at most two. -/
  inbox : List (List Nat) := []
  /-- The controller has disabled the target's interrupts by DISEC. -/
  ibiOff : Bool := false
  /-- An interrupt has been requested since the last private read. -/
  ibi : Bool := false
  /-- Data byte of the latest in-band interrupt. -/
  ibiByte : Nat := 0
  /-- Octets put on the bus by the last private read. -/
  out : List Nat := []
  /-- The last header was acknowledged. -/
  acked : Bool := false
  ddr : Bool := false
  /-- The bus is in an HDR mode that the target does not support (Table 0.7). -/
  hdr : Bool := false
  deriving DecidableEq, Repr, Inhabited

/-- Ownership of a unit: reserved or owned, and by whom (R342). -/
structure Owner where
  unit : UnitId
  sess : Nat
  owned : Bool
  deriving DecidableEq, Repr, Inhabited

/-! ### Streams, flows and rings (chapters 8, 10, 11) -/

/-- A record's place in a flow's word stream. -/
structure RecMark where
  start : Nat
  len : Nat
  tick : Nat
  /-- An IQ or RAW3 record: its payload is read from a history ring. -/
  sampled : Bool := false
  deriving DecidableEq, Repr, Inhabited

/-- A sample word and whether it is overloaded (R66). -/
structure Samp where
  w : Nat
  ovl : Bool := false
  deriving DecidableEq, Repr, Inhabited

/-- A frame of a flow that is not released (R245 to R248, R258). -/
structure TxFrame where
  seq : Nat
  /-- The key epoch in which its SEQ was assigned (R457). -/
  epoch : Nat := 0
  /-- Words of the stream before payload word 0. -/
  pos : Nat
  words : List Nat
  octets : List Nat := []
  firstRec : Nat
  tick : Nat
  /-- Wall time at which the frame closed. -/
  born : Nat := 0
  flushed : Bool := false
  final : Bool := false
  subst : Bool := false
  /-- Transmissions made. -/
  sent : Nat := 0
  /-- Wall time and port of the latest transmission. -/
  lastAt : Nat := 0
  port : Nat := 0
  /-- A retransmission is asked for (R258), and its content has been read again from the Reservoir (R20, R184). -/
  again : Bool := false
  ready : Bool := false
  /-- The standby has acknowledged the log entry of the coming transmission (R387). -/
  logged : Bool := false
  deriving DecidableEq, Repr, Inhabited

/-- A frame put on the wire. -/
structure SentFrame where
  kind : Nat
  flow : Nat
  sess : Nat
  incarn : Nat
  seq : Nat
  /-- The key epoch that it is encrypted under (R457). -/
  epoch : Nat := 0
  tries : Nat
  port : Nat
  flags : Nat
  firstRec : Nat := 0xFFFF
  tick : Nat := 0
  wordPos : Nat := 0
  /-- Device time, integer ns. -/
  sentNs : Nat := 0
  dstMac : Nat := 0
  dstIp : Nat := 0
  dstUdp : Nat := 0
  /-- What the port puts in every frame (R242): its MAC, its tag (PORT_VLAN_ID + 2^16 × PORT_VLAN_PCP), source address and port. -/
  srcMac : Nat := 0
  vlan : Option Nat := none
  srcIp : Nat := 0
  srcUdp : Nat := 0
  /-- The key and the nonce that a DATA or ACK frame is encrypted under (R368, R369). -/
  aesKey : Nat := 0
  nonce : List Nat := []
  words : List Nat := []
  octets : List Nat := []
  deriving DecidableEq, Repr, Inhabited

/-- The custody chain of a flow (R373 to R377). -/
structure Custody where
  on : Bool := false
  seg : Nat := 0
  records : Nat := 0
  firstTick : Nat := 0
  lastTick : Nat := 0
  /-- SEQ + 1 of the frame that holds the first covered word; 0 while it is not cut. -/
  firstSeq : Nat := 0
  startWall : Nat := 0
  /-- Stream position of the first covered word. -/
  startPos : Nat := 0
  /-- Words covered. -/
  words : List Nat := []
  prevHash : Nat := 0
  /-- The segment's close has been postponed, and counted (R375). -/
  late : Bool := false
  deriving DecidableEq, Repr, Inhabited

/-- What a flow holds while it runs (R248 to R266). -/
structure Flow where
  /-- Words entered in this incarnation. -/
  pos : Nat := 0
  /-- Words entered and not yet in a frame, and the wall time the first of them entered. -/
  tail : List Nat := []
  since : Nat := 0
  /-- Stream positions at which words entered, and when: the oldest ones that the tail still holds. -/
  stamps : List (Nat × Nat) := []
  /-- Octets waiting, on a control flow. -/
  ctl : List Nat := []
  /-- Wall time from which a control flow may send again under its 100 Mb/s (R266). -/
  freeAt : Nat := 0
  recs : List RecMark := []
  frames : List TxFrame := []
  /-- A sample record being cut: index of its first sample and the samples. -/
  cutAt : Nat := 0
  cut : List Samp := []
  /-- Records that explain a gap, to enter ahead of the first sample at or after an index. -/
  held : List (Nat × Record) := []
  /-- Records that wait for the sample record being cut, or a record that a mover is writing, to end. -/
  wait : List Record := []
  /-- Words still to come of the record that a mover is writing, and its length. -/
  left : Nat := 0
  len : Nat := 0
  afterGap : Bool := false
  /-- Shed in class 4 (R25). -/
  shed : Bool := false
  /-- The owning session has ended: the flow is freed once drained (R249). -/
  ending : Bool := false
  /-- Latest accepted ACK (R258): its SEQ + 1, 0 for none, and when. -/
  ackSeq : Nat := 0
  ackAt : Nat := 0
  /-- Round trips of the last second: wall time and nanoseconds, newest first. -/
  rtts : List (Nat × Nat) := []
  /-- Lost frames not yet in a gap/loss record (R261): SEQ, first and last record's tick, records. -/
  lost : List (Nat × Nat × Nat × Nat) := []
  lossAlertAt : Option Nat := none
  /-- Token buckets by member: tokens × 2^32 and when last filled (R254). -/
  tokens : List Nat := []
  tokenAt : Nat := 0
  /-- Next time anchor and status record due (R235, R236). -/
  anchorAt : Nat := 0
  statusAt : Nat := 0
  /-- DEV_SHED_ACTIVE and the alerts raised as of the latest status record. -/
  statShed : Nat := 0
  statAlerts : Nat := 0
  /-- First tick of the incarnation's records. -/
  from_ : Nat := 0
  /-- Receive side (R264): next SEQ in order, highest received, octets received in order, frames held out of order, the SEQ
  of the next ACK, the wall time of the oldest frame not acknowledged, the port of the latest frame and its SENT. -/
  rxNext : Nat := 0
  rxHigh : Nat := 0
  rxWords : List Nat := []
  rxHeld : List (Nat × List Nat) := []
  rxAckSeq : Nat := 0
  rxSince : Option Nat := none
  rxPort : Nat := 0
  rxSent : Nat := 0
  custody : Custody := {}
  /-- Records carry SUBSTITUTED (R394). -/
  subst : Bool := false
  /-- Session and incarnation of the key under which INCARN counts (R251). -/
  keyOf : Option (Nat × Nat) := none
  /-- Wall time from which the 1 s of R263 counts. -/
  liveAt : Nat := 0
  /-- SEQ of a frame that leaves before any retransmission of the flow (R394). -/
  first : Option Nat := none
  /-- Key epochs (R368, R457): of the next DATA frame and the next ACK sent, of the next DATA frame expected and of the latest ACK
  accepted. -/
  epoch : Nat := 0
  ackEpoch : Nat := 0
  rxEpoch : Nat := 0
  rxAckEpoch : Nat := 0
  /-- The owning session's pseudo-random key: kept until the flow's draining ends, and erased then (R368, R370). -/
  secret : Nat := 0
  deriving DecidableEq, Repr, Inhabited

/-- One written line of a history ring, or a run of wholly withheld lines: line number of the first (absolute index
divided by 64), how many, allocation number, words, and 0 whole, 1 PART_WITHHELD, 2 WHOLLY_WITHHELD (R180). -/
structure Line where
  no : Nat
  n : Nat := 1
  alloc : Nat := 0
  words : List (Nat × Samp) := []
  flag : Nat := 0
  deriving DecidableEq, Repr, Inhabited

/-- A history ring and its writer (R179 to R187). -/
structure Ring where
  pans : List Nat := []
  /-- Ticks from one position to the next of a tuner ring's samples. -/
  step : Nat := 0
  /-- First label the writer may write. -/
  startAt : Nat := 0
  /-- Lines waiting on the controller, oldest first. -/
  buf : List Line := []
  /-- The line being filled, and the samples got with their place in it. -/
  cur : Option Nat := none
  got : List (Nat × Samp) := []
  /-- The line after the last one filled: lines from it to the next sample's have no sample and are withheld (R180). None where
  the writer starts or resumes. -/
  next : Option Nat := none
  /-- Lines written and not overwritten, newest first. -/
  lines : List Line := []
  /-- Side area, oldest first. -/
  side : List Record := []
  /-- Raw rings: the word being filled, and whether a sample of it is overloaded. -/
  rawAt : Option Nat := none
  raw : List (Nat × Nat) := []
  rawOvl : Bool := false
  /-- The engine has taken over: its records carry SUBSTITUTED (R394). -/
  subst : Bool := false
  panic : Nat := 0
  /-- Number of the last line written, plus 1. -/
  lastNo : Nat := 0
  deriving DecidableEq, Repr, Inhabited

/-- One waiting Reservoir request: requester identifier (R184) and whether it reads. -/
structure Rq where
  id : Nat
  read : Bool
  /-- The flow frame that a re-read serves: flow and SEQ. -/
  frame : Option (Nat × Nat) := none
  /-- The command that made the request has told what it read. -/
  told : Bool := false
  deriving DecidableEq, Repr, Inhabited

/-- A tracked row of a bank (R189). -/
structure RowCount where
  bank : Nat
  row : Nat
  count : Nat
  deriving DecidableEq, Repr, Inhabited

/-- A requester's targeted refreshes of one row within a window (R190). -/
structure RowCause where
  id : Nat
  bank : Nat
  row : Nat
  n : Nat
  throttled : Bool
  /-- Wall time of the requester's latest activation while throttled. -/
  last : Nat
  deriving DecidableEq, Repr, Inhabited

/-- A pseudo-channel (R177, R189 to R196). -/
structure Pch where
  inService : Bool := true
  failed : Bool := false
  queue : List Rq := []
  /-- Requests that wait with their requesters for a place, oldest first. -/
  waiting : List Rq := []
  rows : List RowCount := []
  causes : List RowCause := []
  window : Nat := 0
  /-- Wall times of the latest uncorrectable bursts. -/
  ue : List Nat := []
  powerDown : Bool := false
  idleSince : Nat := 0
  retrainAt : Nat := 0
  retrainTemp : Int := 0
  /-- The retraining that is due has been counted as waiting for panic 2. -/
  deferred : Bool := false
  postponed : Nat := 0
  trr : Nat := 0
  deriving DecidableEq, Repr, Inhabited

/-- A small ring (R183): pan, first word in it, words, and the object whose use it serves. -/
structure SmallRing where
  pan : Nat
  off : Nat
  words : Nat
  owner : Nat
  deriving DecidableEq, Repr, Inhabited

/-- A replay slot at work (R197 to R199). -/
structure Replay where
  /-- Next line to read and last label. -/
  at_ : Nat := 0
  last : Nat := 0
  first : Nat := 0
  cut : List Samp := []
  cutAt : Nat := 0
  /-- Side records up to this tick have been delivered. -/
  sideTo : Nat := 0
  /-- Wall time at which the next line may be read (R197). -/
  nextAt : Nat := 0
  /-- Lines of one cause waiting to be named together: first, last, cause, count. -/
  run : Option (Nat × Nat × Nat × Nat) := none
  opened : Bool := false
  /-- The next sample record is the first after a gap. -/
  afterGap : Bool := false
  aborting : Bool := false
  /-- A line has been read. -/
  begun : Bool := false
  /-- Side records with a tick below the first label that have been delivered for the labels they name. -/
  early : List Record := []
  deriving DecidableEq, Repr, Inhabited

/-- The Reservoir (chapter 8). -/
structure Reservoir where
  rings : List Ring := List.replicate 20 {}
  pch : List Pch := List.replicate 128 {}
  /-- Pseudo-channels in service at the last start, ascending: the layout (R178). -/
  layout : List Nat := []
  small : List SmallRing := []
  /-- Words of the small rings and buffers, by word address. -/
  mem : Mem := []
  /-- Words of the SRAM staging area (R28), by word address in it. -/
  staging : Mem := []
  replays : List Replay := List.replicate 16 {}
  /-- Refresh: next due time by stack. -/
  refreshAt : List Nat := List.replicate 4 0
  scrubAt : Nat := 0
  trained : Bool := false
  deriving DecidableEq, Repr, Inhabited

/-- A mover channel (chapter 9): its descriptor slots by 8 × slot + word, the beats of the slot in progress already moved,
what was lost since the start (0 the buffer, 1 + l a layer's, 5 + f flow f), and the firmware's retry. -/
structure Mover where
  slots : Mem := []
  beat : Nat := 0
  gone : List Nat := []
  /-- Beats beyond a failing one that were already written. -/
  ahead : Nat := 0
  /-- A halt is taking effect: the beats below this one have been read, their writes are not all answered. -/
  halt : Option Nat := none
  retried : Bool := false
  deriving DecidableEq, Repr, Inhabited

/-- What a port holds (R242 to R255): frames received and not yet dispatched, oldest first; answers to ARP and neighbour
requests, and acknowledgements of flows, waiting to be sent; and the DATA frames sent in the current second. -/
structure PortRt where
  rxq : List RxFrame := []
  /-- Step 1 of R254, oldest first: (4, MAC) an ARP reply, (6, MAC) an ND reply, (2, flow) an ACK. -/
  replies : List (Nat × Nat) := []
  /-- What left in the last 1 ms, newest first: wall time, octets on the wire and whether it was a retransmission. -/
  sends : List (Nat × Nat × Bool) := []
  secAt : Nat := 0
  secN : Nat := 0
  /-- The SerDes transmit queue (R9): what it held, in 1/64 octets, at a wall time. -/
  txFill : Nat := 0
  txAt : Nat := 0
  deriving DecidableEq, Repr, Inhabited

/-- An OPEN being reassembled (R366): its source, when its first segment came, the segments and how many there are. -/
structure OpenAsm where
  srcIp : Nat
  srcUdp : Nat
  srcMac : Nat
  port : Nat
  firstAt : Nat
  segs : List (Nat × List Nat) := []
  total : Option Nat := none
  deriving DecidableEq, Repr, Inhabited
/-- A table loaded entry by entry through a write object (R81, R125, R274): its staged and
committed entries, and the applied ones with the label from which they hold and their size, newest first. -/
structure Load where
  staged : Mem := []
  com : Mem := []
  force : List (Nat × Nat × Mem) := []
  deriving DecidableEq, Repr, Inhabited


/-! ### Triggering (chapter 6). A position is held as tick × 2^16 + POS_FINE. -/

/-- An event at a position (Table 6.3) with the mark flags it causes: bit 1 AFTER_GAP, 2 LATE, 4 TWIN, 6 FORCED. -/
structure TEvent where
  pos : Nat
  code : Nat
  flags : Nat := 0
  deriving DecidableEq, Repr, Inhabited

/-- A source's run of its condition (R122). -/
structure SrcRun where
  /-- Position up to which every input is taken; held below an unqualified run (R119). -/
  horizon : Nat := 0
  on : Bool := false
  run : Nat := 0
  runAt : Nat := 0
  runFlags : Nat := 0
  qualified : Bool := false
  /-- A gap has been passed: the next run carries AFTER_GAP (R129). -/
  afterGap : Bool := false
  /-- The previous input: label and power. -/
  prev : Option (Nat × Nat) := none
  deriving DecidableEq, Repr, Inhabited

/-- A source's configuration. -/
structure SrcCfg where
  /-- First tick at which it holds. -/
  since : Nat := 0
  kind : Nat := 0
  input : Nat := 0
  dir : Nat := 0
  thresh : Nat := 68718166016
  hyst : Nat := 0
  width : Nat := 1
  holdoff : Nat := 512
  mask : Nat := 0
  maskTest : Nat := 1
  minBins : Nat := 1
  timeFirst : Nat := 0
  timePeriod : Nat := 0
  st : SrcRun := {}
  deriving DecidableEq, Repr, Inhabited

/-- A trigger source (R116 to R129). -/
structure Source where
  /-- Configurations, newest first; inputs labelled below a change keep the old one (R138). -/
  cfgs : List SrcCfg := []
  /-- Changes of level, newest first. -/
  levels : List (Nat × Bool) := []
  /-- The input is in a gap (R129). -/
  gap : Bool := false
  lastEvent : Option Nat := none
  /-- Future software events (R128). -/
  forced : List Nat := []
  /-- Next time event. -/
  nextTime : Option Nat := none
  deriving DecidableEq, Repr, Inhabited

/-- The marks of an origin within a 1 ms window (R143). -/
structure MarkBudget where
  window : Nat := 0
  count : Nat := 0
  alerted : Bool := false
  suppressed : Nat := 0
  deriving DecidableEq, Repr, Inhabited

/-- A sequencer (R130 to R137). -/
structure Seqr where
  pend : List TEvent := []
  /-- Every position below this is processed. -/
  doneTo : Nat := 0
  /-- Events at positions below this came while it did not run and are none of its own (R136 to R138). -/
  from_ : Nat := 0
  /-- Expiry positions of timers 0 to 3. -/
  timers : List (Option Nat) := List.replicate 4 none
  expired : List Bool := List.replicate 4 false
  inputGap : Bool := false
  bud : MarkBudget := {}
  deriving DecidableEq, Repr, Inhabited

/-- A group's waiting arm, disarm or candidate. -/
structure GrpItem where
  pos : Nat
  /-- 0 arm, 1 disarm, 2 candidate. -/
  what : Nat
  seq : Nat := 0
  event : TEvent := default
  deriving DecidableEq, Repr, Inhabited

/-- An arming group (R139, R140). -/
structure Group where
  armed : Bool := false
  items : List GrpItem := []
  bud : MarkBudget := {}
  deriving DecidableEq, Repr, Inhabited

/-- A TRIG_OUT pin (R146, R147): pending launches with their widths, level, end of the pulse. -/
structure OutPin where
  queue : List (Nat × Nat) := []
  high : Bool := false
  until_ : Nat := 0
  deriving DecidableEq, Repr, Inhabited

/-- An accepted capture segment: its triggering mark, T and segment number. -/
structure CapSeg where
  mark : Record
  t : Nat
  no : Nat
  deriving DecidableEq, Repr, Inhabited

/-- A capture unit (R148, R149). -/
structure Capture where
  /-- Triggers at positions below this tick are ignored. -/
  threshold : Nat := 0
  accepted : Nat := 0
  segs : List CapSeg := []
  deriving DecidableEq, Repr, Inhabited

/-- Triggering. -/
structure Trig where
  sources : List Source := List.replicate 32 {}
  seqs : List Seqr := List.replicate 16 {}
  groups : List Group := List.replicate 4 {}
  outs : List OutPin := List.replicate 4 {}
  caps : List Capture := List.replicate 4 {}
  /-- Levels of TRIG_IN0 to 3 by their stamped edges, and the stamps of the last 1 µs. -/
  inLevel : List Bool := List.replicate 4 false
  stamps : List (List Nat) := List.replicate 4 []
  deriving DecidableEq, Repr, Inhabited
/-! ### The Crystallizer (chapter 7) -/

/-- A column set: its label and its LOGP36 values (R108). -/
structure ColSet where
  label : Nat
  /-- Its tokens' tag (R10). -/
  tag : Nat := 0
  cols : List Nat
  deriving DecidableEq, Repr, Inhabited

/-- A Harvest: boundary, number, geometry, format, column sets, header flags and the cells by 2,048 × row + column. -/
structure Harvest where
  b : Nat := 0
  seq : Nat := 0
  cols : Nat := 0
  rows : Nat := 0
  format : Nat := 0
  sets : Nat := 0
  flags : Nat := 0
  cells : Mem := []
  deriving DecidableEq, Repr, Inhabited

/-- A density plane (R154 to R174). -/
structure Plane where
  cells : Mem := []
  /-- Column sets waiting, in ascending label. -/
  sets : List ColSet := []
  /-- The next grid boundary to take. -/
  next : Nat := 0
  /-- Column sets labelled below the Joint that enabled the plane are none of its own (R173, R174). -/
  from_ : Nat := 0
  /-- Boundaries at which a clear is due, ascending. -/
  clearAt : List Nat := []
  /-- SEQ of its column sets so far (R11). -/
  seq : Nat := 0
  /-- The restoration's shed record, whose tick is the label of the first column set formed after it (R171). -/
  back : Option Record := none
  harvAt : Option Nat := none
  reading : Option Harvest := none
  /-- The newest complete Harvest. -/
  last : Option Harvest := none
  /-- Bound flows with the stream position at which the last Harvest ends. -/
  staged : List (Nat × Nat) := []
  since : Nat := 0
  sawShed : Bool := false
  sawGap : Bool := false
  cleared : Bool := false
  shed : Bool := false
  deriving DecidableEq, Repr, Inhabited

/-! ### Converters and tuners (chapters 2 and 3) -/

/-- A token (R10): its tag word and payload words. -/
structure Token where
  tag : Nat
  words : List Nat := []
  deriving DecidableEq, Repr, Inhabited

/-- What tracking has seen of a channel since a kind's latest update (R31, R44): samples of blocks without a saturated one, and the
sum of their squares. -/
structure TrackSum where
  n : Nat := 0
  power : Nat := 0
  deriving DecidableEq, Repr, Inhabited

/-- A calibration in progress: its withheld interval, and whether the channel is powered for it only. -/
structure Cal where
  start : Nat
  end_ : Nat
  powered : Bool := false
  /-- Abandoned: reason CLOCK or POWER; data stays withheld. -/
  abandoned : Bool := false
  deriving DecidableEq, Repr, Inhabited

/-- A converter channel (R30 to R46). -/
structure Chan where
  /-- Blocks entered and not yet taken by the fabric. -/
  fill : Nat := 0
  /-- Blocks entered, newest first: the support of tuner outputs. -/
  hist : List Token := []
  /-- The latest block converted: its number, its last raw code and the raw code that follows it (R33). -/
  lastRaw : Option (Nat × Int × Int) := none
  /-- Every tick below this has entered, or is withheld or dropped. -/
  entered : Nat := 0
  nextBlock : Nat := 0
  /-- First block allowed after the channel is enabled (R36). -/
  firstAt : Nat := 0
  started : Bool := false
  /-- Withheld since, and whether for a clock cause. -/
  withheld : Option (Nat × Bool) := none
  /-- Tick at which data resumes, once nothing withholds it. -/
  resumeAt : Nat := 0
  /-- The clock withholds. -/
  clockHold : Bool := false
  cal : Option Cal := none
  /-- Requests that wait for this channel's calibration: the request, whether it is CONV_CAL_ALL's. -/
  calReqs : List Req := []
  calDefers : Nat := 0
  /-- Sets A and B in MRAM. -/
  sets : List FactorSet := [{}, {}]
  pointer : Nat := 0
  storing : Option FactorSet := none
  /-- Status bits for the next block. -/
  status : Nat := 0
  /-- Predicted boundaries whose check failed: the block that holds one carries bit 3. -/
  slips : List Nat := []
  /-- A run of dropped blocks: first tick and how many. -/
  drops : Option (Nat × Nat) := none
  trackAt : List Nat := [0, 0, 0]
  /-- What each kind's next update looks at. -/
  track : List TrackSum := List.replicate 3 {}
  /-- The board path in force (R53): whole ticks by which labels are shifted, and the trim of the sampling phase, fs. -/
  shift : Nat := 0
  trim : Int := 0
  shed : Bool := false
  deriving DecidableEq, Repr, Inhabited

/-- CONV_CAL_ALL, a SYNC alignment and a board path measurement in progress. -/
structure ConvGlobal where
  /-- The CONV_CAL_ALL request, its channels still to finish, and whether one has failed. -/
  all : Option (Req × List Nat × Bool) := none
  /-- ALIGN: request, mode before, deadline as a wall time, whether a grid was held. -/
  align : Option (Req × Nat × Nat) := none
  /-- The grid held: its epoch, a tick on a boundary. -/
  grid : Option Nat := none
  /-- Next boundary to check. -/
  nextCheck : Nat := 0
  /-- Next boundary at which SYNC_OUT pulses. -/
  nextOut : Nat := 0
  /-- SYNC_OUT pulse: rise and fall ticks of the latest. -/
  syncOut : Option (Nat × Nat) := none
  /-- Board path measurement: request, wall time of its end. -/
  skew : Option (Req × Nat) := none
  /-- Calibrations that wait for a planned handover (R398): request, channels, whether it is CONV_CAL_ALL's. -/
  calWait : List (Req × List Nat × Bool) := []
  /-- The tick index counts (from converter synthesiser lock on). -/
  counts : Bool := false
  deriving DecidableEq, Repr, Inhabited

/-- A tuner's configuration from its Joint J on. -/
structure TunCfg where
  j : Nat := 0
  freq : Nat := 0
  phase : Nat := 0
  d : Nat := 1
  deriving DecidableEq, Repr, Inhabited

/-- A withheld span of labels: a Joint's kerf, a converter interval's kerf or the interval itself, which a converter
interval or gap/loss record names (R68 to R70). -/
structure Withheld where
  first : Nat
  last : Nat
  joint : Option Nat := none
  named : Option Record := none
  deriving DecidableEq, Repr, Inhabited

/-- A tuner (R59 to R72). -/
structure Tuner where
  /-- Configurations, newest first. -/
  cfgs : List TunCfg := []
  on : Bool := false
  startAt : Nat := 0
  /-- Labels from this one on are not delivered: the tuner is being disabled. -/
  stopAt : Option Nat := none
  /-- Labels below this are delivered or withheld. -/
  at_ : Nat := 0
  withheld : List Withheld := []
  /-- Uninterrupted samples on one grid, newest first, and the label of the newest. -/
  run : List Samp := []
  newest : Nat := 0
  /-- D of the samples in the history ring. -/
  ringD : Nat := 0
  deriving DecidableEq, Repr, Inhabited


/-! ### The clock and the Plumb unit (chapters 13 and 14). A position is held as tick × 2^16 + fraction. -/

/-- A planned change of the nominal frequency (R302, R303). -/
structure ClkChange where
  req : Req
  ref : Nat
  hz : Nat
  at_ : Nat
  deriving DecidableEq, Repr, Inhabited

/-- The master synthesiser and its references. -/
structure Clk where
  /-- Wall time of the latest bridged edge of the active reference (R293). -/
  missAt : Option Nat := none
  /-- Wall time since which each reference has been PRESENT. -/
  presentAt : List (Option Nat) := [none, none]
  /-- The reference the loop locks or pulls in to. -/
  target : Nat := 0
  /-- Wall times: acquisition began, holdover began, the master locked. -/
  acquireAt : Option Nat := none
  holdAt : Nat := 0
  lockAt : Nat := 0
  /-- Holdover has passed 24 h (R298). -/
  long : Bool := false
  /-- Correction of the frozen tuning word, ppb, applied from Tj every 10 ms; next due wall time. -/
  trim : Int := 0
  trimAt : Nat := 0
  change : Option ClkChange := none
  /-- First tick of the gated span (R301), the master not locked. -/
  gatedAt : Option Nat := none
  /-- The limit of R297 has passed in this acquisition. -/
  late : Bool := false
  /-- The latest lock waits for its boundary: the tick at which the gate opens (R304). -/
  openAt : Option Nat := none
  /-- Tick index of the latest restart of the modulator (R296). -/
  seededAt : Nat := 0
  /-- End of the jitter test, as a wall time (R306). -/
  testAt : Option Nat := none
  deriving DecidableEq, Repr, Inhabited

/-- A piece of device time: from `start` on, T = time + (position − start) × num / (den × 2^16), in 2^−16 ns. -/
structure Piece where
  start : Nat
  time : Nat
  num : Nat := 2048
  den : Nat := 1
  deriving DecidableEq, Repr, Inhabited

/-- Settings of the TDC for starts from `since` on (R318). -/
structure TdcCfg where
  since : Nat := 0
  on : Bool := false
  startIn : Nat := 0
  startEdge : Nat := 0
  startAt : Nat := 0
  period : Nat := 0
  mask : Nat := 0
  stopEdge : Nat := 0
  stopsMax : Nat := 64
  window : Nat := 320000
  mode1 : Bool := false
  deriving DecidableEq, Repr, Inhabited

/-- A stamped stop: position, input code, direction, and whether the master was gated. -/
structure Stop where
  pos : Nat
  input : Nat
  rising : Bool
  clock : Bool
  deriving DecidableEq, Repr, Inhabited

/-- A stamped start: position, whether the master was gated or in holdover. -/
structure StartEdge where
  pos : Nat
  clock : Bool
  hold : Bool
  deriving DecidableEq, Repr, Inhabited

/-- A queued measurement: interval and STOPINFO of each stop (R317). -/
structure Meas where
  seq : Nat
  start : Nat
  flags : Nat
  stops : List (Int × Nat)
  deriving DecidableEq, Repr, Inhabited

/-- The counter's settings. -/
structure CntCfg where
  since : Nat := 0
  on : Bool := false
  div : Nat := 1
  gate : Nat := 32000000
  deriving DecidableEq, Repr, Inhabited

/-- A gate's exact sums (R321): points, sums of n, t, n² and n × t, first and last count; flags. -/
structure Gate where
  start : Nat := 0
  n : Nat := 0
  sn : Nat := 0
  st : Nat := 0
  snn : Nat := 0
  snt : Nat := 0
  firstN : Nat := 0
  lastN : Nat := 0
  div : Nat := 1
  flags : Nat := 0
  deriving DecidableEq, Repr, Inhabited

/-- The Plumb unit (R308 to R328). -/
structure Plumb where
  /-- Newest first. -/
  pieces : List Piece := [⟨0, 0, 2048, 1⟩]
  cfgs : List TdcCfg := []
  starts : List StartEdge := []
  /-- Unconsumed stops, by stamp and then input. -/
  stops : List Stop := []
  /-- Wall position of the latest stamped edge, by input code. -/
  lastEdge : List (Option Nat) := List.replicate 10 none
  /-- Positions of edges lost to dead time. -/
  deads : List Nat := []
  nextStart : Option Nat := none
  queue : List Meas := []
  seq : Nat := 0
  cnt : List CntCfg := []
  gate : Option Gate := none
  /-- Count of the latest point taken. -/
  lastPoint : Option Nat := none
  /-- Wall time of the latest prescaled edge. -/
  cntSeen : Nat := 0
  /-- The latest accepted PPS edge, and the second it stands for. -/
  pps : Option Nat := none
  second : Nat := 0
  /-- Consecutive rejected edges that agree, newest first, and consecutive missed seconds. -/
  rejects : List Nat := []
  misses : Nat := 0
  /-- Seconds given by PLMB_TOD_NEXT, not yet used; whether the time of day has been given. -/
  tod : Option Nat := none
  todSet : Bool := false
  /-- The 1588 client: device time of the server minus the engine's, latest 16 s, newest first: wall time, offset, round
  trip, in ns × 2^16. -/
  ptp : List (Nat × Int × Nat) := []
  ptpBad : Nat := 0
  /-- |e| of the latest accepted edge, fs, and the wall time of it. -/
  err : Nat := 0
  goodAt : Nat := 0
  /-- PPS_OUT: the next whole second to rise at, and the tick at which the pulse ends. -/
  ppsHigh : Option Nat := none
  ppsNext : Nat := 0
  deriving DecidableEq, Repr, Inhabited
/-! ### The lattice and the detectors (chapters 4 and 5) -/

/-- A context's configuration (R76, R90) from a start label on. -/
structure CtxCfg where
  since : Nat := 0
  on : Bool := false
  source : Nat := 0
  sizeLog2 : Nat := 10
  hop : Nat := 256
  phase : Nat := 0
  winType : Nat := 1
  winParam : Nat := 0
  uwin : Mem := []
  format : Nat := 0
  every : Nat := 1
  binFirst : Int := 0
  binCount : Nat := 0
  /-- XFM_WIN_ENBW of the window. -/
  enbw : Nat := 98304
  /-- The context's generation under it (R12). -/
  gen : Nat := 0
  deriving DecidableEq, Repr, Inhabited

/-- A frame whose samples are all delivered (R77, R79): start label, decimation, its configuration, the samples in
order, and the transform slot's unit once it is dispatched (R94). -/
structure Frm where
  label : Nat
  d : Nat
  cfg : CtxCfg
  samples : List Samp
  /-- The tag of its tokens, which share one SEQ (R10). -/
  tag : Nat := 0
  /-- Its place in the order in which frames of all contexts were formed, and so ask for slots (R15). -/
  req : Nat := 0
  dispatched : Bool := false
  deriving DecidableEq, Repr, Inhabited

/-- What a context has yet to release, in order: a frame, or a gap with the records that explain it. -/
inductive CtxItem where
  | frame (f : Frm)
  | gap (first last : Nat) (recs : List Record)
  deriving DecidableEq, Repr, Inhabited

/-- A transform context at work (R76 to R95). -/
structure Ctx where
  /-- Configurations, newest first. -/
  cfgs : List CtxCfg := []
  items : List CtxItem := []
  /-- SEQ of its frames so far (R11). -/
  seq : Nat := 0
  /-- Start labels up to this one are counted as skipped. -/
  skipTo : Option Nat := none
  /-- A run of frames skipped for want of a slot (R93): first, last, how many. -/
  stag : Option (Nat × Nat × Nat) := none
  /-- The next spectrum record is the first after a gap. -/
  afterGap : Bool := false
  shed : Bool := false
  deriving DecidableEq, Repr, Inhabited

/-- A detector block's configuration: it takes frames labelled from `since` to below `until_`, column sets from
`colSince` (R111). -/
structure DetCfg where
  since : Nat := 0
  colSince : Nat := 0
  /-- Frames from this label on belong to no product of this configuration. -/
  until_ : Option Nat := none
  colUntil : Option Nat := none
  period : Nat := 3200000
  binFirst : Int := 0
  binCount : Nat := 0
  avgMode : Nat := 0
  avgKind : Nat := 0
  avgShift : Nat := 4
  holdMode : Nat := 0
  holdReset : Nat := 1
  outFormat : Nat := 3
  pkK : Nat := 0
  pkInput : Nat := 0
  pkThresh : Nat := 68713578496
  pkSep : Nat := 0
  sgPoints : Nat := 1024
  sgMode : Nat := 0
  colPlane : Nat := 255
  colCount : Nat := 2048
  colMode : Nat := 0
  colPeriod : Nat := 0
  /-- Integrators that name the context: number, first and last bin, ascending. -/
  ints : List (Nat × Int × Int) := []
  deriving DecidableEq, Repr, Inhabited

/-- A reduction in progress (R107): one value per output, and how many frames entered. -/
structure Red where
  acc : List Int := []
  n : Nat := 0
  deriving DecidableEq, Repr, Inhabited

/-- The period in progress (R101). -/
structure PerAcc where
  start : Nat
  /-- Frames, and their transform size. -/
  n : Nat := 0
  size : Nat := 0
  ovl : Bool := false
  partial_ : Bool := false
  /-- Sums of the averaged quantity, one per bin; for vector mean the real parts, then the imaginary parts. -/
  sums : List Int := []
  /-- Sums of the integrators' values. -/
  bands : List Int := []
  sg : Red := {}
  deriving DecidableEq, Repr, Inhabited

/-- What a block has formed and not yet released: a period's records by product, or records that explain a gap. -/
inductive DetItem where
  | period (recs : List (Nat × Record)) (bands : List (Nat × Nat × Nat))
  | explain (recs : List Record)
  deriving DecidableEq, Repr, Inhabited

/-- A detector block at work (R100 to R112). -/
structure Det where
  cfgs : List DetCfg := []
  /-- First label of the configuration that the states below belong to. -/
  gen : Nat := 0
  /-- Frames labelled below this are released or skipped. -/
  covered : Nat := 0
  cur : Option PerAcc := none
  /-- Configurations of the column sets, newest first, and the number plus 1 of the swap that gave the newest (R111). -/
  colCfgs : List DetCfg := []
  colSwap : Nat := 0
  /-- Exponential averages with 32 further fractional bits, uninitialised when empty, and whether a frame of theirs was overloaded. -/
  expo : List Int := []
  expoOvl : Bool := false
  maxH : List Nat := []
  minH : List Nat := []
  /-- A frame of the maxima or of the minima was overloaded. -/
  maxOvl : Bool := false
  minOvl : Bool := false
  /-- Ticks at which hold clears were served; each waits for the first period boundary above. -/
  clearAt : List Nat := []
  colAt : Option Nat := none
  col : Red := {}
  colOvl : Bool := false
  /-- Transform size of the frames in the column set. -/
  colSize : Nat := 0
  out : List DetItem := []
  /-- Product codes whose next record carries AFTER_GAP. -/
  afterGap : List Nat := []
  /-- Products shed (class 3), those that lost their store in a slice (R113), and restored and lost ones with the period boundary at which
  they resume (R112). -/
  shed : List Nat := []
  gone : List Nat := []
  resume : List (Nat × Nat) := []
  /-- Latest record of each product, for the scan-out's traces (R277). -/
  latest : List (Nat × Record) := []
  deriving DecidableEq, Repr, Inhabited

/-! ### The scan-out (chapter 12) -/

/-- The scan-out at work (R269 to R287). -/
structure Scan where
  /-- The frame of the latest latch is to be sent or is being sent: its next active line, and the wall time of its latch. -/
  sending : Bool := false
  line : Nat := 0
  at_ : Nat := 0
  /-- The frame shows the background alone: the scan-out was shed at its latch. -/
  blank : Bool := false
  /-- CRC-32 register over the pixel octets of the lines sent. -/
  crc : Nat := 0xFFFFFFFF
  /-- A frame whose pad check is due: number, the compositor's CRC, wall time. -/
  check : Option (Nat × Nat × Nat) := none
  /-- The run of lines with missing pixels in progress: ticks of its first and last line, and lines. -/
  run : Option (Nat × Nat × Nat) := none
  /-- Pixels of the latest line sent, RGB. -/
  pixels : List Nat := []
  /-- Records the traces draw, as of the latch. -/
  traces : List (Option Record) := List.replicate 4 none
  /-- The small rings' words as of the latch. -/
  words : Mem := []
  /-- The half of the density buffer shown, the render into the other half, whether it is complete, and the plane and number
  of the Harvest rendered last. -/
  half : Nat := 0
  render : Option Harvest := none
  rendered : Bool := false
  last : Option (Nat × Nat) := none
  /-- Wall times of the latest accepted TE edge and of the end of the latest transfer. -/
  te : Option Nat := none
  free_ : Nat := 0
  /-- Layers released, to be disabled at the next latch (R273, R281). -/
  drop : List Nat := []
  /-- Lines of the frame fetched from the Reservoir, and the panic level of the reader (R186, R283). -/
  fetched : Nat := 0
  panic : Nat := 0
  deriving DecidableEq, Repr, Inhabited


/-! ### Shedding (chapter 1) -/

/-- A shed unit (Table 1.9): class, unit number, product for class 3, cause and owning session (Table 10.11). -/
structure ShedUnit where
  cls : Nat
  unit : Nat
  product : Nat := 0
  cause : Nat := 0
  sess : Nat := 254
  deriving DecidableEq, Repr, Inhabited

/-- What R26 and R27 look at. -/
structure Shedding where
  /-- Units shed, newest first. -/
  units : List ShedUnit := []
  /-- Wall time since which a slice's slack has been below 2 % with its core at 0.80 V. -/
  lowSince : List (Option Nat) := List.replicate 8 none
  /-- Wall time since which every slice's slack has been at or above 10 %. -/
  highSince : Option Nat := some 0
  /-- Slices whose slack was last below 10 %. -/
  below10 : List Bool := List.replicate 8 false
  /-- The input current averaged over 10 µs is at or above 100 A. -/
  current : Bool := false
  /-- Wall times: the next step allowed, the last time a condition of R26 held, the next restoration. -/
  nextStep : Nat := 0
  troubleAt : Nat := 0
  nextRestore : Nat := 0
  deriving DecidableEq, Repr, Inhabited
/-! ### Power (chapter 19) -/

/-- A power request at work (R426): its target, the session's request where one made it, and a return that a wake started. -/
structure PwrReq where
  target : Nat
  req : Option Req := none
  deriving DecidableEq, Repr, Inhabited

/-- A WATCH program as read at entry (R433), and its latest burst. -/
structure Program where
  source : Nat := 0
  period : Nat := 320000000
  phase : Nat := 0
  count : Nat := 64
  on : Bool := false
  /-- The next wake tick. -/
  next : Nat := 0
  /-- The wake tick of the burst that runs. -/
  burst : Option Nat := none
  deriving DecidableEq, Repr, Inhabited

/-- The power controller (R418 to R436). -/
structure Pwr where
  /-- Between X and Y: the data path is suspended (R424). -/
  suspended : Bool := false
  /-- Step of Table 19.5 in progress: 0 none, 1 S1, 2 S2 (X is set), 3 suspended at X and units stopping, 4 S3, 5 S4, 6 R1, 7 R2 (Y is set). -/
  step : Nat := 0
  /-- The request carried out, one that supersedes it at the next abort point, and the queued one (R430). -/
  cur : Option PwrReq := none
  newer : Option PwrReq := none
  queue : Option PwrReq := none
  /-- A forced DORMANT: blocks do not stop it (R428). -/
  forced : Bool := false
  /-- Handshake rows still to grant: row, DEFER answers so far, wall time at which it is asked again (R427). -/
  asks : List (Nat × Nat × Nat) := []
  /-- The low state the engine leaves or has reached: 2 HOLD, 3 WATCH, 4 DORMANT. -/
  low : Nat := 0
  /-- DEV_STATE before X: 2 READY or 3 SERVICE. -/
  wasState : Nat := 2
  /-- Wall times of X and of the begin of S3. -/
  suspendedAt : Nat := 0
  drainAt : Nat := 0
  /-- A wake event abandons the entry at its next abort point (R431). -/
  wake : Bool := false
  /-- The content of the Reservoir was lost in DORMANT. -/
  cold : Bool := false
  /-- PWR_WAKE_AT whose wake has come, and the wake tick of a hit whose wake waits for other bursts (R435). -/
  timed : Nat := 0
  hitAt : Option Nat := none
  /-- Units that the suspension stopped, named again at Y (R424). -/
  shed : List ShedUnit := []
  programs : List Program := List.replicate 4 {}
  /-- Wall time at which the thermal emergency began. -/
  emergAt : Option Nat := none
  deriving DecidableEq, Repr, Inhabited

/-! ### Identity and trust (chapter 16) -/

/-- An attestation report that is being formed: its request and nonce (R371). -/
structure Attest where
  req : Req
  nonce : Nat
  deriving DecidableEq, Repr, Inhabited

/-- Owner anchors and reports (R362, R371). -/
structure Sec where
  /-- Words of the sessions' staged certificates: session × 4,096 + slot × 512 + word offset. -/
  stage : Mem := []
  /-- Octets of the installed certificates, by slot; empty for an empty slot. -/
  certs : List (List Nat) := List.replicate 8 []
  /-- Wall time of the latest anchor command (R461). -/
  lastCmd : Option Nat := none
  /-- Reports being formed, by session. -/
  forming : List (Option Attest) := List.replicate 8 none
  deriving DecidableEq, Repr, Inhabited

/-! ### Firmware replacement (chapter 18) -/

/-- The journal in MRAM (R409): an open one names its image and where it came from. -/
structure Journal where
  image : ImageInfo
  pages : Nat
  /-- Value of UPD_ACTIVATE; 0 in loader service. -/
  mode : Nat := 0
  source : Nat := 0
  deriving DecidableEq, Repr, Inhabited

/-- What replaces the firmware (R403 to R417). -/
structure Upd where
  /-- From the journal close to the end of the handover (R410). -/
  closed : Bool := false
  /-- Wall time of the holder's latest UPD_ write. -/
  heard : Nat := 0
  /-- Staged blocks by block number, each value + 1. -/
  blocks : Mem := []
  /-- The staged image once verified. -/
  image : Option ImageInfo := none
  /-- UPD_VERIFY or UPD_ACTIVATE, outstanding. -/
  req : Option Req := none
  /-- The image that a value of UPD_ACTIVATE waits to write until a planned handover completes (R408). -/
  waits : Option ImageInfo := none
  /-- The open journal, kept in MRAM. -/
  journal : Option Journal := none
  /-- The image in force, none for the factory's; whether it is confirmed, and marked failed. Kept in MRAM. -/
  inForce : Option ImageInfo := none
  confirmed : Bool := true
  failed : Bool := false
  /-- Wall time of the latest journal close. -/
  closedAt : Option Nat := none
  /-- The next start is the first on the image in force (R415). -/
  fresh : Bool := false
  /-- Consecutive starts on probation, and consecutive watchdog resets, that did not reach READY (R411, R449). -/
  starts : Nat := 0
  dogs : Nat := 0
  /-- Formats in which the persistent groups are stored, by group (R415). -/
  formats : List Nat := List.replicate 19 1
  deriving DecidableEq, Repr, Inhabited

/-! ### Start-up (chapter 20) -/

/-- The start in progress, and what the board sees of it (R437 to R449). -/
structure Start where
  /-- VAUX and PVIN are valid; RESET_N is in its low phase. -/
  vaux : Bool := false
  pvin : Bool := false
  resetLow : Bool := false
  /-- The kind and cause of the latest reset (Table 20.4), other than an interface reset. -/
  kind : Nat := 0
  cause : Nat := 0
  /-- Wall times: the start began, PVIN became valid, the control set was ready, READY was reached. -/
  begun : Nat := 0
  upSince : Option Nat := none
  setAt : Nat := 0
  readyAt : Option Nat := none
  /-- The image is loaded (P3); self-test has ended (P5). -/
  loaded : Bool := false
  tested : Bool := false
  /-- START_SLOW was raised. -/
  slow : Bool := false
  pwrgd : Bool := false
  /-- ALERT_N is held low by a failed control set; its retries, and when the next may be made. -/
  alertHeld : Bool := false
  retries : Nat := 0
  retryAt : Nat := 0
  /-- SRAM lost from stream staging or the transform pool leaves no measuring set (R445). -/
  noSet : Bool := false
  /-- An undervoltage shutdown is to be logged at this start. -/
  under : Bool := false
  /-- Wall time at which the latest start record is written; DEV_START_COUNT and the starts on probation before it (R461). -/
  recAt : Nat := 0
  recOld : Nat × Nat := (0, 0)
  /-- Token check failures by slice: their wall times within the last second (R444). -/
  tokens : List (List Nat) := List.replicate 8 []
  deriving DecidableEq, Repr, Inhabited

/-! ### The twin (chapter 17) -/

/-- A planned handover (R398, R400): its tick and the reason of the source-change record. -/
structure Handover where
  at_ : Nat
  reason : Nat := 1
  deriving DecidableEq, Repr, Inhabited

/-- A transmission log entry (R387). -/
structure TxLog where
  flow : Nat
  seq : Nat
  tries : Nat
  wordPos : Nat
  len : Nat
  firstRec : Nat
  tick : Nat
  port : Nat
  deriving DecidableEq, Repr, Inhabited

/-- A heartbeat as sent (R391): role, readiness, applied commit, TWIN_SENSE, ns since the latest one received. -/
structure Beat where
  role : Nat
  ready : Bool
  cseq : Nat
  sense : Bool
  sinceNs : Nat
  deriving DecidableEq, Repr, Inhabited

/-- The Tenon link and the pair (R380 to R401). -/
structure Twin where
  /-- The peer's HELLO, once accepted and until its failure is declared. -/
  peer : Option PeerHello := none
  /-- Wall times of the latest heartbeat received and sent, and the latest sent. -/
  heard : Nat := 0
  sentAt : Nat := 0
  beat : Option Beat := none
  /-- Nanoseconds since the peer last heard this engine, as its heartbeats say, the commit it has applied and its readiness. -/
  peerSince : Nat := 0
  peerCseq : Nat := 0
  peerReady : Bool := false
  /-- The twin's own floors in the order of 2200h, empty while unpaired (R385). -/
  peerFloors : List Nat := []
  /-- Steps of R390 complete, and J_s: on the primary, of the snapshot that it has sent. -/
  steps : Nat := 0
  js : Option Nat := none
  /-- A declared failure that waits for the guard of R393: the wall time of its end. -/
  guard : Option Nat := none
  /-- A takeover is due: its reason. -/
  due : Option Nat := none
  handover : Option Handover := none
  detachAt : Option Nat := none
  /-- Log entries of the primary whose frames this engine's own streams have yet to reach, oldest first. -/
  log : List TxLog := []
  /-- Log entries sent and not acknowledged: flow, SEQ, TRY and wall time. -/
  logWait : List (Nat × Nat × Nat × Nat) := []
  /-- Flows that have diverged (R389). -/
  diverged : List Nat := []
  /-- Frames whose retransmission is handed to the standby (R397), with their flow. -/
  subst : List (Nat × TxFrame) := []
  /-- The primary's records that wait for their place: flow, word position, record (R386). -/
  entered : List (Nat × Nat × Record) := []
  /-- Flows whose stream here stands at the primary's word positions, and the first SEQ that this engine holds of each (R390). -/
  begun : List Nat := []
  synced : List (Nat × Nat) := []
  /-- Fault messages sent: the reason of each, newest first. -/
  faults : List Nat := []
  /-- The answer to the twin's latest request for the image in force (R413): sent or refused. -/
  imageSent : Option Bool := none
  /-- Wall times of the heartbeats received, and the round trips of log entries with their ends, of the last second (R391, R387). -/
  beats : List Nat := []
  trips : List (Nat × Nat) := []
  /-- Units of mirrored items that this engine's firmware does not offer (R401). -/
  unoffered : List UnitId := []
  deriving DecidableEq, Repr, Inhabited


/-- The engine. -/
structure State where
  /-- The tick index (R48). -/
  tick : Nat := 0
  /-- Converter periods since power came; it never jumps. -/
  wall : Nat := 0
  /-- How many free values have been used: the model's own field. -/
  free : Nat := 0
  /-- Commands waiting, first in, first out. -/
  pending : List Instr := []
  /-- Values of the dictionary's objects; for SH objects the value in force. -/
  obj : Mem := []
  /-- Committed values of SH objects (R348). -/
  com : Mem := []
  /-- Staged values, by session and key, held as value + 1 (R348). -/
  staged : Mem := []
  /-- Persistent values stored to MRAM, held as value + 1 (R357). -/
  mram : Mem := []
  log : Log := {}
  sess : List Sess := List.replicate 8 {}
  i3c : I3c := {}
  swaps : List Swap := []
  /-- Number the next swap takes: the model's own field. -/
  swapId : Nat := 0
  /-- Number the next commit takes (DEV_COMMIT_SEQ). -/
  commits : Nat := 1
  owners : List Owner := []
  flows : List Flow := List.replicate 256 {}
  /-- Frames put on the wire, newest first. -/
  wire : List SentFrame := []
  rsv : Reservoir := {}
  /-- Loaded tables: 0 to 15 the masks, 16 to 47 the contexts' user windows, 48 to 51 the layers' palettes. -/
  loads : List Load := List.replicate 52 {}
  trig : Trig := {}
  planes : List Plane := List.replicate 8 {}
  /-- At production test set A of each channel was written, with sequence number 1 (R39). -/
  chans : List Chan := (List.range 4).map fun ch => { sets := [productionSet ch 1, {}] }
  conv : ConvGlobal := {}
  tuners : List Tuner := List.replicate 16 {}
  ctxs : List Ctx := List.replicate 32 {}
  dets : List Det := List.replicate 32 {}
  shed : Shedding := {}
  /-- Configuration generations of units, modulo 4 (R12). -/
  gens : List (UnitId × Nat) := []
  /-- Frames formed so far, of all contexts. -/
  formed : Nat := 0
  twin : Twin := {}
  clk : Clk := {}
  plumb : Plumb := {}
  ports : List PortRt := List.replicate 28 {}
  opens : List OpenAsm := []
  /-- Wall times of the OPENs served in the last second (R367). -/
  openTimes : List Nat := []
  /-- Next tick at which the rings' side areas take a time anchor (R235). -/
  anchorAt : Nat := 0
  /-- Manifests signed in the current second: its wall time and how many (R375). -/
  signed : Nat × Nat := (0, 0)
  movers : List Mover := List.replicate 96 {}
  scan : Scan := {}
  pwr : Pwr := {}
  upd : Upd := {}
  sec : Sec := {}
  start : Start := {}
  deriving DecidableEq, Repr, Inhabited

/-- The machine right after reset: cold, before VAUX is valid. -/
def State.reset : State := {}

end Sys2Proof.Machine
end

