-- ==== Sys2Proof/Machine/Ops.lean ====
section
/-! DEFINITION. The shared operations over the state: the stores, counters, free values, the event log and alerts
(R451 to R453), sessions' frames and answers (R334, R337, R340), the request checks (R338), staging (R348) and
ownership (R342). -/

namespace Sys2Proof.Machine

/-! ## Stores -/

/-- The value listed at a key. -/
def Mem.look : Mem → Nat → Option Nat
  | [], _ => none
  | (a, v) :: m, k => if a = k then some v else Mem.look m k

/-- The value a store reads at a key, where unlisted keys read as `d` says. -/
def Mem.get (d : Nat → Nat) (m : Mem) (k : Nat) : Nat := (m.look k).getD (d k)

/-- The store without a key. -/
def Mem.erase : Mem → Nat → Mem
  | [], _ => []
  | (a, v) :: m, k => if a = k then Mem.erase m k else (a, v) :: Mem.erase m k

/-- The store with a key listed at a value, in its place. -/
def Mem.ins : Mem → Nat → Nat → Mem
  | [], k, v => [(k, v)]
  | (a, w) :: m, k, v =>
    if k < a then (k, v) :: (a, w) :: m else if a = k then (k, v) :: m else (a, w) :: Mem.ins m k v

/-- Write `v` at `k`: the value an unlisted key reads as removes the entry. -/
def Mem.set (d : Nat → Nat) (m : Mem) (k v : Nat) : Mem := if v = d k then m.erase k else m.ins k v

/-- Keys rise strictly from `lo` on and no entry holds what an unlisted key reads as. -/
def Mem.wfFrom (d : Nat → Nat) : Nat → Mem → Bool
  | _, [] => true
  | lo, (a, v) :: m => Nat.ble lo a && !(v == d a) && Mem.wfFrom d (a + 1) m

/-- The canonical form. -/
def Mem.wf (d : Nat → Nat) (m : Mem) : Bool := Mem.wfFrom d 0 m

/-- Unlisted keys read as zero: memories, presence maps (a present value v is held as v + 1). -/
def zeroDflt : Nat → Nat := fun _ => 0

/-- What a command's meaning answers: the next state. The queue of waiting commands is no command's business, and a
command takes no time: time passes on an empty queue (log entry 15). -/
def done (s t : State) : Host.Outcome State Fault Refusal := .next { t with pending := s.pending, wall := s.wall }

/-! ## Numbers -/

/-- a / b rounded up; 0 when b is 0. -/
def ceilDiv (a b : Nat) : Nat := (a + b - 1) / b

/-- The first multiple of m at or above a. -/
def roundUp (a m : Nat) : Nat := ceilDiv a m * m

/-- i / d rounded to nearest, halves to even (convergent rounding). -/
def roundConv (i : Int) (d : Nat) : Int :=
  let q := i / (d : Int)
  let r := 2 * (i % (d : Int))
  if r < d then q else if (d : Int) < r then q + 1 else if q % 2 = 0 then q else q + 1

/-- i held to lo .. hi. -/
def clampI (lo hi i : Int) : Int := if i < lo then lo else if hi < i then hi else i

/-- Floor of the base-2 logarithm; 0 at 0. -/
def log2 (n : Nat) : Nat := Nat.log2 n

/-- The element at i, or the default. -/
def at' {α : Type} [Inhabited α] (l : List α) (i : Nat) : α := l.getD i default

/-- Of what has come into force, newest first, each from a tick on: what can still apply to a label above `t`. -/
def recent {α : Type} (since : α → Nat) (t : Nat) : List α → List α
  | [] => []
  | x :: l => x :: (if since x ≤ t then [] else recent since t l)

/-- 2^40 ticks (34 s) before the tick index: every sample and frame of an earlier label has been released, the longest frame lasting
2^37 ticks. -/
def State.settled (s : State) : Nat := s.tick - 2 ^ 40

/-- Bits set in the lowest n bits of m, in rising order. -/
def bitList (m n : Nat) : List Nat := (List.range n).filter fun i => bitOf m i

/-- m with bit i set or cleared. -/
def setBit (m i : Nat) (b : Bool) : Nat := if bitOf m i == b then m else if b then m + 2 ^ i else m - 2 ^ i

/-- 1 for true. -/
def b2n (b : Bool) : Nat := if b then 1 else 0

/-- Ticks of 31.25 ps in a second, a millisecond and a microsecond. -/
def tps : Nat := 32000000000
def tpms : Nat := 32000000
def tpus : Nat := 32000

/-! ## Dictionary values -/

/-- The value of an object (in force, for SH objects). -/
def State.rd (s : State) (k : Nat) : Nat := s.obj.get dflt k

/-- Write an object's value. -/
def State.wr (s : State) (k v : Nat) : State := { s with obj := s.obj.set dflt k v }

/-- A value read as two's complement of 36 bits. -/
def State.rdI (s : State) (k : Nat) : Int := toI 36 (s.rd k)

/-- Write a signed value in 36 bits. -/
def State.wrI (s : State) (k : Nat) (i : Int) : State := s.wr k (ofI 36 i)

/-- A BOOL object. -/
def State.rdB (s : State) (k : Nat) : Bool := s.rd k == 1

/-- Write several objects in order. -/
def State.wrAll (s : State) (l : List (Nat × Nat)) : State := l.foldl (fun s p => s.wr p.1 p.2) s

/-- Add n to a counter that saturates at 2^32 − 1. -/
def State.countN (s : State) (k n : Nat) : State := s.wr k (min (2 ^ 32 - 1) (s.rd k + n))

/-- Add 1 to a counter that saturates at 2^32 − 1. -/
def State.count (s : State) (k : Nat) : State := s.countN k 1

/-- Raise an object to v if it reads less. -/
def State.peak (s : State) (k v : Nat) : State := s.wr k (max (s.rd k) v)

/-- The committed value of an SH object (R348). -/
def State.rdc (s : State) (k : Nat) : Nat := s.com.get dflt k

/-- Put a committed value. -/
def State.wrc (s : State) (k v : Nat) : State := { s with com := s.com.set dflt k v }

/-- A session's copy of a per-session object (R359). -/
def sk (sess k : Nat) : Nat := sess * 2 ^ 24 + k

/-- The objects of R359 and R378 that read and write the requesting session's values. -/
def perSession (k : Nat) : Bool :=
  let i := k / 256
  let b := k % 256
  i == 0x1002 || (i == 0x2010 && b == 2) || i == 0x2011 || i == 0x2021 || i == 0x2022 ||
  (Nat.ble 0x2100 i && Nat.ble i 0x2105) || i == 0x2202 || i == 0x2203 || (i == 0x4015 && b == 1) ||
  (i == 0x680C && b == 2) || (i == 0x7002 && b == 1) || i == 0x7203 || i == 0x7204 || i == 0x7210 ||
  (Nat.ble 0x7230 i && Nat.ble i 0x7233)

/-- The key under which a session's access to k is kept. -/
def sessKey (sess k : Nat) : Nat := if perSession k then sk sess k else k

/-- A session's staged value of an SH object: written, else committed (R348). -/
def State.staging (s : State) (sess k : Nat) : Nat :=
  match s.staged.get zeroDflt (sk sess k) with
  | 0 => s.rdc k
  | v + 1 => v

/-- The session has written a staged value. -/
def State.hasStaged (s : State) (sess k : Nat) : Bool := s.staged.get zeroDflt (sk sess k) != 0

/-- The keys a session has staged, with their values. -/
def State.stagedOf (s : State) (sess : Nat) : List (Nat × Nat) :=
  (s.staged.filter fun p => p.1 / 2 ^ 24 == sess).map fun p => (p.1 % 2 ^ 24, p.2 - 1)

/-- Drop staged values of a session that the test names. -/
def State.dropStaged (s : State) (sess : Nat) (p : Nat → Bool) : State :=
  { s with
    staged := (s.stagedOf sess).foldl
      (fun m kv => if p kv.1 then m.set zeroDflt (sk sess kv.1) 0 else m) s.staged }

/-! ## Free values -/

/-- The next free value of this run. -/
def State.freeN (s : State) : Nat := Config.freeNat s.free

/-- The next free value as a signed number. -/
def State.freeI (s : State) : Int := Config.freeInt s.free

/-- n free values are used. -/
def State.used (s : State) (n : Nat) : State := { s with free := s.free + n }

/-! ## Types (R5) -/

/-- Words of a type (Table 0.4). -/
def Ty.words : Ty → Nat
  | .u64 => 2 | .i64 => 2 | .time80 => 3
  | .blob n => ceilDiv n 4
  | _ => 1

/-- Bits a type's value spans in the model's numbers. -/
def Ty.bits : Ty → Nat
  | .bool => 1 | .u8 => 8 | .enum8 => 8 | .u16 => 16 | .u32 => 32 | .u36 => 36 | .i36 => 36 | .pow36 => 36
  | .logp36 => 36 | .u64 => 64 | .i64 => 64 | .time80 => 80
  | .blob n => 8 * n

/-- The words of a value (Table 0.4); TIME80 is held as nanoseconds × 2^16 + fraction. -/
def Ty.encode (t : Ty) (v : Nat) : List Nat :=
  match t with
  | .u64 => [v / 2 ^ 36 % 2 ^ 28, v % 2 ^ 36]
  | .i64 => [v / 2 ^ 36 % 2 ^ 28 + (if v / 2 ^ 63 % 2 = 1 then 255 * 2 ^ 28 else 0), v % 2 ^ 36]
  | .time80 => [v / 2 ^ 16 / 2 ^ 36 % 2 ^ 28, v / 2 ^ 16 % 2 ^ 36, v % 2 ^ 16]
  | .blob n =>
    let w := ceilDiv n 4
    let p := v * 2 ^ (8 * (4 * w - n))
    (List.range w).map fun i => p / 2 ^ (32 * (w - 1 - i)) % 2 ^ 32
  | _ => [v % 2 ^ 36]

/-- The value of a WRITE's words, none where R5 answers TYPE. -/
def Ty.decode (t : Ty) (ws : List Nat) : Option Nat :=
  match t, ws with
  | .u64, [a, b] => if a < 2 ^ 28 ∧ b < 2 ^ 36 then some (a * 2 ^ 36 + b) else none
  | .i64, [a, b] =>
    let v := a % 2 ^ 28 * 2 ^ 36 + b
    if b < 2 ^ 36 ∧ a / 2 ^ 28 = (if v / 2 ^ 63 % 2 = 1 then 255 else 0) then some v else none
  | .time80, [a, b, c] =>
    if a < 2 ^ 28 ∧ b < 2 ^ 36 ∧ c < 2 ^ 16 then some ((a * 2 ^ 36 + b) * 2 ^ 16 + c) else none
  | .pow36, [a] => if a < 2 ^ 36 ∧ (a = 0 ∨ 2 ^ 29 ≤ a / 64) then some a else none
  | .blob n, ws =>
    let w := ceilDiv n 4
    let pad := 8 * (4 * w - n)
    let p := ws.foldl (fun acc x => acc * 2 ^ 32 + x) 0
    if ws.length = w ∧ ws.all (fun x => Nat.blt x (2 ^ 32)) = true ∧ p % 2 ^ pad = 0 then some (p / 2 ^ pad) else none
  | t, [a] => if t.words = 1 ∧ a < 2 ^ t.bits then some a else none
  | _, _ => none

/-- The value lies in the object's range (step 7 of Table 15.5). -/
def Rng.ok (r : Rng) (t : Ty) (v : Nat) : Bool :=
  match r with
  | .any => true
  | .between lo hi => Nat.ble lo v && Nat.ble v hi
  | .zeroOr lo hi => v == 0 || (Nat.ble lo v && Nat.ble v hi)
  | .zeroOrMult m lo hi => v == 0 || (v % m == 0 && Nat.ble lo v && Nat.ble v hi)
  | .multUpTo m hi => v % m == 0 && Nat.ble v hi
  | .upToOr hi x => Nat.ble v hi || v == x
  | .sbetween lo hi => decide (lo ≤ toI t.bits v ∧ toI t.bits v ≤ hi)
  | .bits m => Nat.land v m == v
  | .lowPorts => Nat.blt v (2 ^ 28) && Nat.ble (bitList v 28).length 2

/-! ## Sessions' frames -/

/-- Status codes (Table 15.4). -/
inductive Status where
  | ok | accepted | deferred | busy | locked | noObject | denied | type | range | refusedCommit | version | internal
  deriving DecidableEq, Repr, Inhabited

/-- The code of a status (Table 15.4). -/
def Status.code : Status → Nat
  | .ok => 0 | .accepted => 1 | .deferred => 2 | .busy => 3 | .locked => 4 | .noObject => 5 | .denied => 6
  | .type => 7 | .range => 8 | .refusedCommit => 9 | .version => 10 | .internal => 11

/-- The session's record. -/
def State.ses (s : State) (i : Nat) : Sess := at' s.sess i

/-- Change a session's record. -/
def State.updSes (s : State) (i : Nat) (f : Sess → Sess) : State := { s with sess := s.sess.modify i f }

/-- The engine is a standby (R383). -/
def State.isStandby (s : State) : Bool := s.rd Obj.TWIN_STATE == 4 || s.rd Obj.TWIN_STATE == 5

/-- The engine has a twin over the link (R382). -/
def State.paired (s : State) : Bool := s.twin.peer.isSome

/-- Queue a frame for a session's host. The primary answers the sessions that a standby mirrors (R386). -/
def State.queue (s : State) (sess : Nat) (f : Frame) : State :=
  if (s.ses sess).mirror then s else s.updSes sess fun x => { x with txq := x.txq ++ [f] }

/-- A response frame to a request (Table 15.3). -/
def State.respond (s : State) (sess tag key : Nat) (st : Status) (detail : Nat := 0) (words : List Nat := []) : State :=
  s.queue sess ⟨0x80, tag, st.code, detail, key % 2 ^ 24 / 256, key % 256, words⟩

/-- The final answer to a request that is being served. -/
def State.answer (s : State) (r : Req) (st : Status) (detail : Nat := 0) (words : List Nat := []) : State :=
  s.respond r.sess r.tag r.key st detail words

/-- ACCEPTED: the request stays outstanding (R337). -/
def State.accept (s : State) (r : Req) : State :=
  (s.answer r .accepted).updSes r.sess fun x => { x with tags := x.tags ++ [r.tag] }

/-- The request is still outstanding in the session that made it. -/
def State.live (s : State) (r : Req) : Bool :=
  (s.ses r.sess).isOpen && (s.ses r.sess).inc == r.inc && (s.ses r.sess).tags.contains r.tag

/-- Tags of a session's requests that have arrived and wait to be served. -/
def State.waitingTags (s : State) (sess : Nat) : List Nat :=
  (if sess = 0 then s.i3c.inbox else (s.ses sess).inbox).map fun o => o.getD 1 0

/-- The tag of an outstanding request (R337): one answered ACCEPTED, or one that waits. -/
def State.tagTaken (s : State) (sess tag : Nat) : Bool := (s.ses sess).tags.contains tag || (s.waitingTags sess).contains tag

/-- Outstanding requests of a session (R337). -/
def State.requests (s : State) (sess : Nat) : Nat := (s.ses sess).tags.length + (s.waitingTags sess).length

/-- The final response of a request answered ACCEPTED; dropped with its session (R337, R344). -/
def State.finish (s : State) (r : Req) (st : Status) (detail : Nat := 0) : State :=
  if s.live r then
    (s.answer r st detail).updSes r.sess fun x => { x with tags := x.tags.erase r.tag }
  else s

/-- Notifications waiting for a session. -/
def Sess.waiting (x : Sess) : Nat := (x.txq.filter fun f => f.kind == 0x90).length

/-- Send a notification to a session (R340). Codes 1, 3 and 4 need their bit of DEV_NOTIFY_MASK. -/
def State.notify (s : State) (sess code detail : Nat) (words : List Nat) : State :=
  let bit := if code = 1 then 0 else if code = 3 then 1 else 2
  if !(s.ses sess).isOpen || (code != 2 && !bitOf (s.rd (sk sess Obj.DEV_NOTIFY_MASK)) bit) then s
  else if Nat.ble 64 (s.ses sess).waiting then s.count (sk sess Obj.DEV_NOTIFY_LOST)
  else s.queue sess ⟨0x90, 0, code, detail, 0, 0, words⟩

/-! ## Event log and alerts -/

/-- The words of a 64-bit value. -/
def words64 (v : Nat) : List Nat := Ty.u64.encode v

/-- The rate record of a code. -/
def Log.rateOf (l : Log) (code : Nat) : CodeRate := (l.rates.find? fun r => r.code == code).getD ⟨code, [], 0⟩

/-- Replace a code's rate record. -/
def Log.setRate (l : Log) (r : CodeRate) : Log :=
  { l with rates := r :: l.rates.filter fun x => x.code != r.code }

/-- Write an entry, numbered next (R446, R451): the ring holds the latest 4,096; a class 3 entry goes to the fault
area too and makes a snapshot due. -/
def Log.write (l : Log) (tick cls sess code d5 d6 d7 : Nat) : Log :=
  let e : LogEntry := ⟨l.next, tick, cls, sess, code, d5, d6, d7⟩
  { l with
    ring := (e :: l.ring).take 4096
    next := l.next + 1
    mark := if Nat.ble (l.next + 1 + 2 ^ 16) l.mark then l.mark else l.mark + 2 ^ 20
    fault := if cls = 3 then (e :: l.fault).take 2048 else l.fault
    due := l.due || cls == 3 }

/-- ALERT to every open session (R340, R452). -/
def State.alertAll (s : State) (code : Nat) : State :=
  (List.range 8).foldl (fun s i => s.notify i 4 0 [code]) s

/-- An event of the catalogue (R452, R453): at most 10 entries of a code in a second, the next entry carrying the
number merged in word 7; an entry of class 2 or 3 is an alert. -/
def State.event (s : State) (cls sess code : Nat) (d5 : Nat := 0) (d6 : Nat := 0) (d7 : Nat := 0) : State :=
  let r := s.log.rateOf code
  let recent := r.times.filter fun t => Nat.blt s.wall (t + tps)
  let s := if Nat.blt recent.length 10 then
      let d := if r.merged = 0 then d7 else r.merged % 2 ^ 32
      let l := (s.log.write s.tick cls sess code d5 d6 d).setRate ⟨code, s.wall :: recent, 0⟩
      ({ s with log := l }.wr Obj.DEV_LOG_NEWEST s.log.next).wr Obj.DEV_LOG_OLDEST ((l.ring.getLast?.map LogEntry.seq).getD 0)
    else ({ s with log := s.log.setRate ⟨code, recent, r.merged + 1⟩ }).count Obj.DIAG_ALERT_MERGED
  if cls < 2 then s
  else
    let s := { s with log := { s.log with alertAt := s.wall, alerts := s.log.alerts + 1 } }
    (((s.count Obj.DEV_ALERT_COUNT).wr Obj.DEV_ALERT_LAST code).wr Obj.DIAG_ALERT_PENDING 1).alertAll code

/-! ## Units and ownership -/

/-- The unit an object belongs to (R342, Table 15.12). -/
def unitOf (k : Nat) : UnitId :=
  let i := k / 256
  if Nat.blt i 0x3000 then ⟨.global, 0⟩
  else if Nat.blt i 0x3400 then
    if Nat.ble 0x30F0 i && Nat.ble i 0x30FF then ⟨.global, 0⟩ else ⟨.converter, (i - 0x3000) / 0x100⟩
  else if Nat.blt i 0x3800 then ⟨.tuner, (i - 0x3400) / 0x40⟩
  else if Nat.blt i 0x4000 then ⟨.context, (i - 0x3800) / 0x40⟩
  else if Nat.ble 0x4010 i && Nat.ble i 0x4012 then ⟨.integrator, k % 256 - 1⟩
  else if Nat.blt i 0x4400 then
    if Nat.ble 16 ((i - 0x4000) % 32) then ⟨.global, 0⟩ else ⟨.context, (i - 0x4000) / 0x20⟩
  else if Nat.blt i 0x4800 then ⟨.sequencer, (i - 0x4400) / 0x40⟩
  else if Nat.blt i 0x4A00 then ⟨.source, (i - 0x4800) / 0x10⟩
  else if Nat.blt i 0x4B00 then ⟨.mask, (i - 0x4A00) / 0x10⟩
  else if Nat.blt i 0x4B40 then ⟨.group, (i - 0x4B00) / 0x10⟩
  else if Nat.blt i 0x4B80 then ⟨.global, 0⟩
  else if Nat.blt i 0x4BC0 then ⟨.capture, (i - 0x4B80) / 0x10⟩
  else if Nat.blt i 0x4C00 then ⟨.global, 0⟩
  else if Nat.blt i 0x5000 then ⟨.plane, (i - 0x4C00) / 0x80⟩
  else if Nat.ble 0x5100 i && Nat.blt i 0x5240 then ⟨.ring, (i - 0x5100) / 0x10⟩
  else if Nat.ble 0x5300 i && Nat.blt i 0x5400 then ⟨.replay, (i - 0x5300) / 0x10⟩
  else if Nat.ble 0x5400 i && Nat.blt i 0x5700 then ⟨.mover, (i - 0x5400) / 8⟩
  else if Nat.ble 0x6000 i && Nat.blt i 0x6800 then ⟨.flow, (i - 0x6000) / 8⟩
  else if Nat.ble 0x6840 i && Nat.blt i 0x6880 then ⟨.layer, (i - 0x6840) / 0x10⟩
  else if Nat.ble 0x6B00 i && Nat.blt i 0x6B30 then ⟨.plumb, 0⟩
  else if Nat.ble 0x7300 i && Nat.ble i 0x7302 && Nat.ble 1 (k % 256) then ⟨.flow, k % 256 - 1⟩
  else ⟨.global, 0⟩

/-- The scope group of an SH object by its prefix (Table 15.8). -/
def groupOf (k : Nat) : Nat :=
  let i := k / 256
  if Nat.blt i 0x3400 then 0 else if Nat.blt i 0x3800 then 1 else if Nat.blt i 0x4000 then 2
  else if Nat.blt i 0x4400 then 3 else if Nat.blt i 0x4C00 then 4 else if Nat.blt i 0x5000 then 5
  else if Nat.blt i 0x5400 then 6 else if Nat.blt i 0x5700 then 7 else if Nat.blt i 0x6800 then 8
  else if Nat.blt i 0x6900 then 9 else 10

/-- The enable object of a unit, where it has one. -/
def enableKey (u : UnitId) : Option Nat :=
  match u.kind with
  | .converter => some (Obj.CONV_ENABLE u.i) | .tuner => some (Obj.TUNE_ENABLE u.i)
  | .context => some (Obj.XFM_ENABLE u.i) | .sequencer => some (Obj.TRIG_SEQ_ENABLE u.i)
  | .group => some (Obj.TRIG_GRP_ENABLE u.i) | .capture => some (Obj.TRIG_CAP_ENABLE u.i)
  | .plane => some (Obj.CRYS_ENABLE u.i) | .ring => some (Obj.RSV_HIST_ENABLE u.i)
  | .flow => some (Obj.FLOW_ENABLE u.i) | .layer => some (Obj.SCAN_L_ENABLE u.i)
  | .plumb => some Obj.PLMB_TDC_ENABLE
  | _ => none

/-- Units owned by claim (R342). -/
def UnitId.claimed (u : UnitId) : Bool :=
  u.kind == .mover || u.kind == .flow || u.kind == .layer || u.kind == .plumb

/-- The unit's ownership entry: an engine-wide object is its own item, kept by its key. -/
def ownId (k : Nat) : UnitId :=
  match unitOf k with
  | ⟨.global, _⟩ => ⟨.global, k⟩
  | u => u

/-- Who owns or has reserved a unit: a session's number, or 8 more than it once that session has ended and its engine
Joint is still to apply (R344). -/
def State.holder (s : State) (u : UnitId) : Option Nat := (s.owners.find? fun o => o.unit == u).map Owner.sess

/-- The unit is owned (not only reserved). -/
def State.isOwned (s : State) (u : UnitId) : Bool := s.owners.any fun o => o.unit == u && o.owned

/-- Set a unit's holder. -/
def State.own (s : State) (u : UnitId) (sess : Nat) (owned : Bool) : State :=
  { s with owners := ⟨u, sess, owned⟩ :: s.owners.filter fun o => o.unit != u }

/-- End a unit's ownership or reservation. -/
def State.disown (s : State) (u : UnitId) : State := { s with owners := s.owners.filter fun o => o.unit != u }

/-! ## Request checks (R338) -/

/-- Steps 1 to 7 of Table 15.5 have passed, or the answer of the first that failed, with DETAIL. -/
inductive Check where
  | pass (r : Row)
  | fail (st : Status) (detail : Nat)
  deriving DecidableEq, Repr

/-- Objects a session writes to an item it does not hold (R342). -/
def isClaim (k : Nat) : Bool :=
  let i := k / 256
  (Nat.ble 0x5400 i && Nat.blt i 0x5700 && k == Obj.MOVE_CLAIM ((i - 0x5400) / 8)) ||
  (Nat.ble 0x6000 i && Nat.blt i 0x6800 && k == Obj.FLOW_CLAIM ((i - 0x6000) / 8)) ||
  (Nat.ble 0x6840 i && Nat.blt i 0x6880 && k == Obj.SCAN_L_CLAIM ((i - 0x6840) / 0x10)) || k == Obj.PLMB_CLAIM

/-- Step 6: no other session owns or has reserved the unit (R342). Calibration and skew commands are exempt, and claims
have answers of their own (R202). -/
def State.ownCheck (s : State) (sess k : Nat) (r : Row) : Option (Status × Nat) :=
  if isClaim k then none else
  let u := ownId k
  let exempt := u.kind == .converter && r.acc == .wo
  let tracked := r.acc == .sh || u.kind != .global
  match s.holder u with
  | some h => if h != sess && tracked && !exempt then some (.locked, h % 8) else none
  | none => if u.claimed then some (.denied, 0) else none

/-- The loader's dictionary (R413): every other index answers NO_OBJECT in device state 6. DEV_COMMIT exists there and
answers BUSY. -/
def loaderObject (k : Nat) : Bool :=
  let i := k / 256
  (Nat.ble 0x1000 i && Nat.ble i 0x20FF) || (Nat.ble 0x7200 i && Nat.ble i 0x74FF) || k == Obj.DEV_COMMIT

/-- Mirrored objects (R384): a standby's own sessions do not write them. -/
def mirrored (k : Nat) (r : Row) : Bool :=
  let i := k / 256
  (Nat.ble 0x3000 i && Nat.blt i 0x6800 && !(Nat.ble 0x5800 i && Nat.blt i 0x5A00) &&
    (r.acc == .sh || (!r.adm && (r.acc == .wo || r.acc == .rw)))) ||
  (Nat.ble 0x1020 i && Nat.ble i 0x1027) || (Nat.ble 0x7300 i && Nat.ble i 0x7302)

/-- Objects that an observer writes too, to request a report (R371; log entry 21). -/
def anyRole (k : Nat) : Bool := k % 2 ^ 24 == Obj.SEC_ATTEST_NONCE || k % 2 ^ 24 == Obj.SEC_ATTEST_CMD

/-- The checks of Table 15.5, in order. `v` is the decoded value of a WRITE, none where R5 is broken. -/
def State.check (s : State) (sess k : Nat) (write : Bool) (v : Option Nat) : Check :=
  if (s.ses sess).ver = 0 then .fail .version 0
  else if Nat.ble 0x800000 k || (s.rd Obj.DEV_STATE == 6 && !loaderObject k) then .fail .noObject 0
  else match findRow (k / 256) (k % 256) with
    | none => .fail .noObject 0
    | some r =>
      if write && (r.acc == .ro || r.acc == .rc || ((s.ses sess).role == 0 && !anyRole k) || (r.adm && (s.ses sess).role != 2) ||
        (s.isStandby && mirrored k r))
      then .fail .denied 0
      else match v with
        | none => .fail .type 0
        | some x =>
          if !write then .pass r
          else match s.ownCheck sess k r with
            | some (st, d) => .fail st d
            | none => if r.rng.ok r.ty x then .pass r else .fail .range 0

/-- The request being served. -/
def State.req (s : State) (sess tag key : Nat) : Req := ⟨sess, (s.ses sess).inc, tag, key⟩

/-- Steps 2 to 4 of a handover (R410): the control cluster changes images and serves no request. Step 1 waits until no commit is
being validated, no store waits and no report is being formed. -/
def State.handing (s : State) : Bool :=
  s.upd.closed && !(s.swaps.any fun w => w.validating && w.cause.isNone) && !(s.sess.any fun x => x.storeAt.isSome) &&
    !(s.sec.forming.any fun a => a.isSome)

/-- Arrival of a request that is served at once (R337, R344, R347): over I3C a frame while no session 0 is open is answered VERSION; a remote
frame of no open session reaches nothing; a duplicate tag is discarded and counted; the 65th outstanding request is
answered BUSY. Otherwise `body` serves it. -/
def State.arrive (s : State) (sess tag key : Nat) (body : State → State) : State :=
  let st := s.rd Obj.DEV_STATE
  if st = 0 || Nat.ble 8 sess || s.handing then s
  else if !(s.ses sess).isOpen then if sess = 0 then s.respond 0 tag key .version else s
  else
    let s := s.updSes sess fun x => { x with heard := s.wall }
    if s.tagTaken sess tag then s.count (Obj.DEV_SESS_TAG_DUP sess)
    else if Nat.ble 64 (s.requests sess) then s.respond sess tag key .busy
    else body s

/-- Serve a WRITE of value `v` to `key`: the checks of Table 15.5, then `body`. -/
def State.command (s : State) (sess tag key : Nat) (v : Option Nat) (body : Req → State → State) : State :=
  s.arrive sess tag key fun s =>
    match s.check sess key true v with
    | .fail st d => s.respond sess tag key st d
    | .pass _ => body (s.req sess tag key) s

/-- The value of a direct write, none where it does not fit its object's type. -/
def fits (key v : Nat) : Option Nat :=
  match keyRow key with
  | none => some v
  | some r => if v < 2 ^ r.ty.bits then some v else none

/-- Serve a direct write of `v` to `key`. -/
def State.direct (s : State) (sess tag key v : Nat) (body : Req → State → State) : State :=
  s.command sess tag key (fits key v) body

/-- Mark a PS object written since the session's last store (R357). -/
def State.markPs (s : State) (sess k : Nat) : State :=
  s.updSes sess fun x => { x with psDirty := if x.psDirty.contains k then x.psDirty else x.psDirty ++ [k] }

/-- Store an accepted live write: RW and PS values take effect when written (R6, R357). -/
def State.liveWrite (s : State) (sess k : Nat) (r : Row) (v : Nat) : State :=
  let s := s.wr (sessKey sess k) v
  if r.acc == .ps then s.markPs sess k else s

/-- The butterfly and cell-update floors from the slices in service, scaled by k (R17, R18), and no higher than the twin's while
paired (R385). -/
def State.fabricFloors (s : State) (k : Nat) : Nat × Nat :=
  let n := s.rd Obj.DEV_SLICES_IN_SERVICE
  let pair (i v : Nat) := if s.twin.peerFloors.isEmpty then v else min v (s.twin.peerFloors.getD i v)
  (pair 0 (n * 1250000000000 * k / 65536), pair 1 (n * 32000000000 * k / 65536))

/-- The areas of the stacked SRAM in MiB, in the order of Table 1.10; none lends to another (R28). What each holds is bounded by its own
rule: the pool by admission, the planes by their fixed size, the line buffer by its 96 lines, the resident image by R403, user windows,
masks and descriptors by R82, R125 and R205. The manual gives no outcome for full staging (log entry 67). -/
def sramAreas : List Nat := [128, 48, 32, 24, 4, 8, 12]

/-- The floors in force from the units in service and k (R17, R18, R385): 2200h follows 2205h and 2206h. -/
def State.setFloors (s : State) : State :=
  let pair (i v : Nat) := if s.twin.peerFloors.isEmpty then v else min v (s.twin.peerFloors.getD i v)
  let f := s.fabricFloors (s.rd Obj.DEV_PVIN_SCALE)
  s.wrAll [(Obj.DEV_FLOOR_BFLY, f.1), (Obj.DEV_FLOOR_CELL, f.2),
    (Obj.DEV_FLOOR_RSV, pair 2 (s.rd Obj.DEV_PCH_IN_SERVICE * 17968750000)), (Obj.DEV_FLOOR_PORT, pair 3 95000000000),
    (Obj.DEV_FLOOR_POOL, pair 4 (at' sramAreas 0 * 2 ^ 20))]

/-- The master synthesiser is locked and its gate open (R301). -/
def State.masterLocked (s : State) : Bool :=
  bitOf (s.rd Obj.CLK_LOCKED_MASK) 0 && match s.clk.openAt with
    | some t => Nat.ble t s.tick
    | none => true

/-- The event does not come about: nothing changes (log entry 1). -/
def when (p : Bool) (f : State → State) (s : State) : State := if p then f s else s

end Sys2Proof.Machine
end

