-- ==== Sys2Proof/Machine/Operands.lean ====
section
/-! DEFINITION. Number formats of spectra (R86, R87, Table 0.6): powers, levels and block-floating complex bins. A component is held as a
number × 2^120 relative to full scale, a power as a number × 2^240, finer than the relative error that R84 allows of the smallest bin. -/

namespace Sys2Proof.Machine

/-! ## Functions of real numbers, evaluated with 96 fractional bits (log entry 22) -/

/-- One, with 96 fractional bits; then ln 2, log10 2, log2 10, log2 e and 2π. -/
def fx : Nat := 2 ^ 96
def ln2Fx : Nat := 54916777467707473351141471128
def log10of2Fx : Nat := 23850053418134191015272426710
def log2of10Fx : Nat := 263190258962436467100402834429
def log2eFx : Nat := 114302077158074026402637675937
def twoPiFx : Nat := 497805226624462170461043889244

/-- The sum of z^k / k! from the k-th term on, with 96 fractional bits. -/
def expSum : Nat → Nat → Nat → Nat → Nat
  | 0, _, _, _ => 0
  | n + 1, k, term, z => term + expSum n (k + 1) (term * z / fx / (k + 1)) z

/-- 2^y × 2^s rounded convergently, for y with 96 fractional bits. -/
def exp2At (y : Int) (s : Nat) : Nat :=
  let i := y / (fx : Int) + s
  let e := expSum 40 0 fx ((y % (fx : Int)).toNat * ln2Fx / fx)
  if i < 0 then (roundConv e (2 ^ (96 + i.natAbs))).toNat else (roundConv ((e : Int) * 2 ^ i.toNat) fx).toNat

/-- The bits of log2 of m / 2^127 after the binary point, m from 2^127 to below 2^128. -/
def log2Bits : Nat → Nat → Nat → Nat
  | 0, _, acc => acc
  | n + 1, m, acc =>
    let q := m * m / 2 ^ 127
    if q < 2 ^ 128 then log2Bits n q (2 * acc) else log2Bits n (q / 2) (2 * acc + 1)

/-- log2 of a positive number, with 64 fractional bits. -/
def log2Fx (p : Nat) : Nat :=
  let e := Nat.log2 p
  e * 2 ^ 64 + log2Bits 64 (if e ≤ 127 then p * 2 ^ (127 - e) else p / 2 ^ (e - 127)) 0

/-- The sum of the terms of cos x from the k-th on, with 96 fractional bits, from x². -/
def cosSum : Nat → Nat → Int → Int → Int
  | 0, _, _, _ => 0
  | n + 1, k, term, x2 => term + cosSum n (k + 1) (-(term * x2 / (fx : Int) / (((2 * k + 1) * (2 * k + 2) : Nat) : Int))) x2

/-- cos (2π a / b), with 96 fractional bits. -/
def cosTurn (a b : Nat) : Int :=
  let r := a % b
  let r := if b < 2 * r then b - r else r
  let turned := decide (b < 4 * r)
  let x := twoPiFx * (if turned then b - 2 * r else 2 * r) / (2 * b)
  let c := cosSum 24 0 fx ((x * x / fx : Nat) : Int)
  if 4 * r = b then 0 else if turned then -c else c

/-- sin (2π a / b), with 96 fractional bits. -/
def sinTurn (a b : Nat) : Int := cosTurn (4 * a + 3 * b) (4 * b)

/-- The sum of t^k / (k!)² from the k-th term on: the Bessel function I0 of 2 √t, with 96 fractional bits. -/
def besselSum : Nat → Nat → Nat → Nat → Nat
  | 0, _, _, _ => 0
  | n + 1, k, term, t => term + besselSum n (k + 1) (term * t / fx / ((k + 1) * (k + 1))) t

/-- Integer square root. -/
def isqrt (n : Nat) : Nat :=
  ((List.range 224).map fun i => 223 - i).foldl (fun r i => if Nat.ble ((r + 2 ^ i) * (r + 2 ^ i)) n then r + 2 ^ i else r) 0

/-! ## Powers and levels -/

/-- Fraction bits of a component, and of a power. -/
def compBits : Nat := 120
def powBits : Nat := 240

/-- 65,536 × 10 log10 of a positive power, rounded convergently. -/
def levelOf (p : Nat) : Int :=
  roundConv (655360 * (log10of2Fx : Int) * ((log2Fx p : Int) - powBits * 2 ^ 64)) (2 ^ 160)

/-- The LOGP36 value of a positive power (R87): within one unit of the rounded value, a free value. -/
def log10Power (p : Nat) : Int := levelOf p + ((Config.logError p % 3 : Nat) : Int) - 1

/-- 10^(t / 10) for a level t in LOGP36 units, as a power with s further bits (R121); from ±256 dB on it stays there. -/
def powerAt (t : Int) (s : Nat) : Nat := exp2At (clampI (-16777216) 16777216 t * (log2of10Fx : Int) / 655360) (powBits + s)

/-- LOGP36 of a power: "no value" for zero (R87). -/
def logp36 (p : Nat) : Nat := if p = 0 then 0x800000000 else ofI 36 (log10Power p)

/-- −200 dB in LOGP36 units, which a bin of zero power enters as in averages of dB values (R103, R107). -/
def floorDb : Int := -13107200

/-- The dB value of a power for averaging, in LOGP36 units. -/
def dbOf (p : Nat) : Int := if p = 0 then floorDb else log10Power p

/-- A nonzero power too small for POW36 (R87). -/
def powUflow (p : Nat) : Bool := p != 0 && Nat.blt p (2 ^ (powBits - 32))

/-- POW36 of a power: mantissa of 30 bits rounded convergently, exponent of 6; zero below 2^−32 (R87). -/
def pow36 (p : Nat) : Nat :=
  if Nat.blt p (2 ^ (powBits - 32)) then 0
  else
    let e := Nat.log2 p
    let m := if 29 ≤ e then (roundConv p (2 ^ (e - 29))).toNat else p * 2 ^ (29 - e)
    let (m, e) := if m = 2 ^ 30 then (2 ^ 29, e + 1) else (m, e)
    m * 64 + ofI 6 ((e : Int) - powBits)

/-- The power of components (a, b). -/
def binPower (v : Int × Int) : Nat := (v.1 * v.1 + v.2 * v.2).toNat

/-- A component's mantissa at block exponent e: rounded convergently to 2^(e−17) (R86). -/
def mantissa (e : Int) (v : Int) : Int :=
  if -103 ≤ e then roundConv v (2 ^ (e + (compBits - 17 : Nat)).toNat) else v * 2 ^ (-(compBits - 17 : Nat) - e).toNat

/-- Every component fits at block exponent e. -/
def exponentFits (e : Int) (l : List (Int × Int)) : Bool :=
  l.all fun v => decide (-131072 ≤ mantissa e v.1 ∧ mantissa e v.1 ≤ 131071 ∧ -131072 ≤ mantissa e v.2 ∧ mantissa e v.2 ≤ 131071)

/-- The block exponent of R86: the smallest from −64 to +1 at which every component fits. -/
def blockExponent (l : List (Int × Int)) : Int :=
  if l.all fun v => v.1 == 0 && v.2 == 0 then -64
  else match (List.range 66).find? fun (k : Nat) => exponentFits ((k : Int) - 64) l with
    | some k => (k : Int) - 64
    | none => 1

/-- One CPLX36 word of two 18-bit components. -/
def cplx36 (i q : Int) : Nat := ofI 18 i * 2 ^ 18 + ofI 18 q

/-- The complex payload of R86: exponent, then the bins. -/
def complexPayload (l : List (Int × Int)) : List Nat :=
  let e := blockExponent l
  ofI 36 e :: l.map fun v => cplx36 (clampI (-131072) 131071 (mantissa e v.1)) (clampI (-131072) 131071 (mantissa e v.2))

/-- The mean of n values from their sum, rounded convergently. -/
def meanOf (sum : Int) (n : Nat) : Int := if n = 0 then 0 else roundConv sum n

end Sys2Proof.Machine
end

