-- ==== Sys2Proof/Machine/Tokens.lean ====
section
/-! DEFINITION. Tokens (R10 to R12, R34): the tag word, sequence numbers compared within their window, the full index recovered
from an anchored one, and the payload of a converter block. -/

namespace Sys2Proof.Machine

/-- A token's tag word (Table 1.2). -/
def tagWord (kind src gen seq : Nat) : Nat := kind % 16 * 2 ^ 32 + src % 64 * 2 ^ 26 + gen % 4 * 2 ^ 24 + seq % 2 ^ 24

/-- KIND of a tag. -/
def tagKind (t : Nat) : Nat := t / 2 ^ 32 % 16

/-- SRC of a tag. -/
def tagSrc (t : Nat) : Nat := t / 2 ^ 26 % 64

/-- GEN of a tag. -/
def tagGen (t : Nat) : Nat := t / 2 ^ 24 % 4

/-- SEQ of a tag. -/
def tagSeq (t : Nat) : Nat := t % 2 ^ 24

/-- a − b of two sequence numbers, as a signed difference modulo 2^24 (R11). -/
def seqDiff (a b : Nat) : Int := toI 24 (a % 2 ^ 24 + 2 ^ 24 - b % 2 ^ 24)

/-- The full number of a token whose SEQ lies within ±2^23 of a number that its source anchors (R11). -/
def recoverNo (anchor seq : Nat) : Nat := ((anchor : Int) + seqDiff seq anchor).toNat

/-- A unit's configuration generation (R12). -/
def State.gen (s : State) (u : UnitId) : Nat := ((s.gens.find? fun g => g.1 == u).map Prod.snd).getD 0

/-! ## Converter blocks (R34) -/

/-- The 22 payload words of a converter block (Table 2.2): three samples a word; word 21 holds sample 63 and the block status. -/
def blockWords (codes : List Int) (status : Nat) : List Nat :=
  ((List.range 21).map fun w =>
    ofI 12 (codes.getD (3 * w) 0) * 2 ^ 24 + ofI 12 (codes.getD (3 * w + 1) 0) * 2 ^ 12 + ofI 12 (codes.getD (3 * w + 2) 0)) ++
  [ofI 12 (codes.getD 63 0) * 2 ^ 24 + status % 2 ^ 12 * 2 ^ 12]

/-- The token of block n of a channel: KIND 0, SRC the channel, SEQ = n modulo 2^24 (R34). -/
def State.blockToken (s : State) (ch n status : Nat) (codes : List Int) : Token :=
  ⟨tagWord 0 ch (s.gen ⟨.converter, ch⟩) n, blockWords codes status⟩

/-- Sample k of a converter block. -/
def Token.code (b : Token) (k : Nat) : Int := toI 12 (b.words.getD (k / 3) 0 / 2 ^ (12 * (2 - k % 3)))

/-- The status of a converter block. -/
def Token.status (b : Token) : Nat := b.words.getD 21 0 / 2 ^ 12 % 2 ^ 12

/-- A block's number, from the number of the block that the channel is to enter next (R11). -/
def Token.no (b : Token) (next : Nat) : Nat := recoverNo next (tagSeq b.tag)

end Sys2Proof.Machine
end

