-- ==== Sys2Proof/Machine/Filters.lean ====
section
/-! DEFINITION. The tuner's arithmetic (R58 to R62, R65, Tables 3.1, 3.3, 3.5 and 3.6): the exact fs/4 mix and half-band, the NCO, the
five-stage CIC and the FIR, with the convergent rounding of each requantisation point. The manual gives the filters' structure and
response, not their coefficients: those are free values of Config, and `FiltersMeet` says what the manual asks of them. Log entry 57. -/

namespace Sys2Proof.Machine

/-- A complex number. -/
abbrev Cplx := Int × Int

/-- Sum of complex numbers. -/
def cSum (l : List Cplx) : Cplx := l.foldl (fun a z => (a.1 + z.1, a.2 + z.2)) (0, 0)

/-- A real factor. -/
def Cplx.scale (k : Int) (z : Cplx) : Cplx := (k * z.1, k * z.2)

/-- Both components rounded convergently to multiples of d (R65). -/
def Cplx.round (z : Cplx) (d : Nat) : Cplx := (roundConv z.1 d, roundConv z.2 d)

/-! ## The split (R61) -/

/-- Mode (0 direct, 1 FIR, 2 split, 3 CIC alone), D_F and D_C of a decimation D. -/
def splitOf (d : Nat) : Nat × Nat × Nat :=
  if d = 1 then (0, 1, 1)
  else if d ≤ 16 then (1, d, 1)
  else
    let df := ((List.range 17).filter fun k => Nat.ble 2 k && d % k == 0).getLast?.getD 1
    if 2 ≤ df ∧ d / df ≤ 4096 then (2, df, d / df) else (3, 1, d)

/-! ## The front end (R58) -/

/-- One, in the scale of the filters' coefficients. -/
def tapOne : Int := 2 ^ 40

/-- Fraction bits of the 24-bit words of Table 3.6: their weight is not stated, a free value. -/
def wideBits : Nat := 20 + Config.wideFraction % 4

/-- A half-band coefficient by its distance from the centre, of 95: linear phase, half of the passband gain of 2 at the centre and
zero at every other even distance. -/
def halfBandTap (d : Nat) : Int :=
  if d = 0 then tapOne else if d % 2 = 0 ∨ 47 < d then 0 else Config.halfBandTap d

/-- Sample x of tick k times exp(−jπk/2): exact. -/
def mixed (k : Nat) (x : Int) : Cplx :=
  match k % 4 with
  | 0 => (x, 0)
  | 1 => (0, -x)
  | 2 => (-x, 0)
  | _ => (0, x)

/-- The half-band output at a tick, from the converter codes by tick: 24 bits a component. -/
def frontEnd (x : Nat → Int) (t : Nat) : Cplx :=
  let y := cSum ((List.range 95).map fun i =>
    Cplx.scale (halfBandTap (if i ≤ 47 then 47 - i else i - 47)) (mixed (t + i - 47) (x (t + i - 47))))
  Cplx.round (Cplx.scale (2 ^ wideBits) y) (2 ^ 51)

/-! ## The NCO (R59, R60) -/

/-- The NCO's phase at a tick, in 2^−48 cycle: a function of W, TUNE_PHASE and the tick alone. -/
def ncoPhase (w phase t : Nat) : Nat := (phase + (2 * w + 2 ^ 47) % 2 ^ 48 * t / 2) % 2 ^ 48

/-- A sine or cosine word of 22 bits, from its value with 96 fractional bits: within one unit of the rounded value, a free value. -/
def ncoWord (v : Int) (p : Nat) : Int :=
  clampI (-(2 ^ 21)) (2 ^ 21 - 1) (roundConv (v * 2 ^ 21) fx + ((Config.ncoError p % 3 : Nat) : Int) - 1)

/-- z × exp(−j 2π φ / 2^48), evaluated from the top 24 bits of the phase: 24 bits a component. -/
def ncoMix (phi : Nat) (z : Cplx) : Cplx :=
  let p := phi / 2 ^ 24
  let c := ncoWord (cosTurn p (2 ^ 24)) p
  let q := ncoWord (sinTurn p (2 ^ 24)) p
  Cplx.round (z.1 * c + z.2 * q, z.2 * c - z.1 * q) (2 ^ 21)

/-- The tuner's sample at the NCO's output. -/
def ncoOut (x : Nat → Int) (w phase t : Nat) : Cplx := ncoMix (ncoPhase w phase t) (frontEnd x t)

/-! ## Decimation (R61, Table 3.6) -/

/-- Coefficient i of a five-stage CIC of differential delay 1 that decimates by r: of the fifth power of r ones. -/
def cicTap (r i : Nat) : Int :=
  (List.range 6).foldl (fun (n : Int) j =>
    if j * r ≤ i then n + (-1) ^ j * ((Nat.choose 5 j * Nat.choose (i - j * r + 4) 4 : Nat) : Int) else n) 0

/-- The CIC's residual gain error in 2^−48, at most 2^−23: a free value. -/
def cicError (r : Nat) : Int := ((Config.cicGain r % (2 ^ 26 + 1) : Nat) : Int) - 2 ^ 25

/-- The CIC's output at a tick, normalised by D_C^−5: 24 bits a component. A decimation by 1 runs no CIC. -/
def cicOut (z : Nat → Cplx) (r u : Nat) : Cplx :=
  if r = 1 then z u
  else
    let y := cSum ((List.range (5 * (r - 1) + 1)).map fun i => Cplx.scale (cicTap r i) (z (u + 2 * i - 5 * (r - 1))))
    Cplx.round (Cplx.scale (2 ^ 48 + cicError r) y) (r ^ 5 * 2 ^ 48)

/-- The FIR's output of a label, with 40 × D_F + 1 linear-phase taps at its input rate: 18 bits a component before saturation. -/
def firOut (c : Nat → Cplx) (d df dc l : Nat) : Cplx :=
  let y := cSum ((List.range (40 * df + 1)).map fun m =>
    Cplx.scale (Config.firTap d (if m ≤ 20 * df then 20 * df - m else m - 20 * df)) (c (l + 2 * dc * m - 40 * d)))
  Cplx.round y (2 ^ (wideBits + 23))

/-- A tuner's output of label l before saturation: in direct mode the NCO's, else the FIR's (R61, R65). -/
def tunerOutput (x : Nat → Int) (w phase d l : Nat) : Cplx :=
  let z := ncoOut x w phase
  match splitOf d with
  | (0, _, _) => Cplx.round (z l) (2 ^ (wideBits - 17))
  | (_, df, dc) => firOut (cicOut z dc) d df dc l

/-! ## What the responses meet (R58, R61, R62) -/

/-- The half-band's gain at a / b cycles per tick, × 2^136. -/
def frontEndGain (a b : Nat) : Int :=
  tapOne * fx + ((List.range 48).drop 1).foldl (fun (n : Int) d => n + 2 * halfBandTap d * cosTurn (d * a) b) 0

/-- Over ±6.4 GHz the gain is 2 within ±0.01 dB, and the mirror image at least 100 dB below it (Table 3.1). -/
def FrontEndMeets : Prop :=
  ∀ a b : Nat, 0 < b → 5 * a ≤ b →
    2 * 998849 * tapOne * fx ≤ 1000000 * frontEndGain a b ∧ 1000000 * frontEndGain a b ≤ 2 * 1001152 * tapOne * fx ∧
      100000 * (frontEndGain (b + 2 * a) (2 * b)).natAbs ≤ (frontEndGain a b).natAbs

/-- The gain of one CIC stage at a / b cycles per output sample of the tuner, with 96 fractional bits. -/
def cicStageGain (df dc a b : Nat) : Int :=
  ((List.range dc).foldl (fun (n : Int) i => n + cosTurn ((2 * (i : Int) - (dc - 1 : Nat)).natAbs * a) (2 * b * dc * df)) 0) / dc

/-- The FIR's gain, × 2^136. -/
def firGain (d df a b : Nat) : Int :=
  Config.firTap d 0 * fx + ((List.range (20 * df + 1)).drop 1).foldl (fun (n : Int) m => n + 2 * Config.firTap d m * cosTurn (m * a) (b * df)) 0

/-- The gain of the CIC and the FIR at a / b cycles per output sample, × 2^136. -/
def decimatorGain (d a b : Nat) : Int :=
  let df := (splitOf d).2.1
  let g := cicStageGain df (splitOf d).2.2 a b
  (List.range 5).foldl (fun (n : Int) _ => n * g / fx) (firGain d df a b)

/-- The largest gain that an alias into an offset of n tenths of r may have, in 10^−9 (Table 3.3). -/
def aliasLimit (d n : Nat) : Nat :=
  let row (l : List Nat) := l.getD (n - 1) 10000
  match splitOf d with
  | (3, _, _) => row [17783, 1000000, 15848932, 141253754]
  | (2, 2, _) => row [10000, 17783, 177828, 1000000]
  | (2, 3, _) => row [10000, 10000, 10000, 89125]
  | (2, 4, _) => row [10000, 10000, 10000, 17783]
  | _ => 10000

/-- Passband flatness over ±0.4 r, and alias protection at the offsets of Table 3.3. -/
def DecimatorMeets (d : Nat) : Prop :=
  let ppm : Int := if (splitOf d).1 = 3 then 5773 else 1152
  (∀ a b : Nat, 0 < b → 5 * a ≤ 2 * b →
    (1000000 - ppm) * tapOne * fx ≤ 1000000 * decimatorGain d a b ∧ 1000000 * decimatorGain d a b ≤ (1000000 + ppm) * tapOne * fx) ∧
  ∀ n k : Nat, 1 ≤ n → n ≤ 4 → 1 ≤ k → k < d →
    1000000000 * ((decimatorGain d (10 * k + n) 10).natAbs : Int) ≤ aliasLimit d n * tapOne * fx ∧
    1000000000 * ((decimatorGain d (10 * k - n) 10).natAbs : Int) ≤ aliasLimit d n * tapOne * fx

/-- What the manual asks of the coefficients. -/
def FiltersMeet : Prop := FrontEndMeets ∧ ∀ d : Nat, 2 ≤ d → d ≤ 65536 → DecimatorMeets d

end Sys2Proof.Machine
end

