-- ==== Sys2Proof/Machine/Streams.lean ====
section
/-! DEFINITION. Records and the streams they enter (chapter 10, R217 to R239; R181, R250): the header, the payloads that
explain the timeline, the entry of a record into a flow's word stream and a history ring's side area, and which flows
and rings a channel, a tuner, a context or a product feeds. -/

namespace Sys2Proof.Machine

/-! ## Record words -/

/-- The words of a record (Table 10.1): TYPE stands in bits 35:28 of word 0 as the field table has it (log entry 6). -/
def Record.words (r : Record) : List Nat :=
  [r.type * 2 ^ 28 + (4 + r.payload.length),
   r.srcKind * 2 ^ 30 + r.srcIndex * 2 ^ 24 + 2 ^ 18 + r.flags,
   r.hdrExt * 2 ^ 28 + r.tick / 2 ^ 36 % 2 ^ 28, r.tick % 2 ^ 36] ++ r.payload

/-- Words of the record, header included (LENGTH). -/
def Record.len (r : Record) : Nat := 4 + r.payload.length

/-- Kerf record (Table 10.9). -/
def kerfRecord (t first last j : Nat) (cause dBefore dAfter : Nat) : Record :=
  { type := 9, srcKind := 1, srcIndex := t, tick := first
    payload := words64 first ++ words64 last ++ words64 j ++ [cause, dBefore, dAfter] }

/-- Gap/loss record (Table 10.6). -/
def gapRecord (kind index first last cause count detail : Nat) : Record :=
  { type := 10, srcKind := kind, srcIndex := index, tick := first
    payload := words64 first ++ words64 last ++ [cause, min (2 ^ 32 - 1) count] ++ words64 detail }

/-- Converter interval record (Table 10.10). -/
def convRecord (ch first last kind blocks : Nat) : Record :=
  { type := 11, srcKind := 0, srcIndex := ch, tick := first
    payload := words64 first ++ words64 last ++ [kind, blocks % 2 ^ 32] }

/-- Shed record (Table 10.11). -/
def shedRecord (cls event cause unit product sess tick : Nat) : Record :=
  { type := 12, srcKind := 11, srcIndex := 0, tick := tick
    payload := [cls * 2 ^ 32 + event * 2 ^ 31 + cause * 2 ^ 28 + unit * 2 ^ 20 + product * 2 ^ 16, sess] }

/-- Source-change record (Table 10.12). -/
def sourceChangeRecord (reason role prev new seq tick : Nat) : Record :=
  { type := 13, srcKind := 11, srcIndex := 0, tick := tick
    payload := [reason, role] ++ (Ty.blob 16).encode prev ++ (Ty.blob 16).encode new ++ words64 seq }

/-- Time anchor record (Table 10.13). -/
def anchorRecord (time source uncertainty ref utc tick : Nat) : Record :=
  { type := 14, srcKind := 11, srcIndex := 0, tick := tick
    payload := Ty.time80.encode time ++ [source, uncertainty, ref, utc] }

/-- Status record (Table 10.14). -/
def statusRecord (st shed units tj pvin alerts seq tick : Nat) : Record :=
  { type := 15, srcKind := 11, srcIndex := 0, tick := tick
    payload := [st, shed, units, tj, pvin, alerts] ++ words64 seq }

/-! ## Flows -/

/-- The flow's runtime record. -/
def State.flow (s : State) (f : Nat) : Flow := at' s.flows f

/-- Change a flow's runtime record. -/
def State.updFlow (s : State) (f : Nat) (g : Flow → Flow) : State := { s with flows := s.flows.modify f g }

/-- The flow produces: running or stalled, and it transmits (R251, R263). -/
def State.flowRuns (s : State) (f : Nat) : Bool :=
  (s.rd (Obj.FLOW_STATE f) == 2 || s.rd (Obj.FLOW_STATE f) == 4) && s.rd (Obj.FLOW_DIR f) == 0

/-- Flows that produce. -/
def State.runningFlows (s : State) : List Nat := (List.range 249).filter fun f => s.flowRuns f

/-- Words enter at the end of the stream now. -/
def Flow.stamp (x : Flow) (now : Nat) : Flow :=
  if (x.stamps.getLast?).any fun m => m.2 == now then x else { x with stamps := x.stamps ++ [(x.pos, now)] }

/-- When the word at a stream position entered; stamps of words below it are dropped. -/
def Flow.sinceAt (x : Flow) (p now : Nat) : Flow :=
  match (x.stamps.filter fun m => Nat.ble m.1 p).getLast? with
  | some m => { x with since := m.2, stamps := m :: x.stamps.filter fun n => Nat.blt p n.1 }
  | none => { x with since := now }

/-- Append a record to a stream at its record boundary (R217); after a takeover it carries SUBSTITUTED (R394). -/
def Flow.put (x : Flow) (now : Nat) (rec : Record) : Flow :=
  let r := if x.subst && rec.flags / 16 % 2 == 0 then { rec with flags := rec.flags + 16 } else rec
  { x.stamp now with
    since := if x.tail.isEmpty then now else x.since
    tail := x.tail ++ r.words
    recs := x.recs ++ [⟨x.pos, r.len, r.tick, r.type == 1 || r.type == 2⟩]
    pos := x.pos + r.len
    custody := { x.custody with
      records := x.custody.records + b2n (x.custody.on && r.type != 16)
      firstTick := if x.custody.records = 0 then r.tick else min x.custody.firstTick r.tick
      lastTick := if x.custody.records = 0 then r.tick else max x.custody.lastTick r.tick
      startWall := if x.custody.records = 0 then now else x.custody.startWall
      startPos := if x.custody.records = 0 then x.pos else x.custody.startPos
      words := if x.custody.on && r.type != 16 then x.custody.words ++ r.words else x.custody.words } }

/-- The gap/loss records of cause FLOW_LOSS for the runs of consecutive SEQs lost since the last record boundary (R261):
each names the ticks of the first and last record lost, the number of records and the first SEQ. -/
def lossRecords : List (Nat × Nat × Nat × Nat) → List Record
  | [] => []
  | (q, a, b, n) :: l =>
    match lossRecords l, l with
    | _ :: rs, (q', _, b', _) :: _ =>
      if q' = q + 1 then
        -- the run that starts at q + 1 is joined to this one
        match runEnd (q + 1) l with
        | (last, cnt) => gapRecord 10 0 a (max b (max b' last)) 9 (n + cnt) q :: rs
      else gapRecord 10 0 a b 9 n q :: lossRecords l
    | _, _ => [gapRecord 10 0 a b 9 n q]
where
  /-- Last tick and number of records of the run that starts at SEQ q. -/
  runEnd (q : Nat) : List (Nat × Nat × Nat × Nat) → Nat × Nat
    | [] => (0, 0)
    | (q', _, b, n) :: l =>
      if q' = q then
        match runEnd (q + 1) l with
        | (last, cnt) => (max b last, n + cnt)
      else (0, 0)

/-- A record enters a stream; FLOW_LOSS records due at this record boundary enter ahead of it (R261). -/
def Flow.enter (x : Flow) (now : Nat) (r : Record) : Flow :=
  let y := (lossRecords x.lost).foldl (fun y l => y.put now l) { x with lost := [] }
  y.put now r

/-- End the sample record being cut (R221, R224): an IQ record of the tuner or a RAW3 record of the channel whose ring h is sent live,
flagged AFTER_GAP where it is the first after a gap and OVERLOAD where a sample is overloaded. `step` is the ticks from one sample or word to the next. -/
def Flow.endCut (x : Flow) (now : Nat) (h step : Nat) (continued replay : Bool) : Flow :=
  if x.cut.isEmpty then x
  else
    let flags := b2n (x.cut.any Samp.ovl) + 2 * b2n x.afterGap + 8 * b2n replay + 128 * b2n continued
    let r : Record :=
      { type := if h < 16 then 1 else 2, srcKind := if h < 16 then 1 else 0, srcIndex := if h < 16 then h else h - 16, flags := flags
        tick := x.cutAt * step, payload := x.cut.map Samp.w }
    let y := { x.enter now r with cut := [], afterGap := false, wait := [] }
    x.wait.foldl (fun y w => y.enter now w) y

/-- A record enters at the next record boundary: after the sample record being cut, if there is one (R142, R239). -/
def Flow.offer (x : Flow) (now : Nat) (r : Record) : Flow :=
  if x.cut.isEmpty && x.left == 0 then x.enter now r else { x with wait := x.wait ++ [r] }

/-- One word that a session's mover writes into the stream: a zero word between records is a fill word, any other begins
a record of its LENGTH; records of the engine that wait follow it (R217, R239). -/
def Flow.putWord (x : Flow) (now w : Nat) : Flow :=
  let len := w % 2 ^ 28
  let y : Flow := { x.stamp now with since := if x.tail.isEmpty then now else x.since, tail := x.tail ++ [w], pos := x.pos + 1 }
  let c := x.custody
  if x.left = 0 then
    if w = 0 then y
    else { y with
      recs := y.recs ++ [⟨x.pos, len, 0, false⟩], left := len - 1, len := len
      custody := if !c.on then c else { c with
        records := c.records + 1, words := c.words ++ [w]
        startWall := if c.records = 0 then now else c.startWall, startPos := if c.records = 0 then x.pos else c.startPos } }
  else
    let k := x.len - x.left
    let tick := ((x.recs.getLast?).map RecMark.tick).getD 0 + w
    let y := { y with custody := if !c.on then c else { c with
      words := c.words ++ [w]
      firstTick := if k = 3 then (if c.records = 1 then tick else min c.firstTick tick) else c.firstTick
      lastTick := if k = 3 then (if c.records = 1 then tick else max c.lastTick tick) else c.lastTick } }
    let y := { y with
      left := x.left - 1
      recs := if k = 2 ∨ k = 3 then y.recs.modify (y.recs.length - 1) fun m =>
          { m with tick := if k = 2 then w % 2 ^ 28 * 2 ^ 36 else m.tick + w } else y.recs }
    if y.left = 0 then x.wait.foldl (fun y r => y.enter now r) { y with wait := [] } else y

/-- Enter the held records due ahead of index i (R71, R110, R224). -/
def Flow.enterHeld (x : Flow) (now h step i : Nat) : Flow :=
  let due := x.held.filter fun p => Nat.ble p.1 i
  if due.isEmpty then x
  else
    let y := x.endCut now h step false false
    let y := due.foldl (fun y p => y.enter now p.2) y
    { y with held := x.held.filter fun p => !Nat.ble p.1 i, afterGap := true }

/-- One delivered sample of index i goes into the cut: records begin at multiples of the record length (R224). -/
def Flow.sample (x : Flow) (now h step reclen i : Nat) (v : Samp) : Flow :=
  if Nat.blt (i * step) x.from_ then x else
  let y := x.enterHeld now h step i
  let y := if y.cut.isEmpty then { y with cutAt := i }
    else if y.cutAt + y.cut.length = i then y else { y.endCut now h step false false with cutAt := i }
  let y := { y with cut := y.cut ++ [v] }
  if (i + 1) % reclen = 0 then y.endCut now h step false false else y

/-- Records that a standby takes from its primary and does not enter of its own (Table 17.2): types 8 and 10 to 16. -/
def State.fromPrimary (s : State) (r : Record) : Bool :=
  (s.rd Obj.TWIN_STATE == 4 || s.rd Obj.TWIN_STATE == 5) && (r.type == 8 || (Nat.ble 10 r.type && Nat.ble r.type 16))

/-- The primary's records whose place in a flow's stream has come (R386). -/
def State.enterMirrored (s : State) (f : Nat) : State :=
  let due := s.twin.entered.filter fun e => e.1 == f && Nat.ble e.2.1 (s.flow f).pos
  if due.isEmpty then s
  else
    let s := due.foldl (fun s e => s.updFlow f fun x => x.offer s.wall e.2.2) s
    { s with twin := { s.twin with entered := s.twin.entered.filter fun e => !(due.contains e) } }

/-- Enter a record into a flow. -/
def State.enter (s : State) (f : Nat) (r : Record) : State :=
  let s := s.enterMirrored f
  if s.fromPrimary r then s
  else if s.flowRuns f && !(Nat.blt r.type 9 && Nat.blt r.tick (s.flow f).from_) then s.updFlow f fun x => x.offer s.wall r else s

/-- Enter a record into a list of flows. -/
def State.enterAll (s : State) (fs : List Nat) (r : Record) : State := fs.foldl (fun s f => s.enter f r) s

/-- Words of a stream still held by frames or waiting: the position below which record marks may be forgotten. -/
def Flow.lowest (x : Flow) : Nat :=
  match x.frames with
  | f :: _ => f.pos
  | [] => x.pos - x.tail.length

/-- Forget the marks of records that no frame holds any more. -/
def Flow.trim (x : Flow) : Flow :=
  { x with recs := x.recs.filter fun m => Nat.blt x.lowest (m.start + m.len) }

/-- Lose an unreleased frame (R260): it is counted, FLOW_LOST_FIRST reads its SEQ, its records are named in the next
gap/loss record, and FLOW_LOSS is raised at most once a second. -/
def State.loseFrame (s : State) (f : Nat) (fr : TxFrame) : State :=
  let x := s.flow f
  let hit := x.recs.filter fun m => Nat.blt m.start (fr.pos + fr.words.length) && Nat.blt fr.pos (m.start + m.len)
  let first := (hit.head?.map RecMark.tick).getD fr.tick
  let last := (hit.getLast?.map RecMark.tick).getD fr.tick
  let alert := match x.lossAlertAt with
    | none => true
    | some t => Nat.ble (t + tps) s.wall
  let s := s.updFlow f fun x => { x with
    frames := x.frames.filter fun g => g.seq != fr.seq
    lost := x.lost ++ [(fr.seq, first, last, hit.length)]
    lossAlertAt := if alert then some s.wall else x.lossAlertAt }
  let s := ((s.count (Obj.FLOW_LOST f)).count Obj.FLOW_LOST_ALL).wr (Obj.FLOW_LOST_FIRST f) fr.seq
  if alert then s.event 2 (s.rd (Obj.FLOW_OWNER f)) 0x0401 f (fr.seq / 2 ^ 36) (fr.seq % 2 ^ 36) else s

/-- A frame whose content the engine no longer holds (R259). A primary hands the retransmission of one that it has sent to a standby on
which the flow is ready, once a source-change record of reason 2 has entered; any other is lost (R260, R397). -/
def State.missFrame (s : State) (f : Nat) (fr : TxFrame) : State :=
  if s.rd Obj.TWIN_STATE = 3 && s.rdB (Obj.TWIN_FLOW_MATCH f) && fr.sent != 0 && Nat.ble fr.sent 255 then
    let peer := (s.twin.peer.map PeerHello.devId).getD 0
    let s := (s.updFlow f fun x => { x with frames := x.frames.filter fun g => g.seq != fr.seq }).enter f
      (sourceChangeRecord 2 1 (s.rd Obj.DEV_ID) peer fr.seq s.tick)
    { s with twin := { s.twin with subst := s.twin.subst ++ [(f, fr)] } }
  else s.loseFrame f fr

/-- Every frame of a flow that the test names loses its content. -/
def State.missFrames (s : State) (f : Nat) (p : TxFrame → Bool) : State :=
  ((s.flow f).frames.filter p).foldl (fun s fr => s.missFrame f fr) s

/-- Lose every frame of a flow that the test names, in SEQ order. -/
def State.loseFrames (s : State) (f : Nat) (p : TxFrame → Bool) : State :=
  ((s.flow f).frames.filter p).foldl (fun s fr => s.loseFrame f fr) s

/-! ## Rings' side areas -/

/-- The ring's runtime record. -/
def State.ring (s : State) (h : Nat) : Ring := at' s.rsv.rings h

/-- Change a ring's runtime record. -/
def State.updRing (s : State) (h : Nat) (g : Ring → Ring) : State :=
  { s with rsv := { s.rsv with rings := s.rsv.rings.modify h g } }

/-- Oldest whole records are overwritten until at most `cap` words are held (R181). -/
def sideTrim (cap : Nat) (rs : List Record) : List Record :=
  let total := rs.foldl (fun n r => n + r.len) 0
  (rs.foldl (fun (acc : Nat × List Record) r =>
    if Nat.ble acc.1 cap then (acc.1, r :: acc.2) else (acc.1 - r.len, acc.2)) (total, [])).2.reverse

/-- Enter a record into a ring's side area; RSV_HIST_SIDE_OLDEST reads the oldest held (R181); after a takeover it carries SUBSTITUTED
(R394). -/
def State.side (s : State) (h : Nat) (r : Record) : State :=
  if s.rd (Obj.RSV_HIST_ENABLE h) = 1 then
    let cap := 2 ^ s.rd (Obj.RSV_HIST_SIDE_LOG2 h)
    let r := if (s.ring h).subst && r.flags / 16 % 2 == 0 then { r with flags := r.flags + 16 } else r
    let rs := sideTrim cap ((s.ring h).side ++ [r])
    (s.updRing h fun x => { x with side := rs }).wr (Obj.RSV_HIST_SIDE_OLDEST h) ((rs.head?.map Record.tick).getD 0)
  else s

/-! ## What feeds what -/

/-- The channel of a tuner: t div 4. -/
def tunerChannel (t : Nat) : Nat := t / 4

/-- The tuner of a history ring, or none for a raw ring. -/
def ringChannel (h : Nat) : Nat := if h < 16 then h / 4 else h - 16

/-- The history ring that a flow reads: its own, its capture unit's or its replay slot's (Table 11.4). -/
def State.flowRing (s : State) (f : Nat) : Option Nat :=
  let i := s.rd (Obj.FLOW_SRC_INDEX f)
  match s.rd (Obj.FLOW_SRC f) with
  | 1 => some i
  | 6 => some (s.rd (Obj.TRIG_CAP_TUNER i))
  | 7 => some (s.rd (Obj.RSV_RPL_RING i))
  | _ => none

/-- The context whose frames a flow's records derive from. -/
def State.flowContext (s : State) (f : Nat) : Option Nat :=
  let i := s.rd (Obj.FLOW_SRC_INDEX f)
  match s.rd (Obj.FLOW_SRC f) with
  | 2 => some i
  | 3 => some i
  | 4 => (List.range 32).find? fun c =>
      s.rd (Obj.XFM_ENABLE c) == 1 && s.rd (Obj.DET_COL_MODE c) != 0 && s.rd (Obj.DET_COL_PLANE c) == i
  | _ => none

/-- The tuner that feeds a flow. -/
def State.flowTuner (s : State) (f : Nat) : Option Nat :=
  match s.flowRing f with
  | some h => if h < 16 then some h else none
  | none => (s.flowContext f).map fun c => s.rd (Obj.XFM_SOURCE c)

/-- The channel that feeds a flow. -/
def State.flowChannel (s : State) (f : Nat) : Option Nat :=
  match s.flowRing f with
  | some h => some (ringChannel h)
  | none => (s.flowContext f).map fun c => s.rd (Obj.XFM_SOURCE c) / 4

/-- The flow carries samples cut from a ring live, so a record that explains a gap waits for its place among them. -/
def State.live1 (s : State) (f : Nat) : Bool := s.rd (Obj.FLOW_SRC f) == 1

/-- Ticks from one stored position of ring h to the next: 2D of its samples, or 3 for a raw ring (R179). -/
def State.ringStep (s : State) (h : Nat) : Nat :=
  if h < 16 then (if (s.ring h).step = 0 then 2 * s.rd (Obj.TUNE_DECIM h) else (s.ring h).step) else 3

/-- Enter a record that explains a gap ending at tick `last` into a flow: ahead of the first sample after it where the
flow's samples come live from a ring, ahead of the first word that holds a delivered tick after it for a raw ring (R225), at once into a plane's flow. A context forwards its own (R92). -/
def State.explain (s : State) (f last : Nat) (r : Record) : State :=
  if s.live1 f then
    let h := s.rd (Obj.FLOW_SRC_INDEX f)
    let i := if h < 16 then ceilDiv (last + 1) (s.ringStep h) else (last + 1) / 3
    if s.flowRuns f then s.updFlow f fun x => { x with held := x.held ++ [(i, r)] } else s
  else if s.rd (Obj.FLOW_SRC f) = 4 then s.enter f r
  else s

/-- Enabled rings of a channel. -/
def State.channelRings (s : State) (ch : Nat) : List Nat :=
  (List.range 20).filter fun h => s.rd (Obj.RSV_HIST_ENABLE h) == 1 && ringChannel h == ch

/-- Running flows fed by a channel. -/
def State.channelFlows (s : State) (ch : Nat) : List Nat :=
  s.runningFlows.filter fun f => s.flowChannel f == some ch

/-- Running flows fed by a tuner. -/
def State.tunerFlows (s : State) (t : Nat) : List Nat :=
  s.runningFlows.filter fun f => s.flowTuner f == some t

/-- Running flows of a source code and index (Table 11.4). -/
def State.sourceFlows (s : State) (src index : Nat) : List Nat :=
  s.runningFlows.filter fun f => s.rd (Obj.FLOW_SRC f) == src && s.rd (Obj.FLOW_SRC_INDEX f) == index

/-- Running flows of one detector product. -/
def State.productFlows (s : State) (c product : Nat) : List Nat :=
  (s.sourceFlows 3 c).filter fun f => s.rd (Obj.FLOW_SRC_PRODUCT f) == product

/-- A record about a channel goes into every flow and history ring fed by it (R13, R35). -/
def State.tellChannel (s : State) (ch last : Nat) (r : Record) : State :=
  let s := (s.channelRings ch).foldl (fun s h => s.side h r) s
  (s.channelFlows ch).foldl (fun s f => s.explain f last r) s

/-- A record about a tuner goes into every ring and flow fed by it (R71). -/
def State.tellTuner (s : State) (t last : Nat) (r : Record) : State :=
  let s := s.side t r
  (s.tunerFlows t).foldl (fun s f => s.explain f last r) s

end Sys2Proof.Machine
end

