-- ==== Sys2Proof/Machine/Joints.lean ====
section
/-! DEFINITION. A snapshot's application at a unit's boundary (R12, R342, R352): the swap that holds a unit's change, the
values put in force, the ownership that follows, and the move between READY and SERVICE (R437). -/

namespace Sys2Proof.Machine

/-- The change of a unit in a swap. -/
def Swap.change (w : Swap) (g : Nat) (u : UnitId) : Option Change :=
  if w.validating then none else w.units.find? fun c => c.group == g && c.unit == u

/-- The first swap that waits to apply to the unit, with the unit's boundary, once the tick index has reached it
(generations apply in order, R12). -/
def State.due (s : State) (g : Nat) (u : UnitId) : Option (Swap × Nat) :=
  match s.swaps.find? fun w => (w.change g u).isSome with
  | none => none
  | some w => match w.change g u with
    | none => none
    | some c => if Nat.ble c.boundary s.tick then some (w, c.boundary) else none

/-- The value that a swap puts in force for an object, or what is in force now. -/
def Swap.value (w : Swap) (s : State) (k : Nat) : Nat :=
  match w.vals.find? fun p => p.1 == k with
  | some p => p.2
  | none => s.rd k

/-- The swap changes an object's value in force. -/
def Swap.changes (w : Swap) (s : State) (k : Nat) : Bool := w.value s k != s.rd k

/-- An output of the engine is in force: an enabled tuner, context, sequencer, group, capture unit, plane, ring, flow,
layer, scan-out or Plumb function (R437; log entry 7). -/
def State.outputInForce (s : State) : Bool :=
  (List.range 16).any (fun i => s.rdB (Obj.TUNE_ENABLE i) || s.rdB (Obj.TRIG_SEQ_ENABLE i)) ||
  (List.range 32).any (fun i => s.rdB (Obj.XFM_ENABLE i)) || (List.range 8).any (fun i => s.rdB (Obj.CRYS_ENABLE i)) ||
  (List.range 20).any (fun i => s.rdB (Obj.RSV_HIST_ENABLE i)) ||
  (List.range 249).any (fun i => s.rdB (Obj.FLOW_ENABLE i)) ||
  (List.range 4).any (fun i => s.rdB (Obj.TRIG_GRP_ENABLE i) || s.rdB (Obj.TRIG_CAP_ENABLE i) || s.rdB (Obj.SCAN_L_ENABLE i)) ||
  s.rdB Obj.SCAN_ENABLE || s.rdB Obj.PLMB_TDC_ENABLE || s.rdB Obj.PLMB_CNT_ENABLE

/-- DEV_STATE moves from 2 to 3 when a Joint first puts an output in force and back when the last is disabled (R437). -/
def State.serviceState (s : State) : State :=
  if s.rd Obj.DEV_STATE = 2 && s.outputInForce then s.wr Obj.DEV_STATE 3
  else if s.rd Obj.DEV_STATE = 3 && !s.outputInForce then s.wr Obj.DEV_STATE 2 else s

/-- A unit counts as enabled for ownership: by its enable object; an integrator while it names a context; a unit
without an enable object always (R342). -/
def unitOn (get : Nat → Nat) (u : UnitId) : Bool :=
  match enableKey u with
  | some k => get k == 1
  | none => if u.kind == .integrator then get (Obj.DET_BP_CONTEXT u.i) != 255 else true

/-- A unit's configuration generation advances by 1 modulo 4 (R12). -/
def nextGen (u : UnitId) : List (UnitId × Nat) → List (UnitId × Nat)
  | [] => [(u, 1)]
  | (v, n) :: l => if v = u then (v, (n + 1) % 4) :: l else (v, n) :: nextGen u l

/-- Apply a unit's part of swap `w` at its boundary: its values come into force; the swap drops the change and reports
the boundary; ownership ends where the Joint disables the unit (R342, R352). -/
def State.applyChange (s : State) (w : Swap) (g : Nat) (u : UnitId) (b : Nat) : State :=
  let mine := w.vals.filter fun p => groupOf p.1 == g && ownId p.1 == u
  let s := mine.foldl (fun s p => s.wr p.1 p.2) s
  let s := { s with gens := nextGen u s.gens }
  let s := { s with
    swaps := s.swaps.map fun (x : Swap) =>
      if x.id = w.id then
        { x with units := x.units.filter fun c => !(c.group == g && c.unit == u), done := x.done ++ [b] }
      else x }
  let s := if w.cause = none && (s.ses w.sess).inc == w.req.inc then
      let f := s.rd (sk w.sess Obj.DEV_JOINT_FIRST)
      (s.wr (sk w.sess Obj.DEV_JOINT_FIRST) (if w.done.isEmpty then b else min f b)).wr
        (sk w.sess Obj.DEV_JOINT_LAST) (if w.done.isEmpty then b else max (s.rd (sk w.sess Obj.DEV_JOINT_LAST)) b)
    else s
  let s := if !u.claimed && u.kind != .global && !unitOn s.rd u && !unitOn s.rdc u then s.disown u else s
  s.serviceState

/-- Run a unit's Joint: nothing comes about before its boundary; otherwise the family's `before` acts on the old values
in force and `after` on the new ones, each told the swap and the boundary. -/
def State.joint (s : State) (g : Nat) (u : UnitId) (before after : Swap → Nat → State → State) : State :=
  match s.due g u with
  | none => s
  | some (w, b) => after w b ((before w b s).applyChange w g u b)

end Sys2Proof.Machine
end

