-- ==== Sys2Proof/Machine/Reservoir.lean ====
section
/-! DEFINITION. The Reservoir (chapter 8): the ring writers, the pseudo-channels' request queues, refresh, row
disturbance, power-down, retraining, error correction, and replay. -/

namespace Sys2Proof.Machine

/-- Positions of ring h: n pans of 2^24 (R179). -/
def State.ringSize (s : State) (h : Nat) : Nat := s.rd (Obj.RSV_HIST_PANS h) * 2 ^ 24

/-- RSV_HIST_SPAN: the capacity in ticks (R179). -/
def State.ringSpan (s : State) (h : Nat) : Nat := s.ringSize h * s.ringStep h

/-- A pseudo-channel's record. -/
def State.pch (s : State) (k : Nat) : Pch := at' s.rsv.pch k

/-- Change a pseudo-channel's record. -/
def State.updPch (s : State) (k : Nat) (g : Pch → Pch) : State :=
  { s with rsv := { s.rsv with pch := s.rsv.pch.modify k g } }

/-- Requests outstanding in all queues. -/
def State.outstanding (s : State) : Nat := s.rsv.pch.foldl (fun n p => n + p.queue.length) 0

/-- Show the number of requests outstanding and its peak. -/
def State.showOutstanding (s : State) : State :=
  (s.wr Obj.RSV_OUTSTANDING s.outstanding).peak Obj.RSV_OUTSTANDING_PEAK s.outstanding

/-- Physical line of a ring's line number: pan of its place, then its place in the pan (R178). -/
def State.physLine (s : State) (h no : Nat) : Nat :=
  let r := no % (s.rd (Obj.RSV_HIST_PANS h) * 2 ^ 18)
  at' (s.ring h).pans (r / 2 ^ 18) * 2 ^ 18 + r % 2 ^ 18

/-- The pseudo-channel that stores a line of the line space (R178). -/
def State.linePch (s : State) (k : Nat) : Nat :=
  if s.rsv.layout.isEmpty then 0 else at' s.rsv.layout (k % s.rsv.layout.length)

/-- A requester's class (R184). -/
def Rq.cls (q : Rq) : Nat := q.id / 2 ^ 12

/-- Requests of class 4 outstanding. -/
def State.outstanding4 (s : State) : Nat := s.rsv.pch.foldl (fun n p => n + (p.queue.filter fun q => q.cls == 4).length) 0

/-- A class has a place in a pseudo-channel's queue of 32, of which classes 1 and 2 keep 8, and among the 4,096 outstanding, of which
they keep 1,024; class 4 holds at most 1,024 (Table 1.1, R14, R185). -/
def State.hasPlace (s : State) (k cls : Nat) : Bool :=
  let real := cls == 1 || cls == 2
  Nat.blt (s.pch k).queue.length (if real then 32 else 24) && Nat.blt s.outstanding (if real then 4096 else 3072) &&
    (cls != 4 || Nat.blt s.outstanding4 1024)

/-- A request takes its place. -/
def State.enqueue (s : State) (k : Nat) (q : Rq) : State :=
  (s.updPch k fun p => { p with queue := p.queue ++ [q], powerDown := false, idleSince := s.wall }).showOutstanding

/-- A request that finds no place waits with its requester (R14). A failed pseudo-channel takes none: what it would read is
uncorrectable, and writes to it are discarded (R196). -/
def State.request (s : State) (k : Nat) (q : Rq) : State :=
  if (s.pch k).failed then s
  else if s.hasPlace k q.cls && !((s.pch k).waiting.any fun w => w.cls == q.cls) then s.enqueue k q
  else s.updPch k fun p => { p with waiting := p.waiting ++ [q] }

/-- Waiting requests take the places that have come free, oldest first. -/
def State.promote (s : State) (k : Nat) : State :=
  (s.pch k).waiting.foldl (fun s q =>
    if s.hasPlace k q.cls then (s.updPch k fun p => { p with waiting := p.waiting.erase q }).enqueue k q else s) s

/-- The requester is throttled on the pseudo-channel and was served less than 1 µs ago (R190). -/
def Pch.holds (p : Pch) (wall id : Nat) : Bool :=
  p.causes.any fun c => c.id == id && c.throttled && Nat.blt wall (c.last + tpus)

/-- A requester of class 3 or 4 may make its next access of a pseudo-channel: no request of it waits for a place, and a throttle does not
hold it back (R14, R190). -/
def State.mayAsk (s : State) (k id : Nat) : Bool :=
  !(s.rsv.pch.any fun p => p.waiting.any fun q => q.id == id) && !(s.pch k).holds s.wall id &&
    !((s.pch k).causes.any (fun c => c.id == id && c.throttled) && (s.pch k).queue.any fun q => q.id == id)

/-- The pseudo-channel of a line has failed (R196). -/
def State.deadLine (s : State) (line : Nat) : Bool := (s.pch (s.linePch line)).failed

/-- Requester identifiers (Table 8.3). -/
def ringRq (h : Nat) : Nat := 2 ^ 12 + h
def flowRq (f : Nat) : Nat := 3 * 2 ^ 12 + f
def replayRq (x : Nat) : Nat := 3 * 2 ^ 12 + 256 + x
def captureRq (u : Nat) : Nat := 3 * 2 ^ 12 + 272 + u
def moverRq (m : Nat) : Nat := 4 * 2 ^ 12 + m
def controlRq : Nat := 4 * 2 ^ 12 + 4095

/-- A requester of class 3 or 4 accesses a line; what it reads is told by the command that reads it (log entry 60). -/
def State.access (s : State) (line id : Nat) (read : Bool) : State :=
  s.request (s.linePch line) { id := id, read := read, told := true }

/-- Pans held by history rings. -/
def State.ringPans (s : State) : List Nat := (s.rsv.rings.map Ring.pans).flatten

/-- Pans that hold a small ring. -/
def State.smallPans (s : State) : List Nat := (s.rsv.small.map SmallRing.pan).eraseDups

/-- RSV_PANS_FREE follows what is held. -/
def State.showPans (s : State) : State :=
  s.wr Obj.RSV_PANS_FREE (s.rd Obj.RSV_PANS_TOTAL - s.ringPans.length - s.smallPans.length)

/-- The small ring that serves an object. -/
def State.small (s : State) (key : Nat) : Option SmallRing := (s.rsv.small.filter fun r => r.owner == key).getLast?

/-- A small ring's word address. -/
def SmallRing.base (r : SmallRing) : Nat := r.pan * 2 ^ 24 + r.off

/-- The small rings of an object other than one of `words` words are freed; 0 frees all. -/
def State.freeSmall (s : State) (key words : Nat) : State :=
  ({ s with rsv := { s.rsv with small := s.rsv.small.filter fun r => r.owner != key || (words != 0 && r.words == words) } }).showPans

/-! ## The ring writer -/

/-- Lines waiting in a writer's buffer. DESIGN CHOICE: a run of wholly withheld lines takes one place, since its lines have come one by one
over the ticks that they cover, and the writer has had that time (log entry 60). -/
def Ring.fill (r : Ring) : Nat := r.buf.length

/-- The panic level of a writer's fill (R186). -/
def panicOf (n : Nat) : Nat := if Nat.ble 768 n then 2 else if Nat.ble 512 n then 1 else 0

/-- Set a writer's panic level; entries into panic 2 are counted (R186). -/
def State.setPanic (s : State) (h : Nat) : State :=
  let r := s.ring h
  let p := panicOf r.fill
  let s := s.updRing h fun r => { r with panic := p }
  if p = 2 && r.panic != 2 then s.count Obj.RSV_PANIC_COUNT else s

/-- Flows fed live by a ring. -/
def State.ringFlows (s : State) (h : Nat) : List Nat :=
  s.runningFlows.filter fun f => s.flowRing f == some h

/-- The last label of a line, or the last tick of a raw ring's (R178, R225). -/
def State.lineLast (s : State) (h no : Nat) : Nat := if h < 16 then (no * 64 + 63) * s.ringStep h else no * 192 + 191

/-- A line reaches the writer's buffer; a full buffer drops it: RSV_HIST_DROP, the gap/loss record of cause WRITER_DROP
and the RSV_WR_DROP alert (R187). -/
def State.pushLine (s : State) (h : Nat) (l : Line) : State :=
  if Nat.blt (s.ring h).fill 1024 then
    (s.updRing h fun r => { r with buf := r.buf ++ [l] }).setPanic h
  else
    let first := l.no * 64 * s.ringStep h
    let last := s.lineLast h (l.no + l.n - 1)
    let r := gapRecord 8 h first last 2 l.n 0
    let s := (s.countN (Obj.RSV_HIST_DROP h) l.n).side h r
    let s := (s.ringFlows h).foldl (fun s f => s.explain f last r) s
    s.event 2 254 0x0300 h l.n

/-- Finish the line being filled: positions without a sample are written as zero and flag the line (R180). -/
def State.finishLine (s : State) (h : Nat) : State :=
  let r := s.ring h
  match r.cur with
  | none => s
  | some no =>
    let flag := if r.got.length = 64 then 0 else if r.got.isEmpty then 2 else 1
    let l : Line := { no := no, words := r.got, flag := flag }
    (s.updRing h fun r => { r with cur := none, got := [], next := some (no + 1) }).pushLine h l

/-- Position i of the ring receives a sample: earlier lines are finished and lines wholly without samples in between
are written as withheld (R180, R182: never below the writer's start). -/
def State.ringPut (s : State) (h i : Nat) (v : Samp) : State :=
  if !s.rdB (Obj.RSV_HIST_ENABLE h) || Nat.blt (i * s.ringStep h) (s.ring h).startAt || s.rd (Obj.RSV_HIST_STATE h) != 1 then s
  else
    let no := i / 64
    let s := if (s.ring h).cur = some no then s else s.finishLine h
    let s := match (s.ring h).next with
      | none => s
      | some m => if m < no then s.pushLine h { no := m, n := no - m, flag := 2 } else s
    let s := s.updRing h fun r => { r with cur := some no, next := none, got := r.got ++ [(i % 64, v)] }
    if (s.ring h).got.length = 64 then s.finishLine h else s

/-- Finish the RAW3 word being filled: ticks not delivered read zero (R225). -/
def State.finishRaw (s : State) (h : Nat) : State :=
  let r := s.ring h
  match r.rawAt with
  | none => s
  | some i =>
    let f (k : Nat) : Nat := ((r.raw.find? fun p => p.1 == k).map Prod.snd).getD 0
    (s.updRing h fun r => { r with rawAt := none, raw := [], rawOvl := false }).ringPut h i ⟨f 0 * 2 ^ 24 + f 1 * 2 ^ 12 + f 2, r.rawOvl⟩

/-- Tick t of a raw ring receives a 12-bit code, of a block with a saturated sample or not (R66, R179, R225). -/
def State.rawPut (s : State) (h t code : Nat) (ovl : Bool) : State :=
  let i := t / 3
  let s := if (s.ring h).rawAt = some i then s else s.finishRaw h
  let s := s.updRing h fun r => { r with rawAt := some i, raw := r.raw ++ [(t % 3, code)], rawOvl := r.rawOvl || ovl }
  if t % 3 = 2 then s.finishRaw h else s

/-- The writer stops: the line it is filling ends, and the lines up to its resumption stay stale (R180, R192). -/
def State.stopRing (s : State) (h : Nat) : State :=
  ((s.finishRaw h).finishLine h).updRing h fun r => { r with next := none }

/-- Flows that send, drain or have stalled and retain by reference to a ring (Table 11.4, R259). -/
def State.refFlows (s : State) (h : Nat) : List Nat :=
  (List.range 249).filter fun f =>
    (s.rd (Obj.FLOW_STATE f) == 2 || s.rd (Obj.FLOW_STATE f) == 3 || s.rd (Obj.FLOW_STATE f) == 4) &&
      s.rd (Obj.FLOW_DIR f) == 0 && s.flowRing f == some h

/-- The ring's content is gone: no unreleased frame of its flows is held any longer (R259, R260). -/
def State.loseRef (s : State) (h : Nat) : State := (s.refFlows h).foldl (fun s f => s.missFrames f fun _ => true) s

/-- The ring restarts empty with its allocation number advanced; it holds no label below the first it may write (R182). -/
def State.discardRing (s : State) (h : Nat) : State :=
  let s := s.loseRef h
  let s := s.updRing h fun r =>
    { r with buf := [], cur := none, got := [], next := none, rawAt := none, raw := [], lines := [], lastNo := 0, startAt := s.tick, panic := 0 }
  ((s.wr (Obj.RSV_HIST_ALLOC h) ((s.rd (Obj.RSV_HIST_ALLOC h) + 1) % 256)).wr (Obj.RSV_HIST_NEWEST h) 0).wr
    (Obj.RSV_HIST_OLDEST h) (roundUp s.tick (s.ringStep h))

/-- A written line is current: allocation number as now and not yet overwritten (R180). -/
def State.currentLine (s : State) (h no : Nat) : Option Line :=
  let r := s.ring h
  if Nat.ble r.lastNo (no + s.rd (Obj.RSV_HIST_PANS h) * 2 ^ 18) then
    r.lines.find? fun l => Nat.ble l.no no && Nat.blt no (l.no + l.n) && l.alloc == s.rd (Obj.RSV_HIST_ALLOC h)
  else none

/-- Frames of a flow that retains by reference are lost once the ring no longer holds what they carry (R259, R260). -/
def State.dropUnheldRef (s : State) (h : Nat) : State :=
  let oldest := s.rd (Obj.RSV_HIST_OLDEST h)
  (s.refFlows h).foldl (fun s f => s.missFrames f fun fr => Nat.blt fr.tick oldest) s

/-- The flows cut live from the ring read a line's samples (R224). -/
def State.feedLine (s : State) (h : Nat) (l : Line) : State :=
  let step := s.ringStep h
  (s.sourceFlows 1 h).foldl (fun s f =>
    let reclen := s.rd (Obj.FLOW_RECLEN f)
    s.updFlow f fun x => l.words.foldl (fun x p => x.sample s.wall h step reclen (l.no * 64 + p.1) p.2) x) s

/-- Write the oldest waiting line of ring h (R179 to R182, R187, R459). -/
def State.writeLine (s : State) (h : Nat) (l : Line) (rest : List Line) : State :=
  let step := s.ringStep h
  let size := s.rd (Obj.RSV_HIST_PANS h) * 2 ^ 18
  let r := s.ring h
  -- R459: a stop of 2^15 wraps or more makes every line stale
  let long := r.lastNo != 0 && Nat.ble (2 ^ 15 * size) (l.no - (r.lastNo - 1))
  let s := if long then
      s.wr (Obj.RSV_HIST_ALLOC h) ((s.rd (Obj.RSV_HIST_ALLOC h) + 1) % 256) else s
  let kept := if long then [] else r.lines.filter fun x => Nat.blt l.no (x.no + x.n + size)
  let line := s.physLine h l.no
  let dead := s.deadLine line
  let one : Line := { l with n := 1, alloc := s.rd (Obj.RSV_HIST_ALLOC h) }
  let lines := if dead then kept
    else match kept with
      | x :: xs => if x.flag = 2 ∧ one.flag = 2 ∧ x.alloc = one.alloc ∧ x.no + x.n = one.no
          then { x with n := x.n + 1 } :: xs else one :: kept
      | [] => [one]
  let buf := if l.n ≤ 1 then rest else { l with no := l.no + 1, n := l.n - 1 } :: rest
  let start := roundUp r.startAt step
  let oldest := if long then l.no * 64 * step
    else max start ((l.no + 1) * 64 * step - s.ringSpan h)
  let s := s.updRing h fun r => { r with buf := buf, lines := lines, lastNo := l.no + 1 }
  let s := ((s.wr (Obj.RSV_HIST_NEWEST h) (l.no * 64 * step + 63 * step)).wr (Obj.RSV_HIST_OLDEST h)
    (if r.lastNo = 0 then max start (l.no * 64 * step) else
      max (s.rd (Obj.RSV_HIST_OLDEST h)) oldest)).setPanic h
  let s := s.request (s.linePch line) { id := ringRq h, read := false }
  let s := (s.sourceFlows 1 h).foldl (fun s f => s.access line (flowRq f) true) s
  (s.feedLine h one).dropUnheldRef h

/-- HIST_LINE_WRITE (R180): the writer of ring h writes its oldest waiting line, while the ring is writing and the
Reservoir runs, once its pseudo-channel has a place for the request. -/
def execHistLineWrite (h : Nat) (s : State) : Host.Outcome State Fault Refusal :=
  done s <|
    if s.rd (Obj.RSV_HIST_STATE h) = 1 && (s.rd Obj.RSV_STATE == 2 || s.rd Obj.RSV_STATE == 4) then
      match (s.ring h).buf with
      | [] => s
      | l :: rest =>
        let k := s.linePch (s.physLine h l.no)
        if (s.pch k).failed || s.hasPlace k 1 then s.writeLine h l rest else s
    else s

/-! ## A ring's Joint -/

/-- The n lowest pans that nothing holds. -/
def State.freePans (s : State) (n : Nat) : List Nat :=
  ((List.range (s.rd Obj.RSV_PANS_TOTAL)).filter fun q => !s.ringPans.contains q && !s.smallPans.contains q).take n

/-- The ring's values after its Joint: a disabling frees its pans and its side area; an enabling or a new size allocates pans, discarding
what was held (R182, R183). DESIGN CHOICE: a side area of another size keeps the latest records that it has room for (log entry 60). -/
def State.ringAfter (s : State) (h b : Nat) (wasOn : Bool) (oldPans : Nat) : State :=
  let s := s.wr (Obj.RSV_HIST_LAST_JOINT h) b
  let side := 2 ^ s.rd (Obj.RSV_HIST_SIDE_LOG2 h)
  let s :=
    if !s.rdB (Obj.RSV_HIST_ENABLE h) then
      ((((s.loseRef h).updRing h fun _ => {}).freeSmall (Obj.RSV_HIST_SIDE_LOG2 h) 0).wr (Obj.RSV_HIST_STATE h) 0).wrAll
        [(Obj.RSV_HIST_SPAN h, 0), (Obj.RSV_HIST_NEWEST h, 0), (Obj.RSV_HIST_OLDEST h, 0), (Obj.RSV_HIST_SIDE_OLDEST h, 0)]
    else
      let again := wasOn && oldPans == s.rd (Obj.RSV_HIST_PANS h)
      let s := s.freeSmall (Obj.RSV_HIST_SIDE_LOG2 h) side
      let s := s.updRing h fun r => { r with side := sideTrim side r.side }
      let s := if again then s
        else
          let s := s.updRing h fun r => { r with pans := [] }
          let p := s.freePans (s.rd (Obj.RSV_HIST_PANS h))
          let s := s.updRing h fun r => { r with pans := p }
          let s := (if wasOn then s.discardRing h else s).updRing h fun r => { r with startAt := b }
          s.wr (Obj.RSV_HIST_OLDEST h) (roundUp b (s.ringStep h))
      (s.wr (Obj.RSV_HIST_STATE h) 1).wr (Obj.RSV_HIST_SPAN h) (s.ringSpan h)
  s.showPans

/-! ## Pseudo-channels -/

/-- Refresh window of a stack in ticks (R188). -/
def State.refreshWindow (s : State) (stack : Nat) : Nat :=
  if s.rdB (Obj.RSV_REFRESH_X2 stack) then 16 * tpms else 32 * tpms

/-- A real-time port is in panic 2. -/
def State.panic2 (s : State) : Bool := (s.rsv.rings.any fun r => r.panic == 2) || s.scan.panic == 2

/-- The stacks and their controller run: not unpowered, in training or in self-refresh (R192, R193). -/
def State.rsvUp (s : State) : Bool := s.rd Obj.RSV_STATE == 2 || s.rd Obj.RSV_STATE == 4

/-! ### The scan-out reader (R184, R186, R283) -/

/-- The reader fetches the frame that is sent: a layer is held in the Reservoir, and the frame is not of the background alone
(R287). -/
def State.scanFetching (s : State) : Bool :=
  s.scan.sending && !s.scan.blank && [0, 2, 3].any fun l => s.rdB (Obj.SCAN_L_ENABLE l)

/-- The reader's panic level: the lines fetched ahead of the line being sent against the announced tolerance. A frame that is
fetched whole wants nothing. -/
def State.scanPanicLevel (s : State) : Nat :=
  let ahead := s.scan.fetched - s.scan.line
  let tol := s.rd Obj.SCAN_TOL_LINES
  if !s.scanFetching || Nat.ble (s.rd Obj.SCAN_VACTIVE) s.scan.fetched then 0
  else if ahead < tol then 2 else if ahead < 2 * tol then 1 else 0

/-- Set the reader's panic level; entries into panic 2 are counted. -/
def State.setScanPanic (s : State) : State :=
  let p := s.scanPanicLevel
  let was := s.scan.panic
  let s : State := { s with scan := { s.scan with panic := p } }
  if p = 2 && was != 2 then s.count Obj.RSV_PANIC_COUNT else s

/-- Line of the line space at which the pixels of line y begin, in the lowest layer that the Reservoir holds. -/
def State.scanFetchLine (s : State) (y : Nat) : Nat :=
  let l := ([0, 2, 3].find? fun l => s.rdB (Obj.SCAN_L_ENABLE l)).getD 0
  (s.rd (Obj.SCAN_L_BUF_BASE l) + s.rd (Obj.SCAN_L_OFFSET l) + (y - s.rd (Obj.SCAN_L_Y l)) * s.rd (Obj.SCAN_L_STRIDE l)) / 64

/-- The reader asks for the next line of the frame while its 96-line buffer has room (Table 1.1): one request stands for a line. A line of a
failed pseudo-channel is had at once, uncorrectable. -/
def State.scanAsk (s : State) : State :=
  let n := s.scan.fetched
  if s.scanFetching && Nat.blt n (s.rd Obj.SCAN_VACTIVE) && Nat.blt n (s.scan.line + 96) &&
      !(s.rsv.pch.any fun p => p.queue.any (fun q => q.cls == 2) || p.waiting.any fun q => q.cls == 2) then
    if s.deadLine (s.scanFetchLine n) then { s with scan := { s.scan with fetched := n + 1 } }
    else s.request (s.linePch (s.scanFetchLine n)) { id := 2 ^ 13, read := true }
  else s

/-- The reader takes stock: its panic level, and its next request. -/
def State.scanReader (s : State) : State := s.setScanPanic.scanAsk

/-- A request of the reader has been served: the line is fetched. A line sent meanwhile is no longer wanted. -/
def State.scanFetched (s : State) : State :=
  ({ s with scan := { s.scan with fetched := max (s.scan.fetched + 1) s.scan.line } } : State).scanReader

/-- A pseudo-channel fails in service (R196). -/
def State.failPch (s : State) (k : Nat) : State :=
  if (s.pch k).failed then s
  else
    let s := s.updPch k fun p => { p with failed := true, inService := false, queue := [], waiting := [] }
    let m := s.rd (Obj.RSV_PCH_MAP (k / 32))
    let s := (s.wr (Obj.RSV_PCH_MAP (k / 32)) (setBit m (k % 32) false)).wr Obj.DEV_PCH_IN_SERVICE
      (s.rd Obj.DEV_PCH_IN_SERVICE - 1)
    let s := ((s.wr Obj.RSV_PCH_FAILED (s.rd Obj.RSV_PCH_FAILED + 1)).wr Obj.RSV_STATE 4).setFloors
    s.event 3 254 0x0303 k

/-- Corrected and uncorrectable bursts of a pseudo-channel (R195); the 16th uncorrectable within 1 s fails it (R196). -/
def State.ecc (s : State) (k addr corrected uncorrectable : Nat) : State :=
  let s := if corrected = 0 then s else s.countN Obj.RSV_ECC_CE corrected
  if uncorrectable = 0 then s
  else
    let a := k * 2 ^ 56 + addr % 2 ^ 56
    let s := (s.countN Obj.RSV_ECC_UE uncorrectable).wr Obj.RSV_ECC_LAST a
    let s := s.event 2 254 0x0302 (a / 2 ^ 36) (a % 2 ^ 36)
    let s := s.updPch k fun p =>
      { p with ue := (List.replicate (min 16 uncorrectable) s.wall ++ p.ue.filter fun t => Nat.blt s.wall (t + tps)).take 16 }
    if Nat.ble 16 (s.pch k).ue.length then s.failPch k else s

/-- Charge an activation to a row (R189): a tracked row counts up; an untracked one takes a free entry of its bank's 32
or replaces the smallest, charged one above it. The new count is answered. -/
def chargeRow (rows : List RowCount) (bank row : Nat) : List RowCount × Nat :=
  match rows.find? fun r => r.bank == bank && r.row == row with
  | some r =>
    (⟨bank, row, r.count + 1⟩ :: rows.filter (fun x => !(x.bank == bank && x.row == row)), r.count + 1)
  | none =>
    let mine := rows.filter fun r => r.bank == bank
    if Nat.blt mine.length 32 then (⟨bank, row, 1⟩ :: rows, 1)
    else
      let m := mine.foldl (fun m r => min m r.count) (2 ^ 32)
      match mine.find? fun r => r.count == m with
      | some v => (⟨bank, row, m + 1⟩ :: rows.filter (fun x => !(x.bank == bank && x.row == v.row)), m + 1)
      | none => (rows, 1)

/-- An uncorrectable burst that a command's own read of a line met (R195): which of the line's nine bursts is a free value. A failed
pseudo-channel returns no burst. DEDUCED: a pseudo-channel's bursts are addressed in the order of its lines (R177, R178). -/
def State.badLine (s : State) (line : Nat) : State :=
  if s.deadLine line then s
  else (s.used 1).ecc (s.linePch line) (9 * (line / max 1 s.rsv.layout.length) + s.freeN % 9) 0 1

/-- A requester of class 3 or 4 caused a targeted refresh of a row: the fourth within the window throttles it (R190). -/
def State.causeTrr (s : State) (k id bank row : Nat) : State :=
  if id / 2 ^ 12 < 3 then s
  else
    let c := ((s.pch k).causes.find? fun c => c.id == id && c.bank == bank && c.row == row).getD ⟨id, bank, row, 0, false, s.wall⟩
    let n := c.n + 1
    let here := (s.pch k).causes.any fun c => c.id == id && c.throttled
    let already := (List.range 32).any fun j => (s.pch (k / 32 * 32 + j)).causes.any fun c => c.id == id && c.throttled
    let c' : RowCause := { c with n := n, throttled := c.throttled || Nat.ble 4 n, last := s.wall }
    let s := s.updPch k fun p =>
      { p with causes := c' :: p.causes.filter fun c => !(c.id == id && c.bank == bank && c.row == row) }
    if n = 4 && !here then
      let s := (s.count Obj.RSV_THROTTLE_COUNT).wr Obj.RSV_THROTTLE_LAST id
      if already then s else s.event 1 254 0x0301 id k
    else s

/-- Rank of a waiting request in the order of R185. -/
def State.rank (s : State) (q : Rq) : Nat :=
  match q.cls with
  | 1 => match (s.ring (q.id % 4096)).panic with
    | 2 => 2 | 1 => 3 | _ => 5
  | 2 => match s.scan.panic with
    | 2 => 2 | 1 => 3 | _ => 5
  | 3 => 6
  | 4 => 7
  | _ => 8

/-- The retraining of a pseudo-channel is due, by its period or its stack's temperature (R194). -/
def State.retrainDue (s : State) (k : Nat) : Bool :=
  Nat.ble ((s.pch k).retrainAt + s.rd Obj.RSV_RETRAIN_PERIOD * tpms) s.wall ||
    Nat.ble (s.rd Obj.RSV_RETRAIN_DT) (s.rdI (Obj.RSV_STACK_TEMP (k / 32)) - (s.pch k).retrainTemp).natAbs

/-- Rank of the maintenance that a pseudo-channel waits for (R185): 1 a refresh that can no longer be postponed, 4 a postponable one or a
retraining, which wait in panic 2 (R186); 9 for none. -/
def State.maintenanceRank (s : State) (k : Nat) : Nat :=
  let due := Nat.ble (at' s.rsv.refreshAt (k / 32)) s.wall
  if due && Nat.ble 8 (s.pch (k / 32 * 32)).postponed then 1
  else if (due || s.retrainDue k) && !s.panic2 then 4 else 9

/-- The request a pseudo-channel serves next: lowest rank, oldest first, passing over throttled requesters; none while maintenance of a
lower rank is due. -/
def State.nextRq (s : State) (k : Nat) : Option Rq :=
  let p := s.pch k
  let ready := p.queue.filter fun q => !p.holds s.wall q.id
  let best := ready.foldl (fun m q => min m (s.rank q)) 9
  if s.maintenanceRank k < best then none else ready.find? fun q => s.rank q == best

/-- A real-time request in panic waits in the pseudo-channel: it goes before a postponable refresh, a retraining and the scrub. -/
def State.panicWaits (s : State) (k : Nat) : Bool := (s.pch k).queue.any fun q => Nat.ble (s.rank q) 3

/-- A request of a re-read waits or is queued. -/
def State.reReading (s : State) (f seq : Nat) : Bool :=
  s.rsv.pch.any fun p => p.queue.any (fun q => q.frame == some (f, seq)) || p.waiting.any fun q => q.frame == some (f, seq)

/-- Serve one request: the row's activation is charged, a row at 2,048 is refreshed with its neighbours, the outcome of
the error correction is taken, and a frame re-read from a corrupt line is lost (R185, R189, R190, R195). -/
def State.serveRq (s : State) (k bank row addr corrected uncorrectable : Nat) (q : Rq) : State :=
  let (rows, n) := chargeRow (s.pch k).rows bank row
  let hot := Nat.ble 2048 n
  let rows := if hot then rows.map fun r => if r.bank = bank ∧ r.row = row then { r with count := 0 } else r else rows
  let s := s.updPch k fun p =>
    { p with rows := rows, queue := p.queue.erase q, idleSince := s.wall, powerDown := false
             trr := p.trr + b2n hot
             causes := p.causes.map fun c => if c.id = q.id ∧ c.throttled then { c with last := s.wall } else c }
  let s := if hot then (s.count Obj.RSV_TRR_COUNT).causeTrr k q.id bank row else s
  let s := if q.read && !q.told then s.ecc k addr corrected uncorrectable else s
  let s := match q.frame with
    | none => s
    | some (f, seq) =>
      if uncorrectable != 0 then s.missFrames f fun fr => fr.seq == seq
      else if s.reReading f seq then s
      else s.updFlow f fun x => { x with frames := x.frames.map fun (g : TxFrame) => if g.seq = seq then { g with ready := g.again } else g }
  ((if q.cls = 2 then s.scanFetched else s).promote k).showOutstanding

/-- RESERVOIR_REQUEST_SERVE (R185). -/
def execReservoirRequestServe (k bank row addr corrected uncorrectable : Nat) (s : State) :
    Host.Outcome State Fault Refusal :=
  done s <|
    if (s.pch k).failed || !s.rsvUp then s
    else
    let s := s.promote k
    match s.nextRq k with
      | none => s
      | some q => s.serveRq k bank row addr corrected uncorrectable q

/-- A stack's pseudo-channels begin a new refresh window: row counts and throttles end (R189, R190). -/
def State.newWindow (s : State) (stack : Nat) : State :=
  (List.range 32).foldl (fun s j => s.updPch (stack * 32 + j) fun p =>
    { p with rows := [], causes := [], window := s.wall, postponed := 0 }) s

/-- REFRESH_DUE (R185, R188): the stack's temperature sets its window; the refresh runs, or waits for panic while the JEDEC
allowance of 8 lasts (log entry 11). -/
def execRefreshDue (stack : Nat) (tempQ8 : Int) (s : State) : Host.Outcome State Fault Refusal :=
  done s <|
    if s.rsvUp && Nat.blt stack 4 && Nat.ble (at' s.rsv.refreshAt stack) s.wall then
      let s := (s.wrI (Obj.RSV_STACK_TEMP stack) tempQ8).wr (Obj.RSV_REFRESH_X2 stack) (b2n (decide (85 * 256 < tempQ8)))
      let waits := s.panic2 || (List.range 32).any fun j => s.panicWaits (stack * 32 + j)
      if waits && Nat.blt (s.pch (stack * 32)).postponed 8 then
        (List.range 32).foldl (fun s j => s.updPch (stack * 32 + j) fun p => { p with postponed := p.postponed + 1 }) s
      else
        let s := s.newWindow stack
        { s with rsv := { s.rsv with refreshAt := s.rsv.refreshAt.set stack (s.wall + s.refreshWindow stack) } }
    else s

/-- PCH_POWER_DOWN (R191): a pseudo-channel idle for RSV_IDLE_PD ns enters power-down; 0 disables it. -/
def execPchPowerDown (k : Nat) (s : State) : Host.Outcome State Fault Refusal :=
  done s <|
    let ns := s.rd Obj.RSV_IDLE_PD
    if s.rsvUp && ns != 0 && (s.pch k).queue.isEmpty && Nat.ble ((s.pch k).idleSince + ns * 32) s.wall then
      s.updPch k fun p => { p with powerDown := true }
    else s

/-- PCH_RETRAIN (R194): due by its period or its stack's temperature; panic 2 makes it wait, counted; a failed
retraining is followed by a full training, and its failure is R196's. -/
def execPchRetrain (k : Nat) (ok fullOk : Bool) (s : State) : Host.Outcome State Fault Refusal :=
  done s <|
    let p := s.pch k
    let temp := s.rdI (Obj.RSV_STACK_TEMP (k / 32))
    if !s.retrainDue k || p.failed || Nat.ble 128 k || !s.rsvUp then s
    else if s.panic2 then (if p.deferred then s else (s.updPch k fun p => { p with deferred := true }).count Obj.RSV_RETRAIN_DEFER)
    else if s.panicWaits k then s
    else
      let s := s.updPch k fun p => { p with retrainAt := s.wall, retrainTemp := temp, deferred := false }
      if ok || fullOk then s else s.failPch k

/-- SCRUB (R185, R186, R195): the small rings' lines of a pseudo-channel are read once per period, behind every request, and not in
panic 2. -/
def execScrub (k addr corrected uncorrectable : Nat) (s : State) : Host.Outcome State Fault Refusal :=
  done s <|
    let hours := s.rd Obj.RSV_SCRUB_PERIOD
    if hours = 0 || Nat.blt s.wall s.rsv.scrubAt || (s.pch k).failed || !s.rsvUp || s.panic2 || (s.nextRq k).isSome then s
    else
      let s := { s with rsv := { s.rsv with
        scrubAt := if (List.range 128).all (fun j => Nat.ble j k || (s.pch j).failed) then s.wall + hours * 3600 * tps else s.rsv.scrubAt } }
      s.ecc k addr corrected uncorrectable

/-- Pans for n pseudo-channels in service (Table 8.1). -/
def pansFor (n : Nat) : Nat := n * 64 / 9

/-- Fence a pseudo-channel that failed training (R193, R443). -/
def State.fencePch (s : State) (k : Nat) : State :=
  let s := s.updPch k fun p => { p with inService := false, failed := true }
  let b := s.rd (Obj.DIAG_FENCE_PCH (k / 32))
  (s.wr (Obj.DIAG_FENCE_PCH (k / 32)) (setBit b (k % 32) true)).event 2 254 0x0015 4 k

/-- Every pseudo-channel is freshly trained at its stack's temperature, and every line is stale (R193, R194). -/
def State.trainAll (s : State) (failed : List Nat) : State :=
  let temp (k : Nat) := s.rdI (Obj.RSV_STACK_TEMP (k / 32))
  { s with rsv := { s.rsv with
      pch := (List.range 128).map fun k =>
        ({ retrainAt := s.wall, retrainTemp := temp k, idleSince := s.wall, failed := failed.contains k, inService := !failed.contains k } : Pch)
      rings := s.rsv.rings.map fun (r : Ring) => ({ r with lines := [], lastNo := 0 } : Ring)
      trained := true } }

/-- RESERVOIR_TRAINING_DONE (R193): at start-up every line becomes stale, the pseudo-channels that failed, in training or in service
before, are fenced, and the layout, the pans, the map and the floors are set (Table 8.1, R17, R178, R196). On a return from DORMANT, which
is no start, the layout stays, and a pseudo-channel that fails its training fails in service. -/
def execReservoirTrainingDone (failed : List Nat) (s : State) : Host.Outcome State Fault Refusal :=
  done s <|
    let was := (List.range 128).filter fun k => (s.pch k).failed
    if s.rd Obj.RSV_STATE = 1 && s.pwr.step == 6 then
      let s := s.trainAll was
      let s := s.wr Obj.RSV_STATE (if s.rd Obj.RSV_PCH_FAILED = 0 then 2 else 4)
      (failed.filter fun k => Nat.blt k 128).foldl State.failPch s
    else if s.rd Obj.RSV_STATE = 1 && s.start.tested then
      let bad := (was ++ failed.filter fun k => Nat.blt k 128).eraseDups
      let s := s.trainAll []
      let s := bad.foldl (fun s k => s.fencePch k) s
      let up := (List.range 128).filter fun k => !bad.contains k
      let n := up.length
      let s := { s with rsv := { s.rsv with layout := up } }
      let s := (List.range 4).foldl (fun s j =>
        s.wr (Obj.RSV_PCH_MAP j) ((List.range 32).foldl (fun m b => m + if up.contains (32 * j + b) then 2 ^ b else 0) 0)) s
      (s.wrAll [(Obj.RSV_STATE, 2), (Obj.DEV_PCH_IN_SERVICE, n), (Obj.RSV_PANS_TOTAL, pansFor n),
        (Obj.RSV_PCH_FAILED, 0)]).showPans.setFloors
    else s

/-! ## Replay -/

/-- A replay slot's record. -/
def State.replay (s : State) (x : Nat) : Replay := at' s.rsv.replays x

/-- Change a replay slot's record. -/
def State.updReplay (s : State) (x : Nat) (g : Replay → Replay) : State :=
  { s with rsv := { s.rsv with replays := s.rsv.replays.modify x g } }

/-- The margin of R198, rounded down: limit − (a + max(k − 1, 0) × d) with k = w / f. -/
def State.replayMargin (s : State) (x : Nat) : Int :=
  let h := s.rd (Obj.RSV_RPL_RING x)
  let f := s.rd (Obj.RSV_RPL_RATE x)
  let first := s.rd (Obj.RSV_RPL_FIRST x)
  let last := s.rd (Obj.RSV_RPL_LAST x)
  let span := s.rd (Obj.RSV_HIST_SPAN h)
  let limit : Int := (span - span / 256 : Nat)
  let a : Int := (s.rd (Obj.RSV_HIST_NEWEST h) : Int) - first
  let d : Int := (last : Int) - first
  -- w as a fraction: 72 × 10^9 / D for a tuner ring, 48 × 10^9 for a raw ring
  let (wn, wd) := if h < 16 then (72000000000, s.rd (Obj.TUNE_DECIM h)) else (48000000000, 1)
  limit - a + -(((wn - f * wd : Nat) : Int) * d) / ((f * wd : Nat) : Int)

/-- RSV_RPL_START (R198): a write of 1 to RSV_RPL_CMD checks the window in order and starts the replay. A slot whose
rate in force is 0 answers RANGE. -/
def State.replayStart (s : State) (x : Nat) (r : Req) : State :=
  let h := s.rd (Obj.RSV_RPL_RING x)
  let first := s.rd (Obj.RSV_RPL_FIRST x)
  let last := s.rd (Obj.RSV_RPL_LAST x)
  let newest := s.rd (Obj.RSV_HIST_NEWEST h)
  let m := s.replayMargin x
  let s := s.wr (Obj.RSV_RPL_MARGIN x) (ofI 64 m)
  if s.rd (Obj.RSV_RPL_STATE x) = 2 then s.answer r .busy
  else if s.rd (Obj.RSV_RPL_RATE x) = 0 || Nat.blt last first || Nat.blt (newest + s.rd (Obj.RSV_HIST_SPAN h)) last
    || Nat.blt first (s.rd (Obj.RSV_HIST_OLDEST h)) || decide (m ≤ 0) then s.answer r .range
  else
    let step := s.ringStep h
    let s := s.updReplay x fun _ =>
      { at_ := ceilDiv first step / 64, first := first, last := last, sideTo := first, nextAt := s.wall }
    ((s.wr (Obj.RSV_RPL_STATE x) 2).wr (Obj.RSV_RPL_POS x) 0).answer r .ok

/-- RSV_RPL_ABORT (R198): a write of 2 aborts a running replay at its next record boundary. -/
def State.replayAbort (s : State) (x : Nat) (r : Req) : State :=
  let s := if s.rd (Obj.RSV_RPL_STATE x) = 2 then s.updReplay x fun p => { p with aborting := true } else s
  s.answer r .ok

/-- A write of RSV_RPL_CMD. -/
def State.replayCmd (x v : Nat) (r : Req) (s : State) : State :=
  if v = 1 then s.replayStart x r else if v = 2 then s.replayAbort x r else s.answer r .range

/-- RSV_RPL_START. -/
def execRsvRplStart (sess tag x : Nat) (s : State) : Host.Outcome State Fault Refusal :=
  done s (s.direct sess tag (Obj.RSV_RPL_CMD x) 1 (fun r s => s.replayCmd x 1 r))

/-- RSV_RPL_ABORT. -/
def execRsvRplAbort (sess tag x : Nat) (s : State) : Host.Outcome State Fault Refusal :=
  done s (s.direct sess tag (Obj.RSV_RPL_CMD x) 2 (fun r s => s.replayCmd x 2 r))

/-- A record delivered by a replay slot carries REPLAY, except types 12 to 16 (Table 10.4). -/
def State.enterReplay (s : State) (x : Nat) (r : Record) : State :=
  let r := if Nat.ble 12 r.type && Nat.ble r.type 16 then r else { r with flags := r.flags + 8 * b2n (r.flags / 8 % 2 == 0) }
  s.enterAll (s.sourceFlows 7 x) r

/-- Side records that stand for labels a to b though their tick lies below the replay's first label are delivered once (Table 8.4). -/
def State.replayEarly (s : State) (x a b : Nat) : State :=
  let p := s.replay x
  let names (r : Record) : Bool :=
    (r.type == 9 || r.type == 10 || r.type == 11) && Nat.blt r.tick p.first && !p.early.contains r &&
      Nat.ble (at' r.payload 0 * 2 ^ 36 + at' r.payload 1) b && Nat.ble a (at' r.payload 2 * 2 ^ 36 + at' r.payload 3)
  let rs := (s.ring (s.rd (Obj.RSV_RPL_RING x))).side.filter names
  (rs.foldl (fun s r => s.enterReplay x r) s).updReplay x fun p => { p with early := p.early ++ rs }

/-- Side records with a tick from the last delivered up to `upto` follow the sample record that contains them. -/
def State.replaySide (s : State) (x upto : Nat) : State :=
  let p := s.replay x
  let rs := (s.ring (s.rd (Obj.RSV_RPL_RING x))).side.filter fun r => Nat.ble p.sideTo r.tick && Nat.blt r.tick upto
  (rs.foldl (fun s r => s.enterReplay x r) s).updReplay x fun p => { p with sideTo := max p.sideTo upto }

/-- Name the lines of one cause that wait to be named together (Table 10.6). -/
def State.replayFlushRun (s : State) (x : Nat) : State :=
  match (s.replay x).run with
  | none => s
  | some (a, b, cause, n) =>
    (s.enterReplay x (gapRecord 9 x a b cause n 0)).updReplay x fun p => { p with run := none }

/-- End the sample record a replay is cutting. -/
def State.replayEndCut (s : State) (x : Nat) : State :=
  let p := s.replay x
  if p.cut.isEmpty then s
  else
    let h := s.rd (Obj.RSV_RPL_RING x)
    let step := s.ringStep h
    let r : Record :=
      { type := if h < 16 then 1 else 2, srcKind := 8, srcIndex := h, tick := p.cutAt * step
        flags := b2n (p.cut.any Samp.ovl) + 2 * b2n p.afterGap + 128 * b2n p.opened, payload := p.cut.map Samp.w }
    let s := (s.enterReplay x r).updReplay x fun p => { p with cut := [], opened := false, afterGap := false }
    s.replaySide x ((p.cutAt + p.cut.length) * step)

/-- One sample of a replay; the side records of the ticks before a sample record stand ahead of it. -/
def State.replaySample (s : State) (x i : Nat) (v : Samp) : State :=
  let p := s.replay x
  let step := s.ringStep (s.rd (Obj.RSV_RPL_RING x))
  let s := if !p.cut.isEmpty && p.cutAt + p.cut.length = i then s
    else ((s.replayEndCut x).replaySide x (i * step)).updReplay x fun q =>
      { q with opened := q.opened || !p.cut.isEmpty, afterGap := q.afterGap || !p.cut.isEmpty }
  let s := s.updReplay x fun p =>
    { p with cutAt := if p.cut.isEmpty then i else p.cutAt, cut := p.cut ++ [v] }
  if Nat.ble (s.rd (Obj.RSV_RPL_RECLEN x)) (s.replay x).cut.length then s.replayEndCut x else s

/-- A line not delivered as samples is counted and joins the run of its cause (Table 8.4). -/
def State.replayLost (s : State) (x a b cause : Nat) : State :=
  let s := (s.replayEndCut x).count (Obj.RSV_RPL_LOST x)
  match (s.replay x).run with
  | some (a', b', c, n) =>
    if c = cause ∧ b' < a then s.updReplay x fun p => { p with run := some (a', b, c, n + 1), opened := true, afterGap := true }
    else ((s.replayFlushRun x).replaySide x a).updReplay x fun p =>
      { p with run := some (a, b, cause, 1), opened := true, afterGap := true }
  | none => (s.replaySide x a).updReplay x fun p => { p with run := some (a, b, cause, 1), opened := true, afterGap := true }

/-- A side record names labels of the span as withheld: a kerf, converter interval or gap/loss record over it. -/
def State.spanNamed (s : State) (h a b : Nat) : Bool :=
  (s.ring h).side.any fun r =>
    (r.type == 9 || r.type == 10 || r.type == 11) &&
    Nat.ble (at' r.payload 0 * 2 ^ 36 + at' r.payload 1) b && Nat.ble a (at' r.payload 2 * 2 ^ 36 + at' r.payload 3)

/-- Every label of a line that it holds no sample of is named by a side record. -/
def State.gapsNamed (s : State) (h : Nat) (l : Line) (no : Nat) : Bool :=
  let step := s.ringStep h
  (List.range 64).all fun i => l.words.any (fun q => q.1 == i) || s.spanNamed h ((no * 64 + i) * step) ((no * 64 + i) * step + step - 1)

/-- The line a replay reads, delivered as Table 8.4 says. A running abort takes effect at the first record boundary, within a line too
(R198). -/
def State.replayLine (s : State) (x : Nat) (uncorrectable : Bool) : State :=
  let h := s.rd (Obj.RSV_RPL_RING x)
  let p := s.replay x
  let step := s.ringStep h
  let a := p.at_ * 64 * step
  let b := s.lineLast h p.at_
  let line := s.physLine h p.at_
  let s := s.access line (replayRq x) true
  if uncorrectable || s.deadLine line then (s.badLine line).replayLost x a b 6
  else match s.currentLine h p.at_ with
    | none => s.replayLost x a b 5
    | some l =>
      if l.flag = 2 then
        if s.spanNamed h a b then
          let s := ((s.replayEndCut x).replayFlushRun x).replayEarly x a b
          ((s.replaySide x (a + 64 * step)).updReplay x fun p => { p with opened := true, afterGap := true }).count (Obj.RSV_RPL_LOST x)
        else s.replayLost x a b 4
      else if l.flag = 1 && !s.gapsNamed h l p.at_ then s.replayLost x a b 4
      else
        let s := s.replayFlushRun x
        let s := if l.flag = 1 then s.replayEarly x a b else s
        l.words.foldl (fun s q =>
          let t := (p.at_ * 64 + q.1) * step
          if (s.replay x).aborting && (s.replay x).cut.isEmpty then s
          else if Nat.ble p.first t && Nat.ble t p.last then s.replaySample x (p.at_ * 64 + q.1) q.2 else s) s

/-- The replay ends: what is staged is delivered and RSV_RPL_STATE reads done or aborted. -/
def State.replayEnd (s : State) (x : Nat) : State :=
  let p := s.replay x
  let s := (s.replayEndCut x).replayFlushRun x
  if p.aborting then s.wr (Obj.RSV_RPL_STATE x) 4
  else ((s.replaySide x (p.last + 1)).wr (Obj.RSV_RPL_STATE x) 3).wr (Obj.RSV_RPL_COUNT x) ((s.rd (Obj.RSV_RPL_COUNT x) + 1) % 2 ^ 32)

/-- REPLAY_READ (R197, R199): the replay reads its next line, never ahead of the writer and at no more than f, while its ring is not shed
(R25) and its request may be made. -/
def execReplayRead (x : Nat) (uncorrectable : Bool) (s : State) : Host.Outcome State Fault Refusal :=
  done s <|
    let h := s.rd (Obj.RSV_RPL_RING x)
    let p := s.replay x
    let step := s.ringStep h
    if s.rd (Obj.RSV_RPL_STATE x) != 2 then s
    else if p.aborting && p.cut.isEmpty then s.replayEnd x
    else if Nat.blt s.wall p.nextAt || s.rd (Obj.RSV_HIST_STATE h) == 2 || !s.mayAsk (s.linePch (s.physLine h p.at_)) (replayRq x) then s
    else if Nat.blt (s.rd (Obj.RSV_HIST_NEWEST h)) (min p.last (p.at_ * 64 * step + 63 * step)) then s
    else
      let s := if !p.begun && Nat.blt p.first (s.rd (Obj.RSV_HIST_SIDE_OLDEST h)) then
          s.enterReplay x (gapRecord 9 x p.first (s.rd (Obj.RSV_HIST_SIDE_OLDEST h) - 1) 7 0 0) else s
      let s := s.replayLine x uncorrectable
      let s := (s.wr (Obj.RSV_RPL_POS x) (min p.last (p.at_ * 64 * step + 63 * step))).updReplay x fun q =>
        { q with at_ := p.at_ + 1, begun := true, nextAt := s.wall + ceilDiv (288 * tps) (max 1 (s.rd (Obj.RSV_RPL_RATE x))) }
      if p.last < (p.at_ + 1) * 64 * step || ((s.replay x).aborting && (s.replay x).cut.isEmpty) then s.replayEnd x else s

/-! ## Joints -/

/-- HIST_RING_JOINT (R182, R197): at its boundary a ring's change applies (h below 20), or a replay slot's (h − 20). -/
def execHistRingJoint (h : Nat) (s : State) : Host.Outcome State Fault Refusal :=
  done s <|
    if h < 20 then
      s.joint 6 ⟨.ring, h⟩ (fun _ _ s => s) fun _ b s' =>
        s'.ringAfter h b (s.rdB (Obj.RSV_HIST_ENABLE h)) (s.rd (Obj.RSV_HIST_PANS h))
    else
      let x := h - 20
      s.joint 6 ⟨.replay, x⟩ (fun _ _ s => s) fun _ _ s =>
        (s.wr (Obj.RSV_RPL_COUNT x) 0).wr (Obj.RSV_RPL_STATE x)
          (if s.rd (Obj.RSV_RPL_STATE x) = 2 then 2 else b2n (s.rd (Obj.RSV_RPL_RATE x) != 0))

end Sys2Proof.Machine
end

