-- ==== Sys2Proof/Machine/Staging.lean ====
section
/-! DEFINITION. Staging of SH objects (R342, R348, R353) and the tables loaded entry by entry: masks (R125), user
windows (R81) and palettes (R274). -/

namespace Sys2Proof.Machine

/-! ## Loaded tables -/

/-- A loaded table. -/
def State.load (s : State) (i : Nat) : Load := at' s.loads i

/-- Change a loaded table. -/
def State.updLoad (s : State) (i : Nat) (f : Load → Load) : State := { s with loads := s.loads.modify i f }

/-- The absent limit of a mask (R125). -/
def absentLimit : Nat := 0x800000000

/-- What a mask's entry reads before it is written: start bin 0, limits absent. Key 4 × segment + field. -/
def maskDflt (k : Nat) : Nat := if k % 4 = 0 then 0 else absentLimit

/-- TRIG_MASK_SUM: the staged fields summed as signed integers, absent limits as zero. -/
def maskSum (m : Mem) : Int :=
  m.foldl (fun n p => if p.1 % 4 != 0 && p.2 == absentLimit then n else n + toI 36 p.2) 0

/-- A coefficient pair's sum (R81). -/
def pairSum (v : Nat) : Int := toI 18 (v / 2 ^ 18) + toI 18 v

/-- XFM_UWIN_SUM: the staged coefficients summed. -/
def winSum (m : Mem) : Int := m.foldl (fun n p => n + pairSum p.2) 0

/-- Coefficients held by committed and staged user windows (R82): a window holds N of them, the committed or the staged N, once any is
written. -/
def State.uwinUsed (s : State) : Nat :=
  (List.range 32).foldl (fun n c =>
    let w := s.load (16 + c)
    let size := Obj.XFM_SIZE_LOG2 c
    let held (m : Mem) (l : Nat) := if m.isEmpty then 0 else 2 ^ l
    let staged := match s.holder ⟨.context, c⟩ with
      | some h => s.staging (h % 8) size
      | none => s.rdc size
    n + held w.com (s.rdc size) + (if w.staged == w.com then 0 else held w.staged staged)) 0

/-- XFM_UWIN_USED follows them. -/
def State.showUwin (s : State) : State := s.wr Obj.XFM_UWIN_USED (min (2 ^ 32 - 1) s.uwinUsed)

/-- Show the sums of a loaded table. -/
def State.showLoad (s : State) (i : Nat) : State :=
  if i < 16 then s.wr (Obj.TRIG_MASK_SUM i) (ofI 64 (maskSum (s.load i).staged))
  else if i < 48 then
    (s.wr (Obj.XFM_UWIN_SUM (i - 16)) (ofI 64 (winSum (s.load i).staged))).showUwin
  else s

/-- Change a table's staged entries. -/
def State.stageLoad (s : State) (i : Nat) (f : Mem → Mem) : State :=
  (s.updLoad i fun l => { l with staged := f l.staged }).showLoad i

/-- The table that a write object loads. -/
def loadOf (k : Nat) : Option Nat :=
  let i := k / 256
  if Nat.ble 0x4A00 i && Nat.blt i 0x4B00 && k == Obj.TRIG_MASK_WRITE ((i - 0x4A00) / 0x10) then some ((i - 0x4A00) / 0x10)
  else if Nat.ble 0x3800 i && Nat.blt i 0x4000 && k == Obj.XFM_UWIN_WRITE ((i - 0x3800) / 0x40) then
    some (16 + (i - 0x3800) / 0x40)
  else if Nat.ble 0x6840 i && Nat.blt i 0x6880 && k == Obj.SCAN_L_PAL_WRITE ((i - 0x6840) / 0x10) then
    some (48 + (i - 0x6840) / 0x10)
  else none

/-- The mask whose segments a write of TRIG_MASK_SEGS resets. -/
def segsOf (k : Nat) : Option Nat :=
  let i := k / 256
  if Nat.ble 0x4A00 i && Nat.blt i 0x4B00 && k == Obj.TRIG_MASK_SEGS ((i - 0x4A00) / 0x10) then some ((i - 0x4A00) / 0x10)
  else none

/-- The context whose staged window a change of the staged N clears. -/
def sizeOf' (k : Nat) : Option Nat :=
  let i := k / 256
  if Nat.ble 0x3800 i && Nat.blt i 0x4000 && k == Obj.XFM_SIZE_LOG2 ((i - 0x3800) / 0x40) then some ((i - 0x3800) / 0x40)
  else none

/-! ## Staged writes -/

/-- A swap of this session holds the object's group (R353). -/
def State.swapHolds (s : State) (sess g : Nat) : Bool :=
  s.swaps.any fun w => w.sess == sess && w.req.inc == (s.ses sess).inc && w.cause.isNone && bitOf w.groups g

/-- A value lies in the range that the staged values of its unit, or the engine, give it (R76, R200). -/
def State.inBounds (s : State) (sess k v : Nat) : Bool :=
  let i := k / 256
  if Nat.ble 0x3800 i && Nat.blt i 0x4000 then
    let c := (i - 0x3800) / 0x40
    if k == Obj.XFM_HOP c then Nat.ble v (2 ^ s.staging sess (Obj.XFM_SIZE_LOG2 c))
    else if k == Obj.XFM_FRAME_PHASE c then Nat.blt v (s.staging sess (Obj.XFM_HOP c))
    else true
  else if (List.range 20).any fun h => k == Obj.RSV_HIST_PANS h then Nat.ble v (s.rd Obj.RSV_PANS_TOTAL)
  else true

/-- The object's own conditions against the session's staging (R76, R81, R125, R143, R200; step 8 of Table 15.5). -/
def State.stageRange (s : State) (sess k v : Nat) : Bool :=
  match loadOf k with
  | none => s.inBounds sess k v
  | some i =>
    if i < 16 then v / 2 ^ 48 % 4 != 3 && Nat.blt (v / 2 ^ 36 % 2 ^ 11) (s.staging sess (Obj.TRIG_MASK_SEGS i))
    else if i < 48 then Nat.blt (v / 2 ^ 36) (2 ^ (s.staging sess (Obj.XFM_SIZE_LOG2 (i - 16)) - 1))
    else true

/-- Entry of a staged value: it is kept for the session and reserves a free unit (R342, R348); a table's write object
puts one entry, TRIG_MASK_SEGS resets the staged segments and a changed N clears the staged window. -/
def State.stagePut (s : State) (sess k v : Nat) : State :=
  let s := match segsOf k with
    | some m => s.stageLoad m fun _ => []
    | none => s
  let s := match sizeOf' k with
    | some c => if s.staging sess k = v then s else s.stageLoad (16 + c) fun _ => []
    | none => s
  let s := match loadOf k with
    | some i =>
      if i < 16 then
        let e := 4 * (v / 2 ^ 36 % 2 ^ 11) + v / 2 ^ 48 % 4
        s.stageLoad i fun m => m.set maskDflt e (v % 2 ^ 36)
      else if i < 48 then s.stageLoad i fun m => m.set zeroDflt (v / 2 ^ 36) (v % 2 ^ 36)
      else s.stageLoad i fun m => m.set zeroDflt (v / 2 ^ 36 % 256) (v % 2 ^ 32)
    | none => s
  let s := { s with staged := s.staged.set zeroDflt (sk sess k) (v + 1) }
  match s.holder (ownId k) with
  | some _ => s
  | none => s.own (ownId k) sess false

/-- A write of an SH object that has passed the checks: held while a swap of its group runs, else staged. -/
def State.stage (s : State) (r : Req) (v : Nat) : State :=
  if s.swapHolds r.sess (groupOf r.key) then
    if Nat.ble 256 (s.ses r.sess).deferred.length then s.answer r .busy
    else
      let s := s.updSes r.sess fun x => { x with deferred := x.deferred ++ [(r.key, v)] }
      (s.wr (sk r.sess Obj.DEV_DEFERRED) (s.ses r.sess).deferred.length).answer r .deferred
  else if s.stageRange r.sess r.key v then (s.stagePut r.sess r.key v).answer r .ok
  else s.answer r .range

/-- Held writes enter staging in order once no swap holds their group: one that fails its condition is dropped, counted
and logged (R353). -/
def State.enterDeferred (s : State) (sess : Nat) : State :=
  let held := (s.ses sess).deferred
  let due := held.filter fun p => !s.swapHolds sess (groupOf p.1)
  let s := s.updSes sess fun x => { x with deferred := held.filter fun p => s.swapHolds sess (groupOf p.1) }
  let s := due.foldl (fun s p =>
    if s.stageRange sess p.1 p.2 then s.stagePut sess p.1 p.2
    else (s.count (sk sess Obj.DEV_DEFERRED_DROP)).event 1 sess 0x001A sess p.1 Status.range.code) s
  s.wr (sk sess Obj.DEV_DEFERRED) (s.ses sess).deferred.length

/-- A staged table returns to its committed entries (a discard, the end of a session). -/
def State.unstageLoads (s : State) (p : UnitId → Bool) : State :=
  (List.range 52).foldl (fun s i =>
    let u : UnitId := if i < 16 then ⟨.mask, i⟩ else if i < 48 then ⟨.context, i - 16⟩ else ⟨.layer, i - 48⟩
    if p u && (s.load i).staged != (s.load i).com then s.stageLoad i fun _ => (s.load i).com else s) s

/-- Discard a session's staged values in the groups named; reservations of their units end, and engine-wide objects are
free again (R342, R355). -/
def State.discard (s : State) (sess groups : Nat) : State :=
  let inScope (k : Nat) := bitOf groups (groupOf k)
  let mine := (s.stagedOf sess).filter fun p => inScope p.1
  let s := s.unstageLoads fun u => mine.any fun p => ownId p.1 == u
  let s := s.dropStaged sess inScope
  { s with owners := s.owners.filter fun o =>
      !(o.sess == sess && !o.owned && mine.any fun p => ownId p.1 == o.unit) }

/-- A direct write of an SH object. -/
def State.stageWrite (s : State) (sess tag k v : Nat) : State := s.direct sess tag k v fun r s => s.stage r v

end Sys2Proof.Machine
end

