-- ==== Sys2Proof/Machine/Sources.lean ====
section
/-! DEFINITION. Trigger sources (R116 to R129): conditions and runs, events and levels, horizons, gaps, and the pin,
time, twin and software kinds. A position is tick × 2^16 + POS_FINE. -/

namespace Sys2Proof.Machine

/-- The position of a tick, POS_FINE 0. -/
def posOf (t : Nat) : Nat := t * 65536

/-- A position beyond every other: an unbounded horizon (Table 6.1). -/
def farPos : Nat := 2 ^ 100

/-- A trigger source's record. -/
def State.src (s : State) (k : Nat) : Source := at' s.trig.sources k

/-- Change a trigger source's record. -/
def State.updSrc (s : State) (k : Nat) (f : Source → Source) : State :=
  { s with trig := { s.trig with sources := s.trig.sources.modify k f } }

/-- A sequencer's record. -/
def State.seqr (s : State) (q : Nat) : Seqr := at' s.trig.seqs q

/-- Change a sequencer's record. -/
def State.updSeqr (s : State) (q : Nat) (f : Seqr → Seqr) : State :=
  { s with trig := { s.trig with seqs := s.trig.seqs.modify q f } }

/-- The source's configuration object values from `J` on (Table 6.8). -/
def State.srcCfg (s : State) (k j : Nat) : SrcCfg :=
  { since := j, kind := s.rd (Obj.TRIG_SRC_KIND k), input := s.rd (Obj.TRIG_SRC_INPUT k), dir := s.rd (Obj.TRIG_SRC_DIR k)
    thresh := s.rd (Obj.TRIG_SRC_THRESH k), hyst := s.rd (Obj.TRIG_SRC_HYST k), width := s.rd (Obj.TRIG_SRC_WIDTH k)
    holdoff := s.rd (Obj.TRIG_SRC_HOLDOFF k), mask := s.rd (Obj.TRIG_SRC_MASK k)
    maskTest := s.rd (Obj.TRIG_SRC_MASK_TEST k), minBins := s.rd (Obj.TRIG_SRC_MINBINS k)
    timeFirst := s.rd (Obj.TRIG_SRC_TIME_FIRST k), timePeriod := s.rd (Obj.TRIG_SRC_TIME_PERIOD k) }

/-! ## Levels and events -/

/-- Put a level change in its place among the newest-first changes. -/
def levelIns (p : Nat) (b : Bool) : List (Nat × Bool) → List (Nat × Bool)
  | [] => [(p, b)]
  | (q, c) :: l => if q ≤ p then (p, b) :: (q, c) :: l else (q, c) :: levelIns p b l

/-- The level at a position: the latest change at or below it (R118). -/
def levelAt (p : Nat) : List (Nat × Bool) → Bool
  | [] => false
  | (q, c) :: l => if q ≤ p then c else levelAt p l

/-- TRIG_SRC_STATE follows the level and the gap. -/
def State.showSrc (s : State) (k : Nat) : State :=
  let x := s.src k
  s.wr (Obj.TRIG_SRC_STATE k)
    (if s.rd (Obj.TRIG_SRC_KIND k) = 0 then 0 else if x.gap then 3
     else match x.levels with
       | (_, true) :: _ => 2
       | _ => 1)

/-- Set the level from a position on. -/
def State.srcLevel (s : State) (k p : Nat) (b : Bool) : State :=
  (s.updSrc k fun x => { x with levels := levelIns p b x.levels }).showSrc k

/-- Insert an event in ascending order of position, then code (R118). -/
def eventIns (e : TEvent) : List TEvent → List TEvent
  | [] => [e]
  | x :: l => if e.pos < x.pos ∨ (e.pos = x.pos ∧ e.code < x.code) then e :: x :: l else x :: eventIns e l

/-- The earliest boundary of a pending change of a unit in group 4, as a position, less one. -/
def State.trigCap (s : State) (u : UnitId) : Nat :=
  s.swaps.foldl (fun m w => match w.change 4 u with
    | some c => min m (posOf c.boundary - 1)
    | none => m) farPos

/-- The event is for sequencer q: a running one takes those from where it began, a halted one those a rearm could still precede, and any
one those from a Joint of it on that waits (R136 to R138). -/
def State.takesEvent (s : State) (q : Nat) (e : TEvent) : Bool :=
  (s.rd (Obj.TRIG_SEQ_RUN q) == 1 && Nat.ble (s.seqr q).from_ e.pos) || (s.rd (Obj.TRIG_SEQ_RUN q) == 2 && Nat.ble (posOf s.tick) e.pos) ||
    Nat.blt (s.trigCap ⟨.sequencer, q⟩) e.pos

/-- An event reaches every sequencer from number `from_` on that it is for. -/
def State.offerEvent (s : State) (from_ : Nat) (e : TEvent) : State :=
  (List.range 16).foldl (fun s q =>
    if Nat.ble from_ q && s.takesEvent q e then s.updSeqr q fun x => { x with pend := eventIns e x.pend } else s) s

/-- The source issues an event, unless its hold-off suppresses and counts it (R122). From X on it issues none until Y (R423). -/
def State.issue (s : State) (k holdoff p flags : Nat) : State :=
  let near := match (s.src k).lastEvent with
    | none => false
    | some q => Nat.blt p (q + posOf holdoff)
  if s.pwr.suspended && Nat.ble (posOf (s.rd Obj.PWR_SUSPEND_TICK)) p then s
  else if near then s.count (Obj.TRIG_SRC_HELD k)
  else
    let s := s.updSrc k fun x => { x with lastEvent := some p }
    let s := (s.wr (Obj.TRIG_SRC_EVENTS k) (s.rd (Obj.TRIG_SRC_EVENTS k) + 1)).wr (Obj.TRIG_SRC_LAST k) (p / 65536)
    s.offerEvent 0 ⟨p, 2 + k, flags⟩

/-! ## Runs of the sampled kinds (R122) -/

/-- What one input says: its position, where a run that begins with it is placed, whether it meets the condition and
whether it ends it. -/
structure SrcInput where
  pos : Nat
  start : Nat
  meets : Bool
  ends : Bool
  deriving DecidableEq, Repr

/-- The configuration that takes inputs labelled `label` (R138). -/
def Source.cfgAt (x : Source) (label : Nat) : Option SrcCfg := x.cfgs.find? fun c => Nat.ble c.since label

/-- Change the run of the configuration that began at `since`. -/
def Source.updRun (x : Source) (since : Nat) (f : SrcRun → SrcRun) : Source :=
  { x with cfgs := x.cfgs.map fun (c : SrcCfg) => if c.since = since then { c with st := f c.st } else c }

/-- The configurations that the test names and that a later one replaces at or before `label` are finished: an input of theirs has
arrived that they do not take (R138). -/
def Source.retire (x : Source) (p : SrcCfg → Bool) (label : Nat) : Source :=
  match x.cfgAt label with
  | none => x
  | some c => { x with cfgs := x.cfgs.filter fun d => !(Nat.blt d.since c.since && p d) }

/-- One input of the source under configuration c: the run begins, goes on or ends, qualifies at its W-th input with
its event at the run's first input, and the horizon follows, held below an unqualified run (R119, R122, R129). -/
def State.srcInput (s : State) (k : Nat) (c : SrcCfg) (i : SrcInput) : State :=
  let r := c.st
  let begin_ := !r.on && i.meets
  let stop := r.on && i.ends
  let r' : SrcRun :=
    if begin_ then { r with on := true, run := 1, runAt := i.start, runFlags := 2 * b2n r.afterGap, qualified := false, afterGap := false }
    else if stop then { r with on := false, run := 0, qualified := false }
    else if r.on then { r with run := r.run + 1 } else r
  let q := r'.on && !r'.qualified && Nat.ble c.width r'.run
  let r'' : SrcRun := { r' with qualified := r'.qualified || q }
  let r'' : SrcRun := { r'' with horizon := if r''.on && !r''.qualified then r''.horizon else max r''.horizon i.pos }
  let s := s.updSrc k fun x => { x.updRun c.since (fun _ => r'') with gap := false }
  let s := if stop && r.qualified then s.srcLevel k i.pos false else s
  if q then (s.srcLevel k r'.runAt true).issue k c.holdoff r'.runAt r'.runFlags else s.showSrc k

/-- Sources whose configuration at `label` has the kind and passes the test on its input. -/
def State.sourcesOf (s : State) (kind label : Nat) (p : Nat → Bool) : List (Nat × SrcCfg) :=
  (List.range 32).filterMap fun k => match (s.src k).cfgAt label with
    | some c => if c.kind = kind && p c.input then some (k, c) else none
    | none => none

/-- An input at `label` finishes the older configurations that read it. -/
def State.retireAll (s : State) (p : SrcCfg → Bool) (label : Nat) : State :=
  (List.range 32).foldl (fun s k => s.updSrc k fun x => x.retire p label) s

/-- The configuration reads tuner t's samples. -/
def SrcCfg.reads (t : Nat) (c : SrcCfg) : Bool := c.kind == 1 && c.input == t

/-- The power of threshold T plus an offset, both in LOGP36 units. -/
def thresholdPower (t : Nat) (off : Int) : Nat := powerAt (toI 36 t + off) 0

/-- Meeting and ending a power condition with hysteresis (R121). -/
def powerTest (c : SrcCfg) (p : Nat) : Bool × Bool :=
  if c.dir = 1 then (Nat.ble p (thresholdPower c.thresh 0), Nat.ble (thresholdPower c.thresh (toI 36 c.hyst)) p)
  else (Nat.ble (thresholdPower c.thresh 0) p, Nat.ble p (thresholdPower c.thresh (-(toI 36 c.hyst))))

/-- Power of a CPLX36 sample relative to full scale. -/
def samplePower (w : Nat) : Nat :=
  let i := toI 18 (w / 2 ^ 18)
  let q := toI 18 w
  (i * i + q * q).toNat * 2 ^ (powBits - 34)

/-- The interpolated crossing of R121 between the previous sample and this one, in positions. -/
def crossing (c : SrcCfg) (prev label d p : Nat) (t0 : Nat) : Nat :=
  let m0 : Int := isqrt (prev * 2 ^ 64)
  let m1 : Int := isqrt (p * 2 ^ 64)
  let a : Int := isqrt (powerAt (toI 36 c.thresh) 64)
  if m0 = m1 then posOf label
  else
    let num := 256 * (if m0 < m1 then a - m0 else m0 - a)
    let q := (clampI 0 256 (roundConv num (m1 - m0).natAbs)).toNat
    posOf t0 + q * d * 512

/-- A tuner sample reaches its magnitude sources (R121). -/
def State.magnitudeInputs (s : State) (t label d w : Nat) : State :=
  let p := samplePower w
  let s := s.retireAll (SrcCfg.reads t) label
  (s.sourcesOf 1 label fun i => i == t).foldl (fun s kc =>
    let (k, c) := kc
    let (meets, ends) := powerTest c p
    let start := match c.st.prev with
      | some (t0, p0) => if t0 + 2 * d = label then crossing c p0 label d p t0 else posOf label
      | none => posOf label
    let s := s.srcInput k c ⟨posOf label, start, meets, ends⟩
    s.updSrc k fun x => x.updRun c.since fun r => { r with prev := some (label, p) }) s

/-! ## Frequency-domain kinds (R123, R124, R126) -/

/-- Position of the events of a frame (R123). -/
def framePos (label n h d : Nat) : Nat := posOf (label + (n - 1) * d - h * d)

/-- The segments of a mask in force for frames labelled `label`: count and entries. -/
def State.maskAt (s : State) (m label : Nat) : Nat × Mem :=
  match (s.load m).force.find? fun f => Nat.ble f.1 label with
  | some f => f.2
  | none => (1, [])

/-- An entry of a mask. -/
def maskField (m : Mem) (seg f : Nat) : Nat := m.get maskDflt (4 * seg + f)

/-- The segment that covers bin b: the last whose start bin is at or below it. -/
def maskSeg (n : Nat) (m : Mem) (b : Int) : Option Nat :=
  ((List.range n).filter fun j => decide (toI 36 (maskField m j 0) ≤ b)).getLast?

/-- A bin of power p violates its limits (R124). Test bit 0 is the upper limit, bit 1 the lower. -/
def violates (test : Nat) (up lo p : Nat) : Bool :=
  (bitOf test 0 && up != absentLimit && p != 0 && decide (toI 36 up < log10Power p)) ||
  (bitOf test 1 && lo != absentLimit && (p == 0 || decide (log10Power p < toI 36 lo)))

/-- Violating bins of a frame of size n under a mask. -/
def violations (test n segs : Nat) (m : Mem) (pow : Int → Nat) : Nat :=
  ((List.range n).filter fun (j : Nat) =>
    let b : Int := (j : Int) - (n / 2 : Nat)
    match maskSeg segs m b with
    | none => false
    | some g => violates test (maskField m g 1) (maskField m g 2) (pow b)).length

/-- The context that an integrator names. -/
def State.bpContext (s : State) (j : Nat) : Nat := s.rd (Obj.DET_BP_CONTEXT j)

/-- The configuration reads context c's frames. -/
def State.framed (s : State) (c : Nat) (g : SrcCfg) : Bool :=
  (g.kind == 2 && g.input == c) || (g.kind == 3 && s.bpContext g.input == c)

/-- A released frame reaches its trigger sources: `pow` gives the power of each bin, `bp` that of each
integrator which computes it (R123, R124, R126). -/
def State.frameInputs (s : State) (c label n h d : Nat) (pow : Int → Nat) (bp : Nat → Option Nat) : State :=
  let p := framePos label n h d
  let s := s.retireAll (s.framed c) label
  let s := (s.sourcesOf 2 label fun i => i == c).foldl (fun s kc =>
    let m := s.maskAt kc.2.mask label
    let meets := Nat.ble kc.2.minBins (violations kc.2.maskTest n m.1 m.2 pow)
    s.srcInput kc.1 kc.2 ⟨p, p, meets, !meets⟩) s
  (s.sourcesOf 3 label fun j => (bp j).isSome).foldl (fun s kc =>
    let (meets, ends) := powerTest kc.2 ((bp kc.2.input).getD 0)
    s.srcInput kc.1 kc.2 ⟨p, p, meets, ends⟩) s

/-! ## Gaps (R129) -/

/-- Slot words of a sequencer in force: 4 of each of 8 states. -/
def State.slots (s : State) (q : Nat) : List Nat :=
  (List.range 32).map fun j => s.rd (Obj.TRIG_SEQ_SLOT q (j / 4) (j % 4))

/-- The codes that an enabled slot names. -/
def slotCodes (w : Nat) : List Nat :=
  if bitOf w 21 then bitsOf w 35 30 :: (if bitsOf w 23 22 = 0 then [] else [bitsOf w 29 24]) else []

/-- The codes that a sequencer's slots reference. -/
def State.seqCodes (s : State) (q : Nat) : List Nat := ((s.slots q).map slotCodes).flatten.eraseDups

/-- A gap of a source is counted by every sequencer that references it. -/
def State.countGap (s : State) (k : Nat) : State :=
  (List.range 16).foldl (fun s q =>
    if s.rd (Obj.TRIG_SEQ_RUN q) = 1 && (s.seqCodes q).contains (2 + k) then
      (s.count (Obj.TRIG_SEQ_INPUT_GAP q)).updSeqr q fun x => { x with inputGap := true }
    else s) s

/-- The source's input is in a gap from position a to b: level false, run and hysteresis cleared, and the horizon passes
through it. -/
def State.srcGap (s : State) (k : Nat) (c : SrcCfg) (a b : Nat) : State :=
  let fresh := !(s.src k).gap
  let s := if levelAt a (s.src k).levels then s.srcLevel k a false else s
  let s := s.updSrc k fun x =>
    { x.updRun c.since (fun r => ({ horizon := max r.horizon b, afterGap := true } : SrcRun)) with gap := true }
  (if fresh then s.countGap k else s).showSrc k

/-- A gap reaches the sources of a kind: those that read the inputs labelled `a`, and those that read the ones labelled `b` instead. -/
def State.gapFor (s : State) (kind a b p q : Nat) (test : Nat → Bool) (reads : SrcCfg → Bool) : State :=
  let s := (s.sourcesOf kind a test).foldl (fun s kc => s.srcGap kc.1 kc.2 p q) s
  let s := s.retireAll (fun d => d.kind == kind && reads d) b
  ((s.sourcesOf kind b test).filter fun kc => Nat.blt a kc.2.since).foldl (fun s kc => s.srcGap kc.1 kc.2 p q) s

/-- Labels a to b of a tuner are withheld. -/
def State.magnitudeGap (s : State) (t a b : Nat) : State :=
  s.gapFor 1 a b (posOf a) (posOf b) (fun i => i == t) (SrcCfg.reads t)

/-- Frames of a context are skipped or shed, from the frame labelled a to the one labelled b. -/
def State.frameGap (s : State) (c a b n h d : Nat) : State :=
  let p := framePos a n h d
  let q := framePos b n h d
  let s := s.gapFor 2 a b p q (fun i => i == c) (s.framed c)
  s.gapFor 3 a b p q (fun j => s.bpContext j == c) (s.framed c)

/-! ## Horizons (Table 6.1) -/

/-- The context stands still: off or shed. -/
def State.contextStill (s : State) (c : Nat) : Bool :=
  !s.rdB (Obj.XFM_ENABLE c) || s.rd (Obj.XFM_STATE c) == 4

/-- The horizon of a software source: 20 µs earlier in a pair (R388). -/
def State.forceHorizon (s : State) : Nat := if s.paired then s.tick - 640000 else s.tick

/-- Horizon of a source under one configuration. -/
def State.cfgHorizon (s : State) (x : Source) (c : SrcCfg) : Nat :=
  match c.kind with
  | 1 => if s.rdB (Obj.TUNE_ENABLE c.input) then c.st.horizon else farPos
  | 2 => if s.contextStill c.input then farPos else c.st.horizon
  | 3 => if s.contextStill (s.bpContext c.input) then farPos else c.st.horizon
  | 4 => posOf (s.tick - 32000)
  | 5 => match x.nextTime with
    | some n => posOf n - 1
    | none => farPos
  | 6 => posOf (s.tick - 640000)
  | 7 => posOf s.forceHorizon
  | _ => farPos

/-- No event of the configuration lies at or below this position: a frame's position may precede its label by one sample (R123). -/
def SrcCfg.floor (c : SrcCfg) : Nat := posOf (if c.kind = 2 || c.kind = 3 then c.since - 65536 else c.since) - 1

/-- Horizon over the configurations, newest first. One that reads samples or frames counts until an input that it does not take has
finished it; one of another kind until it has reached the first tick of the next. -/
def State.cfgsHorizon (s : State) (x : Source) (next : Option Nat) : List SrcCfg → Nat
  | [] => farPos
  | c :: cs =>
    let h := max c.floor (s.cfgHorizon x c)
    let past := match next with
      | some n => !(Nat.ble 1 c.kind && Nat.ble c.kind 3) && Nat.ble (posOf n) (h + 1)
      | none => false
    min (if past then farPos else h) (s.cfgsHorizon x (some c.since) cs)

/-- Horizon of source k. -/
def State.srcHorizon (s : State) (k : Nat) : Nat := s.cfgsHorizon (s.src k) none (s.src k).cfgs

/-! ## Pins, time, twin, software -/

/-- TRIG_IN_DELAY in 2^−16 ticks, convergently rounded: 65,536 per 31,250 fs (R127). -/
def inDelay (fs : Nat) : Nat := (roundConv ((fs : Int) * 65536) 31250).toNat

/-- Sources of a pin at a tick. -/
def State.pinSources (s : State) (pin tick : Nat) : List (Nat × SrcCfg) := s.sourcesOf 4 tick fun i => i == pin

/-- The pin's level by an edge at p, for a source: in force from the edge on, and for a later configuration of the pin from its first
tick on (R127, R138). -/
def State.pinLevel (s : State) (k pin p : Nat) (rising : Bool) : State :=
  let s := s.srcLevel k p rising
  (((s.src k).cfgs.filter fun c => c.kind == 4 && c.input == pin && Nat.blt p (posOf c.since)).reverse).foldl (fun s c =>
    s.srcLevel k (posOf c.since) rising) s

/-- The gap of the pin sources that a gated master caused is over (R301). -/
def State.endPinGaps (s : State) : State :=
  (List.range 32).foldl (fun s k =>
    if s.rd (Obj.TRIG_SRC_KIND k) = 4 then (s.updSrc k fun x => { x with gap := false }).showSrc k else s) s

/-- TRIG_IN_EDGE (R127): the edge is stamped to 1/16 tick; a full stamp queue of 64 puts the pin's sources in a gap
(Table 1.1). The queue holds the stamps of the last 1 µs, the horizon's lag (log entry 12). While the master is gated no edge is
stamped (R301). -/
def execTrigInEdge (pin : Nat) (rising : Bool) (sixteenths : Nat) (s : State) : Host.Outcome State Fault Refusal :=
  done s <|
    let held := (at' s.trig.stamps pin).filter fun t => Nat.blt s.tick (t + 32000)
    let p := posOf s.tick + sixteenths % 16 * 4096 - inDelay (s.rd (Obj.TRIG_IN_DELAY pin))
    if !Nat.blt pin 4 || !s.masterLocked || (s.pinSources pin (p / 65536)).isEmpty then s
    else if Nat.ble 64 held.length then
      (s.pinSources pin (p / 65536)).foldl (fun s kc => s.srcGap kc.1 kc.2 (posOf s.tick) (posOf s.tick)) s
    else
      let s := { s with trig := { s.trig with
        stamps := s.trig.stamps.set pin (s.tick :: held), inLevel := s.trig.inLevel.set pin rising } }
      (s.pinSources pin (p / 65536)).foldl (fun s kc =>
        let (k, c) := kc
        let s := (s.updSrc k fun x => { x with gap := false }).pinLevel k pin p rising
        if (c.dir = 0 && rising) || (c.dir = 1 && !rising) || c.dir = 2 then
          (s.updSrc k fun x => x.updRun c.since fun r => { r with afterGap := false }).issue k c.holdoff p (2 * b2n c.st.afterGap)
        else s) s

/-- The occurrence of a time source at n. -/
def State.timeEvent (s : State) (k n : Nat) (c : SrcCfg) : State :=
  let next := if c.timePeriod = 0 then none else some (n + c.timePeriod)
  ((s.updSrc k fun x => { x with nextTime := next }).srcLevel k (posOf n) true).issue k c.holdoff (posOf n) 0

/-- TRIG_TIME_EVENT (R128): the source's next occurrence is reached. -/
def execTrigTimeEvent (k : Nat) (s : State) : Host.Outcome State Fault Refusal :=
  done s <|
    match (s.src k).nextTime, (s.src k).cfgAt s.tick with
    | some n, some c => if c.kind = 5 && Nat.ble n s.tick then s.timeEvent k n c else s
    | _, _ => s

/-- The occurrences of a time source below tick t that have not been reached one by one. -/
def State.timeUpTo (s : State) (k t : Nat) : State :=
  match (s.src k).nextTime, (s.src k).cfgs.head? with
  | some n, some c =>
    if c.kind = 5 && Nat.blt n t then
      (List.range (if c.timePeriod = 0 then 1 else ceilDiv (t - n) c.timePeriod)).foldl (fun s j => s.timeEvent k (n + j * c.timePeriod) c) s
    else s
  | _, _ => s

/-- TWIN_MARK_RECEIVE (R128): a mark of twin sequencer q at or above the horizon becomes an event; later ones are
counted. -/
def execTwinMarkReceive (q posTick posFine : Nat) (s : State) : Host.Outcome State Fault Refusal :=
  done s <|
    if !s.paired then s
    else
      let p := posOf posTick + posFine % 65536
      (s.sourcesOf 6 posTick fun i => i == q).foldl (fun s kc =>
        if Nat.ble (posOf (s.tick - 640000)) p then s.issue kc.1 kc.2.holdoff p 16
        else s.count (Obj.TRIG_SRC_LATE kc.1)) s

/-- Software events of source k at ticks up to t are issued, each under the configuration of its tick. -/
def State.forcedUpTo (s : State) (k t : Nat) : State :=
  let due := (s.src k).forced.filter fun v => Nat.ble v t
  if due.isEmpty then s
  else
    let s := s.updSrc k fun x => { x with forced := x.forced.filter fun v => Nat.blt t v }
    due.foldl (fun s v =>
      s.issue k (match (s.src k).cfgAt v with
        | some c => c.holdoff
        | none => s.rd (Obj.TRIG_SRC_HOLDOFF k)) (posOf v) 64) s

/-- Software events whose tick has come are issued. -/
def State.releaseForced (s : State) : State := (List.range 32).foldl (fun s k => s.forcedUpTo k s.tick) s

/-- Put a future software event in ascending order. -/
def natIns (v : Nat) : List Nat → List Nat
  | [] => [v]
  | x :: l => if v ≤ x then v :: x :: l else x :: natIns v l

/-- A write of TRIG_SRC_FORCE (R128). -/
def State.forceSource (k v : Nat) (r : Req) (s : State) : State :=
  let s := s.releaseForced
  if s.rd (Obj.TRIG_SRC_KIND k) != 7 then s.answer r .range
  else if v = 0 || v = s.tick then (s.issue k (s.rd (Obj.TRIG_SRC_HOLDOFF k)) (posOf s.tick) 64).answer r .ok
  else if v < s.forceHorizon then (s.issue k (s.rd (Obj.TRIG_SRC_HOLDOFF k)) (posOf s.forceHorizon) (64 + 4)).answer r .ok
  else if v < s.tick then (s.issue k (s.rd (Obj.TRIG_SRC_HOLDOFF k)) (posOf v) 64).answer r .ok
  else if Nat.ble 16 (s.src k).forced.length then s.answer r .busy
  else (s.updSrc k fun x => { x with forced := natIns v x.forced }).answer r .ok

/-- TRIG_SRC_FORCE. -/
def execTrigSrcForce (sess tag k v : Nat) (s : State) : Host.Outcome State Fault Refusal :=
  done s (s.direct sess tag (Obj.TRIG_SRC_FORCE k) v (State.forceSource k v))

/-- A source's Joint at b (R138): the new configuration takes inputs labelled from its first tick on; runs, hysteresis
and pending software events of the old one end, its events below b having been issued. -/
def State.sourceAfter (s : State) (k b first : Nat) : State :=
  let s := (s.forcedUpTo k (b - 1)).timeUpTo k b
  let c := s.srcCfg k first
  let still := (c.kind == 2 && s.rd (Obj.XFM_STATE c.input) == 4) || (c.kind == 3 && s.rd (Obj.XFM_STATE (s.bpContext c.input)) == 4)
  let pin := c.kind == 4 && at' s.trig.inLevel c.input
  let next := if c.kind != 5 then none
    else if Nat.ble b c.timeFirst then some c.timeFirst
    else if c.timePeriod = 0 then none else some (c.timeFirst + roundUp (b - c.timeFirst) c.timePeriod)
  let s := s.updSrc k fun x =>
    { x with cfgs := c :: recent SrcCfg.since s.settled x.cfgs, levels := levelIns (posOf b) pin x.levels
             gap := still, forced := [], nextTime := next }
  let s := (List.range 16).foldl (fun s q => s.updSeqr q fun x =>
    { x with pend := x.pend.filter fun e => !(e.code == 2 + k && bitOf e.flags 6 && Nat.ble (posOf b) e.pos) }) s
  ((s.wr (Obj.TRIG_SRC_EVENTS k) 0).wr (Obj.TRIG_SRC_LAST_JOINT k) b).showSrc k

end Sys2Proof.Machine
end

