-- ==== Sys2Proof/Machine/Sequencers.lean ====
section
/-! DEFINITION. Sequencers, marks, TRIG_OUT, arming groups and capture units (R130 to R149), and the triggers' Joint
(R138). -/

namespace Sys2Proof.Machine

/-- A group's record. -/
def State.grp (s : State) (g : Nat) : Group := at' s.trig.groups g

/-- Change a group's record. -/
def State.updGrp (s : State) (g : Nat) (f : Group → Group) : State :=
  { s with trig := { s.trig with groups := s.trig.groups.modify g f } }

/-- A TRIG_OUT pin. -/
def State.outPin (s : State) (n : Nat) : OutPin := at' s.trig.outs n

/-- Change a TRIG_OUT pin. -/
def State.updOut (s : State) (n : Nat) (f : OutPin → OutPin) : State :=
  { s with trig := { s.trig with outs := s.trig.outs.modify n f } }

/-- A capture unit's record. -/
def State.cap (s : State) (u : Nat) : Capture := at' s.trig.caps u

/-- Change a capture unit's record. -/
def State.updCap (s : State) (u : Nat) (f : Capture → Capture) : State :=
  { s with trig := { s.trig with caps := s.trig.caps.modify u f } }

/-! ## TRIG_OUT (R146, R147) -/

/-- The launch tick of a request made now for position p on a pin, and whether it is late. A launch that cannot keep its
tick leaves at the first tick it can, which lies within the 1,024 ticks of R147; the manual does not fix it further. -/
def State.launchTick (s : State) (n p : Nat) : Nat × Bool :=
  let delay := s.rd (Obj.TRIG_OUT_DELAY n)
  let soon := s.tick + s.freeN % 1025
  let q := (s.outPin n).queue
  let room := if q.length < 16 then 0 else (q.getD (q.length - 16) (0, 0)).1
  if delay = 0 then (max soon room, false)
  else
    let l := (roundConv (p + posOf delay) 65536).toNat
    let (l, late) := if l < s.tick + 1024 then (max l soon, true) else (l, false)
    if 16 ≤ q.length then (max l room, true) else (l, late)

/-- Insert a launch in ascending order; requests with the same tick are merged (R146). -/
def launchIns (l w : Nat) : List (Nat × Nat) → List (Nat × Nat)
  | [] => [(l, w)]
  | x :: xs => if l < x.1 then (l, w) :: x :: xs else if l = x.1 then (l, max w x.2) :: xs else x :: launchIns l w xs

/-- Request a pulse for position p on a pin. -/
def State.requestPulse (s : State) (p n : Nat) : State :=
  let (l, late) := s.launchTick n p
  let w := s.rd (Obj.TRIG_OUT_WIDTH n)
  let s := (s.used 1).updOut n fun o => { o with queue := launchIns l w o.queue }
  if late then s.count (Obj.TRIG_OUT_LATE n) else s

/-- Request pulses on the pins of a mask. -/
def State.requestPulses (s : State) (p mask : Nat) : State := (bitList mask 4).foldl (fun s n => s.requestPulse p n) s

/-- A request for the mask would be late on some pin. -/
def State.pulsesLate (s : State) (p mask : Nat) : Bool := (bitList mask 4).any fun n => (s.launchTick n p).2

/-- The tick at which a pulse requested for l launches: one that falls in the latest gated span launches at the first tick after
it (R301). -/
def State.launchAt (s : State) (l : Nat) : Nat :=
  if Nat.ble (s.rd Obj.CLK_LAST_RELOCK_FIRST) l && Nat.ble l (s.rd Obj.CLK_LAST_RELOCK_LAST) && Nat.blt 0 (s.rd Obj.CLK_LAST_RELOCK_LAST)
  then s.rd Obj.CLK_LAST_RELOCK_LAST + 1 else l

/-- TRIG_OUT_LAUNCH (R146): the earliest request is launched once its tick is reached. -/
def execTrigOutLaunch (n : Nat) (s : State) : Host.Outcome State Fault Refusal :=
  done s <|
    match (s.outPin n).queue with
    | [] => s
    | (l0, w) :: rest =>
      let l := s.launchAt l0
      if s.tick < l || !s.masterLocked then s
      else (if l = l0 || s.rd (Obj.TRIG_OUT_DELAY n) = 0 then s else s.count (Obj.TRIG_OUT_LATE n)).updOut n fun o =>
        match s.rd (Obj.TRIG_OUT_MODE n) with
        | 1 => { queue := rest, high := true, until_ := if o.high then max o.until_ (l + w) else l + w }
        | 2 => { o with queue := rest, high := !o.high }
        | _ => { o with queue := rest, high := false }

/-- TRIG_OUT_PULSE_END (R146). -/
def execTrigOutPulseEnd (n : Nat) (s : State) : Host.Outcome State Fault Refusal :=
  done s <|
    if s.rd (Obj.TRIG_OUT_MODE n) = 1 && (s.outPin n).high && Nat.ble (s.outPin n).until_ s.tick then
      s.updOut n fun o => { o with high := false }
    else s

/-- The level that a pin drives: it is low before READY, on a standby and while the data path is suspended (R384, R423, R439). -/
def State.outLevel (s : State) (n : Nat) : Bool :=
  (s.outPin n).high && !s.isStandby && !s.pwr.suspended && Nat.ble 2 (s.rd Obj.DEV_STATE)

/-- A write of TRIG_OUT_MODE takes effect at once; mode 0 ends a pulse in progress (R146). -/
def State.writeOutMode (n v : Nat) (r : Req) (s : State) : State :=
  let s := s.wr (Obj.TRIG_OUT_MODE n) v
  (if v = 0 then s.updOut n fun o => { o with high := false } else s).answer r .ok

/-- TRIG_OUT_MODE_WRITE. -/
def execTrigOutModeWrite (sess tag n v : Nat) (s : State) : Host.Outcome State Fault Refusal :=
  done s (s.direct sess tag (Obj.TRIG_OUT_MODE n) v (State.writeOutMode n v))

/-! ## Marks (R141 to R143) -/

/-- The fields of a mark (Table 6.5). -/
structure MarkFields where
  from_ : Nat := 0
  to_ : Nat := 0
  slot : Nat := 0
  code : Nat := 0
  flags : Nat := 0
  winner : Nat := 0
  coincident : Nat := 0
  deriving DecidableEq, Repr

/-- A mark record (Table 10.8): origin kind and index, identifier, position and suppressed count. -/
def markRecord (kind index ident p supp : Nat) (m : MarkFields) : Record :=
  let src := if 2 ≤ m.code ∧ m.code ≤ 33 then m.code - 2 else 0
  { type := 8, srcKind := kind, srcIndex := index, tick := p / 65536
    payload := [ident % 2 ^ 32 * 16,
      p % 65536 * 2 ^ 20 + m.from_ * 2 ^ 17 + m.to_ * 2 ^ 14 + m.slot * 2 ^ 12 + m.code * 2 ^ 6 + src * 2,
      min (2 ^ 24 - 1) supp * 2 ^ 12 + m.flags,
      m.winner * 2 ^ 32 + m.coincident * 2 ^ 16] }

/-- The budget window moves on to the position's (R143). -/
def MarkBudget.at_ (b : MarkBudget) (p : Nat) : MarkBudget :=
  let w := p / 65536 / 32000000
  if b.window = w then b else { b with window := w, count := 0, alerted := false }

/-- Flows that carry an origin's marks: those fed by the tuners of the mask and those that bind the origin (R142). -/
def State.markFlows (s : State) (tuners origin : Nat) : List Nat :=
  s.runningFlows.filter fun f =>
    (match s.flowTuner f with
      | some t => bitOf tuners t && s.rd (Obj.FLOW_SRC f) != 6 && s.rd (Obj.FLOW_SRC f) != 7
      | none => false) ||
    (s.rd (Obj.FLOW_SRC f) == 5 && s.rd (Obj.FLOW_SRC_INDEX f) == origin)

/-- A capture unit sees a trigger: an armed unit accepts the first one at or above its threshold and fills again (R148). DEDUCED: it reads
capturing while the last segment of its arming is awaited, for which nothing is to be filled (log entry 62). -/
def State.captureTrigger (s : State) (u p : Nat) (r : Record) : State :=
  let st := s.rd (Obj.TRIG_CAP_STATE u)
  let c := s.cap u
  let n := s.rd (Obj.TRIG_CAP_COUNT u)
  if st = 0 then s
  else if st = 4 || Nat.blt p (posOf c.threshold) || (n != 0 && Nat.ble n c.accepted) then s.count (Obj.TRIG_CAP_IGNORED u)
  else
    let step := 2 * s.rd (Obj.TUNE_DECIM (s.rd (Obj.TRIG_CAP_TUNER u)))
    let t := roundUp (ceilDiv p 65536) step
    (s.updCap u fun c =>
      { threshold := t + s.rd (Obj.TRIG_CAP_LEN u) * step, accepted := c.accepted + 1
        segs := c.segs ++ [⟨r, t, c.accepted % 65536⟩] }).wr (Obj.TRIG_CAP_STATE u) (if n != 0 && c.accepted + 1 == n then 3 else 1)

/-- A mark record is emitted: into the rings and flows of its origin, to the capture units that it triggers, and, for a
sequencer, as an event to the sequencers above it (R142, R131). -/
def State.emitMark (s : State) (origin tuners p supp : Nat) (m : MarkFields) : State :=
  let kind := if origin < 16 then 5 else 6
  let index := if origin < 16 then origin else origin - 16
  let r := markRecord kind index (s.rd Obj.TRIG_MARK_ID) p supp m
  let s := s.wr Obj.TRIG_MARK_ID ((s.rd Obj.TRIG_MARK_ID + 1) % 2 ^ 32)
  let s := (bitList tuners 16).foldl (fun s t => s.side t r) s
  let s := s.enterAll (s.markFlows tuners origin) r
  let s := (List.range 4).foldl (fun s u =>
    if s.rd (Obj.TRIG_CAP_SEQ u) = origin then s.captureTrigger u p r else s) s
  if origin < 16 then s.offerEvent (origin + 1) ⟨p, 45 + origin, 0⟩ else s

/-- A mark beyond the budget is withheld: counted, and reported once per window (R143). -/
def State.withhold (s : State) (origin key supp : Nat) (alerted : Bool) : State :=
  let s := (s.count key).count Obj.TRIG_MARK_DROP_ALL
  if alerted then s else s.event 1 254 0x0201 origin supp

/-- A sequencer's mark. -/
def State.seqMark (s : State) (q p : Nat) (m : MarkFields) : State :=
  let b := (s.seqr q).bud.at_ p
  if Nat.blt b.count (s.rd (Obj.TRIG_SEQ_MARK_BUDGET q) / 1000) then
    let gap := (s.seqr q).inputGap
    let s := s.updSeqr q fun x => { x with bud := { b with count := b.count + 1, suppressed := 0 }, inputGap := false }
    let s := (s.wr (Obj.TRIG_SEQ_MARKS q) (s.rd (Obj.TRIG_SEQ_MARKS q) + 1)).wr (Obj.TRIG_SEQ_LAST_MARK q) (p / 65536)
    s.emitMark q (s.rd (Obj.TRIG_SEQ_TUNERS q)) p b.suppressed { m with flags := m.flags + b2n gap }
  else
    (s.updSeqr q fun x => { x with bud := { b with suppressed := b.suppressed + 1, alerted := true } }).withhold q
      (Obj.TRIG_SEQ_MARK_DROP q) (b.suppressed + 1) b.alerted

/-- A group's mark. -/
def State.grpMark (s : State) (g p : Nat) (m : MarkFields) : State :=
  let b := (s.grp g).bud.at_ p
  if Nat.blt b.count (s.rd (Obj.TRIG_GRP_MARK_BUDGET g) / 1000) then
    (s.updGrp g fun x => { x with bud := { b with count := b.count + 1, suppressed := 0 } }).emitMark (16 + g)
      (s.rd (Obj.TRIG_GRP_TUNERS g)) p b.suppressed m
  else
    (s.updGrp g fun x => { x with bud := { b with suppressed := b.suppressed + 1, alerted := true } }).withhold (16 + g)
      (Obj.TRIG_GRP_IGNORED g) (b.suppressed + 1) b.alerted

/-! ## Sequencers (R130 to R137) -/

/-- Put a group's item in ascending order of position. -/
def itemIns (e : GrpItem) : List GrpItem → List GrpItem
  | [] => [e]
  | x :: l => if e.pos < x.pos then e :: x :: l else x :: itemIns e l

/-- The GROUP action of sequencer q at p: the master arms, a member offers a candidate (R139). -/
def State.groupAction (s : State) (q p : Nat) (e : TEvent) : State :=
  (List.range 4).foldl (fun s g =>
    if !s.rdB (Obj.TRIG_GRP_ENABLE g) then s
    else if s.rd (Obj.TRIG_GRP_MASTER g) = q then
      s.updGrp g fun x => { x with items := itemIns ⟨p, 0, q, e⟩ x.items }
    else if bitOf (s.rd (Obj.TRIG_GRP_MEMBERS g)) q then
      s.updGrp g fun x => { x with items := itemIns ⟨p, 2, q, e⟩ x.items }
    else s) s

/-- The level of a code at p for sequencer q (Table 6.3). -/
def State.codeLevel (s : State) (q p code : Nat) : Bool :=
  if code = 1 then true
  else if Nat.ble 2 code && Nat.ble code 33 then levelAt p (s.src (code - 2)).levels
  else if Nat.ble 34 code && Nat.ble code 37 then
    let lim := s.rd (Obj.TRIG_CNT_LIMIT q (code - 34))
    lim != 0 && Nat.ble lim (s.rd (Obj.TRIG_CNT_VALUE q (code - 34)))
  else if Nat.ble 38 code && Nat.ble code 41 then at' (s.seqr q).expired (code - 38)
  else false

/-- Slot word k of the sequencer's current state. -/
def State.slotWord (s : State) (q k : Nat) : Nat := s.rd (Obj.TRIG_SEQ_SLOT q (s.rd (Obj.TRIG_SEQ_CUR q)) k)

/-- The slot's qualifier holds at p (Table 6.4). -/
def State.qualifier (s : State) (q p w : Nat) : Bool :=
  match bitsOf w 23 22 with
  | 1 => s.codeLevel q p (bitsOf w 29 24)
  | 2 => !s.codeLevel q p (bitsOf w 29 24)
  | _ => true

/-- An enabled slot matches event code c at p. -/
def State.slotMatches (s : State) (q p c w : Nat) : Bool :=
  bitOf w 21 && c != 0 &&
    ((bitsOf w 35 30 == c && s.qualifier q p w) || (bitsOf w 23 22 == 3 && bitsOf w 29 24 == c))

/-- An enabled immediate slot (R132). -/
def State.slotImmediate (s : State) (q p w : Nat) : Bool := bitOf w 21 && bitsOf w 35 30 == 1 && s.qualifier q p w

/-- Reset, then increment counters (R133, R134); the limit events raised, in order. -/
def State.counterActions (s : State) (q p w : Nat) : State × List TEvent :=
  let s := (bitList (bitsOf w 7 4) 4).foldl (fun s j => s.wr (Obj.TRIG_CNT_VALUE q j) 0) s
  (bitList (bitsOf w 11 8) 4).foldl (fun (acc : State × List TEvent) j =>
    let v := acc.1.rd (Obj.TRIG_CNT_VALUE q j)
    let v' := min (2 ^ 32 - 1) (v + 1)
    let hit := v != v' && v' == acc.1.rd (Obj.TRIG_CNT_LIMIT q j)
    (acc.1.wr (Obj.TRIG_CNT_VALUE q j) v', if hit then acc.2 ++ [⟨p, 34 + j, 0⟩] else acc.2)) (s, [])

/-- Start or restart timers from p (R135): an expiry pending from the earlier start is withdrawn. -/
def State.startTimers (s : State) (q p w : Nat) : State :=
  (bitList (bitsOf w 3 0) 4).foldl (fun s j =>
    let e := p + posOf (s.rd (Obj.TRIG_TMR_PERIOD q j))
    (s.updSeqr q fun x =>
      { x with timers := x.timers.set j (some e), expired := x.expired.set j false
               pend := x.pend.filter fun y => y.code != 38 + j }).wr (Obj.TRIG_TMR_EXPIRY q j) (e / 65536 % 2 ^ 64)) s

/-- Take slot k on event e at p: the actions in the order of R133, then the next state. `rest` is the queue of events
still to process at p; the events raised go to its end (R132). -/
def State.takeSlot (s : State) (q p k : Nat) (e : TEvent) (rest : List TEvent) : State × List TEvent :=
  let w := s.slotWord q k
  let cur := s.rd (Obj.TRIG_SEQ_CUR q)
  let (s, raised) := s.counterActions q p w
  let s := s.startTimers q p w
  let rest := rest.filter fun y => !(Nat.ble 38 y.code && Nat.ble y.code 41 && bitOf w (y.code - 38))
  let late := s.pulsesLate p (bitsOf w 15 12)
  let s := if bitOf w 17 then
      s.seqMark q p { from_ := cur, to_ := bitsOf w 20 18, slot := k, code := e.code, flags := e.flags + 8 * b2n late }
    else s
  let s := s.requestPulses p (bitsOf w 15 12)
  let s := if bitOf w 16 then s.groupAction q p e else s
  (s.wr (Obj.TRIG_SEQ_CUR q) (bitsOf w 20 18), rest ++ raised)

/-- Enter the initial state with counters at zero and timers stopped (R137, R138). No slot is taken on this entry
(R132's algorithm takes immediate slots after a transition; log entry 13). -/
def State.initSeq (s : State) (q : Nat) : State :=
  let s := s.updSeqr q fun x => { x with timers := List.replicate 4 none, expired := List.replicate 4 false
                                         pend := x.pend.filter fun e => !(Nat.ble 38 e.code && Nat.ble e.code 41) }
  let s := (List.range 4).foldl (fun s j => (s.wr (Obj.TRIG_CNT_VALUE q j) 0).wr (Obj.TRIG_TMR_EXPIRY q j) 0) s
  (s.wr (Obj.TRIG_SEQ_CUR q) (s.rd (Obj.TRIG_SEQ_INIT q))).wr (Obj.TRIG_SEQ_RUN q) 1

/-- A halted sequencer resumes at position p: what came below it is none of its own (R136, R137). -/
def State.resumeSeq (s : State) (q p : Nat) : State :=
  (s.updSeqr q fun x => { x with pend := x.pend.filter (fun e => Nat.ble p e.pos && e.code != 0), doneTo := max x.doneTo p, from_ := p }).initSeq q

/-- A ninth transition is not taken: the sequencer halts where it is, its timers stop and TRIG_LOOP is raised (R136). A rearm that was
served before and has not taken effect resumes it at its position. -/
def State.haltSeq (s : State) (q : Nat) : State :=
  let again := (s.seqr q).pend.find? fun e => e.code == 0
  let s := (List.range 4).foldl (fun s j => s.wr (Obj.TRIG_TMR_EXPIRY q j) 0) s
  let s := ((s.wr (Obj.TRIG_SEQ_RUN q) 2).count (Obj.TRIG_SEQ_LOOP q)).event 2 254 0x0200 q (s.rd (Obj.TRIG_SEQ_CUR q))
  match again with
  | some e => s.resumeSeq q e.pos
  | none => s.updSeqr q fun x => { x with
      pend := x.pend.filter fun e => Nat.blt (s.trigCap ⟨.sequencer, q⟩) e.pos || Nat.ble (posOf s.tick) e.pos, timers := List.replicate 4 none }

/-- Lowest-numbered slot of the current state that the test names. -/
def State.findSlot (s : State) (q : Nat) (p : Nat → Bool) : Option Nat :=
  (List.range 4).find? fun k => p (s.slotWord q k)

/-- Process the events at p in order (R132): n transitions have been taken at p. The fuel bounds the events and
immediate slots, at most 8 transitions each raising at most 4 events. An immediate slot's mark names code 1. -/
def State.runEvents : Nat → State → Nat → Nat → Nat → Bool → List TEvent → State
  | 0, s, _, _, _, _, _ => s
  | fuel + 1, s, q, p, n, taken, rest =>
    if s.rd (Obj.TRIG_SEQ_RUN q) != 1 then s
    else match (if taken then s.findSlot q fun w => s.slotImmediate q p w else none) with
      | some k =>
        if n = 8 then s.haltSeq q
        else
          let (s, rest) := s.takeSlot q p k ⟨p, 1, 0⟩ rest
          State.runEvents fuel s q p (n + 1) true rest
      | none => match rest with
        | [] => s
        | e :: rest => match s.findSlot q fun w => s.slotMatches q p e.code w with
          | none => State.runEvents fuel s q p n false rest
          | some k =>
            if n = 8 then s.haltSeq q
            else
              let (s, rest) := s.takeSlot q p k e rest
              State.runEvents fuel s q p (n + 1) true rest

/-- Process position p: a rearm first (kept as code 0), then every event at p in ascending code. -/
def State.seqAt (s : State) (q p : Nat) : State :=
  let now := (s.seqr q).pend.filter fun e => e.pos == p
  let s := s.updSeqr q fun x => { x with pend := x.pend.filter fun e => e.pos != p, doneTo := p + 1 }
  let s := if now.any fun e => e.code == 0 then s.initSeq q else s
  let evs := now.filter fun e => e.code != 0 && !(Nat.ble 38 e.code && Nat.ble e.code 41 && now.any fun y => y.code == 0)
  let s := s.updSeqr q fun x =>
    { x with expired := (List.range 4).map fun j => at' x.expired j || evs.any fun e => e.code == 38 + j }
  State.runEvents (evs.length + 64) s q p 0 false evs

/-- The lowest position of a list of events, less one. -/
def pendBelow (l : List TEvent) : Nat := l.foldl (fun m e => min m (e.pos - 1)) farPos

/-- Up to which position sequencer q may process: the tick index, the horizons of what its slots reference and its
timers' expiries (R119, R135). `fuel` bounds the chain of sequencers, each numbered below the one that names it. -/
def State.seqLimit (s : State) : Nat → Nat → Nat
  | 0, _ => posOf s.tick
  | fuel + 1, q =>
    let codes := s.seqCodes q
    let m := (List.range 32).foldl (fun m k => if codes.contains (2 + k) then min m (s.srcHorizon k) else m) (posOf s.tick)
    let m := (s.seqr q).timers.foldl (fun m t => match t with
      | some e => min m (e - 1)
      | none => m) m
    (List.range 16).foldl (fun m j =>
      if j < q && codes.contains (45 + j) && s.rd (Obj.TRIG_SEQ_RUN j) == 1 then
        min m (min (s.seqLimit fuel j) (pendBelow (s.seqr j).pend))
      else m) m

/-- Position up to which a sequencer has processed everything. -/
def State.seqHorizon (s : State) (q : Nat) : Nat :=
  if s.rd (Obj.TRIG_SEQ_RUN q) = 1 then min (s.seqLimit 16 q) (pendBelow (s.seqr q).pend) else farPos

/-- SEQ_POSITION (R132): the sequencer processes its lowest waiting position, once its horizons and the tick index
allow. -/
def execSeqPosition (q : Nat) (s : State) : Host.Outcome State Fault Refusal :=
  done s <|
    let s := s.releaseForced
    if s.rd (Obj.TRIG_SEQ_RUN q) != 1 then s
    else match (s.seqr q).pend with
      | [] => s
      | e :: _ =>
        if Nat.ble e.pos (min (s.seqLimit 16 q) (s.trigCap ⟨.sequencer, q⟩)) then s.seqAt q e.pos else s

/-- TRIG_TIMER_EXPIRY (R135): the expiry event of a timer; a periodic timer runs on, a one-shot stops. -/
def execTrigTimerExpiry (q j : Nat) (s : State) : Host.Outcome State Fault Refusal :=
  done s <|
    match at' (s.seqr q).timers j with
    | none => s
    | some e =>
      if s.rd (Obj.TRIG_SEQ_RUN q) != 1 || Nat.blt (posOf s.tick) e then s
      else
        let next := if s.rd (Obj.TRIG_TMR_MODE q j) = 1 then some (e + posOf (s.rd (Obj.TRIG_TMR_PERIOD q j))) else none
        (s.updSeqr q fun x => { x with timers := x.timers.set j next, pend := eventIns ⟨e, 38 + j, 0⟩ x.pend }).wr
          (Obj.TRIG_TMR_EXPIRY q j) ((next.getD 0) / 65536 % 2 ^ 64)

/-- A write of TRIG_SEQ_REARM (R137): it waits at its tick among the sequencer's positions; a halted sequencer, which processes none,
resumes from it at once. -/
def State.rearm (q v : Nat) (r : Req) (s : State) : State :=
  let p := max (posOf s.tick) (s.seqr q).doneTo
  if v != 1 then s.answer r .range
  else if s.rd (Obj.TRIG_SEQ_RUN q) = 2 then (s.resumeSeq q p).answer r .ok
  else if s.rd (Obj.TRIG_SEQ_RUN q) = 1 then
    (s.updSeqr q fun x => { x with pend := eventIns ⟨p, 0, 0⟩ x.pend }).answer r .ok
  else s.answer r .ok

/-- TRIG_SEQ_REARM. -/
def execTrigSeqRearm (sess tag q v : Nat) (s : State) : Host.Outcome State Fault Refusal :=
  done s (s.direct sess tag (Obj.TRIG_SEQ_REARM q) v (State.rearm q v))

/-! ## Arming groups (R139, R140) -/

/-- Show a group's state. -/
def State.showGrp (s : State) (g : Nat) : State :=
  s.wr (Obj.TRIG_GRP_STATE g) (if s.rdB (Obj.TRIG_GRP_ENABLE g) then (if (s.grp g).armed then 2 else 1) else 0)

/-- Up to which position a group's master and members have processed. -/
def State.grpHorizon (s : State) (g : Nat) : Nat :=
  (List.range 16).foldl (fun m q =>
    if s.rd (Obj.TRIG_GRP_MASTER g) = q || bitOf (s.rd (Obj.TRIG_GRP_MEMBERS g)) q then min m (s.seqHorizon q) else m)
    (posOf s.tick)

/-- The group fires at p for its accepted candidate. -/
def State.fire (s : State) (g p : Nat) (win : GrpItem) (cands : List GrpItem) : State :=
  let coincident := cands.foldl (fun m c => setBit m c.seq true) 0
  let out := s.rd (Obj.TRIG_GRP_OUT g)
  let late := s.pulsesLate p out
  let s := s.updGrp g fun x => { x with armed := false }
  let s := (s.wr (Obj.TRIG_GRP_FIRES g) (s.rd (Obj.TRIG_GRP_FIRES g) + 1)).wr (Obj.TRIG_GRP_LAST g) (p / 65536)
  let s := s.grpMark g p
    { code := win.event.code, flags := win.event.flags + 8 * b2n late, winner := win.seq, coincident := coincident }
  s.requestPulses p out

/-- GROUP_RESOLVE (R139, R140): the lowest waiting position: arming, then a disarm, then the candidates. -/
def execGroupResolve (g : Nat) (s : State) : Host.Outcome State Fault Refusal :=
  done s <|
    match (s.grp g).items with
    | [] => s
    | i :: _ =>
      if !s.rdB (Obj.TRIG_GRP_ENABLE g) || Nat.blt (min (s.grpHorizon g) (s.trigCap ⟨.group, g⟩)) i.pos then s
      else
        let now := (s.grp g).items.filter fun x => x.pos == i.pos
        let arm := now.any fun x => x.what == 0
        let dis := now.any fun x => x.what == 1
        let cands := now.filter fun x => x.what == 2
        let s := s.updGrp g fun x =>
          { x with items := x.items.filter fun y => y.pos != i.pos, armed := (x.armed || arm) && !dis }
        let s := match cands with
          | [] => s
          | c :: cs =>
            if (s.grp g).armed then
              s.fire g i.pos (cs.foldl (fun (b x : GrpItem) => if x.seq < b.seq then x else b) c) cands
            else s.countN (Obj.TRIG_GRP_IGNORED g) cands.length
        s.showGrp g

/-- Arm (0) or disarm (1) a group at the served tick. -/
def State.groupCommand (g what v : Nat) (r : Req) (s : State) : State :=
  if v != 1 then s.answer r .range
  else if s.rdB (Obj.TRIG_GRP_ENABLE g) then
    (s.updGrp g fun x => { x with items := itemIns ⟨posOf s.tick, what, 0, default⟩ x.items }).answer r .ok
  else s.answer r .ok

/-- TRIG_GRP_ARM. -/
def execTrigGrpArm (sess tag g v : Nat) (s : State) : Host.Outcome State Fault Refusal :=
  done s (s.direct sess tag (Obj.TRIG_GRP_ARM g) v (State.groupCommand g 0 v))

/-- TRIG_GRP_DISARM. -/
def execTrigGrpDisarm (sess tag g v : Nat) (s : State) : Host.Outcome State Fault Refusal :=
  done s (s.direct sess tag (Obj.TRIG_GRP_DISARM g) v (State.groupCommand g 1 v))

/-! ## Masks -/

/-- TRIG_MASK_SEGS_WRITE (R125): an SH write whose staging resets every staged segment. -/
def execTrigMaskSegsWrite (sess tag m v : Nat) (s : State) : Host.Outcome State Fault Refusal :=
  done s (s.stageWrite sess tag (Obj.TRIG_MASK_SEGS m) v)

/-- TRIG_MASK_WRITE (R125): an SH write that stages one field of one segment. -/
def execTrigMaskWrite (sess tag m v : Nat) (s : State) : Host.Outcome State Fault Refusal :=
  done s (s.stageWrite sess tag (Obj.TRIG_MASK_WRITE m) v)

/-! ## Capture (R148, R149) -/

/-- Ticks from one sample to the next of a capture unit's tuner. -/
def State.capStep (s : State) (u : Nat) : Nat := 2 * s.rd (Obj.TUNE_DECIM (s.rd (Obj.TRIG_CAP_TUNER u)))

/-- A write of TRIG_CAP_ARM: the unit fills from the served tick. -/
def State.armCapture (u v : Nat) (r : Req) (s : State) : State :=
  if v != 1 then s.answer r .range
  else if s.rdB (Obj.TRIG_CAP_ENABLE u) then
    let s := s.updCap u fun _ => { threshold := s.tick + s.rd (Obj.TRIG_CAP_PRE u) * s.capStep u }
    ((s.wr (Obj.TRIG_CAP_STATE u) 1).wr (Obj.TRIG_CAP_SEGS u) 0).answer r .ok
  else s.answer r .ok

/-- TRIG_CAP_ARM. -/
def execTrigCapArm (sess tag u v : Nat) (s : State) : Host.Outcome State Fault Refusal :=
  done s (s.direct sess tag (Obj.TRIG_CAP_ARM u) v (State.armCapture u v))

/-- CAPTURE_FILL_END (R148): the fill time has passed and the unit is armed. -/
def execCaptureFillEnd (u : Nat) (s : State) : Host.Outcome State Fault Refusal :=
  done s <|
    if s.rd (Obj.TRIG_CAP_STATE u) = 1 && Nat.ble (s.cap u).threshold s.tick then s.wr (Obj.TRIG_CAP_STATE u) 2 else s

/-- A segment's samples from the ring, by index: none where a label is withheld. -/
def State.ringSample (s : State) (h i : Nat) : Option Samp :=
  match s.currentLine h (i / 64) with
  | none => none
  | some l => (l.words.find? fun p => p.1 == i % 64).map Prod.snd

/-- A maximal run of delivered samples: index of the first and the samples. -/
def runsOf (get : Nat → Option Samp) : Nat → Nat → List Samp → List (Nat × List Samp)
  | _, 0, [] => []
  | i, 0, acc => [(i - acc.length, acc.reverse)]
  | i, n + 1, acc =>
    match get i with
    | some v => runsOf get (i + 1) n (v :: acc)
    | none => if acc.isEmpty then runsOf get (i + 1) n [] else (i - acc.length, acc.reverse) :: runsOf get (i + 1) n []

/-- Records of a side area that name a gap overlapping ticks a to b. -/
def State.gapNames (s : State) (h a b : Nat) : List Record :=
  (s.ring h).side.filter fun r =>
    (r.type == 9 || r.type == 10 || r.type == 11) &&
    Nat.ble (at' r.payload 0 * 2 ^ 36 + at' r.payload 1) b && Nat.ble a (at' r.payload 2 * 2 ^ 36 + at' r.payload 3)

/-- The mark of a captured segment: a copy of the trigger with CAPTURE set and the segment number (R149). -/
def CapSeg.capMark (g : CapSeg) (u : Nat) : Record :=
  { g.mark with srcKind := 7, srcIndex := u
                payload := [at' g.mark.payload 0, at' g.mark.payload 1, at' g.mark.payload 2 + 32 * b2n (!bitOf (at' g.mark.payload 2) 5),
                  at' g.mark.payload 3 / 2 ^ 16 * 2 ^ 16 + g.no] }

/-- What names the labels of a segment of unit u from index i to j, j excluded: the side area's records, and a gap/loss record for each line
of `dead` among them (R149, R195). -/
def State.segmentGap (s : State) (u h : Nat) (dead : List Nat) (i j : Nat) : List Record :=
  let step := s.capStep u
  if Nat.ble j i then []
  else s.gapNames h (i * step) (j * step - 1) ++
    (dead.filter fun l => Nat.ble (i / 64) l && Nat.ble l ((j - 1) / 64)).map fun l =>
      gapRecord 7 u (l * 64 * step) ((l * 64 + 63) * step) 6 1 0

/-- Deliver a segment's samples, from index i0 on, as IQ records split around what is not there (R149, R222). -/
def State.deliverSegment (s : State) (u h i0 len : Nat) (dead fs : List Nat) : State :=
  let runs := runsOf (fun i => if dead.contains (i / 64) then none else s.ringSample h i) i0 len []
  let (s, e) := runs.foldl (fun (acc : State × Nat) p =>
    let s := (acc.1.segmentGap u h dead acc.2 p.1).foldl (fun s r => s.enterAll fs r) acc.1
    let split := b2n (decide (acc.2 < p.1))
    let r : Record :=
      { type := 1, srcKind := 8, srcIndex := h, tick := p.1 * s.capStep u
        flags := b2n (p.2.any Samp.ovl) + 2 * split + 128 * split, payload := p.2.map Samp.w }
    (s.enterAll fs r, p.1 + p.2.length)) (s, i0)
  (s.segmentGap u h dead e (i0 + len)).foldl (fun s r => s.enterAll fs r) s

/-- CAPTURE_SEGMENT_READ (R149): once the ring holds the oldest segment, is not shed (R150) and the unit's request may be made, it is delivered
as its mark and IQ records split around gaps, or as a loss. `bad` names lines the error correction could not restore; those of a failed
pseudo-channel are as these (R196). -/
def execCaptureSegmentRead (u : Nat) (bad : List Nat) (s : State) : Host.Outcome State Fault Refusal :=
  done s <|
    match (s.cap u).segs with
    | [] => s
    | g :: rest =>
      let h := s.rd (Obj.TRIG_CAP_TUNER u)
      let step := s.capStep u
      let len := s.rd (Obj.TRIG_CAP_LEN u)
      let i0 := g.t / step - s.rd (Obj.TRIG_CAP_PRE u)
      let first := i0 * step
      let last := (i0 + len - 1) * step
      if Nat.blt (s.rd (Obj.RSV_HIST_NEWEST h)) last || s.rd (Obj.RSV_HIST_STATE h) == 2 ||
          !s.mayAsk (s.linePch (s.physLine h (i0 / 64))) (captureRq u) then s
      else
        let fs := s.sourceFlows 6 u
        let s := s.updCap u fun c => { c with segs := rest }
        let s := s.enterAll fs (g.capMark u)
        let s :=
          if Nat.blt first (s.rd (Obj.RSV_HIST_OLDEST h)) then
            (s.count (Obj.TRIG_CAP_LOST u)).enterAll fs (gapRecord 7 u first last 8 1 0)
          else
            let lines := (List.range ((i0 + len - 1) / 64 - i0 / 64 + 1)).map fun j => i0 / 64 + j
            let s := lines.foldl (fun s l => s.access (s.physLine h l) (captureRq u) true) s
            let s := (lines.filter bad.contains).foldl (fun s l => s.badLine (s.physLine h l)) s
            s.deliverSegment u h i0 len (lines.filter fun l => bad.contains l || s.deadLine (s.physLine h l)) fs
        let n := s.rd (Obj.TRIG_CAP_SEGS u) + 1
        let s := (s.wr (Obj.TRIG_CAP_SEGS u) (min (2 ^ 32 - 1) n)).wr (Obj.TRIG_CAP_LAST u) g.t
        let cnt := s.rd (Obj.TRIG_CAP_COUNT u)
        if cnt != 0 && Nat.ble cnt n then s.wr (Obj.TRIG_CAP_STATE u) 4 else s

/-! ## Joint (R138) -/

/-- A unit may change at J: a running sequencer has processed every position below it, a group has resolved them. -/
def State.trigReady (s : State) (u : UnitId) (b : Nat) : Bool :=
  match u.kind with
  | .sequencer =>
    s.rd (Obj.TRIG_SEQ_RUN u.i) != 1 ||
      (Nat.ble (posOf b) (s.seqLimit 16 u.i + 1) && !((s.seqr u.i).pend.any fun e => Nat.blt e.pos (posOf b)))
  | .group =>
    !s.rdB (Obj.TRIG_GRP_ENABLE u.i) ||
      (Nat.ble (posOf b) (s.grpHorizon u.i + 1) && !((s.grp u.i).items.any fun e => Nat.blt e.pos (posOf b)))
  | _ => true

/-- First label of a source's new configuration: J, or the boundary of its context where that changes with it. -/
def State.sourceFirst (s : State) (w : Swap) (k b : Nat) : Nat :=
  let kind := s.rd (Obj.TRIG_SRC_KIND k)
  let c := if kind = 2 then s.rd (Obj.TRIG_SRC_INPUT k) else s.bpContext (s.rd (Obj.TRIG_SRC_INPUT k))
  if kind != 2 && kind != 3 then b
  else match w.units.find? fun x => x.group == 2 && x.unit == ⟨.context, c⟩ with
    | some x => max b x.boundary
    | none =>
      if w.vals.any (fun p => groupOf p.1 == 2 && ownId p.1 == ⟨.context, c⟩) then max b (s.rd (Obj.XFM_LAST_JOINT c)) else b

/-- What a trigger unit does when its change has come into force. -/
def State.trigAfter (s : State) (w : Swap) (u : UnitId) (b : Nat) : State :=
  match u.kind with
  | .source => s.sourceAfter u.i b (s.sourceFirst w u.i b)
  | .mask => s.updLoad u.i fun l => { l with force := (b, s.rd (Obj.TRIG_MASK_SEGS u.i), l.com) :: recent Prod.fst s.settled l.force }
  | .sequencer =>
    let s := (s.updSeqr u.i fun x => { x with
      pend := x.pend.filter (fun e => Nat.ble (posOf b) e.pos && e.code != 0), from_ := posOf b, inputGap := false }).initSeq u.i
    let s := if s.rdB (Obj.TRIG_SEQ_ENABLE u.i) then s
      else (s.updSeqr u.i fun _ => {}).wrAll [(Obj.TRIG_SEQ_RUN u.i, 0), (Obj.TRIG_SEQ_CUR u.i, 0)]
    (s.wr (Obj.TRIG_SEQ_MARKS u.i) 0).wr (Obj.TRIG_SEQ_LAST_JOINT u.i) b
  | .group =>
    let s := s.updGrp u.i fun x => { x with armed := false, items := x.items.filter fun e => Nat.ble (posOf b) e.pos }
    ((s.wr (Obj.TRIG_GRP_FIRES u.i) 0).wr (Obj.TRIG_GRP_LAST_JOINT u.i) b).showGrp u.i
  | .capture => (s.updCap u.i fun _ => {}).wr (Obj.TRIG_CAP_STATE u.i) 0
  | _ => s

/-- The changes of trigger units that wait in a session's swaps. -/
def State.trigChanges (s : State) (sess : Nat) : List UnitId :=
  ((s.swaps.filter fun w => w.sess == sess && !w.validating).map fun w =>
    (w.units.filter fun c => c.group == 4).map Change.unit).flatten.eraseDups

/-- TRIGGER_JOINT (R138): each changed trigger unit of the session's swap that is ready applies at J. -/
def execTriggerJoint (sess : Nat) (s : State) : Host.Outcome State Fault Refusal :=
  done s <| (s.trigChanges sess).foldl (fun s u =>
    match s.due 4 u with
    | none => s
    | some (_, b) =>
      if s.trigReady u b then s.joint 4 u (fun _ _ s => s) fun w b s => s.trigAfter w u b else s) s

end Sys2Proof.Machine
end

