-- ==== Sys2Proof/Machine/Crystallizer.lean ====
section
/-! DEFINITION. The Crystallizer (chapter 7): the density planes' mapping, counting, line fill, the plane grid,
Evaporation, clears and Harvests. -/

namespace Sys2Proof.Machine

/-- Spacing of the plane grid in ticks (R160). -/
def planeGrid : Nat := 2 ^ 22

/-- A plane's record. -/
def State.plane (s : State) (p : Nat) : Plane := at' s.planes p

/-- Change a plane's record. -/
def State.updPlane (s : State) (p : Nat) (f : Plane → Plane) : State := { s with planes := s.planes.modify p f }

/-- CRYS_STATE follows the enable and shedding; a plane once enabled is frozen when it is disabled (R174). -/
def State.showPlane (s : State) (p : Nat) : State :=
  s.wr (Obj.CRYS_STATE p)
    (if s.rdB (Obj.CRYS_ENABLE p) then (if (s.plane p).shed then 2 else 1)
     else if s.rd (Obj.CRYS_STATE p) = 0 then 0 else 3)

/-! ## Mapping and counting -/

/-- Row of a column value (R156, R157): none for no hit, with 1 for over, 2 for under. -/
def State.rowOf (s : State) (p v : Nat) : Option Nat × Nat :=
  if v = 0x800000000 then (none, 0)
  else
    let rows := s.rd (Obj.CRYS_ROWS p)
    let range : Int := s.rdI (Obj.CRYS_RANGE p)
    let b := s.rdI (Obj.CRYS_TOP p) - range
    let y := (toI 36 v - b) * rows / range
    let clip := s.rd (Obj.CRYS_CLIP p)
    if (rows : Int) ≤ y then (if clip = 0 then none else some (rows - 1), 1)
    else if y < 0 then (if clip = 2 then some 0 else none, 2)
    else (some y.toNat, 0)

/-- The fill rows of a column at row b whose left neighbour hit row a: those strictly between, at most f, nearest b
(R159). -/
def fillRows (a b f : Nat) : List Nat :=
  if a < b then ((List.range (b - a - 1)).map fun i => b - 1 - i).take f
  else ((List.range (a - b - 1)).map fun i => b + 1 + i).take f

/-- The fill of a column is cut short. -/
def fillCut (a b f : Nat) : Bool := Nat.blt 0 f && Nat.blt f ((max a b) - (min a b) - 1)

/-- One hit on a cell: the cell saturates at 2^24 − 1 (R158). -/
def hitCell (w : Nat) (m : Mem) (row col : Nat) : Mem × Nat :=
  let v := min (2 ^ 24 - 1) (m.get zeroDflt (2048 * row + col) + w)
  (m.set zeroDflt (2048 * row + col) v, b2n (v == 2 ^ 24 - 1))

/-- The evaporation factor g of half-life t (R162): 2^32 while there is none. -/
def evaporation (t : Nat) : Nat := if t = 0 then 2 ^ 32 else exp2At (-((2 ^ 22 * fx / t : Nat) : Int)) 32

/-- The hits of one column set: cells, hits that leave a cell saturated, and columns with cut fill. -/
def hitColumns (w f : Nat) : Nat → Option Nat → List (Option Nat) → Mem × Nat × Nat → Mem × Nat × Nat
  | _, _, [], acc => acc
  | k, prev, cur :: rest, (m, sat, cut) =>
    match cur with
    | none => hitColumns w f (k + 1) none rest (m, sat, cut)
    | some b =>
      let rows := b :: (match prev with
        | some a => fillRows a b f
        | none => [])
      let (m, n) := rows.foldl (fun (acc : Mem × Nat) r => ((hitCell w acc.1 r k).1, acc.2 + (hitCell w acc.1 r k).2)) (m, 0)
      let c := match prev with
        | some a => b2n (fillCut a b f)
        | none => 0
      hitColumns w f (k + 1) (some b) rest (m, sat + n, cut + c)

/-- Apply one column set to a plane (R157 to R159, R173). -/
def State.applySet (s : State) (p : Nat) (set : ColSet) : State :=
  if set.cols.length != s.rd (Obj.CRYS_COLS p) then s.count (Obj.CRYS_SET_MISMATCH p)
  else
    let rows := set.cols.map (s.rowOf p)
    let (m, sat, cut) := hitColumns (s.rd (Obj.CRYS_WEIGHT p)) (s.rd (Obj.CRYS_FILL p)) 0 none (rows.map Prod.fst)
      ((s.plane p).cells, 0, 0)
    let s := s.updPlane p fun x => { x with cells := m, since := x.since + 1 }
    let s := ((s.countN (Obj.CRYS_OVER p) (rows.countP fun r => r.2 == 1)).countN (Obj.CRYS_UNDER p)
      (rows.countP fun r => r.2 == 2)).countN (Obj.CRYS_SAT_HITS p) sat
    (s.countN (Obj.CRYS_FILL_CUT p) cut).wr (Obj.CRYS_SETS p) ((s.rd (Obj.CRYS_SETS p) + 1) % 2 ^ 64)

/-- Apply the waiting sets labelled below b (R161). -/
def State.applySetsBelow (s : State) (p b : Nat) : State :=
  let due := (s.plane p).sets.filter fun x => Nat.blt x.label b
  let s := s.updPlane p fun x => { x with sets := x.sets.filter fun y => !Nat.blt y.label b }
  if s.rdB (Obj.CRYS_ENABLE p) then due.foldl (fun s x => s.applySet p x) s else s

/-- COLUMN_SET_APPLY (R158, R161): the oldest waiting set is applied once every boundary up to its label is taken. -/
def execColumnSetApply (p : Nat) (s : State) : Host.Outcome State Fault Refusal :=
  done s <|
    match (s.plane p).sets with
    | [] => s
    | x :: _ =>
      if Nat.blt x.label (s.plane p).next then
        let s := s.updPlane p fun y => { y with sets := y.sets.drop 1 }
        if s.rdB (Obj.CRYS_ENABLE p) then s.applySet p x else s
      else s

/-- A Joint of the plane waits. -/
def State.planeChanges (s : State) (p : Nat) : Bool := s.swaps.any fun w => (w.change 5 ⟨.plane, p⟩).isSome

/-- A column set reaches its plane; a shed plane takes none (R171), and one that is off none unless a Joint may enable it. -/
def State.planeSet (s : State) (p : Nat) (set : ColSet) : State :=
  if (s.plane p).shed || !(s.rdB (Obj.CRYS_ENABLE p) || s.planeChanges p) || Nat.blt set.label (s.plane p).from_ then s
  else s.updPlane p fun x => { x with sets := x.sets ++ [{ set with tag := tagWord 4 p (s.gen ⟨.plane, p⟩) x.seq }], seq := x.seq + 1 }

/-- A record that names a gap reaches the plane (R110, R167). -/
def State.planeGap (s : State) (p : Nat) : State := s.updPlane p fun x => { x with sawGap := true }

/-! ## The grid (R160 to R166) -/

/-- The Evaporation sweep: v becomes floor(v × g / 2^32) (R162). -/
def sweep (g : Nat) (m : Mem) : Mem :=
  (m.map fun p => (p.1, p.2 * g / 2 ^ 32)).filter fun p => p.2 != 0

/-- The display, which shows the plane, has the latest Harvest still to render (R168, R276). -/
def State.displayWaits (s : State) (p : Nat) : Bool :=
  s.rdB Obj.SCAN_ENABLE && s.rdB (Obj.SCAN_L_ENABLE 0) && s.rd Obj.SCAN_L_DENS_PLANE == p &&
    match (s.plane p).last with
    | some h => s.scan.last != some (p, h.seq) || (s.scan.render.isSome && !s.scan.rendered)
    | none => false

/-- The previous Harvest waits in staging: a bound flow has not framed all of its records, or the display has not
rendered it (R168). -/
def State.harvestStaged (s : State) (p : Nat) : Bool :=
  ((s.plane p).staged.any fun e =>
    s.flowRuns e.1 && Nat.blt ((s.flow e.1).pos - (s.flow e.1).tail.length) e.2) || s.displayWaits p

/-- A Harvest is due at b: by period or by command (R165). -/
def State.periodicDue (s : State) (p b : Nat) : Bool :=
  let t := s.rd (Obj.CRYS_HARV_PERIOD p)
  s.rdB (Obj.CRYS_ENABLE p) && t != 0 && b % t == 0

/-- Take a Harvest at b. -/
def State.takeHarvest (s : State) (p b : Nat) : State :=
  let x := s.plane p
  let seq := (s.rd (Obj.CRYS_HARV_SEQ p) + 1) % 2 ^ 32
  let h : Harvest :=
    { b := b, seq := seq, cols := s.rd (Obj.CRYS_COLS p), rows := s.rd (Obj.CRYS_ROWS p)
      format := s.rd (Obj.CRYS_HARV_FORMAT p), sets := min (2 ^ 26 - 1) x.since, cells := x.cells
      flags := 2 * b2n x.sawGap + 32 * b2n (x.sawShed || x.shed) + 64 * b2n x.cleared }
  let s := s.updPlane p fun x =>
    { x with reading := some h, since := 0, sawShed := x.shed, sawGap := false, cleared := false }
  ((s.wr (Obj.CRYS_HARV_SEQ p) seq).wr (Obj.CRYS_HARV_LAST p) b).wr (Obj.CRYS_SAT_CELLS p)
    ((h.cells.filter fun c => c.2 == 2 ^ 24 - 1).length)

/-- Step 3: a due Harvest is taken; a periodic one falls out and is counted while the last is read or staged (R168), and so does a
commanded one of a plane that is harvested only on command (R169). -/
def State.harvestStep (s : State) (p b : Nat) : State :=
  let x := s.plane p
  let cmd := x.harvAt.any fun c => Nat.ble c b
  let s := if cmd then s.updPlane p fun x => { x with harvAt := none } else s
  if cmd && x.reading.isNone && s.rd (Obj.CRYS_HARV_PERIOD p) != 0 then s.takeHarvest p b
  else if cmd || s.periodicDue p b then
    if x.reading.isSome || s.harvestStaged p then s.count (Obj.CRYS_HARV_SKIP p) else s.takeHarvest p b
  else s

/-- Clear every cell of the plane's area at b (R164). -/
def State.clearPlane (s : State) (p b : Nat) : State :=
  (s.updPlane p fun x => { x with cells := [], clearAt := x.clearAt.filter fun c => Nat.blt b c, cleared := true }).wr (Obj.CRYS_LAST_CLEAR p) b

/-- The Joint of a plane changes its mapping, or enables it (R173, R174); a plane that resumes after HOLD or WATCH (the model's
cause 9) keeps its cells (R424). -/
def State.planeRemaps (s : State) (w : Swap) (p : Nat) : Bool :=
  w.changes s (Obj.CRYS_COLS p) || w.changes s (Obj.CRYS_ROWS p) || w.changes s (Obj.CRYS_TOP p) ||
  w.changes s (Obj.CRYS_RANGE p) || w.changes s (Obj.CRYS_CLIP p) ||
  (!s.rdB (Obj.CRYS_ENABLE p) && w.value s (Obj.CRYS_ENABLE p) == 1 && w.cause != some 9)

/-- Step 5 with the clear of step 4 that it brings. -/
def State.planeJoint (s : State) (p b : Nat) : State :=
  match s.due 5 ⟨.plane, p⟩ with
  | none => s
  | some (_, j) =>
    if b < j then s
    else s.joint 5 ⟨.plane, p⟩ (fun w _ s => if s.planeRemaps w p then s.clearPlane p b else s) fun w b s' =>
      let t := s'.rd (Obj.CRYS_HALFLIFE p)
      let on := !s.rdB (Obj.CRYS_ENABLE p) && s'.rdB (Obj.CRYS_ENABLE p)
      let s' := if on then (if w.cause = some 9 then s' else s'.wr (Obj.CRYS_SETS p) 0).updPlane p fun x =>
          { x with next := b, from_ := b, sets := x.sets.filter fun y => Nat.ble b y.label }
        else if s'.rdB (Obj.CRYS_ENABLE p) then s' else s'.updPlane p fun x => { x with sets := [] }
      ((s'.wr (Obj.CRYS_LAST_JOINT p) b).wr (Obj.CRYS_EVAP_FACTOR p)
        (evaporation t)).showPlane p

/-- The boundary a plane takes next: its next grid boundary while it runs; while it is off, the first at which a
Harvest, a clear or a Joint is due, and between X and Y a Joint alone (R423). -/
def State.planeNext (s : State) (p : Nat) : Option Nat :=
  let x := s.plane p
  if s.rdB (Obj.CRYS_ENABLE p) then some x.next
  else
    let j := (s.due 5 ⟨.plane, p⟩).map Prod.snd
    (if s.pwr.suspended then [j] else [x.harvAt, x.clearAt.head?, j]).foldl (fun m o => match m, o with
      | none, o => o
      | m, none => m
      | some a, some b => some (min a b)) none

/-- The six steps of R161 at boundary b. -/
def State.takeBoundary (s : State) (p b : Nat) : State :=
  let s := s.applySetsBelow p b
  let g := s.rd (Obj.CRYS_EVAP_FACTOR p)
  let s := if s.rdB (Obj.CRYS_ENABLE p) && g != 2 ^ 32 then s.updPlane p fun x => { x with cells := sweep g x.cells } else s
  let taken := s.rd (Obj.CRYS_HARV_SEQ p)
  let s := s.harvestStep p b
  let harvested := s.rd (Obj.CRYS_HARV_SEQ p) != taken
  let s := if (s.plane p).clearAt.any (fun c => Nat.ble c b) || (harvested && s.rdB (Obj.CRYS_HARV_CLEAR p)) then s.clearPlane p b else s
  let s := s.planeJoint p b
  s.updPlane p fun x => { x with next := b + planeGrid }

/-- Pack 24-bit counts, three in two words (Table 10.7). -/
def pack24 : List Nat → List Nat
  | [] => []
  | [a] => [a * 2 ^ 12]
  | [a, b] => [a * 2 ^ 12 + b / 2 ^ 12, b % 2 ^ 12 * 2 ^ 24]
  | a :: b :: c :: rest => (a * 2 ^ 12 + b / 2 ^ 12) :: (b % 2 ^ 12 * 2 ^ 24 + c) :: pack24 rest

/-- Pack 12-bit log codes, three in a word. -/
def pack12 : List Nat → List Nat
  | [] => []
  | [a] => [a * 2 ^ 24]
  | [a, b] => [a * 2 ^ 24 + b * 2 ^ 12]
  | a :: b :: c :: rest => (a * 2 ^ 24 + b * 2 ^ 12 + c) :: pack12 rest

/-- The 12-bit log code of a count (R167): 256 × log2 v cut to an integer decides how 128 × log2 v rounds. -/
def logCodeOf (v : Nat) : Nat := if v = 0 then 0 else 1 + (Nat.log2 (v ^ 256) + 1) / 2

/-- One row of a Harvest (R167, Table 10.7). -/
def Harvest.row (h : Harvest) (p r : Nat) : Record :=
  let cells := (List.range h.cols).map fun k => h.cells.get zeroDflt (2048 * r + k)
  { type := 7, srcKind := 4, srcIndex := p, flags := h.flags, hdrExt := h.seq % 256, tick := h.b
    payload := [h.format * 2 ^ 32 + h.seq, r * 2 ^ 26 + h.sets] ++
      (if h.format = 0 then pack24 cells else pack12 (cells.map logCodeOf)) }

/-- HARVEST_READ_DONE (R167, R168): the read ends and the rows go to every flow that binds the plane; the display finds
the Harvest complete. -/
def execHarvestReadDone (p : Nat) (s : State) : Host.Outcome State Fault Refusal :=
  done s <|
    match (s.plane p).reading with
    | none => s
    | some h =>
      let fs := s.sourceFlows 4 p
      let s := (List.range h.rows).foldl (fun s r => s.enterAll fs (h.row p r)) s
      s.updPlane p fun x =>
        { x with reading := none, last := some h, staged := fs.map fun f => (f, (s.flow f).pos) }

/-- The first grid boundary after the served tick. -/
def State.nextGrid (s : State) : Nat := (s.tick / planeGrid + 1) * planeGrid

/-- A write of CRYS_CLEAR (R164): writes that fall due at one boundary are one clear. -/
def State.clearCmd (p v : Nat) (r : Req) (s : State) : State :=
  if v != 1 then s.answer r .range
  else (s.updPlane p fun x =>
    { x with clearAt := if x.clearAt.contains s.nextGrid then x.clearAt else x.clearAt ++ [s.nextGrid] }).answer r .ok

/-- A write of CRYS_HARV_CMD (R165). -/
def State.harvestCmd (p v : Nat) (r : Req) (s : State) : State :=
  if v != 1 then s.answer r .range
  else if (s.plane p).reading.isSome || (s.plane p).harvAt.isSome then s.answer r .busy
  else (s.updPlane p fun x => { x with harvAt := some s.nextGrid }).answer r .ok

/-- CRYS_CLEAR. -/
def execCrysClear (sess tag p v : Nat) (s : State) : Host.Outcome State Fault Refusal :=
  done s (s.direct sess tag (Obj.CRYS_CLEAR p) v (State.clearCmd p v))

/-- CRYS_HARV_CMD. -/
def execCrysHarvCmd (sess tag p v : Nat) (s : State) : Host.Outcome State Fault Refusal :=
  done s (s.direct sess tag (Obj.CRYS_HARV_CMD p) v (State.harvestCmd p v))

end Sys2Proof.Machine
end

