-- ==== Sys2Proof/Machine/Flags.lean ====
section
/-! DEFINITION. Flag words: the header flags of a record (Table 10.4), a converter block's status bits (R11) and the bits
of DEV_SHED_ACTIVE (Table 1.9). -/

namespace Sys2Proof.Machine

/-- Header flags of a spectrum record: OVERLOAD, AFTER_GAP, PARTIAL. -/
def spectrumFlags (overload afterGap part : Bool) : Nat := b2n overload + 2 * b2n afterGap + 4 * b2n part

/-- Set or clear the bit of a shed class in DEV_SHED_ACTIVE. -/
def State.shedBit (s : State) (cls : Nat) (on : Bool) : State :=
  s.wr Obj.DEV_SHED_ACTIVE (setBit (s.rd Obj.DEV_SHED_ACTIVE) (cls - 1) on)

end Sys2Proof.Machine
end

