-- ==== Sys2Proof/Machine/Detectors.lean ====
section
/-! DEFINITION. Detector blocks (chapter 5): averages, holds, band powers, peaks, spectrogram lines and display columns,
their periods, and the product boundary of a Joint. -/

namespace Sys2Proof.Machine

/-- A detector block's record. -/
def State.det (s : State) (c : Nat) : Det := at' s.dets c

/-- Change a detector block's record. -/
def State.updDet (s : State) (c : Nat) (f : Det → Det) : State := { s with dets := s.dets.modify c f }

/-- A frame as its consumers see it: start label, next start label, size, overload, ENBW and bins. -/
structure FrameView where
  label : Nat
  next : Nat
  n : Nat
  ovl : Bool
  enbw : Nat
  bin : Int → Int × Int

/-- Bins of a range of a transform of size n: count 0 means all (R88, R102). -/
def rangeBins (first : Int) (count n : Nat) : List Int :=
  if count = 0 then (List.range n).map fun (u : Nat) => (u : Int) - (n / 2 : Nat)
  else (List.range count).map fun (u : Nat) => first + u

/-- The configuration of a block from values of its objects (Table 5.5). -/
def detCfg (get : Nat → Nat) (c since colSince : Nat) : DetCfg :=
  { since := since, colSince := colSince, period := get (Obj.DET_PERIOD c), binFirst := toI 36 (get (Obj.DET_BIN_FIRST c))
    binCount := get (Obj.DET_BIN_COUNT c), avgMode := get (Obj.DET_AVG_MODE c), avgKind := get (Obj.DET_AVG_KIND c)
    avgShift := get (Obj.DET_AVG_SHIFT c), holdMode := get (Obj.DET_HOLD_MODE c), holdReset := get (Obj.DET_HOLD_RESET c)
    outFormat := get (Obj.DET_OUT_FORMAT c), pkK := get (Obj.DET_PK_K c), pkInput := get (Obj.DET_PK_INPUT c)
    pkThresh := get (Obj.DET_PK_THRESH c), pkSep := get (Obj.DET_PK_SEP c), sgPoints := get (Obj.DET_SG_POINTS c)
    sgMode := get (Obj.DET_SG_MODE c), colPlane := get (Obj.DET_COL_PLANE c), colCount := get (Obj.DET_COL_COUNT c)
    colMode := get (Obj.DET_COL_MODE c), colPeriod := get (Obj.DET_COL_PERIOD c)
    ints := (List.range 64).filterMap fun i =>
      if get (Obj.DET_BP_CONTEXT i) = c then some (i, toI 36 (get (Obj.DET_BP_FIRST i)), toI 36 (get (Obj.DET_BP_LAST i))) else none }

/-- The products a configuration enables (Table 5.1). -/
def DetCfg.has (g : DetCfg) (product : Nat) : Bool :=
  match product with
  | 0 => g.avgMode != 0
  | 1 => g.holdMode == 1 || g.holdMode == 3
  | 2 => g.holdMode == 2 || g.holdMode == 3
  | 3 => !g.ints.isEmpty
  | 4 => g.pkK != 0
  | 5 => g.sgMode != 0
  | _ => g.colMode != 0

/-- A product waits to resume: shed, or lost with a slice (R112, R113). -/
def Det.stopped (x : Det) (product : Nat) : Bool := x.shed.contains product || x.gone.contains product

/-- A product is formed: enabled and not stopped; peaks stop with their input (R112). -/
def Det.forms (x : Det) (g : DetCfg) (product : Nat) : Bool :=
  g.has product && !x.stopped product && (product != 4 || !x.stopped (if g.pkInput = 0 then 0 else 1))

/-- DET_STATE. -/
def State.showDet (s : State) (c : Nat) (gap : Bool) : State :=
  s.wr (Obj.DET_STATE c)
    (if !s.rdB (Obj.XFM_ENABLE c) then 0 else if !(s.det c).shed.isEmpty then 3 else if gap then 2 else 1)

/-! ## Per-bin arithmetic -/

/-- Add two lists of values; an empty one is zero. -/
def addLists (a b : List Int) : List Int := if a.isEmpty then b else List.zipWith (· + ·) a b

/-- Averages are held with 32 fractional bits beyond the units of powers, dB values (LOGP36) and components and
magnitudes: more than the 48 significant bits that R103 asks for. DESIGN CHOICE: how many more (log entry 63). -/
def fineOne : Nat := 2 ^ 32

/-- 10 log10 of a power, in LOGP36 units with the averages' further bits; −200 dB for zero. -/
def fineDb (p : Nat) : Int :=
  if p = 0 then floorDb * fineOne
  else roundConv (655360 * (log10of2Fx : Int) * ((log2Fx p : Int) - powBits * 2 ^ 64)) (2 ^ 128)

/-- The quantity averaged per bin (R103). -/
def avgQuantity (mode : Nat) (vs : List (Int × Int)) : List Int :=
  match mode with
  | 1 => vs.map fun v => (binPower v * fineOne : Nat)
  | 2 => vs.map fun v => fineDb (binPower v)
  | 3 => vs.map fun v => (isqrt (binPower v * 2 ^ 64) : Nat)
  | _ => (vs.map fun v => v.1 * (fineOne : Int)) ++ vs.map fun v => v.2 * (fineOne : Int)

/-- One exponential update, rounded convergently (R103). -/
def expoStep (shift : Nat) (y x : List Int) : List Int :=
  if y.isEmpty then x else List.zipWith (fun a b => a + roundConv (b - a) (2 ^ shift)) y x

/-- The averaged values of a period: numerators and their denominator. -/
def DetCfg.average (g : DetCfg) (x : Det) (p : PerAcc) : List Int × Nat :=
  if g.avgKind = 1 then (x.expo, fineOne) else (p.sums, p.n * fineOne)

/-- The average as powers: the square of the mean magnitude, the power of the complex mean, the power of the mean level. -/
def avgPowers (mode : Nat) (l : List Int) (den : Nat) : List Nat :=
  match mode with
  | 2 => l.map fun v => exp2At (v * (log2of10Fx : Int) / ((655360 * den : Nat) : Int)) powBits
  | 3 => l.map fun v => (roundConv (v * v) (den * den)).toNat
  | 4 => List.zipWith (fun a b => (roundConv (a * a + b * b) (den * den)).toNat) (l.take (l.length / 2)) (l.drop (l.length / 2))
  | _ => l.map fun v => (roundConv v den).toNat

/-- A mean level as LOGP36: rounded convergently, within one further unit, a free value (R87, R103). -/
def meanLevel (v : Int) (den : Nat) : Int :=
  roundConv v den + ((Config.logError (roundConv v den).natAbs % 3 : Nat) : Int) - 1

/-- The average's dB values, none for no value. -/
def avgDb (mode : Nat) (l : List Int) (den : Nat) : List (Option Int) :=
  if mode = 2 then l.map fun v => some (meanLevel v den)
  else (avgPowers mode l den).map fun p => if p = 0 then none else some (log10Power p)

/-- Words of a list of powers in DET_OUT_FORMAT. -/
def powerWords (format : Nat) (ps : List Nat) : List Nat := ps.map (if format = 2 then pow36 else logp36)

/-- The payload of the average (R103, R109). -/
def avgPayload (g : DetCfg) (l : List Int) (den : Nat) : List Nat :=
  if g.avgMode = 4 then
    complexPayload (List.zip ((l.take (l.length / 2)).map fun v => meanOf v den) ((l.drop (l.length / 2)).map fun v => meanOf v den))
  else if g.avgMode = 2 && g.outFormat != 2 then l.map fun v => ofI 36 (meanLevel v den)
  else powerWords g.outFormat (avgPowers g.avgMode l den)

/-! ## Reductions (R107) -/

/-- Bins, as offsets into a range of b, of output k of m. -/
def outBins (b m k : Nat) : List Nat :=
  if Nat.ble m b then (List.range b).filter fun u => u * m / b == k else [k * b / m]

/-- One output's value in one frame: powers, or dB values for the log average. -/
def reduceOne (mode : Nat) (ps : List Nat) (us : List Nat) : Int :=
  let vs := us.map fun u => ps.getD u 0
  match mode with
  | 1 => (vs.foldl max 0 : Nat)
  | 2 => match vs with
    | [] => 0
    | v :: rest => (rest.foldl min v : Nat)
  | 3 => (vs.headD 0 : Nat)
  | 4 => (vs.foldl (· + ·) 0 : Nat)
  | _ => vs.foldl (fun n p => n + dbOf p) 0

/-- A frame enters a reduction of m outputs. -/
def Red.add (r : Red) (mode m : Nat) (ps : List Nat) : Red :=
  let new := (List.range m).map fun k => reduceOne mode ps (outBins ps.length m k)
  let join (a b : Int) : Int := match mode with
    | 1 => max a b
    | 2 => min a b
    | 3 => b
    | _ => a + b
  { acc := if r.acc.isEmpty then new else List.zipWith join r.acc new, n := r.n + 1 }

/-- The outputs of a reduction, as LOGP36. -/
def Red.words (r : Red) (mode b m : Nat) : List Nat :=
  r.acc.mapIdx fun k v =>
    let cnt := r.n * (outBins b m k).length
    match mode with
    | 4 => logp36 (meanOf v cnt).toNat
    | 5 => ofI 36 (meanOf v cnt)
    | _ => logp36 v.toNat

/-! ## Peak search (R106) -/

/-- Insert a candidate in descending level, ties by lower bin. -/
def candIns (k : Nat) (v : Int) : List (Nat × Int) → List (Nat × Int)
  | [] => [(k, v)]
  | (j, w) :: l => if w < v then (k, v) :: (j, w) :: l else (j, w) :: candIns k v l

/-- Local maxima at or above the threshold, as offsets into the range; the end bins are never peaks. -/
def candidates (l : List (Option Int)) (thresh : Int) : List (Nat × Int) :=
  (List.range l.length).foldl (fun acc k =>
    if k = 0 || k + 1 = l.length then acc
    else match l.getD k none with
      | none => acc
      | some v =>
        let left := match l.getD (k - 1) none with
          | some a => decide (a < v)
          | none => true
        let right := match l.getD (k + 1) none with
          | some c => decide (c ≤ v)
          | none => true
        if left && right && decide (thresh ≤ v) then candIns k v acc else acc) []

/-- Accepted peaks: each more than sep bins from every one accepted before it, at most kmax. -/
def acceptPeaks (sep kmax : Nat) : List (Nat × Int) → List Nat → List Nat
  | [], acc => acc
  | (k, _) :: l, acc =>
    if Nat.ble kmax acc.length then acc
    else if acc.all fun j => Nat.blt sep (max j k - min j k) then acceptPeaks sep kmax l (acc ++ [k])
    else acceptPeaks sep kmax l acc

/-- Quotient of two signed numbers rounded convergently. -/
def ratioConv (a b : Int) : Int := if b < 0 then roundConv (-a) b.natAbs else roundConv a b.natAbs

/-- Position and level of a peak at bin b0 + k. A neighbour without a value leaves both open: the manual gives no dB
value for zero power, and free values stand in. -/
def State.peakWords (s : State) (l : List (Option Int)) (b0 : Int) (k : Nat) : State × List Nat :=
  match l.getD (k - 1) none, l.getD k none, l.getD (k + 1) none with
  | some a, some b, some c =>
    let den := a - 2 * b + c
    let pos := (b0 + k) * 65536 + (if den = 0 then 0 else ratioConv (32768 * (a - c)) den)
    let lev := if den = 0 then b else ratioConv (8 * den * b - (a - c) * (a - c)) (8 * den)
    (s, [ofI 36 pos, ofI 36 lev])
  | _, _, _ =>
    ((s.used 2), [ofI 36 ((b0 + k) * 65536 - 32767 + (Config.freeNat s.free % 65536 : Nat)), Config.freeNat (s.free + 1) % 2 ^ 36])

/-- The payload of the peaks record. -/
def State.peakPayload (s : State) (g : DetCfg) (b0 : Int) (l : List (Option Int)) : State × List Nat :=
  (acceptPeaks g.pkSep g.pkK (candidates l (toI 36 g.pkThresh)) []).foldl (fun acc k =>
    let (s, ws) := acc.1.peakWords l b0 k
    (s, acc.2 ++ ws)) (s, [])

/-! ## Periods (R101, R104, R109 to R111) -/

/-- A detector product record. -/
def detRecord (c type product flags tick : Nat) (payload : List Nat) : Record :=
  { type := type, srcKind := 3, srcIndex := c, flags := flags, hdrExt := product, tick := tick, payload := payload }

/-- Record type of a format. -/
def formatType (format : Nat) : Nat := if format = 2 then 4 else 5

/-- The configuration under which the period of `start` runs. -/
def Det.cfgOf (x : Det) (start : Nat) : Option DetCfg := x.cfgs.find? fun g => Nat.ble g.since start

/-- The swaps that are to change a block, in the order in which they apply. -/
def State.blockSwaps (s : State) (c : Nat) : List Swap := s.swaps.filter fun w => (w.change 3 ⟨.context, c⟩).isSome

/-- A context changes in the swap, with its boundary. -/
def Swap.contextBoundary (w : Swap) (s : State) (c : Nat) : Option Nat :=
  match w.units.find? fun x => x.group == 2 && x.unit == ⟨.context, c⟩ with
  | some x => some x.boundary
  | none =>
    if w.vals.any (fun p => groupOf p.1 == 2 && ownId p.1 == ⟨.context, c⟩) || w.tables.any (fun t => t.1 == 16 + c) then
      some (s.rd (Obj.XFM_LAST_JOINT c)) else none

/-- The tick from which a block's present configuration takes no frame, by the changes that wait: the boundary X, or that of its context
where it changes as well (R111). -/
def State.blockStop (s : State) (c : Nat) : Option Nat :=
  (s.blockSwaps c).foldl (fun (m : Option Nat) w =>
    let x := ((w.change 3 ⟨.context, c⟩).map Change.boundary).getD 0
    let y := match w.contextBoundary s c with
      | some k => min x k
      | none => x
    some (min y (m.getD y))) none

/-- The first label of a configuration's frames that is none of its own: what its Joint has set, or what waits. -/
def State.cfgEnd (s : State) (c : Nat) (g : DetCfg) : Option Nat :=
  match g.until_ with
  | some u => some u
  | none => s.blockStop c

/-- Close the period in progress: its records are formed and wait for release. -/
def State.closePeriod (s : State) (c : Nat) : State :=
  let x := s.det c
  match x.cur with
  | none => s
  | some p => match x.cfgOf p.start with
    | none => s.updDet c fun x => { x with cur := none }
    | some g =>
      let part := match s.cfgEnd c g with
        | some u => Nat.blt u (p.start + g.period)
        | none => false
      let ovl (product : Nat) : Bool := match product with
        | 0 => p.ovl || (g.avgKind == 1 && x.expoOvl)
        | 1 => p.ovl || x.maxOvl
        | 2 => p.ovl || x.minOvl
        | 4 => p.ovl || (if g.pkInput = 0 then g.avgKind == 1 && x.expoOvl else x.maxOvl)
        | _ => p.ovl
      let fl (product : Nat) := spectrumFlags (ovl product) (x.afterGap.contains product) part
      let (avg, den) := g.average x p
      let n := p.size
      let b0 : Int := if g.binCount = 0 then -((n / 2 : Nat) : Int) else g.binFirst
      let peakIn := if g.pkInput = 0 then avgDb g.avgMode avg den
        else x.maxH.map fun q => if q = 0 then none else some (log10Power q)
      let (s, pk) := if x.forms g 4 then s.peakPayload g b0 peakIn else (s, [])
      let bands := (g.ints.zip p.bands).map fun e => (e.1.1, pow36 (meanOf e.2 p.n).toNat, p.start)
      let recs : List (Nat × Record) :=
        [(0, detRecord c (if g.avgMode = 4 then 3 else formatType g.outFormat) 0 (fl 0) p.start (avgPayload g avg den)),
         (1, detRecord c (formatType g.outFormat) 1 (fl 1) p.start (powerWords g.outFormat x.maxH)),
         (2, detRecord c (formatType g.outFormat) 2 (fl 2) p.start (powerWords g.outFormat x.minH)),
         (3, detRecord c (formatType g.outFormat) 3 (fl 3) p.start
           (powerWords g.outFormat (p.bands.map fun v => (meanOf v p.n).toNat))),
         (4, detRecord c 5 4 (fl 4) p.start pk),
         (5, detRecord c 5 5 (fl 5) p.start (p.sg.words g.sgMode (rangeBins g.binFirst g.binCount n).length g.sgPoints))].filter
           fun e => x.forms g e.1
      let low := if g.outFormat = 2 then
          (if x.forms g 0 && g.avgMode != 4 then (avgPowers g.avgMode avg den).countP powUflow else 0) +
          (if x.forms g 1 then x.maxH.countP powUflow else 0) + (if x.forms g 2 then x.minH.countP powUflow else 0)
        else 0
      let s := s.updDet c fun x =>
        { x with cur := none, out := x.out ++ [.period recs (if x.forms g 3 then bands else [])]
                 afterGap := x.afterGap.filter fun q => !recs.any fun e => e.1 == q }
      let s := s.countN (Obj.XFM_POW_UFLOW c) low
      let s := if x.cfgs.all fun (h : DetCfg) => Nat.ble h.since g.since then s.wr (Obj.DET_PERIODS c) (s.rd (Obj.DET_PERIODS c) + 1) else s
      if part then s.countN (Obj.DET_PARTIAL c) recs.length else s

/-- Close the period in progress once every frame below its end is released or skipped. -/
def State.closeIfCovered (s : State) (c : Nat) : State :=
  let x := s.det c
  match x.cur with
  | none => s
  | some p => match x.cfgOf p.start with
    | none => s
    | some g =>
      let e := match s.cfgEnd c g with
        | some u => min u (p.start + g.period)
        | none => p.start + g.period
      if Nat.ble e x.covered then s.closePeriod c else s

/-- The first period boundary above a tick: on the grid of the configuration at the tick, or where the next one begins (R104). -/
def Det.boundaryAfter (x : Det) (t : Nat) : Nat :=
  match x.cfgOf t with
  | none => 0
  | some g =>
    let b := (t / g.period + 1) * g.period
    match (x.cfgs.filter fun (h : DetCfg) => Nat.blt g.since h.since).getLast? with
    | some h => min b h.since
    | none => b

/-- Open the period that begins at `start`: a new configuration restarts every state, holds restart each period or at a
waiting clear (R104, R111). -/
def State.openPeriod (s : State) (c start : Nat) (g : DetCfg) : State :=
  let x := s.det c
  let fresh := x.gen != g.since
  let clears := x.clearAt.filter fun t => Nat.ble (x.boundaryAfter t) start
  let holds := fresh || g.holdReset == 1 || !clears.isEmpty
  let s := match clears.getLast? with
    | some t => s.wr (Obj.DET_HOLD_CLEARED c) (x.boundaryAfter t)
    | none => s
  let back := ((s.det c).resume.filter fun r => Nat.ble r.2 start).map Prod.fst
  s.updDet c fun x =>
    { x with cur := some { start := start }, gen := g.since, clearAt := x.clearAt.filter fun t => !clears.contains t
             shed := x.shed.filter fun q => !back.contains q
             gone := x.gone.filter fun q => !back.contains q
             resume := x.resume.filter fun r => !Nat.ble r.2 start
             expo := if fresh || back.contains 0 then [] else x.expo
             expoOvl := x.expoOvl && !(fresh || back.contains 0)
             maxH := if holds || back.contains 1 then [] else x.maxH
             maxOvl := x.maxOvl && !(holds || back.contains 1)
             minH := if holds || back.contains 2 then [] else x.minH
             minOvl := x.minOvl && !(holds || back.contains 2) }

/-- A frame's contribution to the period in progress. -/
def Det.addFrame (x : Det) (g : DetCfg) (v : FrameView) : Det :=
  match x.cur with
  | none => x
  | some p =>
    let vs := (rangeBins g.binFirst g.binCount v.n).map v.bin
    let ps := vs.map binPower
    let q := avgQuantity g.avgMode vs
    let bp := g.ints.map fun i =>
      let sum := (List.range (i.2.2 - i.2.1 + 1).toNat).foldl (fun n (k : Nat) => n + binPower (v.bin (i.2.1 + k))) 0
      roundConv ((sum : Int) * 65536) v.enbw
    let avg := x.forms g 0
    { x with
      cur := some { p with
        n := p.n + 1, size := v.n, ovl := p.ovl || v.ovl
        sums := if avg && g.avgKind != 1 then addLists p.sums q else p.sums
        bands := if x.forms g 3 then addLists p.bands bp else p.bands
        sg := if x.forms g 5 then p.sg.add g.sgMode g.sgPoints ps else p.sg }
      expo := if avg && g.avgKind = 1 then expoStep g.avgShift x.expo q else x.expo
      maxH := if x.forms g 1 then (if x.maxH.isEmpty then ps else List.zipWith max x.maxH ps) else x.maxH
      minH := if x.forms g 2 then (if x.minH.isEmpty then ps else List.zipWith min x.minH ps) else x.minH
      expoOvl := x.expoOvl || (avg && v.ovl), maxOvl := x.maxOvl || (x.forms g 1 && v.ovl), minOvl := x.minOvl || (x.forms g 2 && v.ovl) }

/-! ## Column sets (R108) -/

/-- The configuration whose column sets take a frame. -/
def Det.colCfg (x : Det) (label : Nat) : Option DetCfg :=
  match x.colCfgs.find? fun g => Nat.ble g.colSince label with
  | none => none
  | some g => match g.colUntil with
    | some u => if label < u then some g else none
    | none => some g

/-- The column set in progress is discarded (R112, R113). -/
def Det.dropColumns (x : Det) : Det := { x with colAt := none, col := {}, colOvl := false }

/-- Close the column set in progress: to the plane and to the flows that bind product 6. -/
def State.closeColumns (s : State) (c : Nat) : State :=
  let x := s.det c
  match x.colAt with
  | none => s
  | some a =>
    let s := s.updDet c Det.dropColumns
    match x.colCfgs.find? fun (g : DetCfg) => Nat.ble g.colSince a with
    | none => s
    | some g =>
      let n := x.colSize
      let ws := x.col.words g.colMode (rangeBins g.binFirst g.binCount n).length g.colCount
      let r := detRecord c 6 6 (spectrumFlags x.colOvl (x.afterGap.contains 6) false) a ws
      let s := s.enterAll (s.productFlows c 6) r
      let s := s.updDet c fun x => { x with afterGap := x.afterGap.filter fun q => q != 6 }
      if g.colPlane < 8 then s.planeSet g.colPlane { label := a, cols := ws } else s

/-- End of the column interval in progress. -/
def DetCfg.colEnd (g : DetCfg) (a : Nat) : Nat :=
  let e := if g.colPeriod = 0 then a + 1 else a + g.colPeriod
  match g.colUntil with
  | some u => min u e
  | none => e

/-- Close the column set in progress once its interval is covered. -/
def State.coverColumns (s : State) (c : Nat) : State :=
  let x := s.det c
  match x.colAt with
  | none => s
  | some a => match x.colCfgs.find? fun (g : DetCfg) => Nat.ble g.colSince a with
    | none => s.closeColumns c
    | some g => if Nat.ble (g.colEnd a) x.covered then s.closeColumns c else s

/-- A product's state is cleared, its part of the period in progress among it (R112, R113). -/
def Det.clearProduct (x : Det) (q : Nat) : Det :=
  { x with
    resume := x.resume.filter fun r => r.1 != q
    expo := if q = 0 then [] else x.expo, expoOvl := q != 0 && x.expoOvl
    maxH := if q = 1 then [] else x.maxH, maxOvl := q != 1 && x.maxOvl
    minH := if q = 2 then [] else x.minH, minOvl := q != 2 && x.minOvl
    cur := x.cur.map fun p =>
      { p with
        sums := if q = 0 then [] else p.sums, bands := if q = 3 then [] else p.bands, sg := if q = 5 then {} else p.sg } }

/-- The first column set formed after a restoration of its plane's input: the shed record names its label (R171). -/
def State.tellRestored (s : State) (c p a : Nat) : State :=
  match (s.plane p).back with
  | none => s
  | some r =>
    ((s.enterAll (s.sourceFlows 4 p) { r with tick := a }).enterAll (s.productFlows c 6) { r with tick := a }).updPlane p fun x =>
      { x with back := none }

/-- A frame enters the column set of its interval, unless the plane's input is shed (R112). -/
def State.columnFrame (s : State) (c : Nat) (v : FrameView) : State :=
  let x := s.det c
  match x.colCfg v.label with
  | none => s
  | some g =>
    if !g.has 6 || (Nat.blt g.colPlane 8 && (s.plane g.colPlane).shed) then s
    else
      let a := if g.colPeriod = 0 then v.label else v.label / g.colPeriod * g.colPeriod
      let s := if x.colAt = some a then s else s.closeColumns c
      let s := if Nat.blt g.colPlane 8 then s.tellRestored c g.colPlane a else s
      let ps := (rangeBins g.binFirst g.binCount v.n).map fun b => binPower (v.bin b)
      s.updDet c fun x =>
        { x with colAt := some a, col := x.col.add g.colMode g.colCount ps, colOvl := x.colOvl || v.ovl, colSize := v.n }

/-! ## The Joint (R111) -/

/-- The boundary of the column sets in a swap that changes the block (R111). -/
def State.columnBoundary (s : State) (c : Nat) (get : Nat → Nat) (w : Swap) : Nat :=
  let t := (w.contextBoundary s c).getD w.reqTick
  let p := get (Obj.DET_COL_PERIOD c)
  if p = 0 then t else roundUp t p

/-- Column sets restart under the configuration of a swap, whose values with those of the swaps before it `get` gives (R111). -/
def State.restartColumns (s : State) (c : Nat) (get : Nat → Nat) (w : Swap) : State :=
  let b := s.columnBoundary c get w
  let e := match w.contextBoundary s c with
    | some k => min k b
    | none => b
  s.updDet c fun x =>
    { x with
      colSwap := w.id + 1
      colCfgs := detCfg get c b b :: recent DetCfg.colSince s.settled (x.colCfgs.mapIdx fun i (o : DetCfg) =>
        if i = 0 then ({ o with colUntil := some (min e (o.colUntil.getD e)) } : DetCfg) else o) }

/-- The swaps that wait bring their column sets' configurations into force up to a label. -/
def State.columnsUpTo (s : State) (c label : Nat) : State :=
  ((s.blockSwaps c).foldl (fun (acc : State × (Nat → Nat)) w =>
    let s := acc.1
    let get := fun k => match w.vals.find? fun p => p.1 == k with
      | some p => p.2
      | none => acc.2 k
    (if Nat.blt (s.det c).colSwap (w.id + 1) && Nat.ble (s.columnBoundary c get w) label then s.restartColumns c get w else s, get))
    (s, s.rd)).1

/-- Apply a block's change at its product boundary X, with the integrators that change with it; one that moves to another block at that
block's own boundary is gone from this one. -/
def State.detectorJoint (s : State) (c : Nat) : State :=
  s.joint 3 ⟨.context, c⟩ (fun _ _ s => s) fun w b s =>
    let s := (List.range 64).foldl (fun s i =>
      match w.change 3 ⟨.integrator, i⟩ with
      | some _ =>
        if s.rd (Obj.DET_BP_CONTEXT i) = c || w.value s (Obj.DET_BP_CONTEXT i) = c then
          s.joint 3 ⟨.integrator, i⟩ (fun _ _ s => s) fun _ _ s => s
        else s
      | none => s) s
    let stop := match w.contextBoundary s c with
      | some k => min b k
      | none => b
    let s := if Nat.blt (s.det c).colSwap (w.id + 1) then s.restartColumns c s.rd w else s
    let named (k : Nat) := if (List.range 64).any fun i => k == Obj.DET_BP_CONTEXT i then w.value s k else s.rd k
    let s := s.updDet c fun x =>
      { x with cfgs := detCfg named c b b :: recent DetCfg.since s.settled (x.cfgs.mapIdx fun i (o : DetCfg) =>
          if i = 0 then ({ o with until_ := some stop } : DetCfg) else o) }
    let s := ((s.wr (Obj.DET_LAST_JOINT c) b).wr (Obj.DET_PERIODS c) 0).showDet c false
    (s.closeIfCovered c).coverColumns c

/-- DETECTOR_JOINT. -/
def execDetectorJoint (c : Nat) (s : State) : Host.Outcome State Fault Refusal := done s (s.detectorJoint c)

/-! ## What reaches a block -/

/-- A released frame reaches its block (R89, R101). -/
def State.detFrame (s : State) (c : Nat) (v : FrameView) : State :=
  let s := match s.due 3 ⟨.context, c⟩ with
    | some (_, b) => if Nat.ble b v.label then s.detectorJoint c else s
    | none => s
  let s := match (s.det c).cfgOf v.label with
    | none => s
    | some g =>
      let taken := match s.cfgEnd c g with
        | some u => decide (v.label < u)
        | none => true
      if !taken || !(List.range 6).any (fun q => g.has q) then s
      else
        let start := v.label / g.period * g.period
        let s := match (s.det c).cur with
          | some p => if p.start = start then s else (s.closePeriod c).openPeriod c start g
          | none => s.openPeriod c start g
        s.updDet c fun x => x.addFrame g v
  let s := s.columnsUpTo c v.label
  let s := if (s.blockSwaps c).any fun w => Nat.blt (s.det c).colSwap (w.id + 1) && (w.contextBoundary s c).any fun k => Nat.ble k v.label
    then s else s.columnFrame c v
  let s := s.updDet c fun x => { x with covered := max x.covered v.next }
  ((s.closeIfCovered c).coverColumns c).showDet c false

/-- Frames up to the one that starts at `next` are skipped: the records that explain it go ahead of the next product records,
which carry AFTER_GAP (R110). -/
def State.detGap (s : State) (c next : Nat) (recs : List Record) : State :=
  let s := s.columnsUpTo c (next - 1)
  let s := s.updDet c fun x => { x with covered := max x.covered next }
  let s := (s.closeIfCovered c).coverColumns c
  let s := s.updDet c fun x => { x with out := x.out ++ [.explain recs], afterGap := List.range 7 }
  let s := match (s.det c).colCfgs.head? with
    | some g => if g.has 6 then
        let s := recs.foldl (fun (s : State) (r : Record) => s.enterAll (s.productFlows c 6) r) s
        if g.colPlane < 8 then s.planeGap g.colPlane else s
      else s
    | none => s
  s.showDet c true

/-- PRODUCT_PERIOD_RELEASE (R101): the oldest period formed is released: its records to the flows that bind them, in
ascending product code, and its band powers to their objects. -/
def execProductPeriodRelease (c : Nat) (s : State) : Host.Outcome State Fault Refusal :=
  done s <|
    let release (s : State) (i : DetItem) : State := match i with
      | .explain recs => (List.range 6).foldl (fun (s : State) q => recs.foldl (fun (s : State) (r : Record) => s.enterAll (s.productFlows c q) r) s) s
      | .period recs bands =>
        let s := recs.foldl (fun (s : State) (e : Nat × Record) => s.enterAll (s.productFlows c e.1) e.2) s
        let s := s.updDet c fun x =>
          { x with latest := (recs.filter fun (e : Nat × Record) => e.1 == 0 || e.1 == 1 || e.1 == 2 || e.1 == 5) ++
                     x.latest.filter fun o => !recs.any fun (e : Nat × Record) => e.1 == o.1 }
        bands.foldl (fun (s : State) (b : Nat × Nat × Nat) => (s.wr (Obj.DET_BP_VALUE b.1) b.2.1).wr (Obj.DET_BP_TICK b.1) b.2.2) s
    let items := (s.det c).out
    let lead := items.takeWhile fun i => match i with
      | .explain _ => true
      | .period _ _ => false
    let rest := items.drop lead.length
    let s := s.updDet c fun x => { x with out := rest.drop 1 }
    (lead ++ rest.take 1).foldl release s

/-- A write of DET_HOLD_CLEAR (R104): both holds restart at the first period boundary after the served tick. -/
def State.holdClear (c v : Nat) (r : Req) (s : State) : State :=
  if v != 1 then s.answer r .range
  else (s.updDet c fun x => { x with clearAt := x.clearAt ++ [s.tick] }).answer r .ok

/-- DET_HOLD_CLEAR. -/
def execDetHoldClear (sess tag c v : Nat) (s : State) : Host.Outcome State Fault Refusal :=
  done s (s.direct sess tag (Obj.DET_HOLD_CLEAR c) v (State.holdClear c v))

/-! ## A plane's next boundary (R161) -/

/-- The block's context computes no frame: off with none left, or shed. -/
def State.contextIdle (s : State) (c : Nat) : Bool :=
  s.rd (Obj.XFM_STATE c) == 4 || (!s.rdB (Obj.XFM_ENABLE c) && (at' s.ctxs c).items.isEmpty)

/-- The context of a block is shed: its frames up to the tick index are named by shed records, and what they leave of its periods and
column sets is complete. -/
def State.coverShed (s : State) (c : Nat) : State :=
  if s.rd (Obj.XFM_STATE c) = 4 then
    (((s.columnsUpTo c s.tick).updDet c fun x => { x with covered := max x.covered s.tick }).closeIfCovered c).coverColumns c
  else s

/-- Block c has released every column set of a configuration that is labelled below b. -/
def State.setsReleased (s : State) (c b : Nat) (g : DetCfg) : Bool :=
  let x := s.det c
  let e := match g.colUntil with
    | some u => min u b
    | none => b
  let to_ := match x.colAt with
    | some a => a
    | none => if s.contextIdle c || (g.colUntil.any fun u => Nat.ble u x.covered) then b
      else if g.colPeriod = 0 then x.covered else x.covered / g.colPeriod * g.colPeriod
  Nat.ble e g.colSince || Nat.ble e to_

/-- The plane may take boundary b: every set labelled below it is released or lies in a gap, by each block that names the plane or did at
such a label; the tick index alone decides for a plane that no block names, or that is shed (R161). -/
def State.planeReady (s : State) (p b : Nat) : Bool :=
  Nat.ble b s.tick && ((s.plane p).shed ||
    (List.range 32).all fun c => ((s.det c).colCfgs.filter fun (g : DetCfg) => g.has 6 && g.colPlane == p).all (s.setsReleased c b))

/-- PLANE_BOUNDARY (R161): the six steps at the plane's next boundary. -/
def execPlaneBoundary (p : Nat) (s : State) : Host.Outcome State Fault Refusal :=
  done s <|
    if !Nat.blt p 8 then s
    else match s.planeNext p with
    | none => s
    | some b =>
      let s := (List.range 32).foldl State.coverShed s
      if !s.planeReady p b then s else s.takeBoundary p b

end Sys2Proof.Machine
end

