-- ==== Sys2Proof/Machine/Lattice.lean ====
section
/-! DEFINITION. Transform contexts (chapter 4): the frame grid, windows, the forming, dispatch, release and skipping of
frames, and the context boundary of a Joint. A bin is computed in the block-floating form of R84. -/

namespace Sys2Proof.Machine

/-- A context's record. -/
def State.ctx (s : State) (c : Nat) : Ctx := at' s.ctxs c

/-- Change a context's record. -/
def State.updCtx (s : State) (c : Nat) (f : Ctx → Ctx) : State := { s with ctxs := s.ctxs.modify c f }

/-- N of a context configuration (R76). -/
def CtxCfg.n (g : CtxCfg) : Nat := 2 ^ g.sizeLog2

/-! ## Windows (R80, R81) -/

/-- Coefficient n of a user window, from its pairs. -/
def userCoef (m : Mem) (n : Nat) : Int :=
  let p := m.get zeroDflt (n / 2)
  if n % 2 = 0 then toI 18 (p / 2 ^ 18) else toI 18 p

/-- Coefficient k of a built-in window of N points (R80, Table 4.1), rounded convergently in units of 2^−16. -/
def windowCoef (type param n k : Nat) : Int :=
  let c (j : Nat) : Int := cosTurn (j * k) n
  let one : Int := fx
  let d := ((2 * k : Int) - n).natAbs
  clampI (-131072) 131071 <| match type with
    | 0 => 65536
    | 1 => roundConv ((one - c 1) * 2 ^ 15) fx
    | 2 => roundConv ((35875 * one - 48829 * c 1 + 14128 * c 2 - 1168 * c 3) * 2 ^ 16) (100000 * fx)
    | 3 => roundConv ((21557895 * one - 41663158 * c 1 + 27726316 * c 2 - 8357895 * c 3 + 694737 * c 4) * 2 ^ 16) (100000000 * fx)
    | 4 =>
      let i0 (t : Nat) : Nat := besselSum 150 0 fx t
      roundConv ((i0 (param * param * (n * n - d * d) * fx / (262144 * n * n)) : Int) * 2 ^ 16) (i0 (param * param * fx / 262144))
    | _ => exp2At (-((param * param * d * d * log2eFx / (131072 * n * n) : Nat) : Int)) 16

/-- The rounded coefficients of a window, in units of 2^−16. -/
def coefs (type param n : Nat) (user : Mem) : List Int :=
  (List.range n).map fun k => if type = 6 then userCoef user k else windowCoef type param n k

/-- XFM_WIN_ENBW: N Σw² / (Σw)², in bins × 65,536, within its U32. DESIGN CHOICE: rounded convergently, as R65 rounds elsewhere (log
entry 64). -/
def enbwOf (w : List Int) : Nat :=
  let s1 := w.foldl (fun a x => a + x) 0
  let s2 := w.foldl (fun a x => a + x * x) 0
  if s1 = 0 then Config.unstatedEnbw w % 2 ^ 32 else min (2 ^ 32 - 1) (roundConv ((w.length : Int) * s2 * 65536) (s1 * s1).toNat).toNat

/-- XFM_WIN_CGAIN: s1 / N in units of 2^−30, which N divides exactly up to 2^14 and which is rounded convergently above. DESIGN CHOICE: that
rounding (log entry 64). -/
def cgainOf (w : List Int) : Nat :=
  let s1 := w.foldl (fun a x => a + x) 0
  (roundConv (s1 * 2 ^ 14) w.length).toNat

/-- The power response of a window to a tone a / b bins off a bin's centre, with 192 fractional bits. -/
def windowPower (w : List Int) (a b : Nat) : Nat :=
  let v := (List.zip (List.range w.length) w).foldl (fun (v : Int × Int) e =>
    (v.1 + e.2 * cosTurn (a * e.1) (b * w.length), v.2 + e.2 * sinTurn (a * e.1) (b * w.length))) (0, 0)
  binPower v

/-- The fall of the response at an offset below that at the centre, in LOGP36 units; none where either vanishes. -/
def windowFall (w : List Int) (a b : Nat) : Option Int :=
  let p := windowPower w 0 1
  let q := windowPower w a b
  if p = 0 ∨ q = 0 then none else some (roundConv (655360 * (log10of2Fx : Int) * ((log2Fx p : Int) - log2Fx q)) (2 ^ 160))

/-- XFM_WIN_SCALLOP (R80): a built-in window's response falls steadily up to half a bin; a user window's greatest fall is at least that at
every sixteenth of a bin, a free value. -/
def scallopOf (type : Nat) (w : List Int) : Nat :=
  let falls := (if type = 6 then List.range 9 else [8]).map fun k => windowFall w k 16
  if falls.any Option.isNone then Config.scallop w % 2 ^ 36
  else
    let v := falls.foldl (fun (m : Int) x => max m (x.getD 0)) 0
    ofI 36 (if type = 6 then max v (Config.scallop w % 2 ^ 32 : Nat) else v)

/-- The user window in force of a context that runs, and the committed one of one that is off (R81). -/
def State.uwinForce (s : State) (c : Nat) : Mem :=
  match (s.ctx c).cfgs.head? with
  | some g => if s.rdB (Obj.XFM_ENABLE c) then g.uwin else (s.load (16 + c)).com
  | none => (s.load (16 + c)).com

/-- The read-only window values follow the settings in force, and the committed ones while the context is off (R99). -/
def State.showWindow (s : State) (c : Nat) : State :=
  let get := if s.rdB (Obj.XFM_ENABLE c) then s.rd else s.rdc
  let type := get (Obj.XFM_WIN_TYPE c)
  let w := coefs type (get (Obj.XFM_WIN_PARAM c)) (2 ^ get (Obj.XFM_SIZE_LOG2 c)) (s.uwinForce c)
  s.wrAll [(Obj.XFM_WIN_ENBW c, enbwOf w), (Obj.XFM_WIN_CGAIN c, cgainOf w), (Obj.XFM_WIN_SCALLOP c, scallopOf type w)]

/-! ## The frame grid (R77) -/

/-- The context's configuration object values from start label `since` on. -/
def State.ctxCfg (s : State) (c since : Nat) (uwin : Mem) : CtxCfg :=
  { since := since, on := s.rdB (Obj.XFM_ENABLE c), source := s.rd (Obj.XFM_SOURCE c), sizeLog2 := s.rd (Obj.XFM_SIZE_LOG2 c)
    hop := s.rd (Obj.XFM_HOP c), phase := s.rd (Obj.XFM_FRAME_PHASE c), winType := s.rd (Obj.XFM_WIN_TYPE c)
    winParam := s.rd (Obj.XFM_WIN_PARAM c), uwin := uwin, format := s.rd (Obj.XFM_OUT_FORMAT c)
    every := s.rd (Obj.XFM_OUT_EVERY c), binFirst := s.rdI (Obj.XFM_BIN_FIRST c), binCount := s.rd (Obj.XFM_BIN_COUNT c)
    enbw := enbwOf (coefs (s.rd (Obj.XFM_WIN_TYPE c)) (s.rd (Obj.XFM_WIN_PARAM c)) (2 ^ s.rd (Obj.XFM_SIZE_LOG2 c)) uwin)
    gen := s.gen ⟨.context, c⟩ }

/-- A frame starts at sample index i: i is at or above φ's class modulo H (R77). -/
def CtxCfg.starts (g : CtxCfg) (i : Nat) : Bool := Nat.ble g.phase i && (i - g.phase) % g.hop == 0

/-- The first start label at or above t on the grid of decimation d. -/
def CtxCfg.firstStart (g : CtxCfg) (d t : Nat) : Nat :=
  let i := ceilDiv t (2 * d)
  2 * d * (if Nat.ble i g.phase then g.phase else g.phase + roundUp (i - g.phase) g.hop)

/-- How many frames start in labels a to b on the grid of decimation d, and the last of them. -/
def CtxCfg.startsIn (g : CtxCfg) (d a b : Nat) : Nat × Nat :=
  let f := g.firstStart d a
  if Nat.blt b f then (0, 0)
  else
    let n := (b - f) / (2 * d * g.hop)
    (n + 1, f + n * (2 * d * g.hop))

/-- The configuration in force at a start label. -/
def Ctx.cfgAt (x : Ctx) (label : Nat) : Option CtxCfg := x.cfgs.find? fun g => Nat.ble g.since label

/-- The first start label of the next configuration after the one that began at `since`. -/
def Ctx.until_ (x : Ctx) (since : Nat) : Option Nat :=
  ((x.cfgs.filter fun g => Nat.blt since g.since).getLast?).map CtxCfg.since

/-- The label by which a context's items are ordered. -/
def CtxItem.at_ : CtxItem → Nat
  | .frame f => f.label
  | .gap a _ _ => a

/-- Put an item in its place in ascending start label (R95). -/
def itemPut (e : CtxItem) : List CtxItem → List CtxItem
  | [] => [e]
  | x :: l => if Nat.blt e.at_ x.at_ then e :: x :: l else x :: itemPut e l

/-- The first frame that has no slot. -/
def Ctx.waiting (x : Ctx) : Option Frm :=
  match x.items.find? fun i => match i with
    | .frame f => !f.dispatched
    | .gap .. => false with
  | some (.frame f) => some f
  | _ => none

/-- A tuner's grids in ascending order: from which label on, and the decimation, those of Joints that wait among them. -/
def State.gridsOf (s : State) (t : Nat) : List (Nat × Nat) :=
  ((at' s.tuners t).cfgs.map fun g => (g.j, g.d)).reverse ++
    s.swaps.filterMap fun w => (w.change 1 ⟨.tuner, t⟩).map fun x => (x.boundary, w.value s (Obj.TUNE_DECIM t))

/-- The start label that follows a start label of a configuration: on the grid in force there, and under the configuration in force there. -/
def State.nextStart (s : State) (c : Nat) (g : CtxCfg) (label : Nat) : Nat :=
  let grids := s.gridsOf g.source
  let d := (grids.foldl (fun (d : Option Nat) p => if Nat.ble p.1 label then some p.2 else d) none).getD
    ((grids.head?.map Prod.snd).getD 1)
  let n := grids.foldl (fun n p => if Nat.blt label p.1 && Nat.ble p.1 n then g.firstStart p.2 p.1 else n) (label + 2 * d * g.hop)
  let ends := ((s.ctx c).until_ g.since).toList ++ s.swaps.filterMap fun w => (w.change 2 ⟨.context, c⟩).map Change.boundary
  ends.foldl (fun n e => if Nat.blt label e then min n e else n) n

/-- The run of frames skipped for want of a slot ends: one gap/loss record of cause STAGING names it (R93). -/
def State.endStagingRun (s : State) (c : Nat) : State :=
  match (s.ctx c).stag with
  | none => s
  | some (a, b, n) =>
    s.updCtx c fun x => { x with stag := none, items := itemPut (.gap a b [gapRecord 2 c a b 3 n 0]) x.items }

/-! ## Joints (R90, R91) -/

/-- Apply a context's change at its context boundary. -/
def State.contextJoint (s : State) (c : Nat) : State :=
  let was := s.rdB (Obj.XFM_ENABLE c)
  let uwin := s.uwinForce c
  s.joint 2 ⟨.context, c⟩ (fun _ _ s => s) fun w b s =>
    let g := s.ctxCfg c b (match w.tables.find? fun t => t.1 == 16 + c with
      | some t => t.2
      | none => uwin)
    let s := s.updCtx c fun x => { x with cfgs := g :: recent CtxCfg.since s.settled x.cfgs }
    let s := (s.showWindow c).wr (Obj.XFM_LAST_JOINT c) b
    let s := if g.on || (s.ctx c).waiting.isSome then s else s.endStagingRun c
    if !was && g.on then
      ((s.wr (Obj.XFM_FRAME_COUNT c) 0).wr (Obj.XFM_STATE c) 1).updCtx c fun x => { x with skipTo := none, afterGap := false }
    else if was && !g.on then s.wr (Obj.XFM_STATE c) 0
    else s

/-- CONTEXT_JOINT. -/
def execContextJoint (c : Nat) (s : State) : Host.Outcome State Fault Refusal := done s (s.contextJoint c)

/-- Apply a context's due change before the first label at or above its boundary is looked at. -/
def State.contextUpTo (s : State) (c label : Nat) : State :=
  match s.due 2 ⟨.context, c⟩ with
  | some (_, b) => if Nat.ble b label then s.contextJoint c else s
  | none => s

/-- XFM_UWIN_WRITE (R81): one coefficient pair is staged. -/
def execXfmUwinWrite (sess tag c v : Nat) (s : State) : Host.Outcome State Fault Refusal :=
  done s (s.stageWrite sess tag (Obj.XFM_UWIN_WRITE c) v)

/-! ## Forming frames (R79) -/

/-- A sample labelled `label` has joined tuner t's uninterrupted run on the grid of decimation d: each context that
reads t and has a frame ending with it holds that frame (R77, R79). -/
def State.formFrames (s : State) (t label d : Nat) : State :=
  let run := (at' s.tuners t).run
  (List.range 32).foldl (fun s c =>
    let s := s.contextUpTo c label
    if (s.ctx c).shed then s
    else
      (s.ctx c).cfgs.foldr (fun g (s : State) =>
        let span := (g.n - 1) * (2 * d)
        let a := label - span
        let live := match (s.ctx c).until_ g.since with
          | some u => Nat.blt a u
          | none => true
        if g.on && g.source == t && Nat.ble span label && Nat.ble g.n run.length && Nat.ble g.since a && live &&
            g.starts (a / (2 * d)) then
          { s.updCtx c fun x =>
              { x with
                items := itemPut (.frame { label := a, d := d, cfg := g, samples := (run.take g.n).reverse
                                           tag := tagWord 2 c g.gen x.seq, req := s.formed }) x.items
                seq := x.seq + 1 } with formed := s.formed + 1 }
        else s) s) s

/-! ## Releasing frames (R88, R89, R95) -/

/-- Records that explain a gap go into every flow the context feeds directly (R92). -/
def State.forwardAll (s : State) (c : Nat) (recs : List Record) : State :=
  recs.foldl (fun (s : State) (r : Record) => s.enterAll (s.sourceFlows 2 c) r) s

/-- Release the gaps at the head of a context's items: the records go forward, the block and the trigger sources learn
of the gap, and the next spectrum record carries AFTER_GAP. -/
def State.flushGaps (s : State) (c : Nat) : State :=
  let lead := (s.ctx c).items.takeWhile fun i => match i with
    | .gap .. => true
    | .frame _ => false
  let s := s.updCtx c fun x => { x with items := x.items.drop lead.length }
  lead.foldl (fun (s : State) (i : CtxItem) => match i with
    | .frame _ => s
    | .gap a b recs =>
      let g := ((s.ctx c).cfgAt a).getD default
      let d := s.rd (Obj.TUNE_DECIM g.source)
      ((((s.forwardAll c recs).detGap c (s.nextStart c (((s.ctx c).cfgAt b).getD default) b) recs).frameGap c a b g.n g.hop d).updCtx c fun x => { x with afterGap := true })) s

/-- Every frame of an older configuration that starts below `label` is formed or skipped: its source tuner's labels have
passed the end of the last of them, or the tuner is off. -/
def State.olderFormed (s : State) (c label : Nat) : Bool :=
  (s.ctx c).cfgs.all fun g => match (s.ctx c).until_ g.since with
    | none => true
    | some u =>
      !g.on || Nat.blt label g.since || !s.rdB (Obj.TUNE_ENABLE g.source) ||
        Nat.blt (min u label + (g.n - 1) * 2 * s.rd (Obj.TUNE_DECIM g.source)) (at' s.tuners g.source).at_

/-! ## The transform (R83 to R85) -/

/-- A frame in block-floating form: 36-bit mantissas in blocks, and the exponent that they share (R84). -/
structure FloatFrame where
  blocks : List (List Cplx)
  e : Nat := 0

/-- Before a stage every mantissa is halved if one has reached 2^33. -/
def FloatFrame.halve (x : FloatFrame) : FloatFrame :=
  if x.blocks.any fun l => l.any fun z => Nat.ble (2 ^ 33) z.1.natAbs || Nat.ble (2 ^ 33) z.2.natAbs then
    { blocks := x.blocks.map fun l => l.map fun z => z.round 2, e := x.e + 1 }
  else x

/-- Fraction bits of a twiddle factor's 24. -/
def twiddleBits : Nat := 22 + Config.twiddleFraction % 2

/-- A mantissa times exp (−j 2π k / n), rounded convergently back to 36 bits. -/
def twist (k n : Nat) (z : Cplx) : Cplx :=
  let r (v : Int) : Int := clampI (-(2 ^ 23)) (2 ^ 23 - 1) (roundConv (v * 2 ^ twiddleBits) fx)
  let c := r (cosTurn k n)
  let s := r (sinTurn k n)
  if k = 0 then z else Cplx.round (z.1 * c + z.2 * s, z.2 * c - z.1 * s) (2 ^ twiddleBits)

/-- Sums, and differences, of two blocks. -/
def blockSum (a b : List Cplx) : List Cplx := List.zipWith (fun x y => (x.1 + y.1, x.2 + y.2)) a b
def blockDiff (a b : List Cplx) : List Cplx := List.zipWith (fun x y => (x.1 - y.1, x.2 - y.2)) a b

/-- A stage of decimation in time: blocks join in pairs. -/
def joinBlocks : List (List Cplx) → List (List Cplx)
  | a :: b :: l =>
    let t := b.mapIdx fun k z => twist k (2 * b.length) z
    (blockSum a t ++ blockDiff a t) :: joinBlocks l
  | l => l

/-- A stage of decimation in frequency: every block splits in two. -/
def splitBlocks (l : List (List Cplx)) : List (List Cplx) :=
  (l.map fun a =>
    let u := a.take (a.length / 2)
    let v := a.drop (a.length / 2)
    [blockSum u v, (blockDiff u v).mapIdx fun k z => twist k a.length z]).flatten

/-- The numbers below 2^l in bit-reversed order. -/
def bitReversed : Nat → List Nat
  | 0 => [0]
  | l + 1 => ((bitReversed l).map fun i => 2 * i) ++ (bitReversed l).map fun i => 2 * i + 1

/-- The mantissas of bins 0 to N − 1 and their exponent, after windowing and the log2 N stages (R84). -/
def stagesOf (xs : List Nat) (w : List Int) : List Cplx × Nat :=
  let l := Nat.log2 w.length
  let v : List Cplx := List.zipWith (fun x k => (k * toI 18 (x / 2 ^ 18), k * toI 18 x)) xs w
  let rev := bitReversed l
  if Config.stagesInTime then
    let y := (List.range l).foldl (fun (y : FloatFrame) _ => { y.halve with blocks := joinBlocks y.halve.blocks })
      { blocks := rev.map fun i => [v.getD i (0, 0)] }
    (y.blocks.headD [], y.e)
  else
    let y := (List.range l).foldl (fun (y : FloatFrame) _ => { y.halve with blocks := splitBlocks y.halve.blocks }) { blocks := [v] }
    (rev.map fun i => (y.blocks.getD i []).headD (0, 0), y.e)

/-- A mantissa component × 2^e / s1 (in units of 2^−16), with a relative error of at most 2^−30, a free value. -/
def scaleOut (m : Int) (e : Nat) (s1 err : Int) : Int :=
  roundConv (m * 2 ^ (e + compBits - 17) * (2 ^ 60 + clampI (-(2 ^ 30)) (2 ^ 30) err) * (if s1 < 0 then -1 else 1)) (2 ^ 60 * s1.natAbs)

/-- The sum over n of w[n] × x[n] × exp (−j 2π b n / N), components with 96 + 33 fractional bits (R83). -/
def binSum (n b : Nat) (xs : List Nat) (w : List Int) : Int × Int :=
  (List.zip (List.range n) (List.zip xs w)).foldl (fun (a : Int × Int) (e : Nat × Nat × Int) =>
    let i := e.2.2 * toI 18 (e.2.1 / 2 ^ 18)
    let q := e.2.2 * toI 18 e.2.1
    let c := cosTurn (e.1 * b % n) n
    let s := sinTurn (e.1 * b % n) n
    (a.1 + i * c + q * s, a.2 + q * c - i * s)) (0, 0)

/-- A component divided by s1 (in units of 2^−16). -/
def binScale (s1 v : Int) : Int := roundConv (v * 2 ^ (compBits - 17) * (if s1 < 0 then -1 else 1)) (fx * s1.natAbs)

/-- A bin by the arithmetic of R84, each component within 2,429 × 2^−35 of the transform of R83, so that the noise lies 140 dB below a
full-scale tone (R85). The order of the stages is a free choice of two (log entry 64). -/
def dftBin (xs : List Nat) (w : List Int) (b : Int) : Int × Int :=
  let s1 := w.foldl (fun a x => a + x) 0
  if s1 = 0 then Config.unstatedBin xs w b
  else
    let i := (b % (w.length : Int)).toNat
    let y := stagesOf xs w
    let z := y.1.getD i (0, 0)
    let err := Config.scaleError xs w b
    let v := binSum w.length i xs w
    let near (exact out : Int) : Int := clampI (exact - 2429 * 2 ^ (compBits - 35)) (exact + 2429 * 2 ^ (compBits - 35)) out
    (near (binScale s1 v.1) (scaleOut z.1 y.2 s1 err.1), near (binScale s1 v.2) (scaleOut z.2 y.2 s1 err.2))

/-- A frame's bins. -/
def Frm.bin (f : Frm) (b : Int) : Int × Int :=
  dftBin (f.samples.map Samp.w) (coefs f.cfg.winType f.cfg.winParam f.cfg.n f.cfg.uwin) b

/-- The frame's number m (R77). -/
def Frm.number (f : Frm) : Nat := (f.label / (2 * f.d) - f.cfg.phase) / f.cfg.hop

/-- Record type of a direct output format (R86, Table 10.2). -/
def outType (format : Nat) : Nat := if format = 1 then 3 else if format = 2 then 4 else 5

/-- A direct output record and the power bins it delivers as zero (R86 to R88). -/
def Frm.direct (f : Frm) (c : Nat) (afterGap : Bool) : Record × Nat :=
  let vs := (rangeBins f.cfg.binFirst f.cfg.binCount f.cfg.n).map f.bin
  let ps := vs.map binPower
  let payload := match f.cfg.format with
    | 1 => complexPayload vs
    | 2 => ps.map pow36
    | _ => ps.map logp36
  ({ type := outType f.cfg.format, srcKind := 2, srcIndex := c, hdrExt := 255, tick := f.label
     flags := spectrumFlags (f.samples.any Samp.ovl) afterGap false, payload := payload },
   if f.cfg.format = 2 then ps.countP powUflow else 0)

/-- Units of work in transform slots: frames of N ≥ 1,024, batches of smaller ones (R94). -/
def Frm.unit (f : Frm) : Nat × Nat × Nat :=
  let i := f.label / (2 * f.d)
  (f.cfg.since, f.d, if Nat.ble 10 f.cfg.sizeLog2 then i else i / 256)

/-- The slots a context holds. -/
def Ctx.slots (x : Ctx) : Nat :=
  ((x.items.filterMap fun i => match i with
    | .frame f => if f.dispatched then some f.unit else none
    | .gap .. => none).eraseDups).length

/-- XFM_SLOTS_INFLIGHT and XFM_SLOTS_PEAK follow the slots in use (R95, R99). -/
def State.showSlots (s : State) : State :=
  let n := s.ctxs.foldl (fun n x => n + x.slots) 0
  (s.wr Obj.XFM_SLOTS_INFLIGHT n).peak Obj.XFM_SLOTS_PEAK n

/-- FRAME_RELEASE (R89, R95): the oldest frame of the context, dispatched and complete, reaches all its consumers: the
direct output, the detectors, the column reducer and the trigger sources. -/
def execFrameRelease (c : Nat) (s : State) : Host.Outcome State Fault Refusal :=
  done s <|
    let s := s.flushGaps c
    match (s.ctx c).items with
    | .frame f :: rest =>
      if !f.dispatched || !s.olderFormed c f.label then s
      else
        let s := s.updCtx c fun x => { x with items := rest }
        let g := f.cfg
        let s := if g.format != 0 && f.number % g.every == 0 then
            let (r, low) := f.direct c (s.ctx c).afterGap
            ((s.enterAll ((s.sourceFlows 2 c).filter fun q => !(s.flow q).shed) r).countN (Obj.XFM_POW_UFLOW c) low).updCtx c fun x => { x with afterGap := false }
          else s
        let v : FrameView := ⟨f.label, s.nextStart c g f.label, g.n, f.samples.any Samp.ovl, g.enbw, f.bin⟩
        let s := s.detFrame c v
        let ints := (((s.det c).cfgOf f.label).map DetCfg.ints).getD []
        let bp (j : Nat) : Option Nat := (ints.find? fun e => e.1 == j).map fun e =>
            let sum := (List.range (e.2.2 - e.2.1 + 1).toNat).foldl (fun n (k : Nat) => n + binPower (f.bin (e.2.1 + k))) 0
            (roundConv ((sum : Int) * 65536) g.enbw).toNat
        let s := s.frameInputs c f.label g.n g.hop f.d (fun b => binPower (f.bin b)) bp
        let s := s.wr (Obj.XFM_FRAME_COUNT c) (s.rd (Obj.XFM_FRAME_COUNT c) + 1)
        let s := if s.rdB (Obj.XFM_ENABLE c) && (at' s.tuners g.source).withheld.isEmpty then s.wr (Obj.XFM_STATE c) 2 else s
        (s.flushGaps c).showSlots
    | _ => s

/-! ## Slots (R93 to R95) -/

/-- A batch is whole: no frame of its context can still join it (R94). -/
def State.unitWhole (s : State) (c : Nat) (f : Frm) : Bool :=
  if Nat.ble 10 f.cfg.sizeLog2 then true
  else
    let x := s.ctx c
    let mine := x.items.filterMap fun i => match i with
      | .frame g => if g.unit == f.unit then some g.label else none
      | .gap .. => none
    let last := mine.foldl max f.label
    let next := last + 2 * f.d * f.cfg.hop
    (x.items.any fun i => Nat.blt last i.at_) || Nat.blt (f.unit.2.2 * 256 + 255) (next / (2 * f.d)) ||
      (match x.until_ f.cfg.since with
        | some u => Nat.ble u next
        | none => false) || !s.rdB (Obj.TUNE_ENABLE f.cfg.source)

/-- A transform slot is free for the context: four of the 512 are reserved to each of the 32 contexts (R14, R15). -/
def State.slotFree (s : State) (c : Nat) : Bool :=
  let u := (s.ctx c).slots
  let shared := s.ctxs.foldl (fun n x => n + (x.slots - 4)) 0
  Nat.blt u 4 || Nat.blt shared 384

/-- The context's oldest unit that waits asks for a shared slot, having its four: the place of its request. -/
def State.asksShared (s : State) (c : Nat) : Option Nat :=
  match (s.ctx c).waiting with
  | none => none
  | some f => if Nat.ble 4 (s.ctx c).slots && s.unitWhole c f then some f.req else none

/-- Shared slots are granted in order of request (R15). -/
def State.slotTurn (s : State) (c : Nat) : Bool :=
  match s.asksShared c with
  | none => true
  | some r => (List.range 32).all fun d => (s.asksShared d).all fun q => Nat.ble r q

/-- FRAME_DISPATCH (R94): the oldest unit of the context that waits takes a slot. -/
def execFrameDispatch (c : Nat) (s : State) : Host.Outcome State Fault Refusal :=
  done s <|
    match (s.ctx c).waiting with
    | none => s
    | some f =>
      if !s.slotFree c || !s.slotTurn c || !s.unitWhole c f then s
      else
        let s := s.endStagingRun c
        (s.updCtx c fun x => { x with items := x.items.map fun i => match i with
          | .frame g => if g.unit == f.unit then .frame { g with dispatched := true } else .frame g
          | .gap a b l => .gap a b l }).showSlots

/-- Samples that a context's input ring holds: its pool area of 18 N bytes rounded up to 4 KiB, over 4.5 (R98). -/
def ringSamples (n : Nat) : Nat := roundUp (18 * n) 4096 * 2 / 9

/-- FRAME_STAGING_SKIP (R93): the first sample of the oldest frame without a slot is about to be overwritten. -/
def execFrameStagingSkip (c : Nat) (s : State) : Host.Outcome State Fault Refusal :=
  done s <|
    match (s.ctx c).waiting with
    | none => s
    | some f =>
      let newest := (at' s.tuners f.cfg.source).newest / (2 * f.d)
      if Nat.blt (newest + 1) (f.label / (2 * f.d) + ringSamples f.cfg.n) then s
      else
        let s := match (s.ctx c).stag with
          | some (_, b, _) => if s.nextStart c f.cfg b = f.label then s else s.endStagingRun c
          | none => s
        let s := s.updCtx c fun x =>
          { x with
            items := x.items.filter fun i => match i with
              | .frame g => !(g.label == f.label && !g.dispatched)
              | .gap .. => true
            stag := some (match x.stag with
              | none => (f.label, f.label, 1)
              | some (a, _, n) => (a, f.label, n + 1)) }
        let s := s.count (Obj.XFM_SKIP_STAGING c)
        if s.rdB (Obj.XFM_ENABLE c) || (s.ctx c).waiting.isSome then s else s.endStagingRun c

/-! ## Gaps (R92) -/

/-- Frames whose spans reach labels a to b, withheld by tuner t, under one configuration of a context on one piece of
the grid (labels lo to below hi, decimation d): how many start above `from_`, and the first and last start of them
all. -/
def CtxCfg.skips (g : CtxCfg) (from_ : Option Nat) (lo : Nat) (hi : Option Nat) (d a b : Nat) : Nat × Option (Nat × Nat) :=
  let x := max (max lo g.since) (a - (g.n - 1) * 2 * d)
  let y := match hi with
    | some h => min b (h - 1)
    | none => b
  let (n, last) := g.startsIn d x y
  let z := match from_ with
    | some k => max x (k + 1)
    | none => x
  if n = 0 then (0, none) else ((g.startsIn d z y).1, some (g.firstStart d x, last))

/-- The pieces of a tuner's grid, newest first: first label, first label of the next, decimation. -/
def gridPieces (startAt : Nat) : Option Nat → List TunCfg → List (Nat × Option Nat × Nat)
  | _, [] => []
  | hi, c :: l => (max startAt c.j, hi, c.d) :: gridPieces startAt (some c.j) l

/-- Join two spans of start labels. -/
def spanJoin (a b : Option (Nat × Nat)) : Option (Nat × Nat) :=
  match a, b with
  | some (x, y), some (u, v) => some (min x u, max y v)
  | some p, none => some p
  | none, q => q

/-- Frames of a context skipped over the withheld labels a to b of tuner t: how many not yet counted, and their span. -/
def State.skipsOf (s : State) (c t a b : Nat) : Nat × Option (Nat × Nat) :=
  let x := s.ctx c
  let tu := at' s.tuners t
  x.cfgs.foldl (fun acc g =>
    if !g.on || g.source != t then acc
    else
      (gridPieces tu.startAt none tu.cfgs).foldl (fun acc p =>
        let hi := match x.until_ g.since, p.2.1 with
          | some u, some h => some (min u h)
          | some u, none => some u
          | none, h => h
        let (n, sp) := g.skips x.skipTo p.1 hi p.2.2 a b
        (acc.1 + n, spanJoin acc.2 sp)) acc) (0, none)

/-- Tuner t has withheld labels a to b; the frames that reach them are skipped and counted, those that reach the labels
`conv` as skipped for a converter interval, and the records that explain the gap wait for their place (R92). DESIGN CHOICE: a frame that
reaches a retune kerf and a converter interval counts as skipped for the interval alone (log entry 64). -/
def State.contextGap (s : State) (t a b : Nat) (conv : Option (Nat × Nat)) (recs : List Record) : State :=
  (List.range 32).foldl (fun s c =>
    let s := s.contextUpTo c b
    if (s.ctx c).shed then s
    else
      match s.skipsOf c t a b with
      | (_, none) => s
      | (n, some (first, last)) =>
        let nc := match conv with
          | some (u, v) => (s.skipsOf c t u v).1
          | none => 0
        let s := (s.countN (Obj.XFM_SKIP_CONV c) nc).countN (Obj.XFM_SKIP_KERF c) (n - nc)
        let s := s.updCtx c fun x =>
          { x with skipTo := some (max last (x.skipTo.getD 0)), items := itemPut (.gap first last recs) x.items }
        let s := if s.rdB (Obj.XFM_ENABLE c) then s.wr (Obj.XFM_STATE c) 3 else s
        s.flushGaps c) s

/-- A context is shed (class 6): it computes no more frames (R25, R93). -/
def State.shedContext (s : State) (c : Nat) : State :=
  let s := s.endStagingRun c
  let s := s.updCtx c fun x => { x with shed := true, items := [] }
  (s.wr (Obj.XFM_STATE c) 4).showSlots

/-- A shed context is restored: its next frame is the first whose samples all come after. -/
def State.restoreContext (s : State) (c : Nat) : State :=
  let s := s.updCtx c fun x => { x with shed := false, afterGap := true }
  if s.rdB (Obj.XFM_ENABLE c) then s.wr (Obj.XFM_STATE c) 1 else s

end Sys2Proof.Machine
end

