-- ==== Sys2Proof/Machine/Tuners.lean ====
section
/-! DEFINITION. Tuners (chapter 3): the split of the decimation, group delay and labels, kerfs and their merging, the
release of samples, and the tuner boundary of a Joint. -/

namespace Sys2Proof.Machine

/-- A tuner's record. -/
def State.tuner (s : State) (t : Nat) : Tuner := at' s.tuners t

/-- Change a tuner's record. -/
def State.updTuner (s : State) (t : Nat) (f : Tuner → Tuner) : State := { s with tuners := s.tuners.modify t f }

/-- A channel's record. -/
def State.chan (s : State) (ch : Nat) : Chan := at' s.chans ch

/-- Change a channel's record. -/
def State.updChan (s : State) (ch : Nat) (f : Chan → Chan) : State := { s with chans := s.chans.modify ch f }

/-! ## The split and its delays (R61, R64, R67, Tables 3.3 and 3.5) -/

/-- The CIC term of the group delay. -/
def cicDelay (d : Nat) : Nat := 5 * ((splitOf d).2.2 - 1)

/-- The FIR or compensator term. -/
def firDelay (d : Nat) : Nat := if d = 1 then 0 else 40 * d

/-- h, the settling half-span. -/
def kerfHalf (d : Nat) : Nat := cicDelay d + firDelay d

/-- Δ, the group delay. -/
def groupDelay (d : Nat) : Nat := 47 + kerfHalf d

/-- Alias protection at the band edge (Table 3.3). -/
def protectOf (d : Nat) : Nat :=
  match splitOf d with
  | (3, _, _) => 17
  | (2, df, _) => if df = 2 then 60 else if df = 3 then 81 else if df = 4 then 95 else 100
  | _ => 100

/-- The read-only values of Table 3.7 that follow the D in force. -/
def State.showSplit (s : State) (t : Nat) : State :=
  let d := s.rd (Obj.TUNE_DECIM t)
  let m := splitOf d
  s.wrAll [(Obj.TUNE_MODE t, m.1), (Obj.TUNE_DF t, m.2.1), (Obj.TUNE_DC t, m.2.2), (Obj.TUNE_PROTECT t, protectOf d),
    (Obj.TUNE_DELAY t, groupDelay d), (Obj.TUNE_DELAY_HB t, 47), (Obj.TUNE_DELAY_CIC t, cicDelay d),
    (Obj.TUNE_DELAY_FIR t, firDelay d), (Obj.TUNE_KERF_HALF t, kerfHalf d)]

/-! ## Labels -/

/-- The configuration whose grid a label belongs to: the latest whose J is at or below it (R63, R68). -/
def Tuner.cfgAt (x : Tuner) (label : Nat) : TunCfg :=
  match x.cfgs.find? fun g => Nat.ble g.j label with
  | some g => g
  | none => x.cfgs.getLast?.getD {}

/-- The first J above p. -/
def Tuner.nextJ (x : Tuner) (p : Nat) : Option Nat := ((x.cfgs.filter fun g => Nat.blt p g.j).getLast?).map TunCfg.j

/-- The first label at or above p that is on its grid and not withheld. -/
def Tuner.search (x : Tuner) : Nat → Nat → Option Nat
  | 0, _ => none
  | fuel + 1, p =>
    let q := roundUp p (2 * (x.cfgAt p).d)
    let past := match x.nextJ p with
      | some j => if Nat.ble j q then some j else none
      | none => none
    match past with
    | some j => x.search fuel j
    | none => match x.withheld.find? fun w => Nat.ble w.first q && Nat.ble q w.last with
      | some w => x.search fuel (w.last + 1)
      | none => some q

/-- The next label the tuner delivers, none once it has stopped. -/
def Tuner.nextLabel (x : Tuner) : Option Nat :=
  if !x.on then none
  else match x.search (2 * x.cfgs.length + 2 * x.withheld.length + 2) (max x.at_ x.startAt) with
    | none => none
    | some q => match x.stopAt with
      | some j => if Nat.blt q j then some q else none
      | none => some q

/-! ## Kerfs (R70, R71) -/

/-- Withheld spans in ascending order of their first tick. -/
def withheldIns (w : Withheld) : List Withheld → List Withheld
  | [] => [w]
  | x :: l => if Nat.blt w.first x.first then w :: x :: l else x :: withheldIns w l

/-- The contiguous regions that sorted spans cover, merging those that overlap or touch. -/
def regionsOf : List (Nat × Nat) → List (Nat × Nat)
  | [] => []
  | (a, b) :: l =>
    match regionsOf l with
    | (u, v) :: r => if Nat.ble u (b + 1) then (a, max b v) :: r else (a, b) :: (u, v) :: r
    | [] => [(a, b)]

/-- What is left of a span when named intervals (sorted) are taken out. -/
def spanMinus : Nat → Nat → List (Nat × Nat) → List (Nat × Nat)
  | a, b, [] => if Nat.ble a b then [(a, b)] else []
  | a, b, (u, v) :: l =>
    if Nat.blt v a || Nat.blt b u then spanMinus a b l
    else (if Nat.blt a u then [(a, u - 1)] else []) ++ spanMinus (v + 1) b l

/-- The kerf record of one piece of tuner t's withheld labels: its cause, J and the decimation before and after. -/
def Tuner.kerfOf (x : Tuner) (t : Nat) (ws : List Withheld) (p : Nat × Nat) : Record :=
  let js := (ws.filter fun w => Nat.ble w.first p.2 && Nat.ble p.1 w.last).filterMap Withheld.joint
  kerfRecord t p.1 p.2 (js.foldl max 0) (if js.isEmpty then 1 else 0) (x.cfgAt (p.1 - 1)).d (x.cfgAt (p.2 + 1)).d

/-- One region of withheld labels is over: its kerf records go to the rings and flows of the tuner, the magnitude
sources and the contexts learn of the gap (R71, R92, R129). -/
def State.closeRegion (s : State) (t : Nat) (ws : List Withheld) (r : Nat × Nat) : State :=
  let x := s.tuner t
  let mine := ws.filter fun w => Nat.ble r.1 w.first && Nat.ble w.last r.2
  let named := mine.filterMap fun w => w.named.map fun _ => (w.first, w.last)
  let pieces := spanMinus r.1 r.2 named
  let kerfs := pieces.map fun p => x.kerfOf t (mine.filter fun w => w.named.isNone) p
  let s := kerfs.foldl (fun (s : State) (k : Record) => s.tellTuner t r.2 k) s
  let s := match pieces.getLast? with
    | some p => ((s.wr (Obj.TUNE_LAST_KERF_FIRST t) p.1).wr (Obj.TUNE_LAST_KERF_LAST t) p.2).countN
        (Obj.TUNE_KERF_COUNT t) pieces.length
    | none => s
  let conv := (mine.filter fun w => w.joint.isNone).foldl (fun acc w => spanJoin acc (some (w.first, w.last))) none
  (s.magnitudeGap t r.1 r.2).contextGap t r.1 r.2 conv (mine.filterMap Withheld.named ++ kerfs)

/-- Close every region of withheld labels that lies below the next delivered label. -/
def State.closeGaps (s : State) (t label : Nat) : State :=
  let ws := ((s.tuner t).withheld.filter fun w => Nat.blt w.last label).foldr withheldIns []
  if ws.isEmpty then s
  else
    let s := (regionsOf (ws.map fun w => (w.first, w.last))).foldl (fun s r => s.closeRegion t ws r) s
    s.updTuner t fun x => { x with withheld := x.withheld.filter fun w => !Nat.blt w.last label, run := [] }

/-- Withhold labels first to last of a tuner: the contexts that run on it are in a gap (R99). -/
def State.withholdLabels (s : State) (t first last : Nat) (joint : Option Nat) (named : Option Record) : State :=
  if Nat.blt last first then s
  else
    let s := s.updTuner t fun x => { x with withheld := withheldIns ⟨first, last, joint, named⟩ x.withheld }
    s.wrAll (((List.range 32).filter fun c => s.rd (Obj.XFM_SOURCE c) == t && s.rd (Obj.XFM_STATE c) == 2).map fun c => (Obj.XFM_STATE c, 3))

/-! ## Joints (R68, R72) -/

/-- The configuration in force from J on. -/
def State.tunCfg (s : State) (t j : Nat) : TunCfg :=
  { j := j, freq := s.rd (Obj.TUNE_FREQ t), phase := s.rd (Obj.TUNE_PHASE t), d := s.rd (Obj.TUNE_DECIM t) }

/-- A change that keeps TUNE_ENABLE: on a running tuner a kerf from J − h_old to J + h_new − 1 (R68). DESIGN CHOICE: TUNE_STATE
reads 1 from the Joint's application until the first label after the kerf is released, and the kerf's objects change at that release
(log entry 59). -/
def State.tunerRetune (s : State) (t : Nat) : State :=
  let g := s.tunCfg t 0
  s.joint 1 ⟨.tuner, t⟩ (fun _ _ s => s) fun _ j s =>
    let n := s.tunCfg t j
    let s := (s.showSplit t).wr (Obj.TUNE_LAST_JOINT t) j
    if !s.rdB (Obj.TUNE_ENABLE t) || (g.freq == n.freq && g.phase == n.phase && g.d == n.d) then s
    else
      let s := s.updTuner t fun x => { x with cfgs := n :: recent TunCfg.j s.settled x.cfgs }
      let first := j - kerfHalf g.d
      if kerfHalf g.d + kerfHalf n.d = 0 then s
      else (s.withholdLabels t first (j + kerfHalf n.d - 1) (some j) none).wr (Obj.TUNE_STATE t)
        (if s.rd (Obj.TUNE_STATE t) = 2 then 1 else s.rd (Obj.TUNE_STATE t))

/-- What TUNE_STATE reads of a tuner in a state: 4 while its channel is fenced (R75). -/
def State.tuneState (s : State) (t v : Nat) : Nat := if s.rd (Obj.CONV_STATE (tunerChannel t)) = 5 then 4 else v

/-- A change of TUNE_ENABLE (R72). DESIGN CHOICE: a kerf that is still open when the output ends has no sample after it to stand ahead
of, and is not recorded (log entry 59). A tuner that is still completing the labels of its last run enables once it has. -/
def State.tunerSwitch (s : State) (t : Nat) : State :=
  if s.rdB (Obj.TUNE_ENABLE t) then
    s.joint 1 ⟨.tuner, t⟩ (fun _ _ s => s) fun _ j s =>
      ((s.updTuner t fun x => { x with stopAt := some (min j (x.stopAt.getD j)) }).showSplit t).wrAll
        [(Obj.TUNE_LAST_JOINT t, j), (Obj.TUNE_STATE t, s.tuneState t 0)]
  else if (s.tuner t).on then s
  else
    s.joint 1 ⟨.tuner, t⟩ (fun _ _ s => s) fun _ j s =>
      let g := s.tunCfg t j
      let first := roundUp (max (j + kerfHalf g.d) ((s.chan (tunerChannel t)).firstAt + groupDelay g.d)) (2 * g.d)
      ((s.updTuner t fun x =>
          { cfgs := [{ g with j := 0 }], on := true, startAt := first, at_ := first, newest := x.newest, ringD := x.ringD }).showSplit t).wrAll
        [(Obj.TUNE_LAST_JOINT t, j), (Obj.TUNE_STATE t, s.tuneState t 2)]

/-- The tuner's due change alters TUNE_ENABLE. -/
def State.tunerSwitches (s : State) (t : Nat) : Bool :=
  match s.due 1 ⟨.tuner, t⟩ with
  | some (w, _) => w.changes s (Obj.TUNE_ENABLE t)
  | none => false

/-- TUNER_JOINT (R68): a change that leaves TUNE_ENABLE as it is. -/
def execTunerJoint (t : Nat) (s : State) : Host.Outcome State Fault Refusal :=
  done s (if s.tunerSwitches t then s else s.tunerRetune t)

/-- TUNER_ENABLE_JOINT (R72): a change of TUNE_ENABLE. -/
def execTunerEnableJoint (t : Nat) (s : State) : Host.Outcome State Fault Refusal :=
  done s (if s.tunerSwitches t then s.tunerSwitch t else s)

/-- Every change of the tuner that is due applies before its labels are looked at. -/
def State.tunerUpTo (s : State) (t : Nat) : State :=
  if s.tunerSwitches t then s.tunerSwitch t else s.tunerRetune t

/-! ## Release of samples (R63, R65, R66) -/

/-- The converter code of a tick: its block recovers the full tick index from its SEQ (R11). -/
def Chan.code (x : Chan) (t : Nat) : Int :=
  match x.hist.find? fun b => b.no x.nextBlock == t / 64 with
  | some b => b.code (t % 64)
  | none => 0

/-- A block that a span of ticks touches carries status bit 0. -/
def Chan.overloaded (x : Chan) (a b : Nat) : Bool :=
  x.hist.any fun k => Nat.ble (a / 64) (k.no x.nextBlock) && Nat.ble (k.no x.nextBlock) (b / 64) && bitOf k.status 0

/-- The history ring of a tuner follows the grid of its samples: on a change of D the samples that wait are cut into the
flows they feed, and the ring restarts empty from the first new label (R182). -/
def State.ringGrid (s : State) (t label d : Nat) : State :=
  let r := s.ring t
  if !s.rdB (Obj.RSV_HIST_ENABLE t) || r.step = 2 * d then s
  else if r.step = 0 then s.updRing t fun r => { r with step := 2 * d }
  else
    let s := s.finishLine t
    let s := (s.ring t).buf.foldl (fun (s : State) (l : Line) => if l.flag = 2 then s else s.feedLine t l) s
    let s := (s.sourceFlows 1 t).foldl (fun s f => s.updFlow f fun x => x.endCut s.wall t r.step false false) s
    let s := s.discardRing t
    let s := s.updRing t fun r => { r with step := 2 * d, startAt := label }
    s.wr (Obj.RSV_HIST_SPAN t) (s.ringSpan t)

/-- Saturation of a component to 18 bits. -/
def saturate (i : Int) : Int := clampI (-131072) 131071 i

/-- The sample of a label: the word, and whether each component saturates. -/
def State.tunerSample (s : State) (t label : Nat) (g : TunCfg) : Nat × Nat :=
  let v := tunerOutput (s.chan (tunerChannel t)).code g.freq g.phase g.d label
  (cplx36 (saturate v.1) (saturate v.2), b2n (saturate v.1 != v.1) + b2n (saturate v.2 != v.2))

/-- TUNER_SAMPLE_RELEASE (R63): the next label's sample is delivered to its ring, its contexts and its sources once tick
t + Δ has entered the converter queue. -/
def execTunerSampleRelease (t : Nat) (s : State) : Host.Outcome State Fault Refusal :=
  done s <|
    let s := s.tunerUpTo t
    let ch := s.chan (tunerChannel t)
    match (s.tuner t).nextLabel with
    | none => match (s.tuner t).stopAt with
      | none => s
      | some _ => s.updTuner t fun x => { x with on := false, stopAt := none }
    | some l =>
      let g := (s.tuner t).cfgAt l
      if Nat.ble ch.entered (l + groupDelay g.d) then s
      else
        let s := (s.ringGrid t l g.d).closeGaps t l
        let (w, sat) := s.tunerSample t l g
        let v : Samp := ⟨w, sat != 0 || ch.overloaded (l - groupDelay g.d) (l + groupDelay g.d)⟩
        let x := s.tuner t
        let joined := !x.run.isEmpty && x.newest + 2 * g.d == l
        let s := s.updTuner t fun x =>
          { x with at_ := l + 1, newest := l, ringD := g.d
                   run := if joined then (v :: x.run).take (2 ^ 20) else [v] }
        let s := s.countN (Obj.TUNE_SAT_COUNT t) sat
        let s := if s.rdB (Obj.TUNE_ENABLE t) && s.rd (Obj.TUNE_STATE t) != 4 then
            s.wr (Obj.TUNE_STATE t) (if (s.tuner t).withheld.isEmpty then 2 else s.rd (Obj.TUNE_STATE t)) else s
        ((s.ringPut t (l / (2 * g.d)) v).magnitudeInputs t l g.d w).formFrames t l g.d

end Sys2Proof.Machine
end

