-- ==== Sys2Proof/Machine/Capacity.lean ====
section
/-! DEFINITION. Declared loads (R19 to R21, Table 1.5, R96, R113, R143, R150, R169, R250, R255, R286), as functions of a
configuration `get`, and the objects that report them (R29). -/

namespace Sys2Proof.Machine

/-- An exact non-negative rate. -/
structure Frac where
  num : Nat
  den : Nat
  deriving DecidableEq, Repr, Inhabited

/-- Sum of two rates. -/
def Frac.add (a b : Frac) : Frac := ⟨a.num * b.den + b.num * a.den, a.den * b.den⟩

/-- A rate times n / d. -/
def Frac.scale (a : Frac) (n d : Nat) : Frac := ⟨a.num * n, a.den * d⟩

/-- The next whole unit (R21). -/
def Frac.ceil (a : Frac) : Nat := ceilDiv a.num a.den

/-- Zero. -/
def Frac.zero : Frac := ⟨0, 1⟩

/-- One load of one item: resource (1 contexts, 2 pool, 3 butterflies, 4 cells, 5 Reservoir, 6 port, 8 frames; 9 the
receive side of a port), port, the object that stands for the item, amount rounded up (R21). -/
structure LoadItem where
  res : Nat
  port : Nat := 0
  key : Nat
  amount : Nat
  deriving DecidableEq, Repr, Inhabited

/-! ## Contexts -/

/-- Butterflies of an enabled context: (N / H) × (log2 N) / 2 × r (R20, R96). -/
def ctxLoad (get : Nat → Nat) (c : Nat) : Nat :=
  let l := get (Obj.XFM_SIZE_LOG2 c)
  ceilDiv (2 ^ l * l * 16000000000) (2 * get (Obj.XFM_HOP c) * get (Obj.TUNE_DECIM (get (Obj.XFM_SOURCE c))))

/-- Pool area of an enabled context: 18 N bytes, rounded up to 4 KiB (R98). -/
def ctxPool (get : Nat → Nat) (c : Nat) : Nat := roundUp (18 * 2 ^ get (Obj.XFM_SIZE_LOG2 c)) 4096

/-- Enabled contexts. -/
def ctxsOn (get : Nat → Nat) : List Nat := (List.range 32).filter fun c => get (Obj.XFM_ENABLE c) == 1

/-! ## Detector products and planes -/

/-- Bins of a context's detector range. -/
def detBins (get : Nat → Nat) (c : Nat) : Nat :=
  let b := get (Obj.DET_BIN_COUNT c)
  if b = 0 then 2 ^ get (Obj.XFM_SIZE_LOG2 c) else b

/-- Integrators that name a context. -/
def detInts (get : Nat → Nat) (c : Nat) : List Nat := (List.range 64).filter fun i => get (Obj.DET_BP_CONTEXT i) == c

/-- The product is enabled (R100). -/
def productOn (get : Nat → Nat) (c q : Nat) : Bool :=
  match q with
  | 0 => get (Obj.DET_AVG_MODE c) != 0
  | 1 => get (Obj.DET_HOLD_MODE c) == 1 || get (Obj.DET_HOLD_MODE c) == 3
  | 2 => get (Obj.DET_HOLD_MODE c) == 2 || get (Obj.DET_HOLD_MODE c) == 3
  | 3 => !(detInts get c).isEmpty
  | 4 => get (Obj.DET_PK_K c) != 0
  | 5 => get (Obj.DET_SG_MODE c) != 0
  | 6 => get (Obj.DET_COL_MODE c) != 0
  | _ => false

/-- Words of detector store that an enabled product holds (Table 5.2). -/
def productStore (get : Nat → Nat) (c q : Nat) : Nat :=
  if !productOn get c q then 0
  else match q with
    | 0 => (if get (Obj.DET_AVG_MODE c) = 4 then 2 else 1) * detBins get c
    | 1 => detBins get c
    | 2 => detBins get c
    | 3 => (detInts get c).length
    | 5 => get (Obj.DET_SG_POINTS c)
    | 6 => get (Obj.DET_COL_COUNT c)
    | _ => 0

/-- Words of the largest record of a product (Table 5.1). -/
def productWords (get : Nat → Nat) (c q : Nat) : Nat :=
  match q with
  | 0 => (if get (Obj.DET_AVG_MODE c) = 4 then 5 else 4) + detBins get c
  | 1 => 4 + detBins get c
  | 2 => 4 + detBins get c
  | 3 => 4 + (detInts get c).length
  | 4 => 4 + 2 * get (Obj.DET_PK_K c)
  | 5 => 4 + get (Obj.DET_SG_POINTS c)
  | _ => 4 + get (Obj.DET_COL_COUNT c)

/-- Column sets per second S of a block (R108). -/
def colRate (get : Nat → Nat) (c : Nat) : Frac :=
  let p := get (Obj.DET_COL_PERIOD c)
  if p = 0 then ⟨16000000000, get (Obj.TUNE_DECIM (get (Obj.XFM_SOURCE c))) * get (Obj.XFM_HOP c)⟩ else ⟨32000000000, p⟩

/-- The block that names a plane: the context must be enabled and its columns on. -/
def planeFeeder (get : Nat → Nat) (p : Nat) : Option Nat :=
  (ctxsOn get).find? fun c => get (Obj.DET_COL_MODE c) != 0 && get (Obj.DET_COL_PLANE c) == p

/-- Cell updates per second of an enabled plane: C × (1 + F) × S (R169). -/
def planeLoad (get : Nat → Nat) (p : Nat) : Nat :=
  if get (Obj.CRYS_ENABLE p) != 1 then 0
  else match planeFeeder get p with
    | none => 0
    | some c => ((colRate get c).scale (get (Obj.CRYS_COLS p) * (1 + get (Obj.CRYS_FILL p))) 1).ceil

/-- Words of one Harvest's records (R167). -/
def harvestWords (get : Nat → Nat) (p : Nat) : Nat :=
  let c := get (Obj.CRYS_COLS p)
  get (Obj.CRYS_ROWS p) * (6 + if get (Obj.CRYS_HARV_FORMAT p) = 0 then ceilDiv (2 * c) 3 else ceilDiv c 3)

/-! ## Flows (R250, R255) -/

/-- Half octets per word of a width: 9 in PACKED36, 16 in EXPANDED64, 8 in OCTET32 (Table 9.3). -/
def halfOctets (width : Nat) : Nat := if width = 1 then 9 else if width = 4 then 8 else 16

/-- Octets per beat. -/
def beatOctets (width : Nat) : Nat := 4 * halfOctets width

/-- Mark records per second of an origin, 0 to 15 sequencers and 16 to 19 groups; a disabled origin counts none (R143,
R144). -/
def originBudget (get : Nat → Nat) (o : Nat) : Nat :=
  if o < 16 then (if get (Obj.TRIG_SEQ_ENABLE o) = 1 then get (Obj.TRIG_SEQ_MARK_BUDGET o) else 0)
  else if get (Obj.TRIG_GRP_ENABLE (o - 16)) = 1 then get (Obj.TRIG_GRP_MARK_BUDGET (o - 16)) else 0

/-- TUNERS mask of an origin. -/
def originTuners (get : Nat → Nat) (o : Nat) : Nat :=
  if o < 16 then get (Obj.TRIG_SEQ_TUNERS o) else get (Obj.TRIG_GRP_TUNERS (o - 16))

/-- Marks per second that a tuner carries. -/
def tunerMarks (get : Nat → Nat) (t : Nat) : Nat :=
  (List.range 20).foldl (fun n o => if bitOf (originTuners get o) t then n + originBudget get o else n) 0

/-- The tuner that feeds a flow, where marks enter it (R142). -/
def flowFeed (get : Nat → Nat) (f : Nat) : Option Nat :=
  let i := get (Obj.FLOW_SRC_INDEX f)
  match get (Obj.FLOW_SRC f) with
  | 1 => if i < 16 then some i else none
  | 2 => some (get (Obj.XFM_SOURCE i))
  | 3 => some (get (Obj.XFM_SOURCE i))
  | 4 => (planeFeeder get i).map fun c => get (Obj.XFM_SOURCE c)
  | _ => none

/-- Octets per second of what a flow's source gives (Table 11.4). -/
def sourceRate (get : Nat → Nat) (f : Nat) : Frac :=
  let i := get (Obj.FLOW_SRC_INDEX f)
  let b := halfOctets (get (Obj.FLOW_WIDTH f))
  match get (Obj.FLOW_SRC f) with
  | 1 =>
    let r := get (Obj.FLOW_RECLEN f)
    if i < 16 then ⟨16000000000 * (r + 4) * b, 2 * r * get (Obj.TUNE_DECIM i)⟩ else ⟨32000000000 * (r + 4) * b, 6 * r⟩
  | 2 =>
    let n := get (Obj.XFM_BIN_COUNT i)
    let bins := if n = 0 then 2 ^ get (Obj.XFM_SIZE_LOG2 i) else n
    let fmt := get (Obj.XFM_OUT_FORMAT i)
    let words := if fmt = 0 then 0 else (if fmt = 1 then 5 else 4) + bins
    ⟨words * 16000000000 * b, 2 * get (Obj.TUNE_DECIM (get (Obj.XFM_SOURCE i))) * get (Obj.XFM_HOP i) * get (Obj.XFM_OUT_EVERY i)⟩
  | 3 =>
    let q := get (Obj.FLOW_SRC_PRODUCT f)
    let w := productWords get i q
    if q = 6 then (colRate get i).scale (w * b) 2 else ⟨w * 32000000000 * b, 2 * get (Obj.DET_PERIOD i)⟩
  | 4 =>
    let p := get (Obj.CRYS_HARV_PERIOD i)
    if p = 0 then Frac.zero else ⟨harvestWords get i * 32000000000 * b, 2 * p⟩
  | 5 => ⟨8 * originBudget get i * b, 2⟩
  | 6 =>
    let l := get (Obj.TRIG_CAP_LEN i)
    ⟨(l + 12) * b * 16000000000, 2 * l * get (Obj.TUNE_DECIM (get (Obj.TRIG_CAP_TUNER i)))⟩
  | 7 => ⟨get (Obj.RSV_RPL_RATE i), 1⟩
  | 8 => ⟨get (Obj.FLOW_RATE f), 1⟩
  | _ => Frac.zero

/-- f of a flow: its source's rate and the marks that enter it; a receive flow's declared rate (R143, R250, R264). -/
def flowRate (get : Nat → Nat) (f : Nat) : Frac :=
  if get (Obj.FLOW_DIR f) = 1 then ⟨get (Obj.FLOW_RATE f), 1⟩
  else
    let marks := match flowFeed get f with
      | some t => tunerMarks get t
      | none => 0
    (sourceRate get f).add ⟨8 * marks * halfOctets (get (Obj.FLOW_WIDTH f)), 2⟩

/-- The destination is an IPv4-mapped address (R242). -/
def flowIp4 (get : Nat → Nat) (f : Nat) : Bool := get (Obj.FLOW_DEST_IP f) / 2 ^ 32 == 0xFFFF

/-- Per-frame overhead O on a port (Table 1.6); `tagged` says which ports tag their frames. -/
def frameOverhead (get : Nat → Nat) (tagged : Nat → Bool) (f p : Nat) : Nat :=
  (if flowIp4 get f then 134 else 154) - (if tagged p then 0 else 4)

/-- A port tags its frames (R242). -/
def State.tagged (s : State) (p : Nat) : Bool := s.rdB (Obj.PORT_VLAN_EN p)

/-- Payload octets of a full frame. -/
def framePayload (get : Nat → Nat) (f : Nat) : Nat := get (Obj.FLOW_BEATS f) * beatOctets (get (Obj.FLOW_WIDTH f))

/-- The members of a flow's port set, ascending (R253). -/
def flowPorts (get : Nat → Nat) (f : Nat) : List Nat := bitList (get (Obj.FLOW_PORTS f)) 28

/-- A flow's wire rate on one of its ports: f × 8 × (P + O) / P, divided equally (R20). -/
def wireOn (get : Nat → Nat) (tagged : Nat → Bool) (f p : Nat) : Frac :=
  let pl := framePayload get f
  (flowRate get f).scale (8 * (pl + frameOverhead get tagged f p)) (pl * (flowPorts get f).length)

/-- The loads of an enabled flow. -/
def flowItems (get : Nat → Nat) (tagged : Nat → Bool) (f : Nat) : List LoadItem :=
  let k := Obj.FLOW_ENABLE f
  let rate := flowRate get f
  let pl := framePayload get f
  let ps := flowPorts get f
  if get (Obj.FLOW_DIR f) = 1 then ps.map fun p => { res := 9, port := p, key := k, amount := (wireOn get tagged f p).ceil }
  else
    ({ res := 5, key := k, amount := (rate.scale 105 100).ceil } : LoadItem) ::
      ps.map (fun p => { res := 6, port := p, key := k, amount := (wireOn get tagged f p).ceil }) ++
      ps.map fun p =>
        { res := 8, port := p, key := k
          amount := (((rate.scale 1 pl).add ⟨1000000, get (Obj.FLOW_FLUSH f)⟩).scale 1 ps.length).ceil }

/-! ## Rings and layers -/

/-- Reservoir load of an enabled history ring, with its side area (R20, R143). DESIGN CHOICE: the two are one item, rounded up once, where
R21 says "each" rate (log entry 65). -/
def ringItem (get : Nat → Nat) (h : Nat) : LoadItem :=
  let rate : Frac := if h < 16 then
      Frac.add ⟨72000000000, get (Obj.TUNE_DECIM h)⟩ ⟨378 * tunerMarks get h, 10⟩
    else ⟨48000000000, 1⟩
  { res := 5, key := Obj.RSV_HIST_ENABLE h, amount := rate.ceil }

/-- Frames per second of the scan-out (R270, R271). -/
def frameRate (get : Nat → Nat) : Frac :=
  if get Obj.SCAN_MODE = 1 then ⟨get Obj.SCAN_RATE_MAX, 1000⟩
  else ⟨get Obj.SCAN_PIXEL_HZ,
    (get Obj.SCAN_HACTIVE + get Obj.SCAN_HFP + get Obj.SCAN_HSYNC + get Obj.SCAN_HBP) *
      (get Obj.SCAN_VACTIVE + get Obj.SCAN_VFP + get Obj.SCAN_VSYNC + get Obj.SCAN_VBP)⟩

/-- Reservoir load of an enabled layer: twice for the density layer, none for traces (R286). -/
def layerItems (get : Nat → Nat) (l : Nat) : List LoadItem :=
  if l = 1 || get (Obj.SCAN_L_ENABLE l) != 1 then []
  else
    let bytes := get (Obj.SCAN_L_W l) * get (Obj.SCAN_L_H l) * (if get (Obj.SCAN_L_FORMAT l) = 0 then 4 else 1)
    [{ res := 5, key := Obj.SCAN_L_ENABLE l, amount := ((frameRate get).scale (bytes * if l = 0 then 2 else 1) 1).ceil }]

/-! ## The whole configuration -/

/-- Every load of a configuration, in ascending index order of the objects that stand for the items. -/
def loadsOf (get : Nat → Nat) (tagged : Nat → Bool) : List LoadItem :=
  ((ctxsOn get).map fun c =>
    [{ res := 1, key := Obj.XFM_ENABLE c, amount := 1 }, { res := 2, key := Obj.XFM_ENABLE c, amount := ctxPool get c },
     ({ res := 3, key := Obj.XFM_ENABLE c, amount := ctxLoad get c } : LoadItem)]).flatten ++
  ((List.range 8).filter fun p => get (Obj.CRYS_ENABLE p) == 1).map
    (fun p => { res := 4, key := Obj.CRYS_ENABLE p, amount := planeLoad get p }) ++
  ((List.range 20).filter fun h => get (Obj.RSV_HIST_ENABLE h) == 1).map (ringItem get) ++
  ((List.range 16).filter fun x => get (Obj.RSV_RPL_RATE x) != 0).map (fun x =>
    { res := 5, key := Obj.RSV_RPL_RATE x, amount := ceilDiv (105 * get (Obj.RSV_RPL_RATE x)) 100 }) ++
  (((List.range 249).filter fun f => get (Obj.FLOW_ENABLE f) == 1).map (flowItems get tagged)).flatten ++
  ((List.range 4).map (layerItems get)).flatten

/-- The sum of one resource on one port. -/
def loadSum (items : List LoadItem) (res port : Nat) : Nat :=
  items.foldl (fun n i => if i.res = res && i.port = port then n + i.amount else n) 0

/-- The object whose inclusion first made the sum exceed, and the excess (R22). -/
def overBy (items : List LoadItem) (res port limit : Nat) : Option (Nat × Nat) :=
  let mine := items.filter fun i => i.res == res && i.port == port
  let total := mine.foldl (fun n i => n + i.amount) 0
  if total ≤ limit then none
  else
    let hit := mine.foldl (fun (acc : Nat × Option Nat) i =>
      let n := acc.1 + i.amount
      (n, match acc.2 with
        | some k => some k
        | none => if limit < n then some i.key else none)) (0, none)
    hit.2.map fun k => (k, total - limit)

/-- The largest wire rate of any one port. -/
def portMax (items : List LoadItem) : Nat := (List.range 28).foldl (fun m p => max m (loadSum items 6 p)) 0

/-- Words of detector store of every committed product (R113). -/
def storeOf (get : Nat → Nat) (counts : Nat → Nat → Bool) : Nat :=
  (ctxsOn get).foldl (fun n c =>
    (List.range 7).foldl (fun n q => if counts c q then n + productStore get c q else n) n) 0

/-! ## Objects (R29) -/

/-- The product of a block is shed, or stops with its input (R112, R171). -/
def State.productShed (s : State) (c q : Nat) : Bool :=
  (s.shed.units.any fun u => u.cls == 3 && u.unit == c &&
    (u.product == q || (q == 4 && u.product == (if s.rdc (Obj.DET_PK_INPUT c) = 0 then 0 else 1)))) ||
  (q == 6 && s.shed.units.any fun u => u.cls == 1 && u.unit == s.rdc (Obj.DET_COL_PLANE c))

/-- DET_STORE_ACTIVE (R113). -/
def State.activeStore (s : State) : Nat := storeOf s.rdc fun c q => !s.productShed c q

/-- DET_STORE_USED as a session reads it: with its staged changes at its latest validation in place (R115). -/
def State.storeUsed (s : State) (sess : Nat) : Nat :=
  storeOf (fun k => match (s.ses sess).checked.find? fun p => p.1 == k with
    | some p => p.2
    | none => s.rdc k) fun _ _ => true

/-- The committed loads and what the units' own load objects read, from the committed configuration. -/
def State.showLoads (s : State) : State :=
  let items := loadsOf s.rdc s.tagged
  let s := s.wrAll [(Obj.DEV_LOAD_BFLY, loadSum items 3 0), (Obj.DEV_LOAD_CELL, loadSum items 4 0),
    (Obj.DEV_LOAD_RSV, loadSum items 5 0), (Obj.DEV_LOAD_PORT, portMax items), (Obj.DEV_LOAD_POOL, loadSum items 2 0)]
  let s := s.wrAll ((List.range 28).map fun p => (Obj.DEV_PORT_LOAD p, loadSum items 6 p))
  let s := s.wrAll ((List.range 32).map fun c => (Obj.XFM_LOAD c, if s.rdc (Obj.XFM_ENABLE c) = 1 then ctxLoad s.rdc c else 0))
  let s := s.wrAll ((List.range 32).map fun c => (Obj.XFM_POOL c, if s.rdc (Obj.XFM_ENABLE c) = 1 then ctxPool s.rdc c else 0))
  let s := s.wrAll ((List.range 8).map fun p => (Obj.CRYS_LOAD p, planeLoad s.rdc p))
  let s := s.wr Obj.TRIG_MARK_BUDGET_USED ((List.range 20).foldl (fun n o => n + originBudget s.rdc o) 0)
  let s := s.wrAll ((List.range 32).map fun c =>
    (Obj.DET_STORE_WORDS c, if s.rdc (Obj.XFM_ENABLE c) = 1 then
      (List.range 7).foldl (fun n q => n + productStore s.rdc c q) 0 else 0))
  let s := s.wr Obj.DET_STORE_ACTIVE s.activeStore
  s.wrAll ((List.range 8).map fun x => (sk x Obj.DET_STORE_USED, s.storeUsed x))

/-- FLOW_F, FLOW_WIRE and FLOW_RETAIN_TIME of a flow in force (R250, R259). -/
def State.showFlow (s : State) (f : Nat) : State :=
  if s.rdB (Obj.FLOW_ENABLE f) then
    let r := flowRate s.rd f
    let pl := framePayload s.rd f
    let ps := flowPorts s.rd f
    let headers := ps.foldl (fun n p => n + 8 * (pl + frameOverhead s.rd s.tagged f p)) 0
    s.wrAll [(Obj.FLOW_F f, r.ceil), (Obj.FLOW_WIRE f, (r.scale headers (pl * ps.length)).ceil),
      (Obj.FLOW_RETAIN_TIME f, min (2 ^ 32 - 1)
        (2 ^ s.rd (Obj.FLOW_RETAIN_LOG2 f) * halfOctets (s.rd (Obj.FLOW_WIDTH f)) * 1000000 * r.den / (2 * r.num)))]
  else s.wrAll [(Obj.FLOW_F f, 0), (Obj.FLOW_WIRE f, 0), (Obj.FLOW_RETAIN_TIME f, 0)]

end Sys2Proof.Machine
end

