-- ==== Sys2Proof/Machine/Shed.lean ====
section
/-! DEFINITION. Shedding and restoration (R25 to R27, R112, R171, R232, R478), the floors' scale (R18) and the slices'
core voltage (R420). -/

namespace Sys2Proof.Machine

/-! ## What shed units stop (R25, R478) -/

/-- A unit of a class is shed. -/
def State.isShed (s : State) (cls unit : Nat) : Bool := s.shed.units.any fun u => u.cls == cls && u.unit == unit

/-- The channel of a flow that is served from a history ring, by the committed configuration. -/
def ringFlowChannel (get : Nat → Nat) (f : Nat) : Option Nat :=
  let i := get (Obj.FLOW_SRC_INDEX f)
  match get (Obj.FLOW_SRC f) with
  | 1 => some (ringChannel i)
  | 6 => some (tunerChannel (get (Obj.TRIG_CAP_TUNER i)))
  | 7 => some (ringChannel (get (Obj.RSV_RPL_RING i)))
  | _ => none

/-- The flow's load has stopped counting. -/
def State.flowStopped (s : State) (f : Nat) : Bool :=
  s.isShed 4 f ||
  (match ringFlowChannel s.rdc f with
    | some ch => s.isShed 5 ch
    | none => s.rdc (Obj.FLOW_SRC f) == 3 && s.productShed (s.rdc (Obj.FLOW_SRC_INDEX f)) (s.rdc (Obj.FLOW_SRC_PRODUCT f)))

/-- The context feeds a trigger source (R25). -/
def State.feedsTrigger (s : State) (c : Nat) : Bool :=
  (List.range 32).any fun k =>
    (s.rdc (Obj.TRIG_SRC_KIND k) == 2 && s.rdc (Obj.TRIG_SRC_INPUT k) == c) ||
    (s.rdc (Obj.TRIG_SRC_KIND k) == 3 && s.rdc (Obj.DET_BP_CONTEXT (s.rdc (Obj.TRIG_SRC_INPUT k))) == c)

/-- A context stops with its channel, or once every consumer it feeds is shed (R25). -/
def State.ctxStopped (s : State) (c : Nat) : Bool :=
  s.isShed 5 (tunerChannel (s.rdc (Obj.XFM_SOURCE c))) ||
  (let prods := (List.range 7).filter fun q => productOn s.rdc c q
   let flows := (List.range 249).filter fun f =>
     s.rdc (Obj.FLOW_ENABLE f) == 1 && s.rdc (Obj.FLOW_SRC f) == 2 && s.rdc (Obj.FLOW_SRC_INDEX f) == c
   !(prods.isEmpty && flows.isEmpty) && !s.feedsTrigger c && prods.all (fun q => s.productShed c q) &&
     flows.all fun f => s.isShed 4 f)

/-- A committed load still counts in the tests of R26 and R27. -/
def State.itemCounts (s : State) (i : LoadItem) : Bool :=
  let u := unitOf i.key
  match u.kind with
  | .context => i.res != 3 || !s.ctxStopped u.i
  | .plane => !s.isShed 1 u.i
  | .ring => !s.isShed 5 (ringChannel u.i)
  | .flow => !s.flowStopped u.i
  | .layer => !s.isShed 2 0
  | .replay => !s.isShed 5 (ringChannel (s.rdc (Obj.RSV_RPL_RING u.i)))
  | _ => true

/-- The detector store that counts lies above its capacity (R113). -/
def State.overStore (s : State) : Bool := Nat.blt (s.rd Obj.DET_STORE_CAP) s.activeStore

/-- Committed load counted by R478 lies above a floor in force. -/
def State.overLoads (s : State) : Bool :=
  let items := (loadsOf s.rdc s.tagged).filter s.itemCounts
  Nat.blt (s.rd Obj.DEV_FLOOR_BFLY) (loadSum items 3 0) || Nat.blt (s.rd Obj.DEV_FLOOR_CELL) (loadSum items 4 0) ||
  Nat.blt (s.rd Obj.DEV_FLOOR_RSV) (loadSum items 5 0) || Nat.blt (s.rd Obj.DEV_FLOOR_PORT) (portMax items)

/-- Cause 3 (R26, R113). -/
def State.overFloors (s : State) : Bool := s.overLoads || s.overStore

/-! ## Conditions (R26) -/

/-- A converter queue lies above 50 % fill (R13). -/
def State.queueHigh (s : State) : Bool := s.chans.any fun c => Nat.blt 512 c.fill

/-- The first condition of R26 that holds, as the CAUSE of Table 10.11. -/
def State.shedCause (s : State) : Option Nat :=
  if s.shed.lowSince.any (fun t => match t with
    | some w => Nat.ble (w + 50 * tpus) s.wall
    | none => false) then some 0
  else if s.rdB Obj.PWR_THERM_EMERG then some 1
  else if s.shed.current then some 2
  else if s.overFloors then some 3
  else if s.queueHigh then some 4
  else none

/-- A condition of R26 holds now: the 100 ms of R27 begin again. -/
def State.noteTrouble (s : State) : State :=
  if s.shedCause.isSome then { s with shed := { s.shed with troubleAt := s.wall } } else s

/-! ## Candidates (R25) -/

/-- The session that owns a unit, 254 for none. -/
def State.shedSession (s : State) (u : UnitId) : Nat := ((s.holder u).map fun h => h % 8).getD 254

/-- The object that stands for a product of a block; for its band powers the highest of the integrators that name it (R112). -/
def productKey (get : Nat → Nat) (c q : Nat) : Nat :=
  match q with
  | 0 => Obj.DET_AVG_MODE c
  | 1 => Obj.DET_HOLD_MODE c
  | 2 => Obj.DET_HOLD_MODE c + 1
  | 3 => Obj.DET_BP_CONTEXT ((detInts get c).getLast?.getD 0)
  | 4 => Obj.DET_PK_K c
  | _ => Obj.DET_SG_MODE c

/-- The units of a class that run and are not shed, each with the object it is ranked by. -/
def State.shedUnits (s : State) (cls : Nat) : List (ShedUnit × Nat) :=
  match cls with
  | 1 => (List.range 8).filterMap fun p =>
      if s.rdB (Obj.CRYS_ENABLE p) && (planeFeeder s.rd p).isSome && !s.isShed 1 p then
        some (⟨1, p, 0, 0, s.shedSession ⟨.plane, p⟩⟩, Obj.CRYS_ENABLE p) else none
  | 2 => if s.rdB Obj.SCAN_ENABLE && !s.isShed 2 0 then [(⟨2, 0, 0, 0, s.shedSession ⟨.global, Obj.SCAN_ENABLE⟩⟩, Obj.SCAN_ENABLE)] else []
  | 3 => ((ctxsOn s.rd).map fun c => (List.range 6).filterMap fun q =>
      if productOn s.rd c q && !s.productShed c q then
        some (⟨3, c, q, 0, s.shedSession ⟨.context, c⟩⟩, productKey s.rd c q) else none).flatten
  | 4 => s.runningFlows.filterMap fun f =>
      if s.rd (Obj.FLOW_SRC f) = 2 && !s.isShed 4 f then
        some (⟨4, f, 0, 0, s.shedSession ⟨.flow, f⟩⟩, Obj.FLOW_ENABLE f) else none
  | _ => (List.range 4).filterMap fun ch =>
      if !s.isShed 5 ch && (!(s.channelRings ch).isEmpty || !(s.channelFlows ch).isEmpty ||
          (ctxsOn s.rd).any fun c => tunerChannel (s.rd (Obj.XFM_SOURCE c)) == ch) then
        some (⟨5, ch, 0, 0, s.shedSession ⟨.converter, ch⟩⟩, Obj.CONV_ENABLE ch) else none

/-- The classes from which a cause sheds: products alone where only the detector store exceeds (R113). -/
def State.shedClasses (s : State) (cause : Nat) : List Nat := if cause = 3 && !s.overLoads then [3] else [1, 2, 3, 4, 5]

/-- The next unit: the lowest class with one, its highest session, its highest object. -/
def State.shedNext (s : State) (cause : Nat) : Option ShedUnit :=
  match ((s.shedClasses cause).map s.shedUnits).find? fun l => !l.isEmpty with
  | none => none
  | some l => (l.foldl (fun (best : Option (ShedUnit × Nat)) e => match best with
      | none => some e
      | some b => if b.1.sess < e.1.sess ∨ (b.1.sess = e.1.sess ∧ b.2 < e.2) then some e else some b) none).map Prod.fst

/-! ## Stopping and resuming a unit -/

/-- Flows and rings that carry an output of a unit (R232). -/
def State.shedTells (s : State) (u : ShedUnit) (ev tick : Nat) : State :=
  let r := shedRecord u.cls ev u.cause u.unit u.product u.sess tick
  match u.cls with
  | 1 =>
    let s := s.enterAll (s.sourceFlows 4 u.unit) r
    match planeFeeder s.rd u.unit with
    | some c => s.enterAll (s.productFlows c 6) r
    | none => s
  | 3 => s.enterAll (s.productFlows u.unit u.product) r
  | 4 => s.enterAll [u.unit] r
  | 5 =>
    let s := (s.channelRings u.unit).foldl (fun s h => s.side h r) s
    (s.channelFlows u.unit).foldl (fun s f => s.enter f r) s
  | _ => s

/-- A product of a block stops: its part of the period in progress is discarded (R112). -/
def Det.stop (x : Det) (q : Nat) : Det :=
  { x.clearProduct q with shed := if x.shed.contains q then x.shed else q :: x.shed }

/-- The column sets in progress for a plane are discarded (R112, R171). -/
def State.dropPlaneColumns (s : State) (p : Nat) : State :=
  { s with dets := s.dets.map fun x => if (x.colCfgs.head?.map DetCfg.colPlane) == some p then x.dropColumns else x }

/-- The period in progress of a block at the tick index, or the one it has open. -/
def State.periodStart (s : State) (c : Nat) : Nat :=
  match (s.det c).cur with
  | some p => p.start
  | none => s.tick / max 1 (s.rd (Obj.DET_PERIOD c)) * s.rd (Obj.DET_PERIOD c)

/-- The label of the next frame a context is to release. -/
def State.nextFrame (s : State) (c : Nat) : Nat :=
  match (s.ctx c).items with
  | i :: _ => i.at_
  | [] => s.tick

/-- Contexts stop and restart with what they feed. -/
def State.settleContexts (s : State) : State :=
  (ctxsOn s.rd).foldl (fun s c =>
    if s.ctxStopped c then
      if (s.ctx c).shed then s
      else
        let g := ((s.ctx c).cfgAt s.tick).getD default
        let d := s.rd (Obj.TUNE_DECIM g.source)
        (s.shedContext c).frameGap c s.tick s.tick g.n g.hop d
    else if (s.ctx c).shed then s.restoreContext c else s) s

/-- One unit stops: its shed record, counter, bit and alert (R26). -/
def State.shedOne (s : State) (u : ShedUnit) (counted : Bool) : State :=
  let tick := match u.cls with
    | 3 => s.periodStart u.unit
    | 4 => s.nextFrame (s.rd (Obj.FLOW_SRC_INDEX u.unit))
    | _ => s.tick
  let s := s.shedTells u 0 tick
  let s := match u.cls with
    | 1 => ((s.dropPlaneColumns u.unit).updPlane u.unit fun x => { x with shed := true, sawShed := true, back := none }).wr
        (Obj.CRYS_STATE u.unit) 2
    | 3 => (s.updDet u.unit fun x => x.stop u.product).showDet u.unit false
    | 4 => s.updFlow u.unit fun x => { x with shed := true }
    | 5 =>
      let s := s.updChan u.unit fun x => { x with shed := true }
      let hs := s.channelRings u.unit
      (hs.foldl State.stopRing s).wrAll (hs.map fun h => (Obj.RSV_HIST_STATE h, 2))
    | _ => s
  let s := { s with shed := { s.shed with units := u :: s.shed.units } }
  let s := (s.wr Obj.DET_STORE_ACTIVE s.activeStore).settleContexts
  if counted then
    ((s.count (Obj.DEV_SHED_COUNT_CRYS + (u.cls - 1))).shedBit u.cls true).event 2 254 0x0700 u.cls u.cause u.unit
  else s

/-- The unit stopped last resumes: its record repeats the cause (R27). A plane's waits for the first column set to come (R171). -/
def State.resumeOne (s : State) (u : ShedUnit) : State :=
  let s := { s with shed := { s.shed with units := s.shed.units.erase u } }
  let tick := match u.cls with
    | 3 => (s.det u.unit).boundaryAfter s.tick
    | 4 => s.nextFrame (s.rd (Obj.FLOW_SRC_INDEX u.unit))
    | _ => s.tick
  let s := match u.cls with
    | 1 => (s.updPlane u.unit fun x =>
        { x with shed := false, back := some (shedRecord 1 1 u.cause u.unit u.product u.sess tick) }).showPlane u.unit
    | 3 => s.updDet u.unit fun x => { x with resume := (u.product, tick) :: x.resume }
    | 4 => s.updFlow u.unit fun x => { x with shed := false }
    | 5 =>
      let s := s.updChan u.unit fun x => { x with shed := false }
      s.wrAll ((s.channelRings u.unit).map fun h => (Obj.RSV_HIST_STATE h, 1))
    | _ => s
  let s := if u.cls = 1 then s else s.shedTells u 1 tick
  let s := (s.wr Obj.DET_STORE_ACTIVE s.activeStore).settleContexts
  if s.shed.units.any fun v => v.cls == u.cls then s else s.shedBit u.cls false

/-- A shedding step: the next unit stops (R26). -/
def State.shedNow (s : State) (cause : Nat) : State :=
  match s.shedNext cause with
  | none => s.noteTrouble
  | some u =>
    let s := s.shedOne { u with cause := cause } true
    { s with shed := { s.shed with nextStep := s.wall + 50 * tpus, troubleAt := s.wall } }

/-- SHED_STEP (R26): a condition holds, and 50 µs have passed since the step before. -/
def execShedStep (s : State) : Host.Outcome State Fault Refusal :=
  done s <|
    match s.shedCause with
    | none => s
    | some cause => if Nat.ble s.shed.nextStep s.wall then s.shedNow cause else s.noteTrouble

/-- SHED_RESTORE (R27): the unit shed last returns once no condition has held for 100 ms, every slice has had 10 % slack
throughout, 100 ms have passed since the one before and the load with it restored lies within the floors. -/
def execShedRestore (s : State) : Host.Outcome State Fault Refusal :=
  done s <|
    let s := s.noteTrouble
    match s.shed.units with
    | [] => s
    | u :: rest =>
      let calm := Nat.ble (s.shed.troubleAt + 100 * tpms) s.wall && Nat.ble s.shed.nextRestore s.wall &&
        (match s.shed.highSince with
          | some w => Nat.ble (w + 100 * tpms) s.wall
          | none => false)
      let fits := !({ s with shed := { s.shed with units := rest } } : State).overFloors
      if calm && fits && s.shedCause.isNone then
        let s := s.resumeOne u
        { s with shed := { s.shed with nextRestore := s.wall + 100 * tpms } }
      else s

/-- FLOOR_SCALE_UPDATE (R18): k = PVIN / 2.5 V, from PVIN averaged over 1 ms, and the floors follow; a load above a
reduced floor sheds at once. The entry PVIN_LOW marks a fall below 2.5 V. -/
def execFloorScaleUpdate (pvinMv : Nat) (s : State) : Host.Outcome State Fault Refusal :=
  done s <|
    let s := s.noteTrouble
    let k := min 65536 (pvinMv * 65536 / 2500)
    let was := s.rd Obj.DEV_PVIN_SCALE
    let s := ((s.wr Obj.PWR_PVIN_MV pvinMv).wr Obj.DEV_PVIN_SCALE k).setFloors
    let s := if k < 65536 && was = 65536 then s.event 1 254 0x0703 k else s
    if s.overFloors && Nat.ble s.shed.nextStep s.wall then s.shedNow 3 else s

end Sys2Proof.Machine
end

