-- ==== Sys2Proof/Machine/Timekeeping.lean ====
section
/-! DEFINITION. Device time as a function of the tick index (R322, R323, R327), and the time anchor and status records
(R234 to R236). Device time is held in 2^−16 ns. -/

namespace Sys2Proof.Machine

/-- A position: the tick index with a fraction of 2^−16 tick. -/
def placeOf (tick fine : Nat) : Nat := tick * 65536 + fine

/-- A piece's time at a position at or after its start. -/
def Piece.at_ (p : Piece) (pos : Nat) : Nat := p.time + (pos - p.start) * p.num / (max 1 p.den * 65536)

/-- Device time at a position: the latest piece that has begun (R322). -/
def Plumb.timeAt (x : Plumb) (pos : Nat) : Nat :=
  match x.pieces.find? fun p => Nat.ble p.start pos with
  | some p => p.at_ pos
  | none => pos * 2048 / 65536

/-- Device time at a tick. -/
def State.timeAt (s : State) (tick : Nat) : Nat := s.plumb.timeAt (placeOf tick 0)

/-- Device time now, PLMB_TIME_NOW. -/
def State.timeNow (s : State) : Nat := s.timeAt s.tick

/-- Device time now in whole nanoseconds. -/
def State.nsNow (s : State) : Nat := s.timeNow / 65536

/-- One second in 2^−16 ns. -/
def secFine : Nat := 1000000000 * 65536

/-- PPS_OUT goes on with the next whole second of T after a tick. -/
def Plumb.aim (x : Plumb) (now : Nat) : Plumb := { x with ppsNext := x.timeAt (placeOf now 0) / secFine + 1 }

/-- A new piece of T begins; the pieces of the latest 256 seconds are kept (R327). Where T jumps, PPS_OUT takes aim anew (R326). -/
def Plumb.begin_ (x : Plumb) (now : Nat) (p : Piece) : Plumb :=
  let old := x.pieces
  let recent := old.takeWhile fun q => Nat.blt now (q.start / 65536 + 256 * tps)
  let y := { x with pieces := p :: (recent ++ (old.drop recent.length).take 1) }
  if x.timeAt p.start = p.time then y else y.aim now

/-- A duration in ticks as whole nanoseconds. -/
def ticksToNs (n : Nat) : Nat := n / 32

/-- The uncertainty bound of device time, fs (R325): free running and from 2^36 − 1 on it reads all ones. -/
def State.uncert (s : State) : Nat :=
  let x := s.plumb
  let st := s.rd Obj.PLMB_TIME_STATE
  let base := s.rd Obj.PLMB_PPS_ACC + x.err
  let client :=
    let n := x.ptp.length
    let mean := (x.ptp.foldl (fun (a : Int) (o : Nat × Int × Nat) => a + o.2.1) 0).natAbs / max 1 n
    let hi := x.ptp.foldl (fun (a : Nat) (o : Nat × Int × Nat) => max a o.2.2) 0
    let lo := x.ptp.foldl (fun (a : Nat) (o : Nat × Int × Nat) => min a o.2.2) hi
    (mean + (hi - lo) / 2) * 1000000 / 65536
  let v := match st with
    | 1 | 2 => base
    | 3 => client
    | 4 => (if s.rd Obj.PLMB_TIME_SRC = 3 then client else base) +
        (s.wall - x.goodAt) * 31250 * s.rd Obj.PLMB_HOLD_PPB / 1000000000
    | _ => 2 ^ 36 - 1
  min v (2 ^ 36 - 1)

/-- The time-source code of a time anchor: PLMB_TIME_STATE (R234, R322). -/
def State.anchor (s : State) : Record :=
  anchorRecord s.timeNow (s.rd Obj.PLMB_TIME_STATE) s.uncert (s.rd Obj.CLK_REF_ACTIVE)
    (s.rd Obj.PLMB_UTC_OFFSET) s.tick

/-- A time anchor record enters every running flow at its next record boundary (R235), but not while the Reservoir is unpowered in DORMANT:
the first boundary after that follows Y (R425, log entry 77). -/
def State.anchorAll (s : State) : State := if s.pwr.cold then s else s.enterAll s.runningFlows s.anchor

end Sys2Proof.Machine
end

