-- ==== Sys2Proof/Machine/Converters.lean ====
section
/-! DEFINITION. Converters (chapter 2): correction, the converter queue, withheld intervals, foreground calibration and its
stored sets, background tracking, the SYNC grid, path delays and the calibration tone's commands. -/

namespace Sys2Proof.Machine

/-! ## Correction (R32, R33) -/

/-- The factors in force of a kind: 0 offset, 1 gain, 2 skew, 3 bandwidth; sub-converter j. -/
def factorKey (ch kind j : Nat) : Nat :=
  match kind with
  | 0 => Obj.CONV_F_OFFSET ch j
  | 1 => Obj.CONV_F_GAIN ch j
  | 2 => Obj.CONV_F_SKEW ch j
  | _ => Obj.CONV_F_BW ch j

/-- The 64 factors in force of a kind. -/
def State.factors (s : State) (ch kind : Nat) : List Int := (List.range 64).map fun j => s.rdI (factorKey ch kind j)

/-- a[k] × 2^46 of raw code x with offset and gain factors. -/
def scaledCode (off gain x : Int) : Int := (x * 65536 - off) * (1073741824 + gain)

/-- y[k] × 2^76 for the 64 samples of a block, from the codes before, of and after it (R33). -/
def correctedBlock (off gain skew bw : List Int) (prev : Int) (raw : List Int) (next : Int) : List Int :=
  let a := ((prev :: raw) ++ [next]).mapIdx fun (i : Nat) (x : Int) => scaledCode (off.getD ((i + 63) % 64) 0) (gain.getD ((i + 63) % 64) 0) x
  (List.range 64).map fun k =>
    let lo := a.getD k 0
    let me := a.getD (k + 1) 0
    let hi := a.getD (k + 2) 0
    me * 1073741824 - skew.getD k 0 * (hi - lo) * 32 + bw.getD k 0 * (me - lo)

/-- The output code of a corrected value × 2^76. -/
def code12 (y : Int) : Int := clampI (-2048) 2047 (roundConv y (2 ^ 76))

/-- The value lies outside 12 bits before saturation. -/
def overflows12 (y : Int) : Bool := roundConv y (2 ^ 76) != code12 y

/-! ## What a channel feeds -/

/-- Δ at D = 65,535, the largest (R67). -/
def longestSupport : Nat := 2949117

/-- The channel is fenced (Table 20.3). -/
def State.convFenced (s : State) (ch : Nat) : Bool := s.rd (Obj.CONV_STATE ch) == 5

/-- Tuners of a channel. -/
def channelTuners (ch : Nat) : List Nat := (List.range 4).map fun i => 4 * ch + i

/-- The least tick that a label still to come of a tuner of the channel may need: of one that runs, and of one whose change is due. -/
def State.histNeed (s : State) (ch : Nat) : Option Nat :=
  let run := (channelTuners ch).filterMap fun t =>
    let x := s.tuner t
    if x.on then some (max x.at_ x.startAt) else none
  let due := (s.swaps.map fun w => (w.units.filter fun c => c.unit.kind == .tuner && c.unit.i / 4 == ch).map Change.boundary).flatten
  ((run ++ due).map fun l => l - longestSupport).min?

/-- The channel feeds a committed output or one in force, history rings included (R50, R53, R54). -/
def State.channelFeeds (s : State) (ch : Nat) : Bool :=
  ((channelTuners ch).any fun t =>
    s.rdB (Obj.TUNE_ENABLE t) || s.rdc (Obj.TUNE_ENABLE t) == 1 || s.rdB (Obj.RSV_HIST_ENABLE t) || s.rdc (Obj.RSV_HIST_ENABLE t) == 1) ||
  s.rdB (Obj.RSV_HIST_ENABLE (16 + ch)) || s.rdc (Obj.RSV_HIST_ENABLE (16 + ch)) == 1

/-- Some channel feeds a committed output. -/
def State.anyFeeds (s : State) : Bool := (List.range 4).any s.channelFeeds

/-- Set the state of the channel's running tuners. -/
def State.tunersRead (s : State) (ch v : Nat) : State :=
  (channelTuners ch).foldl (fun s t =>
    if s.rdB (Obj.TUNE_ENABLE t) && s.rd (Obj.TUNE_STATE t) != 4 then s.wr (Obj.TUNE_STATE t) v else s) s

/-! ## Intervals without data (R13, R35, R69) -/

/-- The tuners of a channel lose labels around ticks a to b, which record r names: its neighbours to either side are kerfs (R69). DESIGN
CHOICE: the group delay is that of the configuration in force at a − 1 before the interval and at b after it, and a tuner that is enabled
while the interval lasts has the kerf before its first label recorded as well (R72; log entry 59). -/
def State.interruptTuners (s : State) (ch a b : Nat) (r : Record) : State :=
  (channelTuners ch).foldl (fun s t =>
    let x := s.tuner t
    if !x.on then s
    else
      let d0 := groupDelay (x.cfgAt (a - 1)).d
      let d1 := groupDelay (x.cfgAt b).d
      let s := s.withholdLabels t (a - d0) (a - 1) none none
      let s := s.withholdLabels t a b none (some r)
      s.withholdLabels t (b + 1) (b + d1) none none) s

/-- A withheld range is over: its converter interval record enters what the channel feeds (R35). -/
def State.endInterval (s : State) (ch a b : Nat) (clk : Bool) : State :=
  if Nat.blt b a then s
  else
    let r := convRecord ch a b (b2n clk) ((b + 1 - a) / 64)
    ((s.tellChannel ch b r).interruptTuners ch a b r).tunersRead ch 1

/-- A run of dropped blocks is over: one gap/loss record names it (R13). -/
def State.endDrops (s : State) (ch : Nat) : State :=
  match (s.chan ch).drops with
  | none => s
  | some (a, n) =>
    let b := a + 64 * n - 1
    let r := gapRecord 0 ch a b 1 n 0
    let s := (s.tellChannel ch b r).interruptTuners ch a b r
    (s.updChan ch fun x => { x with drops := none }).tunersRead ch 1

/-- Data of the channel is withheld now. -/
def Chan.held (x : Chan) : Bool := x.cal.isSome || x.clockHold

/-- The number of the next block the channel may enter: blocks ahead of a withheld range, and after it once it has
ended. -/
def Chan.dueBlock (x : Chan) : Option Nat :=
  match x.withheld with
  | some (a, _) =>
    if 64 * x.nextBlock < a then some x.nextBlock
    else if x.held then none else some (max x.nextBlock (ceilDiv x.resumeAt 64))
  | none => if x.held && !x.started then none else some x.nextBlock

/-- Blocks kept for tuner outputs in any case: the longest support, 2 Δ + 1 ticks, and some. -/
def histBlocks : Nat := 92200

/-- The blocks kept: the newest, and those that labels still to come need (R63). -/
def Chan.keep (x : Chan) (need : Option Nat) : List Token :=
  x.hist.take histBlocks ++ (x.hist.drop histBlocks).filter fun b => match need with
    | some t => Nat.ble (t / 64) (b.no x.nextBlock)
    | none => false

/-- Block n enters the converter queue with its codes and status (R34). -/
def State.enterBlock (s : State) (ch n st : Nat) (codes : List Int) : State :=
  let s := s.endDrops ch
  let resumed := match (s.chan ch).withheld with
    | some (a, _) => Nat.ble a (64 * n)
    | none => false
  let s := match (s.chan ch).withheld with
    | some (a, clk) => if resumed then (s.endInterval ch a (64 * n - 1) clk).updChan ch fun x => { x with withheld := none } else s
    | none => s
  let x := s.chan ch
  let slip := x.slips.any fun t => t / 64 == n
  let status := st + x.status % 4 / 2 * 2 + 4 * b2n resumed + 8 * b2n slip
  let s := s.updChan ch fun x =>
    { x with
      fill := x.fill + 1, hist := s.blockToken ch n status codes :: x.keep (s.histNeed ch), entered := 64 * (n + 1), nextBlock := n + 1
      started := true, status := 0, slips := x.slips.filter fun t => t / 64 != n }
  let s := (s.wr (Obj.CONV_STATE ch) (if s.rd (Obj.CONV_STATE ch) = 5 then 5 else if (s.chan ch).held then s.rd (Obj.CONV_STATE ch) else 2)).peak
    (Obj.DEV_CONVQ_PEAK ch) (x.fill + 1)
  let raw := 16 + ch
  let s := if s.rdB (Obj.RSV_HIST_ENABLE raw) && !s.isShed 5 ch then
      ((List.range 64).foldl (fun s k => s.rawPut raw (64 * n + k) (ofI 12 (codes.getD k 0)) (bitOf status 0)) s)
    else s
  if x.fill = 512 then s.shedNow 4 else s

/-- Block n finds the queue full: it is dropped, named and counted (R13). -/
def State.dropBlock (s : State) (ch n : Nat) : State :=
  let s := s.updChan ch fun x =>
    { x with
      drops := match x.drops with
        | some (a, k) => some (a, k + 1)
        | none => some (64 * n, 1)
      nextBlock := n + 1, status := 0 }
  let k := match (s.chan ch).drops with
    | some (_, k) => k
    | none => 0
  (s.count (Obj.DEV_CONVQ_DROP ch)).event 2 254 0x0103 ch k

/-- The codes join up with the block converted before: prev is its last code, and the first code is the one that was taken as its next (R33). -/
def Chan.joins (x : Chan) (n : Nat) (prev first : Int) : Bool :=
  match x.lastRaw with
  | some (m, a, b) => m + 1 != n || (a == prev && b == first)
  | none => true

/-- What tracking sees of a block (R31): nothing of one with a saturated sample. -/
def Chan.seen (x : Chan) (codes : List Int) (outside : Bool) : Chan :=
  if outside then x
  else { x with track := x.track.map fun k => ⟨k.n + 64, k.power + (codes.map fun c => (c * c).toNat).sum⟩ }

/-- CONVERTER_BLOCK_ENTRY (R34): 64 raw codes and their neighbours are corrected (R33), saturated samples counted (R31),
and the block enters the queue, or is dropped where it is full (R13). The codes before and after are those of the neighbouring blocks. -/
def execConverterBlockEntry (ch : Nat) (prev : Int) (raw : List Int) (next : Int) (s : State) :
    Host.Outcome State Fault Refusal :=
  done s <|
    match (s.chan ch).dueBlock with
    | none => s
    | some n =>
      if Nat.ble 4 ch || !s.rdB (Obj.CONV_ENABLE ch) || s.convFenced ch || raw.length != 64 || !s.conv.counts || Nat.blt s.tick (64 * (n + 1)) ||
        !(s.chan ch).joins n prev (raw.headD 0) then s
      else
        let y := correctedBlock (s.factors ch 0) (s.factors ch 1) (s.factors ch 2) (s.factors ch 3) prev raw next
        let outside := (List.range 64).filter fun k => overflows12 (y.getD k 0)
        let s := match outside.getLast? with
          | some k => (s.countN (Obj.CONV_OVR_COUNT ch) outside.length).wr (Obj.CONV_OVR_LAST ch) (64 * n + k)
          | none => s
        let s := s.updChan ch fun x =>
          { x.seen (y.map code12) (!outside.isEmpty) with lastRaw := some (n, raw.getD 63 0, next) }
        if Nat.ble 1024 (s.chan ch).fill then s.dropBlock ch n
        else s.enterBlock ch n (b2n (!outside.isEmpty)) (y.map code12)

/-! ## The channel's switch (R36) -/

/-- The channel's first block is not below tick `at`: tuners start no earlier than that (R72). -/
def State.delayFirst (s : State) (ch at_ : Nat) : State :=
  let s := s.updChan ch fun x =>
    { x with firstAt := max x.firstAt at_, nextBlock := ceilDiv (max x.firstAt at_) 64, entered := roundUp (max x.firstAt at_) 64 }
  (channelTuners ch).foldl (fun s t =>
    s.updTuner t fun x =>
      let d := (x.cfgAt x.startAt).d
      let q := roundUp (max x.startAt ((s.chan ch).firstAt + groupDelay d)) (2 * d)
      { x with startAt := q, at_ := max x.at_ q }) s

/-- The channel powers up at tick j: it settles for 10 µs (R36), and waits while the clock withholds data (R301). What tuners still had
to complete of the run before is over. -/
def State.powerChannel (s : State) (ch first : Nat) : State :=
  let s := s.endDrops ch
  let first := max first (s.clk.openAt.getD 0)
  let s := s.updChan ch fun x =>
    { x with
      fill := 0, hist := [], lastRaw := none, entered := roundUp first 64, nextBlock := ceilDiv first 64, firstAt := roundUp first 64
      started := false, withheld := none, resumeAt := 0, status := 0, slips := [], track := List.replicate 3 {}
      clockHold := !bitOf (s.rd Obj.CLK_LOCKED_MASK) 0 || s.clk.gatedAt.isSome, cal := x.cal.map fun c => { c with powered := false } }
  let s := (channelTuners ch).foldl (fun s t => s.updTuner t fun x => { x with on := false, stopAt := none }) s
  let s := match (s.chan ch).cal with
    | some c => s.delayFirst ch c.end_
    | none => s
  s.wr (Obj.CONV_STATE ch) (if (s.chan ch).cal.isSome then 3 else if (s.chan ch).clockHold then 4 else 1)

/-- A tuner delivers no label whose support reaches a tick from which its channel enters nothing. -/
def Tuner.endAt (x : Tuner) (entered : Nat) : Tuner :=
  if !x.on then x
  else
    let j := entered - groupDelay (x.cfgAt (max x.at_ x.startAt)).d
    { x with stopAt := some (min j (x.stopAt.getD j)) }

/-- The channel powers down at tick j: runs of dropped blocks and withheld ranges that last until then are named (R13, R35), and its
tuners complete the labels whose support has entered (R72). -/
def State.unpowerChannel (s : State) (ch j : Nat) : State :=
  let s := s.endDrops ch
  let s := match (s.chan ch).withheld with
    | some (a, clk) => s.endInterval ch a (j / 64 * 64 - 1) clk
    | none => s
  let s := s.updChan ch fun x => { x with fill := 0, lastRaw := none, started := false, withheld := none, status := 0, slips := [] }
  let s := (channelTuners ch).foldl (fun s t => s.updTuner t fun x => x.endAt (s.chan ch).entered) s
  s.wr (Obj.CONV_STATE ch) 0

/-- CONV_JOINT (R36, R352): a change of CONV_ENABLE at its boundary. -/
def execConvJoint (ch : Nat) (s : State) : Host.Outcome State Fault Refusal :=
  done s <|
    let was := s.rdB (Obj.CONV_ENABLE ch)
    s.joint 0 ⟨.converter, ch⟩ (fun _ _ s => s) fun _ j s =>
      let on := s.rdB (Obj.CONV_ENABLE ch)
      if was == on || s.convFenced ch then s
      else if on then s.powerChannel ch (j + 320000)
      else s.unpowerChannel ch j

/-! ## Stored sets (R39, R40) -/

/-- A factor of a set. -/
def FactorSet.factor (f : FactorSet) (kind j : Nat) : Int :=
  match kind with
  | 0 => f.off.getD j 0
  | 1 => f.gain.getD j 0
  | 2 => f.skew.getD j 0
  | _ => f.bw.getD j 0

/-- The factory set F (R39): what production test stored, with sequence number 0. -/
def factorySet (ch : Nat) : FactorSet := productionSet ch 0

/-- A stored set: 0 A, 1 B, 2 F. -/
def State.storedSet (s : State) (ch i : Nat) : FactorSet := if i = 2 then factorySet ch else at' (s.chan ch).sets i

/-- The factors in force become a set's, with no tracked departure. -/
def State.putFactors (s : State) (ch : Nat) (f : FactorSet) : State :=
  let s := [0, 1, 2, 3].foldl (fun (s : State) kind =>
    (List.range 64).foldl (fun s j => s.wrI (factorKey ch kind j) (f.factor kind j)) s) s
  [0, 1, 2].foldl (fun s k => s.wr (Obj.CONV_TRACK_DRIFT ch k) 0) s

/-- A stored set is active: 0 A, 1 B, 2 F. While F is active CONV_SET_SEQ reads 0. -/
def State.showSet (s : State) (ch i : Nat) : State :=
  let f := s.storedSet ch i
  ((s.wr (Obj.CONV_SET_ACTIVE ch) i).wrAll [(Obj.CONV_SET_SEQ ch, if i = 2 then 0 else f.seq), (Obj.CONV_SET_TIME ch, f.time)]).wrI
    (Obj.CONV_SET_TJ ch) f.tj

/-- The set that tracking departs from: the one being stored, else the active one. -/
def State.baseSet (s : State) (ch : Nat) : FactorSet :=
  match (s.chan ch).storing with
  | some f => f
  | none => s.storedSet ch (s.rd (Obj.CONV_SET_ACTIVE ch))

/-- Bounds of tracking for offset, gain and skew (Table 2.5), in the units of the factors. -/
def trackBound (kind : Nat) : Int := match kind with | 0 => 524288 | 1 => 10737418 | _ => 214748

/-- Largest steps of tracking (Table 2.5). -/
def trackStep (kind : Nat) : Int := match kind with | 0 => 1024 | 1 => 21474 | _ => 1073

/-- The magnitude of a number. -/
def magnitude (i : Int) : Int := if i < 0 then -i else i

/-- The tracked departure of largest magnitude. -/
def State.drift (s : State) (ch kind : Nat) : Int :=
  let f := s.baseSet ch
  (List.range 64).foldl (fun (m : Int) j =>
    let e := s.rdI (factorKey ch kind j) - f.factor kind j
    if magnitude m < magnitude e then e else m) 0

/-- CONV_CAL_ADVISED follows R46; the event marks its rise. -/
def State.advise (s : State) (ch : Nat) : State :=
  let f := s.baseSet ch
  let on := ([0, 1, 2].any fun k => decide (trackBound k ≤ magnitude (s.rdI (Obj.CONV_TRACK_DRIFT ch k)))) ||
    decide (5120 < magnitude (s.rdI Obj.PWR_TJ - f.tj)) || s.rd (Obj.CONV_SET_ACTIVE ch) == 2
  let was := s.rdB (Obj.CONV_CAL_ADVISED ch)
  let s := s.wr (Obj.CONV_CAL_ADVISED ch) (b2n on)
  if on && !was then s.event 1 254 0x0101 ch else s

/-- At a start the set the pointer names is loaded, else the other of A and B, else F (R40). -/
def State.loadSet (s : State) (ch : Nat) : State :=
  let x := s.chan ch
  let i := if (at' x.sets x.pointer).valid then x.pointer else if (at' x.sets (1 - x.pointer)).valid then 1 - x.pointer else 2
  (((s.updChan ch fun x => { x with storing := none }).putFactors ch (s.storedSet ch i)).showSet ch i).advise ch

/-! ## Foreground calibration (R37, R38) -/

/-- The channel's calibration is over: its request, and CONV_CAL_ALL's once every channel is done, complete (R38). -/
def State.calDone (s : State) (ch : Nat) (ok : Bool) : State :=
  let st := if ok then Status.ok else Status.internal
  let s := (s.chan ch).calReqs.foldl (fun s r => s.finish r st) s
  let s := s.updChan ch fun x => { x with calReqs := [] }
  match s.conv.all with
  | none => s
  | some (r, left, bad) =>
    if !left.contains ch then s
    else
      let left := left.erase ch
      let bad := bad || !ok
      if left.isEmpty then ({ s with conv := { s.conv with all := none } }).finish r (if bad then .internal else .ok)
      else { s with conv := { s.conv with all := some (r, left, bad) } }

/-- A calibration fails for a reason of Table 2.8: FAILED, the alert, and the request completes INTERNAL. -/
def State.calFail (s : State) (ch reason : Nat) : State :=
  ((s.wrAll [(Obj.CONV_CAL_STATUS ch, 4), (Obj.CONV_CAL_REASON ch, reason)]).event 2 254 0x0100 ch reason).calDone ch false

/-- A standby whose own data is withheld is not ready: it syncs again from step 3 of R390. -/
def State.unsync (s : State) (reason : Nat) : State :=
  if !s.isStandby then s
  else
    let s := { s with twin := { s.twin with steps := min 2 s.twin.steps, js := none } }
    s.wrAll [(Obj.TWIN_STATE, 4), (Obj.TWIN_NOT_READY, reason), (Obj.TWIN_READY_SINCE, 0)]

/-- Foreground calibration of a channel begins: 7,680,000,000 ticks from the next block boundary, or once a channel
powered for it has settled (R37). -/
def State.startCal (s : State) (ch : Nat) : State :=
  let powered := !s.rdB (Obj.CONV_ENABLE ch)
  let start := if powered then roundUp (s.tick + 320000) 64 else (s.tick / 64 + 1) * 64
  let stop := start + 7680000000
  let x := s.chan ch
  let s := s.updChan ch fun x =>
    { x with
      cal := some { start := start, end_ := stop, powered := powered }, calDefers := 0
      withheld := if !powered && x.started then (match x.withheld with
        | some w => some w
        | none => some (start, false)) else x.withheld }
  let s := (s.unsync 6).wrAll [(Obj.CONV_CAL_STATUS ch, 1), (Obj.CONV_CAL_REASON ch, 0), (Obj.CONV_STATE ch, 3)]
  let s := s.tunersRead ch 3
  if !powered && !x.started then s.delayFirst ch stop else s

/-- A calibration of the channel runs: not one that is abandoned, whose interval only goes on (R42). -/
def Chan.calRuns (x : Chan) : Bool :=
  match x.cal with
  | some c => !c.abandoned
  | none => false

/-- The channel calibrates, stores its set or waits to. -/
def State.calibrating (s : State) (ch : Nat) : Bool :=
  (s.chan ch).calRuns || (s.chan ch).storing.isSome || s.conv.calWait.any fun w => w.2.1.contains ch

/-- Start the calibrations of a request on its channels. -/
def State.beginCals (s : State) (r : Req) (chs : List Nat) (all : Bool) : State :=
  let s := if all then { s with conv := { s.conv with all := some (r, chs, false) } }
    else chs.foldl (fun s ch => s.updChan ch fun x => { x with calReqs := [r] }) s
  chs.foldl State.startCal s

/-- A planned handover at a tick for a reason of the source-change record; one that is planned already stays (R398). -/
def State.planHandover (s : State) (at_ reason : Nat) : State :=
  let h : Handover := s.twin.handover.getD { at_ := at_, reason := reason }
  { s with twin := { s.twin with handover := some h } }.wr Obj.TWIN_CMD_STATUS 1

/-- An accepted calibration: on a primary whose standby is ready a handover 10 ms ahead comes first (R37, R398). -/
def State.requestCals (s : State) (r : Req) (chs : List Nat) (all : Bool) : State :=
  let s := s.accept r
  if s.rd Obj.TWIN_STATE = 3 then
    { s with conv := { s.conv with calWait := s.conv.calWait ++ [(r, chs, all)] } }.planHandover (s.tick + 10 * tpms) 1
  else s.beginCals r chs all

/-- Calibrations that waited for a handover begin. -/
def State.releaseCals (s : State) : State :=
  let w := s.conv.calWait
  w.foldl (fun s c => s.beginCals c.1 c.2.1 c.2.2) { s with conv := { s.conv with calWait := [] } }

/-- A write of CONV_CAL_CMD (R37). -/
def State.calCmd (s : State) (ch v : Nat) (r : Req) : State :=
  if v != 1 || s.convFenced ch then s.answer r .range
  else if s.calibrating ch || !s.masterLocked || s.conv.skew.isSome || s.upd.closed then s.answer r .busy
  else s.requestCals r [ch] false

/-- CONV_CAL_CMD. -/
def execConvCalCmd (sess tag ch v : Nat) (s : State) : Host.Outcome State Fault Refusal :=
  done s <| when (Nat.blt ch 4) (fun s => s.direct sess tag (Obj.CONV_CAL_CMD ch) v fun r s => s.calCmd ch v r) s

/-- Channels that CONV_CAL_ALL calibrates: enabled and not fenced. -/
def State.calChannels (s : State) : List Nat :=
  (List.range 4).filter fun ch => s.rdB (Obj.CONV_ENABLE ch) && !s.convFenced ch

/-- A write of CONV_CAL_ALL: 1 calibrates every enabled channel (R37), 2 measures the board paths for 20 ms (R54). -/
def State.calAllCmd (s : State) (v : Nat) (r : Req) : State :=
  match v with
  | 1 =>
    if s.calChannels.isEmpty then s.answer r .range
    else if (List.range 4).any s.calibrating || !s.masterLocked || s.conv.skew.isSome || s.upd.closed then s.answer r .busy
    else s.requestCals r s.calChannels true
  | 2 =>
    if s.anyFeeds || (List.range 4).any s.calibrating || s.conv.skew.isSome then s.answer r .busy
    else
      let t := s.accept r
      { t with conv := { t.conv with skew := some (r, s.wall + 20 * tpms) } }
  | _ => s.answer r .range

/-- CONV_CAL_ALL with value 1. -/
def execConvCalAll (sess tag : Nat) (s : State) : Host.Outcome State Fault Refusal :=
  done s (s.direct sess tag Obj.CONV_CAL_ALL 1 fun r s => s.calAllCmd 1 r)

/-- The first verification that fails (Table 2.4), 0 for none. -/
def calReason (off gain skew bw : List Int) (sourceOk : Bool) : Nat :=
  let within (l : List Int) (b : Int) := (List.range 64).all fun j => decide (magnitude (l.getD j 0) ≤ b)
  if !within off 1572864 then 1 else if !within gain 42949672 then 2 else if !within skew 34359 then 3
  else if !within bw 85899345 then 4 else if !sourceOk then 5 else 0

/-- The calibration's interval is over: data resumes at its end unless the clock withholds it. -/
def State.endCal (s : State) (ch : Nat) (c : Cal) : State :=
  s.updChan ch fun x => { x with cal := none, resumeAt := max x.resumeAt c.end_ }

/-- The set number a new set takes (R39). -/
def Chan.nextSet (x : Chan) : Nat :=
  let v (i : Nat) := if (at' x.sets i).valid then some (at' x.sets i).seq else none
  match v 0, v 1 with
  | none, none => 1
  | a, b => (max (a.getD 0) (b.getD 0) + 1) % 2 ^ 32

/-- CAL_INTERVAL_END (R38): the interval ends; a passed calibration's factors come into force and are stored, a failed one
reports its reason. Data of an abandoned one resumes (R42). DESIGN CHOICE: after a failed or abandoned calibration the channel resumes on
the factors in force, the active set as tracking has moved it: "its previous active set" may be read as the stored values too (log
entry 58). -/
def execCalIntervalEnd (ch : Nat) (off gain skew bw : List Int) (sourceOk : Bool) (tj : Int) (s : State) :
    Host.Outcome State Fault Refusal :=
  done s <|
    match (s.chan ch).cal with
    | none => s
    | some c =>
      if Nat.blt s.tick c.end_ || Nat.ble 4 ch then s
      else if c.abandoned then (if c.powered then (s.endCal ch c).wr (Obj.CONV_STATE ch) 0 else s.endCal ch c)
      else
        let s := s.endCal ch c
        let reason := calReason off gain skew bw sourceOk
        if reason = 0 then
          let take (l : List Int) := (List.range 64).map fun j => l.getD j 0
          let f : FactorSet := FactorSet.seal
            { seq := (s.chan ch).nextSet, time := s.timeNow, tj := tj, fw := s.rd Obj.DEV_FW_VERSION
              off := take off, gain := take gain, skew := take skew, bw := take bw }
          ((s.updChan ch fun x => { x with storing := some f }).putFactors ch f).wr (Obj.CONV_CAL_STATUS ch) 2
        else
          let s := s.calFail ch reason
          if c.powered then s.wr (Obj.CONV_STATE ch) 0 else s

/-- CAL_SET_STORED (R38, R39): the inactive one of A and B holds the set; read back correctly, the pointer switches to it. A
write that does not read back leaves a place whose CRC is wrong, fails the calibration and the stored set is loaded again (log entry
14). DESIGN CHOICE: while F is active neither A nor B is, and A is written over (log entry 58). -/
def execCalSetStored (ch : Nat) (readBackOk : Bool) (s : State) : Host.Outcome State Fault Refusal :=
  done s <|
    match (s.chan ch).storing with
    | none => s
    | some f =>
      if Nat.ble 4 ch then s
      else
        let i := if s.rd (Obj.CONV_SET_ACTIVE ch) = 0 then 1 else 0
        let s := s.updChan ch fun x =>
          { x with storing := none, sets := x.sets.set i (if readBackOk then f else { f with crc := f.crc.xor 1 })
                   pointer := if readBackOk then i else x.pointer }
        let s := if !s.rdB (Obj.CONV_ENABLE ch) && !s.convFenced ch then s.wr (Obj.CONV_STATE ch) 0 else s
        if readBackOk then (((s.showSet ch i).wr (Obj.CONV_CAL_STATUS ch) 3).advise ch).calDone ch true
        else (s.putFactors ch (s.baseSet ch)).calFail ch 0

/-- Calibration of a channel is abandoned with a reason (R42 CLOCK 6, R43 POWER 7): the previous set stays in force. -/
def State.abandonCal (s : State) (ch reason : Nat) : State :=
  match (s.chan ch).cal with
  | none => s
  | some c =>
    if c.abandoned then s
    else (s.updChan ch fun x => { x with cal := some { c with abandoned := true } }).calFail ch reason

/-- Whatever calibration the channel is at is abandoned for power (R43): one that runs; one whose set is being stored, the set before
kept; one that waits for a handover, which does not begin. -/
def State.abandonAnyCal (s : State) (ch : Nat) : State :=
  let s := s.abandonCal ch 7
  let s := match (s.chan ch).storing with
    | none => s
    | some _ =>
      let s := s.updChan ch fun x => { x with storing := none }
      (s.putFactors ch (s.baseSet ch)).calFail ch 7
  let mine := s.conv.calWait.filter fun w => w.2.1.contains ch
  if mine.isEmpty then s
  else
    let s := { s with conv := { s.conv with calWait := s.conv.calWait.filter fun w => !w.2.1.contains ch } }
    mine.foldl (fun s w =>
      (w.2.1.foldl (fun (s : State) c =>
        (s.wrAll [(Obj.CONV_CAL_STATUS c, 4), (Obj.CONV_CAL_REASON c, 7)]).event 2 254 0x0100 c 7) s).finish w.1 .internal) s

/-! ## The clock withholds data (R35, R301, R304) -/

/-- The converters withhold data from tick a on, as a clock interval; calibrations are abandoned (R42). -/
def State.clockWithhold (s : State) (a : Nat) : State :=
  (List.range 4).foldl (fun s ch =>
    if !s.rdB (Obj.CONV_ENABLE ch) || s.convFenced ch then s.abandonCal ch 6
    else
      let s := s.abandonCal ch 6
      let s := s.updChan ch fun x =>
        { x with
          clockHold := true
          withheld := if x.started then (match x.withheld with
            | some (b, _) => some (b, true)
            | none => some (a, true)) else none }
      (s.wr (Obj.CONV_STATE ch) 4).tunersRead ch 3) s

/-- The gate opens: data resumes at tick a. -/
def State.clockResume (s : State) (a : Nat) : State :=
  (List.range 4).foldl (fun s ch =>
    if (s.chan ch).clockHold then
      let s := s.updChan ch fun x => { x with clockHold := false, resumeAt := max x.resumeAt a }
      if (s.chan ch).started then s else s.delayFirst ch a
    else s) s

/-! ## Tracking (R44 to R46) -/

/-- The channel's power is at least −40 dBFS over what an update looks at: a sine of full scale has a mean square of 2,048² / 2. -/
def TrackSum.loud (k : TrackSum) : Bool := k.n != 0 && Nat.ble (k.n * 2097152) (k.power * 10000)

/-- TRACKING_UPDATE (R45): at its interval, new factors of one kind apply to all 64 sub-converters at one block boundary, each
moved by at most a step towards what was estimated and held within its bound of the stored set. Blocks with a saturated sample are
ignored (R31); below the input condition of Table 2.5 gain and skew are held. `bandOk`: the power between 1 and 15 GHz is at least
−40 dBFS too, which skew asks. -/
def execTrackingUpdate (ch kind : Nat) (target : List Int) (bandOk : Bool) (s : State) : Host.Outcome State Fault Refusal :=
  done s <|
    let due := Nat.ble ((s.chan ch).trackAt.getD kind 0) s.wall
    if Nat.ble 4 ch || Nat.ble 3 kind || !due || !s.rdB (Obj.CONV_TRACK_ENABLE ch) || s.rd (Obj.CONV_STATE ch) != 2 then s
    else
      let f := s.baseSet ch
      let k := (s.chan ch).track.getD kind {}
      let s := s.updChan ch fun x =>
        { x with track := x.track.set kind {}, trackAt := x.trackAt.set kind (s.wall + (if kind = 0 then 10 else 100) * tpms) }
      if k.n = 0 ∨ (kind ≠ 0 ∧ k.loud = false) ∨ (kind = 2 ∧ bandOk = false) then s
      else
        let s := (List.range 64).foldl (fun (s : State) j =>
          let cur := s.rdI (factorKey ch kind j)
          let want := cur + clampI (-(trackStep kind)) (trackStep kind) (target.getD j cur - cur)
          s.wrI (factorKey ch kind j)
            (clampI (f.factor kind j - trackBound kind) (f.factor kind j + trackBound kind) want)) s
        let s := s.updChan ch fun x => { x with status := 2 }
        (s.wrI (Obj.CONV_TRACK_DRIFT ch kind) (s.drift ch kind)).advise ch

/-! ## The SYNC grid (R48 to R52) -/

/-- Change the converter group's record. -/
def State.updConv (s : State) (f : ConvGlobal → ConvGlobal) : State := { s with conv := f s.conv }

/-- P in force. -/
def State.gridPeriod (s : State) : Nat := max 1 (s.rd Obj.CONV_SYNC_PERIOD)

/-- The first boundary of the grid at or above a tick. -/
def State.boundaryFrom (s : State) (epoch t : Nat) : Nat :=
  if Nat.ble t epoch then epoch else epoch + ceilDiv (t - epoch) s.gridPeriod * s.gridPeriod

/-- CONV_SYNC_NEXT: the next boundary at least 1 s ahead; 0 while no grid is held (R52). -/
def State.syncNext (s : State) : Nat :=
  match s.conv.grid with
  | some e => if s.rd Obj.CONV_SYNC_MODE = 0 then 0 else s.boundaryFrom e (s.tick + tps)
  | none => 0

/-- A write of CONV_SYNC_MODE (R50, R52): OFF releases the grid and cancels a waiting ALIGN; CHECK is entered only by ALIGN; ALIGN waits
for a SYNC_IN edge for 10 s. -/
def State.syncModeCmd (s : State) (v : Nat) (r : Req) : State :=
  match v with
  | 0 =>
    let s := match s.conv.align with
      | some (a, _, _) => s.finish a .busy
      | none => s
    ((s.updConv fun c => { c with align := none, grid := none, syncOut := none }).wrAll
      [(Obj.CONV_SYNC_MODE, 0), (Obj.CONV_SYNC_STATUS, 0)]).answer r .ok
  | 1 =>
    if s.conv.align.isSome then s.answer r .busy
    else if s.rd Obj.CONV_SYNC_MODE = 1 then s.answer r .ok else s.answer r .range
  | _ =>
    if s.conv.align.isSome || s.anyFeeds then s.answer r .busy
    else
      let mode := s.rd Obj.CONV_SYNC_MODE
      ((s.accept r).updConv fun c => { c with align := some (r, mode, s.wall + 10 * tps) }).wrAll
        [(Obj.CONV_SYNC_MODE, 2), (Obj.CONV_SYNC_STATUS, 1)]

/-- SYNC_ALIGN_CMD. -/
def execSyncAlignCmd (sess tag : Nat) (s : State) : Host.Outcome State Fault Refusal :=
  done s (s.direct sess tag Obj.CONV_SYNC_MODE 2 fun r s => s.syncModeCmd 2 r)

/-- Device time keeps its value while the tick index takes a new one; before the first anchor it follows the index
(R322). -/
def Plumb.renumber (x : Plumb) (old new state : Nat) : Plumb :=
  if state = 0 then { x with pieces := [{ start := 0, time := 0 }] }.aim new
  else
    let p := (x.pieces.head?).getD { start := 0, time := 0 }
    { x with pieces := [{ p with start := placeOf new 0, time := x.timeAt (placeOf old 0) }] }

/-- A channel goes on when tick index `old` becomes t: what it still settles, calibrates or waits for lasts as long as before. -/
def Chan.renumber (x : Chan) (old t : Nat) : Chan :=
  let later (a : Nat) : Nat := if old < a then t + (a - old) else t
  let first := roundUp (later x.firstAt) 64
  { x with
    hist := [], lastRaw := none, entered := first, nextBlock := first / 64, firstAt := first
    withheld := if x.held then x.withheld.map fun w => (t, w.2) else none
    resumeAt := later x.resumeAt, slips := [], drops := none
    cal := x.cal.map fun c => { c with start := later c.start, end_ := later c.end_ } }

/-- The tick index takes a value: channels, rings and device time go on from it, and every tuner, stopped by then, is cleared (R74). -/
def State.renumber (s : State) (t : Nat) : State :=
  let old := s.tick
  let s := { s with plumb := s.plumb.renumber s.tick t (s.rd Obj.PLMB_TIME_STATE), tick := t }
  let s := (List.range 4).foldl (fun s ch => s.updChan ch fun x => x.renumber old t) s
  let s := (List.range 16).foldl (fun s i => s.updTuner i fun _ => {}) s
  (List.range 20).foldl State.discardRing s

/-- SYNC_ALIGN_EDGE (R50): the awaited edge is captured: the modulator restarts from its seed, the tick index becomes
CONV_SYNC_LOAD, every ring's content is discarded, the mode becomes CHECK and the request completes. -/
def execSyncAlignEdge (s : State) : Host.Outcome State Fault Refusal :=
  done s <|
    match s.conv.align with
    | none => s
    | some (r, _, dl) =>
      if Nat.ble dl s.wall || !s.masterLocked || (r.sess == 254 && s.anyFeeds) then s
      else
        let load := s.rd Obj.CONV_SYNC_LOAD
        let s := s.renumber load
        let s := { s with clk := { s.clk with seededAt := load } }
        let s := s.updConv fun c =>
          { c with align := none, grid := some load, nextCheck := load + s.gridPeriod, nextOut := load }
        (s.wr Obj.CONV_SYNC_MODE 1).finish r .ok

/-- SYNC_ALIGN_TIMEOUT (R50): no edge within 10 s. A grid that is kept is predicted again from the present tick on. -/
def execSyncAlignTimeout (s : State) : Host.Outcome State Fault Refusal :=
  done s <|
    match s.conv.align with
    | none => s
    | some (r, mode, dl) =>
      if Nat.blt s.wall dl then s
      else
        let s := match s.conv.grid with
          | some e => s.updConv fun c => { c with nextCheck := s.boundaryFrom e s.tick, nextOut := s.boundaryFrom e s.tick }
          | none => s
        ((s.updConv fun c => { c with align := none }).wrAll [(Obj.CONV_SYNC_MODE, mode), (Obj.CONV_SYNC_STATUS, 4)]).finish r .busy

/-- SYNC_MODE_OFF. -/
def execSyncModeOff (sess tag : Nat) (s : State) : Host.Outcome State Fault Refusal :=
  done s (s.direct sess tag Obj.CONV_SYNC_MODE 0 fun r s => s.syncModeCmd 0 r)

/-- SYNC_MODE_CHECK. -/
def execSyncModeCheck (sess tag : Nat) (s : State) : Host.Outcome State Fault Refusal :=
  done s (s.direct sess tag Obj.CONV_SYNC_MODE 1 fun r s => s.syncModeCmd 1 r)

/-- A check of a predicted boundary fails (R51). -/
def State.boundaryFails (s : State) (b : Nat) : State :=
  let s := (List.range 4).foldl (fun s ch => s.updChan ch fun x => { x with slips := b :: x.slips }) s
  ((s.wr Obj.CONV_SYNC_STATUS 3).count Obj.CONV_SYNC_ERR).event 2 254 0x0102 (b / 2 ^ 36) (b % 2 ^ 36)

/-- Failures among the edges captured about a prediction, given as their distances from it in reference periods (R51): each edge
elsewhere, and the want of one within ±1. -/
def edgeFailures (edges : List Int) : Nat :=
  (edges.filter fun e => e != 0).length + b2n (!(edges.any fun e => decide (-1 ≤ e) && decide (e ≤ 1)))

/-- SYNC_CHECK_BOUNDARY (R51): at a predicted boundary every edge captured nearer to it than to another passes or fails; the
modulator restarts from its seed (R296). -/
def execSyncCheckBoundary (edges : List Int) (s : State) : Host.Outcome State Fault Refusal :=
  done s <|
    match s.conv.grid with
    | none => s
    | some e =>
      let b := s.conv.nextCheck
      if s.rd Obj.CONV_SYNC_MODE != 1 || Nat.blt s.tick b then s
      else
        let s := { s with clk := { s.clk with seededAt := b } }
        let s := s.updConv fun c => { c with nextCheck := s.boundaryFrom e (b + 1) }
        let n := edgeFailures edges
        if n = 0 then s.wr Obj.CONV_SYNC_STATUS 2 else (List.range n).foldl (fun s _ => s.boundaryFails b) s

/-- SYNC_OUT_PULSE (R52): 64 ticks wide, 4,096 ticks after each predicted boundary. -/
def execSyncOutPulse (s : State) : Host.Outcome State Fault Refusal :=
  done s <|
    match s.conv.grid with
    | none => s
    | some e =>
      let b := s.conv.nextOut
      if s.rd Obj.CONV_SYNC_MODE != 1 || Nat.blt s.tick (b + 4096) then s
      else
        let s := s.updConv fun c => { c with nextOut := s.boundaryFrom e (b + 1) }
        if s.rdB Obj.CONV_SYNC_OUT_EN then s.updConv fun c => { c with syncOut := some (b + 4096, b + 4160) } else s

/-! ## Board path (R53, R54) -/

/-- The labels' shift and the phase trim of a path delay (R53): whole ticks to the nearest, and the rest, of 31,250 fs a tick, in steps
of 10 fs. DESIGN CHOICE: the rest is rounded to its step convergently (log entry 58). -/
def pathSplit (fs : Nat) : Nat × Int :=
  let n := (fs + 15625) / 31250
  (n, 10 * roundConv ((fs : Int) - n * 31250) 10)

/-- A channel's path delay takes effect (R53). -/
def State.applyPath (s : State) (ch : Nat) : State :=
  let p := pathSplit (s.rd (Obj.CONV_PATH_DELAY ch))
  s.updChan ch fun x => { x with shift := p.1, trim := p.2 }

/-- A write of CONV_PATH_DELAY (R53). -/
def State.pathDelay (s : State) (ch v : Nat) (r : Req) : State :=
  if s.channelFeeds ch then s.answer r .busy
  else (((s.wr (Obj.CONV_PATH_DELAY ch) v).applyPath ch).markPs r.sess (Obj.CONV_PATH_DELAY ch)).answer r .ok

/-- CONV_PATH_DELAY_WRITE. -/
def execConvPathDelayWrite (sess tag ch v : Nat) (s : State) : Host.Outcome State Fault Refusal :=
  done s <| when (Nat.blt ch 4) (fun s => s.direct sess tag (Obj.CONV_PATH_DELAY ch) v fun r s => s.pathDelay ch v r) s

/-- BOARD_PATH_SKEW_CMD (R54): CONV_CAL_ALL with value 2. -/
def execBoardPathSkewCmd (sess tag : Nat) (s : State) : Host.Outcome State Fault Refusal :=
  done s (s.direct sess tag Obj.CONV_CAL_ALL 2 fun r s => s.calAllCmd 2 r)

/-- BOARD_PATH_SKEW_DONE (R54): every delay is written, or none. -/
def execBoardPathSkewDone (arrivals : List Nat) (combOk : Bool) (s : State) : Host.Outcome State Fault Refusal :=
  done s <|
    match s.conv.skew with
    | none => s
    | some (r, until_) =>
      if Nat.blt s.wall until_ then s
      else
        let a := (List.range 4).map fun i => arrivals.getD i 0
        let lo := a.foldl min (a.headD 0)
        let hi := a.foldl max 0
        let s := s.updConv fun c => { c with skew := none }
        if !combOk || Nat.blt (lo + 8000000) hi then s.finish r .range
        else
          ((List.range 4).foldl (fun s ch =>
            ((s.wr (Obj.CONV_PATH_DELAY ch) (a.getD ch 0 - lo)).applyPath ch).markPs r.sess (Obj.CONV_PATH_DELAY ch)) s).finish r .ok

/-- What CALTONE_OUT carries: 0 nothing, 1 the sine, 2 the comb (R55): muted while a calibration runs, the comb during a path
measurement; muted before READY (R439). -/
def State.tone (s : State) : Nat :=
  if Nat.blt (s.rd Obj.DEV_STATE) 2 then 0 else if s.conv.skew.isSome then 2
  else if (List.range 4).any (fun ch => (s.chan ch).calRuns) then 0 else s.rd Obj.CONV_TONE_MODE

end Sys2Proof.Machine
end

