-- ==== Sys2Proof/Machine/Placement.lean ====
section
/-! DEFINITION. Small rings (R183): which configuration asks for them, where they are placed and when they are freed; and
the answers to claims and releases (R202, R249, R311). -/

namespace Sys2Proof.Machine

/-! ## Placement -/

/-- The small rings a configuration asks for, by the object that sizes them: side areas, retention rings, mover buffers,
layer buffers (Table 8.2) and an image's staging, while the engine holds it (R406). -/
def smallWants (get : Nat → Nat) : List (Nat × Nat) :=
  ((List.range 20).filterMap fun h =>
    if get (Obj.RSV_HIST_ENABLE h) = 1 then some (Obj.RSV_HIST_SIDE_LOG2 h, 2 ^ get (Obj.RSV_HIST_SIDE_LOG2 h)) else none) ++
  ((List.range 64).filterMap fun i =>
    let s := get (Obj.MOVE_BUF_LOG2 (32 + i))
    if s = 0 then none else some (Obj.MOVE_BUF_LOG2 (32 + i), 2 ^ s)) ++
  ((List.range 249).filterMap fun f =>
    let src := get (Obj.FLOW_SRC f)
    if get (Obj.FLOW_ENABLE f) = 1 && (get (Obj.FLOW_DIR f) == 1 || !(src == 1 || src == 6 || src == 7)) then
      some (Obj.FLOW_RETAIN_LOG2 f, 2 ^ get (Obj.FLOW_RETAIN_LOG2 f)) else none) ++
  ((List.range 4).filterMap fun l =>
    let s := get (Obj.SCAN_L_BUF_LOG2 l)
    if s = 0 then none else some (Obj.SCAN_L_BUF_LOG2 l, 2 ^ s)) ++
  (if get Obj.UPD_LENGTH = 0 then [] else [(Obj.UPD_LENGTH, 2 ^ 23)])

/-- Insertion in descending order of size, at equal size in ascending object (R183). -/
def wantIns (w : Nat × Nat) : List (Nat × Nat) → List (Nat × Nat)
  | [] => [w]
  | x :: l => if x.2 < w.2 ∨ (x.2 = w.2 ∧ w.1 < x.1) then w :: x :: l else x :: wantIns w l

/-- The lowest free aligned place for `words` words in a pan. -/
def placeIn (held : List SmallRing) (pan words : Nat) : Option Nat :=
  let mine := held.filter fun r => r.pan == pan
  if mine.isEmpty then some 0
  else ((List.range (2 ^ 24 / max 1 words)).find? fun i =>
    mine.all fun r => Nat.ble (r.off + r.words) (i * words) || Nat.ble ((i + 1) * words) r.off).map fun i => i * words

/-- Place one small ring in the pans that no history ring keeps, clear of every small ring that is allocated. -/
def placeOne (held : List SmallRing) (pans : List Nat) (key words : Nat) : Option SmallRing :=
  pans.findSome? fun pan => (placeIn held pan words).map fun off => ⟨pan, off, words, key⟩

/-- Pans of the history rings that a configuration keeps as they are. -/
def State.keptPans (s : State) (get : Nat → Nat) : List Nat :=
  ((List.range 20).map fun h =>
    if get (Obj.RSV_HIST_ENABLE h) = 1 && get (Obj.RSV_HIST_PANS h) == s.rd (Obj.RSV_HIST_PANS h) then (s.ring h).pans else []).flatten

/-- Pans that a configuration's history rings take. -/
def historyPans (get : Nat → Nat) : Nat :=
  (List.range 20).foldl (fun n h => if get (Obj.RSV_HIST_ENABLE h) = 1 then n + get (Obj.RSV_HIST_PANS h) else n) 0

/-- The small rings of a configuration, placed, or the first object in the placement order that does not fit (R183): a the
RSV_HIST_PANS of the lowest ring that is new or resized where the history rings themselves do not. -/
def State.placeSmalls (s : State) (get : Nat → Nat) : Except Nat (List SmallRing) :=
  let total := s.rd Obj.RSV_PANS_TOTAL
  let wants := smallWants get
  let kept := s.rsv.small.filter fun r => wants.any fun w => w.1 == r.owner && w.2 == r.words
  let new := (wants.filter fun w => !(kept.any fun r => r.owner == w.1)).foldr wantIns []
  let pans := (List.range total).filter fun q => !(s.keptPans get).contains q
  let room := total - historyPans get
  let leaving := s.rsv.small.filter fun r => !kept.contains r
  let firstRing := ((List.range 20).find? fun h => get (Obj.RSV_HIST_ENABLE h) == 1 &&
    ((s.ring h).pans.isEmpty || get (Obj.RSV_HIST_PANS h) != s.rd (Obj.RSV_HIST_PANS h))).getD 0
  if total < historyPans get || Nat.blt room ((kept.map SmallRing.pan).eraseDups.length) then .error (Obj.RSV_HIST_PANS firstRing)
  else new.foldl (fun (acc : Except Nat (List SmallRing)) w =>
    match acc with
    | .error k => .error k
    | .ok held =>
      match placeOne (held ++ leaving) pans w.1 w.2 with
      | none => .error w.1
      | some r => if Nat.ble (((r :: held).map SmallRing.pan).eraseDups.length) room then .ok (held ++ [r]) else .error w.1) (.ok kept)

/-- A word of the Reservoir's small rings. -/
def State.word (s : State) (a : Nat) : Nat := s.rsv.mem.get zeroDflt a

/-- Write a word of the small rings. -/
def State.putMem (s : State) (a w : Nat) : State := { s with rsv := { s.rsv with mem := s.rsv.mem.set zeroDflt a w } }

/-! ## Claims -/

/-- Units of a kind that a session holds. -/
def State.heldOf (s : State) (kind : UKind) (sess : Nat) : Nat :=
  (s.owners.filter fun o => o.unit.kind == kind && o.sess == sess).length

/-- The answers of R202 to a claim: OK for the owner itself and for a free unit within the quota, DENIED at the quota, LOCKED
where another session holds it, BUSY where none of the pool is free; the owner itself too meets its quota and a full pool. -/
def State.claim (s : State) (r : Req) (u : UnitId) (pool : List Nat) (quota : Nat) (took : State → State) : State :=
  match s.holder u with
  | some h =>
    if Nat.ble quota (s.heldOf u.kind r.sess) then s.answer r .denied
    else if !(pool.any fun i => (s.holder ⟨u.kind, i⟩).isNone) then s.answer r .busy
    else if h = r.sess then s.answer r .ok
    else s.answer r .locked (h % 8)
  | none =>
    if Nat.ble quota (s.heldOf u.kind r.sess) then s.answer r .denied
    else (took (s.own u r.sess true)).answer r .ok

/-- The answers to a release: LOCKED where another session holds the unit, DENIED where it is free. -/
def State.unclaim (s : State) (r : Req) (u : UnitId) (body : State → State) : State :=
  match s.holder u with
  | none => s.answer r .denied
  | some h => if h = r.sess then body s else s.answer r .locked (h % 8)

/-- What a session has staged for a unit is dropped. -/
def State.dropUnit (s : State) (u : UnitId) : State :=
  (List.range 8).foldl (fun s i => s.dropStaged i fun k => ownId k == u) s

end Sys2Proof.Machine
end

