-- ==== Sys2Proof/Machine/Movers.lean ====
section
/-! DEFINITION. Stream movers (chapter 9): descriptors, widths and swaps, addresses, the checks of a start, beats, errors and
the channel commands. A channel's progress shows at its events: a command, a completed descriptor, an error. -/

namespace Sys2Proof.Machine

/-- A mover's record. -/
def State.mover (s : State) (m : Nat) : Mover := at' s.movers m

/-- Change a mover's record. -/
def State.updMover (s : State) (m : Nat) (f : Mover → Mover) : State := { s with movers := s.movers.modify m f }

/-! ## Descriptors (Table 9.1) -/

/-- A word of a descriptor slot. -/
def Mover.word (x : Mover) (slot w : Nat) : Nat := x.slots.get zeroDflt (8 * slot + w)

/-- The fields of a descriptor. -/
structure Desc where
  srcSpace : Nat
  dstSpace : Nat
  srcWidth : Nat
  dstWidth : Nat
  swapOct : Bool
  swapHalf : Bool
  srcWrap : Nat
  dstWrap : Nat
  notify : Bool
  last : Bool
  src : Nat
  dst : Nat
  count : Nat
  next : Nat
  tag : Nat
  deriving DecidableEq, Repr, Inhabited

/-- A slot's descriptor. -/
def Mover.desc (x : Mover) (slot : Nat) : Desc :=
  let w := x.word slot 0
  { srcSpace := bitsOf w 35 32, dstSpace := bitsOf w 31 28, srcWidth := bitsOf w 27 25, dstWidth := bitsOf w 24 22
    swapOct := bitOf w 21, swapHalf := bitOf w 20, srcWrap := bitsOf w 19 15, dstWrap := bitsOf w 14 10
    notify := bitOf w 9, last := bitOf w 8, src := x.word slot 1, dst := x.word slot 2, count := x.word slot 3 % 2 ^ 25
    next := x.word slot 4 % 16, tag := x.word slot 5 % 2 ^ 32 }

/-- Every reserved field of a slot is zero (R209). -/
def Mover.reservedZero (x : Mover) (slot : Nat) : Bool :=
  x.word slot 0 % 256 == 0 && Nat.blt (x.word slot 3) (2 ^ 25) && Nat.blt (x.word slot 4) 16 &&
  Nat.blt (x.word slot 5) (2 ^ 32) && x.word slot 6 == 0 && x.word slot 7 == 0

/-! ## Widths and swaps (R206, R207) -/

/-- Octets of a beat in a width (Table 9.3). -/
def beatBytes (width : Nat) : Nat := match width with | 1 => 36 | 2 => 64 | 3 => 64 | 4 => 32 | _ => 36

/-- The number that octets spell, most significant first. -/
def ofOctets (l : List Nat) : Nat := l.foldl (fun n o => n * 256 + o % 256) 0

/-- The 8 words that a beat's octets hold in a width. -/
def beatWords (width : Nat) (o : List Nat) : List Nat :=
  match width with
  | 1 => let v := ofOctets (o.take 36); (List.range 8).map fun i => v / 2 ^ (36 * (7 - i)) % 2 ^ 36
  | 2 => (List.range 8).map fun i => ofOctets ((o.drop (8 * i)).take 8) % 2 ^ 36
  | 3 => (List.range 8).map fun i => ofOctets ((o.drop (8 * i)).take 8).reverse % 2 ^ 36
  | _ => (List.range 8).map fun i => ofOctets ((o.drop (4 * i)).take 4) % 2 ^ 32

/-- The octets of 8 words in a width. -/
def beatOctetsOf (width : Nat) (w : List Nat) : List Nat :=
  match width with
  | 1 => toOctets 36 (w.foldl (fun n x => n * 2 ^ 36 + x % 2 ^ 36) 0)
  | 2 => (w.map fun x => toOctets 8 (x % 2 ^ 36)).flatten
  | 3 => (w.map fun x => (toOctets 8 (x % 2 ^ 36)).reverse).flatten
  | _ => (w.map fun x => toOctets 4 (x % 2 ^ 32)).flatten

/-- SWAP_HALF: bits 35:18 and 17:0 change places. -/
def halfSwap (w : Nat) : Nat := w % 2 ^ 18 * 2 ^ 18 + w / 2 ^ 18 % 2 ^ 18

/-- SWAP_OCT: the octets of bits 31:0 in reverse; bits 35:32 stay. -/
def octSwap (w : Nat) : Nat := w / 2 ^ 32 % 16 * 2 ^ 32 + ofOctets (toOctets 4 (w % 2 ^ 32)).reverse

/-- The holding register's swaps: SWAP_HALF first. -/
def Desc.swaps (d : Desc) (w : Nat) : Nat :=
  let w := if d.swapHalf then halfSwap w else w
  if d.swapOct then octSwap w else w

/-! ## Addresses (R208) -/

/-- Word offset of beat k. -/
def beatAddr (addr wrap k : Nat) : Nat :=
  if wrap = 0 then addr + 8 * k else addr - addr % 2 ^ wrap + (addr + 8 * k) % 2 ^ wrap

/-- The word address of an offset in a memory space of the Reservoir: the channel's buffer, the buffer of the layer in bits 35:32, or the
retention ring of the flow in bits 35:28. -/
def State.spaceBase (s : State) (m space addr : Nat) : Nat :=
  if space = 1 then s.rd (Obj.MOVE_BUF_BASE m)
  else if space = 7 then ((s.small (Obj.FLOW_RETAIN_LOG2 (addr / 2 ^ 28))).map SmallRing.base).getD 0
  else s.rd (Obj.SCAN_L_BUF_BASE (addr / 2 ^ 32))

/-- An address's offset within its space (Table 9.2). -/
def spaceOff (space addr : Nat) : Nat :=
  if space = 2 then addr % 2 ^ 32 else if space = 6 then 8 * (addr % 2 ^ 31) else if space = 7 then addr % 2 ^ 28 else addr

/-- Words of the SRAM staging area: 32 MiB of 4.5 octets (R28). -/
def stagingWords : Nat := 7456540

/-- The position of a word of a history ring, modulo its length (R208). -/
def State.ringPlace (s : State) (addr k : Nat) : Nat :=
  (spaceOff 6 addr + 8 * k) % max 1 (s.rd (Obj.RSV_HIST_PANS (addr / 2 ^ 31)) * 2 ^ 24)

/-- The line of the line space that a beat touches, where its space lies in the Reservoir. -/
def State.beatLine (s : State) (m space addr wrap k : Nat) : Option Nat :=
  match space with
  | 1 | 2 | 7 => some ((s.spaceBase m space addr + beatAddr (spaceOff space addr) wrap k) / 64)
  | 6 => some (s.physLine (addr / 2 ^ 31) (s.ringPlace addr k / 64))
  | _ => none

/-! ## The checks of a start (R209) -/

/-- Slots reached from one, each once. -/
def Mover.reach (x : Mover) : Nat → List Nat → Nat → List Nat
  | 0, seen, _ => seen
  | fuel + 1, seen, slot =>
    if seen.contains slot then seen
    else if (x.desc slot).last then seen ++ [slot] else x.reach fuel (seen ++ [slot]) (x.desc slot).next

/-- A region of a memory space lies inside a buffer of `size` words. -/
def regionFits (addr wrap count size log : Nat) : Bool :=
  addr % 8 == 0 &&
  (if wrap = 0 then Nat.ble (addr + 8 * count) size
   else Nat.ble 12 wrap && Nat.ble wrap 24 && Nat.ble wrap log && Nat.ble ((addr / 2 ^ wrap + 1) * 2 ^ wrap) size)

/-- One side of a descriptor passes: its space may be used by the session, or by firmware (254), in that role, its width fits, and what it
names is the session's and large enough. -/
def State.sideOk (s : State) (sess m space width addr wrap count : Nat) (source : Bool) : Bool :=
  let wrapOk := wrap == 0 || (Nat.ble 12 wrap && Nat.ble wrap 24)
  wrapOk &&
  (match space with
   | 5 => sess == 254 && width == 0 && regionFits addr wrap count stagingWords 24
   | 6 => sess == 254 && source && width == 0 && wrap == 0 && Nat.blt (addr / 2 ^ 31) 20 && !(s.ring (addr / 2 ^ 31)).pans.isEmpty &&
     Nat.blt (spaceOff 6 addr) (s.ringSize (addr / 2 ^ 31))
   | 7 =>
     match s.small (Obj.FLOW_RETAIN_LOG2 (addr / 2 ^ 28)) with
     | some r => sess == 254 && width == 0 && regionFits (addr % 2 ^ 28) wrap count r.words (log2 r.words)
     | none => false
   | 1 =>
     let log := s.rd (Obj.MOVE_BUF_LOG2 m)
     sess != 254 && width == 0 && log != 0 && regionFits addr wrap count (2 ^ log) log
   | 2 =>
     let l := addr / 2 ^ 32
     let log := s.rd (Obj.SCAN_L_BUF_LOG2 l)
     width == 0 && Nat.blt l 4 && s.holder ⟨.layer, l⟩ == some sess && log != 0 &&
       regionFits (addr % 2 ^ 32) wrap count (2 ^ log) log
   | 3 => source && Nat.ble 1 width && Nat.ble width 4 && Nat.ble addr 248 && s.holder ⟨.flow, addr⟩ == some sess
   | 4 => !source && Nat.ble 1 width && Nat.ble width 4 && Nat.ble addr 248 && s.holder ⟨.flow, addr⟩ == some sess
   | _ => false)

/-- A slot passes every check of R209. -/
def State.slotOk (s : State) (sess m slot : Nat) : Bool :=
  let x := s.mover m
  let d := x.desc slot
  x.reservedZero slot && Nat.ble 1 d.count && Nat.ble d.count (2 ^ 24) &&
  s.sideOk sess m d.srcSpace d.srcWidth d.src d.srcWrap d.count true &&
  s.sideOk sess m d.dstSpace d.dstWidth d.dst d.dstWrap d.count false

/-! ## Beats -/

/-- The descriptor in progress. -/
def State.curDesc (s : State) (m : Nat) : Desc := (s.mover m).desc (s.rd (Obj.MOVE_DESC_CUR m))

/-- Room in a transmit flow's retention ring, in words: unreleased frames and what waits to be cut fill it (R260). -/
def State.retainRoom (s : State) (f : Nat) : Nat :=
  let x := s.flow f
  2 ^ s.rd (Obj.FLOW_RETAIN_LOG2 f) - (x.frames.foldl (fun n g => n + g.words.length) 0 + x.tail.length)

/-- The mark of what a session's channel uses: 0 for its buffer, 1 + l for layer l's, 5 + f for flow f. -/
def spaceMark (space addr : Nat) : Option Nat :=
  match space with
  | 1 => some 0
  | 2 => some (1 + addr / 2 ^ 32)
  | 3 | 4 => some (5 + addr)
  | _ => none

/-- What the slot in progress meets that is gone: the code (3 a space, 4 a flow) and the direction (Table 9.5). -/
def State.goneDir (s : State) (m : Nat) : Option (Nat × Nat) :=
  let d := s.curDesc m
  let hit (o : Option Nat) : Option Nat := match o with
    | some k => if (s.mover m).gone.contains k then some (if k < 5 then 3 else 4) else none
    | none => none
  match hit (spaceMark d.srcSpace d.src), hit (spaceMark d.dstSpace d.dst) with
  | some c, _ => some (c, 0)
  | none, some c => some (c, 1)
  | none, none => none

/-- A beat of the slot in progress that meets a failed pseudo-channel: its read is uncorrectable, its write fails (R196, R212). -/
def State.beatFault (s : State) (m k : Nat) : Option (Nat × Nat) :=
  let d := s.curDesc m
  let dead (o : Option Nat) : Bool := match o with
    | some l => s.deadLine l
    | none => false
  if dead (s.beatLine m d.srcSpace d.src d.srcWrap k) then some (1, 0)
  else if dead (s.beatLine m d.dstSpace d.dst d.dstWrap k) then some (2, 1) else none

/-- Beats of the descriptor in progress that can move now, of at most n: none where what it uses is gone, or while a request of the
channel waits for its place (R14, R190). -/
def State.beatsReady (s : State) (m n : Nat) : Nat :=
  let d := s.curDesc m
  let held (o : Option Nat) : Bool := match o with
    | some l => !s.mayAsk (s.linePch l) (moverRq m)
    | none => false
  let k := (s.mover m).beat
  let n := if (s.goneDir m).isSome || held (s.beatLine m d.srcSpace d.src d.srcWrap k) || held (s.beatLine m d.dstSpace d.dst d.dstWrap k)
    then 0 else n
  let a := if d.srcSpace = 3 then (s.flow d.src).rxWords.length / beatBytes d.srcWidth else n
  let b := if d.dstSpace = 4 then (if s.flowRuns d.dst then s.retainRoom d.dst / 8 else 0) else n
  min n (min a b)

/-- The word at a position of a history ring: of the newest line written there; one that no line holds is a free value. -/
def State.ringWord (s : State) (h p : Nat) : Nat :=
  let lines := max 1 (s.rd (Obj.RSV_HIST_PANS h) * 2 ^ 18)
  match (s.ring h).lines.find? fun l => (List.range l.n).any fun i => (l.no + i) % lines == p / 64 with
  | some l => ((l.words.find? fun q => q.1 == p % 64).map fun q => q.2.w).getD 0
  | none => Config.freeNat (s.free + p) % 2 ^ 36

/-- Move beat k: 8 words pass the holding register. Octets of a receive flow are released once written, unless kept. A transmit flow
takes the words: its stream is laid out in FLOW_WIDTH (R218), and what another DST_WIDTH would mean there is not stated, so that of the
destination's layout only the bits that width 4 lacks show (log entry 61). -/
def State.moveBeat (s : State) (m k skip : Nat) (keep : Bool) : State :=
  let d := s.curDesc m
  let words :=
    if d.srcSpace = 3 then beatWords d.srcWidth ((s.flow d.src).rxWords.drop (skip * beatBytes d.srcWidth))
    else if d.srcSpace = 5 then (List.range 8).map fun i => s.rsv.staging.get zeroDflt (beatAddr d.src d.srcWrap k + i)
    else if d.srcSpace = 6 then (List.range 8).map fun i => s.ringWord (d.src / 2 ^ 31) (s.ringPlace d.src k + i)
    else
      let a := s.spaceBase m d.srcSpace d.src + beatAddr (spaceOff d.srcSpace d.src) d.srcWrap k
      (List.range 8).map fun i => s.word (a + i)
  let s := if d.srcSpace = 3 && !keep then
      s.updFlow d.src fun x => { x with rxWords := x.rxWords.drop (beatBytes d.srcWidth) } else s
  let words := words.map d.swaps
  if d.dstSpace = 5 then
    (List.range 8).foldl (fun (s : State) i =>
      { s with rsv := { s.rsv with staging := s.rsv.staging.set zeroDflt (beatAddr d.dst d.dstWrap k + i) (words.getD i 0) } }) s
  else if d.dstSpace = 4 then
    s.updFlow d.dst fun x => words.foldl (fun x w => x.putWord s.wall (if d.dstWidth = 4 then w % 2 ^ 32 else w)) x
  else
    let a := s.spaceBase m d.dstSpace d.dst + beatAddr (spaceOff d.dstSpace d.dst) d.dstWrap k
    (List.range 8).foldl (fun s i => s.putMem (a + i) (words.getD i 0)) s

/-- The channel's requests for the lines of beats b to b + n − 1, as class 4 requester (R184, R204): those of the last 16 beats, whose
writes may be outstanding (R210). -/
def State.askBeats (s : State) (m b n : Nat) : State :=
  let d := s.curDesc m
  let lines (space addr wrap : Nat) : List Nat :=
    ((List.range (min n 16)).filterMap fun i => s.beatLine m space addr wrap (b + (n - min n 16) + i)).dedup
  let s := (lines d.srcSpace d.src d.srcWrap).foldl (fun s l => s.access l (moverRq m) true) s
  (lines d.dstSpace d.dst d.dstWrap).foldl (fun s l => s.access l (moverRq m) false) s

/-- Move the next n beats of the descriptor in progress. -/
def State.moveBeats (s : State) (m n : Nat) : State :=
  let b := (s.mover m).beat
  let s := s.askBeats m b n
  let s := (List.range n).foldl (fun s i => s.moveBeat m (b + i) 0 false) s
  let s := s.updMover m fun x => { x with beat := b + n }
  (s.wr (Obj.MOVE_WORDS m) (s.rd (Obj.MOVE_WORDS m) + 8 * n)).wr (Obj.MOVE_BEATS_LEFT m) ((s.curDesc m).count - (b + n))

/-- A slot begins. -/
def State.beginSlot (s : State) (m slot : Nat) : State :=
  let s := s.updMover m fun x => { x with beat := 0, ahead := 0, halt := none, retried := false }
  (s.wr (Obj.MOVE_DESC_CUR m) slot).wr (Obj.MOVE_BEATS_LEFT m) ((s.mover m).desc slot).count

/-- The slot in progress is over: its NEXT begins, or the channel reads done after LAST. -/
def State.nextSlot (s : State) (m : Nat) : State :=
  let d := s.curDesc m
  if d.last then s.wr (Obj.MOVE_STATE m) 5 else s.beginSlot m d.next

/-- The slot in progress completes (R210). -/
def State.completeSlot (s : State) (m : Nat) : State :=
  let d := s.curDesc m
  let s := (s.wr (Obj.MOVE_DONE_TAG m) d.tag).wr (Obj.MOVE_DONE_COUNT m) ((s.rd (Obj.MOVE_DONE_COUNT m) + 1) % 2 ^ 32)
  let s := if d.notify then s.notify (s.rd (Obj.MOVE_OWNER m)) 1 m [d.tag] else s
  s.nextSlot m

/-- The channel halts on error at beat k (R213, R214): writes already outstanding for up to 15 later beats are answered, how
many is left open. The owner is notified whatever NOTIFY holds (R215). -/
def State.failBeat (s : State) (m k code dir : Nat) : State :=
  let d := s.curDesc m
  let s := s.moveBeats m (k - (s.mover m).beat)
  let ahead := if dir = 1 then min (s.freeN % 16) (min (d.count - k - 1) (s.beatsReady m (d.count - k) - 1)) else 0
  let s := s.used 1
  let s := (List.range ahead).foldl (fun s i => s.moveBeat m (k + 1 + i) (i + 1) true) s
  let s := s.updMover m fun x => { x with ahead := ahead, halt := none }
  let space := if dir = 0 then d.srcSpace else d.dstSpace
  let wrapOf (space wrap : Nat) : Nat := if space = 3 ∨ space = 4 then 0 else wrap
  let off := if dir = 0 then (if d.srcSpace = 6 then s.ringPlace d.src k else beatAddr (spaceOff d.srcSpace d.src) (wrapOf d.srcSpace d.srcWrap) k)
    else beatAddr (spaceOff d.dstSpace d.dst) (wrapOf d.dstSpace d.dstWrap) k
  let final := b2n (k + 1 == d.count)
  let s := s.wrAll [(Obj.MOVE_STATE m, 4), (Obj.MOVE_ERR_CODE m, code), (Obj.MOVE_ERR_DIR m, dir),
    (Obj.MOVE_ERR_ADDR m, space * 2 ^ 60 + off % 2 ^ 36), (Obj.MOVE_ERR_BEATS m, k), (Obj.MOVE_ERR_DESC m, s.rd (Obj.MOVE_DESC_CUR m)),
    (Obj.MOVE_ERR_FINAL m, final), (Obj.MOVE_BEATS_LEFT m, d.count - (k + 1 + ahead)),
    (Obj.MOVE_WORDS m, s.rd (Obj.MOVE_WORDS m) + 8 * ahead)]
  let s := s.count (Obj.MOVE_ERR_COUNT m)
  let s := match (if code = 1 then s.beatLine m d.srcSpace d.src d.srcWrap k else none) with
    | some l => s.badLine l
    | none => s
  if m < 32 then s else s.notify (s.rd (Obj.MOVE_OWNER m)) 2 m [code + 256 * dir + 512 * final]

/-- The records that beats k and later of the slot in progress carry are lost with a skipped descriptor of firmware's (R215): frames of the
flow whose retention ring they lie in (R260). -/
def State.loseBeats (s : State) (m k : Nat) : State :=
  let d := s.curDesc m
  let lose (s : State) (space addr wrap : Nat) : State :=
    if space != 7 then s
    else
      let f := addr / 2 ^ 28
      let size := ((s.small (Obj.FLOW_RETAIN_LOG2 f)).map SmallRing.words).getD 1
      let hit (a : Nat) : Bool := (List.range (d.count - k)).any fun i =>
        let o := beatAddr (spaceOff 7 addr) wrap (k + i)
        Nat.ble o a && Nat.blt a (o + 8)
      s.loseFrames f fun fr => (List.range fr.words.length).any fun i => hit ((fr.pos + i) % size)
  lose (lose s d.srcSpace d.src d.srcWrap) d.dstSpace d.dst d.dstWrap

/-- Firmware handles an error of its own channel (R215): an event log entry, whose code and class the catalogue does not list, one retry,
then a skip with its records lost. -/
def State.firmwareHandles (s : State) (m : Nat) : State :=
  let c := s.freeN
  let s := (s.used 1).event (c % 2) 254 (c / 2 % 65536) m
  if (s.mover m).retried then ((s.loseBeats m (s.rd (Obj.MOVE_ERR_BEATS m))).wr (Obj.MOVE_STATE m) 2).nextSlot m
  else
    let s := s.updMover m fun x => { x with retried := true, beat := s.rd (Obj.MOVE_ERR_BEATS m), ahead := 0 }
    (s.wr (Obj.MOVE_BEATS_LEFT m) ((s.curDesc m).count - (s.mover m).beat)).wr (Obj.MOVE_STATE m) 2

/-- A beat of the slot in progress fails; firmware handles its own at once. -/
def State.failed (s : State) (m k code dir : Nat) : State :=
  let s := s.failBeat m k code dir
  if m < 32 then s.firmwareHandles m else s

/-- The next n beats move, up to the first that fails. -/
def State.advance (s : State) (m n : Nat) : State :=
  let b := (s.mover m).beat
  let bad := if s.rsv.pch.any Pch.failed then (List.range n).find? fun i => (s.beatFault m (b + i)).isSome else none
  match bad with
  | none => s.moveBeats m n
  | some i => match s.beatFault m (b + i) with
    | some (code, dir) => s.failed m (b + i) code dir
    | none => s

/-- What a chain under way uses is gone (Table 9.5, codes 3 and 4): the channel fails before its first beat after that which uses it. -/
def State.loseUse (s : State) (m mark : Nat) : State :=
  let st := s.rd (Obj.MOVE_STATE m)
  if st = 2 || st = 3 || st = 4 then
    let s := s.updMover m fun x => { x with gone := mark :: x.gone.filter fun k => k != mark }
    match s.goneDir m with
    | some (code, dir) => if st = 2 then s.failBeat m (s.mover m).beat code dir else s
    | none => s
  else s

/-- A flow is closed: channels whose chains use it fail with FLOW. -/
def State.moversLoseFlow (s : State) (f : Nat) : State := (List.range 64).foldl (fun s i => s.loseUse (32 + i) (5 + f)) s

/-- A layer's buffer is gone. -/
def State.moversLoseLayer (s : State) (l : Nat) : State :=
  (List.range 64).foldl (fun s i => s.loseUse (32 + i) (1 + l)) s

/-- The slot in progress completes where every beat has moved without an error. -/
def State.completeIf (s : State) (m n : Nat) : State :=
  if s.rd (Obj.MOVE_STATE m) = 2 && (s.mover m).beat == n then s.completeSlot m else s

/-- Beats move up to the boundary at which a halt takes effect; a halt after the last beat lets the descriptor complete. -/
def State.moverHaltAt (s : State) (m beats : Nat) : State :=
  let d := s.curDesc m
  let b := (s.mover m).beat
  let s := s.updMover m fun x => { x with halt := none }
  (s.advance m (s.beatsReady m (min beats d.count - b))).completeIf m d.count

/-- A halt has taken effect. -/
def State.halted (s : State) (m beats : Nat) : State :=
  let s := s.moverHaltAt m beats
  if s.rd (Obj.MOVE_STATE m) = 2 then s.wr (Obj.MOVE_STATE m) 3 else s

/-- DESCRIPTOR_COMPLETE (R210): the beats that can move do; once all have, the slot completes. While a halt takes effect the writes
outstanding are answered, and the channel then reads halted (R211). -/
def execDescriptorComplete (m : Nat) (s : State) : Host.Outcome State Fault Refusal :=
  done s <|
    if s.rd (Obj.MOVE_STATE m) != 2 || Nat.ble 96 m then s
    else
      let d := s.curDesc m
      let x := s.mover m
      match s.goneDir m with
      | some (code, dir) => s.failed m x.beat code dir
      | none =>
        match x.halt with
        | some b => s.halted m b
        | none => (s.advance m (s.beatsReady m (d.count - x.beat))).completeIf m d.count

/-- BEAT_ERROR (R212 to R215): beat `beat` of the slot in progress fails with code 1 (ECC, a read) or 2 (WRITE_FAIL). A later beat
whose write was outstanding is counted only. An error that comes while a halt takes effect wins (R211). -/
def execBeatError (m beat code dir : Nat) (s : State) : Host.Outcome State Fault Refusal :=
  done s <|
    if Nat.ble 96 m || !((code == 1 && dir == 0) || (code == 2 && dir == 1)) then s
    else
      let x := s.mover m
      let d := s.curDesc m
      if s.rd (Obj.MOVE_STATE m) = 4 && dir == 1 && Nat.blt (s.rd (Obj.MOVE_ERR_BEATS m)) beat &&
        Nat.ble beat (s.rd (Obj.MOVE_ERR_BEATS m) + x.ahead) then s.count (Obj.MOVE_ERR_COUNT m)
      else if s.rd (Obj.MOVE_STATE m) != 2 || Nat.blt beat x.beat || Nat.ble d.count beat ||
        Nat.ble (s.beatsReady m (d.count - x.beat)) (beat - x.beat) then s
      else s.failed m beat code dir

/-! ## Commands (R209, R211) -/

/-- Start: every slot reached is checked. -/
def State.moverStart (s : State) (m : Nat) (r : Req) : State :=
  let st := s.rd (Obj.MOVE_STATE m)
  if st != 1 && st != 5 && !(m < 32 && st == 0) then s.answer r .busy
  else
    let first := s.rd (Obj.MOVE_START m)
    match ((s.mover m).reach 16 [] first).find? fun i => !s.slotOk r.sess m i with
    | some bad => (s.wrAll [(Obj.MOVE_ERR_CODE m, 5), (Obj.MOVE_ERR_DESC m, bad), (Obj.MOVE_STATE m, 1)]).answer r .range
    | none =>
      let s := s.updMover m fun x => { x with gone := [] }
      (((s.beginSlot m first).wr (Obj.MOVE_DONE_COUNT m) 0).wr (Obj.MOVE_STATE m) 2).answer r .ok

/-- Halt: with no write outstanding below the boundary the channel reads halted at once; else it does when they are answered. -/
def State.moverHalt (s : State) (m beats : Nat) (r : Req) : State :=
  if s.rd (Obj.MOVE_STATE m) != 2 then s.answer r .busy
  else if beats ≤ (s.mover m).beat then (s.halted m beats).answer r .ok
  else (s.updMover m fun x => { x with halt := some (x.halt.getD beats) }).answer r .ok

/-- Abort: as halt, then idle. -/
def State.moverStop (s : State) (m beats : Nat) : State :=
  let s := if s.rd (Obj.MOVE_STATE m) = 2 then s.moverHaltAt m beats else s
  (s.updMover m fun x => { x with halt := none }).wr (Obj.MOVE_STATE m) 1

/-- Abort as a command. -/
def State.moverAbort (s : State) (m beats : Nat) (r : Req) : State :=
  let st := s.rd (Obj.MOVE_STATE m)
  if st = 2 || st = 3 || st = 4 then (s.moverStop m beats).answer r .ok else s.answer r .busy

/-- Retry: the latched descriptor goes on at its failing beat. -/
def State.moverRetry (s : State) (m : Nat) (r : Req) : State :=
  if s.rd (Obj.MOVE_STATE m) != 4 then s.answer r .busy
  else
    let s := s.updMover m fun x => { x with beat := s.rd (Obj.MOVE_ERR_BEATS m), ahead := 0 }
    ((s.wr (Obj.MOVE_BEATS_LEFT m) ((s.curDesc m).count - (s.mover m).beat)).wr (Obj.MOVE_STATE m) 2).answer r .ok

/-- Skip: the latched descriptor is abandoned; the octets that its beats hold in a receive flow are released. -/
def State.moverSkip (s : State) (m : Nat) (r : Req) : State :=
  if s.rd (Obj.MOVE_STATE m) != 4 then s.answer r .busy
  else
    let d := s.curDesc m
    let s := if d.srcSpace = 3 then
        s.updFlow d.src fun x => { x with rxWords := x.rxWords.drop (((s.mover m).ahead + 1) * beatBytes d.srcWidth) } else s
    ((s.wr (Obj.MOVE_STATE m) 2).nextSlot m).answer r .ok

/-- Resume a halted chain. -/
def State.moverResume (s : State) (m : Nat) (r : Req) : State :=
  if s.rd (Obj.MOVE_STATE m) != 3 then s.answer r .busy else (s.wr (Obj.MOVE_STATE m) 2).answer r .ok

/-- A write of MOVE_CMD. -/
def State.moveCmd (s : State) (m v beats : Nat) (r : Req) : State :=
  match v with
  | 1 => s.moverStart m r
  | 2 => s.moverHalt m beats r
  | 3 => s.moverRetry m r
  | 4 => s.moverSkip m r
  | 5 => s.moverAbort m beats r
  | 6 => s.moverResume m r
  | _ => s.answer r .range

/-- Serve a write of MOVE_CMD. Firmware, as session 254, commands its own channels and awaits no answer (R201). -/
def State.moveCommand (s : State) (sess tag m v beats : Nat) : State :=
  if sess = 254 then when (Nat.blt m 32) (fun s => s.moveCmd m v beats (s.req 254 tag (Obj.MOVE_CMD m))) s
  else when (Nat.blt m 96) (fun s => s.direct sess tag (Obj.MOVE_CMD m) v fun r s => s.moveCmd m v beats r) s

/-- MOVE_START (R209). -/
def execMoveStart (sess tag m : Nat) (s : State) : Host.Outcome State Fault Refusal := done s (s.moveCommand sess tag m 1 0)

/-- MOVE_HALT (R211): `beats` tells the beat boundary at which it takes effect. -/
def execMoveHalt (sess tag m beats : Nat) (s : State) : Host.Outcome State Fault Refusal :=
  done s (s.moveCommand sess tag m 2 beats)

/-- MOVE_RETRY (R211, R213). -/
def execMoveRetry (sess tag m : Nat) (s : State) : Host.Outcome State Fault Refusal := done s (s.moveCommand sess tag m 3 0)

/-- MOVE_SKIP (R211). -/
def execMoveSkip (sess tag m : Nat) (s : State) : Host.Outcome State Fault Refusal := done s (s.moveCommand sess tag m 4 0)

/-- MOVE_ABORT (R211). -/
def execMoveAbort (sess tag m beats : Nat) (s : State) : Host.Outcome State Fault Refusal :=
  done s (s.moveCommand sess tag m 5 beats)

/-- MOVE_RESUME (R211). -/
def execMoveResume (sess tag m : Nat) (s : State) : Host.Outcome State Fault Refusal := done s (s.moveCommand sess tag m 6 0)

/-! ## Ownership and the buffer (R201 to R204) -/

/-- A session channel is free again: aborted where it runs, its buffer freed (R202 to R204). -/
def State.freeMover (s : State) (m : Nat) : State :=
  let s := s.moverStop m 0
  let s := (((s.wr (Obj.MOVE_BUF_LOG2 m) 0).wrc (Obj.MOVE_BUF_LOG2 m) 0).wr (Obj.MOVE_BUF_BASE m) 0).freeSmall (Obj.MOVE_BUF_LOG2 m) 0
  ((s.disown ⟨.mover, m⟩).dropUnit ⟨.mover, m⟩).wrAll [(Obj.MOVE_STATE m, 0), (Obj.MOVE_OWNER m, 255)]

/-- Claim a channel (R202): channels 0 to 31 are firmware's. -/
def State.moverClaim (s : State) (m : Nat) (r : Req) : State :=
  if Nat.blt m 32 then s.answer r .denied
  else s.claim r ⟨.mover, m⟩ ((List.range 64).map fun i => 32 + i) (s.rd (Obj.DEV_QUOTA_MOVERS r.sess)) fun s =>
    s.wrAll [(Obj.MOVE_STATE m, 1), (Obj.MOVE_OWNER m, r.sess), (Obj.MOVE_WORDS m, 0)]

/-- Release a channel (R202). -/
def State.moverRelease (s : State) (m : Nat) (r : Req) : State :=
  if Nat.blt m 32 then s.answer r .denied else s.unclaim r ⟨.mover, m⟩ fun s => (s.freeMover m).answer r .ok

/-- MOVE_CLAIM (R202): a write of 1. -/
def execMoveClaim (sess tag m : Nat) (s : State) : Host.Outcome State Fault Refusal :=
  done s <| when (Nat.blt m 96) (fun s => s.direct sess tag (Obj.MOVE_CLAIM m) 1 fun r s => s.moverClaim m r) s

/-- MOVE_RELEASE (R202): a write of 2. -/
def execMoveRelease (sess tag m : Nat) (s : State) : Host.Outcome State Fault Refusal :=
  done s <| when (Nat.blt m 96) (fun s => s.direct sess tag (Obj.MOVE_CLAIM m) 2 fun r s => s.moverRelease m r) s

/-- Put a descriptor word (R205). -/
def State.moverDesc (s : State) (m v : Nat) (r : Req) : State :=
  let st := s.rd (Obj.MOVE_STATE m)
  if st = 2 || st = 3 || st = 4 then s.answer r .busy
  else
    let at_ := 8 * (v / 2 ^ 40 % 16) + v / 2 ^ 36 % 8
    (s.updMover m fun x => { x with slots := x.slots.set zeroDflt at_ (v % 2 ^ 36) }).answer r .ok

/-- MOVE_DESC_WRITE (R205). -/
def execMoveDescWrite (sess tag m v : Nat) (s : State) : Host.Outcome State Fault Refusal :=
  done s <|
    if sess = 254 then when (Nat.blt m 32) (fun s => s.moverDesc m v (s.req 254 tag (Obj.MOVE_DESC_WRITE m))) s
    else when (Nat.blt m 96) (fun s => s.direct sess tag (Obj.MOVE_DESC_WRITE m) v fun r s => s.moverDesc m v r) s

/-- MOVE_BUFFER_JOINT (R204): the buffer of the new size is at its place, the old one is freed, and a running channel that
uses it loses its space. A channel freed meanwhile has no buffer. -/
def execMoveBufferJoint (m : Nat) (s : State) : Host.Outcome State Fault Refusal :=
  done s <|
    let was := s.rd (Obj.MOVE_BUF_LOG2 m)
    s.joint 7 ⟨.mover, m⟩ (fun _ _ s => s) fun _ _ s =>
      let free := s.rd (Obj.MOVE_STATE m) == 0
      let s := if free then (s.wr (Obj.MOVE_BUF_LOG2 m) 0).wrc (Obj.MOVE_BUF_LOG2 m) 0 else s
      let log := s.rd (Obj.MOVE_BUF_LOG2 m)
      if was = log && !free then s
      else
        let s := s.freeSmall (Obj.MOVE_BUF_LOG2 m) (if log = 0 then 0 else 2 ^ log)
        let s := s.wr (Obj.MOVE_BUF_BASE m) (((s.small (Obj.MOVE_BUF_LOG2 m)).map SmallRing.base).getD 0)
        s.loseUse m 0

end Sys2Proof.Machine
end

