-- ==== Sys2Proof/Machine/DictFrames.lean ====
section
/-! DEFINITION. Dictionary frames (Tables 15.2 and 15.3): PACKED36 octets, the CRC of R335, the octets of a response, and the
check and parse of a request. -/

namespace Sys2Proof.Machine

/-- Words packed as in PACKED36; where their number is odd, a zero half-octet ends the string. -/
def packWords (ws : List Nat) : List Nat :=
  let v := ws.foldl (fun n w => n * 2 ^ 36 + w % 2 ^ 36) 0
  let n := (9 * ws.length + 1) / 2
  toOctets n (if ws.length % 2 = 1 then v * 16 else v)

/-- The words that octets pack. -/
def unpackWords (n : Nat) (o : List Nat) : List Nat :=
  let v := ofOctets o / (if n % 2 = 1 then 16 else 1)
  (List.range n).map fun i => v / 2 ^ (36 * (n - 1 - i)) % 2 ^ 36

/-- One bit of CRC-16 with polynomial 0x1021, most significant first. -/
def crcBit (r : Nat) (b : Bool) : Nat :=
  let top := Nat.ble 0x8000 r
  let s := r * 2 % 0x10000
  if top != b then Nat.xor s 0x1021 else s

/-- One octet of the CRC. -/
def crcOctet (r o : Nat) : Nat := [7, 6, 5, 4, 3, 2, 1, 0].foldl (fun r i => crcBit r (bitOf o i)) r

/-- The CRC of R335 over octets. -/
def crc16 (l : List Nat) : Nat := l.foldl crcOctet 0xFFFF

/-- A response's or notification's octets (Table 15.3). -/
def Frame.octets (f : Frame) : List Nat :=
  let body := [f.kind, f.tag % 256, f.status, f.detail % 256, f.idx / 256 % 256, f.idx % 256, f.sub, f.words.length] ++ packWords f.words
  let c := crc16 body
  body ++ [c / 256, c % 256]

/-- Octets of a request with n value words. -/
def requestLen (n : Nat) : Nat := 8 + (9 * n + 1) / 2

/-- The CRC of a request holds, its operation is listed and its length agrees with NWORDS (R335). -/
def requestSound (o : List Nat) : Bool :=
  let n := o.getD 5 0
  let body := o.take (o.length - 2)
  let c := crc16 body
  Nat.ble 8 o.length && Nat.ble n 64 && o.length == requestLen n && o.getD (o.length - 2) 0 == c / 256 && o.getD (o.length - 1) 0 == c % 256 &&
  Nat.blt (o.getD 0 0) 32 && Nat.ble 1 (o.getD 0 0 % 16) && Nat.ble (o.getD 0 0 % 16) 4 && (o.getD 0 0 % 16 == 2 || Nat.blt (o.getD 0 0) 16)

/-- A request's operation, VIEW, tag, index, sub-index and value words. -/
structure Parsed where
  op : Nat
  view : Nat
  tag : Nat
  idx : Nat
  sub : Nat
  words : List Nat
  deriving DecidableEq, Repr, Inhabited

/-- Parse a sound request. -/
def parseRequest (o : List Nat) : Parsed :=
  let n := o.getD 5 0
  { op := o.getD 0 0 % 16, view := o.getD 0 0 / 16 % 2, tag := o.getD 1 0, idx := o.getD 2 0 * 256 + o.getD 3 0
    sub := o.getD 4 0, words := unpackWords n ((o.drop 6).take ((9 * n + 1) / 2)) }

/-- Cut whole requests off a stream of octets (R336): the sound ones, how many were not, and what is left. -/
def cutRequests : Nat → List Nat → List (List Nat) × Nat × List Nat
  | 0, o => ([], 0, o)
  | fuel + 1, o =>
    let n := requestLen (o.getD 5 0)
    if o.length < 8 ∨ o.length < n then ([], 0, o)
    else
      let (l, bad, rest) := cutRequests fuel (o.drop n)
      if requestSound (o.take n) then (o.take n :: l, bad, rest) else (l, bad + 1, rest)

/-- A sound request arrives (R337): with the tag of an outstanding one it is discarded and counted, beyond the 64 outstanding it is
answered BUSY; otherwise it is outstanding and waits to be served. A HELLO over I3C is no request of the session it ends. -/
def State.takeRequest (s : State) (sess : Nat) (o : List Nat) : State :=
  let p := parseRequest o
  let hello := sess == 0 && p.op == 1
  if (s.ses sess).isOpen && !hello && s.tagTaken sess p.tag then s.count (Obj.DEV_SESS_TAG_DUP sess)
  else if (s.ses sess).isOpen && !hello && Nat.ble 64 (s.requests sess) then s.respond sess p.tag (key p.idx p.sub) .busy
  else if sess = 0 then { s with i3c := { s.i3c with inbox := s.i3c.inbox ++ [o] } }
  else s.updSes sess fun x => { x with inbox := x.inbox ++ [o] }

/-- Octets received on a session's control flow: whole sound requests arrive, the others are counted. -/
def State.controlOctets (s : State) (sess : Nat) (o : List Nat) : State :=
  let (l, bad, rest) := cutRequests (o.length + (s.ses sess).rx.length) ((s.ses sess).rx ++ o)
  let s := l.foldl (fun s r => s.takeRequest sess r) (s.updSes sess fun x => { x with rx := rest })
  s.countN (Obj.DEV_SESS_BAD sess) bad

/-- The request that a command serves leaves the queue it waits in; while a handover runs it stays there (R410). -/
def State.popRequest (s : State) (sess op tag idx sub : Nat) : State :=
  let same (o : List Nat) :=
    let p := parseRequest o
    p.op == op && p.tag == tag && p.idx == idx && p.sub == sub
  let drop (l : List (List Nat)) := match l with
    | o :: rest => if same o then rest else l
    | [] => []
  if s.handing then s
  else if sess = 0 then { s with i3c := { s.i3c with inbox := drop s.i3c.inbox } }
  else s.updSes sess fun x => { x with inbox := drop x.inbox }

end Sys2Proof.Machine
end

