-- ==== Sys2Proof/Machine/Custody.lean ====
section
/-! DEFINITION. Custody manifests (R373 to R376, R238). -/

namespace Sys2Proof.Machine

/-- Words of a stream that one frame of a flow holds. -/
def State.frameWords (s : State) (f : Nat) : Nat := 8 * max 1 (s.rd (Obj.FLOW_BEATS f))

/-- The SEQ of the frame that holds, or will hold, a stream position not cut yet. -/
def State.seqOf (s : State) (f pos : Nat) : Nat :=
  let x := s.flow f
  (s.rd (Obj.FLOW_SEQ_NEXT f) + (pos - (x.pos - x.tail.length)) / s.frameWords f) % 2 ^ 48

/-- The manifest of the open segment (Tables 10.15 and 16.2, R374): hash of the covered records, counts, ticks, frames, the
previous manifest's hash, and the identity key's signature over words 0 to 41. -/
def State.manifest (s : State) (f : Nat) : Record :=
  let x := s.flow f
  let c := x.custody
  let first := if c.firstSeq = 0 then s.seqOf f c.startPos else c.firstSeq - 1
  let last := s.seqOf f (x.pos - 1)
  let head : List Nat := [256 + f] ++ words64 c.seg ++ words64 c.firstTick ++ words64 c.lastTick ++ words64 first ++ words64 last ++
    words64 c.records ++ (Ty.blob 48).encode c.prevHash ++ (Ty.blob 48).encode (Config.sha384 (packWords c.words)) ++ [s.rd Obj.SEC_KEY_ID]
  let r : Record := { type := 16, srcKind := 11, srcIndex := 0, tick := s.tick, payload := head }
  -- the signature covers the record's first 42 words, whose header already gives the whole length
  let full : Record := { r with payload := head ++ List.replicate 24 0 }
  let signed := packWords (full.words.take 42)
  { r with payload := head ++ (Ty.blob 96).encode (Config.sign (Config.sha384 signed)) }

/-- The open segment closes: its manifest enters the stream and chains to the one before (R374). -/
def State.closeSegment (s : State) (f : Nat) : State :=
  let x := s.flow f
  if !x.custody.on || x.custody.records = 0 then s
  else
    let m := s.manifest f
    let s := s.updFlow f fun x => (x.enter s.wall m)
    let s := s.updFlow f fun x =>
      { x with custody := { x.custody with
        seg := x.custody.seg + 1, records := 0, words := [], firstSeq := 0, late := false, prevHash := Config.sha384 (packWords m.words) } }
    s.wr (Obj.SEC_CUST_SEGMENT f) ((s.flow f).custody.seg)

/-- The segment holds its records or its time has passed (R373). -/
def State.segmentDue (s : State) (f : Nat) : Bool :=
  let c := (s.flow f).custody
  c.on && c.records != 0 &&
    (Nat.ble (s.rd (Obj.SEC_CUST_RECORDS f)) c.records || Nat.ble (c.startWall + s.rd (Obj.SEC_CUST_MS f) * tpms) s.wall)

/-- The signer has room in this second, or a free value says that it keeps up beyond its 20,000 (R375). -/
def State.signs (s : State) : Bool × State :=
  let fresh := Nat.ble (s.signed.1 + tps) s.wall
  let n := if fresh then 0 else s.signed.2
  let at_ := if fresh then s.wall else s.signed.1
  if Nat.blt n 20000 then (true, { s with signed := (at_, n + 1) })
  else if s.freeN % 2 = 0 then (false, s.used 1) else (true, { s.used 1 with signed := (at_, n + 1) })

/-- CUSTODY_SEGMENT_CLOSE (R373): at a record boundary of a flow under custody a segment that is due closes; while signing
lags the close is postponed and counted (R375). A standby closes its segments where its primary does (R386). -/
def execCustodySegmentClose (f : Nat) (s : State) : Host.Outcome State Fault Refusal :=
  done s <|
    if !s.flowRuns f || s.isStandby || !s.segmentDue f || !(s.flow f).cut.isEmpty || (s.flow f).left != 0 then s
    else match s.signs with
      | (true, t) => t.closeSegment f
      | (false, t) => if (s.flow f).custody.late then t
        else (t.updFlow f fun x => { x with custody := { x.custody with late := true } }).count (Obj.SEC_CUST_LATE f)

end Sys2Proof.Machine
end

