-- ==== Sys2Proof/Machine/Ports.lean ====
section
/-! DEFINITION. Ethernet ports (R240 to R245): their objects, link, neighbours, the receiver's checks and the queue of frames
received; and the time anchor and status records (R235, R236). -/

namespace Sys2Proof.Machine

/-- A port's record. -/
def State.port (s : State) (p : Nat) : PortRt := at' s.ports p

/-- Change a port's record. -/
def State.updPort (s : State) (p : Nat) (f : PortRt → PortRt) : State := { s with ports := s.ports.modify p f }

/-- The destination MAC of what a port sends: written, else learned; 0 for none (R243). -/
def State.peer (s : State) (p : Nat) : Nat :=
  if s.rd (Obj.PORT_PEER_MAC p) != 0 then s.rd (Obj.PORT_PEER_MAC p) else s.rd (Obj.PORT_PEER_LEARNED p)

/-- The port's link is up. -/
def State.portUp (s : State) (p : Nat) : Bool := s.rd (Obj.PORT_STATE p) == 3

/-- The key epoch of SEQ q, from that of a SEQ: by where q falls in the window of ±2^47 about it (R262, R457). -/
def epochNear (epoch anchor q : Nat) : Nat :=
  (((epoch * 2 ^ 48 + anchor % 2 ^ 48 : Nat) : Int) + toI 48 (q % 2 ^ 48 + 2 ^ 48 - anchor % 2 ^ 48)).toNat / 2 ^ 48 % 2 ^ 16

/-- The SEQ of a flow's next DATA frame; the sender's epoch rises as it passes from 2^48 − 1 to 0 (R368). -/
def State.setSeq (s : State) (f q : Nat) : State :=
  (s.updFlow f fun x => { x with epoch := epochNear x.epoch (s.rd (Obj.FLOW_SEQ_NEXT f)) q }).wr (Obj.FLOW_SEQ_NEXT f) (q % 2 ^ 48)

/-- The port can send Sluice frames: its link is up and it has a peer (R243, R256). -/
def State.portSends (s : State) (p : Nat) : Bool := s.portUp p && s.peer p != 0

/-! ## Port objects (R241) -/

/-- The port of an object of Table 11.9. -/
def portOf (k : Nat) : Nat := (k / 256 - 0x5800) / 0x10

/-- A committed or draining flow names the port. -/
def State.portNamed (s : State) (p : Nat) : Bool :=
  (List.range 249).any fun f =>
    (s.rdc (Obj.FLOW_ENABLE f) == 1 && bitOf (s.rdc (Obj.FLOW_PORTS f)) p) ||
    ((s.rdB (Obj.FLOW_ENABLE f) || s.rd (Obj.FLOW_STATE f) == 3) && bitOf (s.rd (Obj.FLOW_PORTS f)) p)

/-- A write of this object waits for the flows that name the port. -/
def portGuarded (k p v : Nat) : Bool :=
  (k == Obj.PORT_ENABLE p && v == 0) || k == Obj.PORT_MEDIA p || k == Obj.PORT_MAC p || k == Obj.PORT_VLAN_EN p ||
  k == Obj.PORT_VLAN_ID p || k == Obj.PORT_VLAN_PCP p || k == Obj.PORT_IP4 p || k == Obj.PORT_IP4_PREFIX p ||
  k == Obj.PORT_IP6 p || k == Obj.PORT_IP6_PREFIX p || k == Obj.PORT_MTU p || k == Obj.PORT_UDP p

/-- A write of a port object takes effect at once, or answers BUSY (R241). A medium other than the active one is negotiated and trained
anew (log entry 71). -/
def State.portWrite (s : State) (r : Req) (v : Nat) : State :=
  let p := portOf r.key
  if portGuarded r.key p v && s.portNamed p then s.answer r .busy
  else match keyRow r.key with
    | none => s
    | some row =>
      let s := s.liveWrite r.sess r.key row v
      let m := s.rd (Obj.PORT_MEDIA_ACTIVE p)
      let s :=
        if r.key = Obj.PORT_MEDIA p && s.portUp p && v != 0 && v != m then s.wrAll [(Obj.PORT_STATE p, 1), (Obj.PORT_MEDIA_ACTIVE p, 0)]
        else if r.key = Obj.PORT_ENABLE p && s.rd (Obj.PORT_STATE p) != 5 then
          if v = 0 then s.wrAll [(Obj.PORT_STATE p, 0), (Obj.PORT_MEDIA_ACTIVE p, 0)]
          else if s.rd (Obj.PORT_STATE p) = 0 then s.wr (Obj.PORT_STATE p) 1 else s
        else s
      s.answer r .ok

/-- The key is a port object. -/
def isPortKey (k : Nat) : Bool := Nat.ble 0x5800 (k / 256) && Nat.blt (k / 256) 0x59C0

/-- PORT_CONFIG_WRITE (R241). -/
def execPortConfigWrite (sess tag k v : Nat) (s : State) : Host.Outcome State Fault Refusal :=
  done s <| when (isPortKey k) (fun s => s.direct sess tag k v fun r s => s.portWrite r v) s

/-- The port is powered: in WATCH and DORMANT those of PWR_LOW_PORTS are (R422). -/
def State.portPowered (s : State) (p : Nat) : Bool :=
  !(s.rd Obj.PWR_STATE == 3 || s.rd Obj.PWR_STATE == 4) || bitOf (s.rd Obj.PWR_LOW_PORTS) p

/-- PORT_LINK_UP (R240, R473): negotiation and training are over. -/
def execPortLinkUp (p media : Nat) (s : State) : Host.Outcome State Fault Refusal :=
  done s <|
    let st := s.rd (Obj.PORT_STATE p)
    if Nat.ble 28 p || !s.rdB (Obj.PORT_ENABLE p) || st == 0 || st == 5 || st == 3 || s.rd Obj.DEV_STATE == 0 || !s.portPowered p then s
    else s.wrAll [(Obj.PORT_STATE p, 3), (Obj.PORT_MEDIA_ACTIVE p, if s.rd (Obj.PORT_MEDIA p) = 0 then 1 + media % 2 else s.rd (Obj.PORT_MEDIA p))]

/-- PORT_LINK_DOWN (R256). -/
def execPortLinkDown (p : Nat) (s : State) : Host.Outcome State Fault Refusal :=
  done s <|
    if Nat.ble 28 p || !s.portUp p then s
    else ((s.wrAll [(Obj.PORT_STATE p, 4), (Obj.PORT_MEDIA_ACTIVE p, 0)]).count (Obj.PORT_LINK_DOWNS p)).event 1 254 0x0400 p

/-- ARP_REQUEST (R243): answered for the port's own IPv4 address. -/
def execArpRequest (p ip mac : Nat) (s : State) : Host.Outcome State Fault Refusal :=
  done s <|
    if Nat.ble 28 p || !s.portUp p || ip == 0 || ip != s.rd (Obj.PORT_IP4 p) then s
    else s.updPort p fun x => { x with replies := x.replies ++ [(4, mac)] }

/-- ND_SOLICITATION (R243): answered for the port's own IPv6 address. -/
def execNdSolicitation (p ip mac : Nat) (s : State) : Host.Outcome State Fault Refusal :=
  done s <|
    if Nat.ble 28 p || !s.portUp p || ip == 0 || ip != s.rd (Obj.PORT_IP6 p) then s
    else s.updPort p fun x => { x with replies := x.replies ++ [(6, mac)] }

/-! ## Reception (R244) -/

/-- The session and flow that a frame's header names are known: a remote session's own control flow, or a flow of the session that
runs or drains. The flows of session 0 are known too, and those that drain after their session's end (R344, R370). -/
def State.rxKnown (s : State) (f : RxFrame) : Bool :=
  if f.kind = 4 then f.session == 255
  else
    Nat.blt f.session 8 &&
    ((f.session != 0 && (s.ses f.session).isOpen && (f.kind == 6 || f.flow == 248 + f.session)) ||
      (f.kind != 6 && Nat.ble f.flow 248 && s.rd (Obj.FLOW_OWNER f.flow) == f.session &&
        (s.rd (Obj.FLOW_STATE f.flow) == 2 || s.rd (Obj.FLOW_STATE f.flow) == 3 || s.rd (Obj.FLOW_STATE f.flow) == 4)))

/-- The frame comes from the host of an open remote session, not from that of an ended one whose flow still drains. -/
def State.rxLive (s : State) (f : RxFrame) : Bool :=
  f.session != 0 && (s.ses f.session).isOpen && (f.kind == 6 || Nat.ble 249 f.flow || s.holder ⟨.flow, f.flow⟩ == some f.session)

/-- Octets waiting in a port's receive queue (Table 1.1). -/
def PortRt.waiting (x : PortRt) : Nat := x.rxq.foldl (fun n f => n + f.length) 0

/-- A received frame is one that R244 discards, or the receive queue is full. -/
def State.rxDrops (s : State) (p : Nat) (f : RxFrame) : Bool :=
  f.dstMac != s.rd (Obj.PORT_MAC p) ||
  f.vlan != (if s.rdB (Obj.PORT_VLAN_EN p) then some (s.rd (Obj.PORT_VLAN_ID p)) else none) ||
  f.excluded || !f.checksumOk || Nat.blt (s.rd (Obj.PORT_MTU p)) f.length || f.ver != 1 ||
  !(f.kind == 1 || f.kind == 2 || f.kind == 4 || f.kind == 6) || !s.rxKnown f || Nat.blt 262144 ((s.port p).waiting + f.length)

/-- The epoch under which a received frame is looked at: by where its SEQ falls about what is expected of its kind (R457). -/
def State.rxEpoch (s : State) (f : RxFrame) : Nat :=
  let x := s.flow f.flow
  if f.kind = 1 then epochNear x.rxEpoch x.rxNext f.seq
  else if f.kind = 2 then epochNear x.rxAckEpoch (x.ackSeq - 1) f.seq
  else f.epoch

/-- A frame's tag holds, under the key of the incarnation and the epoch in force. -/
def State.rxAuth (s : State) (f : RxFrame) : Bool :=
  f.tagOk && f.epoch == s.rxEpoch f && (f.kind == 4 || f.kind == 6 || Nat.ble 249 f.flow || f.incarn == s.rd (Obj.FLOW_INCARN f.flow))

/-- FRAME_RECEIVE (R244): checked, authenticated and queued for dispatch, or discarded and counted. An authenticated frame
teaches the port its peer (R243) and keeps its session alive (R344); a session's control flow follows it (R266). -/
def execFrameReceive (p : Nat) (f : RxFrame) (s : State) : Host.Outcome State Fault Refusal :=
  done s <|
    if Nat.ble 28 p || !s.portUp p then s
    else
      let s := s.wr (Obj.PORT_RX_FRAMES p) ((s.rd (Obj.PORT_RX_FRAMES p) + 1) % 2 ^ 64)
      if s.rxDrops p f then s.count (Obj.PORT_RX_DROP p)
      else if !s.rxAuth f then s.count (Obj.PORT_AUTH_FAIL p)
      else
        let s := s.updPort p fun x => { x with rxq := x.rxq ++ [f] }
        if f.kind = 4 then s
        else
          let s := s.wr (Obj.PORT_PEER_LEARNED p) f.srcMac
          if s.rxLive f then (s.updSes f.session fun x => { x with heard := s.wall }).wr (Obj.DEV_SESS_PORT f.session) p else s

/-- The frame at the front of a port's receive queue, of a kind. -/
def State.rxHead (s : State) (p kind : Nat) : Option RxFrame :=
  match (s.port p).rxq with
  | f :: _ => if f.kind = kind then some f else none
  | [] => none

/-- The front frame leaves the queue. -/
def State.rxPop (s : State) (p : Nat) : State := s.updPort p fun x => { x with rxq := x.rxq.drop 1 }

/-! ## Anchors and status (R235, R236) -/

/-- The next multiple of 1 s above a tick. -/
def nextSecond (t : Nat) : Nat := (t / tps + 1) * tps

/-- A boundary of 1 s is due: reached, or out of reach because the tick index was set anew. -/
def secondDue (at_ tick : Nat) : Bool := Nat.ble at_ tick || Nat.blt (tick + tps) at_

/-- TIME_ANCHOR_EMIT (R235): flows and side areas whose second has come take an anchor. -/
def execTimeAnchorEmit (s : State) : Host.Outcome State Fault Refusal :=
  done s <|
    let a := s.anchor
    let s := (s.runningFlows.filter fun f => secondDue (s.flow f).anchorAt s.tick && !s.pwr.cold).foldl (fun s f =>
      (s.enter f a).updFlow f fun x => { x with anchorAt := nextSecond s.tick }) s
    if secondDue s.anchorAt s.tick && !s.pwr.cold then
      let s := (List.range 20).foldl (fun s h => s.side h a) s
      { s with anchorAt := nextSecond s.tick }
    else s

/-- PWR_TJ reads the highest die temperature; once sets are loaded, a move of it may advise calibration (R46). -/
def State.showTj (s : State) : State :=
  let s := s.wrI Obj.PWR_TJ ((List.range 16).foldl (fun (m : Int) j => max m (s.rdI (Obj.DEV_TJ_SENSOR j))) (s.rdI (Obj.DEV_TJ_SENSOR 0)))
  if s.start.tested then (List.range 4).foldl State.advise s else s

/-- The die sensors are read: what they measure is a free value. -/
def State.sampleTj (s : State) : State :=
  (((List.range 16).foldl (fun (s : State) j => s.wrI (Obj.DEV_TJ_SENSOR j) (Config.freeInt (s.free + j))) s).used 16).showTj

/-- The status record of a flow (Table 10.14). -/
def State.status (s : State) (f : Nat) : Record :=
  statusRecord (s.rd Obj.DEV_STATE) (s.rd Obj.DEV_SHED_ACTIVE)
    (s.rd Obj.DEV_SLICES_IN_SERVICE * 2 ^ 16 + s.rd Obj.DEV_PORTS_IN_SERVICE * 2 ^ 8 + s.rd Obj.DEV_PCH_IN_SERVICE)
    (s.rd Obj.PWR_TJ) (s.rd Obj.PWR_PVIN_MV) (min (2 ^ 32 - 1) (s.log.alerts - (s.flow f).statAlerts)) (s.log.next - 1) s.tick

/-- A flow's status record is due: its second, a change of DEV_SHED_ACTIVE or an alert. -/
def State.statusDue (s : State) (f : Nat) : Bool :=
  let x := s.flow f
  s.rdB (Obj.FLOW_STATUS f) && !s.pwr.cold &&
    (secondDue x.statusAt s.tick || x.statShed != s.rd Obj.DEV_SHED_ACTIVE || Nat.blt x.statAlerts s.log.alerts)

/-- STATUS_EMIT (R236). -/
def execStatusEmit (s : State) : Host.Outcome State Fault Refusal :=
  done s <|
    let due := s.runningFlows.filter s.statusDue
    let s := if due.isEmpty then s else s.sampleTj
    due.foldl (fun s f =>
      (s.enter f (s.status f)).updFlow f fun x =>
        { x with
          statusAt := if secondDue x.statusAt s.tick then nextSecond s.tick else x.statusAt
          statShed := s.rd Obj.DEV_SHED_ACTIVE, statAlerts := s.log.alerts }) s

end Sys2Proof.Machine
end

