-- ==== Sys2Proof/Machine/Flows.lean ====
section
/-! DEFINITION. Sluice flows (chapter 11): frames cut and flushed, striping, pacing and transmission, acknowledgements, loss,
receive flows, claims, and the flow's part of a Joint. -/

namespace Sys2Proof.Machine

/-! ## Sequence numbers (R262) -/

/-- SEQ a lies before b: their difference modulo 2^48 lies in the window of 2^47. -/
def seqBefore (a b : Nat) : Bool :=
  let d := (b + 2 ^ 48 - a % 2 ^ 48) % 2 ^ 48
  d != 0 && Nat.blt d (2 ^ 47)

/-! ## Cutting frames (R248) -/

/-- The flow retains by reference to a history ring (Table 11.4). -/
def State.byReference (s : State) (f : Nat) : Bool :=
  let src := s.rd (Obj.FLOW_SRC f)
  src == 1 || src == 6 || src == 7

/-- Frames whose words the retention ring has overwritten are lost (R259, R260); a mover's flow loses none this way. -/
def State.overwrite (s : State) (f : Nat) : State :=
  if s.byReference f || s.rd (Obj.FLOW_SRC f) == 8 then s
  else
    let x := s.flow f
    let low := x.pos - 2 ^ s.rd (Obj.FLOW_RETAIN_LOG2 f)
    s.missFrames f fun fr => Nat.blt fr.pos low

/-- Lines of a history ring whose samples the words from `pos` to below `pos + n` of a stream are read from. -/
def State.ringLinesOf (s : State) (f h pos n : Nat) : List Nat :=
  let step := s.ringStep h
  (((s.flow f).recs.filter fun m => m.sampled && Nat.blt m.start (pos + n) && Nat.blt pos (m.start + m.len)).map fun m =>
    let a := m.tick / step + (max pos (m.start + 4) - (m.start + 4))
    let b := m.tick / step + (min (pos + n) (m.start + m.len) - (m.start + 5))
    (List.range (b / 64 + 1 - a / 64)).map fun i => s.physLine h (a / 64 + i)).flatten

/-- Lines of the retention ring that hold n words of a stream from `pos`. -/
def State.retainLines (s : State) (f pos n : Nat) : List Nat :=
  match s.small (Obj.FLOW_RETAIN_LOG2 f) with
  | none => []
  | some r => ((List.range (n / 64 + 2)).map fun i => (r.base + (pos + min (64 * i) (n - 1)) % max 1 r.words) / 64).dedup

/-- Lines of the Reservoir that hold what a frame carries: of its ring, or of its flow's retention ring (R259). -/
def State.frameLines (s : State) (f : Nat) (fr : TxFrame) : List Nat :=
  if fr.words.isEmpty then []
  else if s.byReference f then (match s.flowRing f with
    | some h => (s.ringLinesOf f h fr.pos fr.words.length).dedup
    | none => [])
  else s.retainLines f fr.pos fr.words.length

/-- What a retransmission that is asked for carries is read again (R20): a content that lies in a failed pseudo-channel is lost with its
frame (R195, R196). -/
def State.reReadFrame (s : State) (f : Nat) (fr : TxFrame) : State :=
  let lines := s.frameLines f fr
  if lines.isEmpty then s.updFlow f fun x => { x with frames := x.frames.map fun g => if g.seq = fr.seq then { g with ready := true } else g }
  else if lines.any s.deadLine then s.missFrames f fun g => g.seq == fr.seq
  else lines.foldl (fun s l => s.request (s.linePch l) { id := flowRq f, read := true, frame := some (f, fr.seq) }) s

/-- Every frame of a flow whose retransmission is asked for and not yet read again is. -/
def State.reRead (s : State) (f : Nat) : State :=
  ((s.flow f).frames.filter fun g => g.again && !g.ready && !s.reReading f g.seq).foldl (fun s g => s.reReadFrame f g) s

/-- A frame just cut is retained: its words are written to the flow's retention ring; one that would be read from a failed
pseudo-channel is lost (R195, R196). -/
def State.retain (s : State) (f seq : Nat) : State :=
  match (s.flow f).frames.find? fun g => g.seq == seq with
  | none => s
  | some fr =>
    let lines := s.frameLines f fr
    if s.byReference f then (if lines.any s.deadLine then s.missFrames f fun g => g.seq == seq else s)
    else lines.foldl (fun s l => s.access l (flowRq f) false) s

/-- Cut the next n words of the stream into a frame. -/
def State.cutFrame (s : State) (f n : Nat) (flushed final : Bool) : State :=
  let x := s.flow f
  let pos := x.pos - x.tail.length
  let seq := s.rd (Obj.FLOW_SEQ_NEXT f)
  let inside := x.recs.filter fun m => Nat.ble pos m.start && Nat.blt m.start (pos + n)
  let holder := x.recs.find? fun m => Nat.ble m.start pos && Nat.blt pos (m.start + m.len)
  let fr : TxFrame :=
    { seq := seq, epoch := x.epoch, pos := pos, words := x.tail.take n, born := s.wall, flushed := flushed, final := final
      firstRec := (inside.head?.map fun m => m.start - pos).getD 0xFFFF, tick := (holder.map RecMark.tick).getD 0, subst := x.subst }
  let c := x.custody
  let holds := c.records != 0 && c.firstSeq == 0 && Nat.ble pos c.startPos && Nat.blt c.startPos (pos + n)
  let s := s.updFlow f fun x =>
      { x.sinceAt (pos + n) s.wall with
        frames := x.frames ++ [fr], tail := x.tail.drop n
        custody := if holds then { c with firstSeq := seq + 1 } else c }
  (((s.setSeq f (seq + 1)).overwrite f).retain f seq).updFlow f Flow.trim

/-- Complete the open beat with fill words. -/
def Flow.fillBeat (x : Flow) : Flow :=
  let n := (8 - x.tail.length % 8) % 8
  { x with tail := x.tail ++ List.replicate n 0, pos := x.pos + n }

/-- The stream is at a record boundary. -/
def Flow.atBoundary (x : Flow) : Bool := x.cut.isEmpty && x.left == 0

/-- Cut the full frames that wait, and the rest of the tail, the last flagged. -/
def State.flushAll (s : State) (f : Nat) (final : Bool) : State :=
  let s := s.updFlow f Flow.fillBeat
  let n := s.frameWords f
  let len := (s.flow f).tail.length
  (List.range (ceilDiv len n)).foldl (fun s i =>
    let rest := len - i * n
    s.cutFrame f (min n rest) (Nat.blt rest n) (final && Nat.ble rest n)) s

/-- The frame of FINAL (R251): what waits is flushed; where nothing waits the last frame still unsent carries it, else a
frame of one beat of fill words does (log entry 17). -/
def State.finalFrame (s : State) (f : Nat) : State :=
  let x := s.flow f
  if !x.tail.isEmpty then s.flushAll f true
  else match x.frames.getLast? with
    | some fr =>
      if fr.sent = 0 then s.updFlow f fun x =>
        { x with frames := x.frames.map fun g => if g.seq = fr.seq then { g with final := true } else g }
      else (s.updFlow f fun x => { x with tail := List.replicate 8 0, pos := x.pos + 8 }).cutFrame f 8 true true
    | none => (s.updFlow f fun x => { x with tail := List.replicate 8 0, pos := x.pos + 8 }).cutFrame f 8 true true

/-- A control flow's next frame: the oldest dictionary frame that waits; it retains 64 frames (R266). -/
def State.cutControl (s : State) (f : Nat) : State :=
  let sess := f - 248
  match (s.ses sess).txq with
  | [] => s
  | d :: rest =>
    if Nat.ble 64 (s.flow f).frames.length || s.handing then s
    else
      let seq := s.rd (Obj.FLOW_SEQ_NEXT f)
      let fr : TxFrame := { seq := seq, epoch := (s.flow f).epoch, pos := 0, words := [], octets := d.octets, firstRec := 0xFFFF, tick := 0, born := s.wall }
      let s := s.updSes sess fun x => { x with txq := rest }
      (s.updFlow f fun x => { x with frames := x.frames ++ [fr] }).setSeq f (seq + 1)

/-- FRAME_CLOSE (R248): a frame that holds FLOW_BEATS beats closes. A standby cuts as its primary's log says (R389). -/
def execFrameClose (f : Nat) (s : State) : Host.Outcome State Fault Refusal :=
  done s <|
    if Nat.ble 249 f && Nat.ble f 255 then s.cutControl f
    else if s.flowRuns f && !s.isStandby && Nat.ble (s.frameWords f) (s.flow f).tail.length then s.cutFrame f (s.frameWords f) false false
    else s

/-- FLOW_FLUSH_TIMER (R248): FLOW_FLUSH after its first word the open frame goes short, at a record boundary. -/
def execFlowFlushTimer (f : Nat) (s : State) : Host.Outcome State Fault Refusal :=
  done s <|
    let x := s.flow f
    if !s.flowRuns f || s.isStandby || x.tail.isEmpty || !x.atBoundary || Nat.ble 249 f ||
      Nat.blt s.wall (x.since + s.rd (Obj.FLOW_FLUSH f) * tpus) then s
    else s.flushAll f false

/-! ## Striping and pacing (R253 to R256) -/

/-- The first member, in ascending cyclic order from place i, that can send. -/
def State.memberFrom (s : State) (ps : List Nat) (i : Nat) : Option Nat :=
  ((List.range ps.length).map fun k => ps.getD ((i + k) % ps.length) 0).find? s.portSends

/-- The port of a frame's next transmission: by its SEQ first, then the port of the latest one, each passing to the next
member that can send (R253, R256). -/
def State.frameMember (s : State) (f : Nat) (fr : TxFrame) : Option Nat :=
  let ps := flowPorts s.rd f
  if ps.isEmpty then none
  else if fr.sent = 0 then s.memberFrom ps (fr.seq % ps.length)
  else s.memberFrom ps (ps.idxOf fr.port)

/-- The cost of a frame on a member, in token units: bits of a full frame × ticks per second × members. -/
def State.tokenCost (s : State) (f p : Nat) : Nat :=
  8 * (framePayload s.rd f + frameOverhead s.rd s.tagged f p) * tps * (flowPorts s.rd f).length

/-- The tokens of a flow's members now: each fills at FLOW_WIRE / k and holds FLOW_BURST frames (R254). -/
def State.tokensNow (s : State) (f : Nat) : List Nat :=
  let x := s.flow f
  (flowPorts s.rd f).mapIdx fun (i : Nat) (p : Nat) =>
    min (s.rd (Obj.FLOW_BURST f) * s.tokenCost f p) (x.tokens.getD i 0 + (s.wall - x.tokenAt) * s.rd (Obj.FLOW_WIRE f))

/-- The member of a flow holds a token; a flow of rate 0 is not paced. -/
def State.hasToken (s : State) (f p : Nat) : Bool :=
  s.rd (Obj.FLOW_WIRE f) == 0 || Nat.ble (s.tokenCost f p) ((s.tokensNow f).getD ((flowPorts s.rd f).idxOf p) 0)

/-- A member's token is spent. -/
def State.spendToken (s : State) (f p : Nat) : State :=
  let i := (flowPorts s.rd f).idxOf p
  let now := s.tokensNow f
  s.updFlow f fun x => { x with tokens := now.set i (now.getD i 0 - s.tokenCost f p), tokenAt := s.wall }

/-- This engine sends frames of paired flows: it is not a standby and has not yielded (R384, R393). -/
def State.twinSends (s : State) : Bool :=
  let t := s.rd Obj.TWIN_STATE
  !(t == 4 || t == 5 || t == 6)

/-- Transmissions wait for the standby's acknowledgement of their log entry (R387). -/
def State.logs (s : State) : Bool :=
  s.rd Obj.TWIN_STATE == 3 || (s.rd Obj.TWIN_STATE == 2 && s.twin.js.isSome)

/-- The flow sends frames: it runs, has stalled or drains. -/
def State.flowSends (s : State) (f : Nat) : Bool :=
  let st := s.rd (Obj.FLOW_STATE f)
  (st == 2 || st == 3 || st == 4) && s.rd (Obj.FLOW_DIR f) == 0

/-- A frame's log entry waits for its acknowledgement. -/
def State.logWaits (s : State) (f : Nat) (fr : TxFrame) : Bool :=
  s.twin.logWait.any fun w => w.1 == f && w.2.1 == fr.seq

/-- The flow's source-change record has left, or none is to leave first (R394). -/
def State.changeSent (s : State) (f : Nat) : Bool :=
  match (s.flow f).first with
  | some q => seqBefore q (s.rd (Obj.FLOW_SEQ_NEXT f)) && !((s.flow f).frames.any fun g => g.seq == q && g.sent == 0)
  | none => true

/-- Data frames that port p may send: the wanted ones of flows with it as member. -/
def State.dataFrames (s : State) (p : Nat) (again : Bool) : List (Nat × TxFrame) :=
  (((List.range 249).filter fun f => s.flowSends f && bitOf (s.rd (Obj.FLOW_PORTS f)) p).map fun f =>
    (((s.flow f).frames.filter fun fr =>
      (if again then fr.again && fr.ready && fr.sent != 0 && s.changeSent f else fr.sent == 0) && s.frameMember f fr == some p && !s.logWaits f fr &&
        (again || s.hasToken f p)).map fun fr => (f, fr))).flatten

/-- Control frames that port p may send: those of sessions whose latest frame came on it, within 100 Mb/s each (R266). -/
def State.controlFrames (s : State) (p : Nat) : List (Nat × TxFrame) :=
  (((List.range 7).filter fun i => (s.ses (i + 1)).isOpen && s.rd (Obj.DEV_SESS_PORT (i + 1)) == p &&
      Nat.ble (s.flow (249 + i)).freeAt s.wall).map fun i =>
    (((s.flow (249 + i)).frames.filter fun fr => fr.sent == 0 || fr.again).map fun fr => (249 + i, fr))).flatten

/-- The oldest of a list of frames: by when it closed, or was last sent. -/
def oldestFrame (again : Bool) (l : List (Nat × TxFrame)) : Option (Nat × TxFrame) :=
  l.foldl (fun (best : Option (Nat × TxFrame)) e =>
    let age (t : TxFrame) := if again then t.lastAt else t.born
    match best with
    | none => some e
    | some b => if age e.2 < age b.2 then some e else some b) none

/-- Data frames still allowed on a port in this second (R255). -/
def State.portRoom (s : State) (p : Nat) : Bool :=
  let x := s.port p
  Nat.ble (x.secAt + tps) s.wall || Nat.blt x.secN 1500000

/-- Count a data frame against the port's second. -/
def State.portCount (s : State) (p : Nat) : State :=
  s.updPort p fun x =>
    if Nat.ble (x.secAt + tps) s.wall then { x with secAt := s.wall, secN := 1 } else { x with secN := x.secN + 1 }

/-- What a port's SerDes transmit queue holds now, in 1/64 octets: a 100 Gb/s port takes 25 of them a tick. -/
def State.txFill (s : State) (p : Nat) : Nat := (s.port p).txFill - 25 * (s.wall - (s.port p).txAt)

/-- The octets of a frame on the wire (Table 1.6). -/
def State.wireOctets (s : State) (p : Nat) (w : SentFrame) : Nat :=
  if Nat.ble 256 w.kind then 84
  else w.octets.length + (if w.dstIp / 2 ^ 32 == 0xFFFF then 134 else 154) - (if s.tagged p then 0 else 4)

/-- Key and salt of a flow's frames in a direction, 0 the engine's (R368): those of a control flow come from its session's secret, those
of another flow from the one that it keeps until it has drained (R370). -/
def State.okm (s : State) (flow sess incarn epoch dir : Nat) : Nat :=
  Config.hkdf (if Nat.ble 249 flow then (s.ses sess).secret else (s.flow flow).secret)
    ([0x53, 0x4C, 0x4B, 0x31, sess, flow] ++ toOctets 2 incarn ++ toOctets 2 epoch ++ [dir])

/-- The nonce of a frame: salt, SEQ, TRY and KIND (R369). -/
def nonceOf (salt seq tries kind : Nat) : List Nat := toOctets 4 salt ++ toOctets 6 seq ++ [tries % 256, kind]

/-- A frame with what its port puts in all of them (Table 11.1), and a DATA or ACK frame's key and nonce. -/
def State.addressed (s : State) (p : Nat) (w : SentFrame) : SentFrame :=
  let okm := s.okm w.flow w.sess w.incarn w.epoch 0
  let sealed := w.kind == 1 || w.kind == 2
  { w with
    aesKey := if sealed then okm / 2 ^ 32 % 2 ^ 256 else 0
    nonce := if sealed then nonceOf (okm % 2 ^ 32) w.seq w.tries w.kind else []
    srcMac := s.rd (Obj.PORT_MAC p)
    vlan := if s.tagged p then some (s.rd (Obj.PORT_VLAN_ID p) + 2 ^ 16 * s.rd (Obj.PORT_VLAN_PCP p)) else none
    srcIp := if w.dstIp / 2 ^ 32 == 0xFFFF || w.kind == 260 then s.rd (Obj.PORT_IP4 p) else s.rd (Obj.PORT_IP6 p)
    srcUdp := if Nat.ble 256 w.kind then 0 else s.rd (Obj.PORT_UDP p) }

/-- Put a frame on the wire, through the port's queue: the latest 1,024 are kept. -/
def State.putWire (s : State) (p : Nat) (w : SentFrame) : State :=
  let n := s.wireOctets p w
  let s := s.updPort p fun x =>
    { x with
      txFill := s.txFill p + 64 * n, txAt := s.wall
      sends := (s.wall, n, w.flags % 2 == 1) :: x.sends.filter fun e => Nat.blt s.wall (e.1 + tpms) }
  ({ s with wire := (s.addressed p w :: s.wire).take 1024 }).wr (Obj.PORT_TX_FRAMES p) ((s.rd (Obj.PORT_TX_FRAMES p) + 1) % 2 ^ 64)

/-- The port's wire rate over the last 1 ms in bits a second, or that of its retransmissions (Table 11.9). -/
def State.wireAvg (s : State) (p : Nat) (retx : Bool) : Nat :=
  8000 * ((s.port p).sends.filter fun e => Nat.blt s.wall (e.1 + tpms) && (!retx || e.2.2)).foldl (fun n e => n + e.2.1) 0

/-- A frame's payload octets in its flow's width, the halves exchanged where FLOW_HALF_SWAP asks for it (R218). -/
def State.payload (s : State) (f : Nat) (fr : TxFrame) : List Nat :=
  if Nat.ble 249 f then fr.octets
  else
    let w := s.rd (Obj.FLOW_WIDTH f)
    let ws := if s.rdB (Obj.FLOW_HALF_SWAP f) && (w == 2 || w == 3) then fr.words.map halfSwap else fr.words
    ((List.range (ceilDiv ws.length 8)).map fun i => beatOctetsOf w ((ws.drop (8 * i)).take 8)).flatten

/-- One transmission of a frame (R242, R245): TRY, FLAGS and SENT of the header. A control flow may send its next frame when this one's bits
are over at 100 Mb/s (R266), 2,560 ticks an octet. -/
def State.sendFrame (s : State) (p f : Nat) (fr : TxFrame) : State :=
  let sess := if Nat.ble 249 f then f - 248 else s.rd (Obj.FLOW_OWNER f)
  let flags := b2n (fr.sent != 0) + 2 * b2n fr.flushed + 4 * b2n fr.final + 8 * b2n fr.subst
  let w : SentFrame :=
    { kind := 1, flow := f, sess := sess, incarn := if Nat.ble 249 f then 0 else s.rd (Obj.FLOW_INCARN f), seq := fr.seq, epoch := fr.epoch
      tries := fr.sent, port := p, flags := flags, firstRec := fr.firstRec, tick := fr.tick, wordPos := fr.pos % 2 ^ 64
      sentNs := s.nsNow % 2 ^ 64, dstMac := s.peer p
      dstIp := if Nat.ble 249 f then (s.ses sess).srcIp else s.rd (Obj.FLOW_DEST_IP f)
      dstUdp := if Nat.ble 249 f then (s.ses sess).srcUdp else s.rd (Obj.FLOW_DEST_UDP f), words := fr.words, octets := s.payload f fr }
  let s := if fr.sent != 0 then s.count (Obj.FLOW_RETX f) else if Nat.ble 249 f then s else s.spendToken f p
  let s := s.portCount p
  let s := s.updFlow f fun x =>
    { x with
      freeAt := if Nat.ble 249 f then s.wall + 2560 * s.wireOctets p w else x.freeAt
      frames := x.frames.map fun g =>
        if g.seq = fr.seq then { g with sent := fr.sent + 1, lastAt := s.wall, port := p, again := false, ready := false, logged := false } else g }
  s.putWire p w

/-- The octets of an ACK of a receive flow (Table 11.5). -/
def ackOctets (cum high echo window : Nat) (blocks : List (Nat × Nat)) : List Nat :=
  toOctets 6 cum ++ toOctets 6 high ++ toOctets 8 echo ++ toOctets 2 window ++ [blocks.length, 0] ++
    (blocks.map fun b => toOctets 6 b.1 ++ toOctets 2 b.2).flatten

/-- Runs of consecutive numbers in an ascending list, at most 32. -/
def seqRuns : List Nat → List (Nat × Nat)
  | [] => []
  | a :: l =>
    match seqRuns l with
    | (b, n) :: rest => if b = a + 1 then (a, n + 1) :: rest else (a, 1) :: (b, n) :: rest
    | [] => [(a, 1)]

/-- Octets of a receive flow's beats that its ring holds, in words. -/
def State.rxUsed (s : State) (f : Nat) : Nat :=
  let x := s.flow f
  let b := beatBytes (s.rd (Obj.FLOW_WIDTH f))
  ceilDiv (8 * (x.rxWords.length + x.rxHeld.foldl (fun n h => n + h.2.length) 0)) b

/-- WINDOW: whole frames that fit in the free space of the ring (R264). -/
def State.rxWindow (s : State) (f : Nat) : Nat :=
  min 65535 ((2 ^ s.rd (Obj.FLOW_RETAIN_LOG2 f) - s.rxUsed f) / s.frameWords f)

/-- Send the ACK that waits for a flow. -/
def State.sendAck (s : State) (p f : Nat) : State :=
  let x := s.flow f
  let runs := (seqRuns ((x.rxHeld.map Prod.fst).foldr natIns [])).take 32
  let win := if Nat.ble 249 f then 0 else s.rxWindow f
  let sess := if Nat.ble 249 f then f - 248 else s.rd (Obj.FLOW_OWNER f)
  let w : SentFrame :=
    { kind := 2, flow := f, sess := sess, incarn := if Nat.ble 249 f then 0 else s.rd (Obj.FLOW_INCARN f), seq := x.rxAckSeq, epoch := x.ackEpoch, tries := 0
      port := p, flags := 0, sentNs := s.nsNow % 2 ^ 64, dstMac := s.peer p
      dstIp := if Nat.ble 249 f then (s.ses sess).srcIp else s.rd (Obj.FLOW_DEST_IP f)
      dstUdp := if Nat.ble 249 f then (s.ses sess).srcUdp else s.rd (Obj.FLOW_DEST_UDP f)
      octets := ackOctets x.rxNext x.rxHigh x.rxSent win runs }
  (s.updFlow f fun x =>
    { x with rxAckSeq := (x.rxAckSeq + 1) % 2 ^ 48, ackEpoch := epochNear x.ackEpoch x.rxAckSeq (x.rxAckSeq + 1) }).putWire p w

/-- A log entry of a frame's coming transmission goes to the standby (R387). -/
def State.postLog (s : State) (f : Nat) (fr : TxFrame) : State :=
  { s with twin := { s.twin with logWait := s.twin.logWait ++ [(f, fr.seq, fr.sent, s.wall)] } }

/-- A data frame goes out, or first its log entry. -/
def State.sendData (s : State) (p : Nat) (e : Nat × TxFrame) : State :=
  if s.logs && !e.2.logged then s.postLog e.1 e.2 else s.sendFrame p e.1 e.2

/-- An answer of a port's step 1 can leave: an ARP or ND reply always, an ACK where the port has a peer and the engine is not isolated. -/
def State.replyLeaves (s : State) (p : Nat) (e : Nat × Nat) : Bool := e.1 != 2 || (s.peer p != 0 && s.rd Obj.TWIN_STATE != 6)

/-- The next transmission of a port (R254): the port sends its next frame: answers and ACKs, control frames, first transmissions that hold a
token, retransmissions. Nothing leaves before READY (R439). An isolated engine sends nothing, and a standby no frame of a paired flow (R384, R393). -/
def State.sendNext (s : State) (p : Nat) : State :=
    let x := s.port p
    if Nat.ble 28 p || !s.portUp p || Nat.blt (s.rd Obj.DEV_STATE) 2 then s
    else match x.replies.find? (s.replyLeaves p) with
      | some r =>
        let s := s.updPort p fun x => { x with replies := x.replies.erase r }
        if r.1 = 2 then s.sendAck p r.2
        else s.putWire p { kind := 256 + r.1, flow := 0, sess := 255, incarn := 0, seq := 0, tries := 0, port := p, flags := 0, dstMac := r.2 }
      | none =>
        if s.peer p = 0 || s.rd Obj.TWIN_STATE = 6 || !s.portRoom p then s
        else match oldestFrame false (s.controlFrames p) with
          | some e => s.sendFrame p e.1 e.2
          | none =>
            if !s.twinSends then s
            else match oldestFrame false (s.dataFrames p false) with
              | some e => s.sendData p e
              | none => match oldestFrame true (s.dataFrames p true) with
                | some e => s.sendData p e
                | none => s

/-- One transmission of a port, which waits while its frame finds no room in the 64 KiB queue (R9). -/
def State.transmit (s : State) (p : Nat) : State :=
  let t := s.sendNext p
  if Nat.blt (64 * 65536) (t.port p).txFill then s else t

/-! ## Acknowledgement (R257, R258, R263) -/

/-- The fields of an ACK payload (Table 11.5). -/
def ackOf (seq : Nat) (o : List Nat) : Ack :=
  { seq := seq, cum := ofOctets (o.take 6), high := ofOctets ((o.drop 6).take 6), echo := ofOctets ((o.drop 12).take 8)
    window := ofOctets ((o.drop 20).take 2)
    blocks := (List.range (min 32 (o.getD 22 0))).map fun j =>
      { start := ofOctets ((o.drop (24 + 8 * j)).take 6), count := ofOctets ((o.drop (30 + 8 * j)).take 2) } }

/-- A frame is released by an ACK: below CUM or inside a block. -/
def ackReleases (a : Ack) (q : Nat) : Bool :=
  seqBefore q a.cum || a.blocks.any fun b => !seqBefore q b.start && seqBefore q (b.start + b.count)

/-- RTO of a flow in ticks: 1 ms on a control flow (R266). -/
def State.rto (s : State) (f : Nat) : Nat := if Nat.ble 249 f then tpms else s.rd (Obj.FLOW_RTO f) * tpus

/-- Retransmissions a frame of the flow may have (R260, R266). -/
def State.tryMax (s : State) (f : Nat) : Nat := if Nat.ble 249 f then 16 else s.rd (Obj.FLOW_TRY_MAX f)

/-- The frame has had its last retransmission: the next one that falls due loses it (R260). A mover-fed flow loses none while the
nonce allows another transmission (R246). -/
def State.tryEnds (s : State) (f : Nat) (fr : TxFrame) : Bool :=
  Nat.ble (s.tryMax f + 1) fr.sent && (Nat.ble 249 f || s.rd (Obj.FLOW_SRC f) != 8 || Nat.ble 256 fr.sent)

/-- An ACK of a flow is accepted or discarded (R258). A frame that it asks for beyond its last retransmission is left to RTO_EXPIRY,
which is due then and loses it. -/
def State.takeAck (s : State) (f : Nat) (a : Ack) : State :=
  let x := s.flow f
  if x.ackSeq != 0 && !seqBefore (x.ackSeq - 1) a.seq then s.count (Obj.FLOW_RX_BEYOND f)
  else
    let top := a.blocks.foldl (fun n b => if n = 0 then b.start + b.count else if seqBefore n (b.start + b.count) then b.start + b.count else n) 0
    let rtt := (s.nsNow + 2 ^ 64 - a.echo) % 2 ^ 64
    let rtts := ((s.wall, rtt) :: x.rtts).filter fun r => Nat.blt s.wall (r.1 + tps)
    let s := s.updFlow f fun x =>
      { x with
        rxAckEpoch := epochNear x.rxAckEpoch (x.ackSeq - 1) a.seq, ackSeq := a.seq % 2 ^ 48 + 1, ackAt := s.wall, rtts := rtts
        frames := ((x.frames.filter fun g => !ackReleases a g.seq).map fun g =>
          if top != 0 && seqBefore g.seq top && g.sent != 0 && Nat.ble (g.lastAt + s.rto f) s.wall && !s.tryEnds f g then { g with again := true } else g) }
    let s := (s.updFlow f Flow.trim).reRead f
    let s := if s.rd (Obj.FLOW_STATE f) = 4 then s.wr (Obj.FLOW_STATE f) 2 else s
    s.wrAll [(Obj.FLOW_CUM f, a.cum), (Obj.FLOW_ACK_LAST f, s.tick),
      (Obj.FLOW_RTT_AVG f, min (2 ^ 32 - 1) (rtts.foldl (fun n r => n + r.2) 0 / max 1 rtts.length))]

/-- The flow takes ACKs. -/
def State.ackable (s : State) (f : Nat) : Bool := (Nat.ble 249 f && Nat.ble f 255 && (s.ses (f - 248)).isOpen) || s.flowSends f

/-- ACK_RECEIVE (R258): the ACK at the front of a port's receive queue. -/
def execAckReceive (p : Nat) (s : State) : Host.Outcome State Fault Refusal :=
  done s <|
    match s.rxHead p 2 with
    | none => s
    | some f =>
      let s := s.rxPop p
      if s.ackable f.flow then s.takeAck f.flow (ackOf f.seq f.payload) else s.count (Obj.PORT_RX_DROP p)

/-- FORWARDED_ACK_RECEIVE (R386): an ACK that the standby took releases and asks for frames here. -/
def execForwardedAckReceive (f : Nat) (a : Ack) (s : State) : Host.Outcome State Fault Refusal :=
  done s <|
    let t := s.rd Obj.TWIN_STATE
    if (t == 2 || t == 3) && s.twin.peer.isSome && s.ackable f then s.takeAck f a else s

/-- FLOW_STALL (R263): no ACK for 1 s; the clock of it stops outside SERVICE (R423). -/
def execFlowStall (f : Nat) (s : State) : Host.Outcome State Fault Refusal :=
  done s <|
    let x := s.flow f
    if Nat.ble 249 f || s.rd (Obj.FLOW_STATE f) != 2 || s.rd (Obj.FLOW_DIR f) != 0 || s.pwr.suspended ||
      Nat.blt s.wall (max x.ackAt x.liveAt + tps) then s
    else (s.wr (Obj.FLOW_STATE f) 4).event 2 (s.rd (Obj.FLOW_OWNER f)) 0x0402 f

/-! ## Receive flows (R264) -/

/-- Frames held out of order that now follow are passed on. -/
def Flow.drain : Nat → Flow → Flow
  | 0, x => x
  | fuel + 1, x =>
    match x.rxHeld.find? fun h => h.1 == x.rxNext with
    | some h => Flow.drain fuel { x with
        rxWords := x.rxWords ++ h.2, rxNext := (x.rxNext + 1) % 2 ^ 48, rxEpoch := epochNear x.rxEpoch x.rxNext (x.rxNext + 1)
        rxHeld := x.rxHeld.filter fun g => g.1 != h.1 }
    | none => x

/-- The port sends an ACK for the flow next. -/
def State.askAck (s : State) (p f : Nat) : State :=
  (s.updPort p fun x => { x with replies := if x.replies.contains (2, f) then x.replies else x.replies ++ [(2, f)] }).updFlow f fun x =>
    { x with rxSince := none }

/-- A DATA frame of a receive or control flow: within its window and not a duplicate it is held; a gap is acknowledged at
once. Frames that arrive are acknowledged, discarded ones too, with ECHO of the latest transmission of frame HIGH. -/
def State.takeData (s : State) (p : Nat) (r : RxFrame) : State :=
  let f := r.flow
  let x := s.flow f
  let window := if Nat.ble 249 f then 64 else s.rxWindow f
  let ahead := (r.seq + 2 ^ 48 - x.rxNext) % 2 ^ 48
  let dup := seqBefore r.seq x.rxNext || x.rxHeld.any fun h => h.1 == r.seq
  if dup || Nat.ble window ahead then
    (s.updFlow f fun x =>
      { x with rxPort := p, rxSent := if r.seq = x.rxHigh then r.sent else x.rxSent, rxSince := some (x.rxSince.getD s.wall) }).count (Obj.FLOW_RX_BEYOND f)
  else
    let s := s.updFlow f fun x =>
      Flow.drain (x.rxHeld.length + 1) { x with
        rxHeld := x.rxHeld ++ [(r.seq, r.payload)], rxPort := p
        rxSent := if seqBefore r.seq x.rxHigh then x.rxSent else r.sent
        rxHigh := if seqBefore r.seq x.rxHigh then x.rxHigh else r.seq
        rxSince := some (x.rxSince.getD s.wall) }
    let s := if Nat.ble 249 f then
        let o := (s.flow f).rxWords
        (s.updFlow f fun x => { x with rxWords := [] }).controlOctets (f - 248) o
      else s
    if ahead = 0 then s else s.askAck p f

/-- RECEIVE_FLOW_DATA (R264): the DATA frame at the front of a port's receive queue. -/
def execReceiveFlowData (p : Nat) (s : State) : Host.Outcome State Fault Refusal :=
  done s <|
    match s.rxHead p 1 with
    | none => s
    | some r =>
      let s := s.rxPop p
      if Nat.ble 249 r.flow || (s.rd (Obj.FLOW_DIR r.flow) == 1 && s.rd (Obj.FLOW_STATE r.flow) == 2) then s.takeData p r
      else s.count (Obj.PORT_RX_DROP p)

/-- RECEIVE_FLOW_ACK_TIMER (R264): 100 µs after a frame not yet acknowledged. -/
def execReceiveFlowAckTimer (f : Nat) (s : State) : Host.Outcome State Fault Refusal :=
  done s <|
    match (s.flow f).rxSince with
    | none => s
    | some t => if Nat.blt s.wall (t + 100 * tpus) then s else s.askAck (s.flow f).rxPort f

/-! ## Ownership and Joints (R249, R251) -/

/-- FLOW_FREE follows the claims. -/
def State.showFlowFree (s : State) : State :=
  s.wr Obj.FLOW_FREE (249 - (s.owners.filter fun o => o.unit.kind == UKind.flow).length)

/-- Claim a flow (R249). INCARN counts within a session key (R251). -/
def State.flowClaim (s : State) (f : Nat) (r : Req) : State :=
  if Nat.ble 249 f then s.answer r .denied
  else s.claim r ⟨.flow, f⟩ (List.range 249) (s.rd (Obj.DEV_QUOTA_FLOWS r.sess)) fun s =>
    let key := some (r.sess, r.inc)
    let s := if (s.flow f).keyOf = key then s else (s.updFlow f fun x => { x with keyOf := key }).wr (Obj.FLOW_INCARN f) 0
    (s.wrAll [(Obj.FLOW_STATE f, 1), (Obj.FLOW_OWNER f, r.sess)]).showFlowFree

/-- The flow is free, and its key is erased (R370). -/
def State.freeFlow (s : State) (f : Nat) : State :=
  ((((s.disown ⟨.flow, f⟩).dropUnit ⟨.flow, f⟩).updFlow f fun x => { x with secret := 0 }).wrAll [(Obj.FLOW_STATE f, 0), (Obj.FLOW_OWNER f, 255)]).showFlowFree

/-- Release a flow: BUSY while it runs or drains. -/
def State.flowRelease (s : State) (f : Nat) (r : Req) : State :=
  if Nat.ble 249 f then s.answer r .denied
  else s.unclaim r ⟨.flow, f⟩ fun s =>
    if s.rd (Obj.FLOW_STATE f) = 1 then (s.freeFlow f).answer r .ok else s.answer r .busy

/-- FLOW_CLAIM (R249): a write of 1. -/
def execFlowClaim (sess tag f : Nat) (s : State) : Host.Outcome State Fault Refusal :=
  done s <| when (Nat.ble f 255) (fun s => s.direct sess tag (Obj.FLOW_CLAIM f) 1 fun r s => s.flowClaim f r) s

/-- FLOW_RELEASE (R249): a write of 2. -/
def execFlowRelease (sess tag f : Nat) (s : State) : Host.Outcome State Fault Refusal :=
  done s <| when (Nat.ble f 255) (fun s => s.direct sess tag (Obj.FLOW_CLAIM f) 2 fun r s => s.flowRelease f r) s

/-- The pseudo-random key of the session that owns a flow (R368). A session over I3C exchanges no OPEN, and the manual gives its flows
no key: theirs is a free value (log entry 78). -/
def State.flowSecret (s : State) (f : Nat) : Nat :=
  let i := s.rd (Obj.FLOW_OWNER f)
  if i = 0 then Config.sessionSecret 0 else (s.ses i).secret

/-- A new incarnation of a flow at Joint tick j: counters of the stream begin again, its first record is a time anchor. -/
def State.startFlow (s : State) (f j : Nat) : State :=
  let old := s.flow f
  let cust : Custody := { on := s.rdB (Obj.SEC_CUST_ENABLE f) && s.rd (Obj.FLOW_DIR f) == 0, seg := old.custody.seg, prevHash := old.custody.prevHash }
  let s := s.updFlow f fun x =>
    { liveAt := s.wall, from_ := j, keyOf := x.keyOf, secret := s.flowSecret f, lossAlertAt := x.lossAlertAt, custody := cust, tokenAt := s.wall
      anchorAt := nextSecond s.tick, statusAt := nextSecond s.tick, statShed := s.rd Obj.DEV_SHED_ACTIVE, statAlerts := s.log.alerts }
  let s := s.wrAll [(Obj.FLOW_STATE f, 2), (Obj.FLOW_INCARN f, s.rd (Obj.FLOW_INCARN f) + 1), (Obj.FLOW_SEQ_NEXT f, 0),
    (Obj.FLOW_CUM f, 0), (Obj.FLOW_REC_VER f, min (min (s.rd Obj.FLOW_REC_VER_ENGINE) ((s.twin.peer.map fun p => p.record.2).getD 255)) (s.rd (Obj.FLOW_REC_VER_MAX f)))]
  let s := s.showFlow f
  let full := (flowPorts s.rd f).map fun p => s.rd (Obj.FLOW_BURST f) * s.tokenCost f p
  (s.updFlow f fun x => { x with tokens := full }).enter f s.anchor

/-- Production ends: the record being cut, the last manifest, FINAL; the flow drains (R251, R373). A receive flow is over
at once: its movers lose it. A standby cuts the last frames as its primary's log says (R386, R389). -/
def State.stopFlow (s : State) (f : Nat) : State :=
  let s := s.moversLoseFlow f
  if s.rd (Obj.FLOW_DIR f) = 1 then (s.updFlow f fun x => { x with rxWords := [], rxHeld := [], rxSince := none }).wr (Obj.FLOW_STATE f) 3
  else
    let step := match s.flowRing f with
      | some h => s.ringStep h
      | none => 1
    let h := (s.flowRing f).getD 0
    let s := s.updFlow f fun x =>
      let y := x.endCut s.wall h step false false
      y.wait.foldl (fun y r => y.enter s.wall r) { y with wait := [], held := [], left := 0 }
    if s.isStandby then s.wr (Obj.FLOW_STATE f) 3
    else
    let s := s.closeSegment f
    let c := (s.flow f).custody
    let h := c.prevHash / 2 ^ 320 % 2 ^ 64
    let s := if c.on then s.event 0 (s.rd (Obj.FLOW_OWNER f)) (s.freeN % 65536) (f * 2 ^ 28 + h / 2 ^ 36) (h % 2 ^ 36) ((c.seg - 1) % 2 ^ 36) |>.used 1 else s
    ((s.finalFrame f).wr (Obj.FLOW_STATE f) 3)

/-- The flow's due change. -/
def State.flowDue (s : State) (f : Nat) : Option Bool :=
  (s.due 8 ⟨.flow, f⟩).map fun w => w.1.value s (Obj.FLOW_ENABLE f) == 1

/-- FLOW_ENABLE_JOINT (R251): a change that leaves or makes the flow enabled. A flow that still drains begins its next
incarnation once it has drained. -/
def execFlowEnableJoint (f : Nat) (s : State) : Host.Outcome State Fault Refusal :=
  done s <|
    let was := s.rdB (Obj.FLOW_ENABLE f)
    if Nat.ble 249 f || s.flowDue f != some true || s.rd (Obj.FLOW_STATE f) == 3 then s
    else s.joint 8 ⟨.flow, f⟩ (fun _ _ s => s) fun _ j s =>
      let s := s.wr (Obj.FLOW_LAST_JOINT f) j
      if was then s.showFlow f else s.startFlow f j

/-- FLOW_DISABLE_JOINT (R251): a change that leaves or makes the flow disabled. -/
def execFlowDisableJoint (f : Nat) (s : State) : Host.Outcome State Fault Refusal :=
  done s <|
    let was := s.rdB (Obj.FLOW_ENABLE f)
    if Nat.ble 249 f || s.flowDue f != some false then s
    else s.joint 8 ⟨.flow, f⟩ (fun _ _ s => if was then s.stopFlow f else s) fun _ j s => (s.wr (Obj.FLOW_LAST_JOINT f) j).showFlow f

/-- FLOW_DRAIN_END (R251): every frame is acknowledged or lost: the retention ring is freed, and the flow with its session
where that has ended. A standby that has not synced drops its own frames (R390). -/
def execFlowDrainEnd (f : Nat) (s : State) : Host.Outcome State Fault Refusal :=
  done s <|
    let x := s.flow f
    let drop := s.isStandby && Nat.blt s.twin.steps 3
    if Nat.ble 249 f || s.rd (Obj.FLOW_STATE f) != 3 || !(x.frames.isEmpty || drop) then s
    else
      let s := s.updFlow f fun x => { x with frames := [] }
      let s := s.freeSmall (Obj.FLOW_RETAIN_LOG2 f) 0
      let s := s.wr (Obj.FLOW_STATE f) 1
      if x.ending then (s.freeFlow f).updFlow f fun x => { x with ending := false } else s

end Sys2Proof.Machine
end

