-- ==== Sys2Proof/Machine/Scan.lean ====
section
/-! DEFINITION. The scan-out (chapter 12): latches, line timing, the compositor, the density render, the traces, the pad check,
layer claims and the release of layer buffers. -/

namespace Sys2Proof.Machine

/-! ## Timing (R270, R271) -/

/-- Pixels of a line and lines of a frame, blanking included. -/
def scanLinePixels (get : Nat → Nat) : Nat :=
  get Obj.SCAN_HACTIVE + get Obj.SCAN_HFP + get Obj.SCAN_HSYNC + get Obj.SCAN_HBP
def scanBlankLines (get : Nat → Nat) : Nat := get Obj.SCAN_VFP + get Obj.SCAN_VSYNC + get Obj.SCAN_VBP

/-- Ticks to transfer one line's payload, as a fraction: bits over four lanes, and 1 µs (R270). -/
def scanTransfer (get : Nat → Nat) : Frac :=
  ⟨(get Obj.SCAN_HACTIVE * 24 + 48) * 8000 + tpus * get Obj.SCAN_LANE_MBPS, get Obj.SCAN_LANE_MBPS⟩

/-- Ticks of a line of a frame: the line time in video mode, the transfer time in command mode. -/
def scanLineTime (get : Nat → Nat) : Frac :=
  if get Obj.SCAN_MODE = 1 then scanTransfer get else ⟨scanLinePixels get * tps, get Obj.SCAN_PIXEL_HZ⟩

/-- Wall time at which line y of the frame begins, blanking lines ahead of line 0 in video mode. -/
def State.scanLineAt (s : State) (y : Nat) : Nat :=
  let blank := if s.rd Obj.SCAN_MODE = 1 then 0 else scanBlankLines s.rd
  s.scan.at_ + ((scanLineTime s.rd).scale (blank + y) 1).ceil

/-- SCAN_RATE of a running scan-out, in mHz. -/
def scanRate (get : Nat → Nat) : Nat :=
  if get Obj.SCAN_MODE = 1 then get Obj.SCAN_RATE_MAX
  else get Obj.SCAN_PIXEL_HZ * 1000 / max 1 (scanLinePixels get * (get Obj.SCAN_VACTIVE + scanBlankLines get))

/-- SCAN_TOLERANCE in nanoseconds (R283). -/
def scanTolerance (get : Nat → Nat) : Nat :=
  let t := scanLineTime get
  t.num * get Obj.SCAN_TOL_LINES / (32 * max 1 t.den)

/-! ## Traces (R277) -/

/-- LOGP36 of a POW36 word (R87). -/
def levelOfPow (w : Nat) : Nat := logp36 (w / 64 * 2 ^ (toI 6 w + (powBits - 29 : Nat)).toNat)

/-- The level of a record's value: none for a complex record. -/
def recordLevel (r : Record) (i : Nat) : Nat :=
  let w := r.payload.getD i 0x800000000
  if r.type = 4 then levelOfPow w else if r.type = 5 then w else 0x800000000

/-- Row, from the bottom, at which a trace draws column x of the layer. -/
def State.traceRow (s : State) (r : Record) (x : Nat) : Option Nat :=
  let v := recordLevel r (x * r.payload.length / max 1 (s.rd (Obj.SCAN_L_W 1)))
  if v = 0x800000000 || r.payload.isEmpty then none
  else
    let h := s.rd (Obj.SCAN_L_H 1)
    let range := s.rdI Obj.SCAN_TR_RANGE
    let y := (toI 36 v - (s.rdI Obj.SCAN_TR_TOP - range)) * h / range
    if range ≤ 0 then none else if 0 ≤ y ∧ y < h then some y.toNat else none

/-- The trace covers the pixel: its column's row, or the vertical run from the column before. -/
def State.traceHits (s : State) (r : Record) (x row : Nat) : Bool :=
  match s.traceRow r x with
  | none => false
  | some b => b == row || (x != 0 && match s.traceRow r (x - 1) with
    | some a => (Nat.blt a row && Nat.blt row b) || (Nat.blt b row && Nat.blt row a)
    | none => false)

/-- The trace layer's pixel: later traces lie over earlier ones, the rest is transparent. -/
def State.tracePixel (s : State) (x y : Nat) : Nat :=
  let row := s.rd (Obj.SCAN_L_H 1) - 1 - y
  match [3, 2, 1, 0].find? fun k => match at' s.scan.traces k with
    | some r => s.traceHits r x row
    | none => false with
  | some k => s.rd (Obj.SCAN_TR_COLOR k)
  | none => 0

/-- The records that the traces draw, as of now. -/
def State.traceRecords (s : State) : List (Option Record) :=
  (List.range 4).map fun k =>
    let v := s.rd (Obj.SCAN_TR_SRC k)
    if v = 0xFFFF then none
    else ((s.dets.getD (v / 256) {}).latest.find? fun e => e.1 == v % 256).map Prod.snd

/-! ## Layers (R272 to R276, R282) -/

/-- Word address of a layer's pixel (x, y), and the pixel's place in its word. -/
def State.pixelAt (s : State) (l half x y : Nat) : Nat × Nat :=
  let k := if s.rd (Obj.SCAN_L_FORMAT l) = 1 then 4 else 1
  let up := if l = 0 then half * 2 ^ (s.rd (Obj.SCAN_L_BUF_LOG2 0) - 1) else 0
  (s.rd (Obj.SCAN_L_BUF_BASE l) + up + s.rd (Obj.SCAN_L_OFFSET l) + y * s.rd (Obj.SCAN_L_STRIDE l) + x / k, x % k)

/-- A layer's palette colour in force. -/
def State.palette (s : State) (l i : Nat) : Nat :=
  match (s.loads.getD (48 + l) {}).force with
  | (_, _, m) :: _ => m.get zeroDflt i
  | [] => 0

/-- The picture that the frame reads has been rewritten since the latch (R282). -/
def State.torn (s : State) (l : Nat) : Bool :=
  let lo := (s.pixelAt l s.scan.half 0 0).1
  let hi := lo + s.rd (Obj.SCAN_L_H l) * s.rd (Obj.SCAN_L_STRIDE l)
  let inside (p : Nat × Nat) := Nat.ble lo p.1 && Nat.blt p.1 hi
  (s.scan.words.filter inside) != (s.rsv.mem.filter inside)

/-- A layer's pixel as ARGB8888, relative to its rectangle. A torn picture's pixel is a free value. -/
def State.layerPixel (s : State) (l x y : Nat) (torn : Bool) : Nat :=
  if l = 1 then s.tracePixel x y
  else if torn then Config.freeNat (s.free + x) % 2 ^ 32
  else
    let (a, j) := s.pixelAt l s.scan.half x y
    let w := s.scan.words.get zeroDflt a
    if s.rd (Obj.SCAN_L_FORMAT l) = 1 then s.palette l (w / 2 ^ (24 - 8 * j) % 256) else w % 2 ^ 32

/-- One component blended (R275). -/
def blendOne (a2 src dst : Nat) : Nat := (roundConv (a2 * src + (255 - a2) * dst : Nat) 255).toNat

/-- A layer pixel over an RGB pixel with global alpha g. -/
def blend (g argb rgb : Nat) : Nat :=
  let a2 := (roundConv (argb / 2 ^ 24 % 256 * g : Nat) 255).toNat
  let c (k : Nat) := blendOne a2 (argb / 2 ^ k % 256) (rgb / 2 ^ k % 256) * 2 ^ k
  c 16 + c 8 + c 0

/-- The composited pixel (x, y) of the active area: `missing` holds 4 × x + layer for each layer whose pixels from x on have
not arrived. -/
def State.scanPixel (s : State) (torn : List Nat) (missing : List Nat) (x y : Nat) : Nat :=
  let bg := s.rd Obj.SCAN_BG % 2 ^ 24
  if s.scan.blank then bg
  else [0, 1, 2, 3].foldl (fun rgb l =>
    let x0 := s.rd (Obj.SCAN_L_X l)
    let y0 := s.rd (Obj.SCAN_L_Y l)
    let inside := Nat.ble x0 x && Nat.blt x (x0 + s.rd (Obj.SCAN_L_W l)) && Nat.ble y0 y && Nat.blt y (y0 + s.rd (Obj.SCAN_L_H l))
    let gone := missing.any fun m => m % 4 == l && Nat.ble (m / 4) x
    if s.rdB (Obj.SCAN_L_ENABLE l) && inside && !gone then
      blend (s.rd (Obj.SCAN_L_ALPHA l)) (s.layerPixel l (x - x0) (y - y0) (torn.contains l)) rgb
    else rgb) bg

/-- The octets of a line's pixels in transmission order: red, green, blue. -/
def lineOctets (pixels : List Nat) : List Nat := (pixels.map fun p => [p / 2 ^ 16 % 256, p / 2 ^ 8 % 256, p % 256]).flatten

/-! ## The latch (R278 to R281) -/

/-- Swaps that change the scan-out and wait for a latch, in order. -/
def State.scanSwaps (s : State) : List Swap := s.swaps.filter fun w => !w.validating && w.units.any fun c => c.group == 9

/-- The scan-out's part of a swap is due. -/
def Swap.scanDue (w : Swap) (tick : Nat) : Bool := w.units.all fun c => c.group != 9 || Nat.ble c.boundary tick

/-- Swaps that a latch applies: the oldest, and engine Joints that follow it. -/
def State.latchSwaps (s : State) : List Swap :=
  match s.scanSwaps with
  | [] => []
  | w :: rest => if w.scanDue s.tick then w :: rest.takeWhile fun v => v.cause.isSome && v.scanDue s.tick else []

/-- A layer's buffer is freed or moved: movers lose it, and it waits for its release (R281). -/
def State.layerLeaves (s : State) (l : Nat) : State :=
  if s.rd (Obj.SCAN_L_BUF_LOG2 l) = 0 then s else (s.moversLoseLayer l).wr (Obj.SCAN_L_STATE l) 2

/-- SCAN_L_STATE and SCAN_L_BUF_BASE of a layer whose buffer is not awaiting release. -/
def State.showLayer (s : State) (l : Nat) : State :=
  let s := if l = 1 then s else
    s.wr (Obj.SCAN_L_BUF_BASE l) (if s.rd (Obj.SCAN_L_BUF_LOG2 l) = 0 then 0
      else ((s.small (Obj.SCAN_L_BUF_LOG2 l)).map SmallRing.base).getD 0)
  if s.rd (Obj.SCAN_L_STATE l) = 2 then s
  else s.wr (Obj.SCAN_L_STATE l) (b2n (s.rdB (Obj.SCAN_L_ENABLE l) && s.rdB Obj.SCAN_ENABLE))

/-- One swap's scan-out values come into force at a latch. -/
def State.latchSwap (s : State) (w : Swap) : State :=
  (w.units.filter fun c => c.group == 9).foldl (fun s c =>
    let s := if c.unit.kind == .layer && w.changes s (Obj.SCAN_L_BUF_LOG2 c.unit.i) then s.layerLeaves c.unit.i else s
    let s := s.applyChange w 9 c.unit s.tick
    match w.tables.find? fun (p : Nat × Mem) => c.unit.kind == .layer && p.1 == 48 + c.unit.i with
    | some p => s.updLoad p.1 fun x => { x with force := [(s.tick, 0, p.2)] }
    | none => s) s

/-- A released layer is disabled and its buffer leaves (R273, R281), once no swap of it waits. -/
def State.dropLayer (s : State) (l : Nat) : State :=
  if s.swaps.any fun w => (w.change 9 ⟨.layer, l⟩).isSome then s
  else
    let s := s.layerLeaves l
    let s := s.wrAll [(Obj.SCAN_L_ENABLE l, 0), (Obj.SCAN_L_BUF_LOG2 l, 0), (Obj.SCAN_L_OWNER l, 255)]
    let s := (s.disown ⟨.layer, l⟩).dropUnit ⟨.layer, l⟩
    { s with scan := { s.scan with drop := s.scan.drop.filter fun k => k != l } }

/-- The frame in which each waiting commit is to take effect (R279). -/
def State.scanEffects (s : State) : State :=
  (s.scanSwaps.foldl (fun (acc : State × Nat) w =>
    (if w.cause.isSome then acc.1 else acc.1.wr (sk w.sess Obj.SCAN_FRAME_EFFECT) acc.2, acc.2 + 1)) (s, s.rd Obj.SCAN_FRAME + 1)).1

/-- The newest complete Harvest of the density layer's plane (R276). -/
def State.newestHarvest (s : State) : Option Harvest :=
  let p := s.rd Obj.SCAN_L_DENS_PLANE
  if 8 ≤ p || !s.rdB (Obj.SCAN_L_ENABLE 0) then none else (s.plane p).last

/-- That Harvest, where no render of it has begun. -/
def State.freshHarvest (s : State) : Option Harvest :=
  s.newestHarvest.filter fun h => s.scan.last != some (s.rd Obj.SCAN_L_DENS_PLANE, h.seq)

/-- A latch: the due configuration comes into force, and the next frame's content is settled. In command mode a frame follows an accepted
TE edge alone: where the scan-out was off or in video mode, the latch begins none and SCAN_FRAME stands (log entry 73). -/
def State.latch (edge : Bool) (s : State) : State :=
  let s := s.latchSwaps.foldl State.latchSwap s
  let s := s.scan.drop.foldl State.dropLayer s
  let on := s.rdB Obj.SCAN_ENABLE
  let shed := s.isShed 2 0
  let x := s.scan
  let frame := on && (edge || s.rd Obj.SCAN_MODE != 1)
  let s := if frame then (s.wr Obj.SCAN_FRAME (s.rd Obj.SCAN_FRAME + 1)).wr Obj.SCAN_LATCH_TICK s.tick else s
  let fresh := s.newestHarvest
  let x := { x with
    half := if x.rendered then 1 - x.half else x.half
    render := if x.rendered || x.render.isNone then fresh else x.render
    last := if x.rendered || x.render.isNone then (match fresh with
      | some h => some (s.rd Obj.SCAN_L_DENS_PLANE, h.seq)
      | none => x.last) else x.last
    rendered := false
    sending := frame && !(shed && s.rd Obj.SCAN_MODE == 1)
    line := 0, fetched := 0, at_ := s.wall, blank := shed, crc := 0xFFFFFFFF, run := none
    free_ := s.wall
    traces := s.traceRecords, words := s.rsv.mem }
  let s := { s with scan := x }
  let s := s.wrAll [(Obj.SCAN_STATE, if !on then 0 else if shed then 4 else if s.rd Obj.SCAN_STATE = 0 then 1 else 2 + s.rd Obj.SCAN_MODE),
    (Obj.SCAN_RATE, if on then scanRate s.rd else 0), (Obj.SCAN_TOLERANCE, if on then scanTolerance s.rd else 0)]
  ([0, 1, 2, 3].foldl State.showLayer s).scanEffects.scanReader

/-- SCAN_LATCH (R278): in video mode the first line of vertical blanking begins; while the scan-out is off, what waits for a
latch applies at once. -/
def execScanLatch (s : State) : Host.Outcome State Fault Refusal :=
  done s <|
    if s.rd Obj.DEV_STATE < 2 then s
    else if !s.rdB Obj.SCAN_ENABLE then s.latch false
    else when (s.rd Obj.SCAN_MODE == 0 && !s.scan.sending && Nat.ble (s.scanLineAt (s.rd Obj.SCAN_VACTIVE)) s.wall) (State.latch false) s

/-- The earliest wall time at which a TE edge may be accepted (R271). -/
def State.teFrom (s : State) : Nat :=
  match s.scan.te with
  | none => s.scan.free_
  | some t => max s.scan.free_ (t + ceilDiv (1000 * tps) (max 1 (s.rd Obj.SCAN_RATE_MAX)))

/-- A TE edge may be accepted now. -/
def State.teOpen (s : State) : Bool := !s.scan.sending && Nat.ble s.teFrom s.wall

/-- The command-mode scan-out runs. -/
def State.commandMode (s : State) : Bool := s.rdB Obj.SCAN_ENABLE && s.rd Obj.SCAN_MODE == 1

/-- An accepted TE edge is a latch. -/
def State.teAccept (s : State) : State :=
  let s := s.latch true
  { s with scan := { s.scan with te := some s.wall } }

/-- TE_IN_EDGE (R271). -/
def execTeInEdge (s : State) : Host.Outcome State Fault Refusal :=
  done s <| when s.commandMode (fun s => if s.teOpen then s.teAccept else s.count Obj.SCAN_TE_EXTRA) s

/-- SCAN_TE_TIMEOUT (R271). -/
def execScanTeTimeout (s : State) : Host.Outcome State Fault Refusal :=
  done s <|
    let t := s.rd Obj.SCAN_TE_TIMEOUT
    when (s.commandMode && s.teOpen && t != 0 && Nat.ble (s.teFrom + t * tpus) s.wall)
      (fun s => (s.count Obj.SCAN_TE_MISS).teAccept) s

/-! ## Lines (R282, R284, R285) -/

/-- The gap/loss record of a run of lines with missing pixels goes into every flow with FLOW_STATUS true. -/
def State.underrunEnd (s : State) : State :=
  match s.scan.run with
  | none => s
  | some (a, b, n) =>
    let fs := s.runningFlows.filter fun f => s.rdB (Obj.FLOW_STATUS f)
    let s := s.enterAll fs (gapRecord 12 0 a b 10 n (s.rd Obj.SCAN_FRAME))
    { s with scan := { s.scan with run := none } }

/-- Reservoir-held layers whose pixels a line needs and lacks. -/
def State.lacking (s : State) (missing : List Nat) (y : Nat) : List Nat :=
  if s.scan.blank then [] else missing.filter fun m =>
    let l := m % 4
    let y0 := s.rd (Obj.SCAN_L_Y l)
    let x0 := s.rd (Obj.SCAN_L_X l)
    l != 1 && s.rdB (Obj.SCAN_L_ENABLE l) && Nat.ble y0 y && Nat.blt y (y0 + s.rd (Obj.SCAN_L_H l)) &&
      Nat.blt (m / 4) (x0 + s.rd (Obj.SCAN_L_W l))

/-- The frame's last line has been fetched and sent. -/
def State.frameSent (s : State) : State :=
  let n := s.rd Obj.SCAN_FRAME
  let crc := Nat.xor s.scan.crc 0xFFFFFFFF
  let t := (scanLineTime s.rd).ceil
  let s := s.underrunEnd
  let s := { s with scan := { s.scan with
    sending := false, check := some (n, crc, s.wall + 2 * t), free_ := s.wall + t } }
  if s.scan.blank then s
  else [0, 2, 3].foldl (fun s l => if s.rdB (Obj.SCAN_L_ENABLE l) then s.wr (Obj.SCAN_L_LAST_SHOWN l) n else s) s

/-- SCAN_LINE_SEND (R284): line y is sent at its time. `missing` holds 4 × x + layer for each layer of which the pixels from
x on have not arrived. -/
def execScanLineSend (y : Nat) (missing : List Nat) (s : State) : Host.Outcome State Fault Refusal :=
  done s <|
    if !s.scan.sending || y != s.scan.line || Nat.blt s.wall (s.scanLineAt y) then s
    else
      let lack := s.lacking missing y
      let torn := [0, 2, 3].filter fun l => s.torn l
      let px := (List.range (s.rd Obj.SCAN_HACTIVE)).map fun x => s.scanPixel torn lack x y
      let crc := (lineOctets px).foldl crc32Octet s.scan.crc
      let s := s.used (if torn.isEmpty then 0 else s.rd Obj.SCAN_HACTIVE)
      let s : State := { s with scan := { s.scan with pixels := px, crc := crc, line := y + 1 } }
      let s : State := if lack.isEmpty then s.underrunEnd
        else
          let s := s.count Obj.SCAN_UNDERRUN
          { s with scan := { s.scan with run := some (match s.scan.run with
            | none => (s.tick, s.tick, 1)
            | some (a, _, n) => (a, s.tick, n + 1)) } }
      let s := if s.rd Obj.SCAN_STATE = 1 then s.wr Obj.SCAN_STATE (2 + s.rd Obj.SCAN_MODE) else s
      (if y + 1 = s.rd Obj.SCAN_VACTIVE then s.frameSent else s).scanReader

/-- SCAN_CRC_CHECK (R285): the CRC sampled back at the pads, one line time after the last active line. -/
def execScanCrcCheck (pad : Nat) (s : State) : Host.Outcome State Fault Refusal :=
  done s <|
    match s.scan.check with
    | none => s
    | some (n, crc, at_) =>
      if Nat.blt s.wall at_ then s
      else
        let s := { s with scan := { s.scan with check := none } }
        let s := s.wrAll [(Obj.SCAN_CRC_LAST, pad % 2 ^ 32), (Obj.SCAN_CRC_FRAME, n)]
        if pad % 2 ^ 32 = crc then s
        else ((s.count Obj.SCAN_CRC_ERR).wr Obj.SCAN_CRC_ERR_FRAME n).event 2 254 0x0500 (n / 2 ^ 36) (n % 2 ^ 36)

/-! ## Density render (R276) -/

/-- Index of a cell count. -/
def densityIndex (lo hi v : Nat) : Nat :=
  if v = 0 then 0
  else (clampI 1 255 (1 + ((logCodeOf v : Int) - lo) * 254 / ((hi : Int) - lo))).toNat

/-- The word that a render writes at a buffer word: one pixel, or four. -/
def State.renderPixel (s : State) (h : Harvest) (x y : Nat) : Nat :=
  let col := x * h.cols / max 1 (s.rd (Obj.SCAN_L_W 0))
  let row := h.rows - 1 - y * h.rows / max 1 (s.rd (Obj.SCAN_L_H 0))
  densityIndex (s.rd Obj.SCAN_L_DENS_LO) (s.rd Obj.SCAN_L_DENS_HI) (h.cells.get zeroDflt (2048 * row + col))

/-- Write a rendered Harvest into the half not shown. -/
def State.renderInto (s : State) (h : Harvest) : State :=
  (List.range (s.rd (Obj.SCAN_L_H 0))).foldl (fun s y =>
    (List.range (s.rd (Obj.SCAN_L_W 0))).foldl (fun s x =>
      let i := s.renderPixel h x y
      let (a, j) := s.pixelAt 0 (1 - s.scan.half) x y
      if s.rd (Obj.SCAN_L_FORMAT 0) = 1 then
        let w := s.word a
        s.putMem a (w - w / 2 ^ (24 - 8 * j) % 256 * 2 ^ (24 - 8 * j) + i * 2 ^ (24 - 8 * j))
      else s.putMem a (s.palette 0 i)) s) s

/-- DENSITY_RENDER_DONE. -/
def execDensityRenderDone (s : State) : Host.Outcome State Fault Refusal :=
  done s <|
    match s.scan.render with
    | none => s
    | some h =>
      if s.scan.rendered || s.rd (Obj.SCAN_L_BUF_LOG2 0) = 0 then s
      else
        let s := s.renderInto h
        { s with scan := { s.scan with rendered := true } }

/-! ## Ownership and buffers (R273, R281) -/

/-- LAYER_BUFFER_RELEASE (R281): the last frame that reads the buffer has been fetched. -/
def execLayerBufferRelease (l : Nat) (s : State) : Host.Outcome State Fault Refusal :=
  done s <| when (Nat.blt l 4 && s.rd (Obj.SCAN_L_STATE l) == 2) (fun s =>
    let k := s.rd (Obj.SCAN_L_BUF_LOG2 l)
    ((s.freeSmall (Obj.SCAN_L_BUF_LOG2 l) (if k = 0 then 0 else 2 ^ k)).wr (Obj.SCAN_L_STATE l) 0).showLayer l) s

/-- Claim a layer (R273). -/
def State.layerClaim (s : State) (l : Nat) (r : Req) : State :=
  s.claim r ⟨.layer, l⟩ (List.range 4) 256 fun s => s.wr (Obj.SCAN_L_OWNER l) r.sess

/-- A layer is to be disabled at the next latch; its committed values no longer enable it. -/
def State.freeLayer (s : State) (l : Nat) : State :=
  let s := (s.wrc (Obj.SCAN_L_ENABLE l) 0).wrc (Obj.SCAN_L_BUF_LOG2 l) 0
  { s with scan := { s.scan with drop := l :: s.scan.drop.filter fun k => k != l } }

/-- Release a layer (R202, R273, R281). -/
def State.layerRelease (s : State) (l : Nat) (r : Req) : State :=
  s.unclaim r ⟨.layer, l⟩ fun s =>
    let s := s.freeLayer l
    (if s.rdB (Obj.SCAN_L_ENABLE l) || s.rd (Obj.SCAN_L_BUF_LOG2 l) != 0 then s else s.dropLayer l).answer r .ok

/-- SCAN_L_CLAIM (R273): a write of 1. -/
def execScanLClaim (sess tag l : Nat) (s : State) : Host.Outcome State Fault Refusal :=
  done s <| when (Nat.blt l 4) (fun s => s.direct sess tag (Obj.SCAN_L_CLAIM l) 1 fun r s => s.layerClaim l r) s

/-- SCAN_L_RELEASE (R273): a write of 2. -/
def execScanLRelease (sess tag l : Nat) (s : State) : Host.Outcome State Fault Refusal :=
  done s <| when (Nat.blt l 4) (fun s => s.direct sess tag (Obj.SCAN_L_CLAIM l) 2 fun r s => s.layerRelease l r) s

/-- SCAN_L_PAL_WRITE (R274): a shadow write of one palette entry. -/
def execScanLPalWrite (sess tag l v : Nat) (s : State) : Host.Outcome State Fault Refusal :=
  done s <| when (Nat.blt l 4) (fun s => s.stageWrite sess tag (Obj.SCAN_L_PAL_WRITE l) v) s

end Sys2Proof.Machine
end

