-- ==== Sys2Proof/Machine/Clock.lean ====
section
/-! DEFINITION. References and the master synthesiser (chapter 13): presence, holdover, pull-in, switching, lock and its loss, the
planned change of the nominal frequency, CLKOUT and the jitter test. -/

namespace Sys2Proof.Machine

/-! ## References (R292, R294) -/

/-- Nominal frequency of a reference. -/
def State.refHz (s : State) (r : Nat) : Nat := s.rd (if r = 0 then Obj.CLK_REF_A_HZ else Obj.CLK_REF_B_HZ)

/-- A reference is PRESENT. -/
def State.refPresent (s : State) (r : Nat) : Bool := s.rd (Obj.CLK_REF_STATE r) == 2

/-- Change the clock's record. -/
def State.updClk (s : State) (f : Clk → Clk) : State := { s with clk := f s.clk }

/-- The reference that R294 selects, PRESENT, among those of the nominal frequency in use: a commanded one, else REFIN_A, else
REFIN_B. `any` allows every nominal frequency, before the first lock. -/
def State.refSelected (s : State) (any : Bool) : Option Nat :=
  let ok (r : Nat) := s.refPresent r && (any || s.refHz r == s.refHz s.clk.target)
  match s.rd Obj.CLK_REF_SEL with
  | 0 => if ok 0 then some 0 else none
  | 1 => if ok 1 then some 1 else none
  | _ => if ok 0 then some 0 else if ok 1 then some 1 else none

/-- The two references' offsets lie within ±10 ppm of each other (R300). -/
def State.refsAgree (s : State) : Bool :=
  decide ((s.rdI (Obj.CLK_REF_PPB 0) - s.rdI (Obj.CLK_REF_PPB 1)).natAbs ≤ 10000)

/-- The ratio of a nominal frequency in lowest terms (R295). -/
def State.setRatio (s : State) (hz : Nat) : State :=
  let r := tps % max 1 hz
  let g := Nat.gcd r hz
  s.wrAll [(Obj.CLK_RATIO_INT, tps / max 1 hz), (Obj.CLK_RATIO_NUM, r / max 1 g), (Obj.CLK_RATIO_DEN, max 1 (hz / max 1 g))]

/-- CLK_OUT_HZ: the divided master while its gate is open, from READY on (R301, R305, R439). -/
def State.showClkOut (s : State) : State :=
  let d := s.rd Obj.CLK_OUT_DIV
  s.wr Obj.CLK_OUT_HZ (if d = 0 || !s.masterLocked || Nat.blt (s.rd Obj.DEV_STATE) 2 then 0 else tps / d)

/-- Set the lock bit of the master. -/
def State.lockBit (s : State) (on : Bool) : State := s.wr Obj.CLK_LOCKED_MASK (setBit (s.rd Obj.CLK_LOCKED_MASK) 0 on)

/-- The planned change whose gate has closed (R303): one that is still pending leaves the recovery of an unplanned loss to R304. -/
def State.changing (s : State) : Option ClkChange := if s.rd Obj.CLK_CHANGE_STATUS = 1 then none else s.clk.change

/-- Acquisition begins once the reference it is to use is PRESENT (R297, R303). -/
def State.acquire (s : State) : State :=
  if s.clk.acquireAt.isSome then s
  else match s.changing with
    | some c =>
      if s.clk.gatedAt.isSome && s.refPresent c.ref then
        s.updClk fun x => { x with acquireAt := some s.wall, target := c.ref, late := false }
      else s
    | none =>
      match s.refSelected (s.rd Obj.CLK_STATE == 1) with
      | some r => s.updClk fun x => { x with acquireAt := some s.wall, target := r, late := false }
      | none => s

/-! ## Holdover, pull-in, switches (R293, R294, R298 to R300) -/

/-- The master enters holdover (R298). -/
def State.holdover (s : State) : State :=
  let lost := s.rd Obj.CLK_REF_ACTIVE
  let s := s.updClk fun x => { x with holdAt := s.wall, long := false, trim := 0, trimAt := s.wall + 10 * tpms, missAt := none }
  let s := s.wrAll [(Obj.CLK_STATE, 3), (Obj.CLK_REF_ACTIVE, 2), (Obj.CLK_HOLD_SINCE, s.tick)]
  ((s.count Obj.CLK_HOLD_COUNT).event 1 254 0x0602 lost).anchorAll

/-- A hitless switch to a reference (R300). -/
def State.switchRef (s : State) (r : Nat) : State :=
  let s := s.updClk fun x => { x with target := r, missAt := none }
  ((s.wr Obj.CLK_REF_ACTIVE r).count Obj.CLK_SWITCH_COUNT).anchorAll

/-- The active reference is lost: in automatic mode the other one takes over where R294 and R300 allow it. -/
def State.refLost (s : State) : State :=
  let other := 1 - s.rd Obj.CLK_REF_ACTIVE
  if s.rd Obj.CLK_REF_SEL = 2 && s.refPresent other && s.refHz other == s.refHz (1 - other) && s.refsAgree then s.switchRef other
  else s.holdover

/-- In holdover or free running, a selected reference that is PRESENT is pulled in to (R299). -/
def State.pullIn (s : State) : State :=
  if s.rd Obj.CLK_STATE != 3 && s.rd Obj.CLK_STATE != 6 then s
  else match s.refSelected (s.rd Obj.CLK_STATE == 6) with
    | some r => (s.updClk fun x => { x with target := r }).wr Obj.CLK_STATE 4
    | none => s

/-- REF_PRESENCE_CHANGE (R292): reference r enters a state of Table 13.3 with a measured offset; an absent one has none, and its latest stands. PRESENT follows QUALIFYING, within
±100 ppm; in holdover the state may be settled again as it was (R293). -/
def execRefPresenceChange (r st : Nat) (ppb : Int) (s : State) : Host.Outcome State Fault Refusal :=
  done s <|
    let old := s.rd (Obj.CLK_REF_STATE r)
    let legal := Nat.blt r 2 && Nat.blt st 4 && Nat.ble 1 (s.rd Obj.DEV_STATE) &&
      (if st = old then s.rd Obj.CLK_STATE == 3 else st != 2 || (old == 1 && Nat.ble ppb.natAbs 100000))
    when legal (fun s =>
      let s := s.wr (Obj.CLK_REF_STATE r) st
      let s := if st = 0 then s else s.wrI (Obj.CLK_REF_PPB r) ppb
      let s := if old = 2 && st != 2 then s.count (Obj.CLK_REF_LOSS r) else s
      let s := if st = old then s
        else s.updClk fun x => { x with presentAt := x.presentAt.set r (if st = 2 then some s.wall else none) }
      match s.rd Obj.CLK_STATE with
      | 1 => s.acquire
      | 2 => if st != 2 && s.rd Obj.CLK_REF_ACTIVE == r then s.refLost else s
      | 3 => s.pullIn
      | 4 => if st != 2 && s.clk.target == r then
          s.wr Obj.CLK_STATE (if s.rd Obj.CLK_REF_ACTIVE = 3 then 6 else 3) else s
      | 5 => if st = 2 then s.acquire
          else if s.clk.target == r then s.updClk fun x => { x with acquireAt := none } else s
      | 6 => s.pullIn
      | _ => s) s

/-- REF_EDGE_MISS (R293): an edge of the active reference is bridged; a second one in a row enters holdover. -/
def execRefEdgeMiss (s : State) : Host.Outcome State Fault Refusal :=
  done s <| when (s.rd Obj.CLK_STATE == 2 && Nat.blt (s.rd Obj.CLK_REF_ACTIVE) 2) (fun s =>
    let period := tps / max 1 (s.refHz (s.rd Obj.CLK_REF_ACTIVE))
    let again := match s.clk.missAt with
      | some t => Nat.ble (2 * s.wall) (2 * t + 3 * period)
      | none => false
    if again then s.holdover else s.updClk fun x => { x with missAt := some s.wall }) s

/-- HOLDOVER_TRIM (R298): every 10 ms the frozen word is corrected from Tj with factory coefficients, which the manual does not
give: the correction is a free value. -/
def execHoldoverTrim (tj : Int) (s : State) : Host.Outcome State Fault Refusal :=
  done s <| when (s.rd Obj.CLK_STATE == 3 && Nat.ble s.clk.trimAt s.wall) (fun s =>
    (s.updClk fun x => { x with trim := s.freeI + 0 * tj, trimAt := x.trimAt + 10 * tpms }).used 1) s

/-- CLK_HOLD_LONG (R298). -/
def execClkHoldLong (s : State) : Host.Outcome State Fault Refusal :=
  done s <| when (s.rd Obj.CLK_STATE == 3 && !s.clk.long && Nat.blt (s.clk.holdAt + 86400 * tps) s.wall) (fun s =>
    (s.updClk fun x => { x with long := true }).event 2 254 0x0603) s

/-- PULL_IN_DONE (R299): injection resumes on the reference. -/
def execPullInDone (s : State) : Host.Outcome State Fault Refusal :=
  done s <| when (s.rd Obj.CLK_STATE == 4) (fun s =>
    let r := s.clk.target
    ((s.setRatio (s.refHz r)).wrAll [(Obj.CLK_STATE, 2), (Obj.CLK_REF_ACTIVE, r), (Obj.CLK_HOLD_SINCE, 0)]).anchorAll) s

/-- REF_REVERT (R294). -/
def execRefRevert (s : State) : Host.Outcome State Fault Refusal :=
  done s <|
    let t := s.rd Obj.CLK_REVERT_S
    let stayed := match at' s.clk.presentAt 0 with
      | some a => Nat.ble (a + t * tps) s.wall
      | none => false
    when (s.rd Obj.CLK_REF_SEL == 2 && t != 0 && s.rd Obj.CLK_STATE == 2 && s.rd Obj.CLK_REF_ACTIVE == 1 && s.refPresent 0 && stayed &&
      s.refHz 0 == s.refHz 1 && s.refsAgree) (fun s => s.switchRef 0) s

/-- A write of CLK_REF_SEL (R294, R300). -/
def State.refSelCmd (s : State) (v : Nat) (r : Req) : State :=
  let act := s.rd Obj.CLK_REF_ACTIVE
  let store (s : State) := (s.wr Obj.CLK_REF_SEL v).markPs r.sess Obj.CLK_REF_SEL
  if v = 2 then (store s).pullIn.answer r .ok
  else if s.refHz v != s.refHz s.clk.target && s.rd Obj.CLK_STATE != 1 then s.answer r .range
  else if !s.refPresent v then s.answer r .busy
  else if s.rd Obj.CLK_STATE = 2 && act != v then
    if s.refsAgree then ((store s).switchRef v).answer r .ok else s.answer r .range
  else (store s).pullIn.answer r .ok

/-- CLK_REF_SEL_WRITE. -/
def execClkRefSelWrite (sess tag v : Nat) (s : State) : Host.Outcome State Fault Refusal :=
  done s (s.direct sess tag Obj.CLK_REF_SEL v fun r s => s.refSelCmd v r)

/-! ## Lock (R297, R301, R304) -/

/-- The first tick above t at which a gate may open: a grid boundary in CHECK mode, else a block boundary. -/
def State.gateTick (s : State) (t : Nat) : Nat :=
  match s.conv.grid with
  | some e => if s.rd Obj.CONV_SYNC_MODE = 1 then s.boundaryFrom e (t + 1) else (t / 64 + 1) * 64
  | none => (t / 64 + 1) * 64

/-- The gate closes at tick a: converters withhold, pin sources are in a gap, CLKOUT is low (R301). -/
def State.gate (s : State) (a : Nat) : State :=
  let s := (s.lockBit false).updClk fun x => { x with gatedAt := some a, openAt := none, acquireAt := none, late := false }
  let s := (s.wr Obj.CLK_STATE 5).clockWithhold a
  let s := (List.range 4).foldl (fun s pin =>
    (s.pinSources pin s.tick).foldl (fun s kc => s.srcGap kc.1 kc.2 (posOf s.tick) (posOf s.tick)) s) s
  s.showClkOut

/-- The gate is to open at tick t on the target reference: the relock's range is known and data resumes there. -/
def State.openGate (s : State) (t : Nat) : State :=
  let a := s.clk.gatedAt.getD t
  let s := s.wrAll [(Obj.CLK_LAST_RELOCK_FIRST, a), (Obj.CLK_LAST_RELOCK_LAST, t - 1), (Obj.CLK_STATE, 2), (Obj.CLK_REF_ACTIVE, s.clk.target),
    (Obj.CLK_HOLD_SINCE, 0)]
  let s := s.updClk fun x => { x with gatedAt := none, openAt := some t, seededAt := t }
  (s.clockResume t).endPinGaps.showClkOut.anchorAll

/-- The planned change's outcome is written: the named reference's nominal, and CLK_REF_SEL where it names the other input (R303). -/
def State.changeDone (s : State) (c : ClkChange) : State :=
  let s := s.wr (if c.ref = 0 then Obj.CLK_REF_A_HZ else Obj.CLK_REF_B_HZ) c.hz
  let s := if s.rd Obj.CLK_REF_SEL = 1 - c.ref then s.wr Obj.CLK_REF_SEL c.ref else s
  (s.updClk fun x => { x with change := none, target := c.ref }).finish c.req .ok

/-- The converters start at the first lock of a start: the tick index counts from the first block, and enabled channels enter
theirs (R36, R48). -/
def State.startChannels (s : State) : State :=
  if s.conv.counts then s
  else
    let s := s.updConv fun c => { c with counts := true }
    ((List.range 4).filter fun ch => s.rdB (Obj.CONV_ENABLE ch) && !s.convFenced ch).foldl (fun s ch => s.powerChannel ch s.tick) s

/-- Neither reference is PRESENT when both have had the 11 ms that R292 takes. -/
def State.noReference (s : State) : Bool :=
  !s.refPresent 0 && !s.refPresent 1 && Nat.ble (s.start.setAt + 11 * tpms) s.wall

/-- Plate and master lock to the always-on oscillator (R297): CLK_STATE 6, CLK_REF_ACTIVE 3. -/
def State.freeLock (s : State) : State :=
  let s := (s.lockBit true).updClk fun x => { x with lockAt := s.wall, seededAt := s.tick, openAt := none, gatedAt := none }
  (s.wrAll [(Obj.CLK_STATE, 6), (Obj.CLK_REF_ACTIVE, 3)]).startChannels.showClkOut.anchorAll

/-- MASTER_LOCK (R297): the criteria have held for 100 µs. At start-up the gate opens, on the
always-on oscillator where no reference is PRESENT; after an unplanned loss it opens at the next
boundary; in a planned change it opens at CLK_CHANGE_AT, or when that has passed at the next boundary (R303, R304). -/
def execMasterLock (s : State) : Host.Outcome State Fault Refusal :=
  done s <|
    match s.clk.acquireAt with
    | none => if s.rd Obj.CLK_STATE = 1 && s.noReference then s.freeLock else s
    | some t0 =>
      if Nat.blt s.wall (t0 + 100 * tpus) || !s.refPresent s.clk.target then s
      else
        let locked (s : State) (hz : Nat) := (((s.setRatio hz).lockBit true).updClk fun x => { x with acquireAt := none, lockAt := s.wall })
        match s.rd Obj.CLK_STATE with
        | 1 =>
          let s := locked s (s.refHz s.clk.target)
          let s := s.updClk fun x => { x with seededAt := s.tick, openAt := none, gatedAt := none }
          (s.wrAll [(Obj.CLK_STATE, 2), (Obj.CLK_REF_ACTIVE, s.clk.target)]).startChannels.showClkOut.anchorAll
        | 5 =>
          match s.changing with
          | none => (locked s (s.refHz s.clk.target)).openGate (s.gateTick s.tick)
          | some c =>
            let s := locked s c.hz
            if s.rd Obj.CLK_CHANGE_STATUS = 4 then
              (s.openGate (s.gateTick s.tick)).changeDone c
            else s.updClk fun x => { x with openAt := some c.at_ }
        | _ => s

/-- The master has not locked at start-up: it is fenced (R297, R443). -/
def State.masterFails (s : State) : State :=
  let s := (s.wr Obj.CLK_STATE 7).wr Obj.DIAG_FENCE_OTHER (setBit (s.rd Obj.DIAG_FENCE_OTHER) 0 true)
  ((s.updClk fun x => { x with acquireAt := none }).event 3 254 0x0600 7).event 2 254 0x0015 9 0

/-- LOCK_TIMEOUT (R297, R304): the 50 ms limit passes: at start-up the master is fenced, in service the loop keeps trying. -/
def execLockTimeout (s : State) : Host.Outcome State Fault Refusal :=
  done s <|
    match s.clk.acquireAt with
    | none => s
    | some t0 =>
      if Nat.blt s.wall (t0 + 50 * tpms) || s.clk.late || s.changing.isSome then s
      else match s.rd Obj.CLK_STATE with
        | 1 =>
          s.masterFails
        | 5 => (s.updClk fun x => { x with late := true }).event 3 254 0x0600 5
        | _ => s

/-- MASTER_UNLOCK (R304): lock is lost; the block that is being sampled is the first withheld. -/
def execMasterUnlock (s : State) : Host.Outcome State Fault Refusal :=
  done s <|
    let st := s.rd Obj.CLK_STATE
    when (s.masterLocked && (st == 2 || st == 3 || st == 4)) (fun s =>
      let a := s.tick / 64 * 64
      let s := (s.gate a).count Obj.CLK_UNLOCK_COUNT
      (s.event 2 254 0x0601 (a / 2 ^ 36) (a % 2 ^ 36)).acquire) s

/-! ## The planned change (R302, R303) -/

/-- Ticks of the withheld range of a change. -/
def changeSpan : Nat := 6400000000

/-- A write of CLK_CHANGE_CMD. -/
def State.changeCmd (s : State) (v : Nat) (r : Req) : State :=
  let hz := s.rd Obj.CLK_CHANGE_HZ
  let at_ := s.rd Obj.CLK_CHANGE_AT
  let check := s.rd Obj.CONV_SYNC_MODE == 1
  let onGrid := if check then (match s.conv.grid with
      | some e => s.boundaryFrom e at_ == at_
      | none => false) else at_ % 64 == 0
  if v != 1 || Nat.blt hz 10000000 || Nat.blt 1000000000 hz || (check && s.rd Obj.CONV_SYNC_PERIOD * hz % tps != 0) || !onGrid ||
    Nat.blt at_ (s.tick + 250 * tpms) then s.answer r .range
  else if s.clk.change.isSome || (List.range 4).any s.calibrating || s.conv.align.isSome then s.answer r .busy
  else ((s.accept r).updClk fun x => { x with change := some ⟨r, s.rd Obj.CLK_CHANGE_REF, hz, at_⟩ }).wr Obj.CLK_CHANGE_STATUS 1

/-- CLK_CHANGE_CMD. -/
def execClkChangeCmd (sess tag v : Nat) (s : State) : Host.Outcome State Fault Refusal :=
  done s (s.direct sess tag Obj.CLK_CHANGE_CMD v fun r s => s.changeCmd v r)

/-- At G the reference that the change names qualifies anew, at a nominal frequency other than its present one (log entry 74). -/
def State.requalify (s : State) (c : ClkChange) : State :=
  if s.refHz c.ref = c.hz then s
  else
    let s := if s.refPresent c.ref then (s.wr (Obj.CLK_REF_STATE c.ref) 1).count (Obj.CLK_REF_LOSS c.ref) else s
    s.updClk fun x => { x with presentAt := x.presentAt.set c.ref none }

/-- CLK_CHANGE_GATE (R303): at G the gate closes, unless an unplanned loss has closed it before, and the named reference qualifies. -/
def execClkChangeGate (s : State) : Host.Outcome State Fault Refusal :=
  done s <|
    match s.clk.change with
    | none => s
    | some c => when (s.rd Obj.CLK_CHANGE_STATUS == 1 && Nat.ble (c.at_ - changeSpan) s.tick) (fun s =>
        (((s.gate (s.clk.gatedAt.getD (c.at_ - changeSpan))).requalify c).wr Obj.CLK_CHANGE_STATUS 2).acquire) s

/-- A write of CONV_SYNC_PERIOD (R49): a multiple of 64 from 2^20 to 2^40 ticks, and a whole number of periods of the active reference; with
none active, of the one the loop locks to (log entry 58). -/
def State.syncPeriod (s : State) (p : Nat) (r : Req) : State :=
  let a := s.rd Obj.CLK_REF_ACTIVE
  let hz := s.refHz (if a < 2 then a else s.clk.target)
  if p % 64 = 0 ∧ 2 ^ 20 ≤ p ∧ p ≤ 2 ^ 40 ∧ p * hz % tps = 0 then (s.wr Obj.CONV_SYNC_PERIOD p).answer r .ok else s.answer r .range

/-- CLK_CHANGE_RESUME (R303): at CLK_CHANGE_AT the gate opens, or the change is LATE. `syncEdge`: a SYNC_IN edge was captured within
10 µs of the boundary. -/
def execClkChangeResume (syncEdge : Bool) (s : State) : Host.Outcome State Fault Refusal :=
  done s <|
    match s.clk.change with
    | none => s
    | some c => when (s.rd Obj.CLK_CHANGE_STATUS == 2 && Nat.ble c.at_ s.tick) (fun s =>
        if bitOf (s.rd Obj.CLK_LOCKED_MASK) 0 then
          let s := (s.openGate c.at_).changeDone c
          let s := s.wr Obj.CLK_CHANGE_STATUS 3
          match s.conv.grid with
          | some e =>
            if s.rd Obj.CONV_SYNC_MODE = 1 then
              let s := s.updConv fun x => { x with nextCheck := s.boundaryFrom e (c.at_ + 1) }
              if syncEdge then s else s.boundaryFails c.at_
            else s
          | none => s
        else (s.wr Obj.CLK_CHANGE_STATUS 4).event 3 254 0x0600 (s.rd Obj.CLK_STATE)) s

/-! ## CLKOUT and the jitter test (R305, R306) -/

/-- A write of CLK_OUT_DIV (R305). -/
def State.outDiv (s : State) (v : Nat) (r : Req) : State :=
  (((s.wr Obj.CLK_OUT_DIV v).markPs r.sess Obj.CLK_OUT_DIV).showClkOut).answer r .ok

/-- CLK_OUT_DIV_WRITE. -/
def execClkOutDivWrite (sess tag v : Nat) (s : State) : Host.Outcome State Fault Refusal :=
  done s (s.direct sess tag Obj.CLK_OUT_DIV v fun r s => s.outDiv v r)

/-- CLK_TEST (R306): a write of 1. -/
def State.clkTest (s : State) (v : Nat) (r : Req) : State :=
  if v != 1 then s.answer r .range
  else if !s.masterLocked then s.answer r .busy
  else ((s.updClk fun x => { x with testAt := some (s.wall + 10 * tpms) }).wr Obj.CLK_TEST_STATUS 1).answer r .ok

/-- CLK_TEST. -/
def execClkTest (sess tag v : Nat) (s : State) : Host.Outcome State Fault Refusal :=
  done s (s.direct sess tag Obj.CLK_TEST v fun r s => s.clkTest v r)

/-- CLK_TEST_DONE (R306): the result in fs rms. -/
def execClkTestDone (fs : Nat) (s : State) : Host.Outcome State Fault Refusal :=
  done s <|
    match s.clk.testAt with
    | none => s
    | some t => when (Nat.ble t s.wall) (fun s =>
        (s.updClk fun x => { x with testAt := none }).wrAll [(Obj.CLK_JITTER_EST, fs % 2 ^ 32), (Obj.CLK_TEST_STATUS, 2)]) s

end Sys2Proof.Machine
end

