-- ==== Sys2Proof/Machine/Plumb.lean ====
section
/-! DEFINITION. The Plumb unit (chapter 14): starts, stops and measurements, the result queue, the regression counter, device time
under PPS_IN and IEEE 1588, PPS_OUT and conversion. Positions are held as tick × 2^16 + fraction. -/

namespace Sys2Proof.Machine

/-- Change the Plumb unit's record. -/
def State.updPlumb (s : State) (f : Plumb → Plumb) : State := { s with plumb := f s.plumb }

/-- Board delay of an input, in 2^−16 tick (Table 14.1). -/
def State.plumbDelay (s : State) (input : Nat) : Nat :=
  inDelay (if input < 5 then s.rd (Obj.TRIG_IN_DELAY (input - 1)) else s.rd (Obj.PLMB_IN_DELAY (input - 5)))

/-- Ticks by which a stamp may follow its edge (2 µs, R313). -/
def plumbLag : Nat := 2 * tpus

/-- Ticks by which the horizon of the inputs lags the tick index: a stamp comes within 2 µs, and the largest board delay, 10 ns, is taken
from it (R309). -/
def horizonLag : Nat := plumbLag + 320

/-- The horizon of the stop inputs, as a position. -/
def State.plumbHorizon (s : State) : Nat := posOf (s.tick - horizonLag)

/-- An edge stamped at `tick` arrives in time to be ordered by its stamp. -/
def State.stampArrives (s : State) (tick fine : Nat) : Bool :=
  Nat.ble tick s.tick && Nat.blt s.tick (tick + plumbLag) && Nat.blt fine 65536

/-- The master is in holdover. -/
def State.inHoldover (s : State) : Bool := s.rd Obj.CLK_STATE == 3

/-! ## Starts and stops (R313 to R316, R318) -/

/-- The settings that hold for a start at a position. -/
def Plumb.cfgAt (x : Plumb) (pos : Nat) : Option TdcCfg := x.cfgs.find? fun c => Nat.ble (posOf c.since) pos

/-- The settings take an edge as a start, as a stop. -/
def TdcCfg.starts (c : TdcCfg) (input : Nat) (rising : Bool) : Bool := c.on && c.startIn == input && (c.startEdge == 0) == rising
def TdcCfg.stops (c : TdcCfg) (input : Nat) (rising : Bool) : Bool := c.on && bitOf c.mask input && (c.stopEdge == 0) == rising

/-- W in positions. -/
def TdcCfg.w (c : TdcCfg) : Nat := posOf c.window

/-- The start at stamp a takes a stop: within W, and under new settings from J on (R313, R318). The start edge itself is no
stop. -/
def TdcCfg.takes (c : TdcCfg) (a : Nat) (x : Stop) : Bool :=
  c.stops x.input x.rising && Nat.ble a (x.pos + c.w) && Nat.ble x.pos (a + c.w) && Nat.ble (posOf c.since) x.pos &&
  !(x.pos == a && c.starts x.input x.rising)

/-- Starts in order of stamp, without those inside the measurement that an earlier one opens. -/
def Plumb.openers (x : Plumb) : List StartEdge → Option Nat → List StartEdge
  | [], _ => []
  | a :: l, upto =>
    let inside := match upto with
      | some u => Nat.ble a.pos u
      | none => false
    if inside then x.openers l upto
    else a :: x.openers l ((x.cfgAt a.pos).map fun c => a.pos + c.w)

/-- Stops that no open measurement collects. -/
def Plumb.unconsumed (x : Plumb) : List Stop :=
  let os := x.openers x.starts none
  x.stops.filter fun p => !(os.any fun a => match x.cfgAt a.pos with
    | some c => c.takes a.pos p
    | none => false)

/-- Insertion by stamp, then input. -/
def stopIns (p : Stop) : List Stop → List Stop
  | [] => [p]
  | q :: l => if p.pos < q.pos ∨ (p.pos = q.pos ∧ p.input ≤ q.input) then p :: q :: l else q :: stopIns p l

/-- Insertion by stamp. -/
def startIns (p : StartEdge) : List StartEdge → List StartEdge
  | [] => [p]
  | q :: l => if p.pos ≤ q.pos then p :: q :: l else q :: startIns p l

/-- Hold a stop; beyond 64 unconsumed ones the oldest is discarded and counted (Table 14.2). -/
def State.holdStop (s : State) (p : Stop) : State :=
  let s := s.updPlumb fun x => { x with stops := stopIns p x.stops }
  let un := s.plumb.unconsumed
  match un with
  | old :: _ => if Nat.blt 64 un.length then (s.updPlumb fun x => { x with stops := x.stops.erase old }).count Obj.PLMB_STOP_UNMATCHED else s
  | [] => s

/-- PLMB_EDGE (R309, R313): an edge stamped at tick + fine × 2^−16 on inputs 1 to 9. Edges of one input within 2.0 ns of the latest
stamped one are lost to dead time. -/
def execPlmbEdge (input : Nat) (rising : Bool) (tick fine : Nat) (s : State) : Host.Outcome State Fault Refusal :=
  done s <| when (Nat.ble 1 input && Nat.ble input 9 && s.stampArrives tick fine) (fun s =>
    let pos := placeOf tick fine - s.plumbDelay input
    let isStart := match s.plumb.cfgAt pos with
      | some c => c.starts input rising
      | none => false
    let isStop := s.plumb.cfgs.any fun c => c.stops input rising
    if !isStart && !isStop then s
    else
      let dead := match at' s.plumb.lastEdge input with
        | some p => Nat.blt pos (p + posOf 64)
        | none => false
      if dead then (s.updPlumb fun x => { x with deads := (pos :: x.deads).take 256 }).count Obj.PLMB_DEAD
      else
        let s := s.updPlumb fun x => { x with lastEdge := x.lastEdge.set input (some pos) }
        let clock := !s.masterLocked
        let s := if isStart then s.updPlumb fun x => { x with starts := startIns ⟨pos, clock, s.inHoldover⟩ x.starts } else s
        if isStop then s.holdStop ⟨pos, input, rising, clock⟩ else s) s

/-- PLMB_TIME_START (R308): a time start falls, exact. -/
def execPlmbTimeStart (s : State) : Host.Outcome State Fault Refusal :=
  done s <|
    match s.plumb.nextStart with
    | none => s
    | some t => when (Nat.ble t s.tick) (fun s =>
        let p := s.rd Obj.PLMB_START_PERIOD
        s.updPlumb fun x =>
          { x with
            nextStart := if p = 0 then none else some (t + p)
            starts := startIns ⟨posOf t, !s.masterLocked, s.inHoldover⟩ x.starts }) s

/-! ## Results (R314, R316, R317) -/

/-- Interval and STOPINFO of a stop (R314, R317). -/
def stopResult (a : Nat) (p : Stop) : Int × Nat :=
  let d := (p.pos : Int) - a
  let small := decide (-2048 < d ∧ d < 2048)
  (if small then 0 else d, p.input * 256 + b2n small + 2 * b2n (!small && decide (d < 0)) + 4 * b2n p.clock)

/-- Show the head of the result queue. -/
def State.showHead (s : State) : State :=
  let m := (s.plumb.queue.head?).getD ⟨0, 0, 0, []⟩
  let s := s.wrAll [(Obj.PLMB_RES_SEQ, m.seq % 2 ^ 32), (Obj.PLMB_RES_START, m.start / 65536), (Obj.PLMB_RES_START_FINE, m.start % 65536),
    (Obj.PLMB_RES_NSTOPS, m.stops.length), (Obj.PLMB_RES_FLAGS, m.flags), (Obj.PLMB_RES_COUNT, s.plumb.queue.length)]
  (List.range 64).foldl (fun (s : State) (j : Nat) =>
    let e := m.stops.getD j (0, 0)
    (s.wr (Obj.PLMB_RES_INTERVAL j) (ofI 64 e.1)).wr (Obj.PLMB_RES_STOPINFO j) e.2) s

/-- Stamps the queue holds. -/
def Plumb.stamps (x : Plumb) : Nat := x.queue.foldl (fun n m => n + m.stops.length + 1) 0

/-- Close the measurement of the start at a. -/
def State.closeMeasure (s : State) (c : TdcCfg) (a : StartEdge) (later : List StartEdge) : State :=
  let x := s.plumb
  let taken := x.stops.filter fun p => c.takes a.pos p
  let keep := if c.mode1 then 1 else c.stopsMax
  let kept := taken.take keep
  let more := taken.length - kept.length
  let dead := x.deads.any fun p => Nat.ble a.pos (p + c.w) && Nat.ble p (a.pos + c.w)
  let m : Meas :=
    { seq := x.seq + 1, start := a.pos
      flags := b2n (more != 0) + 2 * b2n dead + 4 * b2n (a.clock || kept.any Stop.clock) + 8 * b2n (a.hold || s.inHoldover)
      stops := kept.map (stopResult a.pos) }
  let ignored := later.filter fun b => Nat.ble b.pos (a.pos + c.w)
  let self (p : Stop) := p.pos == a.pos && c.starts p.input p.rising && c.stops p.input p.rising
  let s := s.updPlumb fun x =>
    { x with
      seq := x.seq + 1, starts := later.filter fun b => Nat.blt (a.pos + c.w) b.pos
      stops := x.stops.filter fun p => !(c.takes a.pos p || self p) }
  let s := (s.countN Obj.PLMB_STOP_EXCESS more).countN Obj.PLMB_START_IGNORED ignored.length
  if Nat.blt 256 (s.plumb.stamps + kept.length + 1) then s.count Obj.PLMB_DROP
  else (s.updPlumb fun x => { x with queue := x.queue ++ [m] }).showHead

/-- PLMB_MEASURE_CLOSE (R313): the horizon has passed a + W of the oldest open measurement. -/
def execPlmbMeasureClose (s : State) : Host.Outcome State Fault Refusal :=
  done s <|
    match s.plumb.starts with
    | [] => s
    | a :: later =>
      match s.plumb.cfgAt a.pos with
      | none => s.updPlumb fun x => { x with starts := later }
      | some c => when (Nat.blt (a.pos + c.w) s.plumbHorizon) (fun s => s.closeMeasure c a later) s

/-- PLMB_STOP_UNMATCHED (R315): the oldest stop that no measurement takes by the time the horizon passes s + W. -/
def execPlmbStopUnmatched (s : State) : Host.Outcome State Fault Refusal :=
  done s <|
    match s.plumb.unconsumed with
    | [] => s
    | p :: _ =>
      let w := match s.plumb.cfgAt p.pos with
        | some c => c.w
        | none => 0
      when (Nat.blt (p.pos + w) s.plumbHorizon) (fun s =>
        (s.updPlumb fun x => { x with stops := x.stops.erase p }).count Obj.PLMB_STOP_UNMATCHED) s

/-- A write of PLMB_RES_NEXT (R317). -/
def State.resNext (s : State) (v : Nat) (r : Req) : State :=
  if v != 1 then s.answer r .range
  else if s.plumb.queue.isEmpty then s.answer r .busy
  else ((s.updPlumb fun x => { x with queue := x.queue.drop 1 }).showHead).answer r .ok

/-- PLMB_RES_NEXT. -/
def execPlmbResNext (sess tag v : Nat) (s : State) : Host.Outcome State Fault Refusal :=
  done s (s.direct sess tag Obj.PLMB_RES_NEXT v fun r s => s.resNext v r)

/-! ## Ownership and the Joint (R311, R312, R318, R320) -/

/-- PLMB_STATE: 2 with the stop bank fenced, else whether the unit runs. -/
def State.showPlumb (s : State) : State :=
  s.wr Obj.PLMB_STATE (if bitOf (s.rd Obj.DIAG_FENCE_OTHER) 1 then 2 else b2n (s.rdB Obj.PLMB_TDC_ENABLE || s.rdB Obj.PLMB_CNT_ENABLE))

/-- The TDC and the counter stop at once; open measurements go, and the queue empties. -/
def State.plumbStop (s : State) : State :=
  let s := s.wrAll [(Obj.PLMB_TDC_ENABLE, 0), (Obj.PLMB_CNT_ENABLE, 0), (Obj.PLMB_CNT_STATE, 0)]
  let s := s.updPlumb fun x =>
    { x with cfgs := [], starts := [], stops := [], deads := [], nextStart := none, queue := [], cnt := [], gate := none, lastPoint := none }
  s.showHead.showPlumb

/-- The unit is free again (R202, R311). -/
def State.freePlumb (s : State) : State :=
  let s := ((s.wrc Obj.PLMB_TDC_ENABLE 0).wrc Obj.PLMB_CNT_ENABLE 0).plumbStop
  ((s.disown ⟨.plumb, 0⟩).dropUnit ⟨.plumb, 0⟩).wr Obj.PLMB_OWNER 255

/-- Claim the unit. -/
def State.plumbClaim (s : State) (r : Req) : State :=
  s.claim r ⟨.plumb, 0⟩ [0] 256 fun s => s.wr Obj.PLMB_OWNER r.sess

/-- Release the unit. -/
def State.plumbRelease (s : State) (r : Req) : State :=
  s.unclaim r ⟨.plumb, 0⟩ fun s => s.freePlumb.answer r .ok

/-- PLMB_CLAIM (R311): a write of 1. -/
def execPlmbClaim (sess tag : Nat) (s : State) : Host.Outcome State Fault Refusal :=
  done s (s.direct sess tag Obj.PLMB_CLAIM 1 fun r s => s.plumbClaim r)

/-- PLMB_RELEASE (R311): a write of 2. -/
def execPlmbRelease (sess tag : Nat) (s : State) : Host.Outcome State Fault Refusal :=
  done s (s.direct sess tag Obj.PLMB_CLAIM 2 fun r s => s.plumbRelease r)

/-- The TDC's settings in force, from tick j on. -/
def State.tdcCfg (s : State) (j : Nat) : TdcCfg :=
  { since := j, on := s.rdB Obj.PLMB_TDC_ENABLE, startIn := s.rd Obj.PLMB_START_IN, startEdge := s.rd Obj.PLMB_START_EDGE
    startAt := s.rd Obj.PLMB_START_AT, period := s.rd Obj.PLMB_START_PERIOD, mask := s.rd Obj.PLMB_STOP_MASK
    stopEdge := s.rd Obj.PLMB_STOP_EDGE, stopsMax := s.rd Obj.PLMB_STOPS_MAX, window := s.rd Obj.PLMB_WINDOW
    mode1 := s.rd Obj.PLMB_MODE == 1 }

/-- The first time start at or after tick j. -/
def State.firstStart (s : State) (j : Nat) : Option Nat :=
  let a := s.rd Obj.PLMB_START_AT
  let p := s.rd Obj.PLMB_START_PERIOD
  if !s.rdB Obj.PLMB_TDC_ENABLE || s.rd Obj.PLMB_START_IN != 10 then none
  else if Nat.ble j a then some a
  else if p = 0 then none else some (a + ceilDiv (j - a) p * p)

/-- Time starts below tick j that no PLMB_TIME_START has taken yet are taken, at the period in force. -/
def State.timeStartsBelow (s : State) (j : Nat) : State :=
  match s.plumb.nextStart with
  | none => s
  | some t =>
    let p := s.rd Obj.PLMB_START_PERIOD
    let n := if Nat.ble j t then 0 else if p = 0 then 1 else ceilDiv (j - t) p
    s.updPlumb fun x =>
      { x with
        nextStart := if p = 0 && n != 0 then none else some (t + n * p)
        starts := (List.range n).foldl (fun l i => startIns ⟨posOf (t + i * p), !s.masterLocked, s.inHoldover⟩ l) x.starts }

/-- The Plumb unit's values have come into force at tick j: the TDC runs under them from j, the counter from the first multiple of
G at or after j, where its first gate begins (log entry 75). -/
def State.plumbAfter (s : State) (j : Nat) : State :=
  let c := s.tdcCfg j
  let g := max 1 (s.rd Obj.PLMB_GATE)
  let n : CntCfg := { since := roundUp j g, on := s.rdB Obj.PLMB_CNT_ENABLE, div := s.rd Obj.PLMB_CNT_DIV, gate := g }
  let s := s.updPlumb fun x =>
    { x with
      cfgs := if (x.cfgs.head?).map (fun o : TdcCfg => { o with since := j }) = some c then x.cfgs else (c :: x.cfgs).take 8
      nextStart := s.firstStart j
      cnt := if (x.cnt.head?).map (fun o : CntCfg => { o with since := n.since }) = some n then x.cnt else (n :: x.cnt).take 8
      gate := if n.on && x.gate.isNone then some { start := n.since, div := n.div, flags := 0 } else x.gate
      cntSeen := if n.on && x.gate.isNone then s.wall else x.cntSeen }
  (s.wr Obj.PLMB_LAST_JOINT j).showPlumb

/-- PLUMB_JOINT (R318). -/
def execPlumbJoint (s : State) : Host.Outcome State Fault Refusal :=
  done s (s.joint 10 ⟨.plumb, 0⟩ (fun _ b s => s.timeStartsBelow b) fun _ b s => s.plumbAfter b)

/-! ## The counter (R319 to R321) -/

/-- The counter's settings at a tick. -/
def Plumb.cntAt (x : Plumb) (t : Nat) : Option CntCfg := x.cnt.find? fun c => Nat.ble c.since t

/-- The tick at which a gate ends: G after its start, or where later settings begin; and whether early. -/
def Plumb.gateEnd (x : Plumb) (g : Gate) : Nat × Bool :=
  let len := match x.cntAt g.start with
    | some c => c.gate
    | none => 0
  match x.cnt.reverse.find? fun c => Nat.blt g.start c.since with
  | some c => if Nat.blt c.since (g.start + len) then (c.since, true) else (g.start + len, false)
  | none => (g.start + len, false)

/-- Frequency and sigma of a gate in 2^−24 Hz, rounded to nearest (R321). -/
def Gate.result (g : Gate) : Nat × Nat :=
  let sxx := g.n * g.snn - g.sn * g.sn
  let sxt := (g.n : Int) * g.snt - (g.sn : Int) * g.st
  if g.n < 3 || sxx = 0 || sxt ≤ 0 then (0, 0)
  else
    let f := (roundConv (g.div * tps * 2 ^ 24 * 65536 * sxx : Nat) sxt.toNat).toNat
    -- sigma = f × 0.0288 / (s × √(sxx / N)), s = sxt / (sxx × 65536) ticks
    let num := f * 288 * sxx * 65536
    let den := 10000 * sxt.toNat
    (f, isqrt (num * num * g.n / max 1 (den * den * sxx)))

/-- Begin the gate that starts at a tick. -/
def State.beginGate (s : State) (t : Nat) : State :=
  match s.plumb.cntAt t with
  | some c =>
    if c.on && s.rdB Obj.PLMB_CNT_ENABLE then
      let flags := 2 * b2n (!s.masterLocked) + 4 * b2n s.inHoldover + 8 * b2n (s.rd Obj.PLMB_CNT_STATE == 0) +
        16 * b2n (s.rd Obj.PLMB_CNT_STATE == 2)
      let g : Gate := { start := t, div := c.div, flags := flags }
      s.updPlumb fun x => { x with gate := some g }
    else s.updPlumb fun x => { x with gate := none }
  | none => s.updPlumb fun x => { x with gate := none }

/-- Set a flag of the gate in progress. -/
def State.gateFlag (s : State) (bit : Nat) (on : Bool) : State :=
  if on then s.updPlumb fun x => { x with gate := x.gate.map fun g => { g with flags := setBit g.flags bit true } } else s

/-- End a gate: its result replaces the previous one, and the next gate begins. -/
def State.endGate (s : State) (g : Gate) : State :=
  let (e, early) := s.plumb.gateEnd g
  let (f, sigma) := g.result
  let flags := setBit (setBit (setBit g.flags 0 early) 2 (bitOf g.flags 2 || s.inHoldover)) 3 (bitOf g.flags 3 || Nat.blt g.n 3)
  let s := s.wrAll [(Obj.PLMB_FREQ, min f (2 ^ 64 - 1)), (Obj.PLMB_FREQ_SIGMA, min sigma (2 ^ 64 - 1)), (Obj.PLMB_FREQ_POINTS, g.n),
    (Obj.PLMB_FREQ_EDGES, (g.lastN - g.firstN) * g.div), (Obj.PLMB_FREQ_GATE, g.start), (Obj.PLMB_FREQ_FLAGS, flags),
    (Obj.PLMB_FREQ_SEQ, (s.rd Obj.PLMB_FREQ_SEQ + 1) % 2 ^ 32)]
  s.beginGate e

/-- CNT_GATE_END (R320, R321). -/
def execCntGateEnd (s : State) : Host.Outcome State Fault Refusal :=
  done s <|
    match s.plumb.gate with
    | none => s
    | some g => when (Nat.ble ((s.plumb.gateEnd g).1 + horizonLag) s.tick) (fun s => s.endGate g) s

/-- CNT_POINT (R320): the first prescaled edge at or after a sampling instant, its count and stamp; `over`: the prescaled rate exceeds
3.0 GHz. A point of the edge taken last is not taken again. -/
def execCntPoint (n tick fine : Nat) (outOfRange : Bool) (s : State) : Host.Outcome State Fault Refusal :=
  done s <| when (s.rdB Obj.PLMB_CNT_ENABLE && s.stampArrives tick fine) (fun s =>
    let pos := placeOf tick fine - s.plumbDelay 6
    let t := pos / 65536
    let absent := s.rd Obj.PLMB_CNT_STATE == 0 && Nat.ble (s.plumb.cntSeen + s.rd Obj.PLMB_CNT_ABSENT_US * tpus) s.wall
    let s := (s.wr Obj.PLMB_CNT_STATE (if outOfRange then 2 else 1)).updPlumb fun x => { x with cntSeen := s.wall }
    if s.plumb.lastPoint = some n then s
    else
      let s := match s.plumb.gate, s.plumb.cntAt t with
        | none, some c => if c.on then s.beginGate (c.since + (t - c.since) / max 1 c.gate * c.gate) else s
        | _, _ => s
      let s := match s.plumb.gate with
        | some g => if Nat.ble (s.plumb.gateEnd g).1 t then s.endGate g else s
        | none => s
      let first := (s.plumb.gate.map Gate.n) == some 0
      let s := (((s.gateFlag 4 outOfRange).gateFlag 1 (!s.masterLocked)).gateFlag 3 absent).gateFlag 2 (first && s.inHoldover)
      s.updPlumb fun x =>
        { x with
          lastPoint := some n
          gate := x.gate.map fun g => if Nat.blt t g.start then g else
            { g with
              n := g.n + 1, sn := g.sn + n, st := g.st + pos, snn := g.snn + n * n, snt := g.snt + n * pos
              firstN := if g.n = 0 then n else g.firstN, lastN := n } }) s

/-- CNT_ABSENT (R319). -/
def execCntAbsent (s : State) : Host.Outcome State Fault Refusal :=
  done s <| when (s.rdB Obj.PLMB_CNT_ENABLE && s.rd Obj.PLMB_CNT_STATE != 0 &&
      Nat.ble (s.plumb.cntSeen + s.rd Obj.PLMB_CNT_ABSENT_US * tpus) s.wall)
    (fun s => (s.wr Obj.PLMB_CNT_STATE 0).gateFlag 3 true) s

/-! ## Device time (R322 to R325) -/

/-- PLMB_PPS_TOL in 2^−16 ns. -/
def State.ppsTol (s : State) : Nat := s.rd Obj.PLMB_PPS_TOL * 65536

/-- The rate that gains `gain` (2^−16 ns) over `span` (2^−16 tick), held to ±200 ppm of nominal. -/
def rateOf (gain span : Nat) : Nat × Nat :=
  let a := gain * 65536 * 1000000
  if 2048 * 1000200 * span < a then (2048 * 1000200, 1000000)
  else if a < 2048 * 999800 * span then (2048 * 999800, 1000000)
  else (gain * 65536, max 1 span)

/-- Device time takes a piece that passes through `time` at a position; a standby uses its primary's pieces in place of its own (R386). -/
def State.beginPiece (s : State) (pos time : Nat) (rate : Nat × Nat) : State :=
  if s.isStandby && s.paired then s
  else s.updPlumb fun x => x.begin_ s.tick { start := pos, time := time, num := rate.1, den := rate.2 }

/-- The latest rate. -/
def Plumb.rate (x : Plumb) : Nat × Nat :=
  match x.pieces with
  | p :: _ => (p.num, p.den)
  | [] => (2048, 1)

/-- The state of the time source; a change is followed by a time anchor (R235). -/
def State.timeState (s : State) (st : Nat) : State :=
  if s.rd Obj.PLMB_TIME_STATE = st then s else (s.wr Obj.PLMB_TIME_STATE st).anchorAll

/-- Device time steps to `time` at a position. -/
def State.timeStep (s : State) (pos time st : Nat) : State :=
  let s := ((s.beginPiece pos time s.plumb.rate).count Obj.PLMB_TIME_STEPS).wr Obj.PLMB_TIME_STATE st
  s.anchorAll

/-- The latest offset of the 1588 server. -/
def Plumb.offset (x : Plumb) : Option Int := (x.ptp.head?).map fun o => o.2.1

/-- The whole second nearest a time. -/
def nearSec (t : Nat) : Nat := (t + secFine / 2) / secFine

/-- The second that an edge at device time t stands for, by the source (R323, R324); none where the 1588 offset excludes it. -/
def State.ppsSecond (s : State) (t : Nat) : Option Nat :=
  if s.rd Obj.PLMB_TIME_SRC = 2 then
    match s.plumb.offset with
    | none => none
    | some o =>
      let u := ((t : Int) + o).toNat
      let k := nearSec u
      if Nat.ble ((u : Int) - (k * secFine : Nat)).natAbs (400000000 * 65536) then some k else none
  else some (nearSec t)

/-- The state that accepted edges give. -/
def State.ppsState (s : State) : Nat :=
  if s.rd Obj.PLMB_TIME_SRC = 2 then 2 else if s.plumb.todSet then 1 else 0

/-- An accepted edge at a position whose second is k: time of day, rate, uncertainty and state. -/
def State.ppsAccept (s : State) (pos k e : Nat) : State :=
  let t := s.plumb.timeAt pos
  let prev := s.plumb.pps
  let near := k * secFine
  let (k2, time) := match s.plumb.tod with
    | some v => if s.rd Obj.PLMB_TIME_SRC = 1 then (v, ((t : Int) + (v * secFine : Nat) - near).toNat) else (k, t)
    | none => (k, t)
  let given := s.rd Obj.PLMB_TIME_SRC = 1 && s.plumb.tod.isSome
  let span := match prev with
    | some p => if Nat.blt (pos - p) (posOf (2 * tps)) && Nat.blt p pos then pos - p else posOf tps
    | none => posOf tps
  let s := s.beginPiece pos time (rateOf ((k2 + 1) * secFine - time) span)
  let s := s.updPlumb fun x =>
    { x with
      pps := some pos, second := k2, rejects := [], misses := 0, err := e * 1000000 / 65536, goodAt := s.wall
      tod := if given then none else x.tod, todSet := x.todSet || given }
  let s := if time = t then s else (s.count Obj.PLMB_TIME_STEPS).anchorAll
  s.timeState s.ppsState

/-- Rejected edges agree: their device times modulo 1 s lie within the tolerance of one another. -/
def State.rejectsAgree (s : State) (l : List Nat) : Bool :=
  let ph (p : Nat) := s.plumb.timeAt p % secFine
  let close (a b : Nat) := let d := (ph a + secFine - ph b) % secFine; Nat.ble (min d (secFine - d)) s.ppsTol
  match l with
  | [a, b, c] => close a b && close b c && close a c
  | _ => false

/-- PPS_IN_EDGE (R323): a rising edge stamped at tick + fine × 2^−16. -/
def execPpsInEdge (tick fine : Nat) (s : State) : Host.Outcome State Fault Refusal :=
  done s <| when ((s.rd Obj.PLMB_TIME_SRC == 1 || s.rd Obj.PLMB_TIME_SRC == 2) && s.stampArrives tick fine) (fun s =>
    let pos := placeOf tick fine - s.plumbDelay 5
    let t := s.plumb.timeAt pos
    let k := s.ppsSecond t
    let e := match k with
      | some k => ((t : Int) - (k * secFine : Nat)).natAbs
      | none => secFine
    if Nat.ble e s.ppsTol then s.ppsAccept pos (k.getD 0) e
    else
      let s := s.count Obj.PLMB_PPS_REJECT
      let l := (pos :: s.plumb.rejects).take 3
      match k with
      | some k =>
        if s.rejectsAgree l then
          let given := s.rd Obj.PLMB_TIME_SRC = 1 && s.plumb.tod.isSome
          let sec := if given then s.plumb.tod.getD k else k
          let s := s.updPlumb fun x =>
            { x with
              pps := some pos, second := sec, rejects := [], misses := 0, err := 0, goodAt := s.wall
              tod := if given then none else x.tod, todSet := x.todSet || given }
          s.timeStep pos (sec * secFine) s.ppsState
        else s.updPlumb fun x => { x with rejects := l }
      | none => s.updPlumb fun x => { x with rejects := [] }) s

/-- PPS_MISS (R323): a second has passed without an edge in tolerance; the third in a row enters holdover. -/
def execPpsMiss (s : State) : Host.Outcome State Fault Refusal :=
  done s <|
    let k := (s.timeAt (s.tick - horizonLag) - s.ppsTol) / secFine
    when ((s.rd Obj.PLMB_TIME_SRC == 1 || s.rd Obj.PLMB_TIME_SRC == 2) && Nat.blt s.plumb.second k) (fun s =>
      let s := (s.count Obj.PLMB_PPS_MISS).updPlumb fun x => { x with second := x.second + 1, misses := x.misses + 1 }
      let st := s.rd Obj.PLMB_TIME_STATE
      if Nat.ble 3 s.plumb.misses && (st == 1 || st == 2) then s.timeState 4 else s) s

/-- PLMB_TIME_SRC is written: the new source's seconds count from now on; without one T runs free (log entry 76). -/
def State.timeSource (s : State) (v : Nat) : State :=
  let s := s.updPlumb fun x => { x with second := s.timeNow / secFine, misses := 0, rejects := [], ptpBad := 0 }
  if v = 0 then s.timeState 0 else s

/-- A write of PLMB_TOD_NEXT (R324). -/
def State.todNext (s : State) (v : Nat) (r : Req) : State := (s.updPlumb fun x => { x with tod := some v }).answer r .ok

/-- PLMB_TOD_NEXT. -/
def execPlmbTodNext (sess tag v : Nat) (s : State) : Host.Outcome State Fault Refusal :=
  done s (s.direct sess tag Obj.PLMB_TOD_NEXT v fun r s => s.todNext v r)

/-- The latest three offsets agree within the tolerance. -/
def State.offsetsAgree (s : State) : Bool :=
  match s.plumb.ptp.take 3 with
  | [a, b, c] =>
    let close (x y : Int) := Nat.ble (x - y).natAbs s.ppsTol
    close a.2.1 b.2.1 && close b.2.1 c.2.1 && close a.2.1 c.2.1
  | _ => false

/-- PTP_MESSAGE_RECEIVE (R324): the 1588 client on port 0 measures the server's time minus the engine's and the round trip, in 2^−16
ns, and takes the offset from UTC. -/
def execPtpMessageReceive (offset : Int) (rtt : Nat) (utc : Int) (s : State) : Host.Outcome State Fault Refusal :=
  done s <| when ((s.rd Obj.PLMB_TIME_SRC == 2 || s.rd Obj.PLMB_TIME_SRC == 3) && s.portUp 0) (fun s =>
    let s := s.wrI Obj.PLMB_UTC_OFFSET utc
    let s := s.updPlumb fun x =>
      { x with ptp := (s.wall, offset, rtt) :: x.ptp.filter fun (o : Nat × Int × Nat) => Nat.blt s.wall (o.1 + 16 * tps) }
    if s.rd Obj.PLMB_TIME_SRC = 2 then s
    else
      let pos := posOf s.tick
      let t := s.timeNow
      if Nat.ble offset.natAbs s.ppsTol then
        let s := s.beginPiece pos t (rateOf ((secFine : Int) + offset).toNat (posOf tps))
        (s.updPlumb fun x => { x with ptpBad := 0, goodAt := s.wall }).timeState 3
      else
        let s := s.updPlumb fun x => { x with ptpBad := x.ptpBad + 1 }
        if Nat.ble 3 s.plumb.ptpBad && s.offsetsAgree then
          let s := s.updPlumb fun x => { x with ptpBad := 0, goodAt := s.wall, ptp := [] }
          s.timeStep pos ((t : Int) + offset).toNat 3
        else s) s

/-! ## PPS_OUT and conversion (R326, R327) -/

/-- PPS_OUT_RISE (R326): device time has crossed a whole second; while the master is gated the edge waits. -/
def execPpsOutRise (s : State) : Host.Outcome State Fault Refusal :=
  done s <|
    let k := s.timeNow / secFine
    when (s.rdB Obj.PLMB_PPS_OUT_EN && s.masterLocked && Nat.ble 2 (s.rd Obj.DEV_STATE) && Nat.ble s.plumb.ppsNext k) (fun s =>
      s.updPlumb fun x => { x with ppsHigh := some (s.tick + s.rd Obj.PLMB_PPS_OUT_WIDTH), ppsNext := k + 1 }) s

/-- PPS_OUT_FALL (R326). -/
def execPpsOutFall (s : State) : Host.Outcome State Fault Refusal :=
  done s <|
    match s.plumb.ppsHigh with
    | none => s
    | some t => when (Nat.ble t s.tick) (fun s => s.updPlumb fun x => { x with ppsHigh := none }) s

/-- A write of PLMB_PPS_OUT_EN: pulses begin at the next whole second. -/
def State.ppsOutEnable (s : State) (v : Nat) : State :=
  if v = s.rd Obj.PLMB_PPS_OUT_EN then s else s.updPlumb fun x => x.aim s.tick

/-- A write of PLMB_CONV_TICK (R327): the pieces of the latest 256 s are kept, and at most 1 s ahead is converted. -/
def State.convTick (s : State) (v : Nat) (r : Req) : State :=
  let oldest := ((s.plumb.pieces.getLast?).map Piece.start).getD 0
  if Nat.blt (s.tick + tps) v || Nat.blt (v + 256 * tps) s.tick || Nat.blt (posOf v) oldest then s.answer r .range
  else (s.wrAll [(Obj.PLMB_CONV_TICK, v), (Obj.PLMB_CONV_TIME, s.timeAt v % 2 ^ 80)]).answer r .ok

/-- PLMB_CONV_TICK_WRITE. -/
def execPlmbConvTickWrite (sess tag v : Nat) (s : State) : Host.Outcome State Fault Refusal :=
  done s (s.direct sess tag Obj.PLMB_CONV_TICK v fun r s => s.convTick v r)

end Sys2Proof.Machine
end

