-- ==== Sys2Proof/Machine/Validate.lean ====
section
/-! DEFINITION. Commit validation (R350, Table 15.9): references between units, the validation tables of the functional
chapters (R73, R76, R80, R82, R88, R114, R144, R152, R175, R182, R183, R197, R251, R252, R288, R312, R443, R445, R455),
and admission with the quotas (R21 to R23, R346). -/

namespace Sys2Proof.Machine

/-! ## The configuration that results -/

/-- A value of the configuration that a snapshot would give: committed values with the snapshot in place. -/
def State.proposed (s : State) (w : Swap) (k : Nat) : Nat :=
  match w.vals.find? fun p => p.1 == k with
  | some p => p.2
  | none => s.rdc k

/-- A loaded table of that configuration. -/
def State.proposedTable (s : State) (w : Swap) (i : Nat) : Mem :=
  match w.tables.find? fun p => p.1 == i with
  | some p => p.2
  | none => (s.load i).com

/-- The object whose value says that a unit is enabled: a source is by its kind, a replay slot by its rate, an integrator by
the context that it names. -/
def enablingKey (u : UnitId) : Option Nat :=
  match u.kind with
  | .integrator => some (Obj.DET_BP_CONTEXT u.i)
  | .source => some (Obj.TRIG_SRC_KIND u.i)
  | .replay => some (Obj.RSV_RPL_RATE u.i)
  | _ => enableKey u

/-- A value of that object enables the unit. -/
def enabling (u : UnitId) (v : Nat) : Bool :=
  match u.kind with
  | .integrator => v != 255
  | .source => v != 0
  | .replay => v != 0
  | _ => v == 1

/-- A unit without an enable object counts in validation while a session holds it (R350: every session's configuration). -/
def State.counts (s : State) (u : UnitId) : Bool := (s.holder u).isSome

/-- The number under which the committing session holds units: 8 more once it has ended (R344). -/
def Swap.owner (w : Swap) (s : State) : Nat :=
  if (s.ses w.sess).isOpen && (s.ses w.sess).inc == w.req.inc then w.sess else w.sess + 8

/-! ## References (R350) -/

/-- A unit names another in an object. -/
structure Ref where
  unit : UnitId
  key : Nat
  target : UnitId
  deriving DecidableEq, Repr, Inhabited

/-- The units that a source names. -/
def sourceRefs (get : Nat → Nat) (k : Nat) : List Ref :=
  let i := get (Obj.TRIG_SRC_INPUT k)
  let u : UnitId := ⟨.source, k⟩
  match get (Obj.TRIG_SRC_KIND k) with
  | 1 => [⟨u, Obj.TRIG_SRC_INPUT k, ⟨.tuner, i⟩⟩]
  | 2 => [⟨u, Obj.TRIG_SRC_INPUT k, ⟨.context, i⟩⟩, ⟨u, Obj.TRIG_SRC_MASK k, ⟨.mask, get (Obj.TRIG_SRC_MASK k)⟩⟩]
  | 3 => [⟨u, Obj.TRIG_SRC_INPUT k, ⟨.integrator, i⟩⟩]
  | _ => []

/-- The slots of a sequencer, as state and slot. -/
def slotsOf : List (Nat × Nat) := ((List.range 8).map fun q => (List.range 4).map fun k => (q, k)).flatten

/-- The units that an enabled sequencer names. -/
def sequencerRefs (get : Nat → Nat) (n : Nat) : List Ref :=
  let u : UnitId := ⟨.sequencer, n⟩
  ((bitList (get (Obj.TRIG_SEQ_TUNERS n)) 16).map fun t => ⟨u, Obj.TRIG_SEQ_TUNERS n, ⟨.tuner, t⟩⟩) ++
  (slotsOf.map fun (qk : Nat × Nat) =>
    let key := Obj.TRIG_SEQ_SLOT n qk.1 qk.2
    (slotCodes (get key)).filterMap fun c =>
      if 2 ≤ c ∧ c ≤ 33 then some (⟨u, key, ⟨.source, c - 2⟩⟩ : Ref)
      else if 45 ≤ c ∧ c ≤ 60 then some ⟨u, key, ⟨.sequencer, c - 45⟩⟩ else none).flatten

/-- The units that an enabled group names. -/
def groupRefs (get : Nat → Nat) (g : Nat) : List Ref :=
  let u : UnitId := ⟨.group, g⟩
  ⟨u, Obj.TRIG_GRP_MASTER g, ⟨.sequencer, get (Obj.TRIG_GRP_MASTER g)⟩⟩ ::
    ((bitList (get (Obj.TRIG_GRP_MEMBERS g)) 16).map fun q => ⟨u, Obj.TRIG_GRP_MEMBERS g, ⟨.sequencer, q⟩⟩) ++
    ((bitList (get (Obj.TRIG_GRP_TUNERS g)) 16).map fun t => ⟨u, Obj.TRIG_GRP_TUNERS g, ⟨.tuner, t⟩⟩)

/-- An origin's unit: sequencers 0 to 15, groups 16 to 19. -/
def originUnit (o : Nat) : UnitId := if o < 16 then ⟨.sequencer, o⟩ else ⟨.group, o - 16⟩

/-- The unit that an enabled transmit flow names (Table 11.4). -/
def flowTarget (get : Nat → Nat) (f : Nat) : Option UnitId :=
  let i := get (Obj.FLOW_SRC_INDEX f)
  if get (Obj.FLOW_DIR f) = 1 then none
  else match get (Obj.FLOW_SRC f) with
  | 1 => some ⟨.ring, i⟩ | 2 => some ⟨.context, i⟩ | 3 => some ⟨.context, i⟩ | 4 => some ⟨.plane, i⟩
  | 5 => some (originUnit i) | 6 => some ⟨.capture, i⟩ | 7 => some ⟨.replay, i⟩ | 8 => some ⟨.mover, i⟩
  | _ => none

/-- Traces that name a block (R277). -/
def traceSources (get : Nat → Nat) : List (Nat × Nat) :=
  ((List.range 4).map fun k => (Obj.SCAN_TR_SRC k, get (Obj.SCAN_TR_SRC k))).filter fun p => p.2 != 0xFFFF

/-- Every reference of the enabled units of a configuration. -/
def refsOf (get : Nat → Nat) : List Ref :=
  (((List.range 16).filter fun t => get (Obj.TUNE_ENABLE t) == 1).map fun t =>
    (⟨⟨.tuner, t⟩, Obj.TUNE_ENABLE t, ⟨.converter, tunerChannel t⟩⟩ : Ref)) ++
  (((ctxsOn get).map fun c =>
    (⟨⟨.context, c⟩, Obj.XFM_SOURCE c, ⟨.tuner, get (Obj.XFM_SOURCE c)⟩⟩ : Ref) ::
      (if get (Obj.DET_COL_MODE c) != 0 && Nat.blt (get (Obj.DET_COL_PLANE c)) 8 then
        [⟨⟨.context, c⟩, Obj.DET_COL_PLANE c, ⟨.plane, get (Obj.DET_COL_PLANE c)⟩⟩] else []))).flatten ++
  (((List.range 64).filter fun i => Nat.blt (get (Obj.DET_BP_CONTEXT i)) 32).map fun i =>
    (⟨⟨.integrator, i⟩, Obj.DET_BP_CONTEXT i, ⟨.context, get (Obj.DET_BP_CONTEXT i)⟩⟩ : Ref)) ++
  ((List.range 32).map (sourceRefs get)).flatten ++
  (((List.range 16).filter fun n => get (Obj.TRIG_SEQ_ENABLE n) == 1).map (sequencerRefs get)).flatten ++
  (((List.range 4).filter fun g => get (Obj.TRIG_GRP_ENABLE g) == 1).map (groupRefs get)).flatten ++
  (((List.range 4).filter fun u => get (Obj.TRIG_CAP_ENABLE u) == 1).map fun u =>
    let t := get (Obj.TRIG_CAP_TUNER u)
    [(⟨⟨.capture, u⟩, Obj.TRIG_CAP_TUNER u, ⟨.tuner, t⟩⟩ : Ref), ⟨⟨.capture, u⟩, Obj.TRIG_CAP_TUNER u, ⟨.ring, t⟩⟩,
     ⟨⟨.capture, u⟩, Obj.TRIG_CAP_SEQ u, originUnit (get (Obj.TRIG_CAP_SEQ u))⟩]).flatten ++
  (((List.range 20).filter fun h => get (Obj.RSV_HIST_ENABLE h) == 1).map fun h =>
    (⟨⟨.ring, h⟩, Obj.RSV_HIST_ENABLE h, if h < 16 then ⟨.tuner, h⟩ else ⟨.converter, h - 16⟩⟩ : Ref)) ++
  (((List.range 16).filter fun x => get (Obj.RSV_RPL_RATE x) != 0).map fun x =>
    (⟨⟨.replay, x⟩, Obj.RSV_RPL_RING x, ⟨.ring, get (Obj.RSV_RPL_RING x)⟩⟩ : Ref)) ++
  (((List.range 249).filter fun f => get (Obj.FLOW_ENABLE f) == 1).filterMap fun f =>
    (flowTarget get f).map fun u => (⟨⟨.flow, f⟩, Obj.FLOW_SRC_INDEX f, u⟩ : Ref)) ++
  (if get (Obj.SCAN_L_ENABLE 0) = 1 then
    [(⟨⟨.layer, 0⟩, Obj.SCAN_L_DENS_PLANE, ⟨.plane, get Obj.SCAN_L_DENS_PLANE⟩⟩ : Ref)] else []) ++
  (if get (Obj.SCAN_L_ENABLE 1) = 1 then
    (traceSources get).map fun p => (⟨⟨.layer, 1⟩, p.1, ⟨.context, p.2 / 256⟩⟩ : Ref) else [])

/-! ## Validation tables: the objects that a configuration fails -/

/-- The key where a test fails. -/
def failIf (b : Bool) (k : Nat) : List Nat := if b then [k] else []

/-- Ticks from one frame of a context to the next, H × 2D. -/
def frameStep (get : Nat → Nat) (c : Nat) : Nat :=
  get (Obj.XFM_HOP c) * 2 * get (Obj.TUNE_DECIM (get (Obj.XFM_SOURCE c)))

/-- A bin range leaves −N/2 to N/2 − 1: its first bin, and with a count its last. -/
def binsOutside (n : Nat) (first : Int) (count : Nat) : Bool :=
  decide (first < -((n / 2 : Nat) : Int)) || (count != 0 && decide (((n / 2 : Nat) : Int) < first + count))

/-- The value of the object that a parameter of the window type may not take (R80). -/
def winParamBad (type v : Nat) : Bool :=
  if type = 4 then Nat.blt 10240 v else if type = 5 then Nat.blt v 256 || Nat.blt 2048 v else false

/-- Coefficients that the user windows of a configuration hold up to context c (R82). -/
def uwinTo (get : Nat → Nat) (c : Nat) : Nat :=
  (List.range (c + 1)).foldl (fun n i => if get (Obj.XFM_WIN_TYPE i) = 6 then n + 2 ^ get (Obj.XFM_SIZE_LOG2 i) else n) 0

/-- Failures of the contexts (R73, R76, R80, R82, R88). -/
def State.contextFails (s : State) (w : Swap) (get : Nat → Nat) : List Nat :=
  (((List.range 16).filter fun t => s.holder ⟨.tuner, t⟩ == some (w.owner s)).map fun t =>
    failIf (get (Obj.TUNE_ENABLE t) == 1 && get (Obj.CONV_ENABLE (tunerChannel t)) != 1) (Obj.TUNE_ENABLE t)).flatten ++
  ((List.range 32).map fun c =>
    let on := get (Obj.XFM_ENABLE c) == 1
    let n := 2 ^ get (Obj.XFM_SIZE_LOG2 c)
    let type := get (Obj.XFM_WIN_TYPE c)
    failIf (on && get (Obj.TUNE_ENABLE (get (Obj.XFM_SOURCE c))) != 1) (Obj.XFM_SOURCE c) ++
    failIf (Nat.blt n (get (Obj.XFM_HOP c))) (Obj.XFM_HOP c) ++
    failIf (Nat.ble (get (Obj.XFM_HOP c)) (get (Obj.XFM_FRAME_PHASE c))) (Obj.XFM_FRAME_PHASE c) ++
    failIf (on && winParamBad type (get (Obj.XFM_WIN_PARAM c))) (Obj.XFM_WIN_PARAM c) ++
    failIf (type == 6 && (Nat.blt 2097152 (uwinTo get c) || decide (winSum (s.proposedTable w (16 + c)) ≤ 0))) (Obj.XFM_WIN_TYPE c) ++
    failIf (binsOutside n (toI 36 (get (Obj.XFM_BIN_FIRST c))) (get (Obj.XFM_BIN_COUNT c))) (Obj.XFM_BIN_FIRST c)).flatten

/-- The object that enables a product (Table 5.3). -/
def modeKey (c q : Nat) : Nat :=
  match q with
  | 0 => Obj.DET_AVG_MODE c | 1 => Obj.DET_HOLD_MODE c | 2 => Obj.DET_HOLD_MODE c | 4 => Obj.DET_PK_K c
  | 5 => Obj.DET_SG_MODE c | _ => Obj.DET_COL_MODE c

/-- Words of detector store by object, in ascending index order (R113). -/
def storeItems (get : Nat → Nat) : List (Nat × Nat) :=
  ((ctxsOn get).map fun c =>
    [0, 1, 2, 5, 6].map fun q => (modeKey c q, productStore get c q)).flatten ++
  ((List.range 64).map fun i =>
    (Obj.DET_BP_CONTEXT i, if get (Obj.XFM_ENABLE (get (Obj.DET_BP_CONTEXT i))) = 1 && Nat.blt (get (Obj.DET_BP_CONTEXT i)) 32 then 1 else 0))

/-- Insertion in ascending order of key. -/
def keyIns (p : Nat × Nat) : List (Nat × Nat) → List (Nat × Nat)
  | [] => [p]
  | x :: l => if p.1 < x.1 then p :: x :: l else x :: keyIns p l

/-- The key at which a running sum first exceeds a limit. -/
def firstOver (items : List (Nat × Nat)) (limit : Nat) : Option Nat :=
  (items.foldl (fun (acc : Nat × Option Nat) p =>
    (acc.1 + p.2, match acc.2 with
      | some k => some k
      | none => if limit < acc.1 + p.2 then some p.1 else none)) (0, none)).2

/-- Failures of the detectors (R114) and of the planes (R175). -/
def State.detectorFails (s : State) (get : Nat → Nat) : List Nat :=
  ((List.range 32).map fun c =>
    let on := get (Obj.XFM_ENABLE c) == 1
    let n := 2 ^ get (Obj.XFM_SIZE_LOG2 c)
    let cp := get (Obj.DET_COL_PERIOD c)
    let pl := get (Obj.DET_COL_PLANE c)
    let clash := (List.range 32).any fun d => d != c && get (Obj.DET_COL_PLANE d) == pl
    (if on then [] else ([0, 1, 2, 4, 5, 6].filter fun q => productOn get c q).map (modeKey c)) ++
    failIf (([0, 1, 2, 3, 4, 5].any fun q => productOn get c q) && Nat.blt (get (Obj.DET_PERIOD c)) (frameStep get c)) (Obj.DET_PERIOD c) ++
    failIf (cp != 0 && Nat.blt cp (frameStep get c)) (Obj.DET_COL_PERIOD c) ++
    failIf (get (Obj.DET_BIN_COUNT c) != 0 && binsOutside n (toI 36 (get (Obj.DET_BIN_FIRST c))) (get (Obj.DET_BIN_COUNT c))) (Obj.DET_BIN_FIRST c) ++
    failIf (get (Obj.DET_PK_K c) != 0 &&
      !(if get (Obj.DET_PK_INPUT c) = 0 then productOn get c 0 else productOn get c 1)) (Obj.DET_PK_INPUT c) ++
    failIf (Nat.blt pl 8 &&
      (clash || get (Obj.CRYS_ENABLE pl) != 1 || get (Obj.DET_COL_COUNT c) != get (Obj.CRYS_COLS pl))) (Obj.DET_COL_PLANE c)).flatten ++
  ((List.range 64).map fun i =>
    let c := get (Obj.DET_BP_CONTEXT i)
    let h : Int := ((2 ^ get (Obj.XFM_SIZE_LOG2 c) / 2 : Nat) : Int)
    let a := toI 36 (get (Obj.DET_BP_FIRST i))
    let z := toI 36 (get (Obj.DET_BP_LAST i))
    if 32 ≤ c || !s.counts ⟨.integrator, i⟩ then []
    else failIf (get (Obj.XFM_ENABLE c) != 1) (Obj.DET_BP_CONTEXT i) ++
      failIf (decide (z < a) || decide (a < -h) || decide (h ≤ z)) (Obj.DET_BP_FIRST i)).flatten ++
  ((firstOver ((storeItems get).foldr keyIns []) 8388608).map fun k => [k]).getD [] ++
  ((List.range 8).map fun p =>
    let range := toI 36 (get (Obj.CRYS_RANGE p))
    let top := toI 36 (get (Obj.CRYS_TOP p))
    let named := ((List.range 249).any fun f =>
        get (Obj.FLOW_ENABLE f) == 1 && flowTarget get f == some ⟨.plane, p⟩) ||
      (get (Obj.SCAN_L_ENABLE 0) == 1 && get Obj.SCAN_L_DENS_PLANE == p)
    failIf (decide (range < 65536) || decide (200 * 65536 < range)) (Obj.CRYS_RANGE p) ++
    failIf (decide (top < -200 * 65536) || decide (10 * 65536 < top)) (Obj.CRYS_TOP p) ++
    failIf (named && get (Obj.CRYS_ENABLE p) != 1) (Obj.CRYS_ENABLE p) ++
    failIf (get (Obj.CRYS_ENABLE p) == 1 && bitOf (s.rd Obj.DIAG_FENCE_OTHER) (4 + p)) (Obj.CRYS_ENABLE p) ++
    failIf (Nat.blt 128000000000 (planeLoad get p)) (Obj.CRYS_FILL p)).flatten

/-- A mask's start bins (R125). -/
def maskStarts (m : Mem) (segs : Nat) : List Int := (List.range segs).map fun i => toI 36 (m.get maskDflt (4 * i))

/-- The list rises strictly. -/
def risesStrictly : List Int → Bool
  | a :: b :: l => decide (a < b) && risesStrictly (b :: l)
  | _ => true

/-- Failures of the trigger sources and masks (R152). -/
def State.sourceFails (s : State) (w : Swap) (get : Nat → Nat) : List Nat :=
  ((List.range 16).map fun m =>
    failIf ((w.tables.any fun t => t.1 == m) && !risesStrictly (maskStarts (s.proposedTable w m) (get (Obj.TRIG_MASK_SEGS m))))
      (Obj.TRIG_MASK_WRITE m)).flatten ++
  ((List.range 32).map fun k =>
    let kind := get (Obj.TRIG_SRC_KIND k)
    let i := get (Obj.TRIG_SRC_INPUT k)
    let c := get (Obj.DET_BP_CONTEXT i)
    let bad := match kind with
      | 1 => !(Nat.blt i 16 && get (Obj.TUNE_ENABLE i) == 1)
      | 2 => !(Nat.blt i 32 && get (Obj.XFM_ENABLE i) == 1)
      | 3 => !(Nat.blt c 32 && get (Obj.XFM_ENABLE c) == 1)
      | 4 => Nat.ble 4 i
      | 6 => Nat.ble 16 i
      | _ => false
    let h : Int := ((2 ^ get (Obj.XFM_SIZE_LOG2 i) / 2 : Nat) : Int)
    let m := get (Obj.TRIG_SRC_MASK k)
    if !s.counts ⟨.source, k⟩ then []
    else failIf bad (Obj.TRIG_SRC_INPUT k) ++
      failIf (kind == 2 && (maskStarts (s.proposedTable w m) (get (Obj.TRIG_MASK_SEGS m))).any fun b => decide (b < -h) || decide (h ≤ b))
        (Obj.TRIG_SRC_MASK k) ++
      failIf (kind != 4 && get (Obj.TRIG_SRC_DIR k) == 2) (Obj.TRIG_SRC_DIR k)).flatten

/-- A slot may not name the code (R131, Table 6.7). -/
def codeBad (get : Nat → Nat) (n c : Nat) : Bool :=
  (Nat.ble 42 c && Nat.ble c 44) || Nat.ble 61 c ||
  (Nat.ble 2 c && Nat.ble c 33 && get (Obj.TRIG_SRC_KIND (c - 2)) == 0) ||
  (Nat.ble 45 c && Nat.ble c 60 && (Nat.ble n (c - 45) || get (Obj.TRIG_SEQ_ENABLE (c - 45)) != 1))

/-- A TUNERS mask names a tuner that is not enabled. -/
def tunersBad (get : Nat → Nat) (mask : Nat) : Bool := (bitList mask 16).any fun t => get (Obj.TUNE_ENABLE t) != 1

/-- Failures of the sequencers, groups and capture units (R144, R152). DEDUCED: a group or a capture unit that is not enabled has no master,
member, tuner or origin to check, as their defaults would refuse every configuration; its masks and lengths are checked (log entry 62). -/
def sequencerFails (get : Nat → Nat) : List Nat :=
  let groups := (List.range 4).filter fun g => get (Obj.TRIG_GRP_ENABLE g) == 1
  let members (g : Nat) := get (Obj.TRIG_GRP_MASTER g) :: bitList (get (Obj.TRIG_GRP_MEMBERS g)) 16
  let budgets := (List.range 20).map fun o =>
    (if o < 16 then Obj.TRIG_SEQ_MARK_BUDGET o else Obj.TRIG_GRP_MARK_BUDGET (o - 16), originBudget get o)
  ((List.range 16).map fun n =>
    (if get (Obj.TRIG_SEQ_ENABLE n) != 1 then [] else (slotsOf.map fun (qk : Nat × Nat) =>
      failIf ((slotCodes (get (Obj.TRIG_SEQ_SLOT n qk.1 qk.2))).any (codeBad get n)) (Obj.TRIG_SEQ_SLOT n qk.1 qk.2)).flatten) ++
    failIf (tunersBad get (get (Obj.TRIG_SEQ_TUNERS n))) (Obj.TRIG_SEQ_TUNERS n)).flatten ++
  (groups.map fun g =>
    let earlier := ((groups.filter fun h => Nat.blt h g).map members).flatten
    failIf (bitOf (get (Obj.TRIG_GRP_MEMBERS g)) (get (Obj.TRIG_GRP_MASTER g)) || (members g).any earlier.contains)
      (Obj.TRIG_GRP_MEMBERS g)).flatten ++
  ((List.range 4).map fun g => failIf (tunersBad get (get (Obj.TRIG_GRP_TUNERS g))) (Obj.TRIG_GRP_TUNERS g)).flatten ++
  ((List.range 4).map fun u => failIf (Nat.ble (get (Obj.TRIG_CAP_LEN u)) (get (Obj.TRIG_CAP_PRE u))) (Obj.TRIG_CAP_PRE u)).flatten ++
  (((List.range 4).filter fun u => get (Obj.TRIG_CAP_ENABLE u) == 1).map fun u =>
    let o := get (Obj.TRIG_CAP_SEQ u)
    failIf (get (Obj.RSV_HIST_ENABLE (get (Obj.TRIG_CAP_TUNER u))) != 1) (Obj.TRIG_CAP_TUNER u) ++
    failIf (get (if o < 16 then Obj.TRIG_SEQ_ENABLE o else Obj.TRIG_GRP_ENABLE (o - 16)) != 1) (Obj.TRIG_CAP_SEQ u)).flatten ++
  ((firstOver budgets 62500000).map fun k => [k]).getD []

/-- RSV_HIST_SPAN of a configuration, ticks (R179). -/
def spanOf (get : Nat → Nat) (h : Nat) : Nat :=
  get (Obj.RSV_HIST_PANS h) * 2 ^ 24 * (if h < 16 then 2 * get (Obj.TUNE_DECIM h) else 3)

/-- Failures of the rings, replay slots and the placement (R182, R183, R197). -/
def State.ringFails (s : State) (get : Nat → Nat) : List Nat :=
  (((List.range 20).filter fun h => get (Obj.RSV_HIST_ENABLE h) == 1).map fun h =>
    failIf (get (if h < 16 then Obj.TUNE_ENABLE h else Obj.CONV_ENABLE (h - 16)) != 1) (Obj.RSV_HIST_ENABLE h)).flatten ++
  ((List.range 16).map fun x =>
    failIf (s.counts ⟨.replay, x⟩ && get (Obj.RSV_RPL_RATE x) != 0 && get (Obj.RSV_HIST_ENABLE (get (Obj.RSV_RPL_RING x))) != 1)
      (Obj.RSV_RPL_RING x)).flatten ++
  (match s.placeSmalls get with
    | .error k => [k]
    | .ok _ => [])

/-- The ring that a flow reads by reference, none for the other sources (Table 11.4). -/
def refRing (get : Nat → Nat) (f : Nat) : Option Nat :=
  let i := get (Obj.FLOW_SRC_INDEX f)
  match get (Obj.FLOW_SRC f) with
  | 1 => some i | 6 => some (get (Obj.TRIG_CAP_TUNER i)) | 7 => some (get (Obj.RSV_RPL_RING i))
  | _ => none

/-- A transmit flow's source is there to be sent (Table 11.6). -/
def State.flowSourceOk (s : State) (get : Nat → Nat) (f : Nat) : Bool :=
  let i := get (Obj.FLOW_SRC_INDEX f)
  match get (Obj.FLOW_SRC f) with
  | 0 => true
  | 1 => Nat.blt i 20 && get (Obj.RSV_HIST_ENABLE i) == 1
  | 2 => Nat.blt i 32 && get (Obj.XFM_ENABLE i) == 1 && get (Obj.XFM_OUT_FORMAT i) != 0
  | 3 => Nat.blt i 32 && get (Obj.XFM_ENABLE i) == 1 && productOn get i (get (Obj.FLOW_SRC_PRODUCT f))
  | 4 => Nat.blt i 8 && get (Obj.CRYS_ENABLE i) == 1
  | 5 => (Nat.blt i 16 && get (Obj.TRIG_SEQ_ENABLE i) == 1) ||
      (Nat.ble 16 i && Nat.blt i 20 && get (Obj.TRIG_GRP_ENABLE (i - 16)) == 1)
  | 6 => Nat.blt i 4 && get (Obj.TRIG_CAP_ENABLE i) == 1
  | 7 => Nat.blt i 16 && get (Obj.RSV_RPL_RATE i) != 0
  | 8 => Nat.ble 32 i && Nat.blt i 96 && s.isOwned ⟨.mover, i⟩ && s.holder ⟨.mover, i⟩ == s.holder ⟨.flow, f⟩
  | _ => false

/-- The port can carry the flow: enabled, not fenced, with an address of the flow's IP version. -/
def State.portUsable (s : State) (get : Nat → Nat) (f p : Nat) : Bool :=
  s.rdB (Obj.PORT_ENABLE p) && s.rd (Obj.PORT_STATE p) != 5 &&
    s.rd (if flowIp4 get f then Obj.PORT_IP4 p else Obj.PORT_IP6 p) != 0

/-- The largest FLOW_BEATS on a port (R247). -/
def State.maxBeats (s : State) (get : Nat → Nat) (f p : Nat) : Nat :=
  (s.rd (Obj.PORT_MTU p) - (if flowIp4 get f then 20 else 40) - 72) / beatOctets (get (Obj.FLOW_WIDTH f))

/-- Failures of the flows (R251, R252, R259). -/
def State.flowFails (s : State) (get : Nat → Nat) : List Nat :=
  (((List.range 249).filter fun f => get (Obj.FLOW_ENABLE f) == 1).map fun f =>
    let tx := get (Obj.FLOW_DIR f) == 0
    let ok := s.flowSourceOk get f
    let hold := get (Obj.FLOW_ACK_MAX f) + get (Obj.FLOW_RTO f) * get (Obj.FLOW_TRY_MAX f)
    let r := flowRate get f
    let ps := bitList (get (Obj.FLOW_PORTS f)) 28
    let owner := s.holder ⟨.flow, f⟩
    failIf (tx && !ok) (Obj.FLOW_SRC_INDEX f) ++
    failIf (tx && get (Obj.FLOW_WIDTH f) == 4 && get (Obj.FLOW_SRC f) != 8) (Obj.FLOW_WIDTH f) ++
    failIf (ps.isEmpty || !ps.all (s.portUsable get f)) (Obj.FLOW_PORTS f) ++
    failIf (get (Obj.FLOW_BEATS f) == 0 || ps.any fun p => Nat.blt (s.maxBeats get f p) (get (Obj.FLOW_BEATS f))) (Obj.FLOW_BEATS f) ++
    failIf (Nat.blt (get (Obj.FLOW_REC_VER_MAX f)) 1) (Obj.FLOW_REC_VER_MAX f) ++
    (match refRing get f with
      | some h => failIf (tx && ok && Nat.blt (spanOf get h) (hold * tpus)) (Obj.FLOW_RTO f)
      | none => failIf (tx && ok && Nat.blt (2 ^ get (Obj.FLOW_RETAIN_LOG2 f) * halfOctets (get (Obj.FLOW_WIDTH f)) * 1000000 * r.den)
          (2 * hold * r.num)) (Obj.FLOW_RETAIN_LOG2 f)) ++
    failIf ((!tx || get (Obj.FLOW_SRC f) == 8) && get (Obj.FLOW_RATE f) == 0) (Obj.FLOW_RATE f) ++
    failIf (s.rdc (Obj.FLOW_ENABLE f) != 1 && Nat.ble 65535 (s.rd (Obj.FLOW_INCARN f)) &&
      (s.flow f).keyOf == owner.map fun i => (i, (s.ses i).inc)) (Obj.FLOW_ENABLE f)).flatten

/-- Words of a row of a layer's pixels (R274). -/
def layerRowWords (get : Nat → Nat) (l : Nat) : Nat :=
  if get (Obj.SCAN_L_FORMAT l) = 0 then get (Obj.SCAN_L_W l) else ceilDiv (get (Obj.SCAN_L_W l)) 4

/-- An enabled layer's last pixel word lies outside its buffer, or the density layer's two images do not fit (R274, R276). -/
def layerOutside (get : Nat → Nat) (l : Nat) : Bool :=
  let s := get (Obj.SCAN_L_BUF_LOG2 l)
  let o := get (Obj.SCAN_L_OFFSET l)
  let last := o + (get (Obj.SCAN_L_H l) - 1) * get (Obj.SCAN_L_STRIDE l) + layerRowWords get l
  if s = 0 then true
  else if l = 0 then Nat.ble (2 ^ (s - 1)) o || Nat.blt (2 ^ (s - 1)) (o + get (Obj.SCAN_L_STRIDE l) * get (Obj.SCAN_L_H l))
  else Nat.blt (2 ^ s) last

/-- Failures of the scan-out (R270, R288, R443, R445) and of the Plumb unit (R312). Only the buffer case of Table 12.2 names enabled layers; the
density plane and the traces of a layer that is not enabled are looked at where the commit writes them (log entry 72). -/
def State.scanFails (s : State) (w : Swap) (get : Nat → Nat) : List Nat :=
  let t := scanTransfer get
  let fence := s.rd Obj.DIAG_FENCE_OTHER
  let slow := if get Obj.SCAN_MODE = 1 then Nat.blt (t.den * 1000 * tps) (t.num * get Obj.SCAN_VACTIVE * get Obj.SCAN_RATE_MAX)
    else Nat.blt (scanLinePixels get * tps * t.den) (t.num * get Obj.SCAN_PIXEL_HZ)
  failIf slow Obj.SCAN_LANE_MBPS ++
  failIf (Nat.blt 2560 (get Obj.SCAN_HACTIVE)) Obj.SCAN_HACTIVE ++
  failIf (Nat.blt 1600 (get Obj.SCAN_VACTIVE)) Obj.SCAN_VACTIVE ++
  failIf (get Obj.SCAN_ENABLE == 1 && (bitOf fence 2 || bitOf fence 3)) Obj.SCAN_ENABLE ++
  ((List.range 4).map fun l =>
    failIf (Nat.blt (get Obj.SCAN_HACTIVE) (get (Obj.SCAN_L_X l) + get (Obj.SCAN_L_W l)) ||
      Nat.blt (get Obj.SCAN_VACTIVE) (get (Obj.SCAN_L_Y l) + get (Obj.SCAN_L_H l))) (Obj.SCAN_L_W l) ++
    failIf (get (Obj.SCAN_L_ENABLE l) == 1 && l != 1 && layerOutside get l) (Obj.SCAN_L_OFFSET l) ++
    failIf (l != 1 && (get (Obj.SCAN_L_OFFSET l) % 8 != 0 || get (Obj.SCAN_L_STRIDE l) % 8 != 0 ||
      Nat.blt (get (Obj.SCAN_L_STRIDE l)) (layerRowWords get l))) (Obj.SCAN_L_STRIDE l)).flatten ++
  failIf (((get (Obj.SCAN_L_ENABLE 0) == 1 || (get Obj.SCAN_L_DENS_PLANE != 255 && w.vals.any fun v => v.1 == Obj.SCAN_L_DENS_PLANE)) &&
      !(Nat.blt (get Obj.SCAN_L_DENS_PLANE) 8 && get (Obj.CRYS_ENABLE (get Obj.SCAN_L_DENS_PLANE)) == 1)) ||
    Nat.ble (get Obj.SCAN_L_DENS_HI) (get Obj.SCAN_L_DENS_LO)) Obj.SCAN_L_DENS_PLANE ++
  ((traceSources get).map fun p =>
    let c := p.2 / 256
    let q := p.2 % 256
    failIf ((get (Obj.SCAN_L_ENABLE 1) == 1 || w.vals.any fun v => v.1 == p.1) &&
      !(Nat.blt c 32 && get (Obj.XFM_ENABLE c) == 1 && (q == 0 || q == 1 || q == 2 || q == 5) && productOn get c q)) p.1).flatten ++
  failIf (bitOf fence 1 && get Obj.PLMB_MODE == 0 && (get Obj.PLMB_TDC_ENABLE == 1 || w.vals.any fun v => groupOf v.1 == 10)) Obj.PLMB_MODE

/-- The lowest key of a list. -/
def lowest (l : List Nat) : Option Nat :=
  l.foldl (fun (m : Option Nat) k => match m with
    | none => some k
    | some x => some (min x k)) none

/-- Ticks from which no Joint is requested (R455). -/
def lastTick : Nat := 2 ^ 64 - 2 ^ 36

/-- Step 2 of Table 15.9: DEV_JOINT_AT (R351, R455), then the lowest object that fails. -/
def State.rangeFail (s : State) (w : Swap) : Option Nat :=
  let get := s.proposed w
  if Nat.blt (w.served + 2 ^ 41) w.reqTick || Nat.ble lastTick (max w.reqTick (s.tick + 3200000)) then some Obj.DEV_JOINT_AT
  else lowest (s.contextFails w get ++ s.detectorFails get ++ s.sourceFails w get ++ sequencerFails get ++ s.ringFails get ++
    s.flowFails get ++ s.scanFails w get)

/-! ## The other checks -/

/-- Step 1: an enabled unit of the scope depends on a unit outside it that the session has staged to be enabled. -/
def State.incomplete (s : State) (w : Swap) (refs : List Ref) : Option Nat :=
  lowest ((refs.filter fun r =>
    bitOf w.groups (groupOf r.key) &&
      match enablingKey r.target with
      | none => false
      | some k => !bitOf w.groups (groupOf k) && s.hasStaged w.sess k && enabling r.target (s.staging w.sess k) &&
          !enabling r.target (s.rd k)).map Ref.key)

/-- Step 3: a unit of the session names one that another session owns or has reserved; a tuner may name any channel. -/
def State.foreign (s : State) (w : Swap) (refs : List Ref) : Option Nat :=
  lowest ((refs.filter fun r =>
    (s.holder r.unit == some (w.owner s) || w.vals.any fun v => v.1 == r.key) &&
      !(r.unit.kind == .tuner && r.target.kind == .converter) &&
      match s.holder r.target with
      | some h => h != w.owner s
      | none => false).map Ref.key)

/-- Step 4: a channel is disabled that another session's committed tuner uses. -/
def State.inUse (s : State) (w : Swap) : Option Nat :=
  (List.range 4).findSome? fun ch =>
    if s.rdc (Obj.CONV_ENABLE ch) = 1 && s.proposed w (Obj.CONV_ENABLE ch) != 1 &&
        (List.range 16).any (fun t => tunerChannel t == ch && s.rdc (Obj.TUNE_ENABLE t) == 1 &&
          s.holder ⟨.tuner, t⟩ != some (w.owner s)) then some (Obj.CONV_ENABLE ch)
    else none

/-- A refusal: the reason of Table 15.9, the object, and for ADMISSION the resource, the excess, the port and the quota. -/
structure Refused where
  reason : Nat
  obj : Nat
  res : Nat := 0
  excess : Nat := 0
  port : Nat := 0
  quota : Nat := 0
  deriving DecidableEq, Repr, Inhabited

/-- A floor or limit that the loads exceed, as an ADMISSION refusal. -/
def overFloor (items : List LoadItem) (res code port limit : Nat) : Option Refused :=
  (overBy items res port limit).map fun p => { reason := 5, obj := p.1, res := code, excess := p.2, port := port }

/-- A quota that the session's loads exceed (R346). -/
def overQuota (items : List LoadItem) (res limit quota : Nat) : Option Refused :=
  let mine := items.filter fun i => i.res == res
  (overBy (mine.map fun i => { i with port := 0 }) res 0 limit).map fun p =>
    { reason := 5, obj := p.1, res := 7, excess := p.2, quota := quota }

/-- Admission (R22) in its order, then the session's quotas in the order of their sub-indices. -/
def State.admission (s : State) (w : Swap) : Option Refused :=
  let items := loadsOf (s.proposed w) s.tagged
  let mine := items.filter fun i => s.holder (ownId i.key) == some (w.owner s)
  let q := w.sess
  let f := s.fabricFloors w.k
  [overFloor items 1 1 0 32, overFloor items 2 2 0 (s.rd Obj.DEV_FLOOR_POOL), overFloor items 3 3 0 f.1, overFloor items 4 4 0 f.2,
    overFloor items 5 5 0 (s.rd Obj.DEV_FLOOR_RSV),
    (List.range 28).findSome? fun p => (overFloor items 6 6 p (s.rd Obj.DEV_FLOOR_PORT)).orElse fun _ =>
      overFloor items 9 6 p (s.rd Obj.DEV_FLOOR_PORT),
    (List.range 28).findSome? fun p => overFloor items 8 8 p 1400000,
    overQuota mine 3 (s.rd (Obj.DEV_QUOTA_BFLY q)) 1, overQuota mine 4 (s.rd (Obj.DEV_QUOTA_CELL q)) 2,
    overQuota mine 5 (s.rd (Obj.DEV_QUOTA_RSV q)) 3, overQuota mine 6 (s.rd (Obj.DEV_QUOTA_PORT q)) 4,
    overQuota mine 2 (s.rd (Obj.DEV_QUOTA_POOL q)) 5, overQuota mine 1 (s.rd (Obj.DEV_QUOTA_CONTEXTS q)) 6].findSome? id

/-- The checks of Table 15.9 in their order: the first that fails, none when the configuration is admitted. -/
def State.verdict (s : State) (w : Swap) : Option Refused :=
  let refs := refsOf (s.proposed w)
  let first (reason : Nat) (o : Option Nat) : Option Refused := o.map fun k => { reason := reason, obj := k }
  [first 1 (s.incomplete w refs), first 2 (s.rangeFail w), first 3 (s.foreign w refs), first 4 (s.inUse w)].findSome? id |>.orElse
    fun _ => s.admission w

/-- 2202h at a validation (R29, R355): the loads of the units that the session owns or adds; and DET_STORE_USED (R115). -/
def State.showStagedLoads (s : State) (w : Swap) : State :=
  let items := (loadsOf (s.proposed w) s.tagged).filter fun i => s.holder (ownId i.key) == some (w.owner s)
  let s := s.updSes w.sess fun x => { x with checked := w.vals }
  s.wrAll [(sk w.sess Obj.DET_STORE_USED, s.storeUsed w.sess), (sk w.sess Obj.DEV_LOAD_STG_BFLY, loadSum items 3 0), (sk w.sess Obj.DEV_LOAD_STG_CELL, loadSum items 4 0),
    (sk w.sess Obj.DEV_LOAD_STG_RSV, loadSum items 5 0), (sk w.sess Obj.DEV_LOAD_STG_PORT, portMax items),
    (sk w.sess Obj.DEV_LOAD_STG_POOL, loadSum items 2 0)]

/-- DEV_COMMIT_REASON, _OBJECT and _QUOTA from a verdict. -/
def State.showVerdict (s : State) (sess : Nat) (v : Option Refused) : State :=
  match v with
  | none => s.wrAll [(sk sess Obj.DEV_COMMIT_REASON, 0), (sk sess Obj.DEV_COMMIT_OBJECT, 0), (sk sess Obj.DEV_COMMIT_QUOTA, 0)]
  | some x => s.wrAll [(sk sess Obj.DEV_COMMIT_REASON, x.reason), (sk sess Obj.DEV_COMMIT_OBJECT, x.obj), (sk sess Obj.DEV_COMMIT_QUOTA, x.quota)]

/-- 2203h at a commit's end (R22, R29). -/
def State.showAdmission (s : State) (sess : Nat) (v : Option Refused) : State :=
  let x : Refused := match v with
    | some x => if x.reason = 5 then x else { reason := x.reason, obj := 0 }
    | none => { reason := 0, obj := 0 }
  s.wrAll [(sk sess Obj.DEV_ADMIT_RESULT, if v.isNone then 1 else 2), (sk sess Obj.DEV_ADMIT_RESOURCE, x.res),
    (sk sess Obj.DEV_ADMIT_OBJECT, x.obj), (sk sess Obj.DEV_ADMIT_EXCESS, x.excess), (sk sess Obj.DEV_ADMIT_PORT, x.port)]

end Sys2Proof.Machine
end

