-- ==== Sys2Proof/Machine/Commit.lean ====
section
/-! DEFINITION. Commits and engine Joints (R344, R349 to R355, R450): the snapshot, its admission, the boundaries of the
changed units, the end of the swap, and the engine Joints that disable units. -/

namespace Sys2Proof.Machine

/-! ## Scope and snapshot (R349, R350) -/

/-- The groups in which a session has staged writes. -/
def State.stagedGroups (s : State) (sess : Nat) : Nat :=
  (s.stagedOf sess).foldl (fun m p => setBit m (groupOf p.1) true) 0

/-- The groups of a session's swaps in progress. -/
def State.busyGroups (s : State) (sess : Nat) : Nat :=
  (List.range 11).foldl (fun m g => if s.swapHolds sess g then setBit m g true else m) 0

/-- DEV_SCOPE_BUSY follows the swaps. -/
def State.showBusy (s : State) (sess : Nat) : State := s.wr (sk sess Obj.DEV_SCOPE_BUSY) (s.busyGroups sess)

/-- The scope of a session's command: DEV_COMMIT_SCOPE, 0 for every group with staged writes. Scan-out writes held for the next
commit count as staged (R280). -/
def State.scopeOf (s : State) (sess : Nat) : Nat :=
  let v := s.rd (sk sess Obj.DEV_COMMIT_SCOPE)
  let held := (s.ses sess).deferred.any fun p => groupOf p.1 == 9
  if v = 0 then setBit (s.stagedGroups sess) 9 (bitOf (s.stagedGroups sess) 9 || held) else v % 2 ^ 11

/-- The tables that a staged write touches: by loading an entry, or by resetting it. -/
def touchedTable (k : Nat) : Option Nat :=
  match loadOf k with
  | some i => some i
  | none => match segsOf k with
    | some m => some m
    | none => (sizeOf' k).map fun c => 16 + c

/-- A session's snapshot of a scope. -/
def State.snapshot (s : State) (r : Req) (groups : Nat) : Swap :=
  let mine := (s.stagedOf r.sess).filter fun p => bitOf groups (groupOf p.1)
  { id := s.swapId, req := r, sess := r.sess, seq := s.commits % 2 ^ 32, groups := groups, validating := true, served := s.tick
    k := s.rd Obj.DEV_PVIN_SCALE, reqTick := s.rd (sk r.sess Obj.DEV_JOINT_AT)
    vals := mine.filter fun p => (loadOf p.1).isNone
    tables := (mine.filterMap fun p => touchedTable p.1).eraseDups.map fun i => (i, (s.load i).staged) }

/-- The unit of a loaded table. -/
def tableUnit (i : Nat) : UnitId := if i < 16 then ⟨.mask, i⟩ else if i < 48 then ⟨.context, i - 16⟩ else ⟨.layer, i - 48⟩

/-- The scope group of a loaded table. -/
def tableGroup (i : Nat) : Nat := if i < 16 then 4 else if i < 48 then 2 else 9

/-! ## Boundaries (R352) -/

/-- The units that a snapshot changes, each with its group: a changed context or integrator changes its block (R111). -/
def State.changedUnits (s : State) (w : Swap) : List (Nat × UnitId) :=
  let direct := (w.vals.filter fun p => s.rdc p.1 != p.2).map fun p => (groupOf p.1, ownId p.1)
  let all := direct ++ w.tables.map fun t => (tableGroup t.1, tableUnit t.1)
  let blocks := (all.map fun (x : Nat × UnitId) =>
    if x.1 = 2 then [((3 : Nat), x.2)]
    else if x.2.kind == .integrator then
      ([s.rdc (Obj.DET_BP_CONTEXT x.2.i), s.proposed w (Obj.DET_BP_CONTEXT x.2.i)].filter fun c => Nat.blt c 32).map fun c =>
        ((3 : Nat), (⟨.context, c⟩ : UnitId))
    else []).flatten
  (all ++ blocks).eraseDups

/-- The first start label at or above t of a frame grid (R77). -/
def startFrom (hop phase d t : Nat) : Nat :=
  let i := ceilDiv t (2 * d)
  2 * d * (if Nat.ble i phase then phase else phase + roundUp (i - phase) hop)

/-- The tuner boundary that is to come for a tuner, by this snapshot or by an earlier swap (R68). -/
def State.tunerBoundary (s : State) (w : Swap) (units : List (Nat × UnitId)) (req t : Nat) : Option Nat :=
  if units.contains (1, ⟨.tuner, t⟩) then some (roundUp req (2 * s.proposed w (Obj.TUNE_DECIM t)))
  else (s.swaps.findSome? fun x => x.change 1 ⟨.tuner, t⟩).map Change.boundary

/-- The context boundary (R90): on the tuner grid in force at the label. -/
def State.contextBoundary (s : State) (w : Swap) (units : List (Nat × UnitId)) (req c : Nat) : Nat :=
  let t := s.proposed w (Obj.XFM_SOURCE c)
  let from_ := startFrom (s.proposed w (Obj.XFM_HOP c)) (s.proposed w (Obj.XFM_FRAME_PHASE c))
  let new := s.proposed w (Obj.TUNE_DECIM t)
  match s.tunerBoundary w units req t with
  | none => from_ new req
  | some j =>
    let old := from_ (s.rd (Obj.TUNE_DECIM t)) req
    if s.rdB (Obj.TUNE_ENABLE t) && Nat.blt old j then old else from_ new (max req j)

/-- The product boundary (R111). -/
def State.productBoundary (s : State) (w : Swap) (units : List (Nat × UnitId)) (req c : Nat) : Nat :=
  roundUp (if units.contains (2, ⟨.context, c⟩) then s.contextBoundary w units req c else req) (s.proposed w (Obj.DET_PERIOD c))

/-- A unit's boundary at or after the requested tick in force. A scan-out change waits for a latch from the commit's completion or
the later DEV_JOINT_AT (R279). -/
def State.boundaryOf (s : State) (w : Swap) (units : List (Nat × UnitId)) (req : Nat) (g : Nat) (u : UnitId) : Nat :=
  match g with
  | 1 => roundUp req (2 * s.proposed w (Obj.TUNE_DECIM u.i))
  | 2 => s.contextBoundary w units req u.i
  | 3 =>
    if u.kind == .integrator then
      let old := s.rdc (Obj.DET_BP_CONTEXT u.i)
      let new := s.proposed w (Obj.DET_BP_CONTEXT u.i)
      if new < 32 then s.productBoundary w units req new
      else if old < 32 then s.productBoundary w units req old else req
    else s.productBoundary w units req u.i
  | 5 => roundUp req 4194304
  | 9 => max s.tick w.reqTick
  | _ => req

/-- The changes of a snapshot with their boundaries. -/
def State.changesOf (s : State) (w : Swap) (req : Nat) : List Change :=
  let units := s.changedUnits w
  units.map fun x => ⟨x.1, x.2, s.boundaryOf w units req x.1 x.2⟩

/-- A frame is formed on the tuner grid in force at its start label (R90): a change of a tuner's decimation that comes in force before a
context change that waits moves the boundary of that change, and of its products (R111), to the new grid. -/
def State.rebound (s : State) (w : Swap) : State :=
  let move (x : Swap) (c : Nat) (k : Change) : Option Nat :=
    let t := s.rdc (Obj.XFM_SOURCE c)
    match w.change 1 ⟨.tuner, t⟩ with
    | some j =>
      if Nat.ble j.boundary k.boundary && s.rdc (Obj.TUNE_DECIM t) != s.rd (Obj.TUNE_DECIM t) then
        some (startFrom (s.rdc (Obj.XFM_HOP c)) (s.rdc (Obj.XFM_FRAME_PHASE c)) (s.rdc (Obj.TUNE_DECIM t)) (max x.reqTick j.boundary))
      else none
    | none => none
  let moved (x : Swap) : List (Nat × Nat) :=
    (List.range 32).filterMap fun c => (x.change 2 ⟨.context, c⟩).bind fun k => (move x c k).map fun b => (c, b)
  let fix (x : Swap) : Swap :=
    { x with units := x.units.map fun k =>
        match (moved x).find? fun m => k.unit == ⟨.context, m.1⟩ ||
          (k.unit.kind == .integrator && s.rdc (Obj.DET_BP_CONTEXT k.unit.i) == m.1) with
        | some m =>
          if k.group = 2 then { k with boundary := m.2 }
          else if k.group = 3 then { k with boundary := roundUp m.2 (s.rdc (Obj.DET_PERIOD m.1)) }
          else k
        | none => k }
  { s with swaps := s.swaps.map fun x => if x.id = w.id then x else fix x }

/-! ## Committed values -/

/-- Put a snapshot's values and tables as committed. -/
def State.putCommitted (s : State) (w : Swap) : State :=
  let s := w.vals.foldl (fun s p => s.wrc p.1 p.2) s
  (w.tables.foldl (fun s t => s.updLoad t.1 fun l => { l with com := t.2 }) s).showUwin

/-- The small rings of the committed configuration are placed; those it gives up stay until their Joint (R183). -/
def State.putSmalls (s : State) : State :=
  match s.placeSmalls s.rdc with
  | .error _ => s
  | .ok l => { s with rsv := { s.rsv with small := (s.rsv.small.filter fun r => !l.contains r) ++ l } }.showPans

/-- What reads from the committed configuration. -/
def State.showCommitted (s : State) (units : List (Nat × UnitId)) : State :=
  (units.filter fun x => x.1 == 2).foldl (fun s x => s.showWindow x.2.i) s.showLoads

/-- Ownership at an admitted commit (R342): enabled units and units without an enable object become owned; a reservation of a unit
left disabled, or of an engine-wide object, ends. -/
def State.settleOwner (s : State) (sess : Nat) (u : UnitId) : State :=
  if u.claimed then s
  else if u.kind == .global then s.disown u
  else if unitOn s.rdc u then s.own u sess true
  else if s.isOwned u then s else s.disown u

/-- Units that a snapshot names. -/
def Swap.unitsNamed (w : Swap) : List UnitId :=
  (w.vals.map (fun p => ownId p.1) ++ w.tables.map fun t => tableUnit t.1).eraseDups

/-! ## Engine Joints (R344, R383, R399, R455) -/

/-- The object and value that disable a unit: an integrator is off while it names no context, a mover's buffer has no size. -/
def disabling (u : UnitId) : Option (Nat × Nat) :=
  if u.kind == .integrator then some (Obj.DET_BP_CONTEXT u.i, 255)
  else if u.kind == .mover then some (Obj.MOVE_BUF_LOG2 u.i, 0)
  else if u = ⟨.global, Obj.SCAN_ENABLE⟩ then some (Obj.SCAN_ENABLE, 0) else (enableKey u).map fun k => (k, 0)

/-- The values that disable units which are enabled in the committed configuration. The Plumb unit has two enables. -/
def State.disablingVals (s : State) (units : List UnitId) : List (Nat × Nat) :=
  ((units.filterMap disabling) ++ (if units.contains ⟨.plumb, 0⟩ then [(Obj.PLMB_CNT_ENABLE, 0)] else [])).filter fun p =>
    s.rdc p.1 != p.2

/-- A group number for units without an enable object: an engine Joint ends their ownership and changes nothing of them. -/
def ownerGroup : Nat := 15

/-- An engine Joint that disables units, requested at a tick, for a cause of Table 20.6. -/
def State.engineJoint (s : State) (cause sess req : Nat) (units : List UnitId) : State :=
  let w : Swap := { id := s.swapId, req := ⟨sess, (s.ses sess).inc, 0, 0⟩, sess := sess, seq := 0, groups := 0, validating := false,
                    served := s.tick, reqTick := req, vals := s.disablingVals units, cause := some cause }
  let held := (units.filter fun u => (disabling u).isNone).map fun u => (⟨ownerGroup, u, req⟩ : Change)
  let w := { w with units := s.changesOf w req ++ held }
  let s := (s.putCommitted w).showCommitted (w.units.map fun c => (c.group, c.unit))
  { s with swaps := s.swaps ++ [w], swapId := s.swapId + 1 }.scanEffects

/-- The units that sessions of a number hold under `holder`. -/
def State.unitsHeld (s : State) (holder : Nat) : List UnitId :=
  (s.owners.filter fun o => o.sess == holder && o.owned && !o.unit.claimed).map Owner.unit

/-- The engine Joint of a session's end, requested no earlier than `req`: none where the session holds nothing. -/
def State.sessionJoint (s : State) (sess req : Nat) (extra : List UnitId) : State :=
  let units := (s.unitsHeld (sess + 8) ++ extra).eraseDups
  if units.isEmpty then s else s.engineJoint 0 sess req units

/-- Flows of an ended session that no swap is to start are freed (R249). -/
def State.freeIdleFlows (s : State) (sess : Nat) : State :=
  ((List.range 249).filter fun f => s.holder ⟨.flow, f⟩ == some (sess + 8) && s.rd (Obj.FLOW_STATE f) == 1 &&
    !(s.swaps.any fun w => (w.change 8 ⟨.flow, f⟩).isSome)).foldl (fun s f =>
      (s.freeFlow f).updFlow f fun x => { x with ending := false }) s

/-- The session's number is free once no engine Joint of its end waits (Table 15.7). -/
def State.freeNumber (s : State) (sess : Nat) : State :=
  let s := s.freeIdleFlows sess
  if (s.ses sess).isOpen || (s.swaps.any fun w => w.sess == sess && (w.cause.isSome || w.validating)) then s
  else (s.updSes sess fun x => { x with ending := false }).wrAll
    [(Obj.DEV_SESS_STATE sess, 0), (Obj.DEV_SESS_ROLE sess, 0), (Obj.DEV_SESS_PORT sess, 255)]

/-- A commit that was served before its session ended has come to its end: the engine Joint of the session's end follows it, and
disables what it enabled (R344). -/
def State.resolveEnded (s : State) (w : Swap) (req : Nat) : State :=
  if (s.ses w.sess).isOpen && (s.ses w.sess).inc == w.req.inc then s
  else
    let extra := w.unitsNamed.filter fun u => u.claimed && unitOn s.rdc u
    (s.sessionJoint w.sess (max req s.tick + 3200000) extra).freeNumber w.sess

/-! ## The command DEV_COMMIT -/

/-- DEV_COMMIT is not served: outside READY and SERVICE, or between a journal close and the end of the handover (R411, R423, R437,
R442). -/
def State.commitClosed (s : State) : Bool := !(s.rd Obj.DEV_STATE == 2 || s.rd Obj.DEV_STATE == 3) || s.upd.closed ||
  Nat.ble 2 s.pwr.step

/-- A commit of the session is still being validated (R353). -/
def State.validating (s : State) (sess : Nat) : Bool :=
  s.swaps.any fun w => w.sess == sess && w.validating && w.cause.isNone && w.req.inc == (s.ses sess).inc

/-- Scan-out writes that the first commit's swap holds enter staging for the second (R280). -/
def State.takeScan (s : State) (sess : Nat) : State :=
  let held := (s.ses sess).deferred
  let s := s.updSes sess fun x => { x with deferred := held.filter fun p => groupOf p.1 != 9 }
  let s := (held.filter fun p => groupOf p.1 == 9).foldl (fun s p => s.stagePut sess p.1 p.2) s
  s.wr (sk sess Obj.DEV_DEFERRED) (s.ses sess).deferred.length

/-- A write of 1 to DEV_COMMIT (R350, R353, R280). -/
def State.commit (s : State) (r : Req) : State :=
  if s.commitClosed || s.validating r.sess then s.answer r .busy
  else
    let groups := s.scopeOf r.sess
    let clash := Nat.land groups (s.busyGroups r.sess)
    if clash != 0 && clash != 2 ^ 9 then (s.accept r).finish r .busy
    else
      let s := if bitOf groups 9 then s.takeScan r.sess else s
      let w := s.snapshot r groups
      let s := { s with swaps := s.swaps ++ [w], swapId := s.swapId + 1, commits := s.commits + 1 }
      let s := s.wrAll [(sk r.sess Obj.DEV_COMMIT_STATE, 1), (sk r.sess Obj.DEV_COMMIT_SEQ, w.seq), (sk r.sess Obj.DEV_JOINT_SERVED, s.tick)]
      (s.accept r).showBusy r.sess

/-- A write of 2 (R355): the scope is validated and the result reported. -/
def State.validateOnly (s : State) (r : Req) : State :=
  let groups := s.scopeOf r.sess
  if s.commitClosed || s.validating r.sess || Nat.land groups (s.busyGroups r.sess) != 0 then s.answer r .busy
  else
    let w := s.snapshot r groups
    let v := s.verdict w
    let s := (s.showVerdict r.sess v).showStagedLoads w
    if v.isSome then s.answer r .refusedCommit else s.answer r .ok

/-- A write of 3 (R355). -/
def State.discardScope (s : State) (r : Req) : State :=
  let groups := s.scopeOf r.sess
  if s.commitClosed || s.validating r.sess || Nat.land groups (s.busyGroups r.sess) != 0 then s.answer r .busy
  else (s.discard r.sess groups).answer r .ok

/-- DEV_COMMIT: a write of 1. -/
def execDevCommit (sess tag : Nat) (s : State) : Host.Outcome State Fault Refusal :=
  done s (s.direct sess tag Obj.DEV_COMMIT 1 fun r s => s.commit r)

/-- DEV_COMMIT_VALIDATE: a write of 2. -/
def execDevCommitValidate (sess tag : Nat) (s : State) : Host.Outcome State Fault Refusal :=
  done s (s.direct sess tag Obj.DEV_COMMIT 2 fun r s => s.validateOnly r)

/-- DEV_COMMIT_DISCARD: a write of 3. -/
def execDevCommitDiscard (sess tag : Nat) (s : State) : Host.Outcome State Fault Refusal :=
  done s (s.direct sess tag Obj.DEV_COMMIT 3 fun r s => s.discardScope r)

/-! ## The end of validation (R23, R350 to R354, R450) -/

/-- A standby is there to receive what the primary mirrors (R386). -/
def State.hasStandby (s : State) : Bool :=
  s.rd Obj.TWIN_STATE == 3 || (s.rd Obj.TWIN_STATE == 2 && s.twin.peer.isSome && s.rd Obj.TWIN_LANES != 0)

/-- Replace a swap by its number. -/
def State.setSwap (s : State) (w : Swap) : State := { s with swaps := s.swaps.map fun x => if x.id = w.id then w else x }

/-- Drop a swap. -/
def State.dropSwap (s : State) (w : Swap) : State := { s with swaps := s.swaps.filter fun x => x.id != w.id }

/-- An admitted commit: its values are committed, its changes wait for their boundaries, and it is answered OK, by a paired primary
once the standby has its snapshot (R386). While the data path is suspended nothing applies: units restart from the committed
configuration at Y (R424). -/
def State.letIn (s : State) (w : Swap) : State :=
  let live := w.owner s == w.sess
  let req := max w.reqTick (s.tick + 3200000)
  let units := if s.pwr.suspended then [] else s.changesOf w req
  let s := s.putCommitted w
  let s := if live then s.dropStaged w.sess fun k => (w.vals.any fun p => p.1 == k) || (loadOf k).isSome && bitOf w.groups (groupOf k) else s
  let s := w.unitsNamed.foldl (fun s u => s.settleOwner (w.owner s) u) s
  let s := (s.putSmalls).showCommitted (units.map fun c => (c.group, c.unit))
  let wait := live && s.hasStandby
  let s := (s.setSwap { w with validating := false, reqTick := req, units := units, receipt := if wait then some s.wall else none }).rebound
    { w with units := units }
  let s := if live then
      let s := s.wrAll [(sk w.sess Obj.DEV_COMMIT_STATE, 2), (sk w.sess Obj.DEV_JOINT_REQ, req)]
      let s := if units.isEmpty then s.wrAll [(sk w.sess Obj.DEV_JOINT_FIRST, req), (sk w.sess Obj.DEV_JOINT_LAST, req)] else s
      (((s.showVerdict w.sess none).showAdmission w.sess none).showStagedLoads w).updSes w.sess fun x => { x with checked := [] }
    else s
  let s := if bitOf w.groups 9 then s.scanEffects else s
  let s := if wait then s else s.finish w.req .ok
  s.resolveEnded w req

/-- A refused commit (R24, R354, R450). -/
def State.refuse (s : State) (w : Swap) (v : Refused) : State :=
  let live := w.owner s == w.sess
  let s := (s.dropSwap w).event 0 w.sess 0x0B00 w.sess v.reason v.obj
  if live then
    let s := ((s.showVerdict w.sess (some v)).showAdmission w.sess (some v)).showStagedLoads w
    let s := (s.wr (sk w.sess Obj.DEV_COMMIT_STATE) 4).finish w.req .refusedCommit
    (s.enterDeferred w.sess).showBusy w.sess
  else
    let s := { s with owners := s.owners.filter fun o => !(o.sess == w.sess + 8 && !o.owned && w.unitsNamed.contains o.unit) }
    s.resolveEnded w 0

/-- COMMIT_VALIDATED (R23): the checks of the session's commit end, in the order in which commits were accepted. -/
def execCommitValidated (sess : Nat) (s : State) : Host.Outcome State Fault Refusal :=
  done s <|
    match s.swaps.find? fun w => w.validating with
    | none => s
    | some w =>
      if w.sess != sess then s
      else match s.verdict w with
        | none => s.letIn w
        | some v => s.refuse w v

/-! ## The end of a swap (R352, R353) -/

/-- Changes that no family's Joint applies: integrators that name no context before or after. -/
def State.looseChanges (s : State) (w : Swap) : List Change :=
  w.units.filter fun c => c.unit.kind == .integrator && s.rd (Obj.DET_BP_CONTEXT c.unit.i) == 255 &&
    w.value s (Obj.DET_BP_CONTEXT c.unit.i) == 255 && Nat.ble c.boundary s.tick

/-- Apply them. -/
def State.applyLoose (s : State) (w : Swap) : State :=
  (s.looseChanges w).foldl (fun s c => s.applyChange w c.group c.unit c.boundary) s

/-- A swap whose every change has applied. -/
def Swap.applied (w : Swap) (s : State) : Bool :=
  !w.validating && w.receipt.isNone && (w.units.all fun c => c.group == ownerGroup) &&
    (w.cause.isNone || Nat.ble w.reqTick s.tick)

/-- The ENGINE_JOINT entry (Table 20.6): cause, session, latest boundary. -/
def State.logJoint (s : State) (w : Swap) (cause : Nat) : State :=
  let last := words64 (w.done.foldl max w.reqTick)
  let sess := if cause = 3 then 254 else w.sess
  s.event 0 sess 0x001B (cause + 256 * sess) (last.getD 0 0) (last.getD 1 0)

/-- An engine Joint has applied: ownership of its units ends, and it is logged. The causes from 8 on are the model's own, of a
suspension and a resumption (R424): they are no engine Joints. -/
def State.engineDone (s : State) (w : Swap) (cause : Nat) : State :=
  if Nat.ble 8 cause then s.dropSwap w
  else
    let gone := (w.units.map Change.unit) ++ (w.vals.map fun p => ownId p.1)
    let s := { s with owners := s.owners.filter fun o => !(Nat.ble 8 o.sess && gone.contains o.unit) }
    let s := (s.dropSwap w).logJoint w cause
    if Nat.blt w.sess 8 then s.freeNumber w.sess else s

/-- A commit's swap completes: held writes enter staging and JOINT_DONE is sent. -/
def State.swapDone (s : State) (w : Swap) : State :=
  let s := s.dropSwap w
  if w.owner s != w.sess then s
  else
    let s := (s.wr (sk w.sess Obj.DEV_COMMIT_STATE) (if s.validating w.sess then 1 else 3)).enterDeferred w.sess
    (s.showBusy w.sess).notify w.sess 3 0 (w.seq :: words64 (s.rd (sk w.sess Obj.DEV_JOINT_LAST)))

/-- SWAP_COMPLETE (R353): every changed unit of the session's oldest complete swap has applied; 254 names the engine's own Joints. -/
def execSwapComplete (sess : Nat) (s : State) : Host.Outcome State Fault Refusal :=
  done s <|
    let mine (w : Swap) := if sess = 254 then w.cause.isSome && w.cause != some 0 else w.sess == sess && w.cause.isNone
    let s := (s.swaps.filter mine).foldl State.applyLoose s
    match s.swaps.find? fun w => mine w && w.applied s with
    | none => s
    | some w => match w.cause with
      | some c => s.engineDone w c
      | none => s.swapDone w

/-- SESSION_END_JOINT (R344): the engine Joint of a session's end has applied. -/
def execSessionEndJoint (sess : Nat) (s : State) : Host.Outcome State Fault Refusal :=
  done s <|
    match s.swaps.find? fun w => w.sess == sess && w.cause == some 0 with
    | none => s
    | some w =>
      let s := s.applyLoose w
      match s.swaps.find? fun x => x.id == w.id && x.applied s with
      | none => s
      | some w => s.engineDone w 0

/-! ## Receipts (R386) -/

/-- The first swap of the session that waits for the standby's receipt. -/
def State.receiptSwap (s : State) (sess : Nat) : Option Swap := s.swaps.find? fun w => w.sess == sess && w.receipt.isSome

/-- SNAPSHOT_RECEIPT (R386): the standby has the snapshot, and the commit's final OK leaves. -/
def execSnapshotReceipt (sess : Nat) (s : State) : Host.Outcome State Fault Refusal :=
  done s <|
    match s.receiptSwap sess with
    | none => s
    | some w => (s.setSwap { w with receipt := none }).finish w.req .ok

/-- SNAPSHOT_RECEIPT_TIMEOUT (R386): no receipt within 1 ms: the primary answers OK and its standby is not ready. -/
def execSnapshotReceiptTimeout (sess : Nat) (s : State) : Host.Outcome State Fault Refusal :=
  done s <|
    match s.receiptSwap sess with
    | none => s
    | some w => match w.receipt with
      | some t =>
        if Nat.blt s.wall (t + tpms) then s
        else
          let s := (s.setSwap { w with receipt := none }).finish w.req .ok
          let s := { s with twin := { s.twin with peerReady := false } }
          if s.rd Obj.TWIN_STATE = 3 then s.wr Obj.TWIN_STATE 2 else s
      | none => s

end Sys2Proof.Machine
end

