-- ==== Sys2Proof/Machine/Sessions.lean ====
section
/-! DEFINITION. Sessions (R265, R341 to R347, R365 to R370): their opening over I3C and Sluice, their end, the I3C target (R329
to R332, R479), stores (R357) and the retransmission timer (R258, R260). -/

namespace Sys2Proof.Machine

/-! ## Opening and ending (R341, R344) -/

/-- A session of a number opens: a new incarnation, its own objects at their defaults. -/
def State.openSes (s : State) (i ver role port : Nat) : State :=
  let mine (k : Nat) := k / 2 ^ 24 == i && perSession (k % 2 ^ 24) && k % 2 ^ 24 != Obj.DET_STORE_USED
  let s := { s with obj := s.obj.filter fun p => !mine p.1 }
  let s := s.updSes i fun x =>
    { x with
      isOpen := true, ending := false, inc := x.inc + 1, ver := ver, role := role, tags := [], deferred := [], checked := [], inbox := [], rx := []
      heard := s.wall, closing := none, psDirty := if x.storeAt.isSome then x.psDirty else []
      txq := if i = 0 then x.txq else [] }
  s.wrAll [(Obj.DEV_SESS_STATE i, 1), (Obj.DEV_SESS_ROLE i, role), (Obj.DEV_SESS_OPENED i, s.tick), (Obj.DEV_SESS_PORT i, port),
    (sk i Obj.DET_STORE_USED, s.storeUsed i)]

/-- A flow of an ended session is disabled at once and drained, or freed (R249). -/
def State.endFlow (s : State) (f : Nat) : State :=
  let st := s.rd (Obj.FLOW_STATE f)
  if st = 1 && !(s.swaps.any fun w => w.unitsNamed.contains ⟨.flow, f⟩) then s.freeFlow f
  else
    let s := if st = 2 || st = 4 then (((s.stopFlow f).wr (Obj.FLOW_ENABLE f) 0).wrc (Obj.FLOW_ENABLE f) 0).showFlow f else s
    s.updFlow f fun x => { x with ending := true }

/-- What a session claimed is disabled, aborted and released (R203, R249, R273, R311). -/
def State.endClaims (s : State) (i : Nat) : State :=
  let held (k : UKind) (n : Nat) := (List.range n).filter fun j => s.holder ⟨k, j⟩ == some i
  let s := (held .flow 249).foldl State.endFlow s
  let s := (held .mover 96).foldl State.freeMover s
  let s := (held .layer 4).foldl State.freeLayer s
  if (held .plumb 1).isEmpty then s else s.freePlumb

/-- A commit of the session's present incarnation that its end leaves to complete. -/
def State.pendingCommits (s : State) (i : Nat) : List Swap :=
  s.swaps.filter fun w => w.sess == i && w.cause.isNone && w.req.inc == (s.ses i).inc

/-- What a session staged of certificates is gone with it, and the report that was being formed for it (R362, R371). -/
def State.dropCerts (s : State) (i : Nat) : State :=
  { s with sec := { s.sec with
      stage := s.sec.stage.filter fun p => p.1 / 4096 != i
      forming := s.sec.forming.set i none } }

/-- The staged image is discarded, and its staging freed (R406). -/
def State.updDiscard (s : State) : State :=
  let s := { s with upd := { s.upd with blocks := [], image := none } }
  let s := (s.freeSmall Obj.UPD_LENGTH 0).wrc Obj.UPD_LENGTH 0
  s.wrAll [(Obj.UPD_LENGTH, 0), (Obj.UPD_OFFSET, 0), (Obj.UPD_STAGED_VERSION, 0), (Obj.UPD_STAGED_SVN, 0), (Obj.UPD_STAGED_HASH, 0)]

/-- What UPD_STATE reads while nothing is staged. -/
def State.updRest (s : State) : Nat :=
  if s.rd Obj.DEV_STATE = 6 then 7 else if s.rdB Obj.UPD_PROBATION then 6 else 0

/-- The update lock is released, and the staged image discarded unless its activation has begun (R405). -/
def State.updUnlock (s : State) : State :=
  let s := s.wr Obj.UPD_LOCK_HOLDER 255
  if s.rd Obj.UPD_STATE = 4 || s.rd Obj.UPD_STATE = 5 then s
  else ({ s with upd := { s.upd with req := none, waits := none } }.updDiscard).wr Obj.UPD_STATE s.updRest

/-- The end of the holder's session releases the update lock (R405). -/
def State.updRelease (s : State) (i : Nat) : State := if s.rd Obj.UPD_LOCK_HOLDER = i then s.updUnlock else s

/-- The end of a session, in the order of Table 15.7. -/
def State.endSession (s : State) (i : Nat) : State :=
  if !(s.ses i).isOpen then s
  else
    let pend := s.pendingCommits i
    let waits := pend.any Swap.validating
    let s := s.discard i (2 ^ 11 - 1)
    let s := pend.foldl (fun s w => (w.unitsNamed.filter fun u => (s.holder u).isNone && u.kind != .global).foldl (fun s u => s.own u i false) s) s
    let s := (s.updSes i fun x => { x with
      isOpen := false, ending := true, tags := [], deferred := [], checked := [], inbox := [], rx := [], closing := none, secret := 0, mirror := false }).wr
      (sk i Obj.DEV_DEFERRED) 0
    let s := (s.dropCerts i).updRelease i
    let s := (s.endClaims i).wr (Obj.DEV_SESS_STATE i) 2
    let s := { s with owners := s.owners.map fun o => if o.sess == i then { o with sess := i + 8 } else o }
    let s := if i = 0 then s else s.updFlow (248 + i) fun _ => {}
    if waits then s
    else
      let req := pend.foldl (fun n w => max n w.reqTick) s.tick + 3200000
      let extra := ((pend.map Swap.unitsNamed).flatten.eraseDups).filter fun u => u.claimed && u.kind != .mover && unitOn s.rdc u
      (s.sessionJoint i req extra).freeNumber i

/-- The octets at the head of a response to a request of tag t. -/
def isAnswer (t : Nat) (o : List Nat) : Bool := o.take 2 == [0x80, t % 256]

/-- The response to the CLOSE request that ends a session has left the engine. -/
def State.hasClosed (s : State) (i : Nat) : Bool :=
  match (s.ses i).closing with
  | none => false
  | some t => !((s.ses i).txq.any fun f => f.kind == 0x80 && f.tag == t) &&
      (i == 0 || (s.flow (248 + i)).frames.all fun fr => fr.sent != 0 || !isAnswer t fr.octets)

/-- Sessions whose CLOSE is answered end once the answer has left (R344). -/
def State.finishClosing (s : State) : State :=
  (List.range 8).foldl (fun s i => if s.hasClosed i then s.endSession i else s) s

/-- FRAME_TRANSMIT (R254). -/
def execFrameTransmit (p : Nat) (s : State) : Host.Outcome State Fault Refusal := done s (s.transmit p).finishClosing

/-- A CLOSE frame of a reason to a host (Table 11.3). -/
def closeFrameTo (sess port mac ip udp : Nat) (octets : List Nat) : SentFrame :=
  { kind := 6, flow := 0, sess := sess, incarn := 0, seq := 0, tries := 0, port := port, flags := 4, dstMac := mac, dstIp := ip
    dstUdp := udp, octets := octets }

/-- SESSION_IDLE_TIMEOUT (R344): the engine sends CLOSE, reason ENDED. -/
def execSessionIdleTimeout (i : Nat) (s : State) : Host.Outcome State Fault Refusal :=
  done s <|
    let x := s.ses i
    if i = 0 || Nat.ble 8 i || !x.isOpen || x.mirror || Nat.blt s.wall (x.heard + s.rd Obj.DEV_SESSION_IDLE_S * tps) then s
    else
      let p := s.rd (Obj.DEV_SESS_PORT i)
      let s := s.endSession i
      if s.portUp p && s.rd Obj.TWIN_STATE != 6 then s.putWire p (closeFrameTo i p (s.peer p) x.srcIp x.srcUdp [4]) else s

/-- CLOSE_FRAME (R344): a CLOSE frame at the front of a port's receive queue ends its session. -/
def execCloseFrame (p : Nat) (s : State) : Host.Outcome State Fault Refusal :=
  done s <|
    match s.rxHead p 6 with
    | none => s
    | some f => (s.rxPop p).endSession f.session

/-- DEV_SESS_END (R344): OK with no effect on a free or ending number. A session's write that ends itself is one of the outstanding requests
that are dropped unanswered. -/
def State.sessEnd (s : State) (i v : Nat) (r : Req) : State :=
  if v != 1 then s.answer r .range
  else if !(s.ses i).isOpen then s.answer r .ok
  else if i = r.sess then s.endSession i
  else (s.endSession i).answer r .ok

/-- DEV_SESS_END. -/
def execDevSessEnd (sess tag i v : Nat) (s : State) : Host.Outcome State Fault Refusal :=
  done s <| when (Nat.blt i 8) (fun s => s.direct sess tag (Obj.DEV_SESS_END i) v fun r s => s.sessEnd i v r) s

/-! ## HELLO and CLOSE (R333, R341, R347) -/

/-- The highest version common to a range and the engine's; 0 for none. -/
def State.commonDict (s : State) (lo hi : Nat) : Nat :=
  let v := min hi (s.rd Obj.DEV_DICT_VER_MAX)
  if max lo (s.rd Obj.DEV_DICT_VER_MIN) ≤ v then v else 0

/-- The dictionary and Sluice versions of an OPEN, common to it, the engine and its twin (R367, R401); 0 for none. -/
def State.openDict (s : State) (o : OpenInfo) : Nat :=
  match s.twin.peer with
  | some p => s.commonDict (max o.dictMin p.dict.1) (min o.dictMax p.dict.2)
  | none => s.commonDict o.dictMin o.dictMax

@[inherit_doc State.openDict]
def State.openSluice (s : State) (o : OpenInfo) : Nat :=
  let pair := (s.twin.peer.map PeerHello.sluice).getD (0, 255)
  let hi := min (min o.sluiceMax (s.rd Obj.FLOW_VER_MAX)) pair.2
  if max (max o.sluiceMin (s.rd Obj.FLOW_VER_MIN)) pair.1 ≤ hi then hi else 0

/-- The HELLO reply word (R347). -/
def State.helloWord (s : State) (ver : Nat) : Nat :=
  s.rd Obj.DEV_DICT_VER_MIN * 2 ^ 16 + s.rd Obj.DEV_DICT_VER_MAX * 2 ^ 8 + ver

/-- A well-formed HELLO over I3C: it ends session 0, and opens a new one where a version is common. -/
def State.hello0 (s : State) (tag vmin vmax : Nat) : State :=
  let s := s.endSession 0
  let v := s.commonDict vmin vmax
  if v = 0 then s.respond 0 tag 0 .version 0 [s.helloWord 0]
  else (s.openSes 0 v 2 255).respond 0 tag 0 .ok 0 [s.helloWord v]

/-- HELLO (R341, R343, R347): malformed it is answered TYPE and does nothing; on a control flow it changes nothing. -/
def execHello (sess tag vmin vmax : Nat) (wellFormed : Bool) (s : State) : Host.Outcome State Fault Refusal :=
  done s <|
    let s := s.popRequest sess 1 tag 0 0
    if s.rd Obj.DEV_STATE = 0 || Nat.ble 8 sess || s.handing then s
    else if sess = 0 then
      if s.rd Obj.DEV_I3C_ADDR = 0 then s
      else if wellFormed then s.hello0 tag vmin vmax else s.respond 0 tag 0 .type
    else s.arrive sess tag 0 fun s =>
      if wellFormed then s.respond sess tag 0 .ok 0 [s.helloWord (s.ses sess).ver] else s.respond sess tag 0 .type

/-- CLOSE (R344): answered OK; the session ends once that response has left. -/
def execClose (sess tag : Nat) (wellFormed : Bool) (s : State) : Host.Outcome State Fault Refusal :=
  done s <|
    let s := s.popRequest sess 4 tag 0 0
    s.arrive sess tag 0 fun s =>
      if wellFormed then (s.respond sess tag 0 .ok).updSes sess fun x => { x with closing := some tag }
      else s.respond sess tag 0 .type

/-! ## The I3C target (R329 to R332, R479) -/

/-- Change the target's record. -/
def State.updI3c (s : State) (f : I3c → I3c) : State := { s with i3c := f s.i3c }

/-- A header is not acknowledged. -/
def State.nack (s : State) : State := (s.updI3c fun x => { x with acked := false }).count Obj.DEV_I3C_NACK

/-- The target answers private headers: from step P4 on, at its dynamic address (R439, R479), and not while a
handover runs (R410). -/
def State.i3cLive (s : State) : Bool := s.rd Obj.DEV_STATE != 0 && s.rd Obj.DEV_I3C_ADDR != 0 && !s.handing

/-- I3C_DYNAMIC_ADDRESS (R479): ENTDAA (0) and SETDASA (1) assign an address while there is none, SETNEWDA (2) replaces it. -/
def execI3cDynamicAddress (cmd addr : Nat) (s : State) : Host.Outcome State Fault Refusal :=
  done s <|
    let now := s.rd Obj.DEV_I3C_ADDR
    if s.rd Obj.DEV_STATE = 0 || addr = 0 || Nat.ble 128 addr then s
    else if (now = 0 && Nat.blt cmd 2) || (now != 0 && cmd = 2) then s.wr Obj.DEV_I3C_ADDR addr else s

/-- RSTDAA (R479): the address is lost, and session 0 ends (R341). -/
def execRstdaa (s : State) : Host.Outcome State Fault Refusal :=
  done s <| if s.rd Obj.DEV_STATE = 0 then s else (s.endSession 0).wr Obj.DEV_I3C_ADDR 0

/-- RSTACT_INTERFACE (R332): an interface reset: session 0 ends, both frame queues are emptied, the address stays. -/
def execRstactInterface (s : State) : Host.Outcome State Fault Refusal :=
  done s <|
    if s.rd Obj.DEV_STATE = 0 then s
    else
      let s := (s.endSession 0).updSes 0 fun x => { x with txq := [] }
      let s := s.updI3c fun x => { x with inbox := [], ibi := false, ibiOff := false, ddr := false, hdr := false }
      s.wrAll [(Obj.DEV_RESET_KIND, 3), (Obj.DEV_RESET_CAUSE, 10)]

/-- Octets whose values the manual does not give. -/
def State.freeOctets (s : State) (n : Nat) : List Nat := toOctets n (s.freeN % 256 ^ n)

/-- The octets that a GET common command returns (Table 15.1), by its I3C code (PRESUMED, log entry 20). The manual does not give what
GETSTATUS, GETMXDS and GETCAPS return. -/
def State.i3cGet (s : State) (code : Nat) : Option (List Nat) :=
  match code with
  | 0x8B => some (toOctets 2 298)
  | 0x8C => some (toOctets 2 298 ++ [1])
  | 0x8D => some (toOctets 6 (Config.mipiId % 2 ^ 15 * 2 ^ 33 + 0x7436 * 2 ^ 16 + s.i3c.addrSel % 4 * 2 ^ 12))
  | 0x8E => some [0x26]
  | 0x8F => some [0x00]
  | 0x90 => some (s.freeOctets 2)
  | 0x94 => some (s.freeOctets 2)
  | 0x95 => some (s.freeOctets 4)
  | _ => none

/-- Common commands that Table 15.1 supports, by their I3C codes: ENEC, DISEC, RSTDAA, ENTDAA, SETMWL, SETMRL, ENTHDR0 and RSTACT broadcast,
and ENEC, DISEC, SETDASA, SETNEWDA, SETMWL, SETMRL, the GETs and RSTACT directed. -/
def i3cCommands : List Nat :=
  [0x00, 0x01, 0x06, 0x07, 0x09, 0x0A, 0x20, 0x2A, 0x80, 0x81, 0x87, 0x88, 0x89, 0x8A, 0x8B, 0x8C, 0x8D, 0x8E, 0x8F, 0x90, 0x94, 0x95, 0x9A]

/-- I3C_COMMON_COMMAND (R329): a supported common command is acknowledged; ENEC and DISEC turn the target's interrupts on and off by bit 0
of their octet, ENTHDR0 begins HDR-DDR, ENTHDR1 to 7 a mode whose transfer is discarded and counted (R8), a GET returns its value, and SETMWL and SETMRL leave 298 in force. A directed
command that is not supported is not acknowledged, and none is before a dynamic address is assigned (R479). -/
def execI3cCommonCommand (code arg : Nat) (s : State) : Host.Outcome State Fault Refusal :=
  done s <|
    if s.rd Obj.DEV_STATE = 0 then s
    else if Nat.ble 0x80 code && (!i3cCommands.contains code || s.rd Obj.DEV_I3C_ADDR = 0) then s.nack
    else
      let s' := s.updI3c fun x => { x with
        acked := true
        out := (s.i3cGet code).getD x.out
        ddr := x.ddr || code == 0x20, hdr := Nat.ble 0x21 code && Nat.ble code 0x27
        ibiOff := if code % 128 = 0 && arg % 2 = 1 then false else if code % 128 = 1 && arg % 2 = 1 then true else x.ibiOff }
      s'.used (if code = 0x90 || code = 0x94 || code = 0x95 then 1 else 0)

/-- A transfer's octets without the pad that follows a frame of odd length in HDR-DDR (R330). -/
def withoutPad (ddr : Bool) (o : List Nat) : List Nat :=
  let n := requestLen (o.getD 5 0)
  if ddr && n % 2 = 1 then (if o.length = n + 1 then o.take n else []) else o

/-- I3C_PRIVATE_WRITE (R330, R335, R439): a sound frame waits to be served; two may wait. -/
def execI3cPrivateWrite (ddr : Bool) (code : Nat) (octets : List Nat) (s : State) : Host.Outcome State Fault Refusal :=
  done s <|
    if s.i3c.hdr then (s.updI3c fun x => { x with hdr := false }).count Obj.DEV_I3C_NACK
    else if !s.i3cLive || Nat.ble 2 s.i3c.inbox.length then s.nack
    else
      let s := s.updI3c fun x => { x with acked := true, ddr := false }
      let o := withoutPad ddr octets
      if ddr && code != 0x20 then s.count Obj.DEV_I3C_NACK
      else if requestSound o then s.takeRequest 0 o
      else s.count Obj.DEV_I3C_CRC_ERR

/-- A frame's octets as a read carries them: in HDR-DDR one of odd length is followed by a zero octet (R330). -/
def padded (ddr : Bool) (o : List Nat) : List Nat := if ddr && o.length % 2 = 1 then o ++ [0] else o

/-- I3C_PRIVATE_READ (R331): the oldest queued frame, of which the controller takes at most `got` octets; one read only in part stays at
the head. In HDR-DDR only read command code 0xA0 carries frames (Table 15.1). -/
def execI3cPrivateRead (ddr : Bool) (code got : Nat) (s : State) : Host.Outcome State Fault Refusal :=
  done s <|
    if s.i3c.hdr then (s.updI3c fun x => { x with hdr := false }).count Obj.DEV_I3C_NACK
    else match (s.ses 0).txq with
    | [] => s.nack
    | f :: rest =>
      if !s.i3cLive then s.nack
      else if ddr && code != 0xA0 then (s.updI3c fun x => { x with ddr := false }).count Obj.DEV_I3C_NACK
      else
        let s := s.updI3c fun x => { x with acked := true, ibi := false, out := (padded ddr f.octets).take got, ddr := false }
        if Nat.ble f.octets.length got then (s.updSes 0 fun x => { x with txq := rest }).finishClosing else s

/-- IBI_REQUEST (R331): a frame waits and no interrupt has been requested since the last private read. -/
def execIbiRequest (s : State) : Host.Outcome State Fault Refusal :=
  done s <|
    let q := (s.ses 0).txq
    if !s.i3cLive || q.isEmpty || s.i3c.ibi || s.i3c.ibiOff then s
    else s.updI3c fun x => { x with ibi := true, ibiByte := if q.any fun f => f.kind == 0x90 && f.status == 4 then 2 else 1 }

/-! ## Stores (R357) -/

/-- DEV_STORE: served, and merged into the waiting store; a store follows the previous one by 2 s at least. -/
def State.store (s : State) (v : Nat) (r : Req) : State :=
  if v != 1 then s.answer r .range
  else if s.upd.closed then s.answer r .busy
  else
    let at_ := match (s.ses r.sess).lastStore with
      | some t => max s.wall (t + 2 * tps)
      | none => s.wall
    (s.accept r).updSes r.sess fun x => { x with storeReqs := x.storeReqs ++ [r], storeAt := some (x.storeAt.getD at_) }

/-- DEV_STORE: a write of 1. -/
def execDevStore (sess tag : Nat) (s : State) : Host.Outcome State Fault Refusal :=
  done s (s.direct sess tag Obj.DEV_STORE 1 fun r s => s.store 1 r)

/-- STORE_RUN (R357): the session's PS values go to MRAM, and every merged request completes. -/
def execStoreRun (sess : Nat) (s : State) : Host.Outcome State Fault Refusal :=
  done s <|
    let x := s.ses sess
    match x.storeAt with
    | none => s
    | some t =>
      if Nat.blt s.wall t || Nat.ble 8 sess then s
      else
        let s := { s with mram := x.psDirty.foldl (fun m k => m.set zeroDflt k (s.rd k + 1)) s.mram }
        let s := s.updSes sess fun x => { x with psDirty := [], storeReqs := [], storeAt := none, lastStore := some s.wall }
        x.storeReqs.foldl (fun s r => s.finish r .ok) s

/-! ## OPEN (R265, R343, R365 to R368) -/

/-- An OPEN whose segments have all arrived. -/
def OpenAsm.whole (a : OpenAsm) : Bool :=
  match a.total with
  | some n => (List.range n).all fun i => a.segs.any fun g => g.1 == i
  | none => false

/-- The reassembled payload. -/
def OpenAsm.octets (a : OpenAsm) : List Nat :=
  ((List.range (a.total.getD 0)).map fun i => ((a.segs.find? fun g => g.1 == i).map Prod.snd).getD []).flatten

/-- The OPEN that arrives from a source. -/
def State.openFrom (s : State) (ip udp : Nat) : Option OpenAsm := s.opens.find? fun a => a.srcIp == ip && a.srcUdp == udp

/-- Drop it. -/
def State.dropOpen (s : State) (ip udp : Nat) : State := { s with opens := s.opens.filter fun a => !(a.srcIp == ip && a.srcUdp == udp) }

/-- OPEN_SEGMENT_RECEIVE (R366): a segment joins those of its source; more than 8, or 8,192 octets, discard the OPEN. -/
def execOpenSegmentReceive (p : Nat) (s : State) : Host.Outcome State Fault Refusal :=
  done s <|
    match s.rxHead p 4 with
    | none => s
    | some f =>
      let s := s.rxPop p
      let a := (s.openFrom f.srcIp f.srcUdp).getD { srcIp := f.srcIp, srcUdp := f.srcUdp, srcMac := f.srcMac, port := p, firstAt := s.wall }
      let a := { a with
        segs := a.segs.filter (fun g => g.1 != f.seq) ++ [(f.seq, f.payload)]
        total := if f.final then some (f.seq + 1) else a.total }
      let s := s.dropOpen f.srcIp f.srcUdp
      if Nat.ble 8 f.seq || Nat.blt 8192 (a.segs.foldl (fun n g => n + g.2.length) 0) then s.count Obj.SEC_OPEN_DROP
      else { s with opens := s.opens ++ [a] }

/-- OPEN_REASSEMBLY_TIMEOUT (R366). -/
def execOpenReassemblyTimeout (srcIp srcUdp : Nat) (s : State) : Host.Outcome State Fault Refusal :=
  done s <|
    match s.openFrom srcIp srcUdp with
    | none => s
    | some a => if a.whole || Nat.blt s.wall (a.firstAt + 100 * tpms) then s else (s.dropOpen srcIp srcUdp).count Obj.SEC_OPEN_DROP

/-- Answer an OPEN by CLOSE with a reason. -/
def State.refuseOpen (s : State) (o : OpenInfo) (octets : List Nat) : State :=
  s.putWire o.port (closeFrameTo 255 o.port o.srcMac o.srcIp o.srcUdp octets)

/-- The highest role that the credential permits, among the installed anchors its chain reaches (R367). -/
def State.openRole (s : State) (o : OpenInfo) : Option Nat :=
  (o.anchors.filter fun a => Nat.blt a 8 && s.rd (Obj.SEC_ANCHOR_ROLE a) != 255).foldl (fun (m : Option Nat) a =>
    some (max (m.getD 0) (s.rd (Obj.SEC_ANCHOR_ROLE a)))) none

/-- Authentication fails (R363, R367): validity is checked while device time is known. -/
def State.openFails (s : State) (o : OpenInfo) : Bool :=
  s.rd Obj.SEC_OWNER_STATE == 0 || !o.chainOk || (s.openRole o).isNone ||
    (s.rd Obj.PLMB_TIME_STATE != 0 && !o.datesOk)

/-- The certificates that an OPEN_REPLY carries, concatenated. -/
def ownCerts : List Nat :=
  ((List.range 2).map fun c => (List.range (Config.certLen c)).map fun i => Config.certOctet c i % 256).flatten

/-- The OPEN_REPLY payload (Table 16.1): the nonce and the ephemeral key are random, free values. -/
def State.openReply (s : State) (sluice sess dict role : Nat) (payload : List Nat) : List Nat :=
  let head := [sluice, sess, s.rd Obj.FLOW_VER_MIN, s.rd Obj.FLOW_VER_MAX, dict, role, 0, 0]
  let body := head ++ toOctets 32 s.freeN ++ toOctets 97 (Config.freeNat (s.free + 1)) ++ [2] ++ toOctets 2 ownCerts.length ++ ownCerts
  body ++ toOctets 96 (Config.sign (Config.sha384 (payload ++ body)))

/-- Frames of a payload in segments (R366). -/
def State.sendSegments (s : State) (o : OpenInfo) (sess : Nat) (payload : List Nat) : State :=
  let m := s.rd (Obj.PORT_MTU o.port) - (if o.srcIp / 2 ^ 32 == 0xFFFF then 20 else 40) - 72
  let n := max 1 (ceilDiv payload.length m)
  (List.range n).foldl (fun s i => s.putWire o.port
    { kind := 5, flow := 0, sess := sess, incarn := 0, seq := i, tries := 0, port := o.port, flags := if i + 1 = n then 4 else 0
      dstMac := o.srcMac, dstIp := o.srcIp, dstUdp := o.srcUdp, octets := (payload.drop (i * m)).take m }) s

/-- The lowest free number from 1 to 7. -/
def State.freeSession (s : State) : Option Nat :=
  ([1, 2, 3, 4, 5, 6, 7].find? fun i => !(s.ses i).isOpen && !(s.ses i).ending)

/-- A session opens for an OPEN (R343, R368): its control flow begins. -/
def State.openRemote (s : State) (o : OpenInfo) (i : Nat) (payload : List Nat) : State :=
  let sluice := s.openSluice o
  let dict := s.openDict o
  let role := min o.role ((s.openRole o).getD 0)
  let reply := s.openReply sluice i dict role payload
  let s := (s.used 2).openSes i dict role o.port
  let s := s.updSes i fun x =>
    { x with srcIp := o.srcIp, srcUdp := o.srcUdp, srcMac := o.srcMac, secret := Config.sessionSecret o.transcript }
  let s := (s.updFlow (248 + i) fun _ => {}).wrAll [(Obj.FLOW_SEQ_NEXT (248 + i), 0), (Obj.FLOW_CUM (248 + i), 0)]
  let s := (s.wr (Obj.PORT_PEER_LEARNED o.port) o.srcMac).count Obj.SEC_OPEN_COUNT
  let s := if s.rd Obj.PLMB_TIME_STATE = 0 then s.count Obj.SEC_OPEN_NOTIME else s
  s.sendSegments o i reply

/-- The checks of an OPEN, in their order. -/
def State.serveOpen (s : State) (o : OpenInfo) (payload : List Nat) : State :=
  if s.isStandby then s.refuseOpen o [2]
  else if s.openSluice o = 0 || s.openDict o = 0 then s.refuseOpen o [1, s.rd Obj.FLOW_VER_MIN, s.rd Obj.FLOW_VER_MAX]
  else match s.freeSession with
    | none => s.refuseOpen o [2]
    | some i =>
      if s.openFails o then
        let s := if s.rd Obj.SEC_OWNER_STATE = 0 then s else s.count Obj.SEC_OPEN_AUTH_FAIL
        s.refuseOpen o [3]
      else s.openRemote o i payload

/-- OPEN (R265, R367): the whole OPEN of a source is served, at most four in a second. -/
def execOpenSession (o : OpenInfo) (s : State) : Host.Outcome State Fault Refusal :=
  done s <|
    match s.openFrom o.srcIp o.srcUdp with
    | none => s
    | some a =>
      if !a.whole || !s.portUp o.port then s
      else
        let s := s.dropOpen o.srcIp o.srcUdp
        let recent := s.openTimes.filter fun t => Nat.blt s.wall (t + tps)
        if Nat.ble 4 recent.length then { s with openTimes := recent }.count Obj.SEC_OPEN_DROP
        else { s with openTimes := s.wall :: recent }.serveOpen o a.octets

/-! ## Retransmission (R258, R260, R266) -/

/-- RTO_EXPIRY (R258, R260): FLOW_RTO after its latest transmission an unreleased frame is sent again, or lost after
FLOW_TRY_MAX retransmissions; a lost control frame ends its session. Mover-fed flows lose none. -/
def execRtoExpiry (f seq : Nat) (s : State) : Host.Outcome State Fault Refusal :=
  done s <|
    match (s.flow f).frames.find? fun fr => fr.seq == seq with
    | none => s
    | some fr =>
      if Nat.ble 256 f || fr.sent = 0 || Nat.blt s.wall (fr.lastAt + s.rto f) then s
      else if s.tryEnds f fr then
        if Nat.ble 249 f then s.endSession (f - 248) else s.loseFrame f fr
      else (s.updFlow f fun x => { x with frames := x.frames.map fun g => if g.seq == seq then { g with again := true } else g }).reRead f

end Sys2Proof.Machine
end

