-- ==== Sys2Proof/Machine/Security.lean ====
section
/-! DEFINITION. Owner anchors, provisioning and attestation (R360 to R364, R371, R372). -/

namespace Sys2Proof.Machine

/-- Change the trust store. -/
def State.updSec (s : State) (f : Sec → Sec) : State := { s with sec := f s.sec }

/-! ## Owner anchors (R362) -/

/-- SEC_ANCHOR_WRITE (R362): slot in bits 50:48, word offset in bits 47:36 up to 511, four octets in bits 31:0. -/
def State.anchorWrite (s : State) (v : Nat) (r : Req) : State :=
  let off := v / 2 ^ 36 % 4096
  let word := v % 2 ^ 36
  if Nat.ble (2 ^ 51) v || Nat.ble 512 off || Nat.ble (2 ^ 32) word then s.answer r .range
  else
    let k := r.sess * 4096 + v / 2 ^ 48 % 8 * 512 + off
    (s.updSec fun x => { x with stage := x.stage.set zeroDflt k word }).answer r .ok

/-- SEC_ANCHOR_WRITE. -/
def execSecAnchorWrite (sess tag v : Nat) (s : State) : Host.Outcome State Fault Refusal :=
  done s (s.direct sess tag Obj.SEC_ANCHOR_WRITE v fun r s => s.anchorWrite v r)

/-- The octets of a session's staged certificate for a slot. -/
def State.stagedCert (s : State) (sess slot : Nat) : List Nat :=
  let n := s.rd (sk sess Obj.SEC_ANCHOR_STAGE_LEN)
  ((List.range 512).map fun i => toOctets 4 (s.sec.stage.get zeroDflt (sess * 4096 + slot * 512 + i))).flatten.take n

/-- Octets that the anchor set hash covers: each installed slot's role and certificate. -/
def State.anchorOctets (s : State) : List Nat :=
  ((List.range 8).map fun i =>
    let role := s.rd (Obj.SEC_ANCHOR_ROLE i)
    if role = 255 then [] else role :: at' s.sec.certs i).flatten

/-- SEC_ANCHOR_SET_HASH. -/
def State.anchorHash (s : State) : Nat := Config.sha384 s.anchorOctets % 2 ^ 384

/-- An anchor is installed. -/
def State.anyAnchor (s : State) : Bool := (List.range 8).any fun i => s.rd (Obj.SEC_ANCHOR_ROLE i) != 255

/-- A slot holds a certificate with a role; role 255 empties it. -/
def State.setAnchor (s : State) (slot role : Nat) (cert : List Nat) : State :=
  (s.updSec fun x => { x with certs := x.certs.set slot cert }).wr (Obj.SEC_ANCHOR_ROLE slot) role

/-- A value that a link HELLO checks has changed: a refused bring-up restarts (R382). -/
def State.recheckTwin (s : State) : State :=
  if s.rd Obj.TWIN_STATE = 7 then s.wrAll [(Obj.TWIN_STATE, 1), (Obj.TWIN_REFUSE_REASON, 0)] else s

/-- An anchor command follows the previous one by less than 10 s (R461). -/
def State.anchorTooSoon (s : State) : Bool :=
  match s.sec.lastCmd with
  | some t => Nat.blt s.wall (t + 10 * tps)
  | none => false

/-- Anchor command 1: `sound` says that the staged certificate parses as required, with a P-384 key, the CA flag and a
self-signature that verifies. -/
def State.anchorInstall (s : State) (role slot : Nat) (sound : Bool) (r : Req) : State :=
  if Nat.blt 2 role || Nat.blt 7 slot then s.answer r .range
  else if s.anchorTooSoon then s.answer r .busy
  else
    let cert := s.stagedCert r.sess slot
    if !sound || cert.isEmpty then s.answer r .range
    else ((s.setAnchor slot role cert).updSec fun x => { x with lastCmd := some s.wall }).recheckTwin.answer r .ok

/-- Anchor command 2. -/
def State.anchorRemove (s : State) (slot : Nat) (r : Req) : State :=
  if Nat.blt 7 slot then s.answer r .range
  else if s.anchorTooSoon then s.answer r .busy
  else
    let t := s.setAnchor slot 255 []
    if s.rd Obj.SEC_OWNER_STATE = 1 && !t.anyAnchor then s.answer r .range
    else (t.updSec fun x => { x with lastCmd := some s.wall }).recheckTwin.answer r .ok

/-- SEC_ANCHOR_INSTALL: a write of SEC_ANCHOR_CMD with command 1. -/
def execSecAnchorInstall (sess tag role slot : Nat) (parses p384 ca selfSigned : Bool) (s : State) :
    Host.Outcome State Fault Refusal :=
  done s (s.direct sess tag Obj.SEC_ANCHOR_CMD (2 ^ 16 + role % 256 * 256 + slot % 256) fun r s =>
    s.anchorInstall role slot (parses && p384 && ca && selfSigned) r)

/-- SEC_ANCHOR_REMOVE: a write of SEC_ANCHOR_CMD with command 2. -/
def execSecAnchorRemove (sess tag slot : Nat) (s : State) : Host.Outcome State Fault Refusal :=
  done s (s.direct sess tag Obj.SEC_ANCHOR_CMD (2 * 2 ^ 16 + slot % 256) fun r s => s.anchorRemove slot r)

/-! ## Provisioning (R363, R364) -/

/-- A write of SEC_PROVISION by session 0: while an anchor is installed it locks test access for good. -/
def State.provision (s : State) (v : Nat) (r : Req) : State :=
  if v != 1 || !s.anyAnchor then s.answer r .range
  else (s.wrAll [(Obj.SEC_OWNER_STATE, 1), (Obj.SEC_TAP_LOCKED, 1)]).recheckTwin.answer r .ok

/-- SEC_PROVISION: every session but 0 is answered DENIED. -/
def execSecProvision (sess tag v : Nat) (s : State) : Host.Outcome State Fault Refusal :=
  done s <|
    if sess = 0 then s.direct sess tag Obj.SEC_PROVISION v fun r s => s.provision v r
    else s.arrive sess tag Obj.SEC_PROVISION fun s => s.respond sess tag Obj.SEC_PROVISION .denied

/-! ## Attestation (R371) -/

/-- The hash of the image in force. -/
def State.imageHash (s : State) : Nat :=
  match s.upd.inForce with
  | some i => i.hash
  | none => Config.factoryImageHash

/-- Octets 0 to 247 of a report (Table 16.2). -/
def State.reportBody (s : State) (sess nonce : Nat) : List Nat :=
  [1, s.rd Obj.SEC_OWNER_STATE, s.rd Obj.SEC_TAP_LOCKED, sess] ++ toOctets 16 (s.rd Obj.DEV_ID) ++
  toOctets 4 (s.rd Obj.DEV_FW_VERSION) ++ toOctets 4 (s.rd Obj.DEV_LOADER_VERSION) ++ toOctets 4 (s.rd Obj.SEC_SVN_IMAGE) ++
  toOctets 4 (s.rd Obj.SEC_SVN_FLOOR) ++ toOctets 48 s.imageHash ++ toOctets 48 Config.loaderHash ++ toOctets 48 s.anchorHash ++
  toOctets 8 s.tick ++ toOctets 10 s.timeNow ++ [0, 0] ++ toOctets 48 nonce

/-- A report: its body and the identity key's signature over it. -/
def State.report (s : State) (sess nonce : Nat) : List Nat :=
  s.reportBody sess nonce ++ toOctets 96 (Config.sign (Config.sha384 (s.reportBody sess nonce)))

/-- The report that is being formed for a session. -/
def State.forming (s : State) (sess : Nat) : Option Attest := at' s.sec.forming sess

/-- A write of SEC_ATTEST_CMD: BUSY while the session's previous report is being formed, or until a handover ends (R410). -/
def State.attest (s : State) (v : Nat) (r : Req) : State :=
  if v != 1 then s.answer r .range
  else if (s.forming r.sess).isSome || s.upd.closed then s.answer r .busy
  else
    let a : Attest := ⟨r, s.rd (sk r.sess Obj.SEC_ATTEST_NONCE)⟩
    ((s.accept r).updSec fun x => { x with forming := x.forming.set r.sess (some a) }).wr (sk r.sess Obj.SEC_ATTEST_STATE) 1

/-- SEC_ATTEST_CMD: every role may request a report. -/
def execSecAttestCmd (sess tag v : Nat) (s : State) : Host.Outcome State Fault Refusal :=
  done s (s.direct sess tag Obj.SEC_ATTEST_CMD v fun r s => s.attest v r)

/-- ATTEST_DONE (R371): the report is signed and stands in SEC_ATTEST_WORD, four octets per word. -/
def execAttestDone (sess : Nat) (s : State) : Host.Outcome State Fault Refusal :=
  done s <|
    match s.forming sess with
    | none => s
    | some a =>
      let o := s.report sess a.nonce
      let s := s.updSec fun x => { x with forming := x.forming.set sess none }
      let s := (List.range 86).foldl (fun s i => s.wr (sk sess (Obj.SEC_ATTEST_WORD i)) (ofOctets ((o.drop (4 * i)).take 4))) s
      (s.wr (sk sess Obj.SEC_ATTEST_STATE) 2).finish a.req .ok

/-! ## Certificates (R361) -/

/-- Octets of the certificate that a selector names: the device's, the product authority's, or an anchor slot's. -/
def State.certOf (s : State) (sel : Nat) : List Nat :=
  if sel < 2 then (List.range (Config.certLen sel % 2 ^ 16)).map fun i => Config.certOctet sel i % 256
  else at' s.sec.certs (sel - 2)

/-- SEC_CERT_LEN of a session. -/
def State.certLen (s : State) (sess : Nat) : Nat := (s.certOf (s.rd (sk sess Obj.SEC_CERT_SEL))).length

/-- SEC_CERT_WORD of a session: four octets from its offset, zero beyond the certificate's end. -/
def State.certWord (s : State) (sess i : Nat) : Nat :=
  let o := (s.certOf (s.rd (sk sess Obj.SEC_CERT_SEL))).drop (s.rd (sk sess Obj.SEC_CERT_OFFSET) + 4 * i)
  ofOctets ((o ++ [0, 0, 0, 0]).take 4)

end Sys2Proof.Machine
end

