-- ==== Sys2Proof/Machine/Resets.lean ====
section
/-! DEFINITION. What a reset keeps and loses (R439, R440, R446 to R449), the start record (R461), loader service (R413) and the
event log's MRAM areas (R451, R460). -/

namespace Sys2Proof.Machine

/-- Change the start-up record. -/
def State.updStart (s : State) (f : Start → Start) : State := { s with start := f s.start }

/-- Change the update engine's record. -/
def State.updUpd (s : State) (f : Upd → Upd) : State := { s with upd := f s.upd }

/-- Change the twin's record. -/
def State.updTwin (s : State) (f : Twin → Twin) : State := { s with twin := f s.twin }

/-- A persistent value as MRAM holds it, or its default (R357, R440). -/
def State.stored (s : State) (k : Nat) : Nat :=
  match s.mram.get zeroDflt k with
  | 0 => dflt k
  | v + 1 => v

/-! ## The log in MRAM (R446, R451) -/

/-- Copy the entries that are new since the latest snapshot into the snapshot area. -/
def State.snapLog (s : State) : State :=
  let new := s.log.ring.takeWhile fun e => Nat.blt s.log.lastSnap e.seq
  match new with
  | [] => { s with log := { s.log with due := false } }
  | e :: _ =>
    let times := s.wall :: s.log.snapTimes.filter fun t => Nat.blt s.wall (t + 3600 * tps)
    let s := { s with log := { s.log with snap := (new ++ s.log.snap).take 4096, lastSnap := e.seq, snapTimes := times, due := false } }
    (s.count Obj.DIAG_LOG_SNAPS).wr Obj.DIAG_LOG_SNAP_LAST e.seq

/-- A snapshot is allowed: fewer than 12 in the last hour. -/
def State.snapAllowed (s : State) : Bool :=
  Nat.blt (s.log.snapTimes.filter fun t => Nat.blt s.wall (t + 3600 * tps)).length 12

/-- LOG_SNAPSHOT (R451): every 600 s when there are new entries, and at once after a class 3 entry; a snapshot beyond the limit
waits. -/
def execLogSnapshot (s : State) : Host.Outcome State Fault Refusal :=
  done s <|
    let timed := match s.log.snapTimes with
      | t :: _ => Nat.ble (t + 600 * tps) s.wall
      | [] => Nat.ble (600 * tps) s.wall
    let new := s.log.ring.any fun e => Nat.blt s.log.lastSnap e.seq
    when (s.rd Obj.DEV_STATE != 0 && new && (timed || s.log.due) && s.snapAllowed) State.snapLog s

/-- The log as a cold or supply reset restores it: the latest snapshot and the newer entries of the fault area; numbering resumes
at the reservation mark. -/
def Log.restored (l : Log) : Log :=
  let top := (l.snap.head?.map LogEntry.seq).getD 0
  { ring := ((l.fault.filter fun e => Nat.blt top e.seq) ++ l.snap).take 4096
    next := l.mark, mark := l.mark, snap := l.snap, fault := l.fault, snapTimes := l.snapTimes, lastSnap := l.lastSnap }

/-- The log that an engine reset keeps: the event ring survives, and numbering continues. -/
def Log.kept (l : Log) : Log :=
  { ring := l.ring, next := l.next, mark := l.mark, snap := l.snap, fault := l.fault, snapTimes := l.snapTimes, lastSnap := l.lastSnap }

/-! ## What is kept -/

/-- Objects whose values MRAM holds beside the persistent settings. -/
def mramObjects : List Nat :=
  [Obj.SEC_OWNER_STATE, Obj.SEC_TAP_LOCKED, Obj.SEC_SVN_IMAGE, Obj.SEC_SVN_FLOOR, Obj.DEV_FW_VERSION, Obj.UPD_JOURNAL_DONE,
    Obj.UPD_JOURNAL_PAGES, Obj.UPD_JOURNAL_HASH, Obj.UPD_PROBATION, Obj.UPD_PROBATION_STARTS, Obj.UPD_LAST_FAIL,
    Obj.UPD_HANDOVER_FMT, Obj.UPD_SOURCE, Obj.UPD_ACTIVATIONS, Obj.DEV_START_COUNT, Obj.DEV_POWER_HOURS, Obj.DIAG_LOG_SNAPS,
    Obj.DIAG_LOG_SNAP_LAST, key 0x740B 0] ++
  (List.range 8).map Obj.SEC_ANCHOR_ROLE ++ (List.range 255).map Obj.UPD_RESET_LIST ++ (List.range 4).map Obj.PWR_W_BURSTS

/-- Objects that a supply or an engine reset keeps as well: the dynamic address in the AON domain, and TWIN_SENSE as it is. -/
def aonObjects : List Nat := [Obj.DEV_I3C_ADDR, Obj.TWIN_SENSE_STATE]

/-- Hours with PVIN present (Table 20.8). -/
def State.powerHours (s : State) : Nat :=
  s.rd Obj.DEV_POWER_HOURS + (match s.start.upSince with
    | some t => (s.wall - t) / (3600 * tps)
    | none => 0)

/-- The objects after a reset of a kind. The pages that an open journal holds by then are a free value (R414). -/
def State.objAfter (s : State) (kind cause : Nat) : Mem :=
  let keep := mramObjects ++ (if kind = 0 then [Obj.TWIN_SENSE_STATE] else aonObjects)
  let m := keep.foldl (fun (m : Mem) k => m.set dflt k (s.rd k)) []
  let lost := Nat.blt s.wall s.start.recAt
  let m := if lost then (m.set dflt Obj.DEV_START_COUNT s.start.recOld.1).set dflt Obj.UPD_PROBATION_STARTS s.start.recOld.2 else m
  let m := if kind = 2 then m else m.set dflt Obj.DEV_POWER_HOURS s.powerHours
  let m := match s.upd.journal with
    | some j => if s.rd Obj.UPD_STATE = 4 then
        m.set dflt Obj.UPD_JOURNAL_DONE (max (s.rd Obj.UPD_JOURNAL_DONE) (min j.pages (s.freeN % (j.pages + 1)))) else m
    | none => m
  (m.set dflt Obj.DEV_RESET_KIND kind).set dflt Obj.DEV_RESET_CAUSE cause

/-- The update engine after a reset: what MRAM holds, the starts on probation that did not reach READY, and the consecutive
watchdog resets (R411, R449). -/
def State.updAfter (s : State) (cause : Nat) : Upd :=
  let u := s.upd
  let unready := s.start.loaded && s.start.readyAt.isNone
  let probation := s.rdB Obj.UPD_PROBATION
  let dogs := if cause = 6 && unready && !probation then u.dogs + 1 else 0
  { journal := u.journal, inForce := u.inForce, confirmed := u.confirmed, closedAt := u.closedAt, fresh := u.fresh, formats := u.formats
    failed := u.failed || Nat.ble 3 dogs, starts := if unready && probation then u.starts + 1 else u.starts, dogs := dogs }

/-- The engine after a reset of a kind (Table 20.4), before it restarts: everything that is not kept is as it is at a start. A reset while a
factor set is being written keeps the set that the slot held, still valid. DESIGN CHOICE: R41 says no more than that the pointer stays (log
entry 58). A pseudo-channel that failed in service is to be fenced at the start (R196). -/
def State.restart (s : State) (kind cause : Nat) : State :=
  let log := if kind = 2 then s.log.kept else s.log.restored
  let t : State :=
    { wall := s.wall, free := s.free + 1, pending := s.pending, swapId := s.swapId, obj := s.objAfter kind cause, mram := s.mram, log := log
      wire := s.wire
      sess := s.sess.map fun x => ({ inc := x.inc } : Sess)
      chans := s.chans.map fun x => ({ sets := x.sets, pointer := x.pointer } : Chan)
      trig := { inLevel := s.trig.inLevel }
      rsv := { pch := (List.range 128).map fun k =>
        ({ failed := (s.pch k).failed && !bitOf (s.rd (Obj.DIAG_FENCE_PCH (k / 32))) (k % 32) } : Pch) }
      sec := { certs := s.sec.certs, lastCmd := s.sec.lastCmd }
      upd := s.updAfter cause
      twin := { faults := s.twin.faults }
      i3c := { addrSel := if kind = 0 then 0 else s.i3c.addrSel }
      start :=
        { vaux := s.start.vaux, pvin := s.start.pvin, resetLow := s.start.resetLow, kind := kind, cause := cause, begun := s.wall
          upSince := if kind = 2 then s.start.upSince else none, pwrgd := kind == 2 && s.start.pwrgd, under := s.start.under
          recAt := s.start.recAt, recOld := s.start.recOld } }
  t.wrAll [(Obj.DEV_LOG_NEWEST, (log.ring.head?.map LogEntry.seq).getD 0), (Obj.DEV_LOG_OLDEST, (log.ring.getLast?.map LogEntry.seq).getD 0)]

/-! ## The start -/

/-- The start record (R461): the start is counted and logged; a start within 100 ms of the previous record writes its own 100 ms
after that one. -/
def State.startRecord (s : State) : State :=
  let old := (s.rd Obj.DEV_START_COUNT, s.rd Obj.UPD_PROBATION_STARTS)
  let at_ := if s.start.recAt != 0 && Nat.blt s.wall (s.start.recAt + 100 * tpms) then s.start.recAt + 100 * tpms else s.wall
  let s := s.updStart fun x => { x with recAt := at_, recOld := old }
  let s := s.count Obj.DEV_START_COUNT
  let s := if s.rdB Obj.UPD_PROBATION then s.wr Obj.UPD_PROBATION_STARTS (min 255 (old.2 + 1)) else s
  let s := s.event 0 254 0x0010 s.start.kind s.start.cause (s.rd Obj.DEV_FW_VERSION)
  if s.start.under then (s.event 3 254 0x0705).updStart fun x => { x with under := false } else s

/-- Persistent values are loaded from MRAM (R440). -/
def State.loadStored (s : State) : State := s.mram.foldl (fun s p => s.wr p.1 (p.2 - 1)) s

/-- Loader service (R413): DEV_STATE 6, UPD_STATE 7; the reason is kept in UPD_LAST_FAIL where it is one of 5 to 7. -/
def State.enterLoader (s : State) (reason : Nat) : State :=
  let s := if reason = 0 then s else s.wr Obj.UPD_LAST_FAIL reason
  (s.loadStored.wrAll [(Obj.DEV_STATE, 6), (Obj.UPD_STATE, 7), (Obj.DEV_START_STEP, 2)]).startRecord

/-- P2 (R438): every rail is in regulation, and the loader checks the journal and the image. -/
def State.enterP2 (s : State) : State :=
  let s := (s.updStart fun x => { x with pwrgd := true }).wr Obj.DEV_START_STEP 2
  if s.upd.journal.isSome then s.enterLoader 5 else if s.upd.failed then s.enterLoader 0 else s

/-- A fault message to the twin, with the reason that a source-change record of its takeover names (R392, R394). -/
def State.faultMessage (s : State) (reason : Nat) : State :=
  if s.twin.peer.isSome then s.updTwin fun x => { x with faults := reason :: x.faults } else s

/-- An engine reset (R446): the log is copied to MRAM while the control cluster runs, the twin is told, and the start resumes at
P2. -/
def State.engineReset (s : State) (cause : Nat) : State :=
  let s := if cause != 6 && s.snapAllowed then s.snapLog else s
  ((s.faultMessage 0).restart 2 cause).enterP2

/-- RSTACT_ENGINE (R332): action 2, an engine reset. -/
def execRstactEngine (s : State) : Host.Outcome State Fault Refusal :=
  done s <| if s.rd Obj.DEV_STATE = 0 then s else s.engineReset 4

/-- DIAG_RESET: a write of 1; its OK leaves the engine before the reset. -/
def State.diagReset (s : State) (v : Nat) (r : Req) : State :=
  if v != 1 then s.answer r .range else (s.answer r .ok).engineReset 5

/-- DIAG_RESET (R446). -/
def execDiagReset (sess tag v : Nat) (s : State) : Host.Outcome State Fault Refusal :=
  done s (s.direct sess tag Obj.DIAG_RESET v fun r s => s.diagReset v r)

/-- WATCHDOG (R446, R411): the control cluster has left its watchdog unserved for 2 s; on probation that is a probation failure. -/
def State.watchdog (s : State) : State :=
  let s := s.event 3 254 0x0013
  if s.rdB Obj.UPD_PROBATION then
    (((s.wr Obj.UPD_LAST_FAIL 1).event 3 254 0x0902 1).updUpd fun x => { x with failed := true }).engineReset 6
  else s.engineReset 6

/-- WATCHDOG. -/
def execWatchdog (s : State) : Host.Outcome State Fault Refusal :=
  done s <| if s.start.loaded && !s.start.resetLow then s.watchdog else s

/-! ## Becoming a standby (R383, R390) -/

/-- The units that are enabled in the committed configuration, of every session. -/
def State.committedUnits (s : State) : List UnitId :=
  let all (k : UKind) (n : Nat) := (List.range n).map fun i => (⟨k, i⟩ : UnitId)
  let units := all .tuner 16 ++ all .context 32 ++ all .integrator 64 ++ all .sequencer 16 ++ all .group 4 ++ all .capture 4 ++ all .plane 8 ++
    all .ring 20 ++ all .flow 249 ++ all .layer 4 ++ all .plumb 1
  units.filter fun u => (disabling u).any fun kv => s.rdc kv.1 != kv.2

/-- Units of the mirrored groups (R384): scan-out and Plumb are local. -/
def mirroredUnit (u : UnitId) : Bool := u.kind != .layer && u.kind != .plumb && u.kind != .global

/-- Engine Joints that disable units, one for each session that holds some and one for those that none holds (Table 20.6). -/
def State.disableAll (s : State) (cause : Nat) (units : List UnitId) : State :=
  let hs := units.map fun u => ((s.holder u).map fun h => h % 8).getD 254
  hs.eraseDups.foldl (fun s h =>
    s.engineJoint cause h s.tick (units.filter fun u => ((s.holder u).map fun x => x % 8).getD 254 == h)) s

/-- The engine becomes a standby that is not ready: its mirrored units end by an engine Joint, and it begins to sync. -/
def State.becomeStandby (s : State) : State :=
  let units := s.committedUnits.filter mirroredUnit
  let s := s.disableAll 1 units
  let end_ (o : Owner) : Option Owner :=
    if mirroredUnit o.unit && Nat.blt o.sess 8 then (if units.contains o.unit then some { o with sess := o.sess + 8 } else none)
    else some o
  let s := { s with owners := s.owners.filterMap end_ }
  let s := s.wrAll [(Obj.TWIN_STATE, 4), (Obj.TWIN_NOT_READY, 1), (Obj.TWIN_READY_SINCE, 0)]
  s.updTwin fun x => { x with steps := 0, js := none, log := [], logWait := [], diverged := [], subst := [], entered := [], begun := [], synced := [], unoffered := [], handover := none }

end Sys2Proof.Machine
end

