-- ==== Sys2Proof/Machine/Update.lean ====
section
/-! DEFINITION. Firmware replacement in service (R403 to R417): the lock, staging, verification, activation under journal, the state
handover, probation and loader service. -/

namespace Sys2Proof.Machine

/-! ## The lock (R405) -/

/-- Step 6 of the request checks for UPD_ objects: LOCKED with the holder, DENIED where nobody holds the lock. -/
def State.updLocked (s : State) (sess : Nat) : Option (Status × Nat) :=
  let h := s.rd Obj.UPD_LOCK_HOLDER
  if h = sess then none else if h = 255 then some (.denied, 0) else some (.locked, h)

/-- Serve an UPD_ write that needs the lock: another session's is answered LOCKED whatever its value; the holder's BUSY while
activation or handover runs, and it restarts the idle clock. `take` is a write that a free lock allows. -/
def State.updWrite (s : State) (sess tag key : Nat) (v : Option Nat) (take : Bool) (body : Req → State → State) : State :=
  s.arrive sess tag key fun s =>
    let lock := match s.updLocked sess with
      | some (.denied, d) => if take then none else some (.denied, d)
      | x => x
    match s.check sess key true v, lock with
    | .fail .range _, some (st, d) => s.respond sess tag key st d
    | .fail st d, _ => s.respond sess tag key st d
    | .pass _, some (st, d) => s.respond sess tag key st d
    | .pass _, none =>
      if s.rd Obj.UPD_STATE = 4 || s.rd Obj.UPD_STATE = 5 then s.respond sess tag key .busy
      else body (s.req sess tag key) (s.updUpd fun x => { x with heard := s.wall })

/-- A write of UPD_LOCK: 1 takes a free lock, 2 releases the holder's. -/
def State.updLock (s : State) (v : Nat) (r : Req) : State :=
  match v with
  | 1 => (if s.rd Obj.UPD_LOCK_HOLDER = 255 then s.wr Obj.UPD_LOCK_HOLDER r.sess else s).answer r .ok
  | 2 => s.updUnlock.answer r .ok
  | _ => s.answer r .range

/-- UPD_LOCK_TAKE. -/
def execUpdLockTake (sess tag : Nat) (s : State) : Host.Outcome State Fault Refusal :=
  done s (s.updWrite sess tag Obj.UPD_LOCK (some 1) true fun r s => s.updLock 1 r)

/-- UPD_LOCK_RELEASE. -/
def execUpdLockRelease (sess tag : Nat) (s : State) : Host.Outcome State Fault Refusal :=
  done s (s.updWrite sess tag Obj.UPD_LOCK (some 2) false fun r s => s.updLock 2 r)

/-- UPD_LOCK_IDLE_TIMEOUT: 600 s without a UPD_ write by the holder while UPD_STATE reads 0 to 3. -/
def execUpdLockIdleTimeout (s : State) : Host.Outcome State Fault Refusal :=
  done s <|
    when (Nat.blt (s.rd Obj.UPD_LOCK_HOLDER) 8 && Nat.ble (s.rd Obj.UPD_STATE) 3 && Nat.ble (s.upd.heard + 600 * tps) s.wall)
      State.updUnlock s

/-- UPD_LOCK_IDLE_S: the clock does not run while activation or handover is in progress. -/
def State.updIdleS (s : State) : Nat :=
  if s.rd Obj.UPD_LOCK_HOLDER = 255 || s.rd Obj.UPD_STATE = 4 || s.rd Obj.UPD_STATE = 5 then 0
  else (s.wall - s.upd.heard) / tps

/-! ## Download (R406) -/

/-- The staging of an image: the stream staging area in loader service, else a small ring of 2^23 words, placed under R183. -/
def State.updStage (s : State) : Option State :=
  if s.rd Obj.DEV_STATE = 6 then some s
  else
    let pans := (List.range (s.rd Obj.RSV_PANS_TOTAL)).filter fun q => !(s.keptPans s.rdc).contains q
    let room := s.rd Obj.RSV_PANS_TOTAL - historyPans s.rdc
    match placeOne s.rsv.small pans Obj.UPD_LENGTH (2 ^ 23) with
    | none => none
    | some r =>
      if Nat.blt room ((r :: s.rsv.small).map SmallRing.pan).eraseDups.length || s.pwr.suspended then none
      else some ({ s with rsv := { s.rsv with small := s.rsv.small ++ [r] } }).showPans

/-- A write of L to UPD_LENGTH. -/
def State.updLength (s : State) (v : Nat) (r : Req) : State :=
  if Nat.blt v 128 || Nat.blt 25165824 v then s.answer r .range
  else if s.rd Obj.UPD_STATE = 2 then s.answer r .busy
  else match s.updDiscard.updStage with
    | none => s.answer r .busy
    | some t =>
      let t := if t.rd Obj.DEV_STATE = 6 then t else t.wrc Obj.UPD_LENGTH v
      (t.wrAll [(Obj.UPD_LENGTH, v), (Obj.UPD_OFFSET, 0), (Obj.UPD_STATE, 1)]).answer r .ok

/-- UPD_LENGTH. -/
def execUpdLength (sess tag v : Nat) (s : State) : Host.Outcome State Fault Refusal :=
  done s (s.updWrite sess tag Obj.UPD_LENGTH (fits Obj.UPD_LENGTH v) false fun r s => s.updLength v r)

/-- A write of UPD_OFFSET: a multiple of 256 below L. -/
def State.updOffset (s : State) (v : Nat) (r : Req) : State :=
  if v % 256 != 0 || Nat.ble (s.rd Obj.UPD_LENGTH) v then s.answer r .range else (s.wr Obj.UPD_OFFSET v).answer r .ok

/-- UPD_OFFSET_WRITE. -/
def execUpdOffsetWrite (sess tag v : Nat) (s : State) : Host.Outcome State Fault Refusal :=
  done s (s.updWrite sess tag Obj.UPD_OFFSET (fits Obj.UPD_OFFSET v) false fun r s => s.updOffset v r)

/-- The control cluster writes a block to the image's staging ring (R184). -/
def State.stageBlock (s : State) (o : Nat) : State :=
  match s.small Obj.UPD_LENGTH with
  | some r => s.access ((r.base + o * 2 / 9) / 64) controlRq false
  | none => s

/-- A write of UPD_DATA: 256 octets at UPD_OFFSET, which advances; one after a pass returns UPD_STATE to 1. -/
def State.updData (s : State) (v : Nat) (r : Req) : State :=
  let o := s.rd Obj.UPD_OFFSET
  if Nat.ble (s.rd Obj.UPD_LENGTH) o then s.answer r .range
  else if s.rd Obj.UPD_STATE = 2 then s.answer r .busy
  else
    let s := (s.stageBlock o).updUpd fun x => { x with blocks := x.blocks.set zeroDflt (o / 256) (v + 1), image := none }
    (s.wrAll [(Obj.UPD_OFFSET, o + 256), (Obj.UPD_STATE, 1)]).answer r .ok

/-- UPD_DATA. -/
def execUpdData (sess tag v : Nat) (s : State) : Host.Outcome State Fault Refusal :=
  done s (s.updWrite sess tag Obj.UPD_DATA (fits Obj.UPD_DATA v) false fun r s => s.updData v r)

/-- UPD_MISSING: the offset of the lowest block not written, all ones for none. -/
def State.updMissing (s : State) : Nat :=
  if s.rd Obj.UPD_LENGTH = 0 then 0
  else match (List.range (ceilDiv (s.rd Obj.UPD_LENGTH) 256)).find? fun i => s.upd.blocks.get zeroDflt i == 0 with
    | some i => 256 * i
    | none => 2 ^ 32 - 1

/-! ## Verification (R403, R404, R407) -/

/-- Octet i of the staged image. -/
def State.imageOctet (s : State) (i : Nat) : Nat := (s.upd.blocks.get zeroDflt (i / 256) - 1) / 2 ^ (8 * (255 - i % 256)) % 256

/-- n octets from octet i on, most significant first. -/
def State.imageField (s : State) (i n : Nat) : Nat := ofOctets ((List.range n).map fun j => s.imageOctet (i + j))

/-- Octets of the staged image. -/
def State.imageOctets (s : State) (i n : Nat) : List Nat := (List.range n).map fun j => s.imageOctet (i + j)

/-- The header of the staged image (Table 18.1), the hash of its body and its own; whether its signature verifies is the
loader's finding. -/
def State.stagedImage (s : State) (signatureOk : Bool) : ImageInfo :=
  let hlen := s.imageField 6 2
  let body := s.imageField 20 4
  { magicOk := s.imageField 0 4 == 0x43535831, format := s.imageOctet 4, hlen := hlen, bodyLen := body
    patchLen := s.imageField 88 4, resLen := s.imageField 92 4, part := s.imageField 24 4, signatureOk := signatureOk
    bodyHashOk := Config.sha384 (s.imageOctets hlen body) % 2 ^ 384 == s.imageField 40 48
    loaderMin := s.imageField 16 4, svn := s.imageField 12 4, fwVersion := s.imageField 8 4
    hoAcceptLo := s.imageOctet 36, hoAcceptHi := s.imageOctet 37, hoProduce := s.imageOctet 38
    psFormats := (List.range (min 19 (s.imageOctet 39))).map fun k =>
      (s.imageOctet (96 + 4 * k), s.imageOctet (97 + 4 * k), s.imageOctet (98 + 4 * k), s.imageOctet (99 + 4 * k))
    hash := Config.sha384 (s.imageOctets 0 (s.rd Obj.UPD_LENGTH)) % 2 ^ 384 }

/-- The lengths of an image of L octets agree (check 3). -/
def lengthsOk (i : ImageInfo) (l : Nat) : Bool :=
  i.hlen + i.bodyLen == l && Nat.ble i.patchLen i.bodyLen && Nat.ble i.patchLen 524288 && Nat.ble 4096 i.resLen && Nat.ble i.resLen 16777216 &&
    Nat.ble (i.resLen + i.patchLen) i.bodyLen

/-- The first check of Table 18.3 from 2 on that an image of L octets fails, 0 for none. -/
def State.imageCheck (s : State) (i : ImageInfo) (l : Nat) : Nat :=
  if !i.magicOk || Nat.blt i.format (s.rd Obj.UPD_FMT_MIN) || Nat.blt (s.rd Obj.UPD_FMT_MAX) i.format then 2
  else if !lengthsOk i l then 3
  else if i.part != 0x7436 then 4
  else if !i.signatureOk then 5
  else if !i.bodyHashOk then 6
  else if Nat.blt (s.rd Obj.DEV_LOADER_VERSION) i.loaderMin then 7
  else if Nat.blt i.svn (s.rd Obj.SEC_SVN_FLOOR) then 8 else 0

/-- The final answer of a check. -/
def checkAnswer (n : Nat) : Status := if n = 2 || n = 7 then .version else .range

/-- A write of UPD_VERIFY. -/
def State.updVerify (s : State) (v : Nat) (r : Req) : State :=
  if v != 1 then s.answer r .range
  else if s.rd Obj.UPD_STATE = 2 then s.answer r .busy
  else ((s.accept r).updUpd fun x => { x with req := some r }).wr Obj.UPD_STATE 2

/-- UPD_VERIFY. -/
def execUpdVerify (sess tag v : Nat) (s : State) : Host.Outcome State Fault Refusal :=
  done s (s.updWrite sess tag Obj.UPD_VERIFY (fits Obj.UPD_VERIFY v) false fun r s => s.updVerify v r)

/-- The request that a stage completes is answered. -/
def State.updFinish (s : State) (st : Status) : State :=
  match s.upd.req with
  | some r => (s.finish r st).updUpd fun x => { x with req := none }
  | none => s

/-- UPD_VERIFY_DONE (R407): the first failing check ends it; a pass describes the image. -/
def execUpdVerifyDone (signatureOk : Bool) (s : State) : Host.Outcome State Fault Refusal :=
  done s <|
    if s.rd Obj.UPD_STATE != 2 then s
    else
      let l := s.rd Obj.UPD_LENGTH
      let i := s.stagedImage signatureOk
      let n := if l = 0 || s.updMissing != 2 ^ 32 - 1 then 1 else s.imageCheck i l
      if n = 0 then
        let s := s.updUpd fun x => { x with image := some i }
        (s.wrAll [(Obj.UPD_STATE, 3), (Obj.UPD_VERIFY_REASON, 0), (Obj.UPD_STAGED_VERSION, i.fwVersion), (Obj.UPD_STAGED_SVN, i.svn),
          (Obj.UPD_STAGED_HASH, i.hash)]).updFinish .ok
      else (s.wrAll [(Obj.UPD_STATE, 1), (Obj.UPD_VERIFY_REASON, n)]).updFinish (checkAnswer n)

/-! ## Activation under journal (R408, R409) -/

/-- Pages of an image. -/
def imagePages (i : ImageInfo) : Nat := ceilDiv (i.hlen + i.bodyLen) 4096

/-- The journal opens, or goes on at the first page without an entry where it is of the same image (R409, R413). -/
def State.openJournal (s : State) (i : ImageInfo) (mode source : Nat) : State :=
  let same := match s.upd.journal with
    | some j => j.image.hash == i.hash
    | none => false
  let s := s.updUpd fun x => { x with journal := some ⟨i, imagePages i, mode, source⟩, waits := none }
  let s := s.wrAll [(Obj.UPD_STATE, 4), (Obj.UPD_JOURNAL_PAGES, imagePages i), (Obj.UPD_JOURNAL_HASH, i.hash), (key 0x740B 0, 0)]
  let s := (List.range 255).foldl (fun s j => s.wr (Obj.UPD_RESET_LIST j) 0) s
  if same then s else s.wr Obj.UPD_JOURNAL_DONE 0

/-- Where the holder's image comes from: 0 I3C, 1 a control flow. -/
def State.updSource (s : State) : Nat := if s.rd Obj.UPD_LOCK_HOLDER = 0 then 0 else 1

/-- An activation that waited for a planned handover begins (R408). -/
def State.releaseUpdate (s : State) : State :=
  match s.upd.waits with
  | some i => s.openJournal i 2 s.updSource
  | none => s

/-- An activation is too soon after the previous journal close (R461). -/
def State.updTooSoon (s : State) : Bool :=
  match s.upd.closedAt with
  | some t => Nat.blt s.wall (t + 60 * tps)
  | none => false

/-- A write of UPD_ACTIVATE. -/
def State.updActivate (s : State) (v : Nat) (r : Req) : State :=
  if v != 1 && v != 2 then s.answer r .range
  else match s.upd.image with
    | none => s.answer r .busy
    | some i =>
      let p := s.rd Obj.UPD_HANDOVER_FMT
      if s.rd Obj.UPD_STATE != 3 || s.updTooSoon then s.answer r .busy
      else if v = 1 && (Nat.blt p i.hoAcceptLo || Nat.blt i.hoAcceptHi p) then s.answer r .version
      else if (List.range 4).any s.calibrating || s.conv.skew.isSome || s.conv.align.isSome then s.answer r .busy
      else
        let s := (s.accept r).updUpd fun x => { x with req := some r }
        if s.rd Obj.DEV_STATE = 6 then s.openJournal i 0 s.updSource
        else if v = 2 && s.rd Obj.TWIN_STATE = 3 then
          ((s.updUpd fun x => { x with waits := some i }).planHandover (s.tick + 10 * tpms) 1).wr Obj.UPD_STATE 4
        else s.openJournal i v s.updSource

/-- UPD_ACTIVATE_HANDOVER: a write of 1. -/
def execUpdActivateHandover (sess tag : Nat) (s : State) : Host.Outcome State Fault Refusal :=
  done s (s.updWrite sess tag Obj.UPD_ACTIVATE (some 1) false fun r s => s.updActivate 1 r)

/-- UPD_ACTIVATE_RESTART: a write of 2. -/
def execUpdActivateRestart (sess tag : Nat) (s : State) : Host.Outcome State Fault Refusal :=
  done s (s.updWrite sess tag Obj.UPD_ACTIVATE (some 2) false fun r s => s.updActivate 2 r)

/-- JOURNAL_CLOSE (R409): the new image is the image in force for every later start; a host's is on probation. The handover of value
1 begins; every other activation restarts. -/
def execJournalClose (s : State) : Host.Outcome State Fault Refusal :=
  done s <|
    match s.upd.journal with
    | none => s
    | some j =>
      if s.rd Obj.UPD_STATE != 4 then s
      else
        let twin := j.source == 2
        let s := s.updUpd fun x => { x with
          journal := none, inForce := some j.image, confirmed := twin, failed := false, closedAt := some s.wall, fresh := true, starts := 0
          dogs := 0 }
        let s := (s.count Obj.UPD_ACTIVATIONS).wrAll [(Obj.UPD_JOURNAL_DONE, j.pages), (Obj.UPD_SOURCE, j.source),
          (Obj.UPD_PROBATION, b2n (!twin)), (Obj.UPD_PROBATION_STARTS, 0)]
        if j.mode = 1 then (s.updUpd fun x => { x with closed := true }).wr Obj.UPD_STATE 5
        else s.engineReset (if j.mode = 2 then 8 else 9)

/-- UPD_MRAM_FAIL (R409): a page fails read-back twice: the journal stays open, and loader service follows. -/
def execUpdMramFail (page : Nat) (s : State) : Host.Outcome State Fault Refusal :=
  done s <|
    if s.upd.journal.isNone || s.rd Obj.UPD_STATE != 4 then s
    else
      let s := (s.event 3 254 0x0900 page).wr Obj.UPD_JOURNAL_DONE page
      if s.rd Obj.DEV_STATE = 6 then
        (s.updFinish .internal).updUnlock.wrAll [(Obj.UPD_STATE, 7), (Obj.UPD_LAST_FAIL, 7), (Obj.UPD_LOCK_HOLDER, 255)]
      else
        let s := if s.snapAllowed then s.snapLog else s
        (((s.faultMessage 0).restart 2 7).updStart fun x => { x with pwrgd := true }).enterLoader 7

/-! ## Persistent formats (R415) -/

/-- The group of a persistent object, in the order of Scope and Conventions. -/
def psGroup (k : Nat) : Nat :=
  let i := k / 256
  if Nat.blt i 0x3000 then 17 else if Nat.blt i 0x3400 then 0 else if Nat.blt i 0x3800 then 1 else if Nat.blt i 0x4000 then 2
  else if Nat.blt i 0x4400 then 3 else if Nat.blt i 0x4C00 then 4 else if Nat.blt i 0x5000 then 5 else if Nat.blt i 0x5400 then 6
  else if Nat.blt i 0x5800 then 7 else if Nat.blt i 0x59C0 then 9 else if Nat.blt i 0x6800 then 8 else if Nat.blt i 0x6900 then 10
  else if Nat.blt i 0x6B00 then 11 else if Nat.blt i 0x7000 then 12 else if Nat.blt i 0x7100 then 13 else if Nat.blt i 0x7200 then 14
  else if Nat.blt i 0x7400 then 15 else if Nat.blt i 0x7500 then 16 else if Nat.blt i 0x7F00 then 17 else 18

/-- A group's stored values return to their defaults in MRAM; the objects reset are listed. -/
def State.resetGroup (s : State) (g : Nat) : State :=
  let ks := (s.mram.filter fun p => psGroup p.1 == g).map Prod.fst
  let s := { s with mram := s.mram.filter fun p => psGroup p.1 != g }
  ks.foldl (fun s k =>
    let n := s.rd (key 0x740B 0)
    if Nat.ble 255 n then s else (s.wr (Obj.UPD_RESET_LIST n) k).wr (key 0x740B 0) (n + 1)) s

/-- The first run of an image: groups whose stored format it does not accept are reset, and stored in its format. -/
def State.adoptFormats (s : State) : State :=
  match s.upd.inForce with
  | none => s
  | some i =>
    if !s.upd.fresh then s
    else
      let s := i.psFormats.foldl (fun s (f : Nat × Nat × Nat × Nat) =>
        let have_ := s.upd.formats.getD f.1 1
        if Nat.ble 19 f.1 || (Nat.ble f.2.1 have_ && Nat.ble have_ f.2.2.1) then s
        else (s.resetGroup f.1).updUpd fun x => { x with formats := x.formats.set f.1 f.2.2.2 }) s
      s.updUpd fun x => { x with fresh := false }

/-- The image in force runs: its version, security version and handover format read. -/
def State.runImage (s : State) : State :=
  match s.upd.inForce with
  | none => s
  | some i => s.wrAll [(Obj.DEV_FW_VERSION, i.fwVersion), (Obj.SEC_SVN_IMAGE, i.svn), (Obj.UPD_HANDOVER_FMT, i.hoProduce)]

/-! ## Handover, probation (R410 to R412) -/

/-- Probation fails (R412): the image is marked failed, and the engine resets into loader service. -/
def State.failProbation (s : State) (code : Nat) : State :=
  let s := (s.wr Obj.UPD_LAST_FAIL code).event 3 254 0x0902 code
  (s.updUpd fun x => { x with failed := true }).engineReset 7

/-- STATE_HANDOVER_COMPLETE (R410): the new image has read and checked the block, `ms` after the journal close; one that fails its
checks or takes more than 2 s fails probation. Sessions, units and streams go on. -/
def execStateHandoverComplete (ms : Nat) (checksOk : Bool) (s : State) : Host.Outcome State Fault Refusal :=
  done s <|
    if !s.handing then s
    else if !checksOk || Nat.blt 2000 ms then (s.wr Obj.UPD_HANDOVER_MS ms).failProbation 2
    else
      let s := (s.updUpd fun x => { x with closed := false }).runImage.adoptFormats
      let s := (s.wrAll [(Obj.UPD_HANDOVER_MS, ms), (Obj.UPD_STATE, s.updRest), (Obj.UPD_LOCK_HOLDER, 255)]).updDiscard
      s.updFinish .ok

/-- A write of UPD_CONFIRM: it ends probation and raises the floor (R372). -/
def State.updConfirm (s : State) (v : Nat) (r : Req) : State :=
  if v != 1 then s.answer r .range
  else if !s.rdB Obj.UPD_PROBATION then s.answer r .busy
  else
    let svn := match s.upd.inForce with
      | some i => i.svn
      | none => s.rd Obj.SEC_SVN_IMAGE
    let s := (s.updUpd fun x => { x with confirmed := true, starts := 0 }).wrAll
      [(Obj.UPD_PROBATION, 0), (Obj.SEC_SVN_FLOOR, max svn (s.rd Obj.SEC_SVN_FLOOR))]
    (if s.rd Obj.UPD_STATE = 6 then s.wr Obj.UPD_STATE 0 else s).answer r .ok

/-- UPD_CONFIRM: any administrator's, with or without the lock. -/
def execUpdConfirm (sess tag v : Nat) (s : State) : Host.Outcome State Fault Refusal :=
  done s (s.direct sess tag Obj.UPD_CONFIRM v fun r s => s.updConfirm v r)

/-- A failure of Table 18.4 has come about. -/
def State.probationFails (s : State) (code : Nat) : Bool :=
  let limit := s.rd Obj.UPD_PROBATION_LIMIT_S
  s.rdB Obj.UPD_PROBATION && s.rd Obj.DEV_STATE != 6 && match code with
    | 1 => s.start.loaded
    | 2 => s.handing
    | 3 => Nat.ble 3 s.upd.starts
    | 4 => limit != 0 && match s.upd.closedAt with
      | some t => Nat.ble (t + limit * tps) s.wall
      | none => false
    | _ => false

/-- PROBATION_FAIL. -/
def execProbationFail (code : Nat) (s : State) : Host.Outcome State Fault Refusal :=
  done s (when (s.probationFails code) (fun s => s.failProbation code) s)

/-! ## Loader service (R413) -/

/-- The loader has no image: it releases the lock and asks a host for one. -/
def State.imageNeeded (s : State) : State := (s.wr Obj.UPD_LOCK_HOLDER 255).event 2 254 0x0901

/-- LOADER_TWIN_FETCH (R413): while TWIN_ENABLE is true and the link comes up, the loader asks its twin for the image in force,
checks it by R407 and journals it; refused or alone it raises UPD_IMAGE_NEEDED. -/
def execLoaderTwinFetch (linkUp twinSends : Bool) (i : ImageInfo) (s : State) : Host.Outcome State Fault Refusal :=
  done s <|
    if s.rd Obj.DEV_STATE != 6 || s.rd Obj.UPD_STATE != 7 || s.rd Obj.UPD_LOCK_HOLDER != 255 then s
    else if !s.rdB Obj.TWIN_ENABLE || !linkUp || !twinSends then s.imageNeeded
    else
      let n := s.imageCheck i (i.hlen + i.bodyLen)
      if n != 0 then (s.wr Obj.UPD_VERIFY_REASON n).imageNeeded
      else (s.wr Obj.UPD_LOCK_HOLDER 254).openJournal i 0 2

/-- TWIN_IMAGE_REQUEST (R413): the image is sent when it is confirmed and no journal is open. -/
def execTwinImageRequest (s : State) : Host.Outcome State Fault Refusal :=
  done s <|
    if s.rd Obj.TWIN_LANES = 0 || s.rd Obj.DEV_STATE = 0 || s.rd Obj.DEV_STATE = 6 then s
    else s.updTwin fun x => { x with imageSent := some (s.upd.confirmed && s.upd.journal.isNone) }

end Sys2Proof.Machine
end

