-- ==== Sys2Proof/Machine/TwinStreams.lean ====
section
/-! DEFINITION. A standby's streams against its primary's transmission log (R387, R389, R390): where frames are cut, which entries
compare equal, and what a divergence does. -/

namespace Sys2Proof.Machine

/-! ## Streams against the log (R387, R389, R390) -/

/-- Position of the first word of a stream that no frame holds. -/
def Flow.base (x : Flow) : Nat := x.pos - x.tail.length

/-- The words below a position that no frame is to hold are dropped. -/
def Flow.skipTo (x : Flow) (p : Nat) : Flow := { x with tail := x.tail.drop (p - x.base) }.trim

/-- The stream renumbered so that its first word outside frames stands at a position. -/
def Flow.rebase (x : Flow) (p : Nat) : Flow :=
  let b := x.base
  { x with
    pos := p + x.tail.length, recs := x.recs.map fun (m : RecMark) => { m with start := m.start + p - b }
    stamps := x.stamps.map fun m => (m.1 + p - b, m.2)
    custody := { x.custody with startPos := x.custody.startPos + p - b } }

/-- Fill words before a position, where the primary's flush completed a beat at a record boundary less than a beat below it (R217, R248). -/
def Flow.fillTo (x : Flow) (e : Nat) : Flow :=
  let ends := x.pos :: x.recs.map RecMark.start
  if ends.contains e then x
  else
    let q := (ends.filter fun p => Nat.ble p e).foldl max 0
    if q ≤ x.base || e ≥ q + 8 then x
    else
      let n := e - q
      let k := q - x.base
      { x with
        tail := x.tail.take k ++ List.replicate n 0 ++ x.tail.drop k, pos := x.pos + n
        recs := x.recs.map fun (m : RecMark) => if Nat.ble q m.start then { m with start := m.start + n } else m
        stamps := x.stamps.map fun m => if Nat.ble q m.1 then (m.1 + n, m.2) else m
        custody := if Nat.ble q x.custody.startPos then { x.custody with startPos := x.custody.startPos + n } else x.custody }

/-- Step 4 of R390: the stream begins with the first record at or above a tick, at the primary's WORDPOS. -/
def Flow.startAt (x : Flow) (p tick : Nat) : Flow :=
  match x.recs.find? fun m => Nat.ble x.base m.start && Nat.ble tick m.tick with
  | some m => (({ x with recs := x.recs.filter fun k => Nat.ble m.start k.start }).skipTo m.start).rebase p
  | none => { x with tail := [], stamps := [], recs := [], frames := [], pos := p, from_ := max x.from_ tick }

/-- Words of a logged frame: LEN octets in the flow's width. -/
def State.logWords (s : State) (e : TxLog) : Nat := 8 * e.len / max 1 (beatBytes (s.rd (Obj.FLOW_WIDTH e.flow)))

/-- A logged frame whose words this engine does not hold. -/
def State.logStub (s : State) (e : TxLog) : State :=
  let g : TxFrame :=
    { seq := e.seq, epoch := epochNear (s.flow e.flow).epoch (s.rd (Obj.FLOW_SEQ_NEXT e.flow)) e.seq, pos := e.wordPos, words := [], firstRec := e.firstRec, tick := e.tick, born := s.wall, sent := e.tries + 1
      lastAt := s.wall, port := e.port }
  (s.updFlow e.flow fun x => { x with frames := x.frames ++ [g] }).setSeq e.flow (e.seq + 1)

/-- The flow has diverged: its words go on behind the primary's frame. -/
def State.diverge (s : State) (e : TxLog) : State :=
  let p := e.wordPos + s.logWords e
  let s := if s.twin.diverged.contains e.flow then s else s.updTwin fun x => { x with diverged := e.flow :: x.diverged }
  (s.logStub e).updFlow e.flow fun x => (x.skipTo (x.base + s.logWords e)).rebase p

/-- The frame is cut where the primary cut it, and compared: the record that starts in it and the tick of its first word's record. -/
def State.cutAsLogged (s : State) (e : TxLog) : State :=
  let n := s.logWords e
  let s := s.cutFrame e.flow n (Nat.blt n (s.frameWords e.flow)) false
  let same := (s.flow e.flow).frames.any fun g => g.seq == e.seq && g.firstRec == e.firstRec && g.tick == e.tick
  let s := s.updFlow e.flow fun x => { x with frames := x.frames.map fun g =>
    if g.seq = e.seq then { g with sent := e.tries + 1, lastAt := s.wall, port := e.port, words := if same then g.words else [] } else g }
  if same then
    if s.twin.synced.any fun p => p.1 == e.flow then s
    else s.updTwin fun x => { x with synced := (e.flow, e.seq) :: x.synced }
  else s.updTwin fun x => { x with diverged := e.flow :: x.diverged }

/-- The next entry of a flow against its stream; none while the stream has yet to reach the end of the frame. -/
def State.takeEntry (s : State) (e : TxLog) : Option State :=
  let t := e.wordPos + s.logWords e
  if s.twin.diverged.contains e.flow then some (s.diverge e)
  else if !s.twin.begun.contains e.flow then some (s.logStub e)
  else
    let x := (s.flow e.flow).fillTo t
    let s := s.updFlow e.flow fun _ => x
    if Nat.blt e.wordPos x.base then
      if t ≤ x.base then some (s.logStub e)
      else if Nat.blt x.pos t then none
      else some ((s.logStub e).updFlow e.flow fun y => y.skipTo t)
    else if Nat.blt x.base e.wordPos then some (s.diverge e)
    else if Nat.blt x.pos t then none
    else some ((s.setSeq e.flow e.seq).cutAsLogged e)

/-- Entries of a flow are taken in the order of their SEQ, as far as the stream has come. -/
def State.takeEntries : Nat → Nat → State → State
  | 0, _, s => s
  | n + 1, f, s =>
    let known := s.twin.synced.any fun p => p.1 == f
    match s.twin.log.find? fun e => e.flow == f && (!known || e.seq == s.rd (Obj.FLOW_SEQ_NEXT f)) with
    | none => s
    | some e => match s.takeEntry e with
      | none => s
      | some s => (s.updTwin fun x => { x with log := x.log.filter (fun y => y != e) }).takeEntries n f

/-- An incarnation that begins while the pair mirrors stands at the primary's positions from its first word, and none of an earlier
divergence is left (R389). -/
def State.beginStream (s : State) (f seq : Nat) : State :=
  (s.updTwin fun x => { x with
    begun := if x.begun.contains f then x.begun else f :: x.begun, diverged := x.diverged.filter fun g => g != f
    synced := x.synced.filter fun p => p.1 != f }).setSeq f seq

/-- At a takeover no more of the failed engine's frames come: entries whose words this engine's stream has yet to produce stand for frames
that it does not hold, and their flow goes on behind them. -/
def State.settleLog (s : State) (f : Nat) : State :=
  let s := s.takeEntries s.twin.log.length f
  let s := (s.twin.log.filter fun e => e.flow == f).foldl State.diverge s
  s.updTwin fun x => { x with log := x.log.filter fun e => e.flow != f }

/-- A log entry: a repeated transmission raises the frame's TRY; a first one waits for the stream. -/
def State.logItem (s : State) (e : TxLog) : State :=
  if s.twin.steps != 3 || !s.flowSends e.flow || seqBefore e.seq (s.rd (Obj.FLOW_CUM e.flow)) then s
  else if (s.flow e.flow).frames.any fun g => g.seq == e.seq then
    s.updFlow e.flow fun x => { x with frames := x.frames.map fun g =>
      if g.seq = e.seq then { g with sent := max g.sent (e.tries + 1), lastAt := s.wall, port := e.port } else g }
  else if s.twin.log.any fun y => y.flow == e.flow && y.seq == e.seq then s
  else
    let s := if e.wordPos = 0 && (s.flow e.flow).base = 0 && (s.flow e.flow).frames.isEmpty then s.beginStream e.flow e.seq else s
    let s := s.updTwin fun x => { x with log := x.log ++ [e] }
    s.takeEntries s.twin.log.length e.flow

end Sys2Proof.Machine
end

