-- ==== Sys2Proof/Machine/Twin.lean ====
section
/-! DEFINITION. The twin (R380 to R402): link bring-up and roles, heartbeats, failure and yield, takeover, planned handover, detach and
syncing. What the primary sends over the link is what its steps change; what comes over it are commands. -/

namespace Sys2Proof.Machine

/-! ## The link (R380 to R383) -/

/-- Link bring-up starts while TWIN_SENSE is high and pairing is permitted, from READY on (R380, R382). -/
def State.twinBringUp (s : State) : State :=
  let st := s.rd Obj.DEV_STATE
  if s.rdB Obj.TWIN_ENABLE && s.rdB Obj.TWIN_SENSE_STATE && Nat.ble 2 st && Nat.ble st 5 && s.rd Obj.TWIN_STATE = 0 then s.wr Obj.TWIN_STATE 1
  else s

/-- TWIN_FLOW_MATCH of a flow (R389, R390): on the standby, its first frame is at or above what is released and the flow has not
diverged; on the primary, every unreleased frame begins after the standby's snapshot. -/
def State.flowMatched (s : State) (f : Nat) : Bool :=
  s.flowSends f &&
    (if s.isStandby then
      s.twin.steps == 3 && !s.twin.diverged.contains f &&
        s.twin.synced.any fun e => e.1 == f && !seqBefore (s.rd (Obj.FLOW_CUM f)) e.2
    else s.rd Obj.TWIN_STATE == 3 && match s.twin.js with
      | some j => (s.flow f).frames.all fun fr => Nat.ble (j + 10 * tpms) fr.tick
      | none => false)

/-- TWIN_FLOW_MATCH follows. -/
def State.showMatch (s : State) : State := (List.range 249).foldl (fun s f => s.wr (Obj.TWIN_FLOW_MATCH f) (b2n (s.flowMatched f))) s

/-- The pair is over on this side: the floors are the engine's own, transmissions wait for nobody, and frames handed to the standby are
lost (R385, R387, R397). -/
def State.unpair (s : State) : State :=
  let s := s.twin.subst.foldl (fun s e => s.loseFrame e.1 e.2) s
  let s := s.updTwin fun x => { x with
    peer := none, peerFloors := [], peerReady := false, peerSince := 0, js := none, logWait := [], subst := [], beats := [], trips := [] }
  (s.setFloors.wrAll [(Obj.TWIN_LINK_VER, 0), (Obj.TWIN_READY_SINCE, 0), (Obj.TWIN_HB_AVG, 0), (Obj.TWIN_MIRROR_LAT_AVG, 0)]).showMatch

/-- The first check of R382 that fails, as TWIN_REFUSE_REASON; 0 for none. This firmware offers Tenon version 1. -/
def State.refuseReason (s : State) (p : PeerHello) : Nat :=
  if !s.rdB Obj.TWIN_ENABLE then 1
  else if !(p.certOk && p.signatureOk) then 2
  else if p.devId != s.rd Obj.TWIN_PEER_ID then 3
  else if !(s.rd Obj.SEC_OWNER_STATE == 1 && p.ownerState == 1 && p.anchorHash == s.anchorHash) then 4
  else if !(Nat.ble p.tenonMin 1 && Nat.ble 1 p.tenonMax) then 5 else 0

/-- The engine has a committed output (R383; log entry 7). -/
def State.hasOutputs (s : State) : Bool :=
  s.rdc Obj.SCAN_ENABLE == 1 || s.committedUnits.any fun u => u.kind != .integrator

/-- The engine becomes primary (R383); an isolated one becomes standby (R393). -/
def State.becomesPrimary (s : State) (p : PeerHello) : Bool :=
  if s.rd Obj.TWIN_STATE = 6 then false else if p.isolated then true
  else if s.hasOutputs != p.hasOutputs then s.hasOutputs
  else if (s.rd Obj.TWIN_ROLE_PREF == 1) != (p.rolePref == 1) then s.rd Obj.TWIN_ROLE_PREF == 1
  else Nat.blt (s.rd Obj.DEV_ID) p.devId

/-- Step 1 of R390: the standby aligns its tick index to the primary's CONV_SYNC_NEXT, once its units are disabled. -/
def State.startSync (s : State) (p : PeerHello) : State :=
  match p.syncNext with
  | none => s.wr Obj.TWIN_NOT_READY 2
  | some n =>
    let s := match s.conv.align with
      | some (r, _, _) => s.finish r .busy
      | none => s
    let mode := if s.rd Obj.CONV_SYNC_MODE = 2 then 0 else s.rd Obj.CONV_SYNC_MODE
    (s.updConv fun c => { c with align := some (⟨254, 0, 0, 0⟩, mode, s.wall + 10 * tps) }).wrAll
      [(Obj.CONV_SYNC_LOAD, n), (Obj.CONV_SYNC_MODE, 2), (Obj.CONV_SYNC_STATUS, 1)]

/-- The sessions of a primary that becomes standby are its twin's from now on. -/
def State.lendSessions (s : State) : State :=
  { s with sess := s.sess.mapIdx fun (i : Nat) (x : Sess) => if i != 0 && x.isOpen then { x with mirror := true, txq := [], tags := [] } else x }

/-- An accepted HELLO: the link is in force, and the roles settle. -/
def State.settleRoles (s : State) (p : PeerHello) : State :=
  let wasIsolated := s.rd Obj.TWIN_STATE = 6
  let primary := s.becomesPrimary p
  let s := s.updTwin fun x => { x with peer := some p, heard := s.wall, peerSince := 0, peerReady := false, peerCseq := 0, js := none }
  let s := s.wrAll [(Obj.TWIN_REFUSE_REASON, 0), (Obj.TWIN_LINK_VER, 1), (Obj.TWIN_PEER_FW, p.fw)]
  if primary then s.wr Obj.TWIN_STATE 2
  else ((if wasIsolated then s.lendSessions else s).becomeStandby).startSync p

/-- TWIN_SENSE_RISE (R380). -/
def execTwinSenseRise (s : State) : Host.Outcome State Fault Refusal := done s (s.wr Obj.TWIN_SENSE_STATE 1).twinBringUp

/-- TENON_LANE_TRAINED (R382): a lane that self-test has not taken out of service joins the link. -/
def execTenonLaneTrained (lane : Nat) (s : State) : Host.Outcome State Fault Refusal :=
  done s <|
    if Nat.ble 4 lane || s.rd Obj.DEV_STATE = 0 || !s.rdB Obj.TWIN_ENABLE || !s.rdB Obj.TWIN_SENSE_STATE ||
      bitOf (s.rd Obj.DIAG_FENCE_OTHER) (12 + lane) then s
    else s.wr Obj.TWIN_LANES (setBit (s.rd Obj.TWIN_LANES) lane true)

/-- TENON_LANE_DROP (R381). -/
def execTenonLaneDrop (lane : Nat) (s : State) : Host.Outcome State Fault Refusal :=
  done s (if Nat.ble 4 lane then s else s.wr Obj.TWIN_LANES (setBit (s.rd Obj.TWIN_LANES) lane false))

/-- TENON_HELLO (R382, R383). An isolated engine whose twin is refused stays isolated: it sends nothing (R393). -/
def execTenonHello (p : PeerHello) (s : State) : Host.Outcome State Fault Refusal :=
  done s <|
    let st := s.rd Obj.DEV_STATE
    if s.rd Obj.TWIN_LANES = 0 || s.twin.peer.isSome || s.twin.guard.isSome || s.twin.due.isSome || Nat.blt st 2 || Nat.blt 5 st then s
    else
      let n := s.refuseReason p
      if n = 0 then s.settleRoles p
      else s.wrAll [(Obj.TWIN_STATE, if s.rd Obj.TWIN_STATE = 6 then 6 else 7), (Obj.TWIN_REFUSE_REASON, n)]

/-! ## The end of a pair on the standby (R399) -/

/-- A mirrored flow of an engine that leaves the pair ends without another frame. -/
def State.dropFlow (s : State) (f : Nat) : State :=
  let s := (s.moversLoseFlow f).freeSmall (Obj.FLOW_RETAIN_LOG2 f) 0
  let s := s.updFlow f fun x => { custody := { seg := x.custody.seg, prevHash := x.custody.prevHash }, keyOf := x.keyOf }
  (((s.wr (Obj.FLOW_ENABLE f) 0).wrc (Obj.FLOW_ENABLE f) 0).showFlow f).freeFlow f

/-- A mirrored session ends, and its secret is erased. -/
def State.eraseSession (s : State) (i : Nat) : State :=
  if !(s.ses i).isOpen then s
  else
    let s := (s.discard i (2 ^ 11 - 1)).updSes i fun x =>
      { x with
        isOpen := false, ending := true, tags := [], deferred := [], inbox := [], rx := [], txq := [], closing := none, secret := 0
        mirror := false }
    let s := ((s.dropCerts i).updRelease i).endClaims i
    let s := { s with owners := s.owners.map fun (o : Owner) => if o.sess == i then { o with sess := i + 8 } else o }
    ((s.updFlow (248 + i) fun _ => {}).wr (Obj.DEV_SESS_STATE i) 2).freeNumber i

/-- The standby leaves the pair: its mirrored units end by an engine Joint and the mirrored sessions with them. -/
def State.leavePair (s : State) : State :=
  let flows := (List.range 249).filter fun f => s.rd (Obj.FLOW_STATE f) != 0
  let s := flows.foldl State.dropFlow s
  let s := s.disableAll 2 (s.committedUnits.filter mirroredUnit)
  let s := [1, 2, 3, 4, 5, 6, 7].foldl State.eraseSession s
  s.updTwin fun x => { x with
    steps := 0, guard := none, due := none, log := [], diverged := [], entered := [], begun := [], synced := [], unoffered := [], detachAt := none }

/-- A handover that was planned and cannot come about: what waited for it goes on (R398). -/
def State.abandonHandover (s : State) : State :=
  if s.twin.handover.isNone then s
  else
    let s := (s.updTwin fun x => { x with handover := none }).wr Obj.TWIN_CMD_STATUS 3
    ((s.event 0 254 (s.freeN % 65536)).used 1).releaseCals.releaseUpdate

/-- The pair detaches (R399). -/
def State.detach (s : State) : State :=
  let standby := s.isStandby
  let s := (s.unpair.wrAll [(Obj.TWIN_STATE, 0), (Obj.TWIN_NOT_READY, 0)]).updTwin fun x => { x with guard := none, due := none, detachAt := none }
  if standby then s.leavePair else s.abandonHandover

/-! ## Failure (R392, R393) -/

/-- TWIN_LINK_LOST is raised. -/
def State.linkLost (s : State) : State := s.event 2 254 0x0800 (s.rd Obj.TWIN_STATE)

/-- The twin is declared failed (Table 17.3): a primary goes on alone; a standby that has applied its snapshot takes over, after the
guard on cause 1; another leaves the pair. -/
def State.declare (s : State) (cause reason : Nat) : State :=
  let able := s.twin.steps == 3 && match s.twin.js with
    | some j => Nat.ble j s.tick
    | none => false
  let s := s.unpair.wrAll [(Obj.TWIN_LAST_CAUSE, cause), (Obj.TWIN_LAST_TAKEOVER, s.tick)]
  if !s.isStandby then s.wr Obj.TWIN_STATE 2
  else if able then
    if cause = 1 then s.updTwin fun x => { x with guard := some (s.wall + 10 * tpus) } else s.updTwin fun x => { x with due := some reason }
  else
    let s := s.linkLost
    (s.wrAll [(Obj.TWIN_STATE, 0), (Obj.TWIN_NOT_READY, 0)]).leavePair.twinBringUp

/-- A primary yields (R393). -/
def State.yield (s : State) : State :=
  ((s.unpair.wr Obj.TWIN_STATE 6).count Obj.TWIN_YIELDS |>.event 2 254 0x0802).linkLost

/-- The engine is a primary with a twin. -/
def State.isPrimary (s : State) : Bool := s.paired && (s.rd Obj.TWIN_STATE == 2 || s.rd Obj.TWIN_STATE == 3)

/-- HEARTBEAT_LOSS (R392, R393): no heartbeat on any lane for 8 µs. A primary whose TWIN_SENSE is high yields. -/
def execHeartbeatLoss (s : State) : Host.Outcome State Fault Refusal :=
  done s <|
    if !s.paired || Nat.blt s.wall (s.twin.heard + 8 * tpus) then s
    else if s.isPrimary && s.rdB Obj.TWIN_SENSE_STATE then (s.wrAll [(Obj.TWIN_LAST_CAUSE, 1), (Obj.TWIN_LAST_TAKEOVER, s.tick)]).yield
    else s.declare 1 0

/-- TWIN_YIELD (R393): the standby's heartbeats report no primary heartbeat for 4 µs, or none has come for 8 µs. -/
def execTwinYield (s : State) : Host.Outcome State Fault Refusal :=
  done s <|
    if s.isPrimary && (Nat.ble 4000 s.twin.peerSince || (s.rdB Obj.TWIN_SENSE_STATE && Nat.ble (s.twin.heard + 8 * tpus) s.wall)) then s.yield
    else s

/-- TWIN_FAULT_MESSAGE (R392): `cause` 0 names a failure, 1 a planned handover, 3 the return of service to this engine (R400). -/
def execTwinFaultMessage (cause : Nat) (s : State) : Host.Outcome State Fault Refusal :=
  done s <|
    if !s.paired then s
    else if s.isStandby && (cause = 1 || cause = 3) then s.declare 5 cause
    else s.declare 2 1

/-- TWIN_SENSE_FALL (R380, R392, R393): a paired engine declares its twin failed, and an isolated one becomes primary again. -/
def execTwinSenseFall (s : State) : Host.Outcome State Fault Refusal :=
  done s <|
    let s := s.wrAll [(Obj.TWIN_SENSE_STATE, 0), (Obj.TWIN_LANES, 0)]
    if s.paired then s.declare 3 0
    else if s.rd Obj.TWIN_STATE = 6 then s.updTwin fun x => { x with due := some 0 }
    else if s.rd Obj.TWIN_STATE = 1 || s.rd Obj.TWIN_STATE = 7 then s.wrAll [(Obj.TWIN_STATE, 0), (Obj.TWIN_REFUSE_REASON, 0)] else s

/-- TAKEOVER_GUARD_END (R393). -/
def execTakeoverGuardEnd (s : State) : Host.Outcome State Fault Refusal :=
  done s <|
    match s.twin.guard with
    | some t => if Nat.blt s.wall t then s else s.updTwin fun x => { x with guard := none, due := some 0 }
    | none => s

/-! ## Heartbeats and log entries (R387, R391) -/

/-- The number of the latest commit that has applied. -/
def State.appliedSeq (s : State) : Nat :=
  (s.swaps.filter fun w => w.cause.isNone).foldl (fun n w => min n (w.seq - 1)) (s.commits - 1)

/-- HEARTBEAT_SEND (R391): 1 µs apart on every lane in service, while the data path works. -/
def execHeartbeatSend (s : State) : Host.Outcome State Fault Refusal :=
  done s <|
    if !s.paired || s.rd Obj.TWIN_LANES = 0 || (s.twin.beat.isSome && Nat.blt s.wall (s.twin.sentAt + tpus)) then s
    else
      let b : Beat := { role := b2n s.isStandby, ready := s.rd Obj.TWIN_STATE == 5, cseq := s.appliedSeq, sense := s.rdB Obj.TWIN_SENSE_STATE
                        sinceNs := ticksToNs (s.wall - s.twin.heard) }
      s.updTwin fun x => { x with beat := some b, sentAt := s.wall }

/-- The mean period of the heartbeats received in the last second, ns. -/
def beatAverage (l : List Nat) : Nat :=
  match l.head?, l.getLast? with
  | some a, some b => ticksToNs ((a - b) / max 1 (l.length - 1))
  | _, _ => 0

/-- The primary learns whether its standby is ready (R390). On readiness service may return to a preferred primary (R400). -/
def State.peerIs (s : State) (ready : Bool) : State :=
  if ready && s.rd Obj.TWIN_STATE == 2 && s.twin.js.isSome then
    let s := s.wrAll [(Obj.TWIN_STATE, 3), (Obj.TWIN_READY_SINCE, s.tick)]
    let back := (s.twin.peer.map PeerHello.rolePref) == some 1 && s.rdB Obj.TWIN_REVERT
    (if back then s.planHandover (s.tick + tps) 3 else s).showMatch
  else if !ready && s.rd Obj.TWIN_STATE == 3 then (s.wrAll [(Obj.TWIN_STATE, 2), (Obj.TWIN_READY_SINCE, 0)]).showMatch
  else s

/-- HEARTBEAT_RECEIVE (R391, R385). -/
def execHeartbeatReceive (ready : Bool) (cseq : Nat) (sense : Bool) (sinceNs peerState : Nat) (floors : List Nat) (s : State) :
    Host.Outcome State Fault Refusal :=
  done s <|
    let _ := sense
    if !s.paired || s.rd Obj.TWIN_LANES = 0 then s
    else
      let beats := s.wall :: s.twin.beats.filter fun t => Nat.blt s.wall (t + tps)
      let s := s.updTwin fun x => { x with
        heard := s.wall, peerSince := sinceNs, peerCseq := cseq, peerReady := ready, beats := beats
        peerFloors := if floors.length = 5 then floors else x.peerFloors }
      let s := (s.wrAll [(Obj.TWIN_PEER_STATE, peerState % 256), (Obj.TWIN_HB_AVG, min (2 ^ 32 - 1) (beatAverage beats))]).setFloors
      if s.isPrimary then s.peerIs ready else s

/-- LOG_ENTRY_ACK (R387): the frame whose entry the standby has acknowledged may go. -/
def execLogEntryAck (f seq tries : Nat) (s : State) : Host.Outcome State Fault Refusal :=
  done s <|
    match s.twin.logWait.find? fun w => w.1 == f && w.2.1 == seq && w.2.2.1 == tries with
    | none => s
    | some w =>
      let trips := (s.wall, ticksToNs (s.wall - w.2.2.2)) :: s.twin.trips.filter fun t => Nat.blt s.wall (t.1 + tps)
      let s := s.updTwin fun x => { x with logWait := x.logWait.filter (fun v => v != w), trips := trips }
      let s := s.updFlow f fun x => { x with frames := x.frames.map fun g => if g.seq = seq then { g with logged := true } else g }
      s.wr Obj.TWIN_MIRROR_LAT_AVG (min (2 ^ 32 - 1) (trips.foldl (fun n t => n + t.2) 0 / max 1 trips.length))

/-- LOG_ACK_TIMEOUT (R387, R392): an entry has waited for 8 µs. -/
def execLogAckTimeout (s : State) : Host.Outcome State Fault Refusal :=
  done s <|
    if s.isPrimary && s.twin.logWait.any fun w => Nat.ble (w.2.2.2 + 8 * tpus) s.wall then s.declare 4 0 else s

/-! ## Takeover (R394, R396) -/

/-- The first record boundary of a stream at or after a position. -/
def Flow.boundaryAfter (x : Flow) (p : Nat) : Nat := ((x.recs.find? fun m => Nat.ble p m.start).map RecMark.start).getD x.pos

/-- What a custody segment covers of its last k records and n words is left for a later segment. -/
def Custody.cut (c : Custody) (k n : Nat) (marks : List RecMark) : Custody :=
  if c.records ≤ k then { c with records := 0, words := [], firstSeq := 0 }
  else { c with
    records := c.records - k, words := c.words.take (c.words.length - n)
    lastTick := if k = 0 then c.lastTick else marks.foldl (fun (t : Nat) (m : RecMark) => max t m.tick) c.firstTick }

/-- The stream up to a record boundary that no frame holds yet. -/
def Flow.upTo (x : Flow) (q : Nat) : Flow :=
  let later := x.recs.filter fun m => Nat.ble q m.start
  let n := x.pos - q
  { x with
    tail := x.tail.take (x.tail.length - n), recs := x.recs.filter fun m => Nat.blt m.start q, pos := q
    custody := x.custody.cut later.length n (x.recs.filter fun m => Nat.ble x.custody.startPos m.start && Nat.blt m.start q) }

/-- Word 1 of a record with SUBSTITUTED set. -/
def substituted (w : Nat) : Nat := if w / 16 % 2 = 0 then w + 16 else w

/-- The rest of a stream that `upTo q` left out, put behind what has entered since: its records carry SUBSTITUTED. -/
def Flow.rejoin (y x : Flow) (now q : Nat) : Flow :=
  let later := x.recs.filter fun m => Nat.ble q m.start
  let n := x.pos - q
  let ws := (x.tail.drop (x.tail.length - n)).mapIdx fun (i : Nat) (w : Nat) =>
    if later.any fun m => m.start + 1 == q + i then substituted w else w
  let c := y.custody
  let fresh := c.records = 0
  { y with
    tail := y.tail ++ ws, recs := y.recs ++ later.map (fun m => { m with start := m.start + y.pos - q }), pos := y.pos + n
    custody := if !c.on || later.isEmpty then c else { c with
      records := c.records + later.length, words := c.words ++ ws
      firstTick := later.foldl (fun (t : Nat) (m : RecMark) => min t m.tick) (if fresh then (later.headD default).tick else c.firstTick)
      lastTick := later.foldl (fun (t : Nat) (m : RecMark) => max t m.tick) (if fresh then 0 else c.lastTick)
      startWall := if fresh then now else c.startWall, startPos := if fresh then y.pos else c.startPos } }

/-- Frames cut and never sent return to the stream, so that frame v + 1 can hold the source-change record. -/
def State.uncut (s : State) (f : Nat) : State :=
  let x := s.flow f
  let fresh := x.frames.filter fun g => g.sent == 0
  match fresh with
  | [] => s
  | g :: _ => (s.updFlow f fun x => { x with
      frames := x.frames.filter fun g => g.sent != 0, tail := (fresh.map TxFrame.words).flatten ++ x.tail }).setSeq f g.seq

/-- A frame that a new source cannot send again: its flow has diverged, the engine does not hold its words, or its 256 transmissions are
used up. -/
def State.notHeld (s : State) (f : Nat) (g : TxFrame) : Bool := s.twin.diverged.contains f || g.words.isEmpty || Nat.ble 256 g.sent

/-- One paired flow at a takeover. -/
def State.takeFlow (s : State) (reason prev f : Nat) : State :=
  let s := s.settleLog f
  let ended := s.rd (Obj.FLOW_STATE f) == 3 && ((s.flow f).tail.isEmpty || (s.flow f).frames.any fun g => g.final && g.sent != 0)
  let s := if ended then s else s.uncut f
  let v1 := s.rd (Obj.FLOW_SEQ_NEXT f)
  let first := (((s.flow f).frames.find? fun g => !s.notHeld f g).map TxFrame.seq).getD v1
  let s := ((s.flow f).frames.filter fun g => s.notHeld f g).foldl (fun s g => s.loseFrame f g) s
  let s := s.updFlow f fun x => { x with
    subst := true, liveAt := s.wall
    frames := x.frames.map fun g => if g.sent = 0 then g else { g with again := true, subst := true, logged := false } }
  let s := s.reRead f
  if ended then s
  else
    let x := s.flow f
    let q := x.boundaryAfter (x.pos - x.tail.length)
    let rec_ := sourceChangeRecord reason 0 prev (s.rd Obj.DEV_ID) first s.tick
    if x.left != 0 && q = x.pos then s.updFlow f fun x => { x with wait := x.wait ++ [rec_] }
    else
      let losses := lossRecords x.lost
      let s := s.updFlow f fun x =>
        let y := ({ x with lost := [] }.upTo q).put s.wall rec_
        { losses.foldl (fun y r => y.put s.wall r) y with first := some v1 }
      let s := s.closeSegment f
      let s := s.updFlow f fun y => y.rejoin x s.wall q
      if (s.flow f).left = 0 then s.flushAll f (s.rd (Obj.FLOW_STATE f) == 3) else s

/-- The rest of the service (R394): the remote sessions go on here; a commit whose snapshot is held is answered; requests outstanding
on the failed engine are dropped. The sequence numbers of the control flows are not mirrored, and free values. -/
def State.takeSessions (s : State) : State :=
  [1, 2, 3, 4, 5, 6, 7].foldl (fun s i =>
    if !(s.ses i).isOpen || !(s.ses i).mirror then s
    else
      let s := s.updSes i fun x => { x with mirror := false, tags := [], inbox := [], rx := [], heard := s.wall }
      let s := (s.updFlow (248 + i) fun _ => { rxNext := Config.freeNat (s.free + 1) % 2 ^ 48 }).wr (Obj.FLOW_SEQ_NEXT (248 + i)) (s.freeN % 2 ^ 48)
      let s := s.used 2
      (s.swaps.filter fun w => w.sess == i && w.cause.isNone && Nat.blt w.req.tag 256).foldl (fun s w =>
        s.respond i w.req.tag Obj.DEV_COMMIT .ok) s) s

/-- The engine carries every flow and session on. -/
def State.takeOver (s : State) (reason : Nat) : State :=
  let prev := if s.rd Obj.TWIN_STATE = 6 then s.rd Obj.DEV_ID else s.rd Obj.TWIN_PEER_ID
  let s := s.wrAll [(Obj.TWIN_STATE, 2), (Obj.TWIN_NOT_READY, 0)]
  let s := ((List.range 249).filter s.flowSends).foldl (fun s f => s.takeFlow reason prev f) s
  let s := (List.range 20).foldl (fun s h => (s.updRing h fun x => { x with subst := true }).side h (sourceChangeRecord reason 0 prev (s.rd Obj.DEV_ID) 0 s.tick)) s
  let s := s.takeSessions
  let s := s.updTwin fun x => { x with
    due := none, guard := none, steps := 0, log := [], diverged := [], entered := [], begun := [], synced := [], unoffered := [] }
  ((s.count Obj.TWIN_TAKEOVERS).event 2 254 0x0801 (s.rd Obj.TWIN_LAST_CAUSE)).showMatch

/-- TAKEOVER (R394). -/
def execTakeover (s : State) : Host.Outcome State Fault Refusal :=
  done s <| match s.twin.due with
    | some reason => s.takeOver reason
    | none => s

/-- SUBST_RETX (R397): the standby sends a frame that the primary no longer holds, with the next TRY; the primary has handed it over. -/
def execSubstRetx (f seq : Nat) (s : State) : Host.Outcome State Fault Refusal :=
  done s <|
    if s.isStandby then
      match (s.flow f).frames.find? fun g => g.seq == seq && !s.notHeld f g with
      | none => s
      | some g =>
        match s.frameMember f g with
        | none => s
        | some p =>
          if s.rd Obj.TWIN_STATE != 5 || Nat.ble 249 f || !s.flowMatched f || !s.portUp p || s.peer p = 0 then s
          else (s.sendFrame p f { g with subst := true }).count Obj.TWIN_SUBST_RETX
    else s.updTwin fun x => { x with subst := x.subst.filter fun e => !(e.1 == f && e.2.seq == seq) }

/-! ## Planned handover and detach (R398 to R400) -/

/-- The standby is ready and the link up. -/
def State.twinReady (s : State) : Bool := s.rd Obj.TWIN_STATE == 3 && s.rd Obj.TWIN_LANES != 0 && s.paired

/-- A write of TWIN_CMD. -/
def State.twinCmd (s : State) (v : Nat) (r : Req) : State :=
  let at_ := s.rd Obj.TWIN_CMD_AT
  match v with
  | 2 =>
    if s.isStandby then s.answer r .denied
    else if !s.isPrimary then s.answer r .busy
    else (s.updTwin fun x => { x with detachAt := some at_ }).answer r .ok
  | 3 =>
    if Nat.blt at_ (s.tick + 10 * tpms) then s.answer r .range
    else if s.rd Obj.TWIN_STATE != 3 then s.answer r .busy
    else (s.planHandover at_ 1).answer r .ok
  | _ => s.answer r .range

/-- TWIN_HANDOVER_CMD: a write of 3. -/
def execTwinHandoverCmd (sess tag : Nat) (s : State) : Host.Outcome State Fault Refusal :=
  done s (s.direct sess tag Obj.TWIN_CMD 3 fun r s => s.twinCmd 3 r)

/-- TWIN_DETACH_CMD: a write of 2. -/
def execTwinDetachCmd (sess tag : Nat) (s : State) : Host.Outcome State Fault Refusal :=
  done s (s.direct sess tag Obj.TWIN_CMD 2 fun r s => s.twinCmd 2 r)

/-- The primary hands over: it sends its fault message, stops, and syncs as standby (R398). -/
def State.handOver (s : State) (h : Handover) : State :=
  let s := ((s.faultMessage h.reason).lendSessions).becomeStandby.wr Obj.TWIN_CMD_STATUS 2
  let s := match s.twin.peer with
    | some p => s.startSync p
    | none => s
  s.releaseCals.releaseUpdate

/-- TWIN_HANDOVER_AT (R398). -/
def execTwinHandoverAt (s : State) : Host.Outcome State Fault Refusal :=
  done s <|
    match s.twin.handover with
    | none => s
    | some h => if Nat.blt s.tick h.at_ then s else if s.twinReady then s.handOver h else s.abandonHandover

/-- TWIN_DETACH_AT (R399): the tick has come; on an engine whose twin detaches the pair, the link says so. -/
def execTwinDetachAt (s : State) : Host.Outcome State Fault Refusal :=
  done s <|
    match s.twin.detachAt with
    | some t => if Nat.blt s.tick t then s else s.detach
    | none => if s.paired then s.detach else s

/-- TWIN_ENABLE_FALSE (R399): it detaches at once. -/
def State.twinOff (s : State) (r : Req) : State :=
  let s := match keyRow Obj.TWIN_ENABLE with
    | some row => s.liveWrite r.sess Obj.TWIN_ENABLE row 0
    | none => s
  let s := if s.rd Obj.TWIN_STATE = 0 then s else s.detach
  s.answer r .ok

/-- TWIN_ENABLE_FALSE. -/
def execTwinEnableFalse (sess tag : Nat) (s : State) : Host.Outcome State Fault Refusal :=
  done s (s.direct sess tag Obj.TWIN_ENABLE 0 fun r s => s.twinOff r)

/-! ## Syncing (R390) -/

/-- The swap that applies the primary's configuration at J_s: the model's cause 10, no engine Joint. -/
def State.snapshotSwap (s : State) (js : Nat) (vals : List (Nat × Nat)) : Swap :=
  { id := s.swapId, req := ⟨254, 0, 0, 0⟩, sess := 254, seq := 0, groups := 0, validating := false, served := s.tick, reqTick := js
    vals := vals, cause := some 10 }

/-- The value is committed with its group: an SH object. -/
def isShadow (k : Nat) : Bool :=
  match keyRow k with
  | some r => r.acc == .sh
  | none => false

/-- Step 3: the primary's mirrored configuration is to apply at J_s, and its claims are held. -/
def State.takeSnapshot (s : State) (js : Nat) (vals owners : List (Nat × Nat)) : State :=
  let s := (vals.filter fun p => !isShadow p.1).foldl (fun s p => s.wr p.1 p.2) s
  let w := s.snapshotSwap js (vals.filter fun p => isShadow p.1)
  let w := { w with units := s.changesOf w js }
  let s := (s.putCommitted w).putSmalls.showCommitted (w.units.map fun c => (c.group, c.unit))
  let s := { s with swaps := s.swaps ++ [w], swapId := s.swapId + 1 }
  let s := owners.foldl (fun s o =>
    let s := s.own (ownId o.1) o.2 true
    match ownId o.1 with
    | ⟨.flow, f⟩ => if s.rd (Obj.FLOW_STATE f) = 0 then s.wrAll [(Obj.FLOW_STATE f, 1), (Obj.FLOW_OWNER f, o.2)] else s
    | _ => s) s
  let s := s.updTwin fun x => { x with steps := 3, js := some js, diverged := [], begun := [], synced := [] }
  (s.showFlowFree).wr Obj.TWIN_NOT_READY 1

/-- STANDBY_SNAPSHOT_APPLY (R390): on the standby step 1 must be complete and the clocks equal; a snapshot whose tick has passed is late.
On the primary, that it has sent one. -/
def execStandbySnapshotApply (js : Nat) (vals owners : List (Nat × Nat)) (clockEqual : Bool) (s : State) : Host.Outcome State Fault Refusal :=
  done s <|
    if s.isPrimary then
      if s.rd Obj.TWIN_STATE == 2 && Nat.ble (s.tick + 10 * tpms) js then s.updTwin fun x => { x with js := some js } else s
    else if !s.isStandby || !s.paired || s.twin.steps = 3 then s
    else if s.rd Obj.CONV_SYNC_MODE != 1 then s.wr Obj.TWIN_NOT_READY 2
    else if !clockEqual then s.wr Obj.TWIN_NOT_READY 3
    else if Nat.blt js s.tick then s.wr Obj.TWIN_NOT_READY 5
    else s.takeSnapshot js vals owners

/-- The standby has completed its steps and the link is up (R390); items it does not offer name no enabled unit (R401). -/
def State.syncDone (s : State) : Bool :=
  s.isStandby && s.paired && s.rd Obj.TWIN_LANES != 0 && s.twin.steps == 3 &&
    (match s.twin.js with
      | some j => Nat.ble j s.tick
      | none => false) &&
    !(s.swaps.any fun w => w.cause == some 10 && !w.units.isEmpty) && !((List.range 4).any fun ch => s.calibrating ch) &&
    !(s.twin.unoffered.any fun u => unitOn s.rdc u)

/-- STANDBY_READY (R390, R400). -/
def execStandbyReady (s : State) : Host.Outcome State Fault Refusal :=
  done s <|
    if s.isPrimary then s.peerIs true
    else if !s.syncDone || s.rd Obj.TWIN_STATE = 5 then s
    else
      let s := s.wrAll [(Obj.TWIN_STATE, 5), (Obj.TWIN_NOT_READY, 0), (Obj.TWIN_READY_SINCE, s.tick)]
      (s.updTwin fun x => { x with unoffered := [] }).showMatch

end Sys2Proof.Machine
end

