-- ==== Sys2Proof/Machine/Power.lean ====
section
/-! DEFINITION. Power (R418 to R436): core voltage and temperature, the handshake and the steps of a transition, competing requests,
suspension at X and resumption at Y, wake events and WATCH programs. -/

namespace Sys2Proof.Machine

/-- Change the power controller's record. -/
def State.updPwr (s : State) (f : Pwr → Pwr) : State := { s with pwr := f s.pwr }

/-! ## Core voltage and temperature (R420, R421) -/

/-- A slice's new core voltage: `slack` is its slack × 65,536. -/
def coreMv (mv slack : Nat) (above8 blocked : Bool) : Nat :=
  if Nat.blt (100 * slack) (4 * 65536) then (if blocked then mv else min 800 (mv + 5))
  else if above8 then max 550 (mv - 5) else mv

/-- What the shedding rules see of a slice's slack and of the input current (R26, R27). -/
def State.noteSlack (s : State) (slice slack mv iinMa : Nat) : State :=
  let x := s.shed
  let low := mv == 800 && Nat.blt (100 * slack) (2 * 65536)
  let below := x.below10.set slice (Nat.blt (100 * slack) (10 * 65536))
  { s with shed := { x with
      lowSince := x.lowSince.set slice (if low then some ((at' x.lowSince slice).getD s.wall) else none)
      below10 := below, highSince := if below.any id then none else some (x.highSince.getD s.wall), current := Nat.ble 100000 iinMa } }

/-- CORE_VOLTAGE_ADJUST (R420): `above8For20us` says that the slack was above 8 % throughout the last 20 µs, `iinMa` is the input
current averaged over 10 µs. A slice in retention or off is not adjusted. -/
def execCoreVoltageAdjust (slice slack : Nat) (above8For20us : Bool) (iinMa : Nat) (s : State) : Host.Outcome State Fault Refusal :=
  done s <|
    let mv := s.rd (Obj.PWR_SLICE_MV slice)
    if Nat.ble 8 slice || Nat.blt mv 550 then s
    else
      let new := coreMv mv slack above8For20us (Nat.ble 98000 iinMa || s.rdB Obj.PWR_THERM_EMERG)
      (((s.wr (Obj.PWR_SLICE_MV slice) new).wr Obj.PWR_IIN_MA iinMa).noteSlack slice slack new iinMa).noteTrouble

/-- The slices' core voltages when their rails come up: in the loop's range, where in it the manual leaves open. -/
def State.sliceVoltages (s : State) : State :=
  ((List.range 8).foldl (fun (s : State) j => s.wr (Obj.PWR_SLICE_MV j) (550 + 5 * (Config.freeNat (s.free + j) % 51))) s).used 8

/-- THERM_EMERG_BEGIN (R421): a sensor's running average, in 2^−8 °C, rises above 100 °C. -/
def execThermEmergBegin (sensor : Nat) (temp : Int) (s : State) : Host.Outcome State Fault Refusal :=
  done s <|
    if Nat.ble 16 sensor || decide (temp ≤ 100 * 256) || s.rdB Obj.PWR_THERM_EMERG || s.rd Obj.DEV_STATE = 0 then s
    else
      let s := (s.wrI (Obj.DEV_TJ_SENSOR sensor) temp).showTj
      let s := (s.wr Obj.PWR_THERM_EMERG 1).updPwr fun x => { x with emergAt := some s.wall }
      ((s.count Obj.PWR_THERM_COUNT).event 2 254 0x0701 (s.rd Obj.PWR_TJ)).noteTrouble

/-- THERM_EMERG_CLEAR (R421): every sensor's running average reads 97 °C or below. -/
def execThermEmergClear (temps : List Int) (s : State) : Host.Outcome State Fault Refusal :=
  done s <|
    if !s.rdB Obj.PWR_THERM_EMERG || temps.length != 16 || temps.any fun t => decide (97 * 256 < t) then s
    else
      let s := (List.range 16).foldl (fun (s : State) j => s.wrI (Obj.DEV_TJ_SENSOR j) (temps.getD j 0)) s.noteTrouble
      (s.showTj.wr Obj.PWR_THERM_EMERG 0).updPwr fun x => { x with emergAt := none }

/-! ## Requests (R426, R430) -/

/-- A request is over: its final answer and PWR_REQ_RESULT; one that a wake made has neither. -/
def State.pwrEnd (s : State) (p : Option PwrReq) (st : Status) (result : Nat) : State :=
  match p.bind PwrReq.req with
  | some r => (if s.live r then s.wr (sk r.sess Obj.PWR_REQ_RESULT) result else s).finish r st
  | none => s

/-- PWR_STATE, and DEV_STATE with it: 4 from X to Y (R437). -/
def State.showPower (s : State) (v : Nat) : State :=
  let s := s.wr Obj.PWR_STATE v
  if s.pwr.suspended then s.wr Obj.DEV_STATE 4 else s

/-! ## WATCH programs (R433) -/

/-- The input chain of a trigger source is enabled in the committed configuration (R152). -/
def State.chainOn (s : State) (k : Nat) : Bool :=
  let i := s.rdc (Obj.TRIG_SRC_INPUT k)
  let tuner (t : Nat) := s.rdc (Obj.TUNE_ENABLE t) == 1 && s.rdc (Obj.CONV_ENABLE (tunerChannel t)) == 1
  let context (c : Nat) := Nat.blt c 32 && s.rdc (Obj.XFM_ENABLE c) == 1 && tuner (s.rdc (Obj.XFM_SOURCE c))
  match s.rdc (Obj.TRIG_SRC_KIND k) with
  | 1 => tuner i
  | 2 => context i
  | 3 => context (s.rdc (Obj.DET_BP_CONTEXT i))
  | _ => false

/-- An enabled program keeps the rules of R433. -/
def State.programOk (s : State) (w : Nat) : Bool :=
  let k := s.rd (Obj.PWR_W_SOURCE w)
  let p := s.rd (Obj.PWR_W_PERIOD w)
  Nat.blt k 32 && s.chainOn k && Nat.ble 32000000 p && Nat.ble p (2 ^ 40) && Nat.blt (s.rd (Obj.PWR_W_PHASE w)) p &&
    Nat.ble 1 (s.rd (Obj.PWR_W_COUNT w)) && Nat.ble (s.rd (Obj.PWR_W_COUNT w)) 65536

/-- WATCH may be entered: some program is enabled, and each that is keeps the rules. -/
def State.programsOk (s : State) : Bool :=
  let on := (List.range 4).filter fun w => s.rdB (Obj.PWR_W_ENABLE w)
  !on.isEmpty && on.all s.programOk

/-- The programs are read at entry to WATCH. -/
def State.startPrograms (s : State) : State :=
  let read (w : Nat) : Program :=
    let p := max 1 (s.rd (Obj.PWR_W_PERIOD w))
    let phase := s.rd (Obj.PWR_W_PHASE w)
    { source := s.rd (Obj.PWR_W_SOURCE w), period := p, phase := phase, count := s.rd (Obj.PWR_W_COUNT w), on := s.rdB (Obj.PWR_W_ENABLE w)
      next := phase + roundUp (s.tick - phase) p }
  s.updPwr fun x => { x with programs := (List.range 4).map read }

/-! ## The handshake (R427, Table 19.4) -/

/-- What a block answers. -/
inductive Answer where
  | grant | defer (ns : Nat) | refuse (reason : Nat)
  deriving DecidableEq, Repr

/-- An activation has been accepted, and its handover has not ended (R416). -/
def State.updating (s : State) : Bool := s.rd Obj.UPD_STATE == 4 || s.rd Obj.UPD_STATE == 5 || s.upd.closed

/-- The answer of a row to a request for a target, after d DEFER answers; durations in ticks. -/
def State.blockAnswer (s : State) (target row d : Nat) : Answer :=
  let again (busy : Bool) (t : Nat) (last : Answer) : Answer := if !busy then .grant else if d < 3 then .defer t else last
  match row with
  | 1 => again ((List.range 4).any s.calibrating || s.conv.skew.isSome) (100 * tpms) .grant
  | 2 => again s.updating tps (.refuse 1)
  | 3 => again (s.rd Obj.TWIN_STATE == 3) (50 * tpms) (.refuse 2)
  | 4 => again (s.swaps.any fun w => w.cause.isNone) (10 * tpms) (.refuse 3)
  | 5 => if s.clk.change.isSome || s.clk.gatedAt.isSome then .refuse 4 else .grant
  | 6 => if target = 3 && !s.programsOk then .refuse 5 else .grant
  | _ => again (s.rd Obj.RSV_STATE == 1) tpms .grant

/-- A calibration or a path measurement that still runs at the fourth answer is abandoned with reason POWER (R43). -/
def State.abandonForPower (s : State) : State :=
  let s := (List.range 4).foldl State.abandonAnyCal s
  match s.conv.skew with
  | some (r, _) => ({ s with conv := { s.conv with skew := none } }).finish r .busy
  | none => s

/-- A block is asked: a grant takes it off the list, a DEFER is counted and its time noted, a REFUSE is answered as its row and reason.
The first DEFER of the twin's row starts a handover (R398). -/
def State.ask (s : State) (target row d : Nat) : State × Option Nat :=
  let rest := s.pwr.asks.filter fun a => a.1 != row
  match s.blockAnswer target row d with
  | .grant =>
    let s := if row = 1 && d = 3 then s.abandonForPower else s
    (s.updPwr fun x => { x with asks := rest }, none)
  | .defer t =>
    let s := if row = 3 && d = 0 then s.planHandover (s.tick + 10 * tpms) 1 else s
    ((s.updPwr fun x => { x with asks := (row, d + 1, s.wall + t) :: rest }).count Obj.PWR_DEFERS, none)
  | .refuse reason => (s, some reason)

/-! ## Suspension (R424, R425) -/

/-- The objects whose values turn the data path off. -/
def State.offVals (s : State) : List (Nat × Nat) :=
  let keys := (List.range 4).map Obj.CONV_ENABLE ++ (List.range 16).map Obj.TUNE_ENABLE ++ (List.range 32).map Obj.XFM_ENABLE ++
    (List.range 16).map Obj.TRIG_SEQ_ENABLE ++ (List.range 4).map Obj.TRIG_GRP_ENABLE ++ (List.range 8).map Obj.CRYS_ENABLE ++
    [Obj.SCAN_ENABLE, Obj.PLMB_TDC_ENABLE, Obj.PLMB_CNT_ENABLE]
  (keys.filter fun k => s.rdB k).map fun k => (k, 0)

/-- The changes of the objects in a list, each block with its context, requested at a tick. -/
def State.changesTo (s : State) (w : Swap) (req : Nat) : List Change :=
  let direct := w.vals.map fun p => (groupOf p.1, ownId p.1)
  let blocks := (direct.filter fun x => x.1 == 2).map fun x => ((3 : Nat), x.2)
  let units := (direct ++ blocks).eraseDups
  units.map fun x => ⟨x.1, x.2, s.boundaryOf w units req x.1 x.2⟩

/-- The model's own swap of a suspension (cause 8) or a resumption (9, and 11 after DORMANT): the committed configuration stays as it
is. -/
def State.powerSwap (s : State) (cause req : Nat) (vals : List (Nat × Nat)) : State :=
  let w : Swap := { id := s.swapId, req := ⟨254, 0, 0, 0⟩, sess := 254, seq := 0, groups := 0, validating := false, served := s.tick
                    reqTick := req, vals := vals, cause := some cause }
  let w := { w with units := s.changesTo w req }
  { s with swaps := s.swaps ++ [w], swapId := s.swapId + 1 }

/-- A transmit flow at X: the record being cut ends, and the frame that holds the shed records goes. -/
def State.flushAtX (s : State) (f : Nat) : State :=
  let x := s.flow f
  if s.isStandby || x.tail.isEmpty || !x.atBoundary then s else s.flushAll f false

/-- Measurements of the Plumb unit open at X are dropped (R423). -/
def State.dropPlumb (s : State) : State :=
  if s.rdB Obj.PLMB_TDC_ENABLE then
    (s.updPlumb fun x => { x with starts := [], stops := [], nextStart := none }).countN Obj.PLMB_DROP s.plumb.starts.length
  else s

/-- The boundary at which the latest power swap stops or restarts a shed unit (R232): of its plane, its block's period or the context that a
flow carries; a channel's is X or Y itself. -/
def State.powerTick (s : State) (u : ShedUnit) (tick : Nat) : Nat :=
  let at_ (g : Nat) (v : UnitId) : Nat :=
    ((s.swaps.getLast?.bind fun w => w.change g v).map Change.boundary).getD tick
  match u.cls with
  | 1 => at_ 5 ⟨.plane, u.unit⟩
  | 3 => at_ 3 ⟨.context, u.unit⟩
  | 4 => at_ 2 ⟨.context, s.rd (Obj.FLOW_SRC_INDEX u.unit)⟩
  | _ => tick

/-- The data path is suspended at X (R423, R424). -/
def State.suspend (s : State) : State :=
  let x := s.rd Obj.PWR_SUSPEND_TICK
  let was := s.rd Obj.DEV_STATE
  let s := { s with swaps := s.swaps.map fun (w : Swap) => if w.cause.isNone && !w.validating then { w with units := [] } else w }
  let gone := ((([1, 2, 3, 4, 5].map s.shedUnits).flatten).map Prod.fst).map fun (u : ShedUnit) => { u with cause := 5 }
  let s := s.runningFlows.foldl (fun s f => s.updFlow f fun y =>
    match s.flowRing f with
    | some h => y.endCut s.wall h (s.ringStep h) false false
    | none => y) s
  let s := s.powerSwap 8 x s.offVals
  let s := gone.foldl (fun s u => s.shedTells u 0 (s.powerTick u x)) s
  let s := s.runningFlows.foldl State.flushAtX s
  let s := (List.range 64).foldl (fun s i => if s.rd (Obj.MOVE_STATE (32 + i)) = 2 then s.wr (Obj.MOVE_STATE (32 + i)) 3 else s) s
  let s := (List.range 16).foldl (fun s j =>
    if s.rd (Obj.RSV_RPL_STATE j) = 2 then (s.updReplay j fun p => { p with aborting := true }).replayEnd j else s) s
  let s := if Nat.ble 1 (s.rd Obj.UPD_STATE) && Nat.ble (s.rd Obj.UPD_STATE) 3 then
      (s.updFinish .busy).updDiscard.wr Obj.UPD_STATE s.updRest else s
  let s := (s.dropPlumb.unsync 1).updPwr fun p =>
    { p with suspended := true, step := 3, wasState := was, suspendedAt := s.wall, shed := gone }
  s.wr Obj.DEV_STATE 4

/-- The content of an unpowered Reservoir is lost (R422 to R425): rings restart empty, frames are lost, planes restart cleared. -/
def State.loseReservoir (s : State) : State :=
  let s := (List.range 20).foldl (fun s h => if s.rdB (Obj.RSV_HIST_ENABLE h) then
    ((s.discardRing h).updRing h fun r => { r with side := [] }).wr (Obj.RSV_HIST_SIDE_OLDEST h) 0 else s) s
  let s := (List.range 249).foldl (fun s f => (s.loseFrames f fun _ => true).updFlow f fun x => { x with rxWords := [], rxHeld := [] }) s
  let s := (List.range 8).foldl (fun s p => s.updPlane p fun x => { x with cells := [], reading := none, staged := [], cleared := true }) s
  { s with rsv := { s.rsv with mem := [], staging := [] } }

/-- Ports that the state does not power go down. -/
def State.lowPorts (s : State) : State :=
  (List.range 28).foldl (fun s p =>
    if s.portPowered p || !(s.portUp p || s.rd (Obj.PORT_STATE p) == 1) then s
    else s.wrAll [(Obj.PORT_STATE p, 4), (Obj.PORT_MEDIA_ACTIVE p, 0)]) s

/-- The domains are at the column of a low state (Table 19.2). -/
def State.reachLow (s : State) (target : Nat) : State :=
  let s := (s.updPwr fun x => { x with low := target, cold := x.cold || target == 4 }).showPower target
  let rings := (List.range 20).filter fun h => s.rdB (Obj.RSV_HIST_ENABLE h)
  let mv := if target = 4 then 0 else 500
  let s := s.wrAll ((List.range 8).map fun j => (Obj.PWR_SLICE_MV j, mv))
  match target with
  | 2 => s.wr Obj.RSV_STATE 3
  | 3 => ((s.wr Obj.RSV_STATE 3).wrAll (rings.map fun h => (Obj.RSV_HIST_STATE h, 3))).lowPorts.startPrograms
  | _ =>
    let s := ((s.wr Obj.RSV_STATE 0).wrAll (rings.map fun h => (Obj.RSV_HIST_STATE h, 0))).lowPorts.loseReservoir
    let s := (s.lockBit false).updClk fun x => { x with acquireAt := none, openAt := none, gatedAt := none }
    (s.wr Obj.CLK_STATE 0).showClkOut

/-! ## Resumption (R424) -/

/-- The SH objects whose value in force differs from the committed one. -/
def State.toRestore (s : State) : List (Nat × Nat) :=
  ((((s.com.map Prod.fst) ++ s.obj.map Prod.fst).eraseDups).filter fun k => isShadow k && s.rd k != s.rdc k).map fun k => (k, s.rdc k)

/-- Capture units that were at work fill anew from Y (R148, R424). -/
def State.refillCaptures (s : State) (y : Nat) : State :=
  (List.range 4).foldl (fun s u =>
    if s.rdB (Obj.TRIG_CAP_ENABLE u) && Nat.ble 1 (s.rd (Obj.TRIG_CAP_STATE u)) && Nat.ble (s.rd (Obj.TRIG_CAP_STATE u)) 3 then
      (s.updCap u fun c => { c with threshold := y + s.rd (Obj.TRIG_CAP_PRE u) * s.capStep u }).wr (Obj.TRIG_CAP_STATE u) 1
    else s) s

/-- Outputs resume at Y: units restart from the committed configuration, and the shed records of EVENT 1 name them. -/
def State.resume (s : State) : State :=
  let y := s.rd Obj.PWR_RESUME_TICK
  let cold := s.pwr.cold
  let d := s.wall - s.pwr.suspendedAt
  let s := s.powerSwap (if cold then 11 else 9) y s.toRestore
  let s := s.pwr.shed.foldl (fun s u => s.shedTells u 1 (s.powerTick u y)) s
  let s := (List.range 249).foldl (fun s f => s.updFlow f fun x => { x with liveAt := max x.ackAt x.liveAt + d }) s
  let s := (List.range 20).foldl (fun s h =>
    if !s.rdB (Obj.RSV_HIST_ENABLE h) then s
    else
      let s := if cold then s.updRing h fun r => { r with startAt := y } else s.stopRing h
      s.wr (Obj.RSV_HIST_STATE h) (if s.isShed 5 (ringChannel h) then 2 else 1)) s
  let s := (s.refillCaptures y).updPwr fun x => { x with suspended := false, step := 0, low := 0, cold := false, shed := [] }
  let s := (s.wr Obj.DEV_STATE s.pwr.wasState).wr Obj.PWR_STATE 0
  if cold then s.anchorAll else s

/-! ## Steps (R429, R430) -/

/-- A return begins (R1): from DORMANT the master locks and the Reservoir trains anew. -/
def State.beginReturn (s : State) : State :=
  let s := (s.updPwr fun x => { x with step := 6, wake := false }).showPower 5
  if s.pwr.low = 4 then ((s.wr Obj.RSV_STATE 1).wr Obj.CLK_STATE 1).acquire else s

/-- X is set at the end of S1 (R429). -/
def State.setX (s : State) : State :=
  (s.updPwr fun x => { x with step := 2, asks := [] }).wr Obj.PWR_SUSPEND_TICK (roundUp (s.tick + 3200000) 64)

/-- Y is set: after DORMANT in CHECK mode it is the first grid boundary after the lock (R429). -/
def State.setY (s : State) : State :=
  let plain := roundUp (s.tick + 3200000) 64
  let y := match s.conv.grid with
    | some e => if s.pwr.cold && s.rd Obj.CONV_SYNC_MODE == 1 then s.boundaryFrom e (s.tick + 1) else plain
    | none => plain
  ((s.updPwr fun x => { x with step := 7 }).wr Obj.PWR_RESUME_TICK y).wr Obj.PWR_STATE 5

/-- The request that is next in hand: one that was to supersede the last, else the queued one. -/
def State.popRequestP (s : State) : State × Option PwrReq :=
  let s := s.updPwr fun x => { x with cur := none, forced := false, wake := false }
  match s.pwr.newer with
  | some o => (s.updPwr fun x => { x with newer := none }, some o)
  | none => ((s.updPwr fun x => { x with queue := none }).wr Obj.PWR_QUEUED 255, s.pwr.queue)

/-- The request in hand is refused by a block (R427). The event's code is not in the catalogue, and a free value. -/
def State.refuseEntry (s : State) (row reason : Nat) : State :=
  let p := s.pwr.cur
  let s := (s.wrAll [(Obj.PWR_REFUSE_BLOCK, row), (Obj.PWR_REFUSE_REASON, reason), (Obj.PWR_STATE, 0)]).count Obj.PWR_REFUSALS
  let s := ((s.event 0 254 (s.freeN % 65536) row reason).used 1).pwrEnd p .busy 4
  s.updPwr fun x => { x with step := 0, asks := [] }

/-- Every block is asked at once, up to the first that refuses. -/
def State.askAll (s : State) (target : Nat) : State × Option (Nat × Nat) :=
  [1, 2, 3, 4, 5, 6, 7].foldl (fun (acc : State × Option (Nat × Nat)) (row : Nat) =>
    match acc.2 with
    | some _ => acc
    | none => match acc.1.ask target row 0 with
      | (s, reason) => (s, reason.map fun n => (row, n))) (s, none)

/-- The next request begins: a return from a low state, an entry by its handshake, and the one after it where a block refuses. -/
def State.startNext : Nat → State → State
  | 0, s => s
  | n + 1, s =>
    match s.popRequestP with
    | (s, none) => s
    | (s, some p) =>
      if p.target = (if s.pwr.suspended then s.pwr.low else 0) then s.pwrEnd (some p) .ok 2
      else
        let s := s.updPwr fun x => { x with cur := some p }
        if s.pwr.suspended then s.beginReturn
        else
          let s := (s.updPwr fun x => { x with step := 1 }).wr Obj.PWR_STATE 1
          match s.askAll p.target with
          | (s, some (row, reason)) => (s.refuseEntry row reason).startNext n
          | (s, none) => if s.pwr.asks.isEmpty then s.setX else s

/-- An abort point (Table 19.5): a wake abandons the entry, a later request supersedes it; otherwise it goes on. `turn` is what a target
of SERVICE leads to, `go` the next step towards a target. -/
def State.abortPoint (s : State) (turn : State → State) (go : Nat → State → State) : State :=
  let cur := s.pwr.cur
  let newer := s.pwr.newer
  if s.pwr.wake then
    let s := s.pwrEnd cur .busy 5
    let (s, keep) := match newer with
      | some o => if o.target = 0 then (s, newer) else (s.pwrEnd newer .busy 5, none)
      | none => (s, none)
    turn (s.updPwr fun x => { x with wake := false, newer := none, cur := some (keep.getD { target := 0 }) })
  else match newer with
    | none => go ((cur.map PwrReq.target).getD 0) s
    | some o =>
      let s := (s.pwrEnd cur .busy 3).updPwr fun x => { x with newer := none, cur := some o }
      if o.target = 0 then turn s else go o.target s

/-- The end of S1 with nothing done. -/
def State.endEntry (s : State) : State :=
  let p := s.pwr.cur
  (((s.updPwr fun x => { x with step := 0, asks := [] }).wr Obj.PWR_STATE 0).pwrEnd p .ok 2).startNext 3

/-- AP1 once every block has granted. -/
def State.handshakeEnd (s : State) : State :=
  if s.pwr.asks.isEmpty then s.abortPoint State.endEntry fun _ s => s.setX else s

/-- S4 begins. -/
def State.beginS4 (s : State) : State := s.updPwr fun x => { x with step := 5 }

/-- AP3: a target of SERVICE goes on to Y. -/
def State.drained (s : State) : State := s.abortPoint State.setY fun _ s => s.beginS4

/-- Every transmit flow's frames are released. -/
def State.allReleased (s : State) : Bool := (List.range 249).all fun f => !s.flowSends f || (s.flow f).frames.isEmpty

/-- S3 ends (R425): it is empty for HOLD and skipped by a forced entry. -/
def State.drainOver (s : State) : Bool :=
  let target := (s.pwr.cur.map PwrReq.target).getD 0
  s.pwr.forced || target == 2 || s.allReleased || Nat.ble (s.pwr.drainAt + s.rd Obj.PWR_DRAIN_MS * tpms) s.wall

/-- AP2 once every unit has stopped: a forced entry goes to S4 at once. -/
def State.unitsStopped (s : State) : State :=
  if s.pwr.forced then s.beginS4
  else s.abortPoint State.setY fun _ s =>
    let s := s.updPwr fun x => { x with step := 4, drainAt := s.wall }
    if s.drainOver then s.drained else s

/-- The units that the suspension stops have reached their boundaries. -/
def State.allStopped (s : State) : Bool := !(s.swaps.any fun w => w.cause == some 8 && !w.units.isEmpty)

/-! ## The request rows -/

/-- Requests are taken from READY on, outside loader service. -/
def State.powerTakes (s : State) : Bool := Nat.ble 2 (s.rd Obj.DEV_STATE) && Nat.ble (s.rd Obj.DEV_STATE) 5

/-- An abort point lies ahead of the transition in progress (R430); a forced entry has none. -/
def State.abortAhead (s : State) : Bool :=
  !s.pwr.forced && ((Nat.ble 1 s.pwr.step && Nat.ble s.pwr.step 4) || s.pwr.step == 6)

/-- A write of PWR_REQ (R426, R430). -/
def State.pwrRequest (s : State) (v : Nat) (r : Req) : State :=
  let here := if s.pwr.suspended then s.pwr.low else 0
  let p : PwrReq := { target := v, req := some r }
  if !(v == 0 || v == 2 || v == 3 || v == 4) then s.answer r .range
  else if !s.powerTakes then s.answer r .busy
  else if s.pwr.step = 0 && v = here then (s.wr (sk r.sess Obj.PWR_REQ_RESULT) 2).answer r .ok
  else
    let s := (s.accept r).wr (sk r.sess Obj.PWR_REQ_RESULT) 1
    if s.pwr.step = 0 then (s.updPwr fun x => { x with queue := some p }).startNext 3
    else if s.abortAhead then
      if v = 3 && !s.programsOk then
        ((s.wrAll [(Obj.PWR_REFUSE_BLOCK, 6), (Obj.PWR_REFUSE_REASON, 5)]).count Obj.PWR_REFUSALS).pwrEnd (some p) .busy 4
      else
        (s.pwrEnd s.pwr.newer .busy 3).updPwr fun x => { x with newer := some p }
    else ((s.pwrEnd s.pwr.queue .busy 3).updPwr fun x => { x with queue := some p }).wr Obj.PWR_QUEUED v

/-- PWR_REQ_SERVICE. -/
def execPwrReqService (sess tag : Nat) (s : State) : Host.Outcome State Fault Refusal :=
  done s (s.direct sess tag Obj.PWR_REQ 0 fun r s => s.pwrRequest 0 r)

/-- PWR_REQ_HOLD. -/
def execPwrReqHold (sess tag : Nat) (s : State) : Host.Outcome State Fault Refusal :=
  done s (s.direct sess tag Obj.PWR_REQ 2 fun r s => s.pwrRequest 2 r)

/-- PWR_REQ_WATCH. -/
def execPwrReqWatch (sess tag : Nat) (s : State) : Host.Outcome State Fault Refusal :=
  done s (s.direct sess tag Obj.PWR_REQ 3 fun r s => s.pwrRequest 3 r)

/-- PWR_REQ_DORMANT. -/
def execPwrReqDormant (sess tag : Nat) (s : State) : Host.Outcome State Fault Refusal :=
  done s (s.direct sess tag Obj.PWR_REQ 4 fun r s => s.pwrRequest 4 r)

/-- HANDSHAKE_DEFER_EXPIRY (R427): a deferring block is asked again. -/
def execHandshakeDeferExpiry (row : Nat) (s : State) : Host.Outcome State Fault Refusal :=
  done s <|
    match s.pwr.asks.find? fun a => a.1 == row && Nat.ble a.2.2 s.wall with
    | none => s
    | some a =>
      if s.pwr.step != 1 then s
      else match s.ask ((s.pwr.cur.map PwrReq.target).getD 0) row a.2.1 with
        | (s, none) => s.handshakeEnd
        | (s, some reason) => (s.refuseEntry row reason).startNext 3

/-- PWR_SUSPEND (R424): X has come. -/
def execPwrSuspend (s : State) : Host.Outcome State Fault Refusal :=
  done s (if s.pwr.step = 2 && Nat.ble (s.rd Obj.PWR_SUSPEND_TICK) s.tick then s.suspend else s)

/-- PWR_DRAIN_END (R425, R429): AP2 and AP3, as they come. -/
def execPwrDrainEnd (s : State) : Host.Outcome State Fault Refusal :=
  done s <|
    if s.pwr.step = 3 && s.allStopped then s.unitsStopped
    else if s.pwr.step = 4 && s.drainOver then s.drained else s

/-- The domains are back for SERVICE: after DORMANT the master has locked and the Reservoir is trained; otherwise its self-refresh ends,
with a retraining of every pseudo-channel where a stack's temperature has moved (R192). -/
def State.domainsBack (s : State) : Option State :=
  if s.pwr.low = 4 then (if s.masterLocked && (s.rd Obj.RSV_STATE == 2 || s.rd Obj.RSV_STATE == 4) then some s.sliceVoltages else none)
  else
    let temp (k : Nat) := s.rdI (Obj.RSV_STACK_TEMP (k / 32))
    let moved := (List.range 128).any fun k =>
      !(s.pch k).failed && Nat.ble (s.rd Obj.RSV_RETRAIN_DT) (temp k - (s.pch k).retrainTemp).natAbs
    let s := if moved then (List.range 128).foldl (fun s k => s.updPch k fun p => { p with retrainAt := s.wall, retrainTemp := temp k }) s else s
    some ((s.wr Obj.RSV_STATE (if s.rd Obj.RSV_PCH_FAILED = 0 then 2 else 4)).sliceVoltages)

/-- PWR_DOMAINS_DONE (R429): the low state is reached, or the return comes to AP4: a request for a low state goes to S4 of it. -/
def execPwrDomainsDone (s : State) : Host.Outcome State Fault Refusal :=
  done s <|
    if s.pwr.step = 5 then
      let p := s.pwr.cur
      let s := s.reachLow ((p.map PwrReq.target).getD 2)
      ((s.updPwr fun x => { x with step := 0 }).pwrEnd p .ok 2).startNext 3
    else if s.pwr.step = 6 then
      match s.domainsBack with
      | none => s
      | some s =>
        match s.pwr.newer with
        | none => s.setY
        | some o =>
          let s := (s.pwrEnd s.pwr.cur .busy 3).updPwr fun x => { x with newer := none, cur := some o }
          if o.target = 0 then s.setY else (s.beginS4).wr Obj.PWR_STATE 1
    else s

/-- PWR_RESUME (R424): Y has come. A request from one low state to another goes on with its entry. -/
def execPwrResume (s : State) : Host.Outcome State Fault Refusal :=
  done s <|
    if s.pwr.step != 7 || Nat.blt s.tick (s.rd Obj.PWR_RESUME_TICK) then s
    else
      let p := s.pwr.cur
      let s := s.resume
      if (p.map PwrReq.target).getD 0 = 0 then (s.pwrEnd p .ok 2).startNext 3
      else (s.updPwr fun x => { x with newer := p }).startNext 3

/-! ## Forced entries (R428) -/

/-- The engine gives its paired flows up: a primary whose standby is ready sends its fault message and goes on as standby. -/
def State.failOver (s : State) : State :=
  let ready := s.twinReady
  let s := s.faultMessage 0
  if ready then
    let s := s.lendSessions.becomeStandby
    match s.twin.peer with
    | some p => s.startSync p
    | none => s
  else s

/-- A forced entry asks the blocks of Table 19.4 as at a fourth request: their refusals are logged and do not stop it (R428). The event's
code is not in the catalogue, and a free value. -/
def State.logRefusals (s : State) : State :=
  [1, 2, 3, 4, 5, 6, 7].foldl (fun s row => match s.blockAnswer 4 row 3 with
    | .refuse reason => (s.event 0 254 (s.freeN % 65536) row reason).used 1
    | _ => s) s

/-- DORMANT is forced: every request in progress is superseded at once, blocks abandon what they do, and the entry goes on from the step
in progress. -/
def State.force (s : State) : State :=
  let s := ((s.pwrEnd s.pwr.cur .busy 3).pwrEnd s.pwr.newer .busy 3).pwrEnd s.pwr.queue .busy 3
  let s := if s.pwr.suspended then s else s.logRefusals
  let s := (s.abandonForPower.count Obj.PWR_FORCED).wr Obj.PWR_QUEUED 255
  let s := s.updPwr fun x => { x with
    cur := some { target := 4 }, newer := none, queue := none, forced := true, wake := false, asks := [] }
  if s.pwr.step = 0 && s.pwr.suspended && s.pwr.low = 4 then s.updPwr fun x => { x with cur := none, forced := false }
  else
    let s := s.wr Obj.PWR_STATE 1
    if !s.pwr.suspended then (if s.pwr.step = 2 then s else s.setX)
    else if s.pwr.step = 3 then s else s.beginS4

/-- The condition of a forced entry: 0 a sensor at 110 °C or above for 1 ms, `arg` its temperature in 2^−8 °C; 1 the hardware current limit,
`arg` the current in mA; 2 an emergency of 10 s with a unit of every shed class shed. -/
def State.forceDue (s : State) (cause arg : Nat) : Bool :=
  s.powerTakes && match cause with
    | 0 => Nat.ble (110 * 256) arg
    | 1 => Nat.ble 115000 arg
    | 2 => (match s.pwr.emergAt with
        | some t => Nat.ble (t + 10 * tps) s.wall
        | none => false) && [1, 2, 3, 4, 5].all fun c => s.shed.units.any fun u => u.cls == c
    | _ => false

/-- FORCED_DORMANT (R421, R428). -/
def execForcedDormant (cause arg : Nat) (s : State) : Host.Outcome State Fault Refusal :=
  done s <|
    if !s.forceDue cause arg then s
    else if cause = 1 then (s.event 3 254 0x0704 arg).force
    else (s.event 3 254 0x0702 (if cause = 0 then arg else s.rd Obj.PWR_TJ)).failOver.force

/-! ## Wake (R431, R432) -/

/-- A wake event of a bit of PWR_WAKE_MASK. -/
def State.wakeEvent (s : State) (bit : Nat) : State :=
  if !bitOf (s.rd Obj.PWR_WAKE_MASK) bit || s.rd Obj.PWR_STATE = 0 then s.count Obj.PWR_WAKE_IGNORED
  else
    let s := s.wr Obj.PWR_WAKE_LAST (bit + 1)
    if s.rd Obj.PWR_STATE = 5 then s
    else if s.pwr.step = 0 then (s.updPwr fun x => { x with queue := some { target := 0 } }).startNext 3
    else if s.abortAhead then s.updPwr fun x => { x with wake := true }
    else if s.pwr.queue.isSome then s
    else (s.updPwr fun x => { x with queue := some { target := 0 } }).wr Obj.PWR_QUEUED 0

/-- The engine takes wake events: from READY on. -/
def State.wakeTakes (s : State) (bit : Nat) : State := if s.powerTakes then s.wakeEvent bit else s

/-- WAKE_N. -/
def execWakeN (s : State) : Host.Outcome State Fault Refusal := done s (s.wakeTakes 0)

/-- WAKE_TIMER (R432): in DORMANT the wake falls within 2 µs of its tick. -/
def execWakeTimer (s : State) : Host.Outcome State Fault Refusal :=
  done s <|
    let t := s.rd Obj.PWR_WAKE_AT
    let early := if s.rd Obj.PWR_STATE = 4 then 64000 else 0
    if t = 0 || t = s.pwr.timed || Nat.blt (s.tick + early) t then s
    else (s.updPwr fun x => { x with timed := t }).wakeTakes 2

/-- WAKE_TRIG_IN. -/
def execWakeTrigIn (pin : Nat) (s : State) : Host.Outcome State Fault Refusal := done s (if Nat.ble 4 pin then s else s.wakeTakes 3)

/-! ## WATCH bursts (R434, R435) -/

/-- A program's record. -/
def State.program (s : State) (w : Nat) : Program := at' s.pwr.programs w

/-- Change a program's record. -/
def State.updProgram (s : State) (w : Nat) (f : Program → Program) : State :=
  s.updPwr fun x => { x with programs := x.programs.modify w f }

/-- WATCH_BURST_START (R434): at w_m; a wake during the program's previous burst is skipped. -/
def execWatchBurstStart (w : Nat) (s : State) : Host.Outcome State Fault Refusal :=
  done s <|
    let x := s.program w
    if Nat.ble 4 w || s.rd Obj.PWR_STATE != 3 || !x.on || Nat.blt s.tick x.next then s
    else
      let s := s.updProgram w fun x => { x with next := x.next + max 1 x.period }
      if x.burst.isSome then s.count (Obj.PWR_W_SKIP w)
      else (s.updProgram w fun y => { y with burst := some x.next }).wr (Obj.PWR_W_BURSTS w) ((s.rd (Obj.PWR_W_BURSTS w) + 1) % 2 ^ 64)

/-- A hit: its event log entry's code is not in the catalogue, and a free value. -/
def State.watchHit (s : State) (w tick fine : Nat) : State :=
  let s := (s.count (Obj.PWR_W_HITS w)).wr (Obj.PWR_W_LAST w) tick
  (s.event 0 254 (s.freeN % 65536) w tick fine).used 1

/-- WATCH_BURST_END (R434, R435): the burst's inputs have been evaluated; `hit` is the position of an event among them. A hit wakes the
engine once the other bursts of its wake tick have ended. -/
def execWatchBurstEnd (w : Nat) (hit : Option (Nat × Nat)) (s : State) : Host.Outcome State Fault Refusal :=
  done s <|
    match (s.program w).burst with
    | none => s
    | some b =>
      if Nat.ble 4 w || Nat.blt s.tick (b + 320000) then s
      else
        let s := s.updProgram w fun x => { x with burst := none }
        let s := match hit with
          | some h => (s.watchHit w h.1 (h.2 % 65536)).updPwr fun x => { x with hitAt := some b }
          | none => s
        if s.pwr.hitAt = some b && !(s.pwr.programs.any fun x => x.burst == some b) then
          (s.updPwr fun x => { x with hitAt := none }).wakeTakes 1
        else s

end Sys2Proof.Machine
end

