-- ==== Sys2Proof/Machine/Startup.lean ====
section
/-! DEFINITION. Start-up, the resets that pins and supplies make, fencing and alerts (R437 to R449, R452, R455). -/

namespace Sys2Proof.Machine

/-! ## Supplies and RESET_N (R418, R438, R446, R447) -/

/-- VAUX_VALID (P0): the AON domain's power-on reset. -/
def execVauxValid (s : State) : Host.Outcome State Fault Refusal :=
  done s <|
    if s.start.vaux then s
    else (s.updStart fun x => { x with vaux := true, begun := s.wall }).wrAll
      [(Obj.DEV_RESET_KIND, 0), (Obj.DEV_RESET_CAUSE, 0), (Obj.DEV_START_STEP, 0)]

/-- P1 begins: ADDR_SEL is sampled and the regulators start. -/
def State.enterP1 (s : State) (addrSel : Nat) : State :=
  let s := { s with i3c := { s.i3c with addrSel := addrSel % 4 } }
  (s.updStart fun x => { x with begun := s.wall }).wr Obj.DEV_START_STEP 1

/-- PVIN_VALID (P1): after a supply reset PVIN has been valid for 10 ms and Tj is 100 °C or below (R446). With RESET_N low the engine
stays in P1. -/
def execPvinValid (addrSel : Nat) (tj : Int) (s : State) : Host.Outcome State Fault Refusal :=
  done s <|
    if !s.start.vaux || s.start.pvin || (s.start.kind == 1 && decide (100 * 256 < tj)) then s
    else
      let s := s.updStart fun x => { x with pvin := true, upSince := some s.wall }
      if s.start.resetLow then s.wr Obj.DEV_START_STEP 1 else s.enterP1 addrSel

/-- RAILS_IN_REGULATION (P2): PWRGD rises, and the loader checks the journal and the image. -/
def execRailsInRegulation (s : State) : Host.Outcome State Fault Refusal :=
  done s <|
    if !s.start.vaux || !s.start.pvin || s.start.resetLow || s.start.pwrgd || s.rd Obj.DEV_START_STEP != 1 then s
    else s.sliceVoltages.enterP2

/-- RESET_N_FALL (R447): a low level of 1 µs or more. Before P2 the engine stays in P1; from then on it is an engine reset, and the twin is
told. -/
def execResetNFall (s : State) : Host.Outcome State Fault Refusal :=
  done s <|
    if s.start.resetLow then s
    else
      let low (t : State) : State := t.updStart fun x => { x with resetLow := true }
      if !s.start.pwrgd then low s
      else
        let s := if s.snapAllowed then s.snapLog else s
        low ((s.faultMessage 0).restart 2 3)

/-- RESET_N_RISE (R447): ADDR_SEL is sampled and the start goes on. -/
def execResetNRise (addrSel : Nat) (s : State) : Host.Outcome State Fault Refusal :=
  done s <|
    if !s.start.resetLow then s
    else
      let s := s.updStart fun x => { x with resetLow := false }
      if s.start.pwrgd then ((s.enterP1 addrSel).sliceVoltages).enterP2
      else if s.start.pvin then s.enterP1 addrSel else s

/-- VAUX_LOSS (R418, R446): a cold reset. -/
def execVauxLoss (s : State) : Host.Outcome State Fault Refusal :=
  done s <|
    if !s.start.vaux then s
    else (s.restart 0 0).updStart fun x => { x with vaux := false, pvin := false }

/-- A supply reset: every PVIN regulator is off and PWRGD low. -/
def State.supplyReset (s : State) (cause : Nat) : State := (s.restart 1 cause).updStart fun x => { x with pvin := false }

/-- UNDERVOLTAGE_SHUTDOWN (R428): the twin is told; the next start logs it. -/
def execUndervoltageShutdown (s : State) : Host.Outcome State Fault Refusal :=
  done s <|
    if !s.start.pvin then s
    else ((s.faultMessage 0).supplyReset 1).updStart fun x => { x with under := true }

/-- THERMAL_TRIP (R421): at 125 °C, with no handshake. -/
def execThermalTrip (s : State) : Host.Outcome State Fault Refusal :=
  done s (if s.start.pvin then s.supplyReset 2 else s)

/-! ## The loader and the control set (R438, R441) -/

/-- IMAGE_LOADED (P3): the image's BODY_HASH has passed, or loader service follows (R413). A retry of the control set waits for its time
(R441). -/
def execImageLoaded (hashOk : Bool) (s : State) : Host.Outcome State Fault Refusal :=
  done s <|
    if !s.start.pwrgd || s.start.resetLow || s.start.loaded || s.rd Obj.DEV_STATE != 0 || s.rd Obj.DEV_START_STEP != 2 ||
      Nat.blt 3 s.start.retries || Nat.blt s.wall s.start.retryAt then s
    else if !hashOk then s.enterLoader 6
    else (s.runImage.updStart fun x => { x with loaded := true }).wr Obj.DEV_START_STEP 3

/-- Values of the clock objects that MRAM holds. -/
def State.storedClock (s : State) : List (Nat × Nat) := s.mram.filter fun p => psGroup p.1 == 11

/-- The control set is ready: session 0 is served, the start is recorded, and references qualify by the clock values that MRAM
holds. -/
def State.controlReady (s : State) : State :=
  let s := s.updStart fun x => { x with setAt := s.wall, alertHeld := false }
  let s := s.wrAll [(Obj.DEV_START_STEP, 4), (Obj.DEV_STATE, 1), (Obj.CLK_STATE, 1), (Obj.DEV_THERM_DIODE, 1)]
  (s.storedClock.foldl (fun s p => s.wr p.1 (p.2 - 1)) (s.wr Obj.UPD_STATE s.updRest).startRecord).acquire

/-- CONTROL_SET_READY (P4; R441): a control set that fails serves nothing, holds ALERT_N low and retries from P2 after 10 s, up to three
times. -/
def execControlSetReady (passed : Bool) (s : State) : Host.Outcome State Fault Refusal :=
  done s <|
    if !s.start.loaded || s.start.resetLow || s.rd Obj.DEV_START_STEP != 3 then s
    else if passed then s.controlReady
    else
      (s.updStart fun x => { x with loaded := false, alertHeld := true, retries := x.retries + 1, retryAt := s.wall + 10 * tps }).wr
        Obj.DEV_START_STEP 2

/-! ## Self-test and fencing (R443 to R445) -/

/-- UNIT_FENCED: the unit's row of Table 20.3, numbered from 1, and its index. -/
def State.unitFenced (s : State) (row i : Nat) : State := s.event 2 254 0x0015 row i

/-- Set a bit of DIAG_FENCE_OTHER. -/
def State.fenceOther (s : State) (b : Nat) : State := s.wr Obj.DIAG_FENCE_OTHER (setBit (s.rd Obj.DIAG_FENCE_OTHER) b true)

/-- The units below n that a list names, each once. -/
def namedBelow (l : List Nat) (n : Nat) : List Nat := (List.range n).filter fun i => l.contains i

/-- Fabric slices that failed; DET_STORE_CAP follows the slices in service (R113). -/
def State.fenceSlices (s : State) (l : List Nat) : State :=
  let s := l.foldl (fun (s : State) j => (s.wr Obj.DIAG_FENCE_SLICES (setBit (s.rd Obj.DIAG_FENCE_SLICES) j true)).unitFenced 2 j) s
  let n := 8 - (bitList (s.rd Obj.DIAG_FENCE_SLICES) 8).length
  s.wrAll [(Obj.DEV_SLICES_IN_SERVICE, n), (Obj.DET_STORE_CAP, min 8388608 (1198373 * n))]

/-- A converter channel is fenced: CONV_STATE 5, and its tuners read TUNE_STATE 4. -/
def State.fenceChannel (s : State) (ch : Nat) : State :=
  let s := (s.unpowerChannel ch s.tick).wr Obj.DIAG_FENCE_CONV (setBit (s.rd Obj.DIAG_FENCE_CONV) ch true)
  ((s.wr (Obj.CONV_STATE ch) 5).wrAll ((channelTuners ch).map fun t => (Obj.TUNE_STATE t, 4))).unitFenced 3 ch

/-- A port is fenced. -/
def State.fencePort (s : State) (p : Nat) : State :=
  ((s.wr (Obj.PORT_STATE p) 5).wr Obj.DIAG_FENCE_PORTS (setBit (s.rd Obj.DIAG_FENCE_PORTS) p true)).unitFenced 5 p

/-- SRAM beyond the reserve is taken from the scan-out line buffers, the planes that lose a bank, then staging and pool (R445). The index
that UNIT_FENCED names for these units is not stated: a free value. -/
def State.loseSram (s : State) (planes : List Nat) (kib : Nat) : State :=
  if kib = 0 then s
  else
    let fence (s : State) (b : Nat) : State := ((s.fenceOther b).unitFenced 1 s.freeN).used 1
    let s := fence s 3
    let s := if Nat.blt 4096 kib then (namedBelow planes 8).foldl (fun s p => fence s (4 + p)) s else s
    let s := if Nat.blt (4096 + 49152) kib then s.updStart fun x => { x with noSet := true } else s
    s.event 3 254 0x0017 kib

/-- P6: training, calibration of every enabled channel when CONV_CAL_AT_START is true (R40), and auto-negotiation begin. DESIGN CHOICE: every
channel's factor set is loaded here, ahead of that calibration as R40 has it; R440 names the load at P7 (log entry 58). -/
def State.enterP6 (s : State) : State :=
  let s := (s.wrAll [(Obj.RSV_STATE, 1), (Obj.DEV_START_STEP, 6), (Obj.DEV_THERM_DIODE, 0)]).updStart fun x => { x with tested := true }
  let s := (List.range 4).foldl State.loadSet s
  let s := if s.stored Obj.CONV_CAL_AT_START = 1 && s.masterLocked then s.calChannels.foldl State.startCal s else s
  (List.range 28).foldl (fun s p =>
    if s.rd (Obj.PORT_STATE p) = 0 && s.stored (Obj.PORT_ENABLE p) = 1 then s.wr (Obj.PORT_STATE p) 1 else s) s

/-- SELF_TEST_END (P5; R443, R445): the units that failed, the KiB of SRAM remapped and not remapped. It waits for the master's lock, or
for its failure to lock. -/
def execSelfTestEnd (slices channels ports lanes : List Nat) (master stopBank dsi : Bool) (planes : List Nat) (remapKib lostKib : Nat)
    (s : State) : Host.Outcome State Fault Refusal :=
  done s <|
    if s.rd Obj.DEV_STATE != 1 || s.start.tested || (s.rd Obj.CLK_STATE == 1 && !master) then s
    else
      let s := s.fenceSlices (namedBelow slices 8)
      let s := (namedBelow channels 4).foldl State.fenceChannel s
      let s := (namedBelow ports 28).foldl State.fencePort s
      let s := s.wr Obj.DEV_PORTS_IN_SERVICE (28 - (bitList (s.rd Obj.DIAG_FENCE_PORTS) 28).length)
      let s := (namedBelow lanes 4).foldl (fun (s : State) j =>
        ((s.fenceOther (12 + j)).wr Obj.TWIN_LANES (setBit (s.rd Obj.TWIN_LANES) j false)).unitFenced 6 j) s
      let s := if master && s.rd Obj.CLK_STATE == 1 then s.masterFails else s
      let s := if stopBank then (s.fenceOther 1).showPlumb.unitFenced 7 0 else s
      let s := if dsi then (s.fenceOther 2).unitFenced 8 0 else s
      let s := (s.wr Obj.DIAG_SRAM_REMAP (min 12288 remapKib)).loseSram planes lostKib
      s.setFloors.enterP6

/-! ## READY (R438, R440, R442) -/

/-- Members of the measuring set that are missing, bits 0 to 4 in the order of R442. -/
def State.missing (s : State) : Nat :=
  b2n ((List.range 4).all s.convFenced) + 2 * b2n (s.rd Obj.DEV_SLICES_IN_SERVICE == 0) +
    4 * b2n (Nat.blt (s.rd Obj.DEV_PCH_IN_SERVICE) 8) + 8 * b2n (s.rd Obj.DEV_PORTS_IN_SERVICE == 0) + 16 * b2n (s.rd Obj.CLK_STATE == 7)

/-- A persistent group whose two copies both fail is reset to its defaults, logged and rewritten (R440). -/
def State.loseGroup (s : State) (g : Nat) : State :=
  ({ s with mram := s.mram.filter fun p => psGroup p.1 != g }).event 1 254 0x0018 g

/-- P7: the persistent values are in force, and the engine is READY, or MINIMUM without a measuring set. -/
def State.becomeReady (s : State) (failedGroups : List Nat) : State :=
  let s := s.storedClock.foldl (fun s p => s.wr p.1 (dflt p.1)) s
  let s := ((namedBelow failedGroups 19).foldl State.loseGroup s).adoptFormats.loadStored
  let s := (List.range 4).foldl State.applyPath s
  let n := s.missing
  let least := n != 0 || s.start.noSet
  let s := s.wrAll [(Obj.DEV_STATE, if least then 5 else 2), (Obj.DEV_START_STEP, 7),
    (Obj.DEV_READY_MS, min (2 ^ 32 - 1) ((s.wall - s.start.begun) / tpms))]
  let s := if least then s.event 3 254 0x0014 n else s
  let s := s.event 0 254 0x0011 (s.rd Obj.DEV_READY_MS) (s.rd Obj.DEV_SLICES_IN_SERVICE) (s.rd Obj.DEV_PCH_IN_SERVICE)
  let s := (s.updStart fun x => { x with readyAt := some s.wall }).updUpd fun x => { x with dogs := 0, starts := 0 }
  s.showClkOut.twinBringUp

/-- READY (P7): training has ended, and so has the calibration at start. -/
def execReady (failedGroups : List Nat) (s : State) : Host.Outcome State Fault Refusal :=
  done s <|
    if s.rd Obj.DEV_STATE != 1 || !s.start.tested || !s.rsv.trained || (List.range 4).any s.calibrating then s
    else s.becomeReady failedGroups

/-- START_SLOW (R438): 4.0 s have passed, and the sequence goes on. -/
def execStartSlow (s : State) : Host.Outcome State Fault Refusal :=
  done s <|
    let st := s.rd Obj.DEV_STATE
    if s.start.slow || Nat.blt 1 st || !s.start.pwrgd || s.start.resetLow || Nat.blt s.wall (s.start.begun + 4 * tps) then s
    else (s.updStart fun x => { x with slow := true }).event 2 254 0x0012 (s.rd Obj.DEV_START_STEP)

/-! ## Fencing in service (R444) -/

/-- Failures of a slice that lie within the last second. -/
def State.tokenTimes (s : State) (slice : Nat) : List Nat := (at' s.start.tokens slice).filter fun t => Nat.blt s.wall (t + tps)

/-- TOKEN_CHECK_FAILURE (R444): logged with the token's SRC and SEQ (R10), and counted towards fencing. -/
def execTokenCheckFailure (slice src seq : Nat) (s : State) : Host.Outcome State Fault Refusal :=
  done s <|
    if Nat.ble 8 slice || bitOf (s.rd Obj.DIAG_FENCE_SLICES) slice || s.rd Obj.DEV_STATE = 0 then s
    else
      let s := s.updStart fun x => { x with tokens := x.tokens.set slice (s.wall :: s.tokenTimes slice) }
      s.event 1 254 0x0019 slice (src % 64) (seq % 2 ^ 24)

/-- A product of a block whose store lay in a fenced slice loses its state: it restarts at the next period boundary, and its next record
carries AFTER_GAP (R113). -/
def Det.loses (x : Det) (q next : Nat) : Det :=
  let after := if x.afterGap.contains q then x.afterGap else q :: x.afterGap
  if q = 6 then { x.dropColumns with afterGap := after }
  else if x.shed.contains q then x
  else
    let y := x.clearProduct q
    { y with gone := if y.gone.contains q then y.gone else q :: y.gone, resume := (q, next) :: y.resume, afterGap := after }

/-- Whose store lay in the slice is not stated: a free value for each product. -/
def State.loseStore (s : State) : State :=
  (ctxsOn s.rd).foldl (fun s c =>
    (List.range 7).foldl (fun (s : State) q =>
      let hit := s.freeN % 2 == 1
      let s := s.used 1
      if !hit || productStore s.rd c q = 0 then s
      else
        s.updDet c fun x => x.loses q (x.boundaryAfter s.tick)) s) s

/-- A slice is fenced in service: the floors fall, load beyond them is shed, the products move, and a primary whose flows it feeds gives
them to its standby (R392). -/
def State.failSlice (s : State) (j : Nat) : State :=
  let s := s.wr Obj.DIAG_FENCE_SLICES (setBit (s.rd Obj.DIAG_FENCE_SLICES) j true)
  let s := (s.fenceSlices []).setFloors.event 3 254 0x0016 j
  let s := s.loseStore
  let s := if s.overFloors && Nat.ble s.shed.nextStep s.wall then s.shedNow 3 else s
  if s.paired && (List.range 249).any fun f => s.flowSends f then s.failOver else s

/-- SLICE_FAIL (R444): 16 token check failures within 1 s, or no handshake for 10 µs. -/
def execSliceFail (slice : Nat) (noHandshake : Bool) (s : State) : Host.Outcome State Fault Refusal :=
  done s <|
    if Nat.ble 8 slice || bitOf (s.rd Obj.DIAG_FENCE_SLICES) slice || !s.start.tested ||
      !(noHandshake || Nat.ble 16 (s.tokenTimes slice).length) then s
    else s.failSlice slice

/-! ## Alerts and the tick index limit (R452, R455) -/

/-- A write of DIAG_ALERT_ACK: alerts raised before its tick are acknowledged. -/
def State.alertAck (s : State) (v : Nat) (r : Req) : State :=
  if v != 1 then s.answer r .range
  else
    let s := if Nat.blt s.log.alertAt s.wall then s.wr Obj.DIAG_ALERT_PENDING 0 else s
    s.answer r .ok

/-- DIAG_ALERT_ACK. -/
def execDiagAlertAck (sess tag v : Nat) (s : State) : Host.Outcome State Fault Refusal :=
  done s (s.direct sess tag Obj.DIAG_ALERT_ACK v fun r s => s.alertAck v r)

/-- TICK_LIMIT_JOINT (R455): at tick index 2^64 − 2^36 every output is disabled. -/
def execTickLimitJoint (s : State) : Host.Outcome State Fault Refusal :=
  done s <|
    let scan : List UnitId := if s.rdc Obj.SCAN_ENABLE = 1 then [⟨.global, Obj.SCAN_ENABLE⟩] else []
    let units := s.committedUnits ++ scan
    if Nat.blt s.tick (2 ^ 64 - 2 ^ 36) || units.isEmpty then s else s.disableAll 3 units

end Sys2Proof.Machine
end

