-- ==== Sys2Proof/Machine/Dictionary.lean ====
section
/-! DEFINITION. READ and WRITE of the object dictionary (R333 to R340, R348, R358): what a READ returns, and where a WRITE goes. -/

namespace Sys2Proof.Machine

/-! ## READ -/

/-- The words of a log entry (Table 15.13). -/
def LogEntry.words (e : LogEntry) : List Nat :=
  words64 e.seq ++ words64 e.tick ++ [e.cls * 2 ^ 24 + e.sess * 2 ^ 16 + e.code, e.d5, e.d6, e.d7]

/-- DEV_LOG_WORD of a session: its cursor's entry, or zero where the ring does not hold it (R358). -/
def State.logWord (s : State) (sess i : Nat) : Nat :=
  match s.log.ring.find? fun e => e.seq == s.rd (sk sess Obj.DEV_LOG_CURSOR) with
  | some e => e.words.getD i 0 % 2 ^ 36
  | none => 0

/-- Physical readings and averages that no command reports: a READ of one returns a free value of its type. -/
def measured (k : Nat) : Bool :=
  let i := k / 256
  (i == 0x2212 && k % 256 != 0) || (Nat.ble 0x3800 i && Nat.blt i 0x4000 && k == Obj.XFM_LAT_AVG ((i - 0x3800) / 0x40)) ||
  (Nat.ble 0x4400 i && Nat.blt i 0x4800 && k == Obj.TRIG_SEQ_LAT_AVG ((i - 0x4400) / 0x40)) ||
  (Nat.ble 0x4C00 i && Nat.blt i 0x5000 && k == Obj.CRYS_HARV_TIME_AVG ((i - 0x4C00) / 0x80)) || k == Obj.RSV_LAT_AVG ||
  (Nat.ble 0x5400 i && Nat.blt i 0x5700 && k == Obj.MOVE_RATE_AVG ((i - 0x5400) / 8)) ||
  k == Obj.PWR_PIN_MW || k == Obj.PWR_VAUX_MV

/-- Counters of the FEC decoder: what they have gained is a free value. -/
def fecCounter (k : Nat) : Bool :=
  let i := k / 256
  Nat.ble 0x5800 i && Nat.blt i 0x59C0 && (k == Obj.PORT_FEC_CORR ((i - 0x5800) / 0x10) || k == Obj.PORT_FEC_UNCORR ((i - 0x5800) / 0x10))

/-- The die temperature or a sensor's. -/
def dieTemp (k : Nat) : Bool := k == Obj.PWR_TJ || (k / 256 == 0x7502 && k % 256 != 0)

/-- Pages go on being journaled while an activation runs (R409): how many have been by now is a free value, never below the last one. -/
def State.journaled (s : State) : State :=
  match s.upd.journal with
  | some j =>
    if s.rd Obj.UPD_STATE = 4 then
      let n := s.rd Obj.UPD_JOURNAL_DONE
      (s.wr Obj.UPD_JOURNAL_DONE (n + s.freeN % (max j.pages n + 1 - n))).used 1
    else s
  | none => s

/-- A reading is taken before its object is read. -/
def State.takeReading (s : State) (k : Nat) (t : Ty) : State :=
  if measured k then (s.wr k (s.freeN % 2 ^ t.bits)).used 1
  else if fecCounter k then (s.countN k s.freeN).used 1
  else if k = Obj.UPD_JOURNAL_DONE then s.journaled
  else if dieTemp k then s.sampleTj else s

/-- Objects whose value is computed when they are read. -/
def State.computed (s : State) (sess k : Nat) : Option Nat :=
  let i := k / 256
  if k = Obj.CONV_SYNC_NEXT then some s.syncNext
  else if k = Obj.CONV_TICK_NOW then some (s.tick % 2 ^ 64)
  else if k = Obj.PLMB_TIME_NOW then some (s.timeNow % 2 ^ 80)
  else if k = Obj.PLMB_UNCERT then some s.uncert
  else if 0x5800 ≤ i ∧ i < 0x59C0 ∧ i % 16 = 11 ∧ (k % 256 = 1 ∨ k % 256 = 2) then some (s.wireAvg (portOf k) (k % 256 == 2) % 2 ^ 64)
  else if k = Obj.DEV_SESS_SELF then some sess
  else if k = Obj.DEV_DICT_VER then some (s.ses sess).ver
  else if 0x1010 ≤ i ∧ i < 0x1018 ∧ k % 256 = 4 then
    some (s.requests (i - 0x1010) + b2n (i - 0x1010 == sess))
  else if i = 0x2011 ∧ k % 256 ≠ 0 then some (s.logWord sess (k % 256 - 1))
  else if k = Obj.SEC_CERT_LEN then some (s.certLen sess)
  else if i = 0x7204 ∧ k % 256 ≠ 0 then some (s.certWord sess (k % 256 - 1))
  else if k = Obj.SEC_ANCHOR_SET_HASH then some s.anchorHash
  else if k = Obj.UPD_MISSING then some s.updMissing
  else if k = Obj.UPD_LOCK_IDLE_S then some s.updIdleS
  else if k = Obj.DEV_POWER_HOURS then some (min (2 ^ 32 - 1) s.powerHours)
  else if k = Obj.DEV_UPTIME then some (match s.start.readyAt with
    | some t => (s.wall - t) % 2 ^ 64
    | none => 0)
  else none

/-- The value that a READ returns (R6, R348, R359): of an SH object the staged value or, with VIEW, the one in force; zero of a command. -/
def State.readValue (s : State) (sess k view : Nat) (row : Row) : Nat :=
  match s.computed sess k with
  | some v => v
  | none =>
    match row.acc with
    | .wo => 0
    | .sh => if (loadOf k).isSome then 0 else if view = 0 then s.staging sess k else s.rd k
    | _ => s.rd (sessKey sess k)

/-- A served READ: an RC object is zero afterwards, except when an observer reads it (R6). -/
def State.serveRead (s : State) (sess tag k view : Nat) (row : Row) : State :=
  let s := s.takeReading k row.ty
  let v := s.readValue sess k view row
  let s := if row.acc == .rc && (s.ses sess).role != 0 then s.wr (sessKey sess k) 0 else s
  s.respond sess tag k .ok 0 (row.ty.encode v)

/-- DICT_READ (R338). -/
def execDictRead (sess tag idx sub view nwords : Nat) (s : State) : Host.Outcome State Fault Refusal :=
  done s <|
    let k := key idx (sub % 256)
    (s.popRequest sess 2 tag idx sub).arrive sess tag k fun s =>
      match s.check sess k false (if nwords = 0 then some 0 else none) with
      | .fail st d => s.respond sess tag k st d
      | .pass row => s.serveRead sess tag k view row

/-! ## WRITE: commands of the data path -/

/-- The unit whose base is the highest at or below an object's index; the index may lie beyond the last unit. -/
def unitAt (base stride k : Nat) : Nat := (k / 256 - base) / stride

/-- A write of a value that no command lists. -/
def State.noCommand (s : State) (r : Req) : State := s.answer r .range

/-- A plain live write (R6). -/
def State.plainWrite (s : State) (v : Nat) (r : Req) : State :=
  match keyRow r.key with
  | none => s
  | some row => if row.acc == .wo then s.noCommand r else (s.liveWrite r.sess r.key row v).answer r .ok

/-- Converters (chapter 2). -/
def State.convWrite (s : State) (v : Nat) (r : Req) : State :=
  let ch := unitAt 0x3000 0x100 r.key
  if r.key = Obj.CONV_CAL_ALL then s.calAllCmd v r
  else if r.key = Obj.CONV_SYNC_MODE then s.syncModeCmd v r
  else if ch < 4 ∧ r.key = Obj.CONV_CAL_CMD ch then s.calCmd ch v r
  else if ch < 4 ∧ r.key = Obj.CONV_PATH_DELAY ch then s.pathDelay ch v r
  else if r.key = Obj.CONV_SYNC_PERIOD then s.syncPeriod v r
  else s.plainWrite v r

/-- Detectors and triggering (chapters 5 and 6). -/
def State.trigWrite (s : State) (v : Nat) (r : Req) : State :=
  let c := unitAt 0x4000 0x20 r.key
  let q := unitAt 0x4400 0x40 r.key
  let k := unitAt 0x4800 0x10 r.key
  let g := unitAt 0x4B00 0x10 r.key
  let u := unitAt 0x4B80 0x10 r.key
  let n := r.key % 256 - 1
  if c < 32 ∧ r.key = Obj.DET_HOLD_CLEAR c then s.holdClear c v r
  else if q < 16 ∧ r.key = Obj.TRIG_SEQ_REARM q then s.rearm q v r
  else if k < 32 ∧ r.key = Obj.TRIG_SRC_FORCE k then s.forceSource k v r
  else if g < 4 ∧ r.key = Obj.TRIG_GRP_ARM g then s.groupCommand g 0 v r
  else if g < 4 ∧ r.key = Obj.TRIG_GRP_DISARM g then s.groupCommand g 1 v r
  else if n < 4 ∧ r.key = Obj.TRIG_OUT_MODE n then s.writeOutMode n v r
  else if u < 4 ∧ r.key = Obj.TRIG_CAP_ARM u then s.armCapture u v r
  else s.plainWrite v r

/-- Planes, replay slots and movers (chapters 7 to 9). A halt or an abort takes effect at a beat boundary that is a free value here. -/
def State.storeWrite (s : State) (v : Nat) (r : Req) : State :=
  let p := unitAt 0x4C00 0x80 r.key
  let x := unitAt 0x5300 0x10 r.key
  let m := unitAt 0x5400 8 r.key
  if p < 8 ∧ r.key = Obj.CRYS_CLEAR p then s.clearCmd p v r
  else if p < 8 ∧ r.key = Obj.CRYS_HARV_CMD p then s.harvestCmd p v r
  else if x < 16 ∧ r.key = Obj.RSV_RPL_CMD x then s.replayCmd x v r
  else if m < 96 ∧ r.key = Obj.MOVE_CMD m then (s.used 1).moveCmd m v s.freeN r
  else if m < 96 ∧ r.key = Obj.MOVE_CLAIM m then
    (if v = 1 then s.moverClaim m r else if v = 2 then s.moverRelease m r else s.noCommand r)
  else if m < 96 ∧ r.key = Obj.MOVE_DESC_WRITE m then s.moverDesc m v r
  else s.plainWrite v r

/-- Flows, layers, clocks and the Plumb unit (chapters 11 to 14). -/
def State.edgeWrite (s : State) (v : Nat) (r : Req) : State :=
  let f := unitAt 0x6000 8 r.key
  let l := unitAt 0x6840 0x10 r.key
  if f < 256 ∧ r.key = Obj.FLOW_CLAIM f then (if v = 1 then s.flowClaim f r else if v = 2 then s.flowRelease f r else s.noCommand r)
  else if l < 4 ∧ r.key = Obj.SCAN_L_CLAIM l then
    (if v = 1 then s.layerClaim l r else if v = 2 then s.layerRelease l r else s.noCommand r)
  else if r.key = Obj.CLK_REF_SEL then s.refSelCmd v r
  else if r.key = Obj.CLK_CHANGE_CMD then s.changeCmd v r
  else if r.key = Obj.CLK_OUT_DIV then s.outDiv v r
  else if r.key = Obj.CLK_TEST then s.clkTest v r
  else if r.key = Obj.PLMB_CLAIM then (if v = 1 then s.plumbClaim r else if v = 2 then s.plumbRelease r else s.noCommand r)
  else if r.key = Obj.PLMB_RES_NEXT then s.resNext v r
  else if r.key = Obj.PLMB_TOD_NEXT then s.todNext v r
  else if r.key = Obj.PLMB_CONV_TICK then s.convTick v r
  else if r.key = Obj.PLMB_TIME_SRC then (s.timeSource v).plainWrite v r
  else if r.key = Obj.PLMB_PPS_OUT_EN then (s.ppsOutEnable v).plainWrite v r
  else s.plainWrite v r

/-! ## WRITE: commands of the control cluster -/

/-- A write of DEV_COMMIT (R349, R355). -/
def State.commitWrite (s : State) (v : Nat) (r : Req) : State :=
  match v with
  | 1 => s.commit r
  | 2 => s.validateOnly r
  | 3 => s.discardScope r
  | _ => s.noCommand r

/-- A write of SEC_ANCHOR_CMD: command in bits 23:16 below zeros, role in bits 15:8, slot in bits 7:0 (R362). -/
def State.anchorCmd (s : State) (v : Nat) (r : Req) : State :=
  let slot := v % 256
  if v / 2 ^ 16 = 1 then s.anchorInstall (v / 256 % 256) slot (Config.certSound (s.stagedCert r.sess slot)) r
  else if v / 2 ^ 16 = 2 then s.anchorRemove slot r
  else s.noCommand r

/-- TWIN_ENABLE and TWIN_PEER_ID: a refused pairing is tried again, and bring-up starts (R382, R399). -/
def State.twinWrite (s : State) (v : Nat) (r : Req) : State :=
  if r.key = Obj.TWIN_ENABLE && v = 0 then s.twinOff r
  else match keyRow r.key with
    | none => s
    | some row => ((s.liveWrite r.sess r.key row v).recheckTwin.twinBringUp).answer r .ok

/-- Sessions, identity, twin, power and diagnostics (chapters 15 to 20). -/
def State.controlWrite (s : State) (v : Nat) (r : Req) : State :=
  let n := unitAt 0x1010 1 r.key
  if r.key = Obj.DEV_COMMIT then s.commitWrite v r
  else if r.key = Obj.DEV_STORE then s.store v r
  else if n < 8 ∧ r.key = Obj.DEV_SESS_END n then s.sessEnd n v r
  else if r.key = Obj.SEC_ANCHOR_WRITE then s.anchorWrite v r
  else if r.key = Obj.SEC_ANCHOR_CMD then s.anchorCmd v r
  else if r.key = Obj.SEC_PROVISION then s.provision v r
  else if r.key = Obj.SEC_ATTEST_CMD then s.attest v r
  else if r.key = Obj.TWIN_ENABLE || r.key = Obj.TWIN_PEER_ID then s.twinWrite v r
  else if r.key = Obj.TWIN_CMD then s.twinCmd v r
  else if r.key = Obj.PWR_REQ then s.pwrRequest v r
  else if r.key = Obj.UPD_CONFIRM then s.updConfirm v r
  else if r.key = Obj.DIAG_RESET then s.diagReset v r
  else if r.key = Obj.DIAG_ALERT_ACK then s.alertAck v r
  else s.plainWrite v r

/-- A write of the firmware group under the update lock (R405). -/
def State.updBody (s : State) (v : Nat) (r : Req) : State :=
  if r.key = Obj.UPD_LOCK then s.updLock v r
  else if r.key = Obj.UPD_LENGTH then s.updLength v r
  else if r.key = Obj.UPD_OFFSET then s.updOffset v r
  else if r.key = Obj.UPD_DATA then s.updData v r
  else if r.key = Obj.UPD_VERIFY then s.updVerify v r
  else if r.key = Obj.UPD_ACTIVATE then (if v = 1 || v = 2 then s.updActivate v r else s.noCommand r)
  else s.plainWrite v r

/-- What a WRITE of a value that has passed the checks does, by the object's access and index. -/
def State.writeBody (s : State) (v : Nat) (r : Req) : State :=
  let i := r.key / 256
  match keyRow r.key with
  | none => s
  | some row =>
    if row.acc == .sh then s.stage r v
    else if isPortKey r.key then s.portWrite r v
    else if Nat.blt i 0x3000 || Nat.ble 0x7000 i then s.controlWrite v r
    else if Nat.blt i 0x3400 then s.convWrite v r
    else if Nat.blt i 0x4C00 then s.trigWrite v r
    else if Nat.blt i 0x5800 then s.storeWrite v r
    else s.edgeWrite v r

/-- Serve a WRITE of a decoded value, none where R5 is broken. -/
def State.serveWrite (s : State) (sess tag k : Nat) (v : Option Nat) : State :=
  if k = Obj.SEC_PROVISION && sess != 0 then s.arrive sess tag k fun s => s.respond sess tag k .denied
  else if Nat.ble 0x7400 (k / 256) && Nat.blt (k / 256) 0x7500 && k != Obj.UPD_CONFIRM then
    s.updWrite sess tag k v (k == Obj.UPD_LOCK && v == some 1) fun r s => s.updBody (v.getD 0) r
  else s.command sess tag k v fun r s => s.writeBody (v.getD 0) r

/-- DICT_WRITE (R338). -/
def execDictWrite (sess tag idx sub : Nat) (words : List Nat) (s : State) : Host.Outcome State Fault Refusal :=
  done s <|
    let k := key idx (sub % 256)
    let v := match keyRow k with
      | some row => row.ty.decode words
      | none => none
    (s.popRequest sess 3 tag idx sub).serveWrite sess tag k v

end Sys2Proof.Machine
end

