-- ==== Sys2Proof/Machine/Mirror.lean ====
section
/-! DEFINITION. What a standby does with the items its primary mirrors (R386, R388, R390, R401): commits, writes, sessions, ACK
effects, records, shed steps, device time and manifests. -/

namespace Sys2Proof.Machine

/-! ## Sessions and commits -/

/-- The request that stands for a mirrored one: tags of the dictionary end at 255. A session 0 is the engine's own, never the
primary's. -/
def State.mirrorReq (s : State) (sess tag k : Nat) : Req := ⟨sess, if sess = 0 then 0 else (s.ses sess).inc, tag, k⟩

/-- What a mirrored write leaves in the sessions' requests and frames: nothing. -/
def State.quiet (s t : State) (sess : Nat) : State :=
  t.updSes sess fun x => if sess = 0 then { x with txq := (s.ses 0).txq, tags := (s.ses 0).tags } else { x with tags := x.tags.filter fun n => Nat.blt n 256 }

/-- A mirrored write is served as if at the tick at which the primary served it, or on arrival when that is past (R388). -/
def State.mirrorWrite (s : State) (at_ sess k v : Nat) : State :=
  let now := s.tick
  let t := ({ s with tick := at_ } : State).writeBody v (s.mirrorReq sess 256 k)
  s.quiet { t with tick := now } sess

/-- A mirrored commit: the same requested tick and the same unit rules (R352). -/
def State.mirrorCommit (s : State) (at_ sess tag scope req cseq : Nat) (vals : List (Nat × Nat)) : State :=
  let r := s.mirrorReq sess tag Obj.DEV_COMMIT
  let tables := ((s.stagedOf sess).filter fun p => bitOf scope (groupOf p.1)).filterMap fun p => touchedTable p.1
  let w : Swap :=
    { id := s.swapId, req := r, sess := sess, seq := cseq, groups := scope, validating := false, served := at_, k := s.rd Obj.DEV_PVIN_SCALE
      reqTick := req, vals := vals, tables := tables.eraseDups.map fun i => (i, (s.load i).staged) }
  let w := { w with units := s.changesOf w req }
  let s := s.putCommitted w
  let s := s.dropStaged sess fun k => (vals.any fun p => p.1 == k) || (loadOf k).isSome && bitOf scope (groupOf k)
  let s := w.unitsNamed.foldl (fun s u => s.settleOwner sess u) s
  let s := s.putSmalls.showCommitted (w.units.map fun c => (c.group, c.unit))
  let s := { s with swaps := s.swaps ++ [w], swapId := s.swapId + 1, commits := cseq + 1 }
  if sess = 0 then s
  else s.wrAll [(sk sess Obj.DEV_COMMIT_STATE, 2), (sk sess Obj.DEV_COMMIT_SEQ, cseq), (sk sess Obj.DEV_JOINT_REQ, req)]

/-- A session of the primary: its state and keys are held here. -/
def State.mirrorOpen (s : State) (sess role dict secret port mac ip udp : Nat) : State :=
  if sess = 0 || Nat.ble 8 sess then s
  else
    let s := s.openSes sess dict role port
    let s := s.updSes sess fun x => { x with mirror := true, srcIp := ip, srcUdp := udp, srcMac := mac, secret := secret }
    (s.updFlow (248 + sess) fun _ => {}).wrAll [(Obj.FLOW_SEQ_NEXT (248 + sess), 0), (Obj.FLOW_CUM (248 + sess), 0)]

/-- A session of the primary ends, as if at the tick at which it did. -/
def State.mirrorEnd (s : State) (at_ sess : Nat) : State :=
  if sess = 0 || !(s.ses sess).mirror then s
  else
    let now := s.tick
    { ({ s with tick := at_ } : State).endSession sess with tick := now }

/-! ## The items -/

/-- The units that an item names (R401). -/
def mirroredUnits (b : MirrorBody) : List UnitId :=
  match b with
  | .snapshot _ _ _ _ _ vals => (vals.map fun p => ownId p.1).eraseDups
  | .write _ k _ => [ownId k]
  | _ => []

/-- The item comes after the point at which it should have taken effect (R388). -/
def State.isLate (s : State) (at_ : Nat) (b : MirrorBody) : Bool :=
  match b with
  | .snapshot _ _ _ req _ _ => Nat.blt req s.tick
  | .write .. => Nat.ble (at_ + 640000) s.tick
  | .shed .. => Nat.ble (at_ + 640000) s.tick
  | .entered f p .. => Nat.blt p (s.flow f).pos
  | _ => false

/-- A record of the primary waits for its place. -/
def State.mirrorRecord (s : State) (f p : Nat) (r : Record) : State :=
  (s.updTwin fun x => { x with entered := x.entered ++ [(f, p, r)] }).enterMirrored f

/-- A shed step of the primary (R385). -/
def State.mirrorShed (s : State) (event : Nat) (u : ShedUnit) : State :=
  let here := s.shed.units.find? fun v => v.cls == u.cls && v.unit == u.unit && v.product == u.product
  match event, here with
  | 0, none => s.shedOne u true
  | 1, some v => s.resumeOne v
  | _, _ => s

/-- The primary closed a segment: its manifest is the previous one (R386). -/
def State.mirrorManifest (s : State) (f hash : Nat) : State :=
  let s := s.updFlow f fun x => { x with custody := { x.custody with
    seg := x.custody.seg + 1, records := 0, words := [], firstSeq := 0, prevHash := hash } }
  s.wr (Obj.SEC_CUST_SEGMENT f) (s.flow f).custody.seg

/-- Apply an item. -/
def State.applyItem (s : State) (at_ : Nat) (late : Bool) (b : MirrorBody) : State :=
  match b with
  | .snapshot sess tag scope req cseq vals => if s.twin.steps = 3 then s.mirrorCommit at_ sess tag scope req cseq vals else s
  | .write sess k v => s.mirrorWrite (if late then s.tick else at_) sess k v
  | .sessionOpen sess role dict _ secret port mac ip udp => s.mirrorOpen sess role dict secret port mac ip udp
  | .sessionEnd sess => s.mirrorEnd at_ sess
  | .logEntry f seq tries p len firstRec tick port =>
    if Nat.ble 249 f then s else s.logItem ⟨f, seq, tries, p, len, firstRec, tick, port⟩
  | .ackEffect f a =>
    if Nat.ble 249 f || !s.flowSends f || ((s.flow f).ackSeq != 0 && !seqBefore ((s.flow f).ackSeq - 1) a.seq) then s
    else (s.takeAck f a).takeEntries s.twin.log.length f
  | .entered f p type srcKind srcIndex flags hdrExt tick payload =>
    if Nat.ble 249 f then s
    else s.mirrorRecord f p { type := type, srcKind := srcKind, srcIndex := srcIndex, flags := flags, hdrExt := hdrExt, tick := tick, payload := payload }
  | .shed cls event cause unit product sess => s.mirrorShed event { cls := cls, unit := unit, product := product, cause := cause, sess := sess }
  | .timePiece start time num den => s.updPlumb fun x => x.begin_ s.tick { start := start, time := time, num := num, den := den }
  | .streamStart f p tick =>
    if Nat.ble 249 f || s.twin.steps != 3 then s
    else (s.updFlow f fun x => x.startAt p tick).updTwin fun x => { x with begun := if x.begun.contains f then x.begun else f :: x.begun }
  | .manifest f hash => if Nat.ble 249 f then s else s.mirrorManifest f hash

/-- An item that this engine's firmware does not offer: the standby is not ready until its units are disabled (R401). -/
def State.notOffered (s : State) (b : MirrorBody) : State :=
  (s.updTwin fun x => { x with unoffered := (x.unoffered ++ mirroredUnits b).eraseDups }).wrAll
    [(Obj.TWIN_STATE, 4), (Obj.TWIN_NOT_READY, 4), (Obj.TWIN_READY_SINCE, 0)]

/-- MIRROR_ITEM (R386). -/
def execMirrorItem (m : MirrorItem) (s : State) : Host.Outcome State Fault Refusal :=
  done s <|
    if !s.isStandby || !s.paired then s
    else if !m.offered then (s.notOffered m.body).showMatch
    else
      let late := s.isLate m.at_ m.body
      let s := if late then s.count Obj.TWIN_MIRROR_LATE else s
      (s.applyItem m.at_ late m.body).showMatch

end Sys2Proof.Machine
end

