-- ==== Sys2Proof/Machine/Dispatch.lean ====
section
/-! DEFINITION. One arm per command: each calls its own meaning. -/

namespace Sys2Proof.Machine

/-- The effect of a command on everything but the queue of waiting commands. -/
def exec (i : Instr) (s : State) : Host.Outcome State Fault Refusal :=
  match i with
  | .converterBlockEntry ch prev raw next => Sys2Proof.Machine.execConverterBlockEntry ch prev raw next s
  | .floorScaleUpdate pvinMv => Sys2Proof.Machine.execFloorScaleUpdate pvinMv s
  | .convCalCmd sess tag ch v => Sys2Proof.Machine.execConvCalCmd sess tag ch v s
  | .convCalAll sess tag => Sys2Proof.Machine.execConvCalAll sess tag s
  | .boardPathSkewCmd sess tag => Sys2Proof.Machine.execBoardPathSkewCmd sess tag s
  | .boardPathSkewDone arrivals combOk => Sys2Proof.Machine.execBoardPathSkewDone arrivals combOk s
  | .calIntervalEnd ch off gain skew bw sourceOk tj => Sys2Proof.Machine.execCalIntervalEnd ch off gain skew bw sourceOk tj s
  | .calSetStored ch readBackOk => Sys2Proof.Machine.execCalSetStored ch readBackOk s
  | .trackingUpdate ch kind target powerOk => Sys2Proof.Machine.execTrackingUpdate ch kind target powerOk s
  | .syncAlignCmd sess tag => Sys2Proof.Machine.execSyncAlignCmd sess tag s
  | .syncModeOff sess tag => Sys2Proof.Machine.execSyncModeOff sess tag s
  | .syncModeCheck sess tag => Sys2Proof.Machine.execSyncModeCheck sess tag s
  | .syncCheckBoundary edges => Sys2Proof.Machine.execSyncCheckBoundary edges s
  | .convPathDelayWrite sess tag ch v => Sys2Proof.Machine.execConvPathDelayWrite sess tag ch v s
  | .tunerSampleRelease t => Sys2Proof.Machine.execTunerSampleRelease t s
  | .tunerJoint t => Sys2Proof.Machine.execTunerJoint t s
  | .tunerEnableJoint t => Sys2Proof.Machine.execTunerEnableJoint t s
  | .frameDispatch c => Sys2Proof.Machine.execFrameDispatch c s
  | .frameRelease c => Sys2Proof.Machine.execFrameRelease c s
  | .frameStagingSkip c => Sys2Proof.Machine.execFrameStagingSkip c s
  | .contextJoint c => Sys2Proof.Machine.execContextJoint c s
  | .xfmUwinWrite sess tag c v => Sys2Proof.Machine.execXfmUwinWrite sess tag c v s
  | .productPeriodRelease c => Sys2Proof.Machine.execProductPeriodRelease c s
  | .detHoldClear sess tag c v => Sys2Proof.Machine.execDetHoldClear sess tag c v s
  | .detectorJoint c => Sys2Proof.Machine.execDetectorJoint c s
  | .trigInEdge pin rising sixteenths => Sys2Proof.Machine.execTrigInEdge pin rising sixteenths s
  | .trigTimeEvent k => Sys2Proof.Machine.execTrigTimeEvent k s
  | .twinMarkReceive n posTick posFine => Sys2Proof.Machine.execTwinMarkReceive n posTick posFine s
  | .trigSrcForce sess tag k v => Sys2Proof.Machine.execTrigSrcForce sess tag k v s
  | .seqPosition n => Sys2Proof.Machine.execSeqPosition n s
  | .trigTimerExpiry n timer => Sys2Proof.Machine.execTrigTimerExpiry n timer s
  | .trigSeqRearm sess tag n v => Sys2Proof.Machine.execTrigSeqRearm sess tag n v s
  | .triggerJoint sess => Sys2Proof.Machine.execTriggerJoint sess s
  | .groupResolve g => Sys2Proof.Machine.execGroupResolve g s
  | .trigGrpArm sess tag g v => Sys2Proof.Machine.execTrigGrpArm sess tag g v s
  | .trigGrpDisarm sess tag g v => Sys2Proof.Machine.execTrigGrpDisarm sess tag g v s
  | .trigOutLaunch pin => Sys2Proof.Machine.execTrigOutLaunch pin s
  | .trigOutPulseEnd pin => Sys2Proof.Machine.execTrigOutPulseEnd pin s
  | .trigOutModeWrite sess tag pin v => Sys2Proof.Machine.execTrigOutModeWrite sess tag pin v s
  | .trigMaskSegsWrite sess tag m v => Sys2Proof.Machine.execTrigMaskSegsWrite sess tag m v s
  | .trigMaskWrite sess tag m v => Sys2Proof.Machine.execTrigMaskWrite sess tag m v s
  | .trigCapArm sess tag u v => Sys2Proof.Machine.execTrigCapArm sess tag u v s
  | .captureFillEnd u => Sys2Proof.Machine.execCaptureFillEnd u s
  | .captureSegmentRead u bad => Sys2Proof.Machine.execCaptureSegmentRead u bad s
  | .columnSetApply p => Sys2Proof.Machine.execColumnSetApply p s
  | .planeBoundary p => Sys2Proof.Machine.execPlaneBoundary p s
  | .harvestReadDone p => Sys2Proof.Machine.execHarvestReadDone p s
  | .crysClear sess tag p v => Sys2Proof.Machine.execCrysClear sess tag p v s
  | .crysHarvCmd sess tag p v => Sys2Proof.Machine.execCrysHarvCmd sess tag p v s
  | .histLineWrite h => Sys2Proof.Machine.execHistLineWrite h s
  | .histRingJoint h => Sys2Proof.Machine.execHistRingJoint h s
  | .reservoirRequestServe pch bank row addr corrected uncorrectable => Sys2Proof.Machine.execReservoirRequestServe pch bank row addr corrected uncorrectable s
  | .refreshDue stack tempQ8 => Sys2Proof.Machine.execRefreshDue stack tempQ8 s
  | .pchPowerDown pch => Sys2Proof.Machine.execPchPowerDown pch s
  | .pchRetrain pch ok fullOk => Sys2Proof.Machine.execPchRetrain pch ok fullOk s
  | .scrub pch addr corrected uncorrectable => Sys2Proof.Machine.execScrub pch addr corrected uncorrectable s
  | .reservoirTrainingDone failed => Sys2Proof.Machine.execReservoirTrainingDone failed s
  | .rsvRplStart sess tag x => Sys2Proof.Machine.execRsvRplStart sess tag x s
  | .rsvRplAbort sess tag x => Sys2Proof.Machine.execRsvRplAbort sess tag x s
  | .replayRead x uncorrectable => Sys2Proof.Machine.execReplayRead x uncorrectable s
  | .moveClaim sess tag m => Sys2Proof.Machine.execMoveClaim sess tag m s
  | .moveRelease sess tag m => Sys2Proof.Machine.execMoveRelease sess tag m s
  | .moveDescWrite sess tag m v => Sys2Proof.Machine.execMoveDescWrite sess tag m v s
  | .moveStart sess tag m => Sys2Proof.Machine.execMoveStart sess tag m s
  | .moveHalt sess tag m beats => Sys2Proof.Machine.execMoveHalt sess tag m beats s
  | .moveRetry sess tag m => Sys2Proof.Machine.execMoveRetry sess tag m s
  | .moveSkip sess tag m => Sys2Proof.Machine.execMoveSkip sess tag m s
  | .moveAbort sess tag m beats => Sys2Proof.Machine.execMoveAbort sess tag m beats s
  | .moveResume sess tag m => Sys2Proof.Machine.execMoveResume sess tag m s
  | .descriptorComplete m => Sys2Proof.Machine.execDescriptorComplete m s
  | .beatError m beat code dir => Sys2Proof.Machine.execBeatError m beat code dir s
  | .portConfigWrite sess tag k v => Sys2Proof.Machine.execPortConfigWrite sess tag k v s
  | .portLinkUp p media => Sys2Proof.Machine.execPortLinkUp p media s
  | .portLinkDown p => Sys2Proof.Machine.execPortLinkDown p s
  | .arpRequest p ip mac => Sys2Proof.Machine.execArpRequest p ip mac s
  | .ndSolicitation p ip mac => Sys2Proof.Machine.execNdSolicitation p ip mac s
  | .frameReceive p f => Sys2Proof.Machine.execFrameReceive p f s
  | .frameClose f => Sys2Proof.Machine.execFrameClose f s
  | .flowFlushTimer f => Sys2Proof.Machine.execFlowFlushTimer f s
  | .frameTransmit p => Sys2Proof.Machine.execFrameTransmit p s
  | .ackReceive p => Sys2Proof.Machine.execAckReceive p s
  | .rtoExpiry f seq => Sys2Proof.Machine.execRtoExpiry f seq s
  | .flowStall f => Sys2Proof.Machine.execFlowStall f s
  | .receiveFlowData p => Sys2Proof.Machine.execReceiveFlowData p s
  | .receiveFlowAckTimer f => Sys2Proof.Machine.execReceiveFlowAckTimer f s
  | .flowClaim sess tag f => Sys2Proof.Machine.execFlowClaim sess tag f s
  | .flowRelease sess tag f => Sys2Proof.Machine.execFlowRelease sess tag f s
  | .flowEnableJoint f => Sys2Proof.Machine.execFlowEnableJoint f s
  | .flowDisableJoint f => Sys2Proof.Machine.execFlowDisableJoint f s
  | .flowDrainEnd f => Sys2Proof.Machine.execFlowDrainEnd f s
  | .openSegmentReceive p => Sys2Proof.Machine.execOpenSegmentReceive p s
  | .openReassemblyTimeout srcIp srcUdp => Sys2Proof.Machine.execOpenReassemblyTimeout srcIp srcUdp s
  | .openSession o => Sys2Proof.Machine.execOpenSession o s
  | .closeFrame p => Sys2Proof.Machine.execCloseFrame p s
  | .scanLineSend y missing => Sys2Proof.Machine.execScanLineSend y missing s
  | .scanCrcCheck pad => Sys2Proof.Machine.execScanCrcCheck pad s
  | .layerBufferRelease l => Sys2Proof.Machine.execLayerBufferRelease l s
  | .scanLClaim sess tag l => Sys2Proof.Machine.execScanLClaim sess tag l s
  | .scanLRelease sess tag l => Sys2Proof.Machine.execScanLRelease sess tag l s
  | .scanLPalWrite sess tag l v => Sys2Proof.Machine.execScanLPalWrite sess tag l v s
  | .refPresenceChange r st ppb => Sys2Proof.Machine.execRefPresenceChange r st ppb s
  | .holdoverTrim tj => Sys2Proof.Machine.execHoldoverTrim tj s
  | .clkRefSelWrite sess tag v => Sys2Proof.Machine.execClkRefSelWrite sess tag v s
  | .clkChangeCmd sess tag v => Sys2Proof.Machine.execClkChangeCmd sess tag v s
  | .clkChangeResume syncEdge => Sys2Proof.Machine.execClkChangeResume syncEdge s
  | .clkOutDivWrite sess tag v => Sys2Proof.Machine.execClkOutDivWrite sess tag v s
  | .clkTest sess tag v => Sys2Proof.Machine.execClkTest sess tag v s
  | .clkTestDone fs => Sys2Proof.Machine.execClkTestDone fs s
  | .plmbClaim sess tag => Sys2Proof.Machine.execPlmbClaim sess tag s
  | .plmbRelease sess tag => Sys2Proof.Machine.execPlmbRelease sess tag s
  | .plmbEdge input rising tick fine => Sys2Proof.Machine.execPlmbEdge input rising tick fine s
  | .plmbResNext sess tag v => Sys2Proof.Machine.execPlmbResNext sess tag v s
  | .cntPoint n tick fine outOfRange => Sys2Proof.Machine.execCntPoint n tick fine outOfRange s
  | .ppsInEdge tick fine => Sys2Proof.Machine.execPpsInEdge tick fine s
  | .plmbTodNext sess tag v => Sys2Proof.Machine.execPlmbTodNext sess tag v s
  | .ptpMessageReceive offset rtt utc => Sys2Proof.Machine.execPtpMessageReceive offset rtt utc s
  | .plmbConvTickWrite sess tag v => Sys2Proof.Machine.execPlmbConvTickWrite sess tag v s
  | .i3cDynamicAddress cmd addr => Sys2Proof.Machine.execI3cDynamicAddress cmd addr s
  | .i3cCommonCommand code arg => Sys2Proof.Machine.execI3cCommonCommand code arg s
  | .i3cPrivateWrite ddr code octets => Sys2Proof.Machine.execI3cPrivateWrite ddr code octets s
  | .i3cPrivateRead ddr code got => Sys2Proof.Machine.execI3cPrivateRead ddr code got s
  | .hello sess tag vmin vmax wellFormed => Sys2Proof.Machine.execHello sess tag vmin vmax wellFormed s
  | .dictRead sess tag idx sub view nwords => Sys2Proof.Machine.execDictRead sess tag idx sub view nwords s
  | .dictWrite sess tag idx sub words => Sys2Proof.Machine.execDictWrite sess tag idx sub words s
  | .close sess tag wellFormed => Sys2Proof.Machine.execClose sess tag wellFormed s
  | .sessionIdleTimeout n => Sys2Proof.Machine.execSessionIdleTimeout n s
  | .devSessEnd sess tag n v => Sys2Proof.Machine.execDevSessEnd sess tag n v s
  | .sessionEndJoint n => Sys2Proof.Machine.execSessionEndJoint n s
  | .devCommit sess tag => Sys2Proof.Machine.execDevCommit sess tag s
  | .commitValidated sess => Sys2Proof.Machine.execCommitValidated sess s
  | .devCommitValidate sess tag => Sys2Proof.Machine.execDevCommitValidate sess tag s
  | .devCommitDiscard sess tag => Sys2Proof.Machine.execDevCommitDiscard sess tag s
  | .swapComplete sess => Sys2Proof.Machine.execSwapComplete sess s
  | .devStore sess tag => Sys2Proof.Machine.execDevStore sess tag s
  | .storeRun sess => Sys2Proof.Machine.execStoreRun sess s
  | .secAnchorWrite sess tag v => Sys2Proof.Machine.execSecAnchorWrite sess tag v s
  | .secAnchorInstall sess tag role slot parses p384 ca selfSigned => Sys2Proof.Machine.execSecAnchorInstall sess tag role slot parses p384 ca selfSigned s
  | .secAnchorRemove sess tag slot => Sys2Proof.Machine.execSecAnchorRemove sess tag slot s
  | .secProvision sess tag v => Sys2Proof.Machine.execSecProvision sess tag v s
  | .secAttestCmd sess tag v => Sys2Proof.Machine.execSecAttestCmd sess tag v s
  | .attestDone sess => Sys2Proof.Machine.execAttestDone sess s
  | .custodySegmentClose f => Sys2Proof.Machine.execCustodySegmentClose f s
  | .tenonLaneTrained lane => Sys2Proof.Machine.execTenonLaneTrained lane s
  | .tenonHello p => Sys2Proof.Machine.execTenonHello p s
  | .tenonLaneDrop lane => Sys2Proof.Machine.execTenonLaneDrop lane s
  | .mirrorItem m => Sys2Proof.Machine.execMirrorItem m s
  | .logEntryAck f seq tries => Sys2Proof.Machine.execLogEntryAck f seq tries s
  | .heartbeatReceive ready cseq sense sinceNs peerState floors => Sys2Proof.Machine.execHeartbeatReceive ready cseq sense sinceNs peerState floors s
  | .twinFaultMessage cause => Sys2Proof.Machine.execTwinFaultMessage cause s
  | .substRetx f seq => Sys2Proof.Machine.execSubstRetx f seq s
  | .twinHandoverCmd sess tag => Sys2Proof.Machine.execTwinHandoverCmd sess tag s
  | .twinDetachCmd sess tag => Sys2Proof.Machine.execTwinDetachCmd sess tag s
  | .twinEnableFalse sess tag => Sys2Proof.Machine.execTwinEnableFalse sess tag s
  | .standbySnapshotApply js vals owners clockEqual => Sys2Proof.Machine.execStandbySnapshotApply js vals owners clockEqual s
  | .updLockTake sess tag => Sys2Proof.Machine.execUpdLockTake sess tag s
  | .updLockRelease sess tag => Sys2Proof.Machine.execUpdLockRelease sess tag s
  | .updLength sess tag v => Sys2Proof.Machine.execUpdLength sess tag v s
  | .updOffsetWrite sess tag v => Sys2Proof.Machine.execUpdOffsetWrite sess tag v s
  | .updData sess tag v => Sys2Proof.Machine.execUpdData sess tag v s
  | .updVerify sess tag v => Sys2Proof.Machine.execUpdVerify sess tag v s
  | .updVerifyDone signatureOk => Sys2Proof.Machine.execUpdVerifyDone signatureOk s
  | .updActivateHandover sess tag => Sys2Proof.Machine.execUpdActivateHandover sess tag s
  | .updActivateRestart sess tag => Sys2Proof.Machine.execUpdActivateRestart sess tag s
  | .updMramFail page => Sys2Proof.Machine.execUpdMramFail page s
  | .stateHandoverComplete ms checksOk => Sys2Proof.Machine.execStateHandoverComplete ms checksOk s
  | .updConfirm sess tag v => Sys2Proof.Machine.execUpdConfirm sess tag v s
  | .probationFail code => Sys2Proof.Machine.execProbationFail code s
  | .loaderTwinFetch linkUp twinSends image => Sys2Proof.Machine.execLoaderTwinFetch linkUp twinSends image s
  | .pwrReqService sess tag => Sys2Proof.Machine.execPwrReqService sess tag s
  | .pwrReqHold sess tag => Sys2Proof.Machine.execPwrReqHold sess tag s
  | .pwrReqWatch sess tag => Sys2Proof.Machine.execPwrReqWatch sess tag s
  | .pwrReqDormant sess tag => Sys2Proof.Machine.execPwrReqDormant sess tag s
  | .handshakeDeferExpiry row => Sys2Proof.Machine.execHandshakeDeferExpiry row s
  | .forcedDormant cause arg => Sys2Proof.Machine.execForcedDormant cause arg s
  | .coreVoltageAdjust slice slack above8For20us iinMa => Sys2Proof.Machine.execCoreVoltageAdjust slice slack above8For20us iinMa s
  | .thermEmergBegin sensor temp => Sys2Proof.Machine.execThermEmergBegin sensor temp s
  | .thermEmergClear temps => Sys2Proof.Machine.execThermEmergClear temps s
  | .wakeTrigIn pin => Sys2Proof.Machine.execWakeTrigIn pin s
  | .watchBurstStart w => Sys2Proof.Machine.execWatchBurstStart w s
  | .watchBurstEnd w hit => Sys2Proof.Machine.execWatchBurstEnd w hit s
  | .pvinValid addrSel tj => Sys2Proof.Machine.execPvinValid addrSel tj s
  | .imageLoaded hashOk => Sys2Proof.Machine.execImageLoaded hashOk s
  | .controlSetReady passed => Sys2Proof.Machine.execControlSetReady passed s
  | .selfTestEnd slices channels ports lanes master stopBank dsi planes remapKib lostKib => Sys2Proof.Machine.execSelfTestEnd slices channels ports lanes master stopBank dsi planes remapKib lostKib s
  | .ready failedGroups => Sys2Proof.Machine.execReady failedGroups s
  | .resetNRise addrSel => Sys2Proof.Machine.execResetNRise addrSel s
  | .diagReset sess tag v => Sys2Proof.Machine.execDiagReset sess tag v s
  | .sliceFail slice noHandshake => Sys2Proof.Machine.execSliceFail slice noHandshake s
  | .diagAlertAck sess tag v => Sys2Proof.Machine.execDiagAlertAck sess tag v s
  | .convJoint ch => Sys2Proof.Machine.execConvJoint ch s
  | .moveBufferJoint m => Sys2Proof.Machine.execMoveBufferJoint m s
  | .tokenCheckFailure slice src seq => Sys2Proof.Machine.execTokenCheckFailure slice src seq s
  | .snapshotReceipt sess => Sys2Proof.Machine.execSnapshotReceipt sess s
  | .snapshotReceiptTimeout sess => Sys2Proof.Machine.execSnapshotReceiptTimeout sess s
  | .forwardedAckReceive f ack => Sys2Proof.Machine.execForwardedAckReceive f ack s
  | .shedStep => Sys2Proof.Machine.execShedStep s
  | .shedRestore => Sys2Proof.Machine.execShedRestore s
  | .syncAlignEdge => Sys2Proof.Machine.execSyncAlignEdge s
  | .syncAlignTimeout => Sys2Proof.Machine.execSyncAlignTimeout s
  | .syncOutPulse => Sys2Proof.Machine.execSyncOutPulse s
  | .timeAnchorEmit => Sys2Proof.Machine.execTimeAnchorEmit s
  | .statusEmit => Sys2Proof.Machine.execStatusEmit s
  | .scanLatch => Sys2Proof.Machine.execScanLatch s
  | .teInEdge => Sys2Proof.Machine.execTeInEdge s
  | .scanTeTimeout => Sys2Proof.Machine.execScanTeTimeout s
  | .densityRenderDone => Sys2Proof.Machine.execDensityRenderDone s
  | .refEdgeMiss => Sys2Proof.Machine.execRefEdgeMiss s
  | .clkHoldLong => Sys2Proof.Machine.execClkHoldLong s
  | .pullInDone => Sys2Proof.Machine.execPullInDone s
  | .refRevert => Sys2Proof.Machine.execRefRevert s
  | .masterLock => Sys2Proof.Machine.execMasterLock s
  | .lockTimeout => Sys2Proof.Machine.execLockTimeout s
  | .masterUnlock => Sys2Proof.Machine.execMasterUnlock s
  | .clkChangeGate => Sys2Proof.Machine.execClkChangeGate s
  | .plmbTimeStart => Sys2Proof.Machine.execPlmbTimeStart s
  | .plmbMeasureClose => Sys2Proof.Machine.execPlmbMeasureClose s
  | .plmbStopUnmatched => Sys2Proof.Machine.execPlmbStopUnmatched s
  | .plumbJoint => Sys2Proof.Machine.execPlumbJoint s
  | .cntGateEnd => Sys2Proof.Machine.execCntGateEnd s
  | .cntAbsent => Sys2Proof.Machine.execCntAbsent s
  | .ppsMiss => Sys2Proof.Machine.execPpsMiss s
  | .ppsOutRise => Sys2Proof.Machine.execPpsOutRise s
  | .ppsOutFall => Sys2Proof.Machine.execPpsOutFall s
  | .rstdaa => Sys2Proof.Machine.execRstdaa s
  | .rstactInterface => Sys2Proof.Machine.execRstactInterface s
  | .rstactEngine => Sys2Proof.Machine.execRstactEngine s
  | .ibiRequest => Sys2Proof.Machine.execIbiRequest s
  | .twinSenseRise => Sys2Proof.Machine.execTwinSenseRise s
  | .twinSenseFall => Sys2Proof.Machine.execTwinSenseFall s
  | .heartbeatLoss => Sys2Proof.Machine.execHeartbeatLoss s
  | .logAckTimeout => Sys2Proof.Machine.execLogAckTimeout s
  | .twinYield => Sys2Proof.Machine.execTwinYield s
  | .takeoverGuardEnd => Sys2Proof.Machine.execTakeoverGuardEnd s
  | .takeover => Sys2Proof.Machine.execTakeover s
  | .twinHandoverAt => Sys2Proof.Machine.execTwinHandoverAt s
  | .twinDetachAt => Sys2Proof.Machine.execTwinDetachAt s
  | .standbyReady => Sys2Proof.Machine.execStandbyReady s
  | .updLockIdleTimeout => Sys2Proof.Machine.execUpdLockIdleTimeout s
  | .journalClose => Sys2Proof.Machine.execJournalClose s
  | .twinImageRequest => Sys2Proof.Machine.execTwinImageRequest s
  | .pwrSuspend => Sys2Proof.Machine.execPwrSuspend s
  | .pwrDrainEnd => Sys2Proof.Machine.execPwrDrainEnd s
  | .pwrDomainsDone => Sys2Proof.Machine.execPwrDomainsDone s
  | .pwrResume => Sys2Proof.Machine.execPwrResume s
  | .undervoltageShutdown => Sys2Proof.Machine.execUndervoltageShutdown s
  | .thermalTrip => Sys2Proof.Machine.execThermalTrip s
  | .wakeN => Sys2Proof.Machine.execWakeN s
  | .wakeTimer => Sys2Proof.Machine.execWakeTimer s
  | .vauxValid => Sys2Proof.Machine.execVauxValid s
  | .railsInRegulation => Sys2Proof.Machine.execRailsInRegulation s
  | .startSlow => Sys2Proof.Machine.execStartSlow s
  | .resetNFall => Sys2Proof.Machine.execResetNFall s
  | .vauxLoss => Sys2Proof.Machine.execVauxLoss s
  | .watchdog => Sys2Proof.Machine.execWatchdog s
  | .logSnapshot => Sys2Proof.Machine.execLogSnapshot s
  | .tickLimitJoint => Sys2Proof.Machine.execTickLimitJoint s
  | .heartbeatSend => Sys2Proof.Machine.execHeartbeatSend s

end Sys2Proof.Machine
end

