-- ==== Sys2Proof/Machine/Idle.lean ====
section
/-! DEFINITION. What a step does when no command waits: one converter period passes (log entry 15). -/

namespace Sys2Proof.Machine

/-- The fabric takes the oldest block of a channel's queue where the free value says so (R13; log entry 16). -/
def State.fabricTakes (s : State) (ch : Nat) : State :=
  if (s.chan ch).fill = 0 then s
  else
    let take := s.freeN % 2 == 1
    let s := s.used 1
    if take then s.updChan ch fun x => { x with fill := x.fill - 1 } else s

/-- One converter period passes: the wall time and, while it counts, the tick index advance by one (R47). -/
def State.idle (s : State) : State :=
  let s := (List.range 4).foldl State.fabricTakes s.noteTrouble
  { s with wall := s.wall + 1, tick := if s.conv.counts then s.tick + 1 else s.tick }

end Sys2Proof.Machine
end

