-- ==== Sys2Proof/WellFormed.lean ====
section
/-! DEFINITION. Which commands are well formed: unit numbers, sessions, tags and words lie in the ranges that the engine
has. A command outside them reaches no unit of the engine. -/

namespace Sys2Proof

/-- The command names units the engine has (Tables 1.3, 2.8, 3.7, 4.6, 5.6, 6.10, 7.6, 8.7, 9.5, 11.8, 15.3). -/
def Instr.wf : Instr → Bool
  | .converterBlockEntry ch _ raw _ => Nat.blt ch 4 && raw.length == 64
  | .floorScaleUpdate _ => true
  | .convCalCmd sess tag ch v => Nat.blt sess 8 && Nat.blt tag 256 && Nat.blt ch 4 && Nat.blt v (2 ^ 1024)
  | .convCalAll sess tag => Nat.blt sess 8 && Nat.blt tag 256
  | .boardPathSkewCmd sess tag => Nat.blt sess 8 && Nat.blt tag 256
  | .boardPathSkewDone _ _ => true
  | .calIntervalEnd ch _ _ _ _ _ _ => Nat.blt ch 4
  | .calSetStored ch _ => Nat.blt ch 4
  | .trackingUpdate ch kind _ _ => Nat.blt ch 4 && Nat.blt kind 3
  | .syncAlignCmd sess tag => Nat.blt sess 8 && Nat.blt tag 256
  | .syncModeOff sess tag => Nat.blt sess 8 && Nat.blt tag 256
  | .syncModeCheck sess tag => Nat.blt sess 8 && Nat.blt tag 256
  | .syncCheckBoundary _ => true
  | .convPathDelayWrite sess tag ch v => Nat.blt sess 8 && Nat.blt tag 256 && Nat.blt ch 4 && Nat.blt v (2 ^ 1024)
  | .tunerSampleRelease t => Nat.blt t 16
  | .tunerJoint t => Nat.blt t 16
  | .tunerEnableJoint t => Nat.blt t 16
  | .frameDispatch c => Nat.blt c 32
  | .frameRelease c => Nat.blt c 32
  | .frameStagingSkip c => Nat.blt c 32
  | .contextJoint c => Nat.blt c 32
  | .xfmUwinWrite sess tag c v => Nat.blt sess 8 && Nat.blt tag 256 && Nat.blt c 32 && Nat.blt v (2 ^ 1024)
  | .productPeriodRelease c => Nat.blt c 32
  | .detHoldClear sess tag c v => Nat.blt sess 8 && Nat.blt tag 256 && Nat.blt c 32 && Nat.blt v (2 ^ 1024)
  | .detectorJoint c => Nat.blt c 32
  | .trigInEdge pin _ _ => Nat.blt pin 4
  | .trigTimeEvent k => Nat.blt k 32
  | .twinMarkReceive s _ _ => Nat.blt s 32
  | .trigSrcForce sess tag k v => Nat.blt sess 8 && Nat.blt tag 256 && Nat.blt k 32 && Nat.blt v (2 ^ 1024)
  | .seqPosition s => Nat.blt s 16
  | .trigTimerExpiry s timer => Nat.blt s 16 && Nat.blt timer 4
  | .trigSeqRearm sess tag s v => Nat.blt sess 8 && Nat.blt tag 256 && Nat.blt s 16 && Nat.blt v (2 ^ 1024)
  | .triggerJoint sess => Nat.blt sess 255
  | .groupResolve g => Nat.blt g 4
  | .trigGrpArm sess tag g v => Nat.blt sess 8 && Nat.blt tag 256 && Nat.blt g 4 && Nat.blt v (2 ^ 1024)
  | .trigGrpDisarm sess tag g v => Nat.blt sess 8 && Nat.blt tag 256 && Nat.blt g 4 && Nat.blt v (2 ^ 1024)
  | .trigOutLaunch pin => Nat.blt pin 4
  | .trigOutPulseEnd pin => Nat.blt pin 4
  | .trigOutModeWrite sess tag pin v => Nat.blt sess 8 && Nat.blt tag 256 && Nat.blt pin 4 && Nat.blt v (2 ^ 1024)
  | .trigMaskSegsWrite sess tag m v => Nat.blt sess 8 && Nat.blt tag 256 && Nat.blt m 16 && Nat.blt v (2 ^ 1024)
  | .trigMaskWrite sess tag m v => Nat.blt sess 8 && Nat.blt tag 256 && Nat.blt m 16 && Nat.blt v (2 ^ 1024)
  | .trigCapArm sess tag u v => Nat.blt sess 8 && Nat.blt tag 256 && Nat.blt u 4 && Nat.blt v (2 ^ 1024)
  | .captureFillEnd u => Nat.blt u 4
  | .captureSegmentRead u _ => Nat.blt u 4
  | .columnSetApply p => Nat.blt p 8
  | .planeBoundary p => Nat.blt p 8
  | .harvestReadDone p => Nat.blt p 8
  | .crysClear sess tag p v => Nat.blt sess 8 && Nat.blt tag 256 && Nat.blt p 8 && Nat.blt v (2 ^ 1024)
  | .crysHarvCmd sess tag p v => Nat.blt sess 8 && Nat.blt tag 256 && Nat.blt p 8 && Nat.blt v (2 ^ 1024)
  | .histLineWrite h => Nat.blt h 20
  | .histRingJoint h => Nat.blt h 36
  | .reservoirRequestServe pch bank _ _ _ _ => Nat.blt pch 128 && Nat.blt bank 16
  | .refreshDue stack _ => Nat.blt stack 4
  | .pchPowerDown pch => Nat.blt pch 128
  | .pchRetrain pch _ _ => Nat.blt pch 128
  | .scrub pch _ _ _ => Nat.blt pch 128
  | .reservoirTrainingDone _ => true
  | .rsvRplStart sess tag x => Nat.blt sess 8 && Nat.blt tag 256 && Nat.blt x 16
  | .rsvRplAbort sess tag x => Nat.blt sess 8 && Nat.blt tag 256 && Nat.blt x 16
  | .replayRead x _ => Nat.blt x 16
  | .moveClaim sess tag m => Nat.blt sess 8 && Nat.blt tag 256 && Nat.blt m 96
  | .moveRelease sess tag m => Nat.blt sess 8 && Nat.blt tag 256 && Nat.blt m 96
  | .moveDescWrite sess tag m v => Nat.blt sess 8 && Nat.blt tag 256 && Nat.blt m 96 && Nat.blt v (2 ^ 1024)
  | .moveStart sess tag m => Nat.blt sess 8 && Nat.blt tag 256 && Nat.blt m 96
  | .moveHalt sess tag m _ => Nat.blt sess 8 && Nat.blt tag 256 && Nat.blt m 96
  | .moveRetry sess tag m => Nat.blt sess 8 && Nat.blt tag 256 && Nat.blt m 96
  | .moveSkip sess tag m => Nat.blt sess 8 && Nat.blt tag 256 && Nat.blt m 96
  | .moveAbort sess tag m _ => Nat.blt sess 8 && Nat.blt tag 256 && Nat.blt m 96
  | .moveResume sess tag m => Nat.blt sess 8 && Nat.blt tag 256 && Nat.blt m 96
  | .descriptorComplete m => Nat.blt m 96
  | .beatError m _ _ _ => Nat.blt m 96
  | .portConfigWrite sess tag k v => Nat.blt sess 8 && Nat.blt tag 256 && Nat.blt k 16777216 && Nat.blt v (2 ^ 1024)
  | .portLinkUp p _ => Nat.blt p 28
  | .portLinkDown p => Nat.blt p 28
  | .arpRequest p _ _ => Nat.blt p 28
  | .ndSolicitation p _ _ => Nat.blt p 28
  | .frameReceive p _ => Nat.blt p 28
  | .frameClose f => Nat.blt f 256
  | .flowFlushTimer f => Nat.blt f 256
  | .frameTransmit p => Nat.blt p 28
  | .ackReceive p => Nat.blt p 28
  | .rtoExpiry f _ => Nat.blt f 256
  | .flowStall f => Nat.blt f 256
  | .receiveFlowData p => Nat.blt p 28
  | .receiveFlowAckTimer f => Nat.blt f 256
  | .flowClaim sess tag f => Nat.blt sess 8 && Nat.blt tag 256 && Nat.blt f 256
  | .flowRelease sess tag f => Nat.blt sess 8 && Nat.blt tag 256 && Nat.blt f 256
  | .flowEnableJoint f => Nat.blt f 256
  | .flowDisableJoint f => Nat.blt f 256
  | .flowDrainEnd f => Nat.blt f 256
  | .openSegmentReceive p => Nat.blt p 28
  | .openReassemblyTimeout _ _ => true
  | .openSession _ => true
  | .closeFrame p => Nat.blt p 28
  | .scanLineSend _ _ => true
  | .scanCrcCheck _ => true
  | .layerBufferRelease l => Nat.blt l 4
  | .scanLClaim sess tag l => Nat.blt sess 8 && Nat.blt tag 256 && Nat.blt l 4
  | .scanLRelease sess tag l => Nat.blt sess 8 && Nat.blt tag 256 && Nat.blt l 4
  | .scanLPalWrite sess tag l v => Nat.blt sess 8 && Nat.blt tag 256 && Nat.blt l 4 && Nat.blt v (2 ^ 1024)
  | .refPresenceChange r st _ => Nat.blt r 2 && Nat.blt st 4
  | .holdoverTrim _ => true
  | .clkRefSelWrite sess tag v => Nat.blt sess 8 && Nat.blt tag 256 && Nat.blt v (2 ^ 1024)
  | .clkChangeCmd sess tag v => Nat.blt sess 8 && Nat.blt tag 256 && Nat.blt v (2 ^ 1024)
  | .clkChangeResume _ => true
  | .clkOutDivWrite sess tag v => Nat.blt sess 8 && Nat.blt tag 256 && Nat.blt v (2 ^ 1024)
  | .clkTest sess tag v => Nat.blt sess 8 && Nat.blt tag 256 && Nat.blt v (2 ^ 1024)
  | .clkTestDone _ => true
  | .plmbClaim sess tag => Nat.blt sess 8 && Nat.blt tag 256
  | .plmbRelease sess tag => Nat.blt sess 8 && Nat.blt tag 256
  | .plmbEdge input _ _ _ => Nat.blt input 10
  | .plmbResNext sess tag v => Nat.blt sess 8 && Nat.blt tag 256 && Nat.blt v (2 ^ 1024)
  | .cntPoint _ _ _ _ => true
  | .ppsInEdge _ _ => true
  | .plmbTodNext sess tag v => Nat.blt sess 8 && Nat.blt tag 256 && Nat.blt v (2 ^ 1024)
  | .ptpMessageReceive _ _ _ => true
  | .plmbConvTickWrite sess tag v => Nat.blt sess 8 && Nat.blt tag 256 && Nat.blt v (2 ^ 1024)
  | .i3cDynamicAddress _ _ => true
  | .i3cCommonCommand _ _ => true
  | .i3cPrivateWrite _ _ _ => true
  | .i3cPrivateRead _ _ _ => true
  | .hello sess tag _ _ _ => Nat.blt sess 8 && Nat.blt tag 256
  | .dictRead sess tag idx sub _ _ => Nat.blt sess 8 && Nat.blt tag 256 && Nat.blt idx 65536 && Nat.blt sub 256
  | .dictWrite sess tag idx sub words => Nat.blt sess 8 && Nat.blt tag 256 && Nat.blt idx 65536 && Nat.blt sub 256 && words.all (fun w => Nat.blt w (2 ^ 36))
  | .close sess tag _ => Nat.blt sess 8 && Nat.blt tag 256
  | .sessionIdleTimeout s => Nat.blt s 8
  | .devSessEnd sess tag s v => Nat.blt sess 8 && Nat.blt tag 256 && Nat.blt s 8 && Nat.blt v (2 ^ 1024)
  | .sessionEndJoint s => Nat.blt s 8
  | .devCommit sess tag => Nat.blt sess 8 && Nat.blt tag 256
  | .commitValidated sess => Nat.blt sess 8
  | .devCommitValidate sess tag => Nat.blt sess 8 && Nat.blt tag 256
  | .devCommitDiscard sess tag => Nat.blt sess 8 && Nat.blt tag 256
  | .swapComplete sess => Nat.blt sess 255
  | .devStore sess tag => Nat.blt sess 8 && Nat.blt tag 256
  | .storeRun sess => Nat.blt sess 8
  | .secAnchorWrite sess tag v => Nat.blt sess 8 && Nat.blt tag 256 && Nat.blt v (2 ^ 1024)
  | .secAnchorInstall sess tag _ _ _ _ _ _ => Nat.blt sess 8 && Nat.blt tag 256
  | .secAnchorRemove sess tag _ => Nat.blt sess 8 && Nat.blt tag 256
  | .secProvision sess tag v => Nat.blt sess 8 && Nat.blt tag 256 && Nat.blt v (2 ^ 1024)
  | .secAttestCmd sess tag v => Nat.blt sess 8 && Nat.blt tag 256 && Nat.blt v (2 ^ 1024)
  | .attestDone sess => Nat.blt sess 8
  | .custodySegmentClose f => Nat.blt f 256
  | .tenonLaneTrained lane => Nat.blt lane 4
  | .tenonHello _ => true
  | .tenonLaneDrop lane => Nat.blt lane 4
  | .mirrorItem _ => true
  | .logEntryAck f _ _ => Nat.blt f 256
  | .heartbeatReceive _ _ _ _ _ _ => true
  | .twinFaultMessage _ => true
  | .substRetx f _ => Nat.blt f 256
  | .twinHandoverCmd sess tag => Nat.blt sess 8 && Nat.blt tag 256
  | .twinDetachCmd sess tag => Nat.blt sess 8 && Nat.blt tag 256
  | .twinEnableFalse sess tag => Nat.blt sess 8 && Nat.blt tag 256
  | .standbySnapshotApply _ _ _ _ => true
  | .updLockTake sess tag => Nat.blt sess 8 && Nat.blt tag 256
  | .updLockRelease sess tag => Nat.blt sess 8 && Nat.blt tag 256
  | .updLength sess tag v => Nat.blt sess 8 && Nat.blt tag 256 && Nat.blt v (2 ^ 1024)
  | .updOffsetWrite sess tag v => Nat.blt sess 8 && Nat.blt tag 256 && Nat.blt v (2 ^ 1024)
  | .updData sess tag v => Nat.blt sess 8 && Nat.blt tag 256 && Nat.blt v (2 ^ 2048)
  | .updVerify sess tag v => Nat.blt sess 8 && Nat.blt tag 256 && Nat.blt v (2 ^ 1024)
  | .updVerifyDone _ => true
  | .updActivateHandover sess tag => Nat.blt sess 8 && Nat.blt tag 256
  | .updActivateRestart sess tag => Nat.blt sess 8 && Nat.blt tag 256
  | .updMramFail _ => true
  | .stateHandoverComplete _ _ => true
  | .updConfirm sess tag v => Nat.blt sess 8 && Nat.blt tag 256 && Nat.blt v (2 ^ 1024)
  | .probationFail _ => true
  | .loaderTwinFetch _ _ _ => true
  | .pwrReqService sess tag => Nat.blt sess 8 && Nat.blt tag 256
  | .pwrReqHold sess tag => Nat.blt sess 8 && Nat.blt tag 256
  | .pwrReqWatch sess tag => Nat.blt sess 8 && Nat.blt tag 256
  | .pwrReqDormant sess tag => Nat.blt sess 8 && Nat.blt tag 256
  | .handshakeDeferExpiry _ => true
  | .forcedDormant _ _ => true
  | .coreVoltageAdjust slice _ _ _ => Nat.blt slice 8
  | .thermEmergBegin _ _ => true
  | .thermEmergClear _ => true
  | .wakeTrigIn pin => Nat.blt pin 4
  | .watchBurstStart w => Nat.blt w 4
  | .watchBurstEnd w _ => Nat.blt w 4
  | .pvinValid _ _ => true
  | .imageLoaded _ => true
  | .controlSetReady _ => true
  | .selfTestEnd _ _ _ _ _ _ _ _ _ _ => true
  | .ready _ => true
  | .resetNRise _ => true
  | .diagReset sess tag v => Nat.blt sess 8 && Nat.blt tag 256 && Nat.blt v (2 ^ 1024)
  | .sliceFail slice _ => Nat.blt slice 8
  | .diagAlertAck sess tag v => Nat.blt sess 8 && Nat.blt tag 256 && Nat.blt v (2 ^ 1024)
  | .convJoint ch => Nat.blt ch 4
  | .moveBufferJoint m => Nat.blt m 96
  | .tokenCheckFailure slice _ _ => Nat.blt slice 8
  | .snapshotReceipt sess => Nat.blt sess 8
  | .snapshotReceiptTimeout sess => Nat.blt sess 8
  | .forwardedAckReceive f _ => Nat.blt f 256
  | .shedStep => true
  | .shedRestore => true
  | .syncAlignEdge => true
  | .syncAlignTimeout => true
  | .syncOutPulse => true
  | .timeAnchorEmit => true
  | .statusEmit => true
  | .scanLatch => true
  | .teInEdge => true
  | .scanTeTimeout => true
  | .densityRenderDone => true
  | .refEdgeMiss => true
  | .clkHoldLong => true
  | .pullInDone => true
  | .refRevert => true
  | .masterLock => true
  | .lockTimeout => true
  | .masterUnlock => true
  | .clkChangeGate => true
  | .plmbTimeStart => true
  | .plmbMeasureClose => true
  | .plmbStopUnmatched => true
  | .plumbJoint => true
  | .cntGateEnd => true
  | .cntAbsent => true
  | .ppsMiss => true
  | .ppsOutRise => true
  | .ppsOutFall => true
  | .rstdaa => true
  | .rstactInterface => true
  | .rstactEngine => true
  | .ibiRequest => true
  | .twinSenseRise => true
  | .twinSenseFall => true
  | .heartbeatLoss => true
  | .logAckTimeout => true
  | .twinYield => true
  | .takeoverGuardEnd => true
  | .takeover => true
  | .twinHandoverAt => true
  | .twinDetachAt => true
  | .standbyReady => true
  | .updLockIdleTimeout => true
  | .journalClose => true
  | .twinImageRequest => true
  | .pwrSuspend => true
  | .pwrDrainEnd => true
  | .pwrDomainsDone => true
  | .pwrResume => true
  | .undervoltageShutdown => true
  | .thermalTrip => true
  | .wakeN => true
  | .wakeTimer => true
  | .vauxValid => true
  | .railsInRegulation => true
  | .startSlow => true
  | .resetNFall => true
  | .vauxLoss => true
  | .watchdog => true
  | .logSnapshot => true
  | .tickLimitJoint => true
  | .heartbeatSend => true

end Sys2Proof
end

