-- ==== Sys2Proof/Safety.lean ====
section
/-! DEFINITION. What a safe state is, when a write is served, and what a command leaves unchanged, in the terms the
statements use. -/

namespace Sys2Proof.Machine

/-- Every waiting command names units the engine has. -/
def PendingWf (s : State) : Prop := ∀ c ∈ s.pending, c.wf = true

/-- The stores of values are in canonical form. -/
def StoresWf (s : State) : Prop :=
  Mem.wf dflt s.obj = true ∧ Mem.wf dflt s.com = true ∧ Mem.wf zeroDflt s.staged = true

/-- How many there are of each unit, in the order of the state's fields. -/
def State.dims (s : State) : List Nat :=
  [s.sess.length, s.flows.length, s.rsv.rings.length, s.rsv.pch.length, s.rsv.replays.length, s.loads.length,
    s.trig.sources.length, s.trig.seqs.length, s.trig.groups.length, s.trig.outs.length, s.trig.caps.length,
    s.planes.length, s.chans.length, s.tuners.length, s.ctxs.length, s.dets.length, s.ports.length, s.movers.length,
    s.pwr.programs.length]

/-- The engine has the units the manual gives it (Table 0.2): 8 sessions, 256 flows, 20 rings, 128 pseudo-channels, 16 replay
slots, 52 loaded tables, 32 sources, 16 sequencers, 4 groups, 4 outputs, 4 capture units, 8 planes, 4 channels, 16 tuners,
32 contexts, 32 detector blocks, 28 ports, 96 movers and 4 WATCH programs. -/
def State.Sized (s : State) : Prop :=
  s.dims = [8, 256, 20, 128, 16, 52, 32, 16, 4, 4, 4, 8, 4, 16, 32, 32, 28, 96, 4]

/-! ## Served requests (R337, R338, R347) -/

/-- A request of an open session is taken up: the engine answers, the tag is free and one of the 64 is left. -/
def State.takes (s : State) (sess tag : Nat) : Bool :=
  s.rd Obj.DEV_STATE != 0 && Nat.blt sess 8 && !s.handing && (s.ses sess).isOpen && !(s.ses sess).mirror &&
    !s.tagTaken sess tag && Nat.blt (s.requests sess) 64

/-- A write of `v` to `key` passes the checks of Table 15.5. -/
def State.passes (s : State) (sess key v : Nat) : Bool :=
  match s.check sess key true (fits key v) with
  | .pass _ => true
  | .fail _ _ => false

/-- A write is taken up and passes every check: it is served. -/
def State.serves (s : State) (sess tag key v : Nat) : Bool := s.takes sess tag && s.passes sess key v

/-- The response to a request on an object. -/
def reply (tag key : Nat) (st : Status) (detail : Nat := 0) : Frame :=
  ⟨0x80, tag, st.code, detail, key % 2 ^ 24 / 256, key % 256, []⟩

/-- The session's host gets exactly one frame more, the response, and its latest frame's time is now; the other sessions are
as they were. -/
def State.replied (s t : State) (sess tag key : Nat) (st : Status) : Prop :=
  t.ses sess = { s.ses sess with heard := s.wall, txq := (s.ses sess).txq ++ [reply tag key st] } ∧
    ∀ i, i ≠ sess → t.ses i = s.ses i

/-- The request is answered ACCEPTED and its tag stays outstanding (R337). -/
def State.pended (s t : State) (sess tag key : Nat) : Prop :=
  t.ses sess = { s.ses sess with
      heard := s.wall, txq := (s.ses sess).txq ++ [reply tag key .accepted], tags := (s.ses sess).tags ++ [tag] } ∧
    ∀ i, i ≠ sess → t.ses i = s.ses i

/-! ## Frames -/

/-- Everything but the dictionary's values, the sessions and the event log. -/
def State.rest (s : State) : State := { s with obj := [], sess := [], log := {} }

/-- Everything but the data path: what only the clock, the host's side, power, start-up and firmware replacement change. -/
def State.control (s : State) : State :=
  { s with
    obj := [], sess := [], log := {}, free := 0, swaps := [], owners := [], flows := [], wire := [], rsv := {}, trig := {}, planes := []
    chans := [], tuners := [], ctxs := [], dets := [], shed := {}, gens := [], formed := 0, twin := {}, ports := [], signed := (0, 0), movers := []
    scan := {} }

/-- Every object but those named reads as before. -/
def State.only (s t : State) (keys : List Nat) : Prop := ∀ k, k ∉ keys → t.rd k = s.rd k

/-- Only the objects named and the sessions' records may differ. -/
def State.keeps (s t : State) (keys : List Nat) : Prop := s.only t keys ∧ t.rest = s.rest ∧ t.log = s.log

/-- The session's host gets exactly the response; of its record nothing but what the command itself keeps there may differ, and
no other session changes. -/
def State.told (s t : State) (sess tag key : Nat) (st : Status) : Prop :=
  (t.ses sess).txq = (s.ses sess).txq ++ [reply tag key st] ∧ ∀ i, i ≠ sess → t.ses i = s.ses i

/-- Objects that an event of the catalogue writes (R451, R452, R455), with each session's count of lost notifications. -/
def eventKey (k : Nat) : Bool :=
  k == Obj.DEV_LOG_NEWEST || k == Obj.DEV_LOG_OLDEST || k == Obj.DIAG_ALERT_MERGED || k == Obj.DEV_ALERT_COUNT ||
  k == Obj.DEV_ALERT_LAST || k == Obj.DIAG_ALERT_PENDING || (List.range 8).any fun i => k == sk i Obj.DEV_NOTIFY_LOST

/-- Every object but those named and the event log's reads as before. -/
def State.onlyE (s t : State) (keys : List Nat) : Prop := ∀ k, k ∉ keys → eventKey k = false → t.rd k = s.rd k

/-- Only the objects named, the event log with its objects and the sessions' records may differ. -/
def State.keepsE (s t : State) (keys : List Nat) : Prop := s.onlyE t keys ∧ t.rest = s.rest

end Sys2Proof.Machine
end

