-- ==== Sys2Proof/Certificates/Slice0/Obligations.lean ====
section
/-! DEFINITION. The statements for the provers, chapter by chapter of the manual, and at the end those over all commands. -/

open Sys2Proof Sys2Proof.Machine

/-! ## Lists the statements share -/

/-- Objects that a trigger source's inputs write. -/
def sourceKeys : List Nat :=
  (List.range 32).flatMap fun k => [Obj.TRIG_SRC_STATE k, Obj.TRIG_SRC_EVENTS k, Obj.TRIG_SRC_LAST k, Obj.TRIG_SRC_HELD k]

/-- The session holds nothing: no swap runs, it owns or reserves no unit, has staged nothing and does not hold the update lock. -/
def holdsNothing (s : State) (i : Nat) : Bool :=
  s.swaps.isEmpty && s.owners.all (fun o => o.sess != i && o.sess != i + 8) && (s.stagedOf i).isEmpty && s.rd Obj.UPD_LOCK_HOLDER != i

/-- The session's record and objects as its end leaves them, where it held nothing: the number is free. -/
def endedFrom (s t : State) (i : Nat) : Prop :=
  t.ses i = { s.ses i with
    isOpen := false, ending := false, tags := [], deferred := [], checked := [], inbox := [], rx := [], closing := none, secret := 0, mirror := false } ∧
  (∀ j, j ≠ i → t.ses j = s.ses j) ∧ t.rd (Obj.DEV_SESS_STATE i) = 0 ∧ t.rd (Obj.DEV_SESS_ROLE i) = 0 ∧ t.rd (Obj.DEV_SESS_PORT i) = 255

/-- Objects that the end of a session writes. -/
def endKeys (i : Nat) : List Nat := [Obj.DEV_SESS_STATE i, Obj.DEV_SESS_ROLE i, Obj.DEV_SESS_PORT i, sk i Obj.DEV_DEFERRED]

/-- Objects that the scan-out's reader writes. -/
def readerKeys : List Nat := [Obj.RSV_OUTSTANDING, Obj.RSV_OUTSTANDING_PEAK, Obj.RSV_PANIC_COUNT]

/-- Objects that a latch writes. -/
def latchKeys : List Nat :=
  [Obj.SCAN_FRAME, Obj.SCAN_LATCH_TICK, Obj.SCAN_STATE, Obj.SCAN_RATE, Obj.SCAN_TOLERANCE] ++ readerKeys ++
    (List.range 4).flatMap fun l => [Obj.SCAN_L_BUF_BASE l, Obj.SCAN_L_STATE l]

/-- Objects that the closing of the gate writes. -/
def gateKeys : List Nat :=
  [Obj.CLK_STATE, Obj.CLK_LOCKED_MASK, Obj.CLK_OUT_HZ] ++
    ((List.range 4).flatMap fun ch => [Obj.CONV_STATE ch, Obj.CONV_CAL_STATUS ch, Obj.CONV_CAL_REASON ch]) ++
    ((List.range 16).flatMap fun i => [Obj.TUNE_STATE i, Obj.TRIG_SEQ_INPUT_GAP i]) ++ (List.range 32).map Obj.TRIG_SRC_STATE

/-- Objects of the head of the result queue. -/
def headKeys : List Nat :=
  [Obj.PLMB_RES_SEQ, Obj.PLMB_RES_START, Obj.PLMB_RES_START_FINE, Obj.PLMB_RES_NSTOPS, Obj.PLMB_RES_FLAGS, Obj.PLMB_RES_COUNT] ++
    (List.range 64).flatMap fun j => [Obj.PLMB_RES_INTERVAL j, Obj.PLMB_RES_STOPINFO j]

/-- Objects that follow the link: what a pair's end writes. -/
def unpairKeys : List Nat :=
  [Obj.TWIN_LINK_VER, Obj.TWIN_READY_SINCE, Obj.TWIN_HB_AVG, Obj.TWIN_MIRROR_LAT_AVG, Obj.DEV_FLOOR_BFLY, Obj.DEV_FLOOR_CELL,
    Obj.DEV_FLOOR_RSV, Obj.DEV_FLOOR_PORT, Obj.DEV_FLOOR_POOL] ++ (List.range 249).map Obj.TWIN_FLOW_MATCH

/-- The final answer of an outstanding request: an open session that still holds its tag gets one response, and the tag is free; no other
session changes. -/
def finished (s t : State) (r : Req) (st : Status) : Prop :=
  (s.live r = true → (t.ses r.sess).txq = (if (s.ses r.sess).mirror then (s.ses r.sess).txq else (s.ses r.sess).txq ++ [reply r.tag r.key st]) ∧
    (t.ses r.sess).tags = (s.ses r.sess).tags.erase r.tag) ∧
  (s.live r = false → t.ses r.sess = s.ses r.sess) ∧ ∀ i, i ≠ r.sess → t.ses i = s.ses i

/-- A reset of a kind for a cause has come about: the start begins now, no session is open, no swap waits, nothing is owned, no unit
runs, the twin is gone, and MRAM, sessions' incarnations and requests waiting outside are as they were. -/
def wasReset (s t : State) (kind cause : Nat) : Prop :=
  t.start.kind = kind ∧ t.start.cause = cause ∧ t.start.begun = s.wall ∧ t.start.loaded = false ∧ t.start.tested = false ∧
    (∀ i, (t.ses i).isOpen = false) ∧ t.swaps = [] ∧ t.owners = [] ∧ t.com = [] ∧ t.staged = [] ∧ t.flows = State.reset.flows ∧
    t.rsv = { State.reset.rsv with pch := t.rsv.pch } ∧ (∀ k, k < 128 → t.pch k = ({ failed := (s.pch k).failed && !bitOf (s.rd (Obj.DIAG_FENCE_PCH (k / 32))) (k % 32) } : Pch)) ∧ t.ctxs = State.reset.ctxs ∧ t.dets = State.reset.dets ∧ t.planes = State.reset.planes ∧ t.twin.peer = none ∧
    t.mram = s.mram ∧ t.wall = s.wall ∧ t.rd Obj.DEV_RESET_KIND = kind ∧ t.rd Obj.DEV_RESET_CAUSE = cause

/-- Objects of a start that no persistent setting is. -/
def startKeys : List Nat :=
  [Obj.DEV_STATE, Obj.DEV_START_STEP, Obj.DEV_RESET_KIND, Obj.DEV_RESET_CAUSE, Obj.UPD_STATE, Obj.UPD_LAST_FAIL, Obj.UPD_PROBATION]

/-- Staging objects that leaving an image writes. -/
def discardKeys : List Nat :=
  [Obj.UPD_LENGTH, Obj.UPD_OFFSET, Obj.UPD_STAGED_VERSION, Obj.UPD_STAGED_SVN, Obj.UPD_STAGED_HASH, Obj.RSV_PANS_FREE]

/-- Every block grants at once (Table 19.4): no channel calibrates, no path is measured, no firmware is activated, no standby is ready, no commit
waits, no clock change is planned or under way, and the Reservoir does not train. -/
abbrev blocksGrant (s : State) : Prop :=
  (∀ ch, ch < 4 → s.calibrating ch = false) ∧ s.conv.skew = none ∧ s.updating = false ∧ s.rd Obj.TWIN_STATE ≠ 3 ∧
    (∀ w ∈ s.swaps, w.cause ≠ none) ∧ s.clk.change = none ∧ s.clk.gatedAt = none ∧ s.rd Obj.RSV_STATE ≠ 1

/-- The engine is in service, with no transition in progress and none waiting. -/
abbrev atService (s : State) : Prop :=
  2 ≤ s.rd Obj.DEV_STATE ∧ s.rd Obj.DEV_STATE ≤ 5 ∧ s.pwr.step = 0 ∧ s.pwr.suspended = false ∧ s.pwr.cur = none ∧ s.pwr.newer = none ∧
    s.pwr.queue = none

/-- X, as R429 sets it at the end of S1: a multiple of 64 at least 100 µs ahead. -/
def suspendTick (s : State) : Nat := roundUp (s.tick + 3200000) 64

/-- The write that a command makes: its session, tag, object and value. Events, frames, DICT_READ and DICT_WRITE, the session's own
frames and the writes under the update lock are no case of it. -/
def requestOf : Instr → Option (Nat × Nat × Nat × Nat)
  | .clkRefSelWrite sess tag v => some (sess, tag, Obj.CLK_REF_SEL, v)
  | .clkChangeCmd sess tag v => some (sess, tag, Obj.CLK_CHANGE_CMD, v)
  | .clkOutDivWrite sess tag v => some (sess, tag, Obj.CLK_OUT_DIV, v)
  | .clkTest sess tag v => some (sess, tag, Obj.CLK_TEST, v)
  | .devCommit sess tag => some (sess, tag, Obj.DEV_COMMIT, 1)
  | .devCommitValidate sess tag => some (sess, tag, Obj.DEV_COMMIT, 2)
  | .devCommitDiscard sess tag => some (sess, tag, Obj.DEV_COMMIT, 3)
  | .convCalCmd sess tag ch v => if ch < 4 then some (sess, tag, Obj.CONV_CAL_CMD ch, v) else none
  | .convCalAll sess tag => some (sess, tag, Obj.CONV_CAL_ALL, 1)
  | .syncAlignCmd sess tag => some (sess, tag, Obj.CONV_SYNC_MODE, 2)
  | .syncModeOff sess tag => some (sess, tag, Obj.CONV_SYNC_MODE, 0)
  | .syncModeCheck sess tag => some (sess, tag, Obj.CONV_SYNC_MODE, 1)
  | .convPathDelayWrite sess tag ch v => if ch < 4 then some (sess, tag, Obj.CONV_PATH_DELAY ch, v) else none
  | .boardPathSkewCmd sess tag => some (sess, tag, Obj.CONV_CAL_ALL, 2)
  | .crysClear sess tag p v => some (sess, tag, Obj.CRYS_CLEAR p, v)
  | .crysHarvCmd sess tag p v => some (sess, tag, Obj.CRYS_HARV_CMD p, v)
  | .detHoldClear sess tag c v => some (sess, tag, Obj.DET_HOLD_CLEAR c, v)
  | .flowClaim sess tag f => if f < 256 then some (sess, tag, Obj.FLOW_CLAIM f, 1) else none
  | .flowRelease sess tag f => if f < 256 then some (sess, tag, Obj.FLOW_CLAIM f, 2) else none
  | .xfmUwinWrite sess tag c v => some (sess, tag, Obj.XFM_UWIN_WRITE c, v)
  | .moveStart sess tag m => if m < 96 then some (sess, tag, Obj.MOVE_CMD m, 1) else none
  | .moveHalt sess tag m _ => if m < 96 then some (sess, tag, Obj.MOVE_CMD m, 2) else none
  | .moveRetry sess tag m => if m < 96 then some (sess, tag, Obj.MOVE_CMD m, 3) else none
  | .moveSkip sess tag m => if m < 96 then some (sess, tag, Obj.MOVE_CMD m, 4) else none
  | .moveAbort sess tag m _ => if m < 96 then some (sess, tag, Obj.MOVE_CMD m, 5) else none
  | .moveResume sess tag m => if m < 96 then some (sess, tag, Obj.MOVE_CMD m, 6) else none
  | .moveClaim sess tag m => if m < 96 then some (sess, tag, Obj.MOVE_CLAIM m, 1) else none
  | .moveRelease sess tag m => if m < 96 then some (sess, tag, Obj.MOVE_CLAIM m, 2) else none
  | .moveDescWrite sess tag m v => if m < 96 then some (sess, tag, Obj.MOVE_DESC_WRITE m, v) else none
  | .plmbResNext sess tag v => some (sess, tag, Obj.PLMB_RES_NEXT, v)
  | .plmbClaim sess tag => some (sess, tag, Obj.PLMB_CLAIM, 1)
  | .plmbRelease sess tag => some (sess, tag, Obj.PLMB_CLAIM, 2)
  | .plmbTodNext sess tag v => some (sess, tag, Obj.PLMB_TOD_NEXT, v)
  | .plmbConvTickWrite sess tag v => some (sess, tag, Obj.PLMB_CONV_TICK, v)
  | .pwrReqService sess tag => some (sess, tag, Obj.PWR_REQ, 0)
  | .pwrReqHold sess tag => some (sess, tag, Obj.PWR_REQ, 2)
  | .pwrReqWatch sess tag => some (sess, tag, Obj.PWR_REQ, 3)
  | .pwrReqDormant sess tag => some (sess, tag, Obj.PWR_REQ, 4)
  | .rsvRplStart sess tag x => some (sess, tag, Obj.RSV_RPL_CMD x, 1)
  | .rsvRplAbort sess tag x => some (sess, tag, Obj.RSV_RPL_CMD x, 2)
  | .diagReset sess tag v => some (sess, tag, Obj.DIAG_RESET, v)
  | .scanLClaim sess tag l => if l < 4 then some (sess, tag, Obj.SCAN_L_CLAIM l, 1) else none
  | .scanLRelease sess tag l => if l < 4 then some (sess, tag, Obj.SCAN_L_CLAIM l, 2) else none
  | .scanLPalWrite sess tag l v => if l < 4 then some (sess, tag, Obj.SCAN_L_PAL_WRITE l, v) else none
  | .secAnchorWrite sess tag v => some (sess, tag, Obj.SEC_ANCHOR_WRITE, v)
  | .secAttestCmd sess tag v => some (sess, tag, Obj.SEC_ATTEST_CMD, v)
  | .trigOutModeWrite sess tag n v => some (sess, tag, Obj.TRIG_OUT_MODE n, v)
  | .trigSeqRearm sess tag q v => some (sess, tag, Obj.TRIG_SEQ_REARM q, v)
  | .trigGrpArm sess tag g v => some (sess, tag, Obj.TRIG_GRP_ARM g, v)
  | .trigGrpDisarm sess tag g v => some (sess, tag, Obj.TRIG_GRP_DISARM g, v)
  | .trigMaskSegsWrite sess tag m v => some (sess, tag, Obj.TRIG_MASK_SEGS m, v)
  | .trigMaskWrite sess tag m v => some (sess, tag, Obj.TRIG_MASK_WRITE m, v)
  | .trigCapArm sess tag u v => some (sess, tag, Obj.TRIG_CAP_ARM u, v)
  | .devSessEnd sess tag i v => if i < 8 then some (sess, tag, Obj.DEV_SESS_END i, v) else none
  | .devStore sess tag => some (sess, tag, Obj.DEV_STORE, 1)
  | .trigSrcForce sess tag k v => some (sess, tag, Obj.TRIG_SRC_FORCE k, v)
  | .diagAlertAck sess tag v => some (sess, tag, Obj.DIAG_ALERT_ACK, v)
  | .twinHandoverCmd sess tag => some (sess, tag, Obj.TWIN_CMD, 3)
  | .twinDetachCmd sess tag => some (sess, tag, Obj.TWIN_CMD, 2)
  | .twinEnableFalse sess tag => some (sess, tag, Obj.TWIN_ENABLE, 0)
  | .updConfirm sess tag v => some (sess, tag, Obj.UPD_CONFIRM, v)
  | _ => none

/-- The checks of Table 15.5 for a WRITE of `v` to the object of a row, in order: whether each fails, its answer and its DETAIL. Step 3
has no line: version 1, the only one, offers every object (R347). -/
def writeChecks (s : State) (sess k : Nat) (r : Row) (v : Option Nat) : List (Bool × Status × Nat) :=
  [((s.ses sess).ver == 0, .version, 0),
   (Nat.ble 0x800000 k || (s.rd Obj.DEV_STATE == 6 && !loaderObject k), .noObject, 0),
   (r.acc == .ro || r.acc == .rc || ((s.ses sess).role == 0 && !anyRole k) || (r.adm && (s.ses sess).role != 2) ||
      (s.isStandby && mirrored k r), .denied, 0),
   (v.isNone, .type, 0),
   ((s.ownCheck sess k r).isSome, ((s.ownCheck sess k r).getD (.ok, 0)).1, ((s.ownCheck sess k r).getD (.ok, 0)).2),
   (!r.rng.ok r.ty (v.getD 0), .range, 0)]

/-- The checks of Table 15.5 for a READ with no words or with some: every role reads (R6), and no value is checked. -/
def readChecks (s : State) (sess k : Nat) (empty : Bool) : List (Bool × Status × Nat) :=
  [((s.ses sess).ver == 0, .version, 0),
   (Nat.ble 0x800000 k || (s.rd Obj.DEV_STATE == 6 && !loaderObject k), .noObject, 0), (!empty, .type, 0)]

/-- The answer of the first check that fails; the object's row where none does. -/
def firstFailing (r : Row) (l : List (Bool × Status × Nat)) : Check :=
  match l.find? fun c => c.1 with
  | some c => .fail c.2.1 c.2.2
  | none => .pass r

/-- The state after n steps, where each answers a next state. -/
def stepped : Nat → State → Option State
  | 0, s => some s
  | n + 1, s =>
    match step s with
    | .next t => stepped n t
    | _ => none

/-- A converter block that is due enters the queue, which has room (R33, R34; its neighbours' codes are those of the blocks beside it): the queue is one block longer, the channel's newest
block holds the corrected codes as a token of Table 2.2, and the next block due is the one after it. Where the queue is full the block is dropped,
counted and named by an event (R13). Of the other channels nothing changes.
A converter channel's Joint (R36, R352): at its boundary an enabled channel powers up, waits with no block entered, and takes its
first block no earlier than 10 µs on; a disabled one is off. The unit's generation advances and no other channel changes. -/
def Obligations.ConverterBlocks : Prop :=
  (∀ (s : State) (ch n : Nat) (prev : Int) (raw : List Int) (next : Int),
    s.Sized → ch < 4 → s.rdB (Obj.CONV_ENABLE ch) = true → s.convFenced ch = false → s.conv.counts = true → raw.length = 64 →
    (s.chan ch).dueBlock = some n → 64 * (n + 1) ≤ s.tick → (s.chan ch).joins n prev (raw.headD 0) = true →
    (s.chan ch).fill < 512 → (s.chan ch).drops = none →
    (s.chan ch).withheld = none → s.rdB (Obj.RSV_HIST_ENABLE (16 + ch)) = false →
    ∃ t, exec (.converterBlockEntry ch prev raw next) s = .next t ∧
      (t.chan ch).fill = (s.chan ch).fill + 1 ∧ (t.chan ch).nextBlock = n + 1 ∧
      (∃ st, (t.chan ch).hist.head? = some (s.blockToken ch n st
        ((correctedBlock (s.factors ch 0) (s.factors ch 1) (s.factors ch 2) (s.factors ch 3) prev raw next).map code12))) ∧
      (t.chan ch).entered = 64 * (n + 1) ∧
      (∀ c, c ≠ ch → t.chan c = s.chan c) ∧ t.rest = { s.rest with chans := t.chans } ∧ t.sess = s.sess ∧ t.log = s.log ∧
      s.only t [Obj.CONV_OVR_COUNT ch, Obj.CONV_OVR_LAST ch, Obj.CONV_STATE ch, Obj.DEV_CONVQ_PEAK ch]) ∧
  (∀ (s : State) (ch n : Nat) (prev : Int) (raw : List Int) (next : Int),
    s.Sized → ch < 4 → s.rdB (Obj.CONV_ENABLE ch) = true → s.convFenced ch = false → s.conv.counts = true → raw.length = 64 →
    (s.chan ch).dueBlock = some n → 64 * (n + 1) ≤ s.tick → (s.chan ch).joins n prev (raw.headD 0) = true →
    1024 ≤ (s.chan ch).fill →
    ∃ t, exec (.converterBlockEntry ch prev raw next) s = .next t ∧
      (t.chan ch).fill = (s.chan ch).fill ∧ (t.chan ch).hist = (s.chan ch).hist ∧ (t.chan ch).nextBlock = n + 1 ∧
      t.rd (Obj.DEV_CONVQ_DROP ch) = min (2 ^ 32 - 1) (s.rd (Obj.DEV_CONVQ_DROP ch) + 1) ∧
      (∀ c, c ≠ ch → t.chan c = s.chan c) ∧ t.rest = { s.rest with chans := t.chans } ∧
      s.onlyE t [Obj.CONV_OVR_COUNT ch, Obj.CONV_OVR_LAST ch, Obj.DEV_CONVQ_DROP ch]) ∧
  (∀ (s : State) (ch b : Nat) (w : Swap),
    s.Sized → ch < 4 → s.due 0 ⟨.converter, ch⟩ = some (w, b) → w.vals = [(Obj.CONV_ENABLE ch, 1)] → s.rdB (Obj.CONV_ENABLE ch) = false →
    s.convFenced ch = false → (s.chan ch).cal = none → (s.chan ch).drops = none →
    bitOf (s.rd Obj.CLK_LOCKED_MASK) 0 = true → s.clk.gatedAt = none →
    ∃ t, exec (.convJoint ch) s = .next t ∧ t.rdB (Obj.CONV_ENABLE ch) = true ∧ t.rd (Obj.CONV_STATE ch) = 1 ∧
      (t.chan ch).fill = 0 ∧ (t.chan ch).started = false ∧ b + 320000 ≤ 64 * (t.chan ch).nextBlock ∧
      t.gens = nextGen ⟨.converter, ch⟩ s.gens ∧ (∀ i, i ≠ ch → t.chan i = s.chan i) ∧
      t.rest = { s.rest with chans := t.chans, tuners := t.tuners, gens := t.gens, swaps := t.swaps, owners := t.owners } ∧ t.sess = s.sess ∧
      t.log = s.log ∧
      s.only t [Obj.CONV_ENABLE ch, Obj.CONV_STATE ch, Obj.DEV_STATE, sk w.sess Obj.DEV_JOINT_FIRST, sk w.sess Obj.DEV_JOINT_LAST]) ∧
  (∀ (s : State) (ch b : Nat) (w : Swap),
    s.Sized → ch < 4 → s.due 0 ⟨.converter, ch⟩ = some (w, b) → w.vals = [(Obj.CONV_ENABLE ch, 0)] → s.rdB (Obj.CONV_ENABLE ch) = true →
    s.convFenced ch = false → (s.chan ch).drops = none → (s.chan ch).withheld = none →
    ∃ t, exec (.convJoint ch) s = .next t ∧ t.rd (Obj.CONV_ENABLE ch) = 0 ∧ t.rd (Obj.CONV_STATE ch) = 0 ∧ (t.chan ch).fill = 0 ∧
      (t.chan ch).started = false ∧ t.gens = nextGen ⟨.converter, ch⟩ s.gens ∧ (∀ i, i ≠ ch → t.chan i = s.chan i) ∧
      t.rest = { s.rest with chans := t.chans, tuners := t.tuners, gens := t.gens, swaps := t.swaps, owners := t.owners } ∧ t.sess = s.sess ∧
      t.log = s.log ∧
      s.only t [Obj.CONV_ENABLE ch, Obj.CONV_STATE ch, Obj.DEV_STATE, sk w.sess Obj.DEV_JOINT_FIRST, sk w.sess Obj.DEV_JOINT_LAST])

/-- A foreground calibration that is served and may start (R37): CONV_CAL_CMD's request stays outstanding, the channel's status
is RUNNING with no reason, and its interval of 7,680,000,000 ticks is set; with CONV_CAL_ALL the same holds of every enabled
channel that is not fenced. Meanwhile the converter tone is off.
Nothing but those channels, their tuners and the records of the calibration changes.
The end of a calibration's interval with every verification passed (R38): the factors come into force and the set is being
stored; stored and read back, it is the active one of A and B, the status is DONE and nothing is left to store. A tracking update
that is due and whose input condition the blocks seen meet moves each factor of its kind by at most a step towards the estimate, held within its bound of the stored set (R45). -/
def Obligations.ConverterCalibration : Prop :=
  (∀ (s : State), s.rd Obj.DEV_STATE < 2 ∨ (s.conv.skew = none ∧ ∃ ch, ch < 4 ∧ (s.chan ch).calRuns = true) → s.tone = 0) ∧
  (∀ (s : State), 2 ≤ s.rd Obj.DEV_STATE → s.conv.skew = none → (∀ ch, ch < 4 → (s.chan ch).calRuns = false) → s.tone = s.rd Obj.CONV_TONE_MODE) ∧
  (∀ (s : State) (sess tag ch : Nat),
    s.Sized → ch < 4 → s.serves sess tag (Obj.CONV_CAL_CMD ch) 1 = true → s.convFenced ch = false → s.calibrating ch = false →
    s.masterLocked = true → s.conv.skew = none → s.upd.closed = false → s.rd Obj.TWIN_STATE = 0 →
    ∃ t, exec (.convCalCmd sess tag ch 1) s = .next t ∧ s.pended t sess tag (Obj.CONV_CAL_CMD ch) ∧
      t.rd (Obj.CONV_CAL_STATUS ch) = 1 ∧ t.rd (Obj.CONV_CAL_REASON ch) = 0 ∧ t.rd (Obj.CONV_STATE ch) = 3 ∧
      (∃ c, (t.chan ch).cal = some c ∧ s.tick < c.start ∧ c.start % 64 = 0 ∧ c.end_ = c.start + 7680000000 ∧
        c.powered = !s.rdB (Obj.CONV_ENABLE ch)) ∧
      (∀ i, i ≠ ch → t.chan i = s.chan i) ∧ t.rest = { s.rest with chans := t.chans, tuners := t.tuners } ∧ t.log = s.log ∧
      s.only t [Obj.CONV_CAL_STATUS ch, Obj.CONV_CAL_REASON ch, Obj.CONV_STATE ch, Obj.TUNE_STATE (4 * ch),
        Obj.TUNE_STATE (4 * ch + 1), Obj.TUNE_STATE (4 * ch + 2), Obj.TUNE_STATE (4 * ch + 3)]) ∧
  (∀ (s : State) (sess tag : Nat),
    s.Sized → s.serves sess tag Obj.CONV_CAL_ALL 1 = true → s.calChannels ≠ [] → (∀ ch, ch < 4 → s.calibrating ch = false) →
    s.masterLocked = true → s.conv.skew = none → s.upd.closed = false → s.rd Obj.TWIN_STATE = 0 →
    ∃ t, exec (.convCalAll sess tag) s = .next t ∧ s.pended t sess tag Obj.CONV_CAL_ALL ∧
      t.conv = { s.conv with all := some (s.req sess tag Obj.CONV_CAL_ALL, s.calChannels, false) } ∧
      (∀ ch ∈ s.calChannels, t.rd (Obj.CONV_CAL_STATUS ch) = 1 ∧ (t.chan ch).cal.isSome = true) ∧
      (∀ ch, ch ∉ s.calChannels → t.chan ch = s.chan ch ∧ t.rd (Obj.CONV_CAL_STATUS ch) = s.rd (Obj.CONV_CAL_STATUS ch)) ∧
      t.rest = { s.rest with chans := t.chans, tuners := t.tuners, conv := t.conv } ∧ t.log = s.log) ∧
  (∀ (s : State) (ch : Nat) (off gain skew bw : List Int) (sourceOk : Bool) (tj : Int) (c : Cal),
    s.Sized → ch < 4 → (s.chan ch).cal = some c → c.end_ ≤ s.tick → c.abandoned = false →
    calReason off gain skew bw sourceOk = 0 →
    ∃ t, exec (.calIntervalEnd ch off gain skew bw sourceOk tj) s = .next t ∧ t.rd (Obj.CONV_CAL_STATUS ch) = 2 ∧
      (t.chan ch).cal = none ∧ (t.chan ch).storing.isSome = true ∧
      (∀ j, j < 64 → t.rdI (Obj.CONV_F_OFFSET ch j) = off.getD j 0 ∧ t.rdI (Obj.CONV_F_GAIN ch j) = gain.getD j 0 ∧
        t.rdI (Obj.CONV_F_SKEW ch j) = skew.getD j 0 ∧ t.rdI (Obj.CONV_F_BW ch j) = bw.getD j 0) ∧
      (∀ i, i ≠ ch → t.chan i = s.chan i) ∧ t.rest = { s.rest with chans := t.chans } ∧ t.sess = s.sess ∧ t.log = s.log) ∧
  (∀ (s : State) (ch : Nat) (f : FactorSet),
    s.Sized → ch < 4 → (s.chan ch).storing = some f → (s.chan ch).sets.length = 2 → (s.chan ch).calReqs = [] → s.conv.all = none →
    ∃ t, exec (.calSetStored ch true) s = .next t ∧ t.rd (Obj.CONV_CAL_STATUS ch) = 3 ∧ (t.chan ch).storing = none ∧
      t.rd (Obj.CONV_SET_ACTIVE ch) = (if s.rd (Obj.CONV_SET_ACTIVE ch) = 0 then 1 else 0) ∧
      t.rd (Obj.CONV_SET_SEQ ch) = f.seq ∧ t.rd (Obj.CONV_SET_TIME ch) = f.time ∧
      (∀ i, i ≠ ch → t.chan i = s.chan i) ∧ t.rest = { s.rest with chans := t.chans } ∧
      s.onlyE t [Obj.CONV_CAL_STATUS ch, Obj.CONV_SET_ACTIVE ch, Obj.CONV_SET_SEQ ch, Obj.CONV_SET_TIME ch, Obj.CONV_SET_TJ ch,
        Obj.CONV_CAL_ADVISED ch, Obj.CONV_STATE ch]) ∧
  (∀ (s : State) (ch kind : Nat) (target : List Int) (bandOk : Bool),
    s.Sized → ch < 4 → kind < 3 → (s.chan ch).trackAt.getD kind 0 ≤ s.wall → s.rdB (Obj.CONV_TRACK_ENABLE ch) = true →
    s.rd (Obj.CONV_STATE ch) = 2 → ((s.chan ch).track.getD kind {}).n ≠ 0 →
    (kind = 0 ∨ ((s.chan ch).track.getD kind {}).loud = true) → (kind = 2 → bandOk = true) →
    ∃ t, exec (.trackingUpdate ch kind target bandOk) s = .next t ∧
      (∀ j, j < 64 →
        let cur := s.rdI (factorKey ch kind j)
        let stored := (s.baseSet ch).factor kind j
        t.rd (factorKey ch kind j) = ofI 36 (clampI (stored - trackBound kind) (stored + trackBound kind)
          (cur + clampI (-(trackStep kind)) (trackStep kind) (target.getD j cur - cur)))) ∧
      (∀ i, i ≠ ch → t.chan i = s.chan i) ∧ t.rest = { s.rest with chans := t.chans } ∧
      s.onlyE t (Obj.CONV_TRACK_DRIFT ch kind :: Obj.CONV_CAL_ADVISED ch :: (List.range 64).map (factorKey ch kind)))

/-- Board paths (R53, R54): a delay is written while its channel feeds nothing and becomes persistent; a measurement that may
start is accepted and takes 20 ms; its end writes every channel's arrival less the earliest, or, where the arrivals lie more
than 8 ns apart or the comb is low, leaves every delay as it was. A delay shifts labels by whole ticks to the nearest and trims
the rest in steps of 10 fs. -/
def Obligations.BoardPaths : Prop :=
  (∀ (s : State) (sess tag ch v : Nat),
    s.Sized → ch < 4 → s.serves sess tag (Obj.CONV_PATH_DELAY ch) v = true → s.channelFeeds ch = false →
    ∃ t, exec (.convPathDelayWrite sess tag ch v) s = .next t ∧ t.rd (Obj.CONV_PATH_DELAY ch) = v ∧
      s.told t sess tag (Obj.CONV_PATH_DELAY ch) .ok ∧ Obj.CONV_PATH_DELAY ch ∈ (t.ses sess).psDirty ∧
      (t.chan ch).shift = (pathSplit v).1 ∧ (t.chan ch).trim = (pathSplit v).2 ∧ (∀ i, i ≠ ch → t.chan i = s.chan i) ∧
      t.rest = { s.rest with chans := t.chans } ∧ t.log = s.log ∧ s.only t [Obj.CONV_PATH_DELAY ch]) ∧
  (∀ (s : State) (sess tag : Nat),
    s.serves sess tag Obj.CONV_CAL_ALL 2 = true → s.anyFeeds = false → (∀ ch, ch < 4 → s.calibrating ch = false) →
    s.conv.skew = none →
    ∃ t, exec (.boardPathSkewCmd sess tag) s = .next t ∧ s.pended t sess tag Obj.CONV_CAL_ALL ∧
      t.rest = { s.rest with conv := { s.conv with skew := some (s.req sess tag Obj.CONV_CAL_ALL, s.wall + 640000000) } } ∧
      t.obj = s.obj ∧ t.log = s.log) ∧
  (∀ (s : State) (a0 a1 a2 a3 : Nat) (combOk : Bool) (r : Req) (u : Nat),
    s.Sized → s.conv.skew = some (r, u) → u ≤ s.wall →
    ∃ t, exec (.boardPathSkewDone [a0, a1, a2, a3] combOk) s = .next t ∧
      t.rest = { s.rest with conv := { s.conv with skew := none }, chans := t.chans } ∧ t.log = s.log ∧
      (if combOk = true ∧ max a0 (max a1 (max a2 a3)) ≤ min a0 (min a1 (min a2 a3)) + 8000000 then
        t.rd (Obj.CONV_PATH_DELAY 0) = a0 - min a0 (min a1 (min a2 a3)) ∧
        t.rd (Obj.CONV_PATH_DELAY 1) = a1 - min a0 (min a1 (min a2 a3)) ∧
        t.rd (Obj.CONV_PATH_DELAY 2) = a2 - min a0 (min a1 (min a2 a3)) ∧
        t.rd (Obj.CONV_PATH_DELAY 3) = a3 - min a0 (min a1 (min a2 a3)) ∧
        (∀ ch, ch < 4 → (t.chan ch).shift = (pathSplit (t.rd (Obj.CONV_PATH_DELAY ch))).1 ∧
          (t.chan ch).trim = (pathSplit (t.rd (Obj.CONV_PATH_DELAY ch))).2) ∧
        s.only t [Obj.CONV_PATH_DELAY 0, Obj.CONV_PATH_DELAY 1, Obj.CONV_PATH_DELAY 2, Obj.CONV_PATH_DELAY 3]
      else t.obj = s.obj ∧ t.chans = s.chans)) ∧
  (∀ fs : Nat, (pathSplit fs).2 % 10 = 0 ∧ -15625 ≤ (pathSplit fs).2 ∧ (pathSplit fs).2 ≤ 15624 ∧
    magnitude ((fs : Int) - (31250 * ((pathSplit fs).1 : Int) + (pathSplit fs).2)) ≤ 5)

/-- CONV_SYNC_MODE and the grid (R50 to R52): ALIGN waits 10 s for an edge; the edge loads the tick index and enters CHECK, its
absence returns the mode; OFF releases the grid, CHECK is kept; a predicted boundary passes where one edge meets it, and every
failure of a check is counted and reported; SYNC_OUT pulses from 4,096 to 4,160 ticks after a boundary. -/
def Obligations.SyncGrid : Prop :=
  (∀ (s : State) (sess tag : Nat),
    s.serves sess tag Obj.CONV_SYNC_MODE 2 = true → s.conv.align = none → s.anyFeeds = false →
    ∃ t, exec (.syncAlignCmd sess tag) s = .next t ∧ s.pended t sess tag Obj.CONV_SYNC_MODE ∧
      t.rd Obj.CONV_SYNC_MODE = 2 ∧ t.rd Obj.CONV_SYNC_STATUS = 1 ∧
      t.conv.align = some (s.req sess tag Obj.CONV_SYNC_MODE, s.rd Obj.CONV_SYNC_MODE, s.wall + 320000000000) ∧
      t.rest = { s.rest with conv := t.conv } ∧ t.log = s.log ∧ s.only t [Obj.CONV_SYNC_MODE, Obj.CONV_SYNC_STATUS]) ∧
  (∀ (s : State) (r : Req) (mode dl : Nat),
    s.conv.align = some (r, mode, dl) → s.wall < dl → s.masterLocked = true → r.sess ≠ 254 →
    ∃ t, exec .syncAlignEdge s = .next t ∧ t.tick = s.rd Obj.CONV_SYNC_LOAD ∧ t.rd Obj.CONV_SYNC_MODE = 1 ∧
      t.conv.align = none ∧ t.conv.grid = some (s.rd Obj.CONV_SYNC_LOAD) ∧ t.clk.seededAt = s.rd Obj.CONV_SYNC_LOAD ∧
      ((∀ h, h < 20 → ∀ f ∈ s.refFlows h, (s.flow f).frames = []) →
        t.rest = { s.rest with tick := t.tick, plumb := t.plumb, chans := t.chans, tuners := t.tuners, rsv := t.rsv, clk := t.clk, conv := t.conv } ∧
        t.log = s.log ∧ s.only t (Obj.CONV_SYNC_MODE :: (List.range 20).flatMap fun h =>
          [Obj.RSV_HIST_ALLOC h, Obj.RSV_HIST_NEWEST h, Obj.RSV_HIST_OLDEST h]))) ∧
  (∀ (s : State) (r : Req) (mode dl : Nat),
    s.conv.align = some (r, mode, dl) → dl ≤ s.wall →
    ∃ t, exec .syncAlignTimeout s = .next t ∧ t.rd Obj.CONV_SYNC_MODE = mode ∧ t.rd Obj.CONV_SYNC_STATUS = 4 ∧
      t.conv.align = none ∧ t.conv.grid = s.conv.grid ∧ (∀ e, s.conv.grid = some e → s.tick ≤ t.conv.nextCheck ∧ s.tick ≤ t.conv.nextOut) ∧
      t.rest = { s.rest with conv := t.conv } ∧ t.log = s.log ∧ s.only t [Obj.CONV_SYNC_MODE, Obj.CONV_SYNC_STATUS]) ∧
  (∀ (s : State) (sess tag : Nat),
    s.serves sess tag Obj.CONV_SYNC_MODE 0 = true → s.conv.align = none →
    ∃ t, exec (.syncModeOff sess tag) s = .next t ∧ s.replied t sess tag Obj.CONV_SYNC_MODE .ok ∧
      t.rd Obj.CONV_SYNC_MODE = 0 ∧ t.rd Obj.CONV_SYNC_STATUS = 0 ∧
      t.rest = { s.rest with conv := { s.conv with align := none, grid := none, syncOut := none } } ∧ t.log = s.log ∧
      s.only t [Obj.CONV_SYNC_MODE, Obj.CONV_SYNC_STATUS]) ∧
  (∀ (s : State) (sess tag : Nat),
    s.serves sess tag Obj.CONV_SYNC_MODE 1 = true → s.conv.align = none → s.rd Obj.CONV_SYNC_MODE = 1 →
    ∃ t, exec (.syncModeCheck sess tag) s = .next t ∧ s.replied t sess tag Obj.CONV_SYNC_MODE .ok ∧ s.keeps t []) ∧
  (∀ (s : State) (edges : List Int) (e : Nat),
    s.conv.grid = some e → s.rd Obj.CONV_SYNC_MODE = 1 → s.conv.nextCheck ≤ s.tick →
    ∃ t, exec (.syncCheckBoundary edges) s = .next t ∧ s.conv.nextCheck < t.conv.nextCheck ∧
      t.clk = { s.clk with seededAt := s.conv.nextCheck } ∧
      t.rest = { s.rest with conv := t.conv, clk := t.clk, chans := t.chans } ∧
      (edges = [0] → t.rd Obj.CONV_SYNC_STATUS = 2 ∧ t.chans = s.chans ∧ t.log = s.log ∧ s.only t [Obj.CONV_SYNC_STATUS]) ∧
      (edgeFailures edges ≠ 0 → t.rd Obj.CONV_SYNC_STATUS = 3 ∧
        t.rd Obj.CONV_SYNC_ERR = min (2 ^ 32 - 1) (s.rd Obj.CONV_SYNC_ERR + edgeFailures edges) ∧
        s.onlyE t [Obj.CONV_SYNC_STATUS, Obj.CONV_SYNC_ERR])) ∧
  (∀ (s : State) (e : Nat),
    s.conv.grid = some e → s.rd Obj.CONV_SYNC_MODE = 1 → s.conv.nextOut + 4096 ≤ s.tick →
    ∃ t, exec .syncOutPulse s = .next t ∧ s.conv.nextOut < t.conv.nextOut ∧
      t.conv.syncOut = (if s.rdB Obj.CONV_SYNC_OUT_EN = true then some (s.conv.nextOut + 4096, s.conv.nextOut + 4160)
        else s.conv.syncOut) ∧ t.rest = { s.rest with conv := t.conv } ∧ t.obj = s.obj ∧ t.sess = s.sess ∧ t.log = s.log)

/-- Tuners (R63, R68, R72): a sample that is due is delivered and the tuner stands one label past it; a change of tuning at J shows
the new split's delays and withholds the labels from J − h_old to J + h_new − 1; a change of TUNE_ENABLE starts the tuner on its
grid in state STARTING, or stops it at J. -/
def Obligations.TunerCommands : Prop :=
  (∀ (s : State) (n l : Nat),
    s.Sized → n < 16 → s.due 1 ⟨.tuner, n⟩ = none → (s.tuner n).nextLabel = some l →
    l + groupDelay ((s.tuner n).cfgAt l).d < (s.chan (tunerChannel n)).entered →
    ∃ t, exec (.tunerSampleRelease n) s = .next t ∧ (t.tuner n).at_ = l + 1 ∧ (t.tuner n).newest = l ∧
      (∀ i, i ≠ n → t.tuner i = s.tuner i) ∧ t.chans = s.chans ∧ t.control = s.control) ∧
  (∀ (s : State) (n b : Nat) (w : Swap),
    s.Sized → n < 16 → s.due 1 ⟨.tuner, n⟩ = some (w, b) → w.changes s (Obj.TUNE_ENABLE n) = false →
    ∃ t, exec (.tunerJoint n) s = .next t ∧ t.rd (Obj.TUNE_LAST_JOINT n) = b ∧ t.gens = nextGen ⟨.tuner, n⟩ s.gens ∧
      t.rd (Obj.TUNE_DELAY n) = groupDelay (t.rd (Obj.TUNE_DECIM n)) ∧
      t.rd (Obj.TUNE_KERF_HALF n) = kerfHalf (t.rd (Obj.TUNE_DECIM n)) ∧
      (t.rdB (Obj.TUNE_ENABLE n) = true → t.rd (Obj.TUNE_DECIM n) ≠ s.rd (Obj.TUNE_DECIM n) →
        0 < kerfHalf (s.rd (Obj.TUNE_DECIM n)) + kerfHalf (t.rd (Obj.TUNE_DECIM n)) →
        ⟨b - kerfHalf (s.rd (Obj.TUNE_DECIM n)), b + kerfHalf (t.rd (Obj.TUNE_DECIM n)) - 1, some b, none⟩ ∈ (t.tuner n).withheld) ∧
      (∀ i, i ≠ n → t.tuner i = s.tuner i) ∧
      t.rest = { s.rest with tuners := t.tuners, gens := t.gens, swaps := t.swaps, owners := t.owners } ∧ t.sess = s.sess ∧
      t.log = s.log) ∧
  (∀ (s : State) (n b : Nat) (w : Swap),
    s.Sized → n < 16 → s.due 1 ⟨.tuner, n⟩ = some (w, b) → w.changes s (Obj.TUNE_ENABLE n) = true →
    s.rdB (Obj.TUNE_ENABLE n) = false → (s.tuner n).on = false → s.rd (Obj.CONV_STATE (tunerChannel n)) ≠ 5 →
    ∃ t, exec (.tunerEnableJoint n) s = .next t ∧ t.rd (Obj.TUNE_STATE n) = 2 ∧ t.rd (Obj.TUNE_LAST_JOINT n) = b ∧
      (t.tuner n).on = true ∧ (0 < t.rd (Obj.TUNE_DECIM n) → b + kerfHalf (t.rd (Obj.TUNE_DECIM n)) ≤ (t.tuner n).startAt) ∧
      (∀ i, i ≠ n → t.tuner i = s.tuner i) ∧
      t.rest = { s.rest with tuners := t.tuners, gens := t.gens, swaps := t.swaps, owners := t.owners } ∧ t.sess = s.sess ∧
      t.log = s.log) ∧
  (∀ (s : State) (n b : Nat) (w : Swap),
    s.Sized → n < 16 → s.due 1 ⟨.tuner, n⟩ = some (w, b) → w.changes s (Obj.TUNE_ENABLE n) = true →
    s.rdB (Obj.TUNE_ENABLE n) = true → (s.tuner n).stopAt = none → s.rd (Obj.CONV_STATE (tunerChannel n)) ≠ 5 →
    ∃ t, exec (.tunerEnableJoint n) s = .next t ∧ t.rd (Obj.TUNE_STATE n) = 0 ∧ t.rd (Obj.TUNE_LAST_JOINT n) = b ∧
      (t.tuner n).stopAt = some b ∧ (∀ i, i ≠ n → t.tuner i = s.tuner i) ∧
      t.rest = { s.rest with tuners := t.tuners, gens := t.gens, swaps := t.swaps, owners := t.owners } ∧ t.sess = s.sess ∧
      t.log = s.log)

/-- Transform contexts (R77, R81, R89 to R95): a unit of frames that waits takes a slot; the oldest frame, dispatched and with no older
frame still to come, leaves the context; a frame whose samples are about to be overwritten is skipped and counted; a Joint puts
the context's new configuration in force from its boundary; a coefficient pair that is accepted is staged.
Detector blocks (R101, R104, R111): the oldest period formed is released with its band powers; a hold clear waits, under its
served tick, for the first period boundary after it; a Joint puts the block's new configuration in force from its product boundary. -/
def Obligations.ContextsAndDetectors : Prop :=
  (∀ (s : State) (c : Nat) (f : Sys2Proof.Machine.Frm),
    (s.ctx c).waiting = some f → s.slotFree c = true → s.slotTurn c = true → s.unitWhole c f = true → (s.ctx c).stag = none →
    ∃ t, exec (.frameDispatch c) s = .next t ∧
      (∀ g, CtxItem.frame g ∈ (t.ctx c).items → g.unit = f.unit → g.dispatched = true) ∧
      (t.ctx c).items.length = (s.ctx c).items.length ∧ (∀ i, i ≠ c → t.ctx i = s.ctx i) ∧
      t.rest = { s.rest with ctxs := t.ctxs } ∧ t.sess = s.sess ∧ t.log = s.log ∧
      s.only t [Obj.XFM_SLOTS_INFLIGHT, Obj.XFM_SLOTS_PEAK]) ∧
  (∀ (s : State) (c : Nat) (f : Sys2Proof.Machine.Frm),
    s.Sized → c < 32 → (s.ctx c).items = [CtxItem.frame f] → f.dispatched = true → s.olderFormed c f.label = true →
    s.due 3 ⟨.context, c⟩ = none →
    ∃ t, exec (.frameRelease c) s = .next t ∧ (t.ctx c).items = [] ∧ t.rd Obj.XFM_SLOTS_INFLIGHT = t.ctxs.foldl (fun n x => n + x.slots) 0 ∧
      (s.rdB (Obj.XFM_ENABLE c) = true → (at' s.tuners f.cfg.source).withheld = [] → t.rd (Obj.XFM_STATE c) = 2) ∧ (∀ i, i ≠ c → t.ctx i = s.ctx i) ∧
      t.tuners = s.tuners ∧ t.chans = s.chans ∧ t.control = s.control) ∧
  (∀ (s : State) (c : Nat) (f : Sys2Proof.Machine.Frm),
    s.Sized → c < 32 → s.rdB (Obj.XFM_ENABLE c) = true → (s.ctx c).waiting = some f →
    f.label / (2 * f.d) + ringSamples f.cfg.n ≤ (at' s.tuners f.cfg.source).newest / (2 * f.d) + 1 →
    ∃ t, exec (.frameStagingSkip c) s = .next t ∧
      t.rd (Obj.XFM_SKIP_STAGING c) = min (2 ^ 32 - 1) (s.rd (Obj.XFM_SKIP_STAGING c) + 1) ∧
      (∀ g, CtxItem.frame g ∈ (t.ctx c).items → g.label = f.label → g.dispatched = true) ∧ (t.ctx c).stag.isSome = true ∧
      (∀ i, i ≠ c → t.ctx i = s.ctx i) ∧ t.rest = { s.rest with ctxs := t.ctxs } ∧ t.sess = s.sess ∧ t.log = s.log ∧
      s.only t [Obj.XFM_SKIP_STAGING c]) ∧
  (∀ (s : State) (c b : Nat) (w : Swap),
    s.Sized → c < 32 → s.due 2 ⟨.context, c⟩ = some (w, b) →
    ∃ t, exec (.contextJoint c) s = .next t ∧ t.rd (Obj.XFM_LAST_JOINT c) = b ∧ t.gens = nextGen ⟨.context, c⟩ s.gens ∧
      (t.ctx c).cfgs.head? = some (t.ctxCfg c b (match w.tables.find? fun e => e.1 == 16 + c with
        | some e => e.2
        | none => s.uwinForce c)) ∧
      (s.rdB (Obj.XFM_ENABLE c) = false → t.rdB (Obj.XFM_ENABLE c) = true → t.rd (Obj.XFM_STATE c) = 1 ∧ t.rd (Obj.XFM_FRAME_COUNT c) = 0) ∧
      (s.rdB (Obj.XFM_ENABLE c) = true → t.rdB (Obj.XFM_ENABLE c) = false → t.rd (Obj.XFM_STATE c) = 0) ∧
      (∀ i, i ≠ c → t.ctx i = s.ctx i) ∧
      t.rest = { s.rest with ctxs := t.ctxs, gens := t.gens, swaps := t.swaps, owners := t.owners } ∧ t.sess = s.sess ∧ t.log = s.log) ∧
  (∀ (s : State) (sess tag c v : Nat),
    s.Sized → c < 32 → s.serves sess tag (Obj.XFM_UWIN_WRITE c) v = true → s.swapHolds sess 2 = false →
    v / 2 ^ 36 < 2 ^ (s.staging sess (Obj.XFM_SIZE_LOG2 c) - 1) →
    ∃ t, exec (.xfmUwinWrite sess tag c v) s = .next t ∧ s.replied t sess tag (Obj.XFM_UWIN_WRITE c) .ok ∧
      (t.load (16 + c)).staged = (s.load (16 + c)).staged.set zeroDflt (v / 2 ^ 36) (v % 2 ^ 36) ∧
      (∀ i, i ≠ 16 + c → t.load i = s.load i) ∧
      t.rest = { s.rest with loads := t.loads, staged := t.staged, owners := t.owners } ∧ t.log = s.log ∧
      s.only t [Obj.XFM_UWIN_SUM c, Obj.XFM_UWIN_USED]) ∧
  (∀ (s : State) (c bp v tk : Nat) (rest : List DetItem),
    s.Sized → c < 32 → (s.det c).out = DetItem.period [] [(bp, v, tk)] :: rest →
    ∃ t, exec (.productPeriodRelease c) s = .next t ∧ (t.det c).out = rest ∧ t.rd (Obj.DET_BP_VALUE bp) = v ∧
      t.rd (Obj.DET_BP_TICK bp) = tk ∧ (∀ i, i ≠ c → t.det i = s.det i) ∧ t.rest = { s.rest with dets := t.dets } ∧
      t.sess = s.sess ∧ t.log = s.log ∧ s.only t [Obj.DET_BP_VALUE bp, Obj.DET_BP_TICK bp]) ∧
  (∀ (s : State) (c : Nat) (recs : List (Nat × Record)) (bands : List (Nat × Nat × Nat)) (rest : List DetItem),
    s.Sized → c < 32 → (s.det c).out = DetItem.period recs bands :: rest →
    ∃ t, exec (.productPeriodRelease c) s = .next t ∧ (t.det c).out = rest ∧ (∀ i, i ≠ c → t.det i = s.det i) ∧
      t.ctxs = s.ctxs ∧ t.tuners = s.tuners ∧ t.control = s.control) ∧
  (∀ (s : State) (sess tag c : Nat),
    s.Sized → c < 32 → s.serves sess tag (Obj.DET_HOLD_CLEAR c) 1 = true →
    ∃ t, exec (.detHoldClear sess tag c 1) s = .next t ∧ s.replied t sess tag (Obj.DET_HOLD_CLEAR c) .ok ∧
      t.det c = { s.det c with clearAt := (s.det c).clearAt ++ [s.tick] } ∧
      (∀ i, i ≠ c → t.det i = s.det i) ∧ t.rest = { s.rest with dets := t.dets } ∧ t.obj = s.obj ∧ t.log = s.log) ∧
  (∀ (s : State) (c b : Nat) (w : Swap),
    s.Sized → c < 32 → s.due 3 ⟨.context, c⟩ = some (w, b) →
    ∃ t, exec (.detectorJoint c) s = .next t ∧ t.rd (Obj.DET_LAST_JOINT c) = b ∧
      ((t.det c).cfgs.head?.map DetCfg.since) = some b ∧ (∀ i, i ≠ c → t.det i = s.det i) ∧
      t.ctxs = s.ctxs ∧ t.tuners = s.tuners ∧ t.control = s.control)

/-- Events of the pin, time, twin and software kinds (R127, R128): an edge that is stamped sets the level of each of the pin's sources
from its position on; an occurrence that is reached, a twin's mark at or above the horizon and a forced event that no hold-off
suppresses are each counted once, and TRIG_SRC_LAST reads their tick. -/
def Obligations.TriggerSourceEvents : Prop :=
  (∀ (s : State) (pin x : Nat) (rising : Bool),
    s.Sized → pin < 4 → s.masterLocked = true → 
    s.pinSources pin ((posOf s.tick + x % 16 * 4096 - inDelay (s.rd (Obj.TRIG_IN_DELAY pin))) / 65536) ≠ [] →
    ((at' s.trig.stamps pin).filter fun t => Nat.blt s.tick (t + 32000)).length < 64 →
    ∃ t, exec (.trigInEdge pin rising x) s = .next t ∧
      t.trig.inLevel = s.trig.inLevel.set pin rising ∧
      (∀ kc ∈ s.pinSources pin ((posOf s.tick + x % 16 * 4096 - inDelay (s.rd (Obj.TRIG_IN_DELAY pin))) / 65536), (t.src kc.1).gap = false ∧
        levelAt (posOf s.tick + x % 16 * 4096 - inDelay (s.rd (Obj.TRIG_IN_DELAY pin))) (t.src kc.1).levels = rising) ∧
      t.rest = { s.rest with trig := t.trig } ∧ t.sess = s.sess ∧ t.log = s.log ∧ s.only t sourceKeys) ∧
  (∀ (s : State) (k n : Nat) (c : SrcCfg),
    s.Sized → k < 32 → (s.src k).nextTime = some n → (s.src k).cfgAt s.tick = some c → c.kind = 5 → n ≤ s.tick →
    (s.src k).lastEvent = none → s.pwr.suspended = false →
    ∃ t, exec (.trigTimeEvent k) s = .next t ∧ t.rd (Obj.TRIG_SRC_EVENTS k) = s.rd (Obj.TRIG_SRC_EVENTS k) + 1 ∧
      t.rd (Obj.TRIG_SRC_LAST k) = n ∧ (t.src k).nextTime = (if c.timePeriod = 0 then none else some (n + c.timePeriod)) ∧
      (∀ i, i ≠ k → t.src i = s.src i) ∧ t.rest = { s.rest with trig := t.trig } ∧ t.sess = s.sess ∧ t.log = s.log ∧
      s.only t [Obj.TRIG_SRC_STATE k, Obj.TRIG_SRC_EVENTS k, Obj.TRIG_SRC_LAST k]) ∧
  (∀ (s : State) (q k posTick posFine : Nat) (c : SrcCfg),
    s.Sized → s.paired = true → (s.sourcesOf 6 posTick fun i => i == q) = [(k, c)] → s.tick - 640000 ≤ posTick →
    (s.src k).lastEvent = none → s.pwr.suspended = false →
    ∃ t, exec (.twinMarkReceive q posTick posFine) s = .next t ∧
      t.rd (Obj.TRIG_SRC_EVENTS k) = s.rd (Obj.TRIG_SRC_EVENTS k) + 1 ∧ t.rd (Obj.TRIG_SRC_LAST k) = posTick ∧
      (∀ i, i ≠ k → t.src i = s.src i) ∧ t.rest = { s.rest with trig := t.trig } ∧ t.sess = s.sess ∧ t.log = s.log ∧
      s.only t [Obj.TRIG_SRC_EVENTS k, Obj.TRIG_SRC_LAST k]) ∧
  (∀ (s : State) (sess tag k : Nat),
    s.Sized → k < 32 → s.serves sess tag (Obj.TRIG_SRC_FORCE k) 0 = true → s.rd (Obj.TRIG_SRC_KIND k) = 7 →
    (∀ i, i < 32 → (s.src i).forced = []) → (s.src k).lastEvent = none → s.pwr.suspended = false →
    ∃ t, exec (.trigSrcForce sess tag k 0) s = .next t ∧ s.replied t sess tag (Obj.TRIG_SRC_FORCE k) .ok ∧
      t.rd (Obj.TRIG_SRC_EVENTS k) = s.rd (Obj.TRIG_SRC_EVENTS k) + 1 ∧ t.rd (Obj.TRIG_SRC_LAST k) = s.tick ∧
      (∀ i, i ≠ k → t.src i = s.src i) ∧ t.rest = { s.rest with trig := t.trig } ∧ t.log = s.log ∧
      s.only t [Obj.TRIG_SRC_EVENTS k, Obj.TRIG_SRC_LAST k])

/-- Sequencers (R132, R135, R137, R138): the lowest waiting position that the horizons allow is processed, once; a timer's expiry
becomes an event and a periodic timer runs on; a rearm restarts a halted sequencer in its initial state with counters at zero,
and waits as an event in a running one; a sequencer's Joint enters its initial state or stops it. -/
def Obligations.SequencerCommands : Prop :=
  (∀ (s : State) (q : Nat) (e : TEvent) (rest : List TEvent),
    s.Sized → q < 16 → (∀ i, i < 32 → (s.src i).forced = []) → s.rd (Obj.TRIG_SEQ_RUN q) = 1 → (s.seqr q).pend = e :: rest →
    e.pos ≤ min (s.seqLimit 16 q) (s.trigCap ⟨.sequencer, q⟩) →
    ∃ t, exec (.seqPosition q) s = .next t ∧ e.pos < (t.seqr q).doneTo ∧ (∀ x ∈ (t.seqr q).pend, x.pos ≠ e.pos) ∧
      t.trig.sources = s.trig.sources ∧ t.chans = s.chans ∧ t.tuners = s.tuners ∧ t.control = s.control) ∧
  (∀ (s : State) (q j e : Nat),
    s.Sized → q < 16 → j < 4 → at' (s.seqr q).timers j = some e → s.rd (Obj.TRIG_SEQ_RUN q) = 1 → e ≤ posOf s.tick →
    ∃ t, exec (.trigTimerExpiry q j) s = .next t ∧ (t.seqr q).pend = eventIns ⟨e, 38 + j, 0⟩ (s.seqr q).pend ∧
      at' (t.seqr q).timers j = (if s.rd (Obj.TRIG_TMR_MODE q j) = 1 then some (e + posOf (s.rd (Obj.TRIG_TMR_PERIOD q j))) else none) ∧
      (∀ i, i ≠ q → t.seqr i = s.seqr i) ∧ t.rest = { s.rest with trig := t.trig } ∧ t.sess = s.sess ∧ t.log = s.log ∧
      s.only t [Obj.TRIG_TMR_EXPIRY q j]) ∧
  (∀ (s : State) (sess tag q : Nat),
    q < 16 → s.serves sess tag (Obj.TRIG_SEQ_REARM q) 1 = true → s.rd (Obj.TRIG_SEQ_RUN q) = 2 →
    ∃ t, exec (.trigSeqRearm sess tag q 1) s = .next t ∧ s.replied t sess tag (Obj.TRIG_SEQ_REARM q) .ok ∧
      t.rd (Obj.TRIG_SEQ_RUN q) = 1 ∧ t.rd (Obj.TRIG_SEQ_CUR q) = s.rd (Obj.TRIG_SEQ_INIT q) ∧
      (∀ j, j < 4 → t.rd (Obj.TRIG_CNT_VALUE q j) = 0 ∧ t.rd (Obj.TRIG_TMR_EXPIRY q j) = 0) ∧
      (∀ i, i ≠ q → t.seqr i = s.seqr i) ∧ t.rest = { s.rest with trig := t.trig } ∧ t.log = s.log ∧
      s.only t (Obj.TRIG_SEQ_RUN q :: Obj.TRIG_SEQ_CUR q ::
        (List.range 4).flatMap fun j => [Obj.TRIG_CNT_VALUE q j, Obj.TRIG_TMR_EXPIRY q j])) ∧
  (∀ (s : State) (sess tag q : Nat),
    s.Sized → q < 16 → s.serves sess tag (Obj.TRIG_SEQ_REARM q) 1 = true → s.rd (Obj.TRIG_SEQ_RUN q) = 1 →
    ∃ t, exec (.trigSeqRearm sess tag q 1) s = .next t ∧ s.replied t sess tag (Obj.TRIG_SEQ_REARM q) .ok ∧
      (t.seqr q).pend = eventIns ⟨max (posOf s.tick) (s.seqr q).doneTo, 0, 0⟩ (s.seqr q).pend ∧
      (∀ i, i ≠ q → t.seqr i = s.seqr i) ∧ t.rest = { s.rest with trig := t.trig } ∧ t.obj = s.obj ∧ t.log = s.log) ∧
  (∀ (s : State) (sess q b : Nat) (w : Swap),
    s.Sized → q < 16 → s.trigChanges sess = [⟨.sequencer, q⟩] → s.due 4 ⟨.sequencer, q⟩ = some (w, b) →
    s.trigReady ⟨.sequencer, q⟩ b = true →
    ∃ t, exec (.triggerJoint sess) s = .next t ∧ t.rd (Obj.TRIG_SEQ_LAST_JOINT q) = b ∧ t.rd (Obj.TRIG_SEQ_MARKS q) = 0 ∧
      t.rd (Obj.TRIG_SEQ_RUN q) = (if t.rdB (Obj.TRIG_SEQ_ENABLE q) = true then 1 else 0) ∧
      t.gens = nextGen ⟨.sequencer, q⟩ s.gens ∧ (∀ i, i ≠ q → t.seqr i = s.seqr i) ∧
      t.rest = { s.rest with trig := t.trig, gens := t.gens, swaps := t.swaps, owners := t.owners } ∧ t.sess = s.sess ∧ t.log = s.log)

/-- Arming groups (R139, R140): arm and disarm commands wait at the served tick; an arming that is resolved arms the group; an armed
group fires for its candidate, disarms, counts the firing and reads its tick. -/
def Obligations.GroupCommands : Prop :=
  (∀ (s : State) (sess tag g : Nat),
    s.Sized → g < 4 → s.serves sess tag (Obj.TRIG_GRP_ARM g) 1 = true → s.rdB (Obj.TRIG_GRP_ENABLE g) = true →
    ∃ t, exec (.trigGrpArm sess tag g 1) s = .next t ∧ s.replied t sess tag (Obj.TRIG_GRP_ARM g) .ok ∧
      (t.grp g).items = itemIns ⟨posOf s.tick, 0, 0, default⟩ (s.grp g).items ∧ (∀ i, i ≠ g → t.grp i = s.grp i) ∧
      t.rest = { s.rest with trig := t.trig } ∧ t.obj = s.obj ∧ t.log = s.log) ∧
  (∀ (s : State) (sess tag g : Nat),
    s.Sized → g < 4 → s.serves sess tag (Obj.TRIG_GRP_DISARM g) 1 = true → s.rdB (Obj.TRIG_GRP_ENABLE g) = true →
    ∃ t, exec (.trigGrpDisarm sess tag g 1) s = .next t ∧ s.replied t sess tag (Obj.TRIG_GRP_DISARM g) .ok ∧
      (t.grp g).items = itemIns ⟨posOf s.tick, 1, 0, default⟩ (s.grp g).items ∧ (∀ i, i ≠ g → t.grp i = s.grp i) ∧
      t.rest = { s.rest with trig := t.trig } ∧ t.obj = s.obj ∧ t.log = s.log) ∧
  (∀ (s : State) (g : Nat) (i : GrpItem),
    s.Sized → g < 4 → (s.grp g).items = [i] → i.what = 0 → s.rdB (Obj.TRIG_GRP_ENABLE g) = true →
    i.pos ≤ min (s.grpHorizon g) (s.trigCap ⟨.group, g⟩) →
    ∃ t, exec (.groupResolve g) s = .next t ∧ (t.grp g).armed = true ∧ (t.grp g).items = [] ∧ t.rd (Obj.TRIG_GRP_STATE g) = 2 ∧
      (∀ j, j ≠ g → t.grp j = s.grp j) ∧ t.rest = { s.rest with trig := t.trig } ∧ t.sess = s.sess ∧ t.log = s.log ∧
      s.only t [Obj.TRIG_GRP_STATE g]) ∧
  (∀ (s : State) (g : Nat) (i : GrpItem),
    s.Sized → g < 4 → (s.grp g).items = [i] → i.what = 2 → (s.grp g).armed = true → s.rdB (Obj.TRIG_GRP_ENABLE g) = true →
    i.pos ≤ min (s.grpHorizon g) (s.trigCap ⟨.group, g⟩) →
    ∃ t, exec (.groupResolve g) s = .next t ∧ (t.grp g).armed = false ∧ t.rd (Obj.TRIG_GRP_STATE g) = 1 ∧
      t.rd (Obj.TRIG_GRP_FIRES g) = s.rd (Obj.TRIG_GRP_FIRES g) + 1 ∧ t.rd (Obj.TRIG_GRP_LAST g) = i.pos / 65536 ∧
      t.chans = s.chans ∧ t.tuners = s.tuners ∧ t.control = s.control)

/-- TRIG_OUT, masks and capture units (R125, R146, R148, R149): the outputs stay low before READY, on a standby and while suspended; a launch whose tick is reached raises the pin and sets the pulse's end,
at which it falls; mode 0 ends a pulse; a segment count and a mask's fields are staged; arming fills the unit, which is armed
once filled; an accepted segment whose samples the ring holds is delivered and counted. -/
def Obligations.OutputAndCaptureCommands : Prop :=
  (∀ (s : State) (n : Nat), s.rd Obj.DEV_STATE < 2 ∨ s.isStandby = true ∨ s.pwr.suspended = true → s.outLevel n = false) ∧
  (∀ (s : State) (n : Nat), 2 ≤ s.rd Obj.DEV_STATE → s.isStandby = false → s.pwr.suspended = false → s.outLevel n = (s.outPin n).high) ∧
  (∀ (s : State) (n l w : Nat) (rest : List (Nat × Nat)),
    s.Sized → n < 4 → (s.outPin n).queue = (l, w) :: rest → s.launchAt l = l → l ≤ s.tick → s.masterLocked = true →
    s.rd (Obj.TRIG_OUT_MODE n) = 1 →
    ∃ t, exec (.trigOutLaunch n) s = .next t ∧ (t.outPin n).high = true ∧ (t.outPin n).queue = rest ∧
      l + w ≤ (t.outPin n).until_ ∧ (∀ i, i ≠ n → t.outPin i = s.outPin i) ∧ t.rest = { s.rest with trig := t.trig } ∧
      t.obj = s.obj ∧ t.sess = s.sess ∧ t.log = s.log) ∧
  (∀ (s : State) (n : Nat),
    s.Sized → n < 4 → s.rd (Obj.TRIG_OUT_MODE n) = 1 → (s.outPin n).high = true → (s.outPin n).until_ ≤ s.tick →
    ∃ t, exec (.trigOutPulseEnd n) s = .next t ∧ t.outPin n = { s.outPin n with high := false } ∧
      (∀ i, i ≠ n → t.outPin i = s.outPin i) ∧ t.rest = { s.rest with trig := t.trig } ∧ t.obj = s.obj ∧ t.sess = s.sess ∧
      t.log = s.log) ∧
  (∀ (s : State) (sess tag n v : Nat),
    s.Sized → n < 4 → s.serves sess tag (Obj.TRIG_OUT_MODE n) v = true →
    ∃ t, exec (.trigOutModeWrite sess tag n v) s = .next t ∧ s.replied t sess tag (Obj.TRIG_OUT_MODE n) .ok ∧
      t.rd (Obj.TRIG_OUT_MODE n) = v ∧ (t.outPin n) = { s.outPin n with high := (s.outPin n).high && v != 0 } ∧
      (∀ i, i ≠ n → t.outPin i = s.outPin i) ∧ t.rest = { s.rest with trig := t.trig } ∧ t.log = s.log ∧
      s.only t [Obj.TRIG_OUT_MODE n]) ∧
  (∀ (s : State) (sess tag m v : Nat),
    s.Sized → m < 16 → s.serves sess tag (Obj.TRIG_MASK_SEGS m) v = true → s.swapHolds sess 4 = false →
    ∃ t, exec (.trigMaskSegsWrite sess tag m v) s = .next t ∧ s.replied t sess tag (Obj.TRIG_MASK_SEGS m) .ok ∧
      t.staging sess (Obj.TRIG_MASK_SEGS m) = v ∧ (t.load m).staged = [] ∧ t.rd (Obj.TRIG_MASK_SUM m) = 0 ∧
      (∀ i, i ≠ m → t.load i = s.load i) ∧
      t.rest = { s.rest with loads := t.loads, staged := t.staged, owners := t.owners } ∧ t.log = s.log ∧
      s.only t [Obj.TRIG_MASK_SUM m]) ∧
  (∀ (s : State) (sess tag m v : Nat),
    s.Sized → m < 16 → s.serves sess tag (Obj.TRIG_MASK_WRITE m) v = true → s.swapHolds sess 4 = false →
    v / 2 ^ 48 % 4 ≠ 3 → v / 2 ^ 36 % 2 ^ 11 < s.staging sess (Obj.TRIG_MASK_SEGS m) →
    ∃ t, exec (.trigMaskWrite sess tag m v) s = .next t ∧ s.replied t sess tag (Obj.TRIG_MASK_WRITE m) .ok ∧
      maskField (t.load m).staged (v / 2 ^ 36 % 2 ^ 11) (v / 2 ^ 48 % 4) = v % 2 ^ 36 ∧
      (∀ i, i ≠ m → t.load i = s.load i) ∧
      t.rest = { s.rest with loads := t.loads, staged := t.staged, owners := t.owners } ∧ t.log = s.log ∧
      s.only t [Obj.TRIG_MASK_SUM m]) ∧
  (∀ (s : State) (sess tag u : Nat),
    s.Sized → u < 4 → s.serves sess tag (Obj.TRIG_CAP_ARM u) 1 = true → s.rdB (Obj.TRIG_CAP_ENABLE u) = true →
    ∃ t, exec (.trigCapArm sess tag u 1) s = .next t ∧ s.replied t sess tag (Obj.TRIG_CAP_ARM u) .ok ∧
      t.rd (Obj.TRIG_CAP_STATE u) = 1 ∧ t.rd (Obj.TRIG_CAP_SEGS u) = 0 ∧
      t.cap u = { threshold := s.tick + s.rd (Obj.TRIG_CAP_PRE u) * s.capStep u } ∧ (∀ i, i ≠ u → t.cap i = s.cap i) ∧
      t.rest = { s.rest with trig := t.trig } ∧ t.log = s.log ∧ s.only t [Obj.TRIG_CAP_STATE u, Obj.TRIG_CAP_SEGS u]) ∧
  (∀ (s : State) (u : Nat),
    s.rd (Obj.TRIG_CAP_STATE u) = 1 → (s.cap u).threshold ≤ s.tick →
    ∃ t, exec (.captureFillEnd u) s = .next t ∧ t.rd (Obj.TRIG_CAP_STATE u) = 2 ∧ s.keeps t [Obj.TRIG_CAP_STATE u] ∧ t.sess = s.sess) ∧
  (∀ (s : State) (u : Nat) (bad : List Nat) (g : CapSeg) (rest : List CapSeg),
    s.Sized → u < 4 → (s.cap u).segs = g :: rest →
    (g.t / s.capStep u - s.rd (Obj.TRIG_CAP_PRE u) + s.rd (Obj.TRIG_CAP_LEN u) - 1) * s.capStep u ≤
      s.rd (Obj.RSV_HIST_NEWEST (s.rd (Obj.TRIG_CAP_TUNER u))) →
    s.rd (Obj.RSV_HIST_STATE (s.rd (Obj.TRIG_CAP_TUNER u))) ≠ 2 →
    s.mayAsk (s.linePch (s.physLine (s.rd (Obj.TRIG_CAP_TUNER u)) ((g.t / s.capStep u - s.rd (Obj.TRIG_CAP_PRE u)) / 64))) (captureRq u) = true →
    ∃ t, exec (.captureSegmentRead u bad) s = .next t ∧ (t.cap u).segs = rest ∧ t.rd (Obj.TRIG_CAP_LAST u) = g.t ∧
      t.rd (Obj.TRIG_CAP_SEGS u) = min (2 ^ 32 - 1) (s.rd (Obj.TRIG_CAP_SEGS u) + 1) ∧ (∀ i, i ≠ u → t.cap i = s.cap i) ∧
      t.chans = s.chans ∧ t.tuners = s.tuners ∧ t.control = s.control)

/-- A density plane (R158 to R168): the oldest waiting column set that no boundary precedes is applied and counted; the next grid
boundary takes the sets below it and moves on by 2^22 ticks; a Harvest that is read is complete and leaves its rows to the flows;
a clear and a Harvest command wait for the next grid boundary. -/
def Obligations.PlaneCommands : Prop :=
  (∀ (s : State) (p : Nat) (x : ColSet) (rest : List ColSet),
    s.Sized → p < 8 → (s.plane p).sets = x :: rest → x.label < (s.plane p).next → s.rdB (Obj.CRYS_ENABLE p) = true →
    x.cols.length = s.rd (Obj.CRYS_COLS p) →
    ∃ t, exec (.columnSetApply p) s = .next t ∧ (t.plane p).sets = rest ∧ (t.plane p).since = (s.plane p).since + 1 ∧
      t.rd (Obj.CRYS_SETS p) = (s.rd (Obj.CRYS_SETS p) + 1) % 2 ^ 64 ∧ (∀ i, i ≠ p → t.plane i = s.plane i) ∧
      t.rest = { s.rest with planes := t.planes } ∧ t.sess = s.sess ∧ t.log = s.log ∧
      s.only t [Obj.CRYS_OVER p, Obj.CRYS_UNDER p, Obj.CRYS_SAT_HITS p, Obj.CRYS_FILL_CUT p, Obj.CRYS_SETS p]) ∧
  (∀ (s : State) (p b : Nat),
    s.Sized → p < 8 → s.planeNext p = some b → s.planeReady p b = true → s.due 5 ⟨.plane, p⟩ = none →
    (∀ c, c < 32 → s.rd (Obj.XFM_STATE c) ≠ 4) →
    ∃ t, exec (.planeBoundary p) s = .next t ∧ (t.plane p).next = b + 4194304 ∧ (∀ x ∈ (t.plane p).sets, b ≤ x.label) ∧
      ((s.plane p).clearAt.contains b = true → (t.plane p).cells = [] ∧ (t.plane p).clearAt.contains b = false ∧ t.rd (Obj.CRYS_LAST_CLEAR p) = b) ∧
      (∀ i, i ≠ p → t.plane i = s.plane i) ∧ t.rest = { s.rest with planes := t.planes } ∧ t.sess = s.sess ∧ t.log = s.log) ∧
  (∀ (s : State) (p : Nat) (h : Harvest),
    s.Sized → p < 8 → (s.plane p).reading = some h →
    ∃ t, exec (.harvestReadDone p) s = .next t ∧ (t.plane p).reading = none ∧ (t.plane p).last = some h ∧
      (∀ i, i ≠ p → t.plane i = s.plane i) ∧ t.rest = { s.rest with planes := t.planes, flows := t.flows, twin := t.twin } ∧
      t.obj = s.obj ∧ t.sess = s.sess ∧ t.log = s.log) ∧
  (∀ (s : State) (sess tag p : Nat),
    s.Sized → p < 8 → s.serves sess tag (Obj.CRYS_CLEAR p) 1 = true → (s.plane p).clearAt.contains s.nextGrid = false →
    ∃ t, exec (.crysClear sess tag p 1) s = .next t ∧ s.replied t sess tag (Obj.CRYS_CLEAR p) .ok ∧
      t.plane p = { s.plane p with clearAt := (s.plane p).clearAt ++ [(s.tick / 4194304 + 1) * 4194304] } ∧
      (∀ i, i ≠ p → t.plane i = s.plane i) ∧ t.rest = { s.rest with planes := t.planes } ∧ t.obj = s.obj ∧ t.log = s.log) ∧
  (∀ (s : State) (sess tag p : Nat),
    s.Sized → p < 8 → s.serves sess tag (Obj.CRYS_HARV_CMD p) 1 = true → (s.plane p).reading = none → (s.plane p).harvAt = none →
    ∃ t, exec (.crysHarvCmd sess tag p 1) s = .next t ∧ s.replied t sess tag (Obj.CRYS_HARV_CMD p) .ok ∧
      t.plane p = { s.plane p with harvAt := some ((s.tick / 4194304 + 1) * 4194304) } ∧
      (∀ i, i ≠ p → t.plane i = s.plane i) ∧ t.rest = { s.rest with planes := t.planes } ∧ t.obj = s.obj ∧ t.log = s.log)

/-- History rings (R180, R182): a writer writes its oldest waiting line and RSV_HIST_NEWEST reads its last tick; a ring's Joint puts it
writing or stops it and reads its boundary; a replay slot's Joint restarts its count.
Replay (R197, R198): a start whose window is held and reachable runs the slot from its first line; an abort waits for the next
record boundary, at which the slot reads aborted; a read takes one line and moves on. -/
def Obligations.RingsAndReplay : Prop :=
  (∀ (s : State) (h : Nat) (l : Line) (rest : List Line),
    s.Sized → h < 20 → s.rd (Obj.RSV_HIST_STATE h) = 1 → s.rd Obj.RSV_STATE = 2 → (s.ring h).buf = l :: rest → l.n ≤ 1 →
    ((s.pch (s.linePch (s.physLine h l.no))).failed = true ∨ s.hasPlace (s.linePch (s.physLine h l.no)) 1 = true) →
    ∃ t, exec (.histLineWrite h) s = .next t ∧ (t.ring h).buf = rest ∧ (t.ring h).lastNo = l.no + 1 ∧
      t.rd (Obj.RSV_HIST_NEWEST h) = l.no * 64 * s.ringStep h + 63 * s.ringStep h ∧ (∀ i, i ≠ h → t.ring i = s.ring i) ∧
      t.tuners = s.tuners ∧ t.chans = s.chans ∧ t.control = s.control) ∧
  (∀ (s : State) (h b : Nat) (w : Swap),
    s.Sized → h < 20 → s.due 6 ⟨.ring, h⟩ = some (w, b) →
    ∃ t, exec (.histRingJoint h) s = .next t ∧ t.rd (Obj.RSV_HIST_LAST_JOINT h) = b ∧
      t.rd (Obj.RSV_HIST_STATE h) = (if t.rdB (Obj.RSV_HIST_ENABLE h) = true then 1 else 0) ∧ t.gens = nextGen ⟨.ring, h⟩ s.gens ∧
      ((∀ f ∈ s.refFlows h, (s.flow f).frames = []) → (∀ i, i ≠ h → t.ring i = s.ring i) ∧
        t.rest = { s.rest with rsv := t.rsv, gens := t.gens, swaps := t.swaps, owners := t.owners } ∧ t.sess = s.sess ∧ t.log = s.log)) ∧
  (∀ (s : State) (x b : Nat) (w : Swap),
    x < 16 → s.due 6 ⟨.replay, x⟩ = some (w, b) →
    ∃ t, exec (.histRingJoint (20 + x)) s = .next t ∧ t.rd (Obj.RSV_RPL_COUNT x) = 0 ∧ t.gens = nextGen ⟨.replay, x⟩ s.gens ∧
      t.rest = { s.rest with gens := t.gens, swaps := t.swaps, owners := t.owners } ∧ t.sess = s.sess ∧ t.log = s.log) ∧
  (∀ (s : State) (sess tag x : Nat),
    s.Sized → x < 16 → s.serves sess tag (Obj.RSV_RPL_CMD x) 1 = true → s.rd (Obj.RSV_RPL_STATE x) ≠ 2 →
    s.rd (Obj.RSV_RPL_RATE x) ≠ 0 → s.rd (Obj.RSV_RPL_FIRST x) ≤ s.rd (Obj.RSV_RPL_LAST x) →
    s.rd (Obj.RSV_RPL_LAST x) ≤ s.rd (Obj.RSV_HIST_NEWEST (s.rd (Obj.RSV_RPL_RING x))) + s.rd (Obj.RSV_HIST_SPAN (s.rd (Obj.RSV_RPL_RING x))) →
    s.rd (Obj.RSV_HIST_OLDEST (s.rd (Obj.RSV_RPL_RING x))) ≤ s.rd (Obj.RSV_RPL_FIRST x) → 0 < s.replayMargin x →
    ∃ t, exec (.rsvRplStart sess tag x) s = .next t ∧ s.replied t sess tag (Obj.RSV_RPL_CMD x) .ok ∧ t.rd (Obj.RSV_RPL_STATE x) = 2 ∧
      t.rd (Obj.RSV_RPL_POS x) = 0 ∧ t.rd (Obj.RSV_RPL_MARGIN x) = ofI 64 (s.replayMargin x) ∧
      (t.replay x).first = s.rd (Obj.RSV_RPL_FIRST x) ∧ (t.replay x).last = s.rd (Obj.RSV_RPL_LAST x) ∧
      (∀ i, i ≠ x → t.replay i = s.replay i) ∧ t.rest = { s.rest with rsv := t.rsv } ∧ t.log = s.log ∧
      s.only t [Obj.RSV_RPL_STATE x, Obj.RSV_RPL_POS x, Obj.RSV_RPL_MARGIN x]) ∧
  (∀ (s : State) (sess tag x : Nat),
    s.Sized → x < 16 → s.serves sess tag (Obj.RSV_RPL_CMD x) 2 = true → s.rd (Obj.RSV_RPL_STATE x) = 2 →
    ∃ t, exec (.rsvRplAbort sess tag x) s = .next t ∧ s.replied t sess tag (Obj.RSV_RPL_CMD x) .ok ∧
      t.replay x = { s.replay x with aborting := true } ∧ (∀ i, i ≠ x → t.replay i = s.replay i) ∧
      t.rest = { s.rest with rsv := t.rsv } ∧ t.obj = s.obj ∧ t.log = s.log) ∧
  (∀ (s : State) (x : Nat) (bad : Bool),
    s.Sized → x < 16 → s.rd (Obj.RSV_RPL_STATE x) = 2 → (s.replay x).nextAt ≤ s.wall → (s.replay x).aborting = false →
    min (s.replay x).last ((s.replay x).at_ * 64 * s.ringStep (s.rd (Obj.RSV_RPL_RING x)) + 63 * s.ringStep (s.rd (Obj.RSV_RPL_RING x))) ≤
      s.rd (Obj.RSV_HIST_NEWEST (s.rd (Obj.RSV_RPL_RING x))) →
    ((s.replay x).at_ + 1) * 64 * s.ringStep (s.rd (Obj.RSV_RPL_RING x)) ≤ (s.replay x).last →
    s.rd (Obj.RSV_HIST_STATE (s.rd (Obj.RSV_RPL_RING x))) ≠ 2 →
    s.mayAsk (s.linePch (s.physLine (s.rd (Obj.RSV_RPL_RING x)) (s.replay x).at_)) (replayRq x) = true →
    ∃ t, exec (.replayRead x bad) s = .next t ∧ (t.replay x).at_ = (s.replay x).at_ + 1 ∧
      s.wall ≤ (t.replay x).nextAt ∧
      t.rd (Obj.RSV_RPL_POS x) = min (s.replay x).last ((s.replay x).at_ * 64 * s.ringStep (s.rd (Obj.RSV_RPL_RING x)) + 63 * s.ringStep (s.rd (Obj.RSV_RPL_RING x))) ∧
      (∀ i, i ≠ x → t.replay i = s.replay i) ∧ t.rsv.rings = s.rsv.rings ∧ t.control = s.control ∧
      (bad = false → t.sess = s.sess ∧ t.log = s.log ∧
        s.only t [Obj.RSV_RPL_POS x, Obj.RSV_RPL_LOST x, Obj.RSV_OUTSTANDING, Obj.RSV_OUTSTANDING_PEAK])) ∧
  (∀ (s : State) (x : Nat) (bad : Bool),
    s.Sized → x < 16 → s.rd (Obj.RSV_RPL_STATE x) = 2 → (s.replay x).aborting = true → (s.replay x).cut = [] →
    ∃ t, exec (.replayRead x bad) s = .next t ∧ t.rd (Obj.RSV_RPL_STATE x) = 4 ∧ s.only t [Obj.RSV_RPL_STATE x] ∧
      t.sess = s.sess ∧ t.log = s.log ∧ t.control = s.control)

/-- Pseudo-channels (R185, R188 to R196): the request that is next leaves the queue, and one of the scan-out reader counts a line fetched and settles its panic level; a refresh that is due reads the stack's
temperature, doubles the rate above 85 °C and begins a new window; an idle pseudo-channel powers down; a retraining that is due
restarts its period; a scrub counts corrected bursts; training of every pseudo-channel brings 128 of them and 910 pans into
service. -/
def Obligations.PseudoChannelCommands : Prop :=
  (∀ (s : State) (k bank row addr corrected : Nat) (q : Rq),
    s.Sized → k < 128 → (s.pch k).failed = false → s.rsvUp = true → (s.pch k).waiting = [] →
    s.nextRq k = some q → q.cls ≠ 2 →
    ∃ t, exec (.reservoirRequestServe k bank row addr corrected 0) s = .next t ∧ (t.pch k).queue = (s.pch k).queue.erase q ∧
      t.rd Obj.RSV_OUTSTANDING = t.outstanding ∧ (∀ i, i ≠ k → t.pch i = s.pch i) ∧ t.rest = { s.rest with rsv := t.rsv, flows := t.flows } ∧
      s.onlyE t [Obj.RSV_OUTSTANDING, Obj.RSV_OUTSTANDING_PEAK, Obj.RSV_TRR_COUNT, Obj.RSV_THROTTLE_COUNT, Obj.RSV_THROTTLE_LAST,
        Obj.RSV_ECC_CE]) ∧
  (∀ (s : State) (k bank row addr corrected : Nat) (q : Rq),
    s.Sized → k < 128 → (∀ p ∈ s.rsv.pch, p.failed = false) → s.rsvUp = true → (s.pch k).waiting = [] →
    s.nextRq k = some q → q.cls = 2 →
    ∃ t, exec (.reservoirRequestServe k bank row addr corrected 0) s = .next t ∧ t.scan.fetched = max (s.scan.fetched + 1) s.scan.line ∧
      t.scan.panic = t.scanPanicLevel ∧ t.scan = { s.scan with fetched := t.scan.fetched, panic := t.scan.panic } ∧
      t.rd Obj.RSV_OUTSTANDING = t.outstanding ∧ t.rest = { s.rest with rsv := t.rsv, scan := t.scan, flows := t.flows } ∧ t.sess = s.sess ∧ t.log = s.log ∧
      s.only t [Obj.RSV_OUTSTANDING, Obj.RSV_OUTSTANDING_PEAK, Obj.RSV_TRR_COUNT, Obj.RSV_ECC_CE, Obj.RSV_PANIC_COUNT]) ∧
  (∀ (s : State) (stack : Nat) (temp : Int),
    s.Sized → s.rsvUp = true → stack < 4 → stack < s.rsv.refreshAt.length → at' s.rsv.refreshAt stack ≤ s.wall → s.panic2 = false →
    (∀ j, j < 32 → s.panicWaits (stack * 32 + j) = false) →
    ∃ t, exec (.refreshDue stack temp) s = .next t ∧ t.rd (Obj.RSV_STACK_TEMP stack) = ofI 36 temp ∧
      t.rd (Obj.RSV_REFRESH_X2 stack) = (if 21760 < temp then 1 else 0) ∧
      at' t.rsv.refreshAt stack = s.wall + (if 21760 < temp then 512000000 else 1024000000) ∧
      (∀ j, j < 32 → (t.pch (stack * 32 + j)).rows = [] ∧ (t.pch (stack * 32 + j)).causes = []) ∧
      (∀ i, i / 32 ≠ stack → t.pch i = s.pch i) ∧ t.rest = { s.rest with rsv := t.rsv } ∧ t.sess = s.sess ∧ t.log = s.log ∧
      s.only t [Obj.RSV_STACK_TEMP stack, Obj.RSV_REFRESH_X2 stack]) ∧
  (∀ (s : State) (k : Nat),
    s.Sized → s.rsvUp = true → k < 128 → s.rd Obj.RSV_IDLE_PD ≠ 0 → (s.pch k).queue = [] →
    (s.pch k).idleSince + s.rd Obj.RSV_IDLE_PD * 32 ≤ s.wall →
    ∃ t, exec (.pchPowerDown k) s = .next t ∧ t.pch k = { s.pch k with powerDown := true } ∧ (∀ i, i ≠ k → t.pch i = s.pch i) ∧
      t.rest = { s.rest with rsv := t.rsv } ∧ t.obj = s.obj ∧ t.sess = s.sess ∧ t.log = s.log) ∧
  (∀ (s : State) (k : Nat) (ok : Bool),
    s.Sized → s.rsvUp = true → k < 128 → (s.pch k).failed = false → (s.pch k).retrainAt + s.rd Obj.RSV_RETRAIN_PERIOD * 32000000 ≤ s.wall →
    s.panic2 = false → s.panicWaits k = false →
    ∃ t, exec (.pchRetrain k ok true) s = .next t ∧
      t.pch k = { s.pch k with retrainAt := s.wall, retrainTemp := s.rdI (Obj.RSV_STACK_TEMP (k / 32)), deferred := false } ∧
      (∀ i, i ≠ k → t.pch i = s.pch i) ∧ t.rest = { s.rest with rsv := t.rsv } ∧ t.obj = s.obj ∧ t.sess = s.sess ∧ t.log = s.log) ∧
  (∀ (s : State) (k addr corrected : Nat),
    s.rsvUp = true → s.rd Obj.RSV_SCRUB_PERIOD ≠ 0 → s.rsv.scrubAt ≤ s.wall → (s.pch k).failed = false → s.panic2 = false →
    s.nextRq k = none → 0 < corrected →
    ∃ t, exec (.scrub k addr corrected 0) s = .next t ∧
      t.rd Obj.RSV_ECC_CE = min (2 ^ 32 - 1) (s.rd Obj.RSV_ECC_CE + corrected) ∧
      (k = 127 → t.rsv.scrubAt = s.wall + s.rd Obj.RSV_SCRUB_PERIOD * 115200000000000) ∧
      t.rest = { s.rest with rsv := { s.rsv with scrubAt := t.rsv.scrubAt } } ∧ t.sess = s.sess ∧ t.log = s.log ∧
      s.only t [Obj.RSV_ECC_CE]) ∧
  (∀ (s : State),
    s.Sized → s.rd Obj.RSV_STATE = 1 → s.start.tested = true → s.pwr.step ≠ 6 → (∀ k, k < 128 → (s.pch k).failed = false) →
    ∃ t, exec (.reservoirTrainingDone []) s = .next t ∧ t.rd Obj.RSV_STATE = 2 ∧ t.rd Obj.DEV_PCH_IN_SERVICE = 128 ∧
      t.rd Obj.RSV_PANS_TOTAL = 910 ∧ t.rd Obj.RSV_PANS_FREE = 910 - s.ringPans.length - s.smallPans.length ∧ (∀ j, j < 4 → t.rd (Obj.RSV_PCH_MAP j) = 2 ^ 32 - 1) ∧
      t.rsv.trained = true ∧ (∀ h, (t.ring h).lines = []) ∧ t.rest = { s.rest with rsv := t.rsv } ∧ t.sess = s.sess ∧ t.log = s.log)

/-- Mover channels' commands (R202, R205, R209, R211): a free channel is claimed within the quota and released by its owner; a
descriptor word is put; a start whose slots pass every check runs from MOVE_START, firmware's channels too; a halt stops it at a beat
boundary, at once where no write below it is outstanding; a halted
chain resumes; a latched error is retried at its beat or skipped; an abort makes the channel idle. -/
def Obligations.MoverCommands : Prop :=
  (∀ (s : State) (sess tag m : Nat),
    32 ≤ m → m < 96 → s.serves sess tag (Obj.MOVE_CLAIM m) 1 = true → s.holder ⟨.mover, m⟩ = none →
    s.heldOf .mover sess < s.rd (Obj.DEV_QUOTA_MOVERS sess) →
    ∃ t, exec (.moveClaim sess tag m) s = .next t ∧ s.replied t sess tag (Obj.MOVE_CLAIM m) .ok ∧
      t.holder ⟨.mover, m⟩ = some sess ∧ t.rd (Obj.MOVE_STATE m) = 1 ∧ t.rd (Obj.MOVE_OWNER m) = sess ∧ t.rd (Obj.MOVE_WORDS m) = 0 ∧
      t.rest = { s.rest with owners := t.owners } ∧ t.log = s.log ∧
      s.only t [Obj.MOVE_STATE m, Obj.MOVE_OWNER m, Obj.MOVE_WORDS m]) ∧
  (∀ (s : State) (sess tag m : Nat),
    32 ≤ m → m < 96 → s.serves sess tag (Obj.MOVE_CLAIM m) 2 = true → s.holder ⟨.mover, m⟩ = some sess → s.rd (Obj.MOVE_STATE m) = 1 →
    ∃ t, exec (.moveRelease sess tag m) s = .next t ∧ s.replied t sess tag (Obj.MOVE_CLAIM m) .ok ∧ t.holder ⟨.mover, m⟩ = none ∧
      t.rd (Obj.MOVE_STATE m) = 0 ∧ t.rd (Obj.MOVE_OWNER m) = 255 ∧ t.rd (Obj.MOVE_BUF_LOG2 m) = 0 ∧
      (∀ i, i ≠ m → t.mover i = s.mover i) ∧
      t.rest = { s.rest with owners := t.owners, com := t.com, staged := t.staged, swaps := t.swaps, rsv := t.rsv, movers := t.movers } ∧ t.log = s.log ∧
      s.only t [Obj.MOVE_STATE m, Obj.MOVE_OWNER m, Obj.MOVE_BUF_LOG2 m, Obj.MOVE_BUF_BASE m, Obj.RSV_PANS_FREE]) ∧
  (∀ (s : State) (sess tag m v : Nat),
    s.Sized → 32 ≤ m → m < 96 → s.serves sess tag (Obj.MOVE_DESC_WRITE m) v = true → s.rd (Obj.MOVE_STATE m) = 1 →
    ∃ t, exec (.moveDescWrite sess tag m v) s = .next t ∧ s.replied t sess tag (Obj.MOVE_DESC_WRITE m) .ok ∧
      (t.mover m).word (v / 2 ^ 40 % 16) (v / 2 ^ 36 % 8) = v % 2 ^ 36 ∧
      t.mover m = { s.mover m with slots := (t.mover m).slots } ∧ (∀ i, i ≠ m → t.mover i = s.mover i) ∧
      t.rest = { s.rest with movers := t.movers } ∧ t.obj = s.obj ∧ t.log = s.log) ∧
  (∀ (s : State) (sess tag m : Nat),
    s.Sized → 32 ≤ m → m < 96 → s.serves sess tag (Obj.MOVE_CMD m) 1 = true → s.rd (Obj.MOVE_STATE m) = 1 →
    (∀ i ∈ (s.mover m).reach 16 [] (s.rd (Obj.MOVE_START m)), s.slotOk sess m i = true) →
    ∃ t, exec (.moveStart sess tag m) s = .next t ∧ s.replied t sess tag (Obj.MOVE_CMD m) .ok ∧ t.rd (Obj.MOVE_STATE m) = 2 ∧
      t.rd (Obj.MOVE_DESC_CUR m) = s.rd (Obj.MOVE_START m) ∧ t.rd (Obj.MOVE_DONE_COUNT m) = 0 ∧
      t.rd (Obj.MOVE_BEATS_LEFT m) = ((s.mover m).desc (s.rd (Obj.MOVE_START m))).count ∧ (t.mover m).beat = 0 ∧
      (∀ i, i ≠ m → t.mover i = s.mover i) ∧ t.rest = { s.rest with movers := t.movers } ∧ t.log = s.log ∧
      s.only t [Obj.MOVE_STATE m, Obj.MOVE_DESC_CUR m, Obj.MOVE_DONE_COUNT m, Obj.MOVE_BEATS_LEFT m]) ∧
  (∀ (s : State) (tag m : Nat),
    s.Sized → m < 32 → s.rd (Obj.MOVE_STATE m) = 0 →
    (∀ i ∈ (s.mover m).reach 16 [] (s.rd (Obj.MOVE_START m)), s.slotOk 254 m i = true) →
    ∃ t, exec (.moveStart 254 tag m) s = .next t ∧ t.rd (Obj.MOVE_STATE m) = 2 ∧ t.rd (Obj.MOVE_DESC_CUR m) = s.rd (Obj.MOVE_START m) ∧
      (t.mover m).beat = 0 ∧ (∀ i, i ≠ m → t.mover i = s.mover i) ∧ t.rest = { s.rest with movers := t.movers } ∧ t.sess = s.sess ∧
      t.log = s.log ∧ s.only t [Obj.MOVE_STATE m, Obj.MOVE_DESC_CUR m, Obj.MOVE_DONE_COUNT m, Obj.MOVE_BEATS_LEFT m]) ∧
  (∀ (s : State) (sess tag m beats : Nat),
    s.Sized → 32 ≤ m → m < 96 → s.serves sess tag (Obj.MOVE_CMD m) 2 = true → s.rd (Obj.MOVE_STATE m) = 2 →
    (s.mover m).beat < (s.curDesc m).count → beats ≤ (s.mover m).beat →
    ∃ t, exec (.moveHalt sess tag m beats) s = .next t ∧ s.replied t sess tag (Obj.MOVE_CMD m) .ok ∧ t.rd (Obj.MOVE_STATE m) = 3 ∧
      (t.mover m).beat = (s.mover m).beat ∧ (∀ i, i ≠ m → t.mover i = s.mover i) ∧
      t.rest = { s.rest with movers := t.movers } ∧ t.log = s.log ∧ s.only t [Obj.MOVE_STATE m, Obj.MOVE_BEATS_LEFT m]) ∧
  (∀ (s : State) (sess tag m beats : Nat),
    s.Sized → 32 ≤ m → m < 96 → s.serves sess tag (Obj.MOVE_CMD m) 2 = true → s.rd (Obj.MOVE_STATE m) = 2 →
    (s.mover m).beat < beats →
    ∃ t, exec (.moveHalt sess tag m beats) s = .next t ∧ s.replied t sess tag (Obj.MOVE_CMD m) .ok ∧
      t.mover m = { s.mover m with halt := some ((s.mover m).halt.getD beats) } ∧ (∀ i, i ≠ m → t.mover i = s.mover i) ∧
      t.rest = { s.rest with movers := t.movers } ∧ t.obj = s.obj ∧ t.log = s.log) ∧
  (∀ (s : State) (sess tag m : Nat),
    s.Sized → 32 ≤ m → m < 96 → s.serves sess tag (Obj.MOVE_CMD m) 3 = true → s.rd (Obj.MOVE_STATE m) = 4 →
    ∃ t, exec (.moveRetry sess tag m) s = .next t ∧ s.replied t sess tag (Obj.MOVE_CMD m) .ok ∧ t.rd (Obj.MOVE_STATE m) = 2 ∧
      (t.mover m).beat = s.rd (Obj.MOVE_ERR_BEATS m) ∧ (∀ i, i ≠ m → t.mover i = s.mover i) ∧
      t.rest = { s.rest with movers := t.movers } ∧ t.log = s.log ∧ s.only t [Obj.MOVE_STATE m, Obj.MOVE_BEATS_LEFT m]) ∧
  (∀ (s : State) (sess tag m : Nat),
    s.Sized → 32 ≤ m → m < 96 → s.serves sess tag (Obj.MOVE_CMD m) 4 = true → s.rd (Obj.MOVE_STATE m) = 4 →
    ∃ t, exec (.moveSkip sess tag m) s = .next t ∧ s.replied t sess tag (Obj.MOVE_CMD m) .ok ∧
      t.rd (Obj.MOVE_STATE m) = (if (s.curDesc m).last = true then 5 else 2) ∧
      ((s.curDesc m).last = false → t.rd (Obj.MOVE_DESC_CUR m) = (s.curDesc m).next ∧ (t.mover m).beat = 0) ∧
      (∀ i, i ≠ m → t.mover i = s.mover i) ∧ t.rest = { s.rest with movers := t.movers, flows := t.flows } ∧ t.log = s.log ∧
      s.only t [Obj.MOVE_STATE m, Obj.MOVE_DESC_CUR m, Obj.MOVE_BEATS_LEFT m]) ∧
  (∀ (s : State) (sess tag m beats : Nat),
    32 ≤ m → m < 96 → s.serves sess tag (Obj.MOVE_CMD m) 5 = true → s.rd (Obj.MOVE_STATE m) = 3 →
    ∃ t, exec (.moveAbort sess tag m beats) s = .next t ∧ s.replied t sess tag (Obj.MOVE_CMD m) .ok ∧ t.rd (Obj.MOVE_STATE m) = 1 ∧
      (∀ i, i ≠ m → t.mover i = s.mover i) ∧ t.rest = { s.rest with movers := t.movers } ∧ t.log = s.log ∧ s.only t [Obj.MOVE_STATE m]) ∧
  (∀ (s : State) (sess tag m : Nat),
    32 ≤ m → m < 96 → s.serves sess tag (Obj.MOVE_CMD m) 6 = true → s.rd (Obj.MOVE_STATE m) = 3 →
    ∃ t, exec (.moveResume sess tag m) s = .next t ∧ s.replied t sess tag (Obj.MOVE_CMD m) .ok ∧ t.rd (Obj.MOVE_STATE m) = 2 ∧
      s.keeps t [Obj.MOVE_STATE m])

/-- What happens to a mover channel (R204, R210, R212 to R215): a last descriptor whose beats can all move completes, with its tag and
the count of completed ones, and the channel reads done; a failing beat halts a session channel and latches code, direction, beat
and slot, with a notification to the owner, and firmware's channel retries the slot once from it; a halt takes effect once the beats
below its boundary have moved; a buffer's Joint puts the new buffer in
place. -/
def Obligations.MoverEvents : Prop :=
  (∀ (s : State) (m : Nat),
    s.Sized → 32 ≤ m → m < 96 → s.rd (Obj.MOVE_STATE m) = 2 → s.goneDir m = none → (s.mover m).halt = none →
    (∀ p ∈ s.rsv.pch, p.failed = false) → (s.mover m).beat ≤ (s.curDesc m).count →
    s.beatsReady m ((s.curDesc m).count - (s.mover m).beat) = (s.curDesc m).count - (s.mover m).beat →
    (s.curDesc m).last = true → (s.curDesc m).notify = false →
    ∃ t, exec (.descriptorComplete m) s = .next t ∧ t.rd (Obj.MOVE_STATE m) = 5 ∧ t.rd (Obj.MOVE_DONE_TAG m) = (s.curDesc m).tag ∧
      t.rd (Obj.MOVE_DONE_COUNT m) = (s.rd (Obj.MOVE_DONE_COUNT m) + 1) % 2 ^ 32 ∧ t.rd (Obj.MOVE_BEATS_LEFT m) = 0 ∧
      (∀ i, i ≠ m → t.mover i = s.mover i) ∧ t.rest = { s.rest with movers := t.movers, rsv := t.rsv, flows := t.flows } ∧
      t.sess = s.sess ∧ t.log = s.log ∧
      s.only t [Obj.MOVE_STATE m, Obj.MOVE_DONE_TAG m, Obj.MOVE_DONE_COUNT m, Obj.MOVE_BEATS_LEFT m, Obj.MOVE_WORDS m,
        Obj.RSV_OUTSTANDING, Obj.RSV_OUTSTANDING_PEAK]) ∧
  (∀ (s : State) (m b : Nat),
    s.Sized → 32 ≤ m → m < 96 → s.rd (Obj.MOVE_STATE m) = 2 → s.goneDir m = none → (s.mover m).halt = some b →
    (∀ p ∈ s.rsv.pch, p.failed = false) → (s.mover m).beat ≤ b → b < (s.curDesc m).count → s.beatsReady m (b - (s.mover m).beat) = b - (s.mover m).beat →
    ∃ t, exec (.descriptorComplete m) s = .next t ∧ t.rd (Obj.MOVE_STATE m) = 3 ∧ (t.mover m).beat = b ∧ (t.mover m).halt = none ∧
      t.rd (Obj.MOVE_BEATS_LEFT m) = (s.curDesc m).count - b ∧ t.rd (Obj.MOVE_WORDS m) = s.rd (Obj.MOVE_WORDS m) + 8 * (b - (s.mover m).beat) ∧
      (∀ i, i ≠ m → t.mover i = s.mover i) ∧ t.rest = { s.rest with movers := t.movers, rsv := t.rsv, flows := t.flows } ∧
      t.sess = s.sess ∧ t.log = s.log ∧
      s.only t [Obj.MOVE_STATE m, Obj.MOVE_BEATS_LEFT m, Obj.MOVE_WORDS m, Obj.RSV_OUTSTANDING, Obj.RSV_OUTSTANDING_PEAK]) ∧
  (∀ (s : State) (m beat : Nat),
    s.Sized → 32 ≤ m → m < 96 → s.rd (Obj.MOVE_STATE m) = 2 → (s.mover m).beat ≤ beat → beat < (s.curDesc m).count →
    beat - (s.mover m).beat < s.beatsReady m ((s.curDesc m).count - (s.mover m).beat) →
    ∃ t, exec (.beatError m beat 1 0) s = .next t ∧ t.rd (Obj.MOVE_STATE m) = 4 ∧ t.rd (Obj.MOVE_ERR_CODE m) = 1 ∧
      t.rd (Obj.MOVE_ERR_DIR m) = 0 ∧ t.rd (Obj.MOVE_ERR_BEATS m) = beat ∧ t.rd (Obj.MOVE_ERR_DESC m) = s.rd (Obj.MOVE_DESC_CUR m) ∧
      (∀ i, i ≠ m → t.mover i = s.mover i) ∧
      t.rest = { s.rest with movers := t.movers, rsv := t.rsv, flows := t.flows, free := t.free }) ∧
  (∀ (s : State) (m beat : Nat),
    s.Sized → m < 32 → s.rd (Obj.MOVE_STATE m) = 2 → (s.mover m).beat ≤ beat → beat < (s.curDesc m).count →
    beat - (s.mover m).beat < s.beatsReady m ((s.curDesc m).count - (s.mover m).beat) → (s.mover m).retried = false →
    ∃ t, exec (.beatError m beat 1 0) s = .next t ∧ t.rd (Obj.MOVE_ERR_CODE m) = 1 ∧ t.rd (Obj.MOVE_ERR_BEATS m) = beat ∧
      t.rd (Obj.MOVE_ERR_COUNT m) = min (2 ^ 32 - 1) (s.rd (Obj.MOVE_ERR_COUNT m) + 1) ∧ t.rd (Obj.MOVE_STATE m) = 2 ∧
      (t.mover m).beat = beat ∧ (t.mover m).retried = true ∧ (∀ i, i ≠ m → t.mover i = s.mover i) ∧
      t.rest = { s.rest with movers := t.movers, rsv := t.rsv, flows := t.flows, free := t.free }) ∧
  (∀ (s : State) (m b : Nat) (w : Swap),
    32 ≤ m → m < 96 → s.due 7 ⟨.mover, m⟩ = some (w, b) → s.rd (Obj.MOVE_STATE m) ≠ 2 → s.rd (Obj.MOVE_STATE m) ≠ 0 → w.vals = [(Obj.MOVE_BUF_LOG2 m, w.value s (Obj.MOVE_BUF_LOG2 m))] →
    s.rd (Obj.MOVE_BUF_LOG2 m) ≠ w.value s (Obj.MOVE_BUF_LOG2 m) →
    ∃ t, exec (.moveBufferJoint m) s = .next t ∧ t.rd (Obj.MOVE_BUF_LOG2 m) = w.value s (Obj.MOVE_BUF_LOG2 m) ∧
      t.gens = nextGen ⟨.mover, m⟩ s.gens ∧
      t.rd (Obj.MOVE_BUF_BASE m) = ((t.small (Obj.MOVE_BUF_LOG2 m)).map SmallRing.base).getD 0 ∧
      t.rest = { s.rest with movers := t.movers, rsv := t.rsv, gens := t.gens, swaps := t.swaps } ∧ (∀ i, i ≠ m → t.mover i = s.mover i) ∧ t.sess = s.sess ∧ t.log = s.log)

/-- Port objects and links (R240, R241, R256): a write of a port object takes effect at once, and answers BUSY while a flow that is
committed or drains names the port and the object is one of those that wait for it; enabling a port begins negotiation and
disabling it takes it down; another medium than the active one makes it negotiate and train anew (the model's reading, log entry 71); a
trained link is up on its medium; a link that goes down is counted and logged.
Neighbours (R243): a port whose link is up answers requests for its own IPv4 and IPv6 address, and nothing else changes. -/
def Obligations.PortsAndNeighbours : Prop :=
  (∀ (s : State) (sess tag k v : Nat),
    isPortKey k = true → s.serves sess tag k v = true → (portGuarded k (portOf k) v && s.portNamed (portOf k)) = false →
    k ≠ Obj.PORT_ENABLE (portOf k) →
    (k = Obj.PORT_MEDIA (portOf k) → s.portUp (portOf k) = true → v = 0 ∨ v = s.rd (Obj.PORT_MEDIA_ACTIVE (portOf k))) →
    ∃ t, exec (.portConfigWrite sess tag k v) s = .next t ∧ s.told t sess tag k .ok ∧ t.rd k = v ∧ s.keeps t [k]) ∧
  (∀ (s : State) (sess tag p v : Nat),
    p < 28 → s.serves sess tag (Obj.PORT_MEDIA p) v = true → s.portNamed p = false → s.rd (Obj.PORT_STATE p) = 3 → v ≠ 0 →
    v ≠ s.rd (Obj.PORT_MEDIA_ACTIVE p) →
    ∃ t, exec (.portConfigWrite sess tag (Obj.PORT_MEDIA p) v) s = .next t ∧ s.told t sess tag (Obj.PORT_MEDIA p) .ok ∧
      t.rd (Obj.PORT_MEDIA p) = v ∧ t.rd (Obj.PORT_STATE p) = 1 ∧ t.rd (Obj.PORT_MEDIA_ACTIVE p) = 0 ∧
      s.keeps t [Obj.PORT_MEDIA p, Obj.PORT_STATE p, Obj.PORT_MEDIA_ACTIVE p]) ∧
  (∀ (s : State) (sess tag p v : Nat),
    p < 28 → s.serves sess tag (Obj.PORT_ENABLE p) v = true → (v = 0 → s.portNamed p = false) → s.rd (Obj.PORT_STATE p) ≠ 5 →
    ∃ t, exec (.portConfigWrite sess tag (Obj.PORT_ENABLE p) v) s = .next t ∧ s.told t sess tag (Obj.PORT_ENABLE p) .ok ∧
      t.rd (Obj.PORT_ENABLE p) = v ∧
      t.rd (Obj.PORT_STATE p) = (if v = 0 then 0 else if s.rd (Obj.PORT_STATE p) = 0 then 1 else s.rd (Obj.PORT_STATE p)) ∧
      s.keeps t [Obj.PORT_ENABLE p, Obj.PORT_STATE p, Obj.PORT_MEDIA_ACTIVE p]) ∧
  (∀ (s : State) (sess tag k v : Nat),
    isPortKey k = true → s.serves sess tag k v = true → portGuarded k (portOf k) v = true → s.portNamed (portOf k) = true →
    ∃ t, exec (.portConfigWrite sess tag k v) s = .next t ∧ s.replied t sess tag k .busy ∧ s.keeps t []) ∧
  (∀ (s : State) (p media : Nat),
    p < 28 → s.rdB (Obj.PORT_ENABLE p) = true → s.rd (Obj.PORT_STATE p) ∉ [0, 3, 5] → s.rd Obj.DEV_STATE ≠ 0 → s.portPowered p = true →
    ∃ t, exec (.portLinkUp p media) s = .next t ∧ t.rd (Obj.PORT_STATE p) = 3 ∧
      t.rd (Obj.PORT_MEDIA_ACTIVE p) = (if s.rd (Obj.PORT_MEDIA p) = 0 then 1 + media % 2 else s.rd (Obj.PORT_MEDIA p)) ∧
      s.keeps t [Obj.PORT_STATE p, Obj.PORT_MEDIA_ACTIVE p] ∧ t.sess = s.sess) ∧
  (∀ (s : State) (p : Nat),
    p < 28 → s.rd (Obj.PORT_STATE p) = 3 →
    ∃ t, exec (.portLinkDown p) s = .next t ∧ t.rd (Obj.PORT_STATE p) = 4 ∧ t.rd (Obj.PORT_MEDIA_ACTIVE p) = 0 ∧
      t.rd (Obj.PORT_LINK_DOWNS p) = min (2 ^ 32 - 1) (s.rd (Obj.PORT_LINK_DOWNS p) + 1) ∧
      s.keepsE t [Obj.PORT_STATE p, Obj.PORT_MEDIA_ACTIVE p, Obj.PORT_LINK_DOWNS p] ∧ t.sess = s.sess) ∧
  (∀ (s : State) (p ip mac : Nat),
    s.Sized → p < 28 → s.rd (Obj.PORT_STATE p) = 3 → ip ≠ 0 → ip = s.rd (Obj.PORT_IP4 p) →
    ∃ t, exec (.arpRequest p ip mac) s = .next t ∧ t.port p = { s.port p with replies := (s.port p).replies ++ [(4, mac)] } ∧
      (∀ q, q ≠ p → t.port q = s.port q) ∧ t.rest = { s.rest with ports := t.ports } ∧ t.obj = s.obj ∧ t.sess = s.sess ∧ t.log = s.log) ∧
  (∀ (s : State) (p ip mac : Nat),
    s.Sized → p < 28 → s.rd (Obj.PORT_STATE p) = 3 → ip ≠ 0 → ip = s.rd (Obj.PORT_IP6 p) →
    ∃ t, exec (.ndSolicitation p ip mac) s = .next t ∧ t.port p = { s.port p with replies := (s.port p).replies ++ [(6, mac)] } ∧
      (∀ q, q ≠ p → t.port q = s.port q) ∧ t.rest = { s.rest with ports := t.ports } ∧ t.obj = s.obj ∧ t.sess = s.sess ∧ t.log = s.log) ∧
  (∀ (s : State) (p ip mac : Nat), ip ≠ s.rd (Obj.PORT_IP4 p) → ∃ t, exec (.arpRequest p ip mac) s = .next t ∧ t = s)

/-- The receiver (R244): every frame is counted; one that a check of R244 discards is dropped and counted, one whose tag does not
hold is counted and dropped; an authenticated one of a live session waits for dispatch, teaches the port its peer and keeps its
session alive.
Receive flows (R264): a frame in order is passed on and one out of order held, with an ACK at once for the gap; a duplicate is
counted; 100 µs after a frame that is not acknowledged an ACK is asked for. -/
def Obligations.FrameReception : Prop :=
  (∀ (s : State) (p : Nat) (f : RxFrame),
    p < 28 → s.rd (Obj.PORT_STATE p) = 3 → (s.wr (Obj.PORT_RX_FRAMES p) ((s.rd (Obj.PORT_RX_FRAMES p) + 1) % 2 ^ 64)).rxDrops p f = true →
    ∃ t, exec (.frameReceive p f) s = .next t ∧ t.rd (Obj.PORT_RX_FRAMES p) = (s.rd (Obj.PORT_RX_FRAMES p) + 1) % 2 ^ 64 ∧
      t.rd (Obj.PORT_RX_DROP p) = min (2 ^ 32 - 1) (s.rd (Obj.PORT_RX_DROP p) + 1) ∧
      s.keeps t [Obj.PORT_RX_FRAMES p, Obj.PORT_RX_DROP p] ∧ t.sess = s.sess) ∧
  (∀ (s : State) (p : Nat) (f : RxFrame),
    p < 28 → s.rd (Obj.PORT_STATE p) = 3 → (s.wr (Obj.PORT_RX_FRAMES p) ((s.rd (Obj.PORT_RX_FRAMES p) + 1) % 2 ^ 64)).rxDrops p f = false →
    f.tagOk = false →
    ∃ t, exec (.frameReceive p f) s = .next t ∧ t.rd (Obj.PORT_RX_FRAMES p) = (s.rd (Obj.PORT_RX_FRAMES p) + 1) % 2 ^ 64 ∧
      t.rd (Obj.PORT_AUTH_FAIL p) = min (2 ^ 32 - 1) (s.rd (Obj.PORT_AUTH_FAIL p) + 1) ∧
      s.keeps t [Obj.PORT_RX_FRAMES p, Obj.PORT_AUTH_FAIL p] ∧ t.sess = s.sess) ∧
  (∀ (s : State) (p : Nat) (f : RxFrame),
    s.Sized → p < 28 → s.rd (Obj.PORT_STATE p) = 3 →
    (s.wr (Obj.PORT_RX_FRAMES p) ((s.rd (Obj.PORT_RX_FRAMES p) + 1) % 2 ^ 64)).rxDrops p f = false → f.kind ≠ 4 → f.tagOk = true →
    f.epoch = s.rxEpoch f → 249 ≤ f.flow → 0 < f.session → f.session < 8 → (s.ses f.session).isOpen = true →
    ∃ t, exec (.frameReceive p f) s = .next t ∧ t.rd (Obj.PORT_RX_FRAMES p) = (s.rd (Obj.PORT_RX_FRAMES p) + 1) % 2 ^ 64 ∧
      t.port p = { s.port p with rxq := (s.port p).rxq ++ [f] } ∧ t.rd (Obj.PORT_PEER_LEARNED p) = f.srcMac ∧
      t.rd (Obj.DEV_SESS_PORT f.session) = p ∧ t.ses f.session = { s.ses f.session with heard := s.wall } ∧
      (∀ i, i ≠ f.session → t.ses i = s.ses i) ∧ (∀ q, q ≠ p → t.port q = s.port q) ∧ t.rest = { s.rest with ports := t.ports } ∧
      t.log = s.log ∧ s.only t [Obj.PORT_RX_FRAMES p, Obj.PORT_PEER_LEARNED p, Obj.DEV_SESS_PORT f.session]) ∧
  (∀ (s : State) (p : Nat) (r : RxFrame),
    s.Sized → p < 28 → s.rxHead p 1 = some r → r.flow < 249 → s.rd (Obj.FLOW_DIR r.flow) = 1 → s.rd (Obj.FLOW_STATE r.flow) = 2 →
    r.seq = (s.flow r.flow).rxNext → (s.flow r.flow).rxHeld = [] → 0 < s.rxWindow r.flow →
    ∃ t, exec (.receiveFlowData p) s = .next t ∧ t.port p = { s.port p with rxq := (s.port p).rxq.drop 1 } ∧
      (t.flow r.flow).rxWords = (s.flow r.flow).rxWords ++ r.payload ∧ (t.flow r.flow).rxNext = (r.seq + 1) % 2 ^ 48 ∧
      (t.flow r.flow).rxHeld = [] ∧ (∀ g, g ≠ r.flow → t.flow g = s.flow g) ∧ (∀ q, q ≠ p → t.port q = s.port q) ∧
      t.rest = { s.rest with flows := t.flows, ports := t.ports } ∧ t.obj = s.obj ∧ t.sess = s.sess ∧ t.log = s.log) ∧
  (∀ (s : State) (p : Nat) (r : RxFrame),
    s.Sized → p < 28 → s.rxHead p 1 = some r → r.flow < 249 → s.rd (Obj.FLOW_DIR r.flow) = 1 → s.rd (Obj.FLOW_STATE r.flow) = 2 →
    seqBefore r.seq (s.flow r.flow).rxNext = true →
    ∃ t, exec (.receiveFlowData p) s = .next t ∧ t.port p = { s.port p with rxq := (s.port p).rxq.drop 1 } ∧
      t.rd (Obj.FLOW_RX_BEYOND r.flow) = min (2 ^ 32 - 1) (s.rd (Obj.FLOW_RX_BEYOND r.flow) + 1) ∧
      t.flow r.flow = { s.flow r.flow with
        rxPort := p, rxSent := if r.seq = (s.flow r.flow).rxHigh then r.sent else (s.flow r.flow).rxSent
        rxSince := some ((s.flow r.flow).rxSince.getD s.wall) } ∧
      (∀ g, g ≠ r.flow → t.flow g = s.flow g) ∧ (∀ q, q ≠ p → t.port q = s.port q) ∧
      t.rest = { s.rest with flows := t.flows, ports := t.ports } ∧ t.sess = s.sess ∧ t.log = s.log ∧
      s.only t [Obj.FLOW_RX_BEYOND r.flow]) ∧
  (∀ (s : State) (f w : Nat),
    s.Sized → f < 256 → (s.flow f).rxSince = some w → w + 100 * tpus ≤ s.wall → (s.flow f).rxPort < 28 →
    ∃ t, exec (.receiveFlowAckTimer f) s = .next t ∧ t.flow f = { s.flow f with rxSince := none } ∧
      (2, f) ∈ (t.port (s.flow f).rxPort).replies ∧ (∀ g, g ≠ f → t.flow g = s.flow g) ∧
      (∀ q, q ≠ (s.flow f).rxPort → t.port q = s.port q) ∧ t.rest = { s.rest with flows := t.flows, ports := t.ports } ∧ t.obj = s.obj ∧
      t.sess = s.sess ∧ t.log = s.log)

/-- Frames (R248, R262, R266): a frame of a running flow whose words wait closes at FLOW_BEATS beats, its SEQ the next one modulo
2^48, its words the first that waited; on a control flow the oldest dictionary frame that waits becomes a frame; the flush
timer closes a short one and nothing waits any more.
Records of the engine itself (R235, R236, R373): once a second every running flow and side area takes a time anchor; a flow with
FLOW_STATUS takes a status record for its second, a shed change or an alert; a custody segment that is due and can be signed
closes with a manifest, and its number advances. -/
def Obligations.FramesAndEngineRecords : Prop :=
  (∀ (s : State) (f : Nat),
    s.Sized → f < 249 → s.flowRuns f = true → s.isStandby = false → s.frameWords f ≤ (s.flow f).tail.length →
    (∀ p ∈ s.rsv.pch, p.failed = false) →
    s.rd (Obj.FLOW_SRC f) ∈ [1, 6, 7, 8] ∨ (s.flow f).frames = [] ∧ s.frameWords f ≤ 2 ^ s.rd (Obj.FLOW_RETAIN_LOG2 f) ∧
      (s.flow f).pos ≤ 2 ^ s.rd (Obj.FLOW_RETAIN_LOG2 f) →
    ∃ t, exec (.frameClose f) s = .next t ∧ t.rd (Obj.FLOW_SEQ_NEXT f) = (s.rd (Obj.FLOW_SEQ_NEXT f) + 1) % 2 ^ 48 ∧
      (t.flow f).tail = (s.flow f).tail.drop (s.frameWords f) ∧
      (t.flow f).frames.map (fun x => (x.seq, x.words, x.sent)) =
        (s.flow f).frames.map (fun x => (x.seq, x.words, x.sent)) ++ [(s.rd (Obj.FLOW_SEQ_NEXT f), (s.flow f).tail.take (s.frameWords f), 0)] ∧
      (∀ g, g ≠ f → t.flow g = s.flow g) ∧ t.rest = { s.rest with flows := t.flows, rsv := t.rsv } ∧ t.sess = s.sess ∧ t.log = s.log ∧
      s.only t [Obj.FLOW_SEQ_NEXT f, Obj.RSV_OUTSTANDING, Obj.RSV_OUTSTANDING_PEAK]) ∧
  (∀ (s : State) (f : Nat) (d : Sys2Proof.Machine.Frame) (rest : List Sys2Proof.Machine.Frame),
    s.Sized → 249 ≤ f → f < 256 → (s.ses (f - 248)).txq = d :: rest → (s.flow f).frames.length < 64 → s.handing = false →
    ∃ t, exec (.frameClose f) s = .next t ∧ t.rd (Obj.FLOW_SEQ_NEXT f) = (s.rd (Obj.FLOW_SEQ_NEXT f) + 1) % 2 ^ 48 ∧
      t.ses (f - 248) = { s.ses (f - 248) with txq := rest } ∧ (∀ i, i ≠ f - 248 → t.ses i = s.ses i) ∧
      (t.flow f).frames.map (fun x => (x.seq, x.octets)) =
        (s.flow f).frames.map (fun x => (x.seq, x.octets)) ++ [(s.rd (Obj.FLOW_SEQ_NEXT f), d.octets)] ∧
      (∀ g, g ≠ f → t.flow g = s.flow g) ∧ t.rest = { s.rest with flows := t.flows } ∧ t.log = s.log ∧
      s.only t [Obj.FLOW_SEQ_NEXT f]) ∧
  (∀ (s : State) (f : Nat),
    s.Sized → f < 249 → s.flowRuns f = true → s.isStandby = false → (s.flow f).tail ≠ [] → (s.flow f).tail.length < s.frameWords f →
    (∀ p ∈ s.rsv.pch, p.failed = false) →
    (s.flow f).atBoundary = true → (s.flow f).since + s.rd (Obj.FLOW_FLUSH f) * tpus ≤ s.wall → s.byReference f = true ∨ s.rd (Obj.FLOW_SRC f) = 8 ∨
      (s.flow f).frames = [] ∧ (s.flow f).fillBeat.pos ≤ 2 ^ s.rd (Obj.FLOW_RETAIN_LOG2 f) →
    ∃ t, exec (.flowFlushTimer f) s = .next t ∧ (t.flow f).tail = [] ∧
      t.rd (Obj.FLOW_SEQ_NEXT f) = (s.rd (Obj.FLOW_SEQ_NEXT f) + 1) % 2 ^ 48 ∧
      (t.flow f).frames.map (fun x => (x.seq, x.words)) =
        (s.flow f).frames.map (fun x => (x.seq, x.words)) ++ [(s.rd (Obj.FLOW_SEQ_NEXT f), (s.flow f).fillBeat.tail)] ∧
      (∀ g, g ≠ f → t.flow g = s.flow g) ∧ t.rest = { s.rest with flows := t.flows, rsv := t.rsv } ∧ t.sess = s.sess ∧ t.log = s.log ∧
      s.only t [Obj.FLOW_SEQ_NEXT f, Obj.RSV_OUTSTANDING, Obj.RSV_OUTSTANDING_PEAK]) ∧
  (∀ (s : State) (f : Nat),
    s.Sized → s.runningFlows = [f] → secondDue (s.flow f).anchorAt s.tick = true → s.isStandby = false → s.twin.entered = [] →
    (s.flow f).cut = [] → (s.flow f).left = 0 → (s.flow f).lost = [] → (s.flow f).subst = false → secondDue s.anchorAt s.tick = false → s.pwr.cold = false →
    ∃ t, exec .timeAnchorEmit s = .next t ∧ (t.flow f).tail = (s.flow f).tail ++ s.anchor.words ∧
      (t.flow f).anchorAt = nextSecond s.tick ∧ (∀ g, g ≠ f → t.flow g = s.flow g) ∧ t.rest = { s.rest with flows := t.flows } ∧
      t.obj = s.obj ∧ t.sess = s.sess ∧ t.log = s.log) ∧
  (∀ (s : State) (f : Nat),
    s.Sized → s.runningFlows = [f] → s.statusDue f = true → s.isStandby = false → s.twin.entered = [] →
    (s.flow f).cut = [] → (s.flow f).left = 0 → (s.flow f).lost = [] → (s.flow f).subst = false →
    ∃ t, exec .statusEmit s = .next t ∧ (t.flow f).tail = (s.flow f).tail ++ (s.sampleTj.status f).words ∧
      (t.flow f).statShed = s.rd Obj.DEV_SHED_ACTIVE ∧ (t.flow f).statAlerts = s.log.alerts ∧ t.free = s.free + 16 ∧
      (∀ g, g ≠ f → t.flow g = s.flow g) ∧ t.rest = { s.rest with flows := t.flows, free := t.free } ∧ t.sess = s.sess ∧
      t.log.alerts = s.log.alerts ∧
      s.onlyE t (Obj.PWR_TJ :: (List.range 16).map Obj.DEV_TJ_SENSOR ++ (List.range 4).map Obj.CONV_CAL_ADVISED)) ∧
  (∀ (s : State) (f : Nat),
    s.Sized → f < 249 → s.flowRuns f = true → s.isStandby = false → s.segmentDue f = true → (s.flow f).cut = [] → (s.flow f).left = 0 →
    (s.flow f).lost = [] → (s.flow f).subst = false → s.signed.2 < 20000 →
    ∃ t, exec (.custodySegmentClose f) s = .next t ∧ (t.flow f).tail = (s.flow f).tail ++ (s.manifest f).words ∧
      (t.flow f).custody.seg = (s.flow f).custody.seg + 1 ∧ (t.flow f).custody.records = 0 ∧
      (t.flow f).custody.prevHash = Config.sha384 (packWords (s.manifest f).words) ∧
      t.rd (Obj.SEC_CUST_SEGMENT f) = (s.flow f).custody.seg + 1 ∧ (∀ g, g ≠ f → t.flow g = s.flow g) ∧
      t.rest = { s.rest with flows := t.flows, signed := t.signed } ∧ t.sess = s.sess ∧ t.log = s.log ∧ s.only t [Obj.SEC_CUST_SEGMENT f])

/-- Transmission and retransmission (R243, R245, R254, R258, R260, R263): an ARP answer leaves first; a port's next data frame that
holds a token is on the wire with its count of tries, and stays with the flow as sent; a frame whose timer expires is marked
for retransmission, for which its content is read again, or lost after FLOW_TRY_MAX of them; a flow without an ACK for 1 s stalls and raises an alert. -/
def Obligations.Transmission : Prop :=
  (∀ (s : State) (p fam mac : Nat) (rest : List (Nat × Nat)),
    s.Sized → p < 28 → s.rd (Obj.PORT_STATE p) = 3 → 2 ≤ s.rd Obj.DEV_STATE → (s.port p).replies = (fam, mac) :: rest → fam ≠ 2 →
    (∀ i, i < 8 → (s.ses i).closing = none) → s.txFill p + 64 * 84 ≤ 64 * 65536 →
    ∃ t, exec (.frameTransmit p) s = .next t ∧
      t.port p = { s.port p with replies := rest, txFill := s.txFill p + 64 * 84, txAt := s.wall, sends := (t.port p).sends } ∧
      (t.port p).sends = (s.wall, 84, false) :: (s.port p).sends.filter (fun e => Nat.blt s.wall (e.1 + tpms)) ∧
      t.rd (Obj.PORT_TX_FRAMES p) = (s.rd (Obj.PORT_TX_FRAMES p) + 1) % 2 ^ 64 ∧
      t.wire.head?.map (fun w => (w.kind, w.port, w.dstMac)) = some (256 + fam, p, mac) ∧
      (∀ q, q ≠ p → t.port q = s.port q) ∧ t.rest = { s.rest with ports := t.ports, wire := t.wire } ∧ t.sess = s.sess ∧
      t.log = s.log ∧ s.only t [Obj.PORT_TX_FRAMES p]) ∧
  (∀ (s : State) (p f : Nat) (fr : TxFrame),
    s.Sized → p < 28 → s.rd (Obj.PORT_STATE p) = 3 → 2 ≤ s.rd Obj.DEV_STATE → (s.port p).replies = [] → s.peer p ≠ 0 → s.rd Obj.TWIN_STATE = 0 →
    s.controlFrames p = [] → s.portRoom p = true → oldestFrame false (s.dataFrames p false) = some (f, fr) →
    fr.sent = 0 → (s.flow f).frames = [fr] → f < 249 → s.txFill p + 64 * ((s.payload f fr).length + 154) ≤ 64 * 65536 →
    (∀ i, i < 8 → (s.ses i).closing = none) →
    ∃ t, exec (.frameTransmit p) s = .next t ∧
      t.rd (Obj.PORT_TX_FRAMES p) = (s.rd (Obj.PORT_TX_FRAMES p) + 1) % 2 ^ 64 ∧
      t.wire.head?.map (fun w => (w.kind, w.flow, w.seq, w.tries, w.port, w.dstMac)) = some (1, f, fr.seq, 0, p, s.peer p) ∧
      (t.flow f).frames = [{ fr with sent := 1, lastAt := s.wall, port := p, again := false, ready := false, logged := false }] ∧
      (∀ g, g ≠ f → t.flow g = s.flow g) ∧ (∀ q, q ≠ p → t.port q = s.port q) ∧
      t.rest = { s.rest with flows := t.flows, ports := t.ports, wire := t.wire } ∧ t.sess = s.sess ∧ t.log = s.log ∧
      s.only t [Obj.PORT_TX_FRAMES p]) ∧
  (∀ (s : State) (f q : Nat) (fr : TxFrame),
    s.Sized → f < 249 → (s.flow f).frames.find? (fun x => x.seq == q) = some fr → fr.sent ≠ 0 → fr.lastAt + s.rto f ≤ s.wall → fr.sent ≤ s.rd (Obj.FLOW_TRY_MAX f) →
    (∀ p ∈ s.rsv.pch, p.failed = false) →
    ∃ t, exec (.rtoExpiry f q) s = .next t ∧
      (t.flow f).frames.map (fun g => { g with ready := false }) =
        (s.flow f).frames.map (fun g => { g with again := g.again || g.seq == q, ready := false }) ∧
      t.flow f = { s.flow f with frames := (t.flow f).frames } ∧
      (∀ g, g ≠ f → t.flow g = s.flow g) ∧ t.rest = { s.rest with flows := t.flows, rsv := t.rsv } ∧ t.sess = s.sess ∧ t.log = s.log ∧
      s.only t [Obj.RSV_OUTSTANDING, Obj.RSV_OUTSTANDING_PEAK]) ∧
  (∀ (s : State) (f q : Nat) (fr : TxFrame),
    s.Sized → f < 249 → (s.flow f).frames.find? (fun x => x.seq == q) = some fr → fr.sent ≠ 0 → fr.lastAt + s.rto f ≤ s.wall → s.rd (Obj.FLOW_TRY_MAX f) < fr.sent →
    s.rd (Obj.FLOW_SRC f) ≠ 8 →
    ∃ t, exec (.rtoExpiry f q) s = .next t ∧ (∀ g ∈ (t.flow f).frames, g.seq ≠ q) ∧
      t.rd (Obj.FLOW_LOST f) = min (2 ^ 32 - 1) (s.rd (Obj.FLOW_LOST f) + 1) ∧ t.rd (Obj.FLOW_LOST_FIRST f) = q ∧
      (∀ g, g ≠ f → t.flow g = s.flow g) ∧ t.rest = { s.rest with flows := t.flows } ∧
      s.onlyE t [Obj.FLOW_LOST f, Obj.FLOW_LOST_ALL, Obj.FLOW_LOST_FIRST f]) ∧
  (∀ (s : State) (f : Nat),
    f < 249 → s.rd (Obj.FLOW_STATE f) = 2 → s.rd (Obj.FLOW_DIR f) = 0 → s.pwr.suspended = false → max (s.flow f).ackAt (s.flow f).liveAt + tps ≤ s.wall →
    ∃ t, exec (.flowStall f) s = .next t ∧ t.rd (Obj.FLOW_STATE f) = 4 ∧ t.log.alerts = s.log.alerts + 1 ∧
      s.keepsE t [Obj.FLOW_STATE f])

/-- Acknowledgements (R258, R386): an ACK later than those accepted releases the frames it names, is noted with its CUM and tick and
ends a stall; one that is not later is counted and changes nothing else of the flow. A standby's forwarded ACK acts the same. -/
def Obligations.Acknowledgements : Prop :=
  (∀ (s : State) (p : Nat) (r : RxFrame),
    s.Sized → p < 28 → s.rxHead p 2 = some r → r.flow < 249 → s.flowSends r.flow = true →
    ((s.flow r.flow).ackSeq = 0 ∨ seqBefore ((s.flow r.flow).ackSeq - 1) r.seq = true) →
    (∀ p ∈ s.rsv.pch, p.failed = false) →
    ∃ t, exec (.ackReceive p) s = .next t ∧ t.port p = { s.port p with rxq := (s.port p).rxq.drop 1 } ∧
      (t.flow r.flow).frames.map TxFrame.seq = ((s.flow r.flow).frames.map TxFrame.seq).filter (fun q => !ackReleases (ackOf r.seq r.payload) q) ∧
      t.rd (Obj.FLOW_CUM r.flow) = (ackOf r.seq r.payload).cum ∧ t.rd (Obj.FLOW_ACK_LAST r.flow) = s.tick ∧
      t.rd (Obj.FLOW_STATE r.flow) = (if s.rd (Obj.FLOW_STATE r.flow) = 4 then 2 else s.rd (Obj.FLOW_STATE r.flow)) ∧
      (∀ g, g ≠ r.flow → t.flow g = s.flow g) ∧ (∀ q, q ≠ p → t.port q = s.port q) ∧
      t.rest = { s.rest with flows := t.flows, ports := t.ports, rsv := t.rsv } ∧ t.sess = s.sess ∧ t.log = s.log ∧
      s.only t [Obj.FLOW_CUM r.flow, Obj.FLOW_ACK_LAST r.flow, Obj.FLOW_RTT_AVG r.flow, Obj.FLOW_STATE r.flow,
        Obj.RSV_OUTSTANDING, Obj.RSV_OUTSTANDING_PEAK]) ∧
  (∀ (s : State) (p : Nat) (r : RxFrame),
    s.Sized → p < 28 → s.rxHead p 2 = some r → r.flow < 249 → s.flowSends r.flow = true → (s.flow r.flow).ackSeq ≠ 0 →
    seqBefore ((s.flow r.flow).ackSeq - 1) r.seq = false →
    ∃ t, exec (.ackReceive p) s = .next t ∧ t.port p = { s.port p with rxq := (s.port p).rxq.drop 1 } ∧
      t.rd (Obj.FLOW_RX_BEYOND r.flow) = min (2 ^ 32 - 1) (s.rd (Obj.FLOW_RX_BEYOND r.flow) + 1) ∧
      (∀ q, q ≠ p → t.port q = s.port q) ∧ t.rest = { s.rest with ports := t.ports } ∧ t.sess = s.sess ∧ t.log = s.log ∧
      s.only t [Obj.FLOW_RX_BEYOND r.flow]) ∧
  (∀ (s : State) (f : Nat) (a : Ack),
    s.Sized → f < 249 → s.rd Obj.TWIN_STATE = 3 → s.paired = true → s.flowSends f = true →
    ((s.flow f).ackSeq = 0 ∨ seqBefore ((s.flow f).ackSeq - 1) a.seq = true) →
    (∀ p ∈ s.rsv.pch, p.failed = false) →
    ∃ t, exec (.forwardedAckReceive f a) s = .next t ∧
      (t.flow f).frames.map TxFrame.seq = ((s.flow f).frames.map TxFrame.seq).filter (fun q => !ackReleases a q) ∧
      t.rd (Obj.FLOW_CUM f) = a.cum ∧ t.rd (Obj.FLOW_ACK_LAST f) = s.tick ∧ (∀ g, g ≠ f → t.flow g = s.flow g) ∧
      t.rest = { s.rest with flows := t.flows, rsv := t.rsv } ∧ t.sess = s.sess ∧ t.log = s.log ∧
      s.only t [Obj.FLOW_CUM f, Obj.FLOW_ACK_LAST f, Obj.FLOW_RTT_AVG f, Obj.FLOW_STATE f, Obj.RSV_OUTSTANDING, Obj.RSV_OUTSTANDING_PEAK])

/-- Ownership and Joints of flows (R249, R251): a free flow is claimed within the quota and released by its owner when disabled; a
control flow's number is denied; a Joint that enables a flow begins an incarnation with SEQ 0 and a time anchor first; one that
disables it lets it drain; a drained flow's ring is freed and it is disabled. -/
def Obligations.FlowLife : Prop :=
  (∀ (s : State) (sess tag f : Nat),
    s.Sized → f < 249 → s.serves sess tag (Obj.FLOW_CLAIM f) 1 = true → s.holder ⟨.flow, f⟩ = none → s.heldOf .flow sess < s.rd (Obj.DEV_QUOTA_FLOWS sess) →
    ∃ t, exec (.flowClaim sess tag f) s = .next t ∧ s.replied t sess tag (Obj.FLOW_CLAIM f) .ok ∧ t.holder ⟨.flow, f⟩ = some sess ∧
      t.rd (Obj.FLOW_STATE f) = 1 ∧ t.rd (Obj.FLOW_OWNER f) = sess ∧
      ((s.flow f).keyOf ≠ some (sess, (s.ses sess).inc) → t.rd (Obj.FLOW_INCARN f) = 0) ∧
      t.flow f = { s.flow f with keyOf := some (sess, (s.ses sess).inc) } ∧ (∀ g, g ≠ f → t.flow g = s.flow g) ∧
      t.rest = { s.rest with owners := t.owners, flows := t.flows } ∧ t.log = s.log ∧
      s.only t [Obj.FLOW_STATE f, Obj.FLOW_OWNER f, Obj.FLOW_INCARN f, Obj.FLOW_FREE]) ∧
  (∀ (s : State) (sess tag f : Nat),
    s.Sized → f < 249 → s.serves sess tag (Obj.FLOW_CLAIM f) 2 = true → s.holder ⟨.flow, f⟩ = some sess → s.rd (Obj.FLOW_STATE f) = 1 →
    ∃ t, exec (.flowRelease sess tag f) s = .next t ∧ s.replied t sess tag (Obj.FLOW_CLAIM f) .ok ∧ t.holder ⟨.flow, f⟩ = none ∧
      t.rd (Obj.FLOW_STATE f) = 0 ∧ t.rd (Obj.FLOW_OWNER f) = 255 ∧ t.flow f = { s.flow f with secret := 0 } ∧
      (∀ g, g ≠ f → t.flow g = s.flow g) ∧ t.rest = { s.rest with owners := t.owners, staged := t.staged, flows := t.flows } ∧
      t.log = s.log ∧ s.only t [Obj.FLOW_STATE f, Obj.FLOW_OWNER f, Obj.FLOW_FREE]) ∧
  (∀ (s : State) (sess tag f : Nat),
    249 ≤ f → f < 256 → s.serves sess tag (Obj.FLOW_CLAIM f) 1 = true →
    ∃ t, exec (.flowClaim sess tag f) s = .next t ∧ s.replied t sess tag (Obj.FLOW_CLAIM f) .denied ∧ s.keeps t []) ∧
  (∀ (s : State) (f b : Nat) (w : Swap),
    s.Sized → f < 249 → s.due 8 ⟨.flow, f⟩ = some (w, b) → w.value s (Obj.FLOW_ENABLE f) = 1 → s.rdB (Obj.FLOW_ENABLE f) = false → s.rd (Obj.FLOW_STATE f) ≠ 3 →
    w.cause = none → s.rd (Obj.FLOW_DIR f) = 0 → s.isStandby = false → w.vals = [(Obj.FLOW_ENABLE f, 1)] → s.twin.entered = [] →
    ∃ t, exec (.flowEnableJoint f) s = .next t ∧ t.rd (Obj.FLOW_STATE f) = 2 ∧ t.rd (Obj.FLOW_LAST_JOINT f) = b ∧
      t.rd (Obj.FLOW_SEQ_NEXT f) = 0 ∧ t.rd (Obj.FLOW_CUM f) = 0 ∧ t.rd (Obj.FLOW_INCARN f) = s.rd (Obj.FLOW_INCARN f) + 1 ∧
      (t.flow f).frames = [] ∧ (t.flow f).from_ = b ∧ (t.flow f).tail.head?.map (· / 2 ^ 28) = some 14 ∧
      (∀ g, g ≠ f → t.flow g = s.flow g) ∧ t.chans = s.chans ∧ t.tuners = s.tuners ∧ t.control = s.control) ∧
  (∀ (s : State) (f b : Nat) (w : Swap),
    s.Sized → f < 249 → s.due 8 ⟨.flow, f⟩ = some (w, b) → w.value s (Obj.FLOW_ENABLE f) = 0 → s.rdB (Obj.FLOW_ENABLE f) = true →
    w.vals = [(Obj.FLOW_ENABLE f, 0)] → (∀ m, m < 96 → s.rd (Obj.MOVE_STATE m) ∉ [2, 3, 4]) →
    ∃ t, exec (.flowDisableJoint f) s = .next t ∧ t.rd (Obj.FLOW_STATE f) = 3 ∧ t.rd (Obj.FLOW_LAST_JOINT f) = b ∧
      (∀ g, g ≠ f → t.flow g = s.flow g) ∧ t.chans = s.chans ∧ t.tuners = s.tuners ∧ t.control = s.control) ∧
  (∀ (s : State) (f : Nat),
    s.Sized → f < 249 → s.rd (Obj.FLOW_STATE f) = 3 → (s.flow f).frames = [] → (s.flow f).ending = false →
    ∃ t, exec (.flowDrainEnd f) s = .next t ∧ t.rd (Obj.FLOW_STATE f) = 1 ∧ t.flow f = s.flow f ∧
      (∀ g, g ≠ f → t.flow g = s.flow g) ∧ t.rest = { s.rest with flows := t.flows, rsv := t.rsv } ∧ t.sess = s.sess ∧
      t.log = s.log ∧ s.only t [Obj.FLOW_STATE f, Obj.RSV_PANS_FREE])

/-- The I3C target (R329 to R331, R335, R479): ENTDAA and SETDASA assign an address while there is none; a GET common command returns its
octets; a sound frame written waits to be served and an unsound one is counted; a whole private read takes the oldest frame, one in part leaves it, and an
empty queue is not acknowledged; a frame that waits requests an interrupt; a transfer in another HDR mode is discarded and counted (R8), and a
request with an outstanding tag too (R337). -/
def Obligations.I3cTarget : Prop :=
  (∀ (s : State) (cmd addr : Nat),
    s.rd Obj.DEV_STATE ≠ 0 → s.rd Obj.DEV_I3C_ADDR = 0 → cmd < 2 → 0 < addr → addr < 128 →
    ∃ t, exec (.i3cDynamicAddress cmd addr) s = .next t ∧ t.rd Obj.DEV_I3C_ADDR = addr ∧ s.keeps t [Obj.DEV_I3C_ADDR] ∧ t.sess = s.sess) ∧
  (∀ (s : State) (code arg : Nat) (o : List Nat),
    s.rd Obj.DEV_STATE ≠ 0 → s.rd Obj.DEV_I3C_ADDR ≠ 0 → s.i3cGet code = some o →
    ∃ t, exec (.i3cCommonCommand code arg) s = .next t ∧ t.i3c = { s.i3c with acked := true, out := o, hdr := false } ∧
      t.rest = { s.rest with i3c := t.i3c, free := t.free } ∧ t.obj = s.obj ∧ t.sess = s.sess ∧ t.log = s.log) ∧
  (∀ (s : State) (o : List Nat),
    s.i3cLive = true → s.i3c.hdr = false → s.i3c.inbox.length < 2 → requestSound o = true →
    (s.ses 0).isOpen = false ∨ (parseRequest o).op = 1 ∨ (s.tagTaken 0 (parseRequest o).tag = false ∧ s.requests 0 < 64) →
    ∃ t, exec (.i3cPrivateWrite false 0 o) s = .next t ∧
      t.i3c = { s.i3c with acked := true, ddr := false, inbox := s.i3c.inbox ++ [o] } ∧
      t.rest = { s.rest with i3c := t.i3c } ∧ t.obj = s.obj ∧ t.sess = s.sess ∧ t.log = s.log) ∧
  (∀ (s : State) (o : List Nat),
    s.i3cLive = true → s.i3c.hdr = false → s.i3c.inbox.length < 2 → requestSound o = false →
    ∃ t, exec (.i3cPrivateWrite false 0 o) s = .next t ∧ t.i3c = { s.i3c with acked := true, ddr := false } ∧
      t.rd Obj.DEV_I3C_CRC_ERR = min (2 ^ 32 - 1) (s.rd Obj.DEV_I3C_CRC_ERR + 1) ∧ t.rest = { s.rest with i3c := t.i3c } ∧
      t.sess = s.sess ∧ t.log = s.log ∧ s.only t [Obj.DEV_I3C_CRC_ERR]) ∧
  (∀ (s : State) (f : Sys2Proof.Machine.Frame) (rest : List Sys2Proof.Machine.Frame) (code got : Nat),
    s.Sized → s.i3cLive = true → s.i3c.hdr = false → (s.ses 0).txq = f :: rest → (∀ i, i < 8 → (s.ses i).closing = none) → f.octets.length ≤ got →
    ∃ t, exec (.i3cPrivateRead false code got) s = .next t ∧
      t.i3c = { s.i3c with acked := true, ibi := false, out := f.octets, ddr := false } ∧
      t.ses 0 = { s.ses 0 with txq := rest } ∧ (∀ i, i ≠ 0 → t.ses i = s.ses i) ∧ t.rest = { s.rest with i3c := t.i3c } ∧
      t.obj = s.obj ∧ t.log = s.log) ∧
  (∀ (s : State) (f : Sys2Proof.Machine.Frame) (rest : List Sys2Proof.Machine.Frame) (code got : Nat),
    s.i3cLive = true → s.i3c.hdr = false → (s.ses 0).txq = f :: rest → code = 0xA0 → got < f.octets.length →
    ∃ t, exec (.i3cPrivateRead true code got) s = .next t ∧ t.i3c = { s.i3c with acked := true, ibi := false, out := f.octets.take got, ddr := false } ∧
      t.rest = { s.rest with i3c := t.i3c } ∧ t.obj = s.obj ∧ t.sess = s.sess ∧ t.log = s.log) ∧
  (∀ (s : State) (ddr : Bool) (code got : Nat),
    s.i3c.hdr = false → (s.ses 0).txq = [] →
    ∃ t, exec (.i3cPrivateRead ddr code got) s = .next t ∧ t.i3c = { s.i3c with acked := false } ∧
      t.rd Obj.DEV_I3C_NACK = min (2 ^ 32 - 1) (s.rd Obj.DEV_I3C_NACK + 1) ∧ t.rest = { s.rest with i3c := t.i3c } ∧ t.sess = s.sess ∧
      t.log = s.log ∧ s.only t [Obj.DEV_I3C_NACK]) ∧
  (∀ (s : State) (ddr : Bool) (code got : Nat) (o : List Nat) (c : Instr),
    s.i3c.hdr = true → c = .i3cPrivateWrite ddr code o ∨ c = .i3cPrivateRead ddr code got →
    ∃ t, exec c s = .next t ∧ t.i3c = { s.i3c with hdr := false } ∧
      t.rd Obj.DEV_I3C_NACK = min (2 ^ 32 - 1) (s.rd Obj.DEV_I3C_NACK + 1) ∧ t.rest = { s.rest with i3c := t.i3c } ∧ t.sess = s.sess ∧
      t.log = s.log ∧ s.only t [Obj.DEV_I3C_NACK]) ∧
  (∀ (s : State) (o : List Nat),
    s.Sized → s.i3cLive = true → s.i3c.hdr = false → s.i3c.inbox.length < 2 → requestSound o = true → (s.ses 0).isOpen = true →
    (parseRequest o).op ≠ 1 → s.tagTaken 0 (parseRequest o).tag = true →
    ∃ t, exec (.i3cPrivateWrite false 0 o) s = .next t ∧ t.i3c = { s.i3c with acked := true, ddr := false } ∧
      t.rd (Obj.DEV_SESS_TAG_DUP 0) = min (2 ^ 32 - 1) (s.rd (Obj.DEV_SESS_TAG_DUP 0) + 1) ∧ t.rest = { s.rest with i3c := t.i3c } ∧
      t.sess = s.sess ∧ t.log = s.log ∧ s.only t [Obj.DEV_SESS_TAG_DUP 0]) ∧
  (∀ (s : State),
    s.i3cLive = true → (s.ses 0).txq ≠ [] → s.i3c.ibi = false → s.i3c.ibiOff = false →
    ∃ t, exec .ibiRequest s = .next t ∧ t.i3c.ibi = true ∧
      t.i3c.ibiByte = (if (s.ses 0).txq.any (fun f => f.kind == 0x90 && f.status == 4) then 2 else 1) ∧
      t.rest = { s.rest with i3c := t.i3c } ∧ t.obj = s.obj ∧ t.sess = s.sess ∧ t.log = s.log)

/-- Sessions that open (R341, R343, R347): a HELLO over I3C while no session 0 is open opens one as administrator with the highest
common version, its own objects at their defaults; a HELLO on a control flow changes nothing; both are answered OK with the
reply word.
Stores (R357): a DEV_STORE is accepted and waits for its time; the store that runs puts the session's persistent values written since
the last one into MRAM. -/
def Obligations.OpeningAndStores : Prop :=
  (∀ (s : State) (tag vmin vmax : Nat),
    s.Sized → s.rd Obj.DEV_STATE ≠ 0 → s.handing = false → s.rd Obj.DEV_I3C_ADDR ≠ 0 → (s.ses 0).isOpen = false → (s.ses 0).mirror = false →
    s.i3c.inbox = [] → s.commonDict vmin vmax ≠ 0 →
    ∃ t, exec (.hello 0 tag vmin vmax true) s = .next t ∧ (t.ses 0).isOpen = true ∧ (t.ses 0).inc = (s.ses 0).inc + 1 ∧
      (t.ses 0).ver = s.commonDict vmin vmax ∧ (t.ses 0).role = 2 ∧ (t.ses 0).tags = [] ∧
      (t.ses 0).txq = (s.ses 0).txq ++ [⟨0x80, tag, 0, 0, 0, 0, [s.helloWord (s.commonDict vmin vmax)]⟩] ∧
      (∀ i, i ≠ 0 → t.ses i = s.ses i) ∧ t.rd (Obj.DEV_SESS_STATE 0) = 1 ∧ t.rd (Obj.DEV_SESS_ROLE 0) = 2 ∧
      t.rd (Obj.DEV_SESS_OPENED 0) = s.tick ∧ t.rd (Obj.DEV_SESS_PORT 0) = 255 ∧
      (∀ k, k < 2 ^ 24 → perSession k = true → k ≠ Obj.DET_STORE_USED → t.rd k = dflt k) ∧
      (∀ k, ¬(k < 2 ^ 24 ∧ perSession k = true) → k ∉ [Obj.DEV_SESS_STATE 0, Obj.DEV_SESS_ROLE 0, Obj.DEV_SESS_OPENED 0, Obj.DEV_SESS_PORT 0] →
        t.rd k = s.rd k) ∧ t.rest = s.rest ∧ t.log = s.log) ∧
  (∀ (s : State) (sess tag vmin vmax : Nat),
    sess ≠ 0 → s.takes sess tag = true → (s.ses sess).inbox = [] →
    ∃ t, exec (.hello sess tag vmin vmax true) s = .next t ∧
      t.ses sess = { s.ses sess with
        heard := s.wall, txq := (s.ses sess).txq ++ [⟨0x80, tag, 0, 0, 0, 0, [s.helloWord (s.ses sess).ver]⟩] } ∧
      (∀ i, i ≠ sess → t.ses i = s.ses i) ∧ t.rest = s.rest ∧ t.obj = s.obj ∧ t.log = s.log) ∧
  (∀ (s : State) (sess tag : Nat),
    s.Sized → s.serves sess tag Obj.DEV_STORE 1 = true → s.upd.closed = false → (s.ses sess).storeAt = none → (s.ses sess).lastStore = none →
    ∃ t, exec (.devStore sess tag) s = .next t ∧ (t.ses sess).storeAt = some s.wall ∧ tag ∈ (t.ses sess).tags ∧
      (t.ses sess).txq = (s.ses sess).txq ++ [reply tag Obj.DEV_STORE .accepted] ∧
      (t.ses sess).storeReqs = (s.ses sess).storeReqs ++ [s.req sess tag Obj.DEV_STORE] ∧ (∀ i, i ≠ sess → t.ses i = s.ses i) ∧
      t.rest = s.rest ∧ t.obj = s.obj ∧ t.log = s.log) ∧
  (∀ (s : State) (sess w k : Nat),
    s.Sized → sess < 8 → (s.ses sess).storeAt = some w → w ≤ s.wall → (s.ses sess).psDirty = [k] → (s.ses sess).storeReqs = [] →
    ∃ t, exec (.storeRun sess) s = .next t ∧ t.mram = s.mram.set zeroDflt k (s.rd k + 1) ∧
      t.ses sess = { s.ses sess with psDirty := [], storeReqs := [], storeAt := none, lastStore := some s.wall } ∧
      (∀ i, i ≠ sess → t.ses i = s.ses i) ∧ t.rest = { s.rest with mram := t.mram } ∧ t.obj = s.obj ∧ t.log = s.log)

/-- Sessions that end (R332, R341, R344, R479): a CLOSE is answered OK and the session ends once the answer has left; DEV_SESS_END of
another session answers OK and ends it, one of its own session ends that unanswered, and its idle time-out and a CLOSE frame end it too, an idle one with a CLOSE frame to its host; RSTDAA and an interface
reset end session 0. A session that held nothing leaves its number free and everything else as it was. -/
def Obligations.SessionEnds : Prop :=
  (∀ (s : State) (sess tag : Nat),
    s.takes sess tag = true → (s.ses sess).inbox = [] → s.i3c.inbox = [] →
    ∃ t, exec (.close sess tag true) s = .next t ∧
      t.ses sess = { s.ses sess with
        heard := s.wall, txq := (s.ses sess).txq ++ [⟨0x80, tag, 0, 0, 0, 0, []⟩], closing := some tag } ∧
      (∀ i, i ≠ sess → t.ses i = s.ses i) ∧ t.rest = s.rest ∧ t.obj = s.obj ∧ t.log = s.log) ∧
  (∀ (s : State) (sess tag i : Nat),
    s.Sized → i < 8 → i ≠ 0 → i ≠ sess → s.serves sess tag (Obj.DEV_SESS_END i) 1 = true → (s.ses i).isOpen = true → holdsNothing s i = true →
    ∃ t, exec (.devSessEnd sess tag i 1) s = .next t ∧ (t.ses sess).txq = (s.ses sess).txq ++ [reply tag (Obj.DEV_SESS_END i) .ok] ∧
      (t.ses i).isOpen = false ∧ (t.ses i).ending = false ∧ (∀ j, j ≠ i → j ≠ sess → t.ses j = s.ses j) ∧ t.rd (Obj.DEV_SESS_STATE i) = 0 ∧
      t.rest = { s.rest with flows := t.flows, sec := t.sec } ∧ t.log = s.log ∧ s.only t (endKeys i)) ∧
  (∀ (s : State) (sess tag : Nat),
    s.Sized → sess < 8 → s.serves sess tag (Obj.DEV_SESS_END sess) 1 = true → (s.ses sess).isOpen = true → holdsNothing s sess = true →
    ∃ t, exec (.devSessEnd sess tag sess 1) s = .next t ∧ (t.ses sess).txq = (s.ses sess).txq ∧
      (t.ses sess).isOpen = false ∧ (t.ses sess).ending = false ∧ (t.ses sess).tags = [] ∧ (∀ j, j ≠ sess → t.ses j = s.ses j) ∧
      t.rd (Obj.DEV_SESS_STATE sess) = 0 ∧ t.rest = { s.rest with flows := t.flows, sec := t.sec } ∧ t.log = s.log ∧ s.only t (endKeys sess)) ∧
  (∀ (s : State) (i p : Nat),
    s.Sized → 0 < i → i < 8 → (s.ses i).isOpen = true → (s.ses i).mirror = false → (s.ses i).heard + s.rd Obj.DEV_SESSION_IDLE_S * tps ≤ s.wall →
    holdsNothing s i = true → s.rd (Obj.DEV_SESS_PORT i) = p → s.portUp p = true → s.rd Obj.TWIN_STATE ≠ 6 →
    ∃ t, exec (.sessionIdleTimeout i) s = .next t ∧ endedFrom s t i ∧
      t.wire.head?.map (fun w => (w.kind, w.sess, w.port, w.octets, w.dstIp)) = some (6, i, p, [4], (s.ses i).srcIp) ∧
      t.rest = { s.rest with flows := t.flows, sec := t.sec, wire := t.wire } ∧ t.log = s.log ∧ s.only t (Obj.PORT_TX_FRAMES p :: endKeys i)) ∧
  (∀ (s : State) (p : Nat) (r : RxFrame),
    s.Sized → p < 28 → s.rxHead p 6 = some r → 0 < r.session → r.session < 8 → (s.ses r.session).isOpen = true → holdsNothing s r.session = true →
    ∃ t, exec (.closeFrame p) s = .next t ∧ endedFrom s t r.session ∧ t.port p = { s.port p with rxq := (s.port p).rxq.drop 1 } ∧
      (∀ q, q ≠ p → t.port q = s.port q) ∧ t.rest = { s.rest with ports := t.ports, flows := t.flows, sec := t.sec } ∧ t.log = s.log ∧
      s.only t (endKeys r.session)) ∧
  (∀ (s : State),
    s.Sized → s.rd Obj.DEV_STATE ≠ 0 → (s.ses 0).isOpen = true → holdsNothing s 0 = true →
    ∃ t, exec .rstdaa s = .next t ∧ endedFrom s t 0 ∧ t.rd Obj.DEV_I3C_ADDR = 0 ∧ t.rest = { s.rest with sec := t.sec } ∧ t.log = s.log ∧
      s.only t (Obj.DEV_I3C_ADDR :: endKeys 0)) ∧
  (∀ (s : State),
    s.Sized → s.rd Obj.DEV_STATE ≠ 0 → (s.ses 0).isOpen = false →
    ∃ t, exec .rstactInterface s = .next t ∧ (t.ses 0).txq = [] ∧ t.i3c.inbox = [] ∧ t.rd Obj.DEV_RESET_KIND = 3 ∧
      t.rd Obj.DEV_RESET_CAUSE = 10 ∧ (∀ i, i ≠ 0 → t.ses i = s.ses i) ∧ t.rest = { s.rest with i3c := t.i3c } ∧ t.log = s.log ∧
      s.only t [Obj.DEV_RESET_KIND, Obj.DEV_RESET_CAUSE])

/-- OPEN frames (R265, R343, R365 to R368): a segment joins those of its source; one that is not whole after 100 ms is dropped and
counted; a whole OPEN that no version is common to is refused and one that authenticates takes the lowest free number in the
role it may have, with a reply and a control flow that begins. -/
def Obligations.SessionOpens : Prop :=
  (∀ (s : State) (p : Nat) (r : RxFrame),
    s.Sized → p < 28 → s.rxHead p 4 = some r → s.openFrom r.srcIp r.srcUdp = none → r.seq < 8 → r.payload.length ≤ 8192 →
    ∃ t, exec (.openSegmentReceive p) s = .next t ∧
      t.opens = s.opens ++ [{
        srcIp := r.srcIp, srcUdp := r.srcUdp, srcMac := r.srcMac, port := p, firstAt := s.wall
        segs := [(r.seq, r.payload)], total := if r.final then some (r.seq + 1) else none }] ∧
      t.port p = { s.port p with rxq := (s.port p).rxq.drop 1 } ∧ (∀ q, q ≠ p → t.port q = s.port q) ∧
      t.rest = { s.rest with ports := t.ports, opens := t.opens } ∧ t.obj = s.obj ∧ t.sess = s.sess ∧ t.log = s.log) ∧
  (∀ (s : State) (ip udp : Nat) (a : OpenAsm),
    s.openFrom ip udp = some a → a.whole = false → a.firstAt + 100 * tpms ≤ s.wall →
    ∃ t, exec (.openReassemblyTimeout ip udp) s = .next t ∧ t.openFrom ip udp = none ∧
      t.rd Obj.SEC_OPEN_DROP = min (2 ^ 32 - 1) (s.rd Obj.SEC_OPEN_DROP + 1) ∧ t.rest = { s.rest with opens := t.opens } ∧
      t.sess = s.sess ∧ t.log = s.log ∧ s.only t [Obj.SEC_OPEN_DROP]) ∧
  (∀ (s : State) (o : OpenInfo) (a : OpenAsm),
    s.openFrom o.srcIp o.srcUdp = some a → a.whole = true → s.portUp o.port = true → (s.openTimes.filter fun w => Nat.blt s.wall (w + tps)).length < 4 →
    s.isStandby = false → s.openSluice o = 0 ∨ s.openDict o = 0 →
    ∃ t, exec (.openSession o) s = .next t ∧ t.openFrom o.srcIp o.srcUdp = none ∧
      t.wire.head?.map (fun w => (w.kind, w.sess, w.octets.head?, w.dstIp)) = some (6, 255, some 1, o.srcIp) ∧
      t.rest = { s.rest with opens := t.opens, openTimes := t.openTimes, wire := t.wire } ∧ t.sess = s.sess ∧ t.log = s.log ∧
      s.only t [Obj.PORT_TX_FRAMES o.port]) ∧
  (∀ (s : State) (o : OpenInfo) (a : OpenAsm) (i : Nat),
    s.Sized → s.openFrom o.srcIp o.srcUdp = some a → a.whole = true → s.portUp o.port = true → o.port < 28 →
    (s.openTimes.filter fun w => Nat.blt s.wall (w + tps)).length < 4 →
    s.isStandby = false → s.openSluice o ≠ 0 → s.openDict o ≠ 0 → s.freeSession = some i → s.openFails o = false →
    ∃ t, exec (.openSession o) s = .next t ∧ (t.ses i).isOpen = true ∧ (t.ses i).inc = (s.ses i).inc + 1 ∧
      (t.ses i).ver = s.openDict o ∧ (t.ses i).role = min o.role ((s.openRole o).getD 0) ∧ (t.ses i).srcIp = o.srcIp ∧
      (t.ses i).secret = Config.sessionSecret o.transcript ∧ (∀ j, j ≠ i → t.ses j = s.ses j) ∧
      t.rd (Obj.DEV_SESS_STATE i) = 1 ∧ t.rd (Obj.DEV_SESS_PORT i) = o.port ∧
      t.rd Obj.SEC_OPEN_COUNT = min (2 ^ 32 - 1) (s.rd Obj.SEC_OPEN_COUNT + 1) ∧ t.flow (248 + i) = {} ∧
      t.wire.head?.map (fun w => (w.kind, w.sess, w.dstIp)) = some (5, i, o.srcIp) ∧ t.free = s.free + 2 ∧
      t.rest = { s.rest with opens := t.opens, openTimes := t.openTimes, wire := t.wire, flows := t.flows, free := t.free } ∧ t.log = s.log ∧
      (∀ k, k / 2 ^ 24 ≠ i → k ∉ [Obj.DEV_SESS_STATE i, Obj.DEV_SESS_ROLE i, Obj.DEV_SESS_OPENED i, Obj.DEV_SESS_PORT i,
        Obj.FLOW_SEQ_NEXT (248 + i), Obj.FLOW_CUM (248 + i), Obj.PORT_PEER_LEARNED o.port, Obj.SEC_OPEN_COUNT, Obj.SEC_OPEN_NOTIME,
        Obj.PORT_TX_FRAMES o.port] → t.rd k = s.rd k))

/-- The dictionary (R5, R6, R338, R348, R359): a READ answers with the words of the value in force; of an SH object with the staged one,
or the one in force with VIEW; an RC object is zero after a READ; a WRITE of an RW object takes effect at once and one of an SH object
is staged, the value in force as before, and one outside the range that the staged values of its unit give it is answered RANGE (R76,
R200); a failed check answers its status and does nothing else. -/
def Obligations.Dictionary : Prop :=
  (∀ (s : State) (sess tag idx sub : Nat) (row : Row),
    s.takes sess tag = true → (s.ses sess).inbox = [] → s.i3c.inbox = [] → sub < 256 → s.check sess (key idx sub) false (some 0) = .pass row →
    row.acc = .ro ∨ row.acc = .rw ∨ row.acc = .ps → (key idx sub = Obj.UPD_JOURNAL_DONE → s.rd Obj.UPD_STATE ≠ 4) → s.computed sess (key idx sub) = none → measured (key idx sub) = false → fecCounter (key idx sub) = false →
    dieTemp (key idx sub) = false →
    ∃ t, exec (.dictRead sess tag idx sub 0 0) s = .next t ∧
      t.ses sess = { s.ses sess with heard := s.wall, txq := (s.ses sess).txq ++
        [{ reply tag (key idx sub) .ok with words := row.ty.encode (s.rd (sessKey sess (key idx sub))) }] } ∧
      (∀ i, i ≠ sess → t.ses i = s.ses i) ∧ t.rest = s.rest ∧ t.obj = s.obj ∧ t.log = s.log) ∧
  (∀ (s : State) (sess tag idx sub view : Nat) (row : Row),
    s.takes sess tag = true → (s.ses sess).inbox = [] → s.i3c.inbox = [] → sub < 256 → s.check sess (key idx sub) false (some 0) = .pass row →
    row.acc = .sh → loadOf (key idx sub) = none → s.computed sess (key idx sub) = none → measured (key idx sub) = false → fecCounter (key idx sub) = false →
    dieTemp (key idx sub) = false →
    ∃ t, exec (.dictRead sess tag idx sub view 0) s = .next t ∧
      t.ses sess = { s.ses sess with heard := s.wall, txq := (s.ses sess).txq ++
        [{ reply tag (key idx sub) .ok with
          words := row.ty.encode (if view = 0 then s.staging sess (key idx sub) else s.rd (key idx sub)) }] } ∧
      (∀ i, i ≠ sess → t.ses i = s.ses i) ∧ t.rest = s.rest ∧ t.obj = s.obj ∧ t.log = s.log) ∧
  (∀ (s : State) (sess tag idx sub : Nat) (row : Row),
    s.takes sess tag = true → (s.ses sess).inbox = [] → s.i3c.inbox = [] → sub < 256 → s.check sess (key idx sub) false (some 0) = .pass row →
    row.acc = .rc → (s.ses sess).role ≠ 0 → s.computed sess (key idx sub) = none → measured (key idx sub) = false → fecCounter (key idx sub) = false →
    dieTemp (key idx sub) = false →
    ∃ t, exec (.dictRead sess tag idx sub 0 0) s = .next t ∧ t.rd (sessKey sess (key idx sub)) = 0 ∧
      t.ses sess = { s.ses sess with heard := s.wall, txq := (s.ses sess).txq ++
        [{ reply tag (key idx sub) .ok with words := row.ty.encode (s.rd (sessKey sess (key idx sub))) }] } ∧
      (∀ i, i ≠ sess → t.ses i = s.ses i) ∧ t.rest = s.rest ∧ t.log = s.log ∧ s.only t [sessKey sess (key idx sub)]) ∧
  (∀ (s : State) (sess tag idx sub v : Nat) (ws : List Nat) (row : Row),
    s.takes sess tag = true → (s.ses sess).inbox = [] → s.i3c.inbox = [] → sub < 256 → keyRow (key idx sub) = some row → row.ty.decode ws = some v →
    s.check sess (key idx sub) true (some v) = .pass row → row.acc = .sh → idx < 0x7000 → loadOf (key idx sub) = none → segsOf (key idx sub) = none →
    sizeOf' (key idx sub) = none → s.swapHolds sess (groupOf (key idx sub)) = false → s.inBounds sess (key idx sub) v = true →
    ∃ t, exec (.dictWrite sess tag idx sub ws) s = .next t ∧ s.replied t sess tag (key idx sub) .ok ∧
      t.staging sess (key idx sub) = v ∧ t.obj = s.obj ∧
      t.rest = { s.rest with staged := t.staged, owners := t.owners } ∧ t.log = s.log) ∧
  (∀ (s : State) (sess tag idx sub v : Nat) (ws : List Nat) (row : Row),
    s.takes sess tag = true → (s.ses sess).inbox = [] → s.i3c.inbox = [] → sub < 256 → keyRow (key idx sub) = some row → row.ty.decode ws = some v →
    s.check sess (key idx sub) true (some v) = .pass row → row.acc = .sh → idx < 0x7000 → loadOf (key idx sub) = none →
    s.swapHolds sess (groupOf (key idx sub)) = false → s.inBounds sess (key idx sub) v = false →
    ∃ t, exec (.dictWrite sess tag idx sub ws) s = .next t ∧ s.replied t sess tag (key idx sub) .range ∧ t.obj = s.obj ∧ t.rest = s.rest ∧
      t.log = s.log) ∧
  (∀ (s : State) (sess tag idx sub v : Nat) (ws : List Nat) (row : Row),
    s.takes sess tag = true → (s.ses sess).inbox = [] → s.i3c.inbox = [] → sub < 256 → key idx sub = Obj.DEV_JOINT_AT → keyRow (key idx sub) = some row →
    row.ty.decode ws = some v → s.check sess (key idx sub) true (some v) = .pass row →
    ∃ t, exec (.dictWrite sess tag idx sub ws) s = .next t ∧ s.replied t sess tag (key idx sub) .ok ∧
      t.rd (sk sess Obj.DEV_JOINT_AT) = v ∧ s.keeps t [sk sess Obj.DEV_JOINT_AT]) ∧
  (∀ (s : State) (sess tag idx sub : Nat) (ws : List Nat) (st : Status) (d : Nat),
    s.takes sess tag = true → (s.ses sess).inbox = [] → s.i3c.inbox = [] → sub < 256 → idx < 0x7000 →
    s.check sess (key idx sub) true ((keyRow (key idx sub)).bind fun row => row.ty.decode ws) = .fail st d →
    ∃ t, exec (.dictWrite sess tag idx sub ws) s = .next t ∧
      t.ses sess = { s.ses sess with heard := s.wall, txq := (s.ses sess).txq ++ [reply tag (key idx sub) st d] } ∧
      (∀ i, i ≠ sess → t.ses i = s.ses i) ∧ t.rest = s.rest ∧ t.obj = s.obj ∧ t.log = s.log)

/-- Floors, shedding and restoration (R17, R18, R25 to R27): k follows the input voltage and the fabric's floors follow k; while a
condition holds and 50 µs have passed, the next unit of R25's order is shed, its class's bit set and counted; after 100 ms without
one the unit shed last resumes. -/
def Obligations.Shedding : Prop :=
  (∀ (s : State) (mv k : Nat),
    k = min 65536 (mv * 65536 / 2500) →
    (((s.noteTrouble.wr Obj.PWR_PVIN_MV mv).wr Obj.DEV_PVIN_SCALE k).setFloors).overFloors = false →
    ∃ t, exec (.floorScaleUpdate mv) s = .next t ∧ t.rd Obj.PWR_PVIN_MV = mv ∧ t.rd Obj.DEV_PVIN_SCALE = k ∧
      t.rd Obj.DEV_FLOOR_BFLY = (s.fabricFloors k).1 ∧ t.rd Obj.DEV_FLOOR_CELL = (s.fabricFloors k).2 ∧
      t.rest = { s.rest with shed := t.shed } ∧ t.sess = s.sess ∧
      s.onlyE t [Obj.PWR_PVIN_MV, Obj.DEV_PVIN_SCALE, Obj.DEV_FLOOR_BFLY, Obj.DEV_FLOOR_CELL, Obj.DEV_FLOOR_RSV, Obj.DEV_FLOOR_PORT,
        Obj.DEV_FLOOR_POOL]) ∧
  (∀ (s : State) (c : Nat) (u : ShedUnit),
    s.Sized → s.shedCause = some c → s.shed.nextStep ≤ s.wall → s.shedNext c = some u →
    ∃ t, exec .shedStep s = .next t ∧ t.shed.units = { u with cause := c } :: s.shed.units ∧ t.shed.nextStep = s.wall + 50 * tpus ∧
      t.shed.troubleAt = s.wall ∧ bitOf (t.rd Obj.DEV_SHED_ACTIVE) (u.cls - 1) = true ∧
      t.rd (Obj.DEV_SHED_COUNT_CRYS + (u.cls - 1)) = min (2 ^ 32 - 1) (s.rd (Obj.DEV_SHED_COUNT_CRYS + (u.cls - 1)) + 1) ∧
      t.control = s.control) ∧
  (∀ (s : State) (u : ShedUnit) (rest : List ShedUnit) (h : Nat),
    s.Sized → s.shed.units = u :: rest → s.shedCause = none → s.shed.troubleAt + 100 * tpms ≤ s.wall → s.shed.nextRestore ≤ s.wall →
    s.shed.highSince = some h → h + 100 * tpms ≤ s.wall → ({ s with shed := { s.shed with units := rest } } : State).overFloors = false →
    0 < u.cls →
    ∃ t, exec .shedRestore s = .next t ∧ t.shed.units = rest ∧ t.shed.nextRestore = s.wall + 100 * tpms ∧
      t.rd Obj.DEV_SHED_ACTIVE = (if rest.any (fun v => v.cls == u.cls) then s.rd Obj.DEV_SHED_ACTIVE
        else setBit (s.rd Obj.DEV_SHED_ACTIVE) (u.cls - 1) false) ∧ t.control = s.control)

/-- Latches (R271, R278): a latch with nothing waiting for it begins the next frame at line 0, counts it and reads its tick; in command
mode a TE edge that may be accepted is one, an early one is counted, and its time-out makes one and counts the miss.
Layers (R273, R274, R281): a free layer is claimed, one that is off and holds no buffer is released at once; a palette entry is
staged; a buffer that waits for its release is freed. -/
def Obligations.ScanLatchesAndLayers : Prop :=
  (∀ (s : State),
    2 ≤ s.rd Obj.DEV_STATE → s.rdB Obj.SCAN_ENABLE = true → s.rd Obj.SCAN_MODE = 0 → s.scan.sending = false →
    s.scanLineAt (s.rd Obj.SCAN_VACTIVE) ≤ s.wall → s.scanSwaps = [] → s.scan.drop = [] → s.isShed 2 0 = false →
    ∃ t, exec .scanLatch s = .next t ∧ t.rd Obj.SCAN_FRAME = s.rd Obj.SCAN_FRAME + 1 ∧ t.rd Obj.SCAN_LATCH_TICK = s.tick ∧
      t.scan.sending = true ∧ t.scan.line = 0 ∧ t.scan.at_ = s.wall ∧ t.scan.crc = 0xFFFFFFFF ∧ t.scan.words = s.rsv.mem ∧
      (t.deadLine (t.scanFetchLine 0) = false → t.scan.fetched = 0) ∧
      t.scan.panic = t.scanPanicLevel ∧ t.rsv.mem = s.rsv.mem ∧ t.rsv.rings = s.rsv.rings ∧
      t.rest = { s.rest with scan := t.scan, rsv := t.rsv } ∧ t.sess = s.sess ∧ t.log = s.log ∧ s.only t latchKeys) ∧
  (∀ (s : State),
    s.commandMode = true → s.teOpen = true → s.scanSwaps = [] → s.scan.drop = [] → s.isShed 2 0 = false →
    ∃ t, exec .teInEdge s = .next t ∧ t.rd Obj.SCAN_FRAME = s.rd Obj.SCAN_FRAME + 1 ∧ t.rd Obj.SCAN_LATCH_TICK = s.tick ∧
      t.scan.te = some s.wall ∧ t.scan.sending = true ∧ t.scan.line = 0 ∧ t.rest = { s.rest with scan := t.scan, rsv := t.rsv } ∧ t.sess = s.sess ∧
      t.log = s.log ∧ s.only t latchKeys) ∧
  (∀ (s : State),
    s.commandMode = true → s.teOpen = false →
    ∃ t, exec .teInEdge s = .next t ∧ t.rd Obj.SCAN_TE_EXTRA = min (2 ^ 32 - 1) (s.rd Obj.SCAN_TE_EXTRA + 1) ∧
      s.keeps t [Obj.SCAN_TE_EXTRA] ∧ t.sess = s.sess) ∧
  (∀ (s : State),
    s.commandMode = true → s.teOpen = true → s.rd Obj.SCAN_TE_TIMEOUT ≠ 0 → s.teFrom + s.rd Obj.SCAN_TE_TIMEOUT * tpus ≤ s.wall →
    s.scanSwaps = [] → s.scan.drop = [] → s.isShed 2 0 = false →
    ∃ t, exec .scanTeTimeout s = .next t ∧ t.rd Obj.SCAN_TE_MISS = min (2 ^ 32 - 1) (s.rd Obj.SCAN_TE_MISS + 1) ∧
      t.rd Obj.SCAN_FRAME = s.rd Obj.SCAN_FRAME + 1 ∧ t.scan.te = some s.wall ∧ t.rest = { s.rest with scan := t.scan, rsv := t.rsv } ∧
      t.sess = s.sess ∧ t.log = s.log ∧ s.only t (Obj.SCAN_TE_MISS :: latchKeys)) ∧
  (∀ (s : State) (sess tag l : Nat),
    l < 4 → s.serves sess tag (Obj.SCAN_L_CLAIM l) 1 = true → s.holder ⟨.layer, l⟩ = none → s.heldOf .layer sess < 256 →
    ∃ t, exec (.scanLClaim sess tag l) s = .next t ∧ s.replied t sess tag (Obj.SCAN_L_CLAIM l) .ok ∧ t.holder ⟨.layer, l⟩ = some sess ∧
      t.rd (Obj.SCAN_L_OWNER l) = sess ∧ t.rest = { s.rest with owners := t.owners } ∧ t.log = s.log ∧ s.only t [Obj.SCAN_L_OWNER l]) ∧
  (∀ (s : State) (sess tag l : Nat),
    l < 4 → s.serves sess tag (Obj.SCAN_L_CLAIM l) 2 = true → s.holder ⟨.layer, l⟩ = some sess → s.rdB (Obj.SCAN_L_ENABLE l) = false →
    s.rd (Obj.SCAN_L_BUF_LOG2 l) = 0 → (∀ w ∈ s.swaps, w.change 9 ⟨.layer, l⟩ = none) →
    ∃ t, exec (.scanLRelease sess tag l) s = .next t ∧ s.replied t sess tag (Obj.SCAN_L_CLAIM l) .ok ∧ t.holder ⟨.layer, l⟩ = none ∧
      t.rd (Obj.SCAN_L_OWNER l) = 255 ∧ l ∉ t.scan.drop ∧
      t.rest = { s.rest with owners := t.owners, staged := t.staged, com := t.com, scan := t.scan } ∧ t.log = s.log ∧
      s.only t [Obj.SCAN_L_OWNER l, Obj.SCAN_L_ENABLE l, Obj.SCAN_L_BUF_LOG2 l]) ∧
  (∀ (s : State) (sess tag l v : Nat),
    s.Sized → l < 4 → s.serves sess tag (Obj.SCAN_L_PAL_WRITE l) v = true → s.swapHolds sess 9 = false →
    ∃ t, exec (.scanLPalWrite sess tag l v) s = .next t ∧ s.replied t sess tag (Obj.SCAN_L_PAL_WRITE l) .ok ∧
      (t.load (48 + l)).staged.get zeroDflt (v / 2 ^ 36 % 256) = v % 2 ^ 32 ∧ (∀ i, i ≠ 48 + l → t.load i = s.load i) ∧
      t.rest = { s.rest with loads := t.loads, staged := t.staged, owners := t.owners } ∧ t.obj = s.obj ∧ t.log = s.log) ∧
  (∀ (s : State) (l : Nat),
    l < 4 → s.rd (Obj.SCAN_L_STATE l) = 2 → s.rdB (Obj.SCAN_L_ENABLE l) = false →
    ∃ t, exec (.layerBufferRelease l) s = .next t ∧ t.rd (Obj.SCAN_L_STATE l) = 0 ∧ t.rest = { s.rest with rsv := t.rsv } ∧
      t.sess = s.sess ∧ t.log = s.log ∧ s.only t [Obj.SCAN_L_STATE l, Obj.SCAN_L_BUF_BASE l, Obj.RSV_PANS_FREE])

/-- Lines, the pad check and renders (R276, R282, R284, R285): the frame's next line is sent at its time with the composited pixels and the
CRC runs over them; a line that lacks pixels is sent and counted; the pad CRC is shown, a wrong one counted with an alert; a
completed render is marked and writes the half that is not shown. -/
def Obligations.ScanLines : Prop :=
  (∀ (s : State) (y : Nat),
    s.scan.sending = true → y = s.scan.line → s.scanLineAt y ≤ s.wall → (∀ l, l < 4 → s.torn l = false) → s.scan.run = none →
    y + 1 ≠ s.rd Obj.SCAN_VACTIVE → s.rd Obj.SCAN_STATE ≠ 1 →
    ∃ t, exec (.scanLineSend y []) s = .next t ∧
      t.scan.pixels = (List.range (s.rd Obj.SCAN_HACTIVE)).map (fun x => s.scanPixel [] [] x y) ∧ t.scan.line = y + 1 ∧
      t.scan.crc = (lineOctets t.scan.pixels).foldl crc32Octet s.scan.crc ∧ t.scan.panic = t.scanPanicLevel ∧
      t.rest = { s.rest with scan := t.scan, rsv := t.rsv } ∧ t.rsv.mem = s.rsv.mem ∧ t.sess = s.sess ∧ t.log = s.log ∧
      s.only t readerKeys) ∧
  (∀ (s : State) (y : Nat) (missing : List Nat),
    s.scan.sending = true → y = s.scan.line → s.scanLineAt y ≤ s.wall → (∀ l, l < 4 → s.torn l = false) → s.lacking missing y ≠ [] →
    y + 1 ≠ s.rd Obj.SCAN_VACTIVE → s.rd Obj.SCAN_STATE ≠ 1 →
    ∃ t, exec (.scanLineSend y missing) s = .next t ∧ t.rd Obj.SCAN_UNDERRUN = min (2 ^ 32 - 1) (s.rd Obj.SCAN_UNDERRUN + 1) ∧
      t.scan.line = y + 1 ∧ t.scan.run.isSome = true ∧ t.rest = { s.rest with scan := t.scan, rsv := t.rsv } ∧ t.rsv.mem = s.rsv.mem ∧
      t.sess = s.sess ∧ t.log = s.log ∧ s.only t (Obj.SCAN_UNDERRUN :: readerKeys)) ∧
  (∀ (s : State) (pad n at_ : Nat),
    s.scan.check = some (n, pad, at_) → at_ ≤ s.wall → pad < 2 ^ 32 →
    ∃ t, exec (.scanCrcCheck pad) s = .next t ∧ t.rd Obj.SCAN_CRC_LAST = pad ∧ t.rd Obj.SCAN_CRC_FRAME = n ∧ t.scan.check = none ∧
      t.rest = { s.rest with scan := { s.scan with check := none } } ∧ t.sess = s.sess ∧ t.log = s.log ∧
      s.only t [Obj.SCAN_CRC_LAST, Obj.SCAN_CRC_FRAME]) ∧
  (∀ (s : State) (pad n crc at_ : Nat),
    s.scan.check = some (n, crc, at_) → at_ ≤ s.wall → pad < 2 ^ 32 → pad ≠ crc →
    ∃ t, exec (.scanCrcCheck pad) s = .next t ∧ t.rd Obj.SCAN_CRC_LAST = pad ∧ t.rd Obj.SCAN_CRC_FRAME = n ∧
      t.rd Obj.SCAN_CRC_ERR = min (2 ^ 32 - 1) (s.rd Obj.SCAN_CRC_ERR + 1) ∧ t.rd Obj.SCAN_CRC_ERR_FRAME = n ∧
      t.log.alerts = s.log.alerts + 1 ∧ t.rest = { s.rest with scan := { s.scan with check := none } } ∧
      s.onlyE t [Obj.SCAN_CRC_LAST, Obj.SCAN_CRC_FRAME, Obj.SCAN_CRC_ERR, Obj.SCAN_CRC_ERR_FRAME]) ∧
  (∀ (s : State) (h : Harvest),
    s.scan.render = some h → s.scan.rendered = false → s.rd (Obj.SCAN_L_BUF_LOG2 0) ≠ 0 →
    ∃ t, exec .densityRenderDone s = .next t ∧ t.scan = { s.scan with rendered := true } ∧ t.rsv.mem = (s.renderInto h).rsv.mem ∧
      t.rest = { s.rest with scan := t.scan, rsv := { s.rsv with mem := t.rsv.mem } } ∧ t.obj = s.obj ∧ t.sess = s.sess ∧ t.log = s.log)

/-- References (R292 to R294, R298 to R300): the state and offset of a reference are shown and its loss counted; the loss of the active one
while a reference is forced enters holdover; a bridged edge is noted and a second in a row enters holdover; in holdover the word is
trimmed and a long one alerts; a pull-in ends on the reference; the engine reverts to REFIN_A; CLK_REF_SEL is written. -/
def Obligations.References : Prop :=
  (∀ (s : State) (r st : Nat) (ppb : Int),
    r < 2 → st < 4 → 1 ≤ s.rd Obj.DEV_STATE → st ≠ s.rd (Obj.CLK_REF_STATE r) → st ≠ 2 → s.rd Obj.CLK_STATE = 2 → s.rd Obj.CLK_REF_ACTIVE ≠ r →
    -(2 ^ 35) ≤ ppb ∧ ppb < 2 ^ 35 →
    ∃ t, exec (.refPresenceChange r st ppb) s = .next t ∧ t.rd (Obj.CLK_REF_STATE r) = st ∧ t.rdI (Obj.CLK_REF_PPB r) = (if st = 0 then s.rdI (Obj.CLK_REF_PPB r) else ppb) ∧
      t.rd (Obj.CLK_REF_LOSS r) = (if s.rd (Obj.CLK_REF_STATE r) = 2 then min (2 ^ 32 - 1) (s.rd (Obj.CLK_REF_LOSS r) + 1)
        else s.rd (Obj.CLK_REF_LOSS r)) ∧
      t.rest = { s.rest with clk := { s.clk with presentAt := s.clk.presentAt.set r none } } ∧ t.sess = s.sess ∧ t.log = s.log ∧
      s.only t [Obj.CLK_REF_STATE r, Obj.CLK_REF_PPB r, Obj.CLK_REF_LOSS r]) ∧
  (∀ (s : State) (r st : Nat) (ppb : Int),
    s.Sized → r < 2 → st < 4 → 1 ≤ s.rd Obj.DEV_STATE → st ≠ s.rd (Obj.CLK_REF_STATE r) → st ≠ 2 → s.rd Obj.CLK_STATE = 2 → s.rd Obj.CLK_REF_ACTIVE = r →
    s.rd Obj.CLK_REF_SEL ≠ 2 →
    ∃ t, exec (.refPresenceChange r st ppb) s = .next t ∧ t.rd Obj.CLK_STATE = 3 ∧ t.rd Obj.CLK_REF_ACTIVE = 2 ∧
      t.rd Obj.CLK_HOLD_SINCE = s.tick ∧ t.rd Obj.CLK_HOLD_COUNT = min (2 ^ 32 - 1) (s.rd Obj.CLK_HOLD_COUNT + 1) ∧
      t.clk.holdAt = s.wall ∧ t.rest = { s.rest with clk := t.clk, flows := t.flows, twin := t.twin } ∧ t.sess = s.sess ∧
      s.onlyE t [Obj.CLK_REF_STATE r, Obj.CLK_REF_PPB r, Obj.CLK_REF_LOSS r, Obj.CLK_STATE, Obj.CLK_REF_ACTIVE, Obj.CLK_HOLD_SINCE,
        Obj.CLK_HOLD_COUNT]) ∧
  (∀ (s : State),
    s.rd Obj.CLK_STATE = 2 → s.rd Obj.CLK_REF_ACTIVE < 2 → s.clk.missAt = none →
    ∃ t, exec .refEdgeMiss s = .next t ∧ t.clk = { s.clk with missAt := some s.wall } ∧ t.rest = { s.rest with clk := t.clk } ∧
      t.obj = s.obj ∧ t.sess = s.sess ∧ t.log = s.log) ∧
  (∀ (s : State) (m : Nat),
    s.rd Obj.CLK_STATE = 2 → s.rd Obj.CLK_REF_ACTIVE < 2 → s.clk.missAt = some m → 2 * s.wall ≤ 2 * m + 3 * (tps / max 1 (s.refHz (s.rd Obj.CLK_REF_ACTIVE))) →
    ∃ t, exec .refEdgeMiss s = .next t ∧ t.rd Obj.CLK_STATE = 3 ∧ t.rd Obj.CLK_REF_ACTIVE = 2 ∧ t.rd Obj.CLK_HOLD_SINCE = s.tick ∧
      t.rd Obj.CLK_HOLD_COUNT = min (2 ^ 32 - 1) (s.rd Obj.CLK_HOLD_COUNT + 1) ∧
      t.rest = { s.rest with clk := t.clk, flows := t.flows, twin := t.twin } ∧ t.sess = s.sess ∧
      s.onlyE t [Obj.CLK_STATE, Obj.CLK_REF_ACTIVE, Obj.CLK_HOLD_SINCE, Obj.CLK_HOLD_COUNT]) ∧
  (∀ (s : State) (tj : Int),
    s.rd Obj.CLK_STATE = 3 → s.clk.trimAt ≤ s.wall →
    ∃ t, exec (.holdoverTrim tj) s = .next t ∧ t.clk = { s.clk with trim := s.freeI, trimAt := s.clk.trimAt + 10 * tpms } ∧
      t.rest = { s.rest with clk := t.clk, free := s.free + 1 } ∧ t.obj = s.obj ∧ t.sess = s.sess ∧ t.log = s.log) ∧
  (∀ (s : State),
    s.rd Obj.CLK_STATE = 3 → s.clk.long = false → s.clk.holdAt + 86400 * tps < s.wall →
    ∃ t, exec .clkHoldLong s = .next t ∧ t.clk = { s.clk with long := true } ∧ t.log.alerts = s.log.alerts + 1 ∧
      t.rest = { s.rest with clk := t.clk } ∧ s.onlyE t []) ∧
  (∀ (s : State),
    s.rd Obj.CLK_STATE = 4 →
    ∃ t, exec .pullInDone s = .next t ∧ t.rd Obj.CLK_STATE = 2 ∧ t.rd Obj.CLK_REF_ACTIVE = s.clk.target ∧ t.rd Obj.CLK_HOLD_SINCE = 0 ∧
      t.rd Obj.CLK_RATIO_INT = tps / max 1 (s.refHz s.clk.target) ∧
      t.rest = { s.rest with flows := t.flows, twin := t.twin } ∧ t.sess = s.sess ∧ t.log = s.log ∧
      s.only t [Obj.CLK_STATE, Obj.CLK_REF_ACTIVE, Obj.CLK_HOLD_SINCE, Obj.CLK_RATIO_INT, Obj.CLK_RATIO_NUM, Obj.CLK_RATIO_DEN]) ∧
  (∀ (s : State) (a : Nat),
    s.rd Obj.CLK_REF_SEL = 2 → s.rd Obj.CLK_REVERT_S ≠ 0 → s.rd Obj.CLK_STATE = 2 → s.rd Obj.CLK_REF_ACTIVE = 1 → s.refPresent 0 = true →
    at' s.clk.presentAt 0 = some a → a + s.rd Obj.CLK_REVERT_S * tps ≤ s.wall → s.refHz 0 = s.refHz 1 → s.refsAgree = true →
    ∃ t, exec .refRevert s = .next t ∧ t.rd Obj.CLK_REF_ACTIVE = 0 ∧
      t.rd Obj.CLK_SWITCH_COUNT = min (2 ^ 32 - 1) (s.rd Obj.CLK_SWITCH_COUNT + 1) ∧ t.clk = { s.clk with target := 0, missAt := none } ∧
      t.rest = { s.rest with clk := t.clk, flows := t.flows, twin := t.twin } ∧ t.sess = s.sess ∧ t.log = s.log ∧
      s.only t [Obj.CLK_REF_ACTIVE, Obj.CLK_SWITCH_COUNT]) ∧
  (∀ (s : State) (sess tag : Nat),
    s.serves sess tag Obj.CLK_REF_SEL 2 = true → s.rd Obj.CLK_STATE = 2 →
    ∃ t, exec (.clkRefSelWrite sess tag 2) s = .next t ∧ s.told t sess tag Obj.CLK_REF_SEL .ok ∧ t.rd Obj.CLK_REF_SEL = 2 ∧
      s.keeps t [Obj.CLK_REF_SEL])

/-- The jitter test (R306): a write of 1 starts a comparison of 10 ms and touches nothing else; its result reads in CLK_JITTER_EST; and it is
answered BUSY while the master is not locked. -/
def Obligations.JitterTest : Prop :=
  (∀ (s : State) (sess tag : Nat),
    s.serves sess tag Obj.CLK_TEST 1 = true → s.masterLocked = true →
    ∃ t, exec (.clkTest sess tag 1) s = .next t ∧ s.replied t sess tag Obj.CLK_TEST .ok ∧ t.rd Obj.CLK_TEST_STATUS = 1 ∧
      t.clk = { s.clk with testAt := some (s.wall + 10 * tpms) } ∧ t.rest = { s.rest with clk := t.clk } ∧ t.log = s.log ∧
      s.only t [Obj.CLK_TEST_STATUS]) ∧
  (∀ (s : State) (fs a : Nat),
    s.clk.testAt = some a → a ≤ s.wall →
    ∃ t, exec (.clkTestDone fs) s = .next t ∧ t.rd Obj.CLK_JITTER_EST = fs % 2 ^ 32 ∧ t.rd Obj.CLK_TEST_STATUS = 2 ∧
      t.clk = { s.clk with testAt := none } ∧ t.rest = { s.rest with clk := t.clk } ∧ t.sess = s.sess ∧ t.log = s.log ∧
      s.only t [Obj.CLK_JITTER_EST, Obj.CLK_TEST_STATUS]) ∧
  (∀ (s : State) (sess tag : Nat),
    s.serves sess tag Obj.CLK_TEST 1 = true → s.masterLocked = false →
    ∃ t, exec (.clkTest sess tag 1) s = .next t ∧ s.replied t sess tag Obj.CLK_TEST .busy ∧ s.keeps t [])

/-- The master synthesiser (R297, R301, R303, R304): at start-up a lock that has held for 100 µs opens the gate on the reference; the 50 ms
limit fences the master at start-up and raises a fault in service; a loss of lock closes the gate at the block that is being
sampled, withholds the enabled channels and is counted. -/
def Obligations.MasterLock : Prop :=
  (∀ (s : State) (a : Nat),
    s.clk.acquireAt = some a → a + 100 * tpus ≤ s.wall → s.refPresent s.clk.target = true → s.rd Obj.CLK_STATE = 1 → s.conv.counts = true →
    ∃ t, exec .masterLock s = .next t ∧ t.rd Obj.CLK_STATE = 2 ∧ t.rd Obj.CLK_REF_ACTIVE = s.clk.target ∧ t.masterLocked = true ∧
      t.clk.acquireAt = none ∧ t.clk.lockAt = s.wall ∧ t.rest = { s.rest with clk := t.clk, flows := t.flows, twin := t.twin } ∧
      t.sess = s.sess ∧ t.log = s.log ∧
      s.only t [Obj.CLK_STATE, Obj.CLK_REF_ACTIVE, Obj.CLK_LOCKED_MASK, Obj.CLK_RATIO_INT, Obj.CLK_RATIO_NUM, Obj.CLK_RATIO_DEN, Obj.CLK_OUT_HZ]) ∧
  (∀ (s : State) (a : Nat),
    s.clk.acquireAt = some a → a + 50 * tpms ≤ s.wall → s.clk.late = false → s.clk.change = none → s.rd Obj.CLK_STATE = 1 →
    ∃ t, exec .lockTimeout s = .next t ∧ t.rd Obj.CLK_STATE = 7 ∧ bitOf (t.rd Obj.DIAG_FENCE_OTHER) 0 = true ∧
      t.clk = { s.clk with acquireAt := none } ∧ t.log.alerts = s.log.alerts + 2 ∧ t.rest = { s.rest with clk := t.clk } ∧
      s.onlyE t [Obj.CLK_STATE, Obj.DIAG_FENCE_OTHER]) ∧
  (∀ (s : State) (a : Nat),
    s.clk.acquireAt = some a → a + 50 * tpms ≤ s.wall → s.clk.late = false → s.clk.change = none → s.rd Obj.CLK_STATE = 5 →
    ∃ t, exec .lockTimeout s = .next t ∧ t.clk = { s.clk with late := true } ∧ t.log.alerts = s.log.alerts + 1 ∧
      t.rest = { s.rest with clk := t.clk } ∧ s.onlyE t []) ∧
  (∀ (s : State),
    s.Sized → s.masterLocked = true → s.rd Obj.CLK_STATE ∈ [2, 3, 4] →
    ∃ t, exec .masterUnlock s = .next t ∧ t.rd Obj.CLK_STATE = 5 ∧ t.masterLocked = false ∧ t.clk.gatedAt = some (s.tick / 64 * 64) ∧
      t.rd Obj.CLK_UNLOCK_COUNT = min (2 ^ 32 - 1) (s.rd Obj.CLK_UNLOCK_COUNT + 1) ∧
      (∀ ch, ch < 4 → s.rdB (Obj.CONV_ENABLE ch) = true → s.convFenced ch = false →
        (t.chan ch).clockHold = true ∧ t.rd (Obj.CONV_STATE ch) = 4) ∧
      t.rest = { s.rest with clk := t.clk, chans := t.chans, conv := t.conv, trig := t.trig } ∧ s.onlyE t (Obj.CLK_UNLOCK_COUNT :: gateKeys))

/-- The planned change and CLKOUT (R302, R303, R305): a change that R302 admits waits for its tick; at its gate tick the
gate closes; at its tick a locked master resumes with the new nominal frequency and an unlocked one is late; CLKOUT follows its divider. -/
def Obligations.ClockChanges : Prop :=
  (∀ (s : State) (sess tag : Nat),
    s.serves sess tag Obj.CLK_CHANGE_CMD 1 = true → 10000000 ≤ s.rd Obj.CLK_CHANGE_HZ → s.rd Obj.CLK_CHANGE_HZ ≤ 1000000000 →
    s.rd Obj.CONV_SYNC_MODE ≠ 1 → s.rd Obj.CLK_CHANGE_AT % 64 = 0 → s.tick + 250 * tpms ≤ s.rd Obj.CLK_CHANGE_AT → s.clk.change = none →
    (∀ ch, ch < 4 → s.calibrating ch = false) → s.conv.align = none →
    ∃ t, exec (.clkChangeCmd sess tag 1) s = .next t ∧ s.pended t sess tag Obj.CLK_CHANGE_CMD ∧ t.rd Obj.CLK_CHANGE_STATUS = 1 ∧
      t.clk.change =
        some ⟨s.req sess tag Obj.CLK_CHANGE_CMD, s.rd Obj.CLK_CHANGE_REF, s.rd Obj.CLK_CHANGE_HZ, s.rd Obj.CLK_CHANGE_AT⟩ ∧
      t.clk = { s.clk with change := t.clk.change } ∧
      t.rest = { s.rest with clk := t.clk } ∧ t.log = s.log ∧ s.only t [Obj.CLK_CHANGE_STATUS]) ∧
  (∀ (s : State) (c : ClkChange),
    s.Sized → s.clk.change = some c → s.rd Obj.CLK_CHANGE_STATUS = 1 → c.at_ - 6400000000 ≤ s.tick →
    ∃ t, exec .clkChangeGate s = .next t ∧ t.rd Obj.CLK_CHANGE_STATUS = 2 ∧ t.rd Obj.CLK_STATE = 5 ∧ t.masterLocked = false ∧
      t.clk.gatedAt = some (s.clk.gatedAt.getD (c.at_ - 6400000000)) ∧ t.clk.change = some c ∧
      t.rest = { s.rest with clk := t.clk, chans := t.chans, conv := t.conv, trig := t.trig } ∧ s.onlyE t ([Obj.CLK_CHANGE_STATUS, Obj.CLK_REF_STATE c.ref, Obj.CLK_REF_LOSS c.ref] ++ gateKeys)) ∧
  (∀ (s : State) (c : ClkChange) (edge : Bool),
    s.Sized → s.clk.change = some c → s.rd Obj.CLK_CHANGE_STATUS = 2 → c.at_ ≤ s.tick → bitOf (s.rd Obj.CLK_LOCKED_MASK) 0 = true → s.conv.grid = none →
    c.ref < 2 →
    ∃ t, exec (.clkChangeResume edge) s = .next t ∧ t.rd Obj.CLK_CHANGE_STATUS = 3 ∧ t.rd Obj.CLK_STATE = 2 ∧ t.masterLocked = true ∧
      t.refHz c.ref = c.hz ∧ t.clk.change = none ∧ t.rd Obj.CLK_LAST_RELOCK_LAST = c.at_ - 1 ∧
      t.rest = { s.rest with clk := t.clk, chans := t.chans, tuners := t.tuners, flows := t.flows, twin := t.twin, trig := t.trig } ∧ t.log = s.log ∧
      s.only t ((List.range 32).map Obj.TRIG_SRC_STATE ++ [Obj.CLK_CHANGE_STATUS, Obj.CLK_STATE, Obj.CLK_REF_ACTIVE, Obj.CLK_HOLD_SINCE, Obj.CLK_LAST_RELOCK_FIRST, Obj.CLK_LAST_RELOCK_LAST,
        Obj.CLK_OUT_HZ, Obj.CLK_REF_A_HZ, Obj.CLK_REF_B_HZ, Obj.CLK_REF_SEL])) ∧
  (∀ (s : State) (c : ClkChange) (edge : Bool),
    s.clk.change = some c → s.rd Obj.CLK_CHANGE_STATUS = 2 → c.at_ ≤ s.tick → bitOf (s.rd Obj.CLK_LOCKED_MASK) 0 = false →
    ∃ t, exec (.clkChangeResume edge) s = .next t ∧ t.rd Obj.CLK_CHANGE_STATUS = 4 ∧ t.log.alerts = s.log.alerts + 1 ∧
      s.keepsE t [Obj.CLK_CHANGE_STATUS]) ∧
  (∀ (s : State) (sess tag v : Nat),
    s.serves sess tag Obj.CLK_OUT_DIV v = true → s.masterLocked = true → 2 ≤ s.rd Obj.DEV_STATE →
    ∃ t, exec (.clkOutDivWrite sess tag v) s = .next t ∧ s.told t sess tag Obj.CLK_OUT_DIV .ok ∧ t.rd Obj.CLK_OUT_DIV = v ∧
      t.rd Obj.CLK_OUT_HZ = (if v = 0 then 0 else 32000000000 / v) ∧ s.keeps t [Obj.CLK_OUT_DIV, Obj.CLK_OUT_HZ])

/-- Starts, stops and measurements (R308, R309, R313 to R317): an edge on the start input opens a measurement and one on a stop input is
held, at its stamp less the board delay; an edge within 2.0 ns of the latest is lost to dead time and counted; a time start falls
at its tick; a measurement closes at its window's end with its stops' intervals and enters the queue; a stop that no measurement
takes is counted; PLMB_RES_NEXT drops the head. -/
def Obligations.Measurements : Prop :=
  (∀ (s : State) (input tick fine pos : Nat) (rising : Bool) (c : TdcCfg),
    1 ≤ input → input ≤ 9 → s.stampArrives tick fine = true → pos = placeOf tick fine - s.plumbDelay input → s.plumb.cfgAt pos = some c →
    c.starts input rising = true → (s.plumb.cfgs.any fun c => c.stops input rising) = false → at' s.plumb.lastEdge input = none →
    ∃ t, exec (.plmbEdge input rising tick fine) s = .next t ∧
      t.plumb = { s.plumb with
        lastEdge := s.plumb.lastEdge.set input (some pos), starts := startIns ⟨pos, !s.masterLocked, s.inHoldover⟩ s.plumb.starts } ∧
      t.rest = { s.rest with plumb := t.plumb } ∧ t.obj = s.obj ∧ t.sess = s.sess ∧ t.log = s.log) ∧
  (∀ (s : State) (input tick fine pos : Nat) (rising : Bool) (c : TdcCfg),
    1 ≤ input → input ≤ 9 → s.stampArrives tick fine = true → pos = placeOf tick fine - s.plumbDelay input → s.plumb.cfgAt pos = some c →
    c.starts input rising = false → (s.plumb.cfgs.any fun c => c.stops input rising) = true → at' s.plumb.lastEdge input = none →
    s.plumb.stops.length < 64 →
    ∃ t, exec (.plmbEdge input rising tick fine) s = .next t ∧
      t.plumb = { s.plumb with
        lastEdge := s.plumb.lastEdge.set input (some pos), stops := stopIns ⟨pos, input, rising, !s.masterLocked⟩ s.plumb.stops } ∧
      t.rest = { s.rest with plumb := t.plumb } ∧ t.obj = s.obj ∧ t.sess = s.sess ∧ t.log = s.log) ∧
  (∀ (s : State) (input tick fine pos p : Nat) (rising : Bool),
    1 ≤ input → input ≤ 9 → s.stampArrives tick fine = true → pos = placeOf tick fine - s.plumbDelay input →
    (s.plumb.cfgs.any fun c => c.stops input rising) = true → at' s.plumb.lastEdge input = some p → pos < p + posOf 64 →
    ∃ t, exec (.plmbEdge input rising tick fine) s = .next t ∧ t.rd Obj.PLMB_DEAD = min (2 ^ 32 - 1) (s.rd Obj.PLMB_DEAD + 1) ∧
      t.plumb = { s.plumb with deads := (pos :: s.plumb.deads).take 256 } ∧ t.rest = { s.rest with plumb := t.plumb } ∧ t.sess = s.sess ∧
      t.log = s.log ∧ s.only t [Obj.PLMB_DEAD]) ∧
  (∀ (s : State) (n : Nat),
    s.plumb.nextStart = some n → n ≤ s.tick →
    ∃ t, exec .plmbTimeStart s = .next t ∧
      t.plumb = { s.plumb with
        nextStart := if s.rd Obj.PLMB_START_PERIOD = 0 then none else some (n + s.rd Obj.PLMB_START_PERIOD)
        starts := startIns ⟨posOf n, !s.masterLocked, s.inHoldover⟩ s.plumb.starts } ∧
      t.rest = { s.rest with plumb := t.plumb } ∧ t.obj = s.obj ∧ t.sess = s.sess ∧ t.log = s.log) ∧
  (∀ (s : State) (a : StartEdge) (later : List StartEdge) (c : TdcCfg),
    s.plumb.starts = a :: later → s.plumb.cfgAt a.pos = some c → a.pos + c.w < s.plumbHorizon →
    s.plumb.stamps + (s.plumb.stops.filter fun p => c.takes a.pos p).length + 1 ≤ 256 →
    ∃ t, exec .plmbMeasureClose s = .next t ∧ t.plumb.seq = s.plumb.seq + 1 ∧ t.plumb.queue.length = s.plumb.queue.length + 1 ∧
      t.plumb.queue.getLast?.map (fun m => (m.seq, m.start, m.stops)) = some (s.plumb.seq + 1, a.pos,
        ((s.plumb.stops.filter fun p => c.takes a.pos p).take (if c.mode1 then 1 else c.stopsMax)).map (stopResult a.pos)) ∧
      t.rd Obj.PLMB_RES_COUNT = s.plumb.queue.length + 1 ∧ (∀ p ∈ t.plumb.stops, c.takes a.pos p = false) ∧
      t.rest = { s.rest with plumb := t.plumb } ∧ t.sess = s.sess ∧ t.log = s.log ∧
      s.only t (Obj.PLMB_STOP_EXCESS :: Obj.PLMB_START_IGNORED :: headKeys)) ∧
  (∀ (s : State) (p : Stop) (rest : List Stop) (c : TdcCfg),
    s.plumb.unconsumed = p :: rest → s.plumb.cfgAt p.pos = some c → p.pos + c.w < s.plumbHorizon →
    ∃ t, exec .plmbStopUnmatched s = .next t ∧ t.rd Obj.PLMB_STOP_UNMATCHED = min (2 ^ 32 - 1) (s.rd Obj.PLMB_STOP_UNMATCHED + 1) ∧
      t.plumb = { s.plumb with stops := s.plumb.stops.erase p } ∧ t.rest = { s.rest with plumb := t.plumb } ∧ t.sess = s.sess ∧
      t.log = s.log ∧ s.only t [Obj.PLMB_STOP_UNMATCHED]) ∧
  (∀ (s : State) (sess tag : Nat) (m : Meas) (rest : List Meas),
    s.serves sess tag Obj.PLMB_RES_NEXT 1 = true → s.plumb.queue = m :: rest →
    ∃ t, exec (.plmbResNext sess tag 1) s = .next t ∧ s.replied t sess tag Obj.PLMB_RES_NEXT .ok ∧
      t.plumb = { s.plumb with queue := rest } ∧ t.rd Obj.PLMB_RES_COUNT = rest.length ∧ t.rest = { s.rest with plumb := t.plumb } ∧
      t.log = s.log ∧ s.only t headKeys)

/-- Ownership and the counter (R311, R318 to R321): the free unit is claimed, and released by its owner with its queue emptied; a Joint
puts the settings in force from its tick; a point is taken into the gate in progress; a gate that ends leaves its frequency and
the next number; an absent signal reads so. -/
def Obligations.PlumbUnit : Prop :=
  (∀ (s : State) (sess tag : Nat),
    s.serves sess tag Obj.PLMB_CLAIM 1 = true → s.holder ⟨.plumb, 0⟩ = none → s.heldOf .plumb sess < 256 →
    ∃ t, exec (.plmbClaim sess tag) s = .next t ∧ s.replied t sess tag Obj.PLMB_CLAIM .ok ∧ t.holder ⟨.plumb, 0⟩ = some sess ∧
      t.rd Obj.PLMB_OWNER = sess ∧ t.rest = { s.rest with owners := t.owners } ∧ t.log = s.log ∧ s.only t [Obj.PLMB_OWNER]) ∧
  (∀ (s : State) (sess tag : Nat),
    s.serves sess tag Obj.PLMB_CLAIM 2 = true → s.holder ⟨.plumb, 0⟩ = some sess →
    ∃ t, exec (.plmbRelease sess tag) s = .next t ∧ s.replied t sess tag Obj.PLMB_CLAIM .ok ∧ t.holder ⟨.plumb, 0⟩ = none ∧
      t.rd Obj.PLMB_OWNER = 255 ∧ t.rd Obj.PLMB_TDC_ENABLE = 0 ∧ t.rd Obj.PLMB_CNT_ENABLE = 0 ∧ t.plumb.queue = [] ∧ t.plumb.starts = [] ∧
      t.rd Obj.PLMB_RES_COUNT = 0 ∧
      t.rest = { s.rest with owners := t.owners, com := t.com, staged := t.staged, plumb := t.plumb } ∧ t.log = s.log ∧
      s.only t ([Obj.PLMB_OWNER, Obj.PLMB_TDC_ENABLE, Obj.PLMB_CNT_ENABLE, Obj.PLMB_CNT_STATE, Obj.PLMB_STATE] ++ headKeys)) ∧
  (∀ (s : State) (b v : Nat) (w : Swap),
    s.due 10 ⟨.plumb, 0⟩ = some (w, b) → w.vals = [(Obj.PLMB_STOP_MASK, v)] →
    ∃ t, exec .plumbJoint s = .next t ∧ t.rd Obj.PLMB_STOP_MASK = v ∧ t.rd Obj.PLMB_LAST_JOINT = b ∧
      (t.plumb.cfgs.head?.map TdcCfg.mask) = some v ∧ t.gens = nextGen ⟨.plumb, 0⟩ s.gens ∧
      t.rest = { s.rest with plumb := t.plumb, gens := t.gens, swaps := t.swaps } ∧ t.sess = s.sess ∧ t.log = s.log ∧
      s.only t [Obj.PLMB_STOP_MASK, Obj.PLMB_LAST_JOINT, Obj.PLMB_STATE, Obj.DEV_STATE, sk w.sess Obj.DEV_JOINT_FIRST,
        sk w.sess Obj.DEV_JOINT_LAST]) ∧
  (∀ (s : State) (n tick fine pos : Nat) (g : Gate),
    s.rdB Obj.PLMB_CNT_ENABLE = true → s.stampArrives tick fine = true → pos = placeOf tick fine - s.plumbDelay 6 → s.plumb.lastPoint ≠ some n →
    s.plumb.gate = some g → g.start ≤ pos / 65536 → pos / 65536 < (s.plumb.gateEnd g).1 →
    ∃ t, exec (.cntPoint n tick fine false) s = .next t ∧ t.rd Obj.PLMB_CNT_STATE = 1 ∧ t.plumb.lastPoint = some n ∧
      t.plumb.gate.map (fun h => (h.start, h.n, h.sn, h.st, h.lastN)) = some (g.start, g.n + 1, g.sn + n, g.st + pos, n) ∧
      t.rest = { s.rest with plumb := t.plumb } ∧ t.sess = s.sess ∧ t.log = s.log ∧ s.only t [Obj.PLMB_CNT_STATE]) ∧
  (∀ (s : State) (g : Gate),
    s.plumb.gate = some g → (s.plumb.gateEnd g).1 + horizonLag ≤ s.tick →
    ∃ t, exec .cntGateEnd s = .next t ∧ t.rd Obj.PLMB_FREQ = min g.result.1 (2 ^ 64 - 1) ∧ t.rd Obj.PLMB_FREQ_POINTS = g.n ∧
      t.rd Obj.PLMB_FREQ_GATE = g.start ∧ t.rd Obj.PLMB_FREQ_SEQ = (s.rd Obj.PLMB_FREQ_SEQ + 1) % 2 ^ 32 ∧
      (∀ h, t.plumb.gate = some h → h.start = (s.plumb.gateEnd g).1 ∧ h.n = 0) ∧ t.plumb = { s.plumb with gate := t.plumb.gate } ∧
      t.rest = { s.rest with plumb := t.plumb } ∧ t.sess = s.sess ∧ t.log = s.log ∧
      s.only t [Obj.PLMB_FREQ, Obj.PLMB_FREQ_SIGMA, Obj.PLMB_FREQ_POINTS, Obj.PLMB_FREQ_EDGES, Obj.PLMB_FREQ_GATE, Obj.PLMB_FREQ_FLAGS,
        Obj.PLMB_FREQ_SEQ]) ∧
  (∀ (s : State),
    s.rdB Obj.PLMB_CNT_ENABLE = true → s.rd Obj.PLMB_CNT_STATE ≠ 0 → s.plumb.cntSeen + s.rd Obj.PLMB_CNT_ABSENT_US * tpus ≤ s.wall →
    ∃ t, exec .cntAbsent s = .next t ∧ t.rd Obj.PLMB_CNT_STATE = 0 ∧ t.plumb = { s.plumb with gate := t.plumb.gate } ∧
      t.rest = { s.rest with plumb := t.plumb } ∧ t.sess = s.sess ∧ t.log = s.log ∧ s.only t [Obj.PLMB_CNT_STATE])

/-- Device time (R322 to R327): an edge within tolerance is accepted for its second, which the rate then follows; one outside is counted;
a second without an edge is counted as a miss; the time of day given is used at the next edge; a message of the 1588 server leaves
its offset; PPS_OUT rises at a whole second and falls after its width; PLMB_CONV_TICK converts a tick. -/
def Obligations.DeviceTime : Prop :=
  (∀ (s : State) (tick fine pos : Nat),
    s.rd Obj.PLMB_TIME_SRC = 1 → s.stampArrives tick fine = true → pos = placeOf tick fine - s.plumbDelay 5 → s.plumb.tod = none →
    ((s.plumb.timeAt pos : Int) - (nearSec (s.plumb.timeAt pos) * secFine : Nat)).natAbs ≤ s.ppsTol →
    ∃ t, exec (.ppsInEdge tick fine) s = .next t ∧ t.plumb.pps = some pos ∧ t.plumb.second = nearSec (s.plumb.timeAt pos) ∧
      t.plumb.misses = 0 ∧ t.plumb.rejects = [] ∧ t.rd Obj.PLMB_TIME_STATE = (if s.plumb.todSet = true then 1 else 0) ∧
      t.rest = { s.rest with plumb := t.plumb, flows := t.flows, twin := t.twin } ∧ t.sess = s.sess ∧ t.log = s.log ∧
      s.only t [Obj.PLMB_TIME_STATE]) ∧
  (∀ (s : State) (tick fine pos : Nat),
    s.rd Obj.PLMB_TIME_SRC = 1 → s.stampArrives tick fine = true → pos = placeOf tick fine - s.plumbDelay 5 →
    s.ppsTol < ((s.plumb.timeAt pos : Int) - (nearSec (s.plumb.timeAt pos) * secFine : Nat)).natAbs → s.plumb.rejects.length < 2 →
    ∃ t, exec (.ppsInEdge tick fine) s = .next t ∧ t.rd Obj.PLMB_PPS_REJECT = min (2 ^ 32 - 1) (s.rd Obj.PLMB_PPS_REJECT + 1) ∧
      t.plumb = { s.plumb with rejects := pos :: s.plumb.rejects } ∧ t.rest = { s.rest with plumb := t.plumb } ∧ t.sess = s.sess ∧
      t.log = s.log ∧ s.only t [Obj.PLMB_PPS_REJECT]) ∧
  (∀ (s : State),
    s.rd Obj.PLMB_TIME_SRC = 1 → s.plumb.second < (s.timeAt (s.tick - horizonLag) - s.ppsTol) / secFine → s.plumb.misses < 2 →
    ∃ t, exec .ppsMiss s = .next t ∧ t.rd Obj.PLMB_PPS_MISS = min (2 ^ 32 - 1) (s.rd Obj.PLMB_PPS_MISS + 1) ∧
      t.plumb = { s.plumb with second := s.plumb.second + 1, misses := s.plumb.misses + 1 } ∧
      t.rest = { s.rest with plumb := t.plumb } ∧ t.sess = s.sess ∧ t.log = s.log ∧ s.only t [Obj.PLMB_PPS_MISS]) ∧
  (∀ (s : State) (sess tag v : Nat),
    s.serves sess tag Obj.PLMB_TOD_NEXT v = true →
    ∃ t, exec (.plmbTodNext sess tag v) s = .next t ∧ s.replied t sess tag Obj.PLMB_TOD_NEXT .ok ∧ t.plumb = { s.plumb with tod := some v } ∧
      t.rest = { s.rest with plumb := t.plumb } ∧ t.obj = s.obj ∧ t.log = s.log) ∧
  (∀ (s : State) (offset utc : Int) (rtt : Nat),
    s.rd Obj.PLMB_TIME_SRC = 2 → s.portUp 0 = true → -(2 ^ 35) ≤ utc ∧ utc < 2 ^ 35 →
    ∃ t, exec (.ptpMessageReceive offset rtt utc) s = .next t ∧ t.rdI Obj.PLMB_UTC_OFFSET = utc ∧ t.plumb.offset = some offset ∧
      t.plumb = { s.plumb with ptp := t.plumb.ptp } ∧ t.rest = { s.rest with plumb := t.plumb } ∧ t.sess = s.sess ∧ t.log = s.log ∧
      s.only t [Obj.PLMB_UTC_OFFSET]) ∧
  (∀ (s : State),
    s.rdB Obj.PLMB_PPS_OUT_EN = true → s.masterLocked = true → 2 ≤ s.rd Obj.DEV_STATE → s.plumb.ppsNext ≤ s.timeNow / secFine →
    ∃ t, exec .ppsOutRise s = .next t ∧
      t.plumb = { s.plumb with ppsHigh := some (s.tick + s.rd Obj.PLMB_PPS_OUT_WIDTH), ppsNext := s.timeNow / secFine + 1 } ∧
      t.rest = { s.rest with plumb := t.plumb } ∧ t.obj = s.obj ∧ t.sess = s.sess ∧ t.log = s.log) ∧
  (∀ (s : State) (n : Nat),
    s.plumb.ppsHigh = some n → n ≤ s.tick →
    ∃ t, exec .ppsOutFall s = .next t ∧ t.plumb = { s.plumb with ppsHigh := none } ∧ t.rest = { s.rest with plumb := t.plumb } ∧
      t.obj = s.obj ∧ t.sess = s.sess ∧ t.log = s.log) ∧
  (∀ (s : State) (sess tag v : Nat),
    s.serves sess tag Obj.PLMB_CONV_TICK v = true → v ≤ s.tick + tps → s.tick ≤ v + 256 * tps →
    ((s.plumb.pieces.getLast?).map Piece.start).getD 0 ≤ posOf v →
    ∃ t, exec (.plmbConvTickWrite sess tag v) s = .next t ∧ s.replied t sess tag Obj.PLMB_CONV_TICK .ok ∧ t.rd Obj.PLMB_CONV_TICK = v ∧
      t.rd Obj.PLMB_CONV_TIME = s.timeAt v % 2 ^ 80 ∧ s.keeps t [Obj.PLMB_CONV_TICK, Obj.PLMB_CONV_TIME])

/-- The link (R380 to R383, R391, R399): TWIN_SENSE rising starts bring-up where pairing is permitted; a trained lane joins and a
dropped one leaves; a HELLO that fails a check is refused with that check's reason, and one that passes makes a pair in which an engine
with outputs stays primary; a heartbeat goes out on the link's lanes and one received is noted; pairing is switched off. -/
def Obligations.TwinLink : Prop :=
  (∀ (s : State),
    s.rd Obj.TWIN_ENABLE = 1 → 2 ≤ s.rd Obj.DEV_STATE → s.rd Obj.DEV_STATE ≤ 5 → s.rd Obj.TWIN_STATE = 0 →
    ∃ t, exec .twinSenseRise s = .next t ∧ t.rd Obj.TWIN_SENSE_STATE = 1 ∧ t.rd Obj.TWIN_STATE = 1 ∧ t.sess = s.sess ∧
      s.keeps t [Obj.TWIN_SENSE_STATE, Obj.TWIN_STATE]) ∧
  (∀ (s : State),
    s.rd Obj.TWIN_ENABLE = 0 →
    ∃ t, exec .twinSenseRise s = .next t ∧ t.rd Obj.TWIN_SENSE_STATE = 1 ∧ t.sess = s.sess ∧ s.keeps t [Obj.TWIN_SENSE_STATE]) ∧
  (∀ (s : State) (lane : Nat),
    lane < 4 → s.rd Obj.DEV_STATE ≠ 0 → s.rd Obj.TWIN_ENABLE = 1 → s.rd Obj.TWIN_SENSE_STATE = 1 →
    bitOf (s.rd Obj.DIAG_FENCE_OTHER) (12 + lane) = false →
    ∃ t, exec (.tenonLaneTrained lane) s = .next t ∧ bitOf (t.rd Obj.TWIN_LANES) lane = true ∧
      (∀ l, l ≠ lane → bitOf (t.rd Obj.TWIN_LANES) l = bitOf (s.rd Obj.TWIN_LANES) l) ∧ t.sess = s.sess ∧ s.keeps t [Obj.TWIN_LANES]) ∧
  (∀ (s : State) (lane : Nat),
    lane < 4 →
    ∃ t, exec (.tenonLaneDrop lane) s = .next t ∧ bitOf (t.rd Obj.TWIN_LANES) lane = false ∧
      (∀ l, l ≠ lane → bitOf (t.rd Obj.TWIN_LANES) l = bitOf (s.rd Obj.TWIN_LANES) l) ∧ t.sess = s.sess ∧ s.keeps t [Obj.TWIN_LANES]) ∧
  (∀ (s : State) (p : PeerHello),
    s.rd Obj.TWIN_LANES ≠ 0 → s.twin.peer = none → s.twin.guard = none → s.twin.due = none → 2 ≤ s.rd Obj.DEV_STATE → s.rd Obj.DEV_STATE ≤ 5 →
    s.rd Obj.TWIN_STATE = 1 → s.refuseReason p ≠ 0 →
    ∃ t, exec (.tenonHello p) s = .next t ∧ t.rd Obj.TWIN_STATE = 7 ∧ t.rd Obj.TWIN_REFUSE_REASON = s.refuseReason p ∧
      (s.rd Obj.TWIN_ENABLE = 1 → p.certOk = true → p.signatureOk = true → p.devId ≠ s.rd Obj.TWIN_PEER_ID → t.rd Obj.TWIN_REFUSE_REASON = 3) ∧ t.sess = s.sess ∧
      s.keeps t [Obj.TWIN_STATE, Obj.TWIN_REFUSE_REASON]) ∧
  (∀ (s : State) (p : PeerHello),
    s.rd Obj.TWIN_LANES ≠ 0 → s.twin.peer = none → s.twin.guard = none → s.twin.due = none → 2 ≤ s.rd Obj.DEV_STATE → s.rd Obj.DEV_STATE ≤ 5 →
    s.rd Obj.TWIN_STATE = 1 →
    s.rd Obj.TWIN_ENABLE = 1 → p.certOk = true → p.signatureOk = true → p.devId = s.rd Obj.TWIN_PEER_ID → s.rd Obj.SEC_OWNER_STATE = 1 →
    p.ownerState = 1 → p.anchorHash = s.anchorHash → p.tenonMin ≤ 1 → 1 ≤ p.tenonMax → p.isolated = false → s.hasOutputs = true → p.hasOutputs = false →
    ∃ t, exec (.tenonHello p) s = .next t ∧ t.rd Obj.TWIN_STATE = 2 ∧ t.rd Obj.TWIN_REFUSE_REASON = 0 ∧ t.rd Obj.TWIN_PEER_FW = p.fw ∧
      t.rd Obj.TWIN_LINK_VER = 1 ∧ t.paired = true ∧ t.twin.heard = s.wall ∧ t.rest = { s.rest with twin := t.twin } ∧ t.sess = s.sess ∧
      t.log = s.log ∧ s.only t [Obj.TWIN_STATE, Obj.TWIN_REFUSE_REASON, Obj.TWIN_PEER_FW, Obj.TWIN_LINK_VER]) ∧
  (∀ (s : State),
    s.paired = true → s.rd Obj.TWIN_LANES ≠ 0 → s.twin.sentAt + tpus ≤ s.wall →
    ∃ t, exec .heartbeatSend s = .next t ∧ t.twin.sentAt = s.wall ∧
      t.twin.beat = some { role := b2n s.isStandby, ready := s.rd Obj.TWIN_STATE == 5, cseq := s.appliedSeq,
                           sense := s.rdB Obj.TWIN_SENSE_STATE, sinceNs := ticksToNs (s.wall - s.twin.heard) } ∧
      t.twin = { s.twin with beat := t.twin.beat, sentAt := s.wall } ∧ t.rest = { s.rest with twin := t.twin } ∧ t.obj = s.obj ∧ t.sess = s.sess ∧
      t.log = s.log) ∧
  (∀ (s : State) (ready : Bool) (cseq : Nat) (sense : Bool) (sinceNs peerState : Nat) (floors : List Nat),
    s.paired = true → s.rd Obj.TWIN_LANES ≠ 0 → s.rd Obj.TWIN_STATE = 2 → ready = false → peerState < 256 →
    ∃ t, exec (.heartbeatReceive ready cseq sense sinceNs peerState floors) s = .next t ∧ t.twin.heard = s.wall ∧ t.twin.peerSince = sinceNs ∧
      t.twin.peerCseq = cseq ∧ t.twin.peerReady = false ∧ t.rd Obj.TWIN_PEER_STATE = peerState ∧ t.rd Obj.TWIN_STATE = 2 ∧
      t.rest = { s.rest with twin := t.twin } ∧ t.sess = s.sess ∧ t.log = s.log ∧ s.only t (Obj.TWIN_PEER_STATE :: unpairKeys)) ∧
  (∀ (s : State) (cseq : Nat) (sense : Bool) (sinceNs peerState js : Nat) (floors : List Nat),
    s.paired = true → s.rd Obj.TWIN_LANES ≠ 0 → s.rd Obj.TWIN_STATE = 2 → s.twin.js = some js → s.rd Obj.TWIN_REVERT = 0 →
    ∃ t, exec (.heartbeatReceive true cseq sense sinceNs peerState floors) s = .next t ∧ t.rd Obj.TWIN_STATE = 3 ∧
      t.rd Obj.TWIN_READY_SINCE = s.tick ∧ t.twin.peerReady = true ∧ t.rest = { s.rest with twin := t.twin } ∧ t.sess = s.sess ∧ t.log = s.log ∧
      s.only t ([Obj.TWIN_PEER_STATE, Obj.TWIN_STATE] ++ unpairKeys)) ∧
  (∀ (s : State) (sess tag : Nat),
    s.serves sess tag Obj.TWIN_ENABLE 0 = true → s.rd Obj.TWIN_STATE = 0 →
    ∃ t, exec (.twinEnableFalse sess tag) s = .next t ∧ s.replied t sess tag Obj.TWIN_ENABLE .ok ∧ t.rd Obj.TWIN_ENABLE = 0 ∧
      s.keeps t [Obj.TWIN_ENABLE]) ∧
  (∀ (s : State) (sess tag : Nat),
    s.serves sess tag Obj.TWIN_ENABLE 0 = true → s.rd Obj.TWIN_STATE = 2 → s.twin.handover = none → s.twin.subst = [] →
    ∃ t, exec (.twinEnableFalse sess tag) s = .next t ∧ s.replied t sess tag Obj.TWIN_ENABLE .ok ∧ t.rd Obj.TWIN_ENABLE = 0 ∧
      t.rd Obj.TWIN_STATE = 0 ∧ t.paired = false ∧ t.rest = { s.rest with twin := t.twin } ∧ t.log = s.log ∧
      s.only t ([Obj.TWIN_ENABLE, Obj.TWIN_STATE, Obj.TWIN_NOT_READY] ++ unpairKeys))

/-- Failure and yield (R380, R387, R392, R393, R399): without a heartbeat for 8 µs, or told by its twin's heartbeats that none of its own
arrive, a primary yields; on a fault message, an unacknowledged log entry or a twin that is gone it goes on alone; a standby that holds
the configuration takes over, after the guard where the heartbeats stopped; at the detach tick the pair is over. -/
def Obligations.TwinFailure : Prop :=
  (∀ (s : State),
    s.paired = true → s.rd Obj.TWIN_STATE = 2 → s.rd Obj.TWIN_SENSE_STATE = 1 → s.twin.heard + 8 * tpus ≤ s.wall → s.twin.subst = [] →
    ∃ t, exec .heartbeatLoss s = .next t ∧ t.rd Obj.TWIN_STATE = 6 ∧ t.rd Obj.TWIN_LAST_CAUSE = 1 ∧ t.rd Obj.TWIN_LAST_TAKEOVER = s.tick ∧
      t.rd Obj.TWIN_YIELDS = min (2 ^ 32 - 1) (s.rd Obj.TWIN_YIELDS + 1) ∧ t.paired = false ∧ t.log.alerts = s.log.alerts + 2 ∧
      t.rest = { s.rest with twin := t.twin } ∧
      s.onlyE t ([Obj.TWIN_STATE, Obj.TWIN_LAST_CAUSE, Obj.TWIN_LAST_TAKEOVER, Obj.TWIN_YIELDS] ++ unpairKeys)) ∧
  (∀ (s : State) (j : Nat),
    s.paired = true → s.rd Obj.TWIN_STATE = 4 → s.twin.steps = 3 → s.twin.js = some j → j ≤ s.tick → s.twin.heard + 8 * tpus ≤ s.wall →
    s.twin.subst = [] →
    ∃ t, exec .heartbeatLoss s = .next t ∧ t.twin.guard = some (s.wall + 10 * tpus) ∧ t.rd Obj.TWIN_LAST_CAUSE = 1 ∧ t.twin.due = s.twin.due ∧
      t.rd Obj.TWIN_STATE = 4 ∧ t.paired = false ∧ t.rest = { s.rest with twin := t.twin } ∧ t.sess = s.sess ∧ t.log = s.log ∧
      s.only t ([Obj.TWIN_LAST_CAUSE, Obj.TWIN_LAST_TAKEOVER] ++ unpairKeys)) ∧
  (∀ (s : State),
    s.paired = true → s.rd Obj.TWIN_STATE = 2 → 4000 ≤ s.twin.peerSince → s.twin.subst = [] →
    ∃ t, exec .twinYield s = .next t ∧ t.rd Obj.TWIN_STATE = 6 ∧ t.rd Obj.TWIN_YIELDS = min (2 ^ 32 - 1) (s.rd Obj.TWIN_YIELDS + 1) ∧
      t.paired = false ∧ t.log.alerts = s.log.alerts + 2 ∧ t.rest = { s.rest with twin := t.twin } ∧
      s.onlyE t ([Obj.TWIN_STATE, Obj.TWIN_YIELDS] ++ unpairKeys)) ∧
  (∀ (s : State) (cause : Nat),
    s.paired = true → s.rd Obj.TWIN_STATE = 2 → s.twin.subst = [] →
    ∃ t, exec (.twinFaultMessage cause) s = .next t ∧ t.rd Obj.TWIN_STATE = 2 ∧ t.rd Obj.TWIN_LAST_CAUSE = 2 ∧ t.paired = false ∧
      t.rest = { s.rest with twin := t.twin } ∧ t.sess = s.sess ∧ t.log = s.log ∧
      s.only t ([Obj.TWIN_LAST_CAUSE, Obj.TWIN_LAST_TAKEOVER] ++ unpairKeys)) ∧
  (∀ (s : State) (j : Nat),
    s.paired = true → s.rd Obj.TWIN_STATE = 5 ∨ s.rd Obj.TWIN_STATE = 4 → s.twin.steps = 3 → s.twin.js = some j → j ≤ s.tick → s.twin.subst = [] →
    ∃ t, exec (.twinFaultMessage 1) s = .next t ∧ t.rd Obj.TWIN_LAST_CAUSE = 5 ∧ t.twin.due = some 1 ∧ t.paired = false ∧
      t.rest = { s.rest with twin := t.twin } ∧ t.sess = s.sess ∧ t.log = s.log ∧
      s.only t ([Obj.TWIN_LAST_CAUSE, Obj.TWIN_LAST_TAKEOVER] ++ unpairKeys)) ∧
  (∀ (s : State),
    s.paired = true → s.rd Obj.TWIN_STATE = 2 → s.twin.subst = [] →
    ∃ t, exec .twinSenseFall s = .next t ∧ t.rd Obj.TWIN_SENSE_STATE = 0 ∧ t.rd Obj.TWIN_LANES = 0 ∧ t.rd Obj.TWIN_LAST_CAUSE = 3 ∧
      t.paired = false ∧ t.rest = { s.rest with twin := t.twin } ∧ t.sess = s.sess ∧ t.log = s.log ∧
      s.only t ([Obj.TWIN_SENSE_STATE, Obj.TWIN_LANES, Obj.TWIN_LAST_CAUSE, Obj.TWIN_LAST_TAKEOVER] ++ unpairKeys)) ∧
  (∀ (s : State),
    s.paired = false → s.rd Obj.TWIN_STATE = 6 →
    ∃ t, exec .twinSenseFall s = .next t ∧ t.twin = { s.twin with due := some 0 } ∧ t.rd Obj.TWIN_SENSE_STATE = 0 ∧
      t.rest = { s.rest with twin := t.twin } ∧ t.sess = s.sess ∧ t.log = s.log ∧ s.only t [Obj.TWIN_SENSE_STATE, Obj.TWIN_LANES]) ∧
  (∀ (s : State) (g : Nat),
    s.twin.guard = some g → g ≤ s.wall →
    ∃ t, exec .takeoverGuardEnd s = .next t ∧ t.twin = { s.twin with guard := none, due := some 0 } ∧ t.rest = { s.rest with twin := t.twin } ∧
      t.obj = s.obj ∧ t.sess = s.sess ∧ t.log = s.log) ∧
  (∀ (s : State) (f q tr a : Nat),
    s.paired = true → s.rd Obj.TWIN_STATE = 2 → (f, q, tr, a) ∈ s.twin.logWait → a + 8 * tpus ≤ s.wall → s.twin.subst = [] →
    ∃ t, exec .logAckTimeout s = .next t ∧ t.rd Obj.TWIN_STATE = 2 ∧ t.rd Obj.TWIN_LAST_CAUSE = 4 ∧ t.paired = false ∧ t.twin.logWait = [] ∧
      t.rest = { s.rest with twin := t.twin } ∧ t.sess = s.sess ∧ t.log = s.log ∧
      s.only t ([Obj.TWIN_LAST_CAUSE, Obj.TWIN_LAST_TAKEOVER] ++ unpairKeys)) ∧
  (∀ (s : State) (d : Nat),
    s.twin.detachAt = some d → d ≤ s.tick → s.rd Obj.TWIN_STATE = 2 → s.twin.handover = none → s.twin.subst = [] →
    ∃ t, exec .twinDetachAt s = .next t ∧ t.rd Obj.TWIN_STATE = 0 ∧ t.paired = false ∧ t.twin.detachAt = none ∧
      t.rest = { s.rest with twin := t.twin } ∧ t.sess = s.sess ∧ t.log = s.log ∧
      s.only t ([Obj.TWIN_STATE, Obj.TWIN_NOT_READY] ++ unpairKeys))

/-- Mirroring (R386, R388, R401): a standby does with an item what its primary did: an item its firmware does not offer makes it wait; a
mirrored write lands in its object; a session opens and is held; a commit's snapshot is committed here with the same requested tick and
its boundary is computed as on the primary; a manifest becomes the previous one; an acknowledged log entry lets its frame go; and an
engine that is no standby takes none. -/
def Obligations.Mirroring : Prop :=
  (∀ (s : State) (m : MirrorItem),
    s.isStandby = true → s.paired = true → m.offered = false →
    ∃ t, exec (.mirrorItem m) s = .next t ∧ t.rd Obj.TWIN_STATE = 4 ∧ t.rd Obj.TWIN_NOT_READY = 4 ∧
      t.twin = { s.twin with unoffered := (s.twin.unoffered ++ mirroredUnits m.body).eraseDups } ∧ t.rest = { s.rest with twin := t.twin } ∧
      t.sess = s.sess ∧ t.log = s.log ∧
      s.only t ([Obj.TWIN_STATE, Obj.TWIN_NOT_READY, Obj.TWIN_READY_SINCE] ++ (List.range 249).map Obj.TWIN_FLOW_MATCH)) ∧
  (∀ (s : State) (m : MirrorItem) (i v : Nat),
    s.isStandby = true → s.paired = true → m.offered = true → m.body = .write i Obj.CONV_TONE_ATTEN v → s.tick < m.at_ + 640000 →
    (s.ses i).mirror = true → (s.ses i).tags = [] → 1 ≤ i ∧ i < 8 →
    ∃ t, exec (.mirrorItem m) s = .next t ∧ t.rd Obj.CONV_TONE_ATTEN = v ∧ t.rest = s.rest ∧ t.sess = s.sess ∧ t.log = s.log ∧
      s.only t (Obj.CONV_TONE_ATTEN :: (List.range 249).map Obj.TWIN_FLOW_MATCH)) ∧
  (∀ (s : State) (m : MirrorItem) (i role dict sl secret port mac ip udp : Nat),
    s.Sized → s.isStandby = true → s.paired = true → m.offered = true → m.body = .sessionOpen i role dict sl secret port mac ip udp → 1 ≤ i ∧ i < 8 →
    ∃ t, exec (.mirrorItem m) s = .next t ∧ (t.ses i).isOpen = true ∧ (t.ses i).mirror = true ∧ (t.ses i).role = role ∧ (t.ses i).ver = dict ∧
      (t.ses i).secret = secret ∧ (t.ses i).srcIp = ip ∧ (t.ses i).inc = (s.ses i).inc + 1 ∧ t.rd (Obj.DEV_SESS_STATE i) = 1 ∧
      t.rd (Obj.DEV_SESS_ROLE i) = role ∧ (∀ j, j ≠ i → t.ses j = s.ses j) ∧ t.rest = { s.rest with flows := t.flows } ∧
      (∀ f, f ≠ 248 + i → t.flow f = s.flow f) ∧ t.log = s.log) ∧
  (∀ (s : State) (m : MirrorItem) (i tag scope rq cseq : Nat),
    s.Sized → s.isStandby = true → s.paired = true → m.offered = true → m.body = .snapshot i tag scope rq cseq [] → s.tick ≤ rq → s.twin.steps = 3 →
    1 ≤ i ∧ i < 8 → s.loads = State.reset.loads → s.stagedOf i = [] →
    ∃ t, exec (.mirrorItem m) s = .next t ∧ t.commits = cseq + 1 ∧ t.swapId = s.swapId + 1 ∧ t.rd (sk i Obj.DEV_COMMIT_SEQ) = cseq ∧
      t.rd (sk i Obj.DEV_JOINT_REQ) = rq ∧ t.rd (sk i Obj.DEV_COMMIT_STATE) = 2 ∧
      (∃ w, t.swaps = s.swaps ++ [w] ∧ w.seq = cseq ∧ w.sess = i ∧ w.groups = scope ∧ w.reqTick = rq ∧ w.served = m.at_ ∧ w.validating = false) ∧
      t.sess = s.sess ∧ t.log = s.log) ∧
  (∀ (s : State) (m : MirrorItem) (f h : Nat),
    s.Sized → s.isStandby = true → s.paired = true → m.offered = true → m.body = .manifest f h → f < 249 →
    ∃ t, exec (.mirrorItem m) s = .next t ∧ (t.flow f).custody.prevHash = h ∧ (t.flow f).custody.seg = (s.flow f).custody.seg + 1 ∧
      (t.flow f).custody.records = 0 ∧ t.rd (Obj.SEC_CUST_SEGMENT f) = (s.flow f).custody.seg + 1 ∧ (∀ g, g ≠ f → t.flow g = s.flow g) ∧
      t.rest = { s.rest with flows := t.flows } ∧ t.sess = s.sess ∧ t.log = s.log ∧
      s.only t (Obj.SEC_CUST_SEGMENT f :: (List.range 249).map Obj.TWIN_FLOW_MATCH)) ∧
  (∀ (s : State) (m : MirrorItem),
    s.isStandby = false →
    ∃ t, exec (.mirrorItem m) s = .next t ∧ t = s) ∧
  (∀ (s : State) (f q tr a : Nat),
    s.twin.logWait = [(f, q, tr, a)] →
    ∃ t, exec (.logEntryAck f q tr) s = .next t ∧ t.twin.logWait = [] ∧
      t.flow f = (if f < s.flows.length then
        { s.flow f with frames := (s.flow f).frames.map fun g => if g.seq = q then { g with logged := true } else g } else s.flow f) ∧
      (∀ g, g ≠ f → t.flow g = s.flow g) ∧ t.rest = { s.rest with twin := t.twin, flows := t.flows } ∧ t.sess = s.sess ∧ t.log = s.log ∧
      s.only t [Obj.TWIN_MIRROR_LAT_AVG])

/-- Syncing, takeover and planned handover (R390, R394, R397 to R400): the snapshot waits for the aligned tick index and equal clocks, a late one
is refused, and one in time is committed for its tick; a standby whose steps are complete is ready; a standby that is due takes the
flows and sessions over; a handover is planned 10 ms ahead on a ready pair, and at its tick one whose pair is no longer ready is
abandoned; a detach is planned on a primary; a frame handed over is forgotten once the standby has sent it. -/
def Obligations.TwinService : Prop :=
  (∀ (s : State) (js : Nat) (vals owners : List (Nat × Nat)) (eq : Bool),
    s.rd Obj.TWIN_STATE = 4 → s.paired = true → s.twin.steps ≠ 3 → s.rd Obj.CONV_SYNC_MODE ≠ 1 →
    ∃ t, exec (.standbySnapshotApply js vals owners eq) s = .next t ∧ t.rd Obj.TWIN_NOT_READY = 2 ∧ t.sess = s.sess ∧
      s.keeps t [Obj.TWIN_NOT_READY]) ∧
  (∀ (s : State) (js : Nat) (vals owners : List (Nat × Nat)) (eq : Bool),
    s.rd Obj.TWIN_STATE = 4 → s.paired = true → s.twin.steps ≠ 3 → s.rd Obj.CONV_SYNC_MODE = 1 → eq = false ∨ js < s.tick →
    ∃ t, exec (.standbySnapshotApply js vals owners eq) s = .next t ∧ t.rd Obj.TWIN_NOT_READY = (if eq then 5 else 3) ∧ t.sess = s.sess ∧
      s.keeps t [Obj.TWIN_NOT_READY]) ∧
  (∀ (s : State) (js v : Nat),
    s.Sized → s.rd Obj.TWIN_STATE = 4 → s.paired = true → s.twin.steps ≠ 3 → s.rd Obj.CONV_SYNC_MODE = 1 → s.tick ≤ js →
    ∃ t, exec (.standbySnapshotApply js [(Obj.TRIG_SRC_WIDTH 5, v)] [] true) s = .next t ∧ t.twin.steps = 3 ∧ t.twin.js = some js ∧
      t.rd Obj.TWIN_NOT_READY = 1 ∧ t.rdc (Obj.TRIG_SRC_WIDTH 5) = v ∧ t.rd (Obj.TRIG_SRC_WIDTH 5) = s.rd (Obj.TRIG_SRC_WIDTH 5) ∧ t.swapId = s.swapId + 1 ∧
      (∃ w, t.swaps = s.swaps ++ [w] ∧ w.cause = some 10 ∧ w.reqTick = js ∧ w.vals = [(Obj.TRIG_SRC_WIDTH 5, v)]) ∧ t.sess = s.sess ∧ t.log = s.log) ∧
  (∀ (s : State) (j : Nat),
    s.rd Obj.TWIN_STATE = 4 → s.paired = true → s.rd Obj.TWIN_LANES ≠ 0 → s.twin.steps = 3 → s.twin.js = some j → j ≤ s.tick → s.swaps = [] →
    (∀ ch, ch < 4 → s.calibrating ch = false) → s.twin.unoffered = [] →
    ∃ t, exec .standbyReady s = .next t ∧ t.rd Obj.TWIN_STATE = 5 ∧ t.rd Obj.TWIN_NOT_READY = 0 ∧ t.rd Obj.TWIN_READY_SINCE = s.tick ∧
      t.rest = s.rest ∧ t.sess = s.sess ∧ t.log = s.log ∧
      s.only t ([Obj.TWIN_STATE, Obj.TWIN_NOT_READY, Obj.TWIN_READY_SINCE] ++ (List.range 249).map Obj.TWIN_FLOW_MATCH)) ∧
  (∀ (s : State) (r : Nat),
    s.Sized → s.twin.due = some r → s.swaps = [] → (∀ f, f < 249 → s.flowSends f = false) → (∀ h, h < 20 → s.rd (Obj.RSV_HIST_ENABLE h) ≠ 1) →
    ∃ t, exec .takeover s = .next t ∧ t.rd Obj.TWIN_STATE = 2 ∧ t.rd Obj.TWIN_NOT_READY = 0 ∧
      t.rd Obj.TWIN_TAKEOVERS = min (2 ^ 32 - 1) (s.rd Obj.TWIN_TAKEOVERS + 1) ∧ t.twin.due = none ∧ t.twin.guard = none ∧ t.twin.steps = 0 ∧
      (∀ i, 1 ≤ i ∧ i < 8 → (s.ses i).isOpen = true → (s.ses i).mirror = true →
        (t.ses i).mirror = false ∧ (t.ses i).tags = [] ∧ (t.ses i).heard = s.wall ∧ (t.ses i).secret = (s.ses i).secret) ∧
      t.rsv = { s.rsv with rings := s.rsv.rings.map fun x => { x with subst := true } } ∧
      t.log.alerts = s.log.alerts + 1 ∧ t.rest = { s.rest with twin := t.twin, free := t.free, flows := t.flows, rsv := t.rsv } ∧
      s.onlyE t ([Obj.TWIN_STATE, Obj.TWIN_NOT_READY, Obj.TWIN_TAKEOVERS] ++ (List.range 8).map (fun i => Obj.FLOW_SEQ_NEXT (248 + i)) ++
        (List.range 249).map Obj.TWIN_FLOW_MATCH)) ∧
  (∀ (s : State) (sess tag : Nat),
    s.serves sess tag Obj.TWIN_CMD 3 = true → s.rd Obj.TWIN_STATE = 3 → s.tick + 10 * tpms ≤ s.rd Obj.TWIN_CMD_AT → s.twin.handover = none →
    ∃ t, exec (.twinHandoverCmd sess tag) s = .next t ∧ s.replied t sess tag Obj.TWIN_CMD .ok ∧
      t.twin = { s.twin with handover := some { at_ := s.rd Obj.TWIN_CMD_AT, reason := 1 } } ∧ t.rd Obj.TWIN_CMD_STATUS = 1 ∧
      t.rest = { s.rest with twin := t.twin } ∧ t.log = s.log ∧ s.only t [Obj.TWIN_CMD_STATUS]) ∧
  (∀ (s : State) (sess tag : Nat),
    s.serves sess tag Obj.TWIN_CMD 3 = true → s.rd Obj.TWIN_CMD_AT < s.tick + 10 * tpms →
    ∃ t, exec (.twinHandoverCmd sess tag) s = .next t ∧ s.replied t sess tag Obj.TWIN_CMD .range ∧ s.keeps t []) ∧
  (∀ (s : State) (sess tag : Nat),
    s.serves sess tag Obj.TWIN_CMD 2 = true → s.paired = true → s.rd Obj.TWIN_STATE = 2 →
    ∃ t, exec (.twinDetachCmd sess tag) s = .next t ∧ s.replied t sess tag Obj.TWIN_CMD .ok ∧
      t.twin = { s.twin with detachAt := some (s.rd Obj.TWIN_CMD_AT) } ∧ t.rest = { s.rest with twin := t.twin } ∧ t.log = s.log ∧ t.obj = s.obj) ∧
  (∀ (s : State) (h : Handover),
    s.twin.handover = some h → h.at_ ≤ s.tick → s.twinReady = false → s.conv.calWait = [] → s.upd.waits = none →
    ∃ t, exec .twinHandoverAt s = .next t ∧ t.twin = { s.twin with handover := none } ∧ t.rd Obj.TWIN_CMD_STATUS = 3 ∧
      t.log.alerts = s.log.alerts ∧ t.rest = { s.rest with twin := t.twin, free := s.free + 1 } ∧ s.onlyE t [Obj.TWIN_CMD_STATUS]) ∧
  (∀ (s : State) (h : Handover) (p : PeerHello),
    s.Sized → s.twin.handover = some h → h.at_ ≤ s.tick → s.twinReady = true → s.twin.peer = some p → p.syncNext = none → s.conv.calWait = [] →
    s.upd.waits = none → s.committedUnits = [] →
    ∃ t, exec .twinHandoverAt s = .next t ∧ t.twin.handover = none ∧ t.twin.faults = h.reason :: s.twin.faults ∧ t.twin.steps = 0 ∧
      t.rd Obj.TWIN_STATE = 4 ∧ t.rd Obj.TWIN_CMD_STATUS = 2 ∧ t.rd Obj.TWIN_NOT_READY = 2 ∧
      (∀ i, 1 ≤ i ∧ i < 8 → (s.ses i).isOpen = true → (t.ses i).mirror = true) ∧ t.ses 0 = s.ses 0) ∧
  (∀ (s : State) (f seq : Nat),
    s.isStandby = false →
    ∃ t, exec (.substRetx f seq) s = .next t ∧
      t.twin = { s.twin with subst := s.twin.subst.filter fun e => !(e.1 == f && e.2.seq == seq) } ∧ t.rest = { s.rest with twin := t.twin } ∧
      t.obj = s.obj ∧ t.sess = s.sess ∧ t.log = s.log)

/-- The lock, staging and verification (R405 to R407): a free lock is taken and its holder releases it, which discards what is staged; any other
session's write is answered LOCKED with the holder; 600 s without a write release it; a length begins an image, the offset is a multiple
of 256 below it, a block is staged and the offset advances; verification ends at the first failing check or describes the image. -/
def Obligations.ImageStaging : Prop :=
  (∀ (s : State) (sess tag : Nat),
    s.serves sess tag Obj.UPD_LOCK 1 = true → s.rd Obj.UPD_LOCK_HOLDER = 255 → s.rd Obj.UPD_STATE ≠ 4 → s.rd Obj.UPD_STATE ≠ 5 →
    ∃ t, exec (.updLockTake sess tag) s = .next t ∧ s.replied t sess tag Obj.UPD_LOCK .ok ∧ t.rd Obj.UPD_LOCK_HOLDER = sess ∧
      t.upd = { s.upd with heard := s.wall } ∧ t.rest = { s.rest with upd := t.upd } ∧ t.log = s.log ∧ s.only t [Obj.UPD_LOCK_HOLDER]) ∧
  (∀ (s : State) (sess tag h : Nat),
    s.serves sess tag Obj.UPD_LOCK 1 = true → s.rd Obj.UPD_LOCK_HOLDER = h → h ≠ sess → h ≠ 255 →
    ∃ t, exec (.updLockTake sess tag) s = .next t ∧ (t.ses sess).txq = (s.ses sess).txq ++ [reply tag Obj.UPD_LOCK .locked h] ∧
      (∀ i, i ≠ sess → t.ses i = s.ses i) ∧ s.keeps t []) ∧
  (∀ (s : State) (sess tag : Nat),
    s.serves sess tag Obj.UPD_LOCK 2 = true → s.rd Obj.UPD_LOCK_HOLDER = sess → s.rd Obj.UPD_STATE ≠ 4 → s.rd Obj.UPD_STATE ≠ 5 →
    ∃ t, exec (.updLockRelease sess tag) s = .next t ∧ s.replied t sess tag Obj.UPD_LOCK .ok ∧ t.rd Obj.UPD_LOCK_HOLDER = 255 ∧
      t.rd Obj.UPD_STATE = s.updRest ∧ t.rd Obj.UPD_LENGTH = 0 ∧ t.upd.blocks = [] ∧ t.upd.image = none ∧
      t.rest = { s.rest with upd := t.upd, rsv := t.rsv, com := t.com } ∧ t.log = s.log ∧
      s.only t ([Obj.UPD_LOCK_HOLDER, Obj.UPD_STATE] ++ discardKeys)) ∧
  (∀ (s : State),
    s.rd Obj.UPD_LOCK_HOLDER < 8 → s.rd Obj.UPD_STATE ≤ 3 → s.upd.heard + 600 * tps ≤ s.wall →
    ∃ t, exec .updLockIdleTimeout s = .next t ∧ t.rd Obj.UPD_LOCK_HOLDER = 255 ∧ t.rd Obj.UPD_LENGTH = 0 ∧ t.rd Obj.UPD_STATE = s.updRest ∧
      t.upd.blocks = [] ∧ t.rest = { s.rest with upd := t.upd, rsv := t.rsv, com := t.com } ∧ t.sess = s.sess ∧ t.log = s.log ∧
      s.only t ([Obj.UPD_LOCK_HOLDER, Obj.UPD_STATE] ++ discardKeys)) ∧
  (∀ (s : State) (sess tag v : Nat),
    s.serves sess tag Obj.UPD_LENGTH v = true → s.rd Obj.UPD_LOCK_HOLDER = sess → s.rd Obj.UPD_STATE ∈ [0, 1, 3, 6, 7] → 128 ≤ v → v ≤ 25165824 →
    s.rd Obj.DEV_STATE = 6 →
    ∃ t, exec (.updLength sess tag v) s = .next t ∧ s.replied t sess tag Obj.UPD_LENGTH .ok ∧ t.rd Obj.UPD_LENGTH = v ∧
      t.rd Obj.UPD_OFFSET = 0 ∧ t.rd Obj.UPD_STATE = 1 ∧ t.upd = { s.upd with heard := s.wall, blocks := [], image := none } ∧
      t.rest = { s.rest with upd := t.upd, rsv := t.rsv, com := t.com } ∧ t.log = s.log ∧ s.only t (Obj.UPD_STATE :: discardKeys)) ∧
  (∀ (s : State) (sess tag v : Nat),
    s.serves sess tag Obj.UPD_LENGTH v = true → s.rd Obj.UPD_LOCK_HOLDER = sess → s.rd Obj.UPD_STATE ∈ [0, 1, 3, 6] → 128 ≤ v → v ≤ 25165824 →
    s.rd Obj.DEV_STATE ≠ 6 → s.rsv.small = [] → s.com = [] → 1 ≤ s.rd Obj.RSV_PANS_TOTAL → s.pwr.suspended = false →
    ∃ t, exec (.updLength sess tag v) s = .next t ∧ s.replied t sess tag Obj.UPD_LENGTH .ok ∧ t.rd Obj.UPD_LENGTH = v ∧
      t.rd Obj.UPD_OFFSET = 0 ∧ t.rd Obj.UPD_STATE = 1 ∧ t.rsv = { s.rsv with small := [⟨0, 0, 2 ^ 23, Obj.UPD_LENGTH⟩] } ∧
      t.rest = { s.rest with upd := t.upd, rsv := t.rsv, com := t.com } ∧ t.log = s.log ∧ s.only t (Obj.UPD_STATE :: discardKeys)) ∧
  (∀ (s : State) (sess tag v : Nat),
    s.serves sess tag Obj.UPD_OFFSET v = true → s.rd Obj.UPD_LOCK_HOLDER = sess → s.rd Obj.UPD_STATE ≠ 4 → s.rd Obj.UPD_STATE ≠ 5 →
    ∃ t, exec (.updOffsetWrite sess tag v) s = .next t ∧
      (v % 256 = 0 ∧ v < s.rd Obj.UPD_LENGTH → s.replied t sess tag Obj.UPD_OFFSET .ok ∧ t.rd Obj.UPD_OFFSET = v) ∧
      (¬(v % 256 = 0 ∧ v < s.rd Obj.UPD_LENGTH) → s.replied t sess tag Obj.UPD_OFFSET .range ∧ t.rd Obj.UPD_OFFSET = s.rd Obj.UPD_OFFSET) ∧
      t.upd = { s.upd with heard := s.wall } ∧ t.rest = { s.rest with upd := t.upd } ∧ t.log = s.log ∧ s.only t [Obj.UPD_OFFSET]) ∧
  (∀ (s : State) (sess tag v : Nat),
    s.serves sess tag Obj.UPD_DATA v = true → s.rd Obj.UPD_LOCK_HOLDER = sess → s.rd Obj.UPD_STATE ∈ [1, 3] →
    s.rd Obj.UPD_OFFSET < s.rd Obj.UPD_LENGTH →
    ∃ t, exec (.updData sess tag v) s = .next t ∧ s.replied t sess tag Obj.UPD_DATA .ok ∧
      t.rd Obj.UPD_OFFSET = s.rd Obj.UPD_OFFSET + 256 ∧ t.rd Obj.UPD_STATE = 1 ∧ t.upd.image = none ∧
      t.upd.blocks.get zeroDflt (s.rd Obj.UPD_OFFSET / 256) = v + 1 ∧
      (∀ b, b ≠ s.rd Obj.UPD_OFFSET / 256 → t.upd.blocks.get zeroDflt b = s.upd.blocks.get zeroDflt b) ∧
      t.rsv = { s.rsv with pch := t.rsv.pch } ∧ (s.small Obj.UPD_LENGTH = none → t.rsv = s.rsv) ∧
      t.rest = { s.rest with upd := t.upd, rsv := t.rsv } ∧ t.log = s.log ∧
      s.only t [Obj.UPD_OFFSET, Obj.UPD_STATE, Obj.RSV_OUTSTANDING, Obj.RSV_OUTSTANDING_PEAK]) ∧
  (∀ (s : State) (sess tag : Nat),
    s.serves sess tag Obj.UPD_VERIFY 1 = true → s.rd Obj.UPD_LOCK_HOLDER = sess → s.rd Obj.UPD_STATE ∈ [0, 1, 3, 6, 7] →
    ∃ t, exec (.updVerify sess tag 1) s = .next t ∧ s.pended t sess tag Obj.UPD_VERIFY ∧ t.rd Obj.UPD_STATE = 2 ∧
      t.upd = { s.upd with heard := s.wall, req := some (s.req sess tag Obj.UPD_VERIFY) } ∧ t.rest = { s.rest with upd := t.upd } ∧
      t.log = s.log ∧ s.only t [Obj.UPD_STATE]) ∧
  (∀ (s : State) (sig : Bool) (r : Req),
    s.rd Obj.UPD_STATE = 2 → s.upd.req = some r → s.rd Obj.UPD_LENGTH = 0 ∨ s.updMissing ≠ 2 ^ 32 - 1 →
    ∃ t, exec (.updVerifyDone sig) s = .next t ∧ finished s t r .range ∧ t.rd Obj.UPD_STATE = 1 ∧ t.rd Obj.UPD_VERIFY_REASON = 1 ∧
      t.upd = { s.upd with req := none } ∧ t.rest = { s.rest with upd := t.upd } ∧ t.log = s.log ∧
      s.only t [Obj.UPD_STATE, Obj.UPD_VERIFY_REASON]) ∧
  (∀ (s : State) (sig : Bool) (r : Req),
    s.rd Obj.UPD_STATE = 2 → s.upd.req = some r → s.rd Obj.UPD_LENGTH ≠ 0 → s.updMissing = 2 ^ 32 - 1 →
    ∃ t, exec (.updVerifyDone sig) s = .next t ∧
      (∀ n, s.imageCheck (s.stagedImage sig) (s.rd Obj.UPD_LENGTH) = n → t.rd Obj.UPD_VERIFY_REASON = n ∧
        t.rd Obj.UPD_STATE = (if n = 0 then 3 else 1) ∧ finished s t r (if n = 0 then .ok else if n = 2 ∨ n = 7 then .version else .range) ∧
        t.upd.image = (if n = 0 then some (s.stagedImage sig) else s.upd.image) ∧
        t.rd Obj.UPD_STAGED_VERSION = (if n = 0 then (s.stagedImage sig).fwVersion else s.rd Obj.UPD_STAGED_VERSION)) ∧
      t.rest = { s.rest with upd := t.upd } ∧ t.log = s.log ∧
      s.only t [Obj.UPD_STATE, Obj.UPD_VERIFY_REASON, Obj.UPD_STAGED_VERSION, Obj.UPD_STAGED_SVN, Obj.UPD_STAGED_HASH])

/-- Activation, handover and probation (R408 to R413): a verified image whose formats agree opens the journal, and the answer waits; a page
that fails twice leads to loader service; the close makes the image the one in force, on probation, and begins the handover; a
handover in time ends it and the lock; UPD_CONFIRM ends probation; a probation failure marks the image failed and resets the engine; the
loader asks its twin or a host; the twin's own image goes only while it is confirmed. -/
def Obligations.Activation : Prop :=
  (∀ (s : State) (sess tag : Nat) (i : ImageInfo),
    s.serves sess tag Obj.UPD_ACTIVATE 1 = true → s.rd Obj.UPD_LOCK_HOLDER = sess → s.rd Obj.UPD_STATE = 3 → s.upd.image = some i →
    s.upd.closedAt = none → i.hoAcceptLo ≤ s.rd Obj.UPD_HANDOVER_FMT → s.rd Obj.UPD_HANDOVER_FMT ≤ i.hoAcceptHi →
    (∀ ch, ch < 4 → s.calibrating ch = false) → s.conv.skew = none → s.conv.align = none → s.rd Obj.DEV_STATE ≠ 6 → s.upd.journal = none →
    ∃ t, exec (.updActivateHandover sess tag) s = .next t ∧ s.pended t sess tag Obj.UPD_ACTIVATE ∧ t.rd Obj.UPD_STATE = 4 ∧
      t.rd Obj.UPD_JOURNAL_PAGES = imagePages i ∧ t.rd Obj.UPD_JOURNAL_HASH = i.hash ∧ t.rd Obj.UPD_JOURNAL_DONE = 0 ∧
      t.upd.journal = some ⟨i, imagePages i, 1, if sess = 0 then 0 else 1⟩ ∧ t.upd.req = some (s.req sess tag Obj.UPD_ACTIVATE) ∧
      t.rest = { s.rest with upd := t.upd } ∧ t.log = s.log ∧
      s.only t ([Obj.UPD_STATE, Obj.UPD_JOURNAL_PAGES, Obj.UPD_JOURNAL_HASH, Obj.UPD_JOURNAL_DONE, key 0x740B 0] ++
        (List.range 255).map Obj.UPD_RESET_LIST)) ∧
  (∀ (s : State) (sess tag : Nat) (i : ImageInfo),
    s.serves sess tag Obj.UPD_ACTIVATE 1 = true → s.rd Obj.UPD_LOCK_HOLDER = sess → s.rd Obj.UPD_STATE = 3 → s.upd.image = some i →
    s.upd.closedAt = none → s.rd Obj.UPD_HANDOVER_FMT < i.hoAcceptLo ∨ i.hoAcceptHi < s.rd Obj.UPD_HANDOVER_FMT →
    ∃ t, exec (.updActivateHandover sess tag) s = .next t ∧ s.replied t sess tag Obj.UPD_ACTIVATE .version ∧
      t.rest = { s.rest with upd := { s.upd with heard := s.wall } } ∧ t.obj = s.obj ∧ t.log = s.log) ∧
  (∀ (s : State) (sess tag : Nat) (i : ImageInfo),
    s.serves sess tag Obj.UPD_ACTIVATE 2 = true → s.rd Obj.UPD_LOCK_HOLDER = sess → s.rd Obj.UPD_STATE = 3 → s.upd.image = some i →
    s.upd.closedAt = none → (∀ ch, ch < 4 → s.calibrating ch = false) → s.conv.skew = none → s.conv.align = none → s.rd Obj.DEV_STATE ≠ 6 →
    s.rd Obj.TWIN_STATE ≠ 3 →
    ∃ t, exec (.updActivateRestart sess tag) s = .next t ∧ s.pended t sess tag Obj.UPD_ACTIVATE ∧ t.rd Obj.UPD_STATE = 4 ∧
      t.upd.journal = some ⟨i, imagePages i, 2, if sess = 0 then 0 else 1⟩ ∧ t.rest = { s.rest with upd := t.upd } ∧ t.log = s.log) ∧
  (∀ (s : State) (page : Nat) (j : Journal),
    s.upd.journal = some j → s.rd Obj.UPD_STATE = 4 → s.rd Obj.DEV_STATE = 6 → s.upd.req = none →
    ∃ t, exec (.updMramFail page) s = .next t ∧ t.rd Obj.UPD_STATE = 7 ∧ t.rd Obj.UPD_LAST_FAIL = 7 ∧ t.rd Obj.UPD_LOCK_HOLDER = 255 ∧
      t.rd Obj.UPD_JOURNAL_DONE = page ∧ t.upd.journal = some j ∧ t.log.alerts = s.log.alerts + 1 ∧
      s.onlyE t [Obj.UPD_STATE, Obj.UPD_LAST_FAIL, Obj.UPD_LOCK_HOLDER, Obj.UPD_JOURNAL_DONE]) ∧
  (∀ (s : State) (page : Nat) (j : Journal),
    s.upd.journal = some j → s.rd Obj.UPD_STATE = 4 → s.rd Obj.DEV_STATE ≠ 6 → (∀ p ∈ s.mram, p.1 ∉ startKeys) →
    ∃ t, exec (.updMramFail page) s = .next t ∧ wasReset s t 2 7 ∧ t.rd Obj.DEV_STATE = 6 ∧ t.rd Obj.UPD_STATE = 7 ∧
      t.rd Obj.UPD_LAST_FAIL = 7 ∧ t.upd.journal = some j) ∧
  (∀ (s : State) (j : Journal),
    s.upd.journal = some j → s.rd Obj.UPD_STATE = 4 → j.mode = 1 → j.source ≠ 2 →
    ∃ t, exec .journalClose s = .next t ∧ t.rd Obj.UPD_STATE = 5 ∧ t.rd Obj.UPD_JOURNAL_DONE = j.pages ∧ t.rd Obj.UPD_SOURCE = j.source ∧
      t.rd Obj.UPD_PROBATION = 1 ∧ t.rd Obj.UPD_PROBATION_STARTS = 0 ∧
      t.rd Obj.UPD_ACTIVATIONS = min (2 ^ 32 - 1) (s.rd Obj.UPD_ACTIVATIONS + 1) ∧
      t.upd = { s.upd with journal := none, inForce := some j.image, confirmed := false, failed := false, closedAt := some s.wall,
                           fresh := true, starts := 0, dogs := 0, closed := true } ∧
      t.rest = { s.rest with upd := t.upd } ∧ t.sess = s.sess ∧ t.log = s.log ∧
      s.only t [Obj.UPD_STATE, Obj.UPD_JOURNAL_DONE, Obj.UPD_SOURCE, Obj.UPD_PROBATION, Obj.UPD_PROBATION_STARTS, Obj.UPD_ACTIVATIONS]) ∧
  (∀ (s : State) (j : Journal),
    s.upd.journal = some j → s.rd Obj.UPD_STATE = 4 → j.mode = 2 → j.source ≠ 2 →
    ∃ t, exec .journalClose s = .next t ∧ wasReset s t 2 8 ∧ t.upd.inForce = some j.image ∧ t.upd.confirmed = false ∧
      t.upd.journal = none ∧ t.rd Obj.UPD_PROBATION = 1) ∧
  (∀ (s : State) (ms : Nat) (i : ImageInfo) (r : Req),
    s.handing = true → ms ≤ 2000 → s.upd.inForce = some i → s.upd.fresh = false → s.upd.req = some r → s.rd Obj.DEV_STATE ≠ 6 →
    s.rd Obj.UPD_PROBATION = 1 →
    ∃ t, exec (.stateHandoverComplete ms true) s = .next t ∧ finished s t r .ok ∧ t.rd Obj.UPD_HANDOVER_MS = ms ∧ t.rd Obj.UPD_STATE = 6 ∧
      t.rd Obj.UPD_LOCK_HOLDER = 255 ∧ t.rd Obj.DEV_FW_VERSION = i.fwVersion ∧ t.rd Obj.SEC_SVN_IMAGE = i.svn ∧
      t.rd Obj.UPD_HANDOVER_FMT = i.hoProduce ∧ t.upd.closed = false ∧ t.upd.req = none ∧
      t.rest = { s.rest with upd := t.upd, rsv := t.rsv, com := t.com } ∧ t.log = s.log ∧
      s.only t ([Obj.UPD_HANDOVER_MS, Obj.UPD_STATE, Obj.UPD_LOCK_HOLDER, Obj.DEV_FW_VERSION, Obj.SEC_SVN_IMAGE, Obj.UPD_HANDOVER_FMT] ++
        discardKeys)) ∧
  (∀ (s : State) (ms : Nat) (ok : Bool),
    s.handing = true → 2000 < ms ∨ ok = false → (∀ p ∈ s.mram, p.1 ∉ startKeys) →
    ∃ t, exec (.stateHandoverComplete ms ok) s = .next t ∧ wasReset s t 2 7 ∧ t.upd.failed = true ∧ t.rd Obj.DEV_STATE = 6 ∧
      t.rd Obj.UPD_LAST_FAIL = (if s.upd.journal.isSome then 5 else 2)) ∧
  (∀ (s : State) (sess tag : Nat) (i : ImageInfo),
    s.serves sess tag Obj.UPD_CONFIRM 1 = true → s.rd Obj.UPD_PROBATION = 1 → s.upd.inForce = some i → s.rd Obj.UPD_STATE = 6 →
    ∃ t, exec (.updConfirm sess tag 1) s = .next t ∧ s.replied t sess tag Obj.UPD_CONFIRM .ok ∧ t.rd Obj.UPD_PROBATION = 0 ∧
      t.rd Obj.UPD_STATE = 0 ∧ t.rd Obj.SEC_SVN_FLOOR = max i.svn (s.rd Obj.SEC_SVN_FLOOR) ∧
      t.upd = { s.upd with confirmed := true, starts := 0 } ∧ t.rest = { s.rest with upd := t.upd } ∧ t.log = s.log ∧
      s.only t [Obj.UPD_PROBATION, Obj.UPD_STATE, Obj.SEC_SVN_FLOOR]) ∧
  (∀ (s : State) (code : Nat),
    s.probationFails code = true → (∀ p ∈ s.mram, p.1 ∉ startKeys) →
    ∃ t, exec (.probationFail code) s = .next t ∧ wasReset s t 2 7 ∧ t.upd.failed = true ∧ t.rd Obj.DEV_STATE = 6 ∧
      t.rd Obj.UPD_LAST_FAIL = (if s.upd.journal.isSome then 5 else code)) ∧
  (∀ (s : State) (up sends : Bool) (i : ImageInfo),
    s.rd Obj.DEV_STATE = 6 → s.rd Obj.UPD_STATE = 7 → s.rd Obj.UPD_LOCK_HOLDER = 255 → s.rd Obj.TWIN_ENABLE = 0 ∨ up = false ∨ sends = false →
    ∃ t, exec (.loaderTwinFetch up sends i) s = .next t ∧ t.log.alerts = s.log.alerts + 1 ∧ s.keepsE t [] ∧ t.rd Obj.UPD_STATE = 7) ∧
  (∀ (s : State) (i : ImageInfo),
    s.rd Obj.DEV_STATE = 6 → s.rd Obj.UPD_STATE = 7 → s.rd Obj.UPD_LOCK_HOLDER = 255 → s.rd Obj.TWIN_ENABLE = 1 →
    s.imageCheck i (i.hlen + i.bodyLen) = 0 →
    ∃ t, exec (.loaderTwinFetch true true i) s = .next t ∧ t.rd Obj.UPD_LOCK_HOLDER = 254 ∧ t.rd Obj.UPD_STATE = 4 ∧
      t.upd.journal = some ⟨i, imagePages i, 0, 2⟩ ∧ t.rest = { s.rest with upd := t.upd } ∧ t.sess = s.sess ∧ t.log = s.log) ∧
  (∀ (s : State),
    s.rd Obj.TWIN_LANES ≠ 0 → s.rd Obj.DEV_STATE ≠ 0 → s.rd Obj.DEV_STATE ≠ 6 →
    ∃ t, exec .twinImageRequest s = .next t ∧ t.twin = { s.twin with imageSent := some (s.upd.confirmed && s.upd.journal.isNone) } ∧
      t.rest = { s.rest with twin := t.twin } ∧ t.obj = s.obj ∧ t.sess = s.sess ∧ t.log = s.log)

/-- Requests and the handshake (R426, R427, R429, R430): a request for the state that holds is answered OK; one for a low state is ACCEPTED, and where
every block grants, X is set and the entry is under way; WATCH without a valid program is refused; a deferring block is asked again, and
its grant ends S1; a request during an entry waits for its next abort point and displaces an earlier one. -/
def Obligations.PowerRequests : Prop :=
  (∀ (s : State) (sess tag : Nat),
    s.serves sess tag Obj.PWR_REQ 0 = true → atService s →
    ∃ t, exec (.pwrReqService sess tag) s = .next t ∧ s.replied t sess tag Obj.PWR_REQ .ok ∧ t.rd (sk sess Obj.PWR_REQ_RESULT) = 2 ∧
      s.keeps t [sk sess Obj.PWR_REQ_RESULT]) ∧
  (∀ (s : State) (sess tag : Nat),
    s.serves sess tag Obj.PWR_REQ 2 = true → atService s → blocksGrant s →
    ∃ t, exec (.pwrReqHold sess tag) s = .next t ∧ s.pended t sess tag Obj.PWR_REQ ∧ t.rd (sk sess Obj.PWR_REQ_RESULT) = 1 ∧
      t.rd Obj.PWR_STATE = 1 ∧ t.rd Obj.PWR_SUSPEND_TICK = suspendTick s ∧ t.pwr.step = 2 ∧
      t.pwr.cur = some { target := 2, req := some (s.req sess tag Obj.PWR_REQ) } ∧ t.rest = { s.rest with pwr := t.pwr } ∧ t.log = s.log ∧
      s.only t [sk sess Obj.PWR_REQ_RESULT, Obj.PWR_STATE, Obj.PWR_SUSPEND_TICK, Obj.PWR_QUEUED]) ∧
  (∀ (s : State) (sess tag : Nat),
    s.serves sess tag Obj.PWR_REQ 4 = true → atService s → blocksGrant s →
    ∃ t, exec (.pwrReqDormant sess tag) s = .next t ∧ s.pended t sess tag Obj.PWR_REQ ∧ t.rd (sk sess Obj.PWR_REQ_RESULT) = 1 ∧
      t.rd Obj.PWR_STATE = 1 ∧ t.rd Obj.PWR_SUSPEND_TICK = suspendTick s ∧ t.pwr.step = 2 ∧
      t.pwr.cur = some { target := 4, req := some (s.req sess tag Obj.PWR_REQ) } ∧ t.rest = { s.rest with pwr := t.pwr } ∧ t.log = s.log ∧
      s.only t [sk sess Obj.PWR_REQ_RESULT, Obj.PWR_STATE, Obj.PWR_SUSPEND_TICK, Obj.PWR_QUEUED]) ∧
  (∀ (s : State) (sess tag : Nat),
    s.serves sess tag Obj.PWR_REQ 3 = true → atService s → blocksGrant s → s.programsOk = true →
    ∃ t, exec (.pwrReqWatch sess tag) s = .next t ∧ s.pended t sess tag Obj.PWR_REQ ∧ t.rd (sk sess Obj.PWR_REQ_RESULT) = 1 ∧
      t.rd Obj.PWR_STATE = 1 ∧ t.rd Obj.PWR_SUSPEND_TICK = suspendTick s ∧ t.pwr.step = 2 ∧
      t.pwr.cur = some { target := 3, req := some (s.req sess tag Obj.PWR_REQ) } ∧ t.rest = { s.rest with pwr := t.pwr } ∧ t.log = s.log ∧
      s.only t [sk sess Obj.PWR_REQ_RESULT, Obj.PWR_STATE, Obj.PWR_SUSPEND_TICK, Obj.PWR_QUEUED]) ∧
  (∀ (s : State) (sess tag : Nat),
    s.serves sess tag Obj.PWR_REQ 3 = true → atService s → blocksGrant s → s.programsOk = false →
    ∃ t, exec (.pwrReqWatch sess tag) s = .next t ∧ t.rd Obj.PWR_REFUSE_BLOCK = 6 ∧ t.rd Obj.PWR_REFUSE_REASON = 5 ∧
      t.rd Obj.PWR_REFUSALS = min (2 ^ 32 - 1) (s.rd Obj.PWR_REFUSALS + 1) ∧ t.rd (sk sess Obj.PWR_REQ_RESULT) = 4 ∧ t.rd Obj.PWR_STATE = 0 ∧
      (t.ses sess).txq = (s.ses sess).txq ++ [reply tag Obj.PWR_REQ .accepted, reply tag Obj.PWR_REQ .busy] ∧
      t.pwr.step = 0 ∧ t.pwr.cur = none ∧ t.rest = { s.rest with pwr := t.pwr, free := s.free + 1 } ∧
      s.onlyE t [sk sess Obj.PWR_REQ_RESULT, Obj.PWR_REFUSE_BLOCK, Obj.PWR_REFUSE_REASON, Obj.PWR_REFUSALS, Obj.PWR_STATE, Obj.PWR_QUEUED]) ∧
  (∀ (s : State) (sess tag : Nat),
    s.serves sess tag Obj.PWR_REQ 4 = true → 2 ≤ s.rd Obj.DEV_STATE ∧ s.rd Obj.DEV_STATE ≤ 5 → s.pwr.forced = false → s.pwr.step = 1 → s.pwr.newer = none →
    ∃ t, exec (.pwrReqDormant sess tag) s = .next t ∧ s.pended t sess tag Obj.PWR_REQ ∧ t.rd (sk sess Obj.PWR_REQ_RESULT) = 1 ∧
      t.pwr = { s.pwr with newer := some { target := 4, req := some (s.req sess tag Obj.PWR_REQ) } } ∧ t.rest = { s.rest with pwr := t.pwr } ∧
      t.log = s.log ∧ s.only t [sk sess Obj.PWR_REQ_RESULT]) ∧
  (∀ (s : State) (row d a : Nat),
    s.pwr.asks = [(row, d, a)] → a ≤ s.wall → s.pwr.step = 1 → row ≠ 1 → s.blockAnswer ((s.pwr.cur.map PwrReq.target).getD 0) row d = .grant →
    s.pwr.wake = false → s.pwr.newer = none →
    ∃ t, exec (.handshakeDeferExpiry row) s = .next t ∧ t.rd Obj.PWR_SUSPEND_TICK = suspendTick s ∧
      t.pwr = { s.pwr with step := 2, asks := [] } ∧ t.rest = { s.rest with pwr := t.pwr } ∧ t.sess = s.sess ∧ t.log = s.log ∧
      s.only t [Obj.PWR_SUSPEND_TICK])

/-- The steps of a transition and wake events (R424, R425, R428, R429, R431, R432): at X the data path is suspended; once the units have stopped an
entry into HOLD goes on to the domains; the low state is reached and the request answered; on the way back Y is set, and at Y service
resumes; a wake event that is not enabled, or in SERVICE, is ignored, and in a low state it begins the return; the hardware current
limit forces DORMANT. -/
def Obligations.PowerSteps : Prop :=
  (∀ (s : State),
    s.pwr.step = 2 → s.rd Obj.PWR_SUSPEND_TICK ≤ s.tick →
    ∃ t, exec .pwrSuspend s = .next t ∧ t.rd Obj.DEV_STATE = 4 ∧ t.pwr.suspended = true ∧ t.pwr.step = 3 ∧
      t.pwr.wasState = s.rd Obj.DEV_STATE ∧ t.pwr.suspendedAt = s.wall ∧ t.pwr.cur = s.pwr.cur) ∧
  (∀ (s : State) (p : PwrReq),
    s.pwr.step = 3 → s.swaps = [] → s.pwr.forced = false → s.pwr.wake = false → s.pwr.newer = none → s.pwr.cur = some p → p.target = 2 →
    ∃ t, exec .pwrDrainEnd s = .next t ∧ t.pwr = { s.pwr with step := 5, drainAt := s.wall } ∧ t.rest = { s.rest with pwr := t.pwr } ∧
      t.obj = s.obj ∧ t.sess = s.sess ∧ t.log = s.log) ∧
  (∀ (s : State) (p : PwrReq) (r : Req),
    s.pwr.step = 5 → s.pwr.suspended = true → s.pwr.newer = none → s.pwr.queue = none → s.pwr.cur = some p → p.target = 2 → p.req = some r →
    s.live r = true →
    ∃ t, exec .pwrDomainsDone s = .next t ∧ finished s t r .ok ∧ t.rd (sk r.sess Obj.PWR_REQ_RESULT) = 2 ∧ t.rd Obj.PWR_STATE = 2 ∧
      t.rd Obj.RSV_STATE = 3 ∧ (∀ j, j < 8 → t.rd (Obj.PWR_SLICE_MV j) = 500) ∧ t.pwr.low = 2 ∧ t.pwr.step = 0 ∧ t.pwr.cur = none ∧
      t.rest = { s.rest with pwr := t.pwr } ∧ t.log = s.log ∧
      s.only t ([sk r.sess Obj.PWR_REQ_RESULT, Obj.PWR_STATE, Obj.DEV_STATE, Obj.RSV_STATE, Obj.PWR_QUEUED] ++ (List.range 8).map Obj.PWR_SLICE_MV)) ∧
  (∀ (s : State) (p : PwrReq),
    s.pwr.step = 5 → s.pwr.suspended = true → s.pwr.newer = none → s.pwr.queue = none → s.pwr.cur = some p → p.target = 4 → p.req = none →
    ∃ t, exec .pwrDomainsDone s = .next t ∧ t.rd Obj.PWR_STATE = 4 ∧ t.rd Obj.RSV_STATE = 0 ∧ t.rd Obj.CLK_STATE = 0 ∧
      t.masterLocked = false ∧ t.pwr.low = 4 ∧ t.pwr.cold = true ∧ t.pwr.step = 0 ∧ t.rsv.mem = []) ∧
  (∀ (s : State),
    s.pwr.step = 6 → s.pwr.low = 2 → s.pwr.cold = false → s.pwr.newer = none →
    ∃ t, exec .pwrDomainsDone s = .next t ∧ t.rd Obj.PWR_RESUME_TICK = suspendTick s ∧ t.rd Obj.PWR_STATE = 5 ∧ t.pwr = { s.pwr with step := 7 } ∧
      t.rd Obj.RSV_STATE = (if s.rd Obj.RSV_PCH_FAILED = 0 then 2 else 4) ∧ (∀ j, j < 8 → 550 ≤ t.rd (Obj.PWR_SLICE_MV j) ∧ t.rd (Obj.PWR_SLICE_MV j) ≤ 800) ∧
      t.rest = { s.rest with pwr := t.pwr, rsv := t.rsv, free := s.free + 8 } ∧ t.sess = s.sess ∧ t.log = s.log ∧
      s.only t ([Obj.PWR_RESUME_TICK, Obj.PWR_STATE, Obj.RSV_STATE] ++ (List.range 8).map Obj.PWR_SLICE_MV)) ∧
  (∀ (s : State) (p : PwrReq),
    s.pwr.step = 7 → s.rd Obj.PWR_RESUME_TICK ≤ s.tick → s.pwr.cur = some p → p.target = 0 → s.pwr.newer = none → s.pwr.queue = none →
    ∃ t, exec .pwrResume s = .next t ∧ t.rd Obj.DEV_STATE = s.pwr.wasState ∧ t.rd Obj.PWR_STATE = 0 ∧ t.pwr.suspended = false ∧
      t.pwr.step = 0 ∧ t.pwr.low = 0 ∧ t.pwr.cur = none) ∧
  (∀ (s : State),
    2 ≤ s.rd Obj.DEV_STATE → s.rd Obj.DEV_STATE ≤ 5 → bitOf (s.rd Obj.PWR_WAKE_MASK) 0 = false ∨ s.rd Obj.PWR_STATE = 0 →
    ∃ t, exec .wakeN s = .next t ∧ t.rd Obj.PWR_WAKE_IGNORED = min (2 ^ 32 - 1) (s.rd Obj.PWR_WAKE_IGNORED + 1) ∧ t.sess = s.sess ∧
      s.keeps t [Obj.PWR_WAKE_IGNORED]) ∧
  (∀ (s : State),
    s.rd Obj.DEV_STATE = 4 → bitOf (s.rd Obj.PWR_WAKE_MASK) 0 = true → s.rd Obj.PWR_STATE = 2 → s.pwr.step = 0 → s.pwr.suspended = true →
    s.pwr.low = 2 → s.pwr.newer = none →
    ∃ t, exec .wakeN s = .next t ∧ t.rd Obj.PWR_WAKE_LAST = 1 ∧ t.rd Obj.PWR_STATE = 5 ∧ t.pwr.step = 6 ∧ t.pwr.cur = some { target := 0 } ∧
      t.rest = { s.rest with pwr := t.pwr } ∧ t.sess = s.sess ∧ t.log = s.log ∧
      s.only t [Obj.PWR_WAKE_LAST, Obj.PWR_STATE, Obj.PWR_QUEUED]) ∧
  (∀ (s : State),
    s.rd Obj.DEV_STATE = 4 → bitOf (s.rd Obj.PWR_WAKE_MASK) 2 = true → s.rd Obj.PWR_STATE = 2 → s.pwr.step = 0 → s.pwr.suspended = true →
    s.pwr.low = 2 → s.pwr.newer = none → s.rd Obj.PWR_WAKE_AT ≠ 0 → s.rd Obj.PWR_WAKE_AT ≠ s.pwr.timed → s.rd Obj.PWR_WAKE_AT ≤ s.tick →
    ∃ t, exec .wakeTimer s = .next t ∧ t.rd Obj.PWR_WAKE_LAST = 3 ∧ t.rd Obj.PWR_STATE = 5 ∧ t.pwr.step = 6 ∧
      t.pwr.timed = s.rd Obj.PWR_WAKE_AT ∧ t.rest = { s.rest with pwr := t.pwr } ∧ t.sess = s.sess ∧ t.log = s.log ∧
      s.only t [Obj.PWR_WAKE_LAST, Obj.PWR_STATE, Obj.PWR_QUEUED]) ∧
  (∀ (s : State) (pin : Nat),
    2 ≤ s.rd Obj.DEV_STATE → s.rd Obj.DEV_STATE ≤ 5 → pin < 4 → bitOf (s.rd Obj.PWR_WAKE_MASK) 3 = true → s.rd Obj.PWR_STATE = 1 →
    s.pwr.forced = false → s.pwr.step = 3 →
    ∃ t, exec (.wakeTrigIn pin) s = .next t ∧ t.rd Obj.PWR_WAKE_LAST = 4 ∧ t.pwr = { s.pwr with wake := true } ∧
      t.rest = { s.rest with pwr := t.pwr } ∧ t.sess = s.sess ∧ t.log = s.log ∧ s.only t [Obj.PWR_WAKE_LAST]) ∧
  (∀ (s : State) (ma : Nat),
    atService s → 115000 ≤ ma → (∀ ch, ch < 4 → s.calibrating ch = false) → s.conv.skew = none →
    ∃ t, exec (.forcedDormant 1 ma) s = .next t ∧ t.rd Obj.PWR_STATE = 1 ∧ t.rd Obj.PWR_SUSPEND_TICK = suspendTick s ∧
      t.rd Obj.PWR_FORCED = min (2 ^ 32 - 1) (s.rd Obj.PWR_FORCED + 1) ∧ t.pwr.cur = some { target := 4 } ∧ t.pwr.forced = true ∧ t.pwr.step = 2 ∧
      t.log.alerts = s.log.alerts + 1 ∧ t.rest = { s.rest with pwr := t.pwr, free := t.free } ∧
      s.onlyE t [Obj.PWR_STATE, Obj.PWR_SUSPEND_TICK, Obj.PWR_FORCED, Obj.PWR_QUEUED])

/-- WATCH bursts, core voltage, temperature and supplies (R420, R421, R428, R434, R435, R446): a program's burst begins at its wake tick and is
counted, and one that falls into the previous burst is skipped; a hit is counted with its tick; a slice's voltage follows its slack in
steps of 5 mV within 550 and 800 mV; the emergency begins above 100 °C and clears when all 16 sensors read 97 °C or below; an
undervoltage shutdown and a thermal trip are supply resets. -/
def Obligations.WatchAndSupplies : Prop :=
  (∀ (s : State) (w : Nat),
    s.Sized → w < 4 → s.rd Obj.PWR_STATE = 3 → (s.program w).on = true → (s.program w).next ≤ s.tick → (s.program w).burst = none → 1 ≤ (s.program w).period →
    ∃ t, exec (.watchBurstStart w) s = .next t ∧ (t.program w).burst = some (s.program w).next ∧
      (t.program w).next = (s.program w).next + (s.program w).period ∧
      t.rd (Obj.PWR_W_BURSTS w) = (s.rd (Obj.PWR_W_BURSTS w) + 1) % 2 ^ 64 ∧ (∀ v, v ≠ w → t.program v = s.program v) ∧
      t.rest = { s.rest with pwr := t.pwr } ∧ t.sess = s.sess ∧ t.log = s.log ∧ s.only t [Obj.PWR_W_BURSTS w]) ∧
  (∀ (s : State) (w : Nat),
    s.Sized → w < 4 → s.rd Obj.PWR_STATE = 3 → (s.program w).on = true → (s.program w).next ≤ s.tick → (s.program w).burst ≠ none → 1 ≤ (s.program w).period →
    ∃ t, exec (.watchBurstStart w) s = .next t ∧ t.program w = { s.program w with next := (s.program w).next + (s.program w).period } ∧
      t.rd (Obj.PWR_W_SKIP w) = min (2 ^ 32 - 1) (s.rd (Obj.PWR_W_SKIP w) + 1) ∧ t.rest = { s.rest with pwr := t.pwr } ∧ t.sess = s.sess ∧
      t.log = s.log ∧ s.only t [Obj.PWR_W_SKIP w]) ∧
  (∀ (s : State) (w b : Nat),
    s.Sized → w < 4 → (s.program w).burst = some b → b + 320000 ≤ s.tick → s.pwr.hitAt ≠ some b →
    ∃ t, exec (.watchBurstEnd w none) s = .next t ∧ t.program w = { s.program w with burst := none } ∧ t.rest = { s.rest with pwr := t.pwr } ∧
      t.obj = s.obj ∧ t.sess = s.sess ∧ t.log = s.log) ∧
  (∀ (s : State) (w b : Nat) (h : Nat × Nat),
    s.Sized → w < 4 → (s.program w).burst = some b → b + 320000 ≤ s.tick → (∃ v, v < 4 ∧ v ≠ w ∧ (s.program v).burst = some b) →
    ∃ t, exec (.watchBurstEnd w (some h)) s = .next t ∧ t.program w = { s.program w with burst := none } ∧ t.pwr.hitAt = some b ∧
      t.rd (Obj.PWR_W_HITS w) = min (2 ^ 32 - 1) (s.rd (Obj.PWR_W_HITS w) + 1) ∧ t.rd (Obj.PWR_W_LAST w) = h.1 ∧
      t.rest = { s.rest with pwr := t.pwr, free := s.free + 1 } ∧ s.onlyE t [Obj.PWR_W_HITS w, Obj.PWR_W_LAST w]) ∧
  (∀ (s : State) (j slack : Nat) (above8 : Bool) (ma : Nat),
    j < 8 → 550 ≤ s.rd (Obj.PWR_SLICE_MV j) → s.rd (Obj.PWR_SLICE_MV j) ≤ 800 →
    ∃ t, exec (.coreVoltageAdjust j slack above8 ma) s = .next t ∧ t.rd Obj.PWR_IIN_MA = ma ∧
      (100 * slack < 4 * 65536 → ma < 98000 → s.rd Obj.PWR_THERM_EMERG ≠ 1 →
        t.rd (Obj.PWR_SLICE_MV j) = min 800 (s.rd (Obj.PWR_SLICE_MV j) + 5)) ∧
      (100 * slack < 4 * 65536 → 98000 ≤ ma ∨ s.rd Obj.PWR_THERM_EMERG = 1 → t.rd (Obj.PWR_SLICE_MV j) = s.rd (Obj.PWR_SLICE_MV j)) ∧
      (4 * 65536 ≤ 100 * slack → above8 = true → t.rd (Obj.PWR_SLICE_MV j) = max 550 (s.rd (Obj.PWR_SLICE_MV j) - 5)) ∧
      (4 * 65536 ≤ 100 * slack → above8 = false → t.rd (Obj.PWR_SLICE_MV j) = s.rd (Obj.PWR_SLICE_MV j)) ∧
      t.rest = { s.rest with shed := t.shed } ∧ t.sess = s.sess ∧ t.log = s.log ∧ s.only t [Obj.PWR_SLICE_MV j, Obj.PWR_IIN_MA]) ∧
  (∀ (s : State) (j : Nat) (temp : Int),
    j < 16 → 25600 < temp → temp < 2 ^ 35 → s.rd Obj.PWR_THERM_EMERG ≠ 1 → s.rd Obj.DEV_STATE ≠ 0 →
    ∃ t, exec (.thermEmergBegin j temp) s = .next t ∧ t.rd Obj.PWR_THERM_EMERG = 1 ∧ t.rdI (Obj.DEV_TJ_SENSOR j) = temp ∧
      t.rd Obj.PWR_THERM_COUNT = min (2 ^ 32 - 1) (s.rd Obj.PWR_THERM_COUNT + 1) ∧ t.pwr = { s.pwr with emergAt := some s.wall } ∧
      t.log.alerts = s.log.alerts + 1 ∧ t.rest = { s.rest with pwr := t.pwr, shed := t.shed } ∧
      s.onlyE t ([Obj.PWR_THERM_EMERG, Obj.DEV_TJ_SENSOR j, Obj.PWR_TJ, Obj.PWR_THERM_COUNT] ++ (List.range 4).map Obj.CONV_CAL_ADVISED)) ∧
  (∀ (s : State) (temps : List Int),
    s.rd Obj.PWR_THERM_EMERG = 1 → temps.length = 16 → (∀ x ∈ temps, x ≤ 24832) → (∀ x ∈ temps, -(2 ^ 35) ≤ x) →
    ∃ t, exec (.thermEmergClear temps) s = .next t ∧ t.rd Obj.PWR_THERM_EMERG = 0 ∧
      (∀ j, j < 16 → t.rdI (Obj.DEV_TJ_SENSOR j) = temps.getD j 0) ∧ t.pwr = { s.pwr with emergAt := none } ∧
      t.rest = { s.rest with pwr := t.pwr, shed := t.shed } ∧ t.sess = s.sess ∧ t.log.alerts = s.log.alerts ∧
      s.onlyE t ([Obj.PWR_THERM_EMERG, Obj.PWR_TJ] ++ (List.range 16).map Obj.DEV_TJ_SENSOR ++ (List.range 4).map Obj.CONV_CAL_ADVISED)) ∧
  (∀ (s : State),
    s.start.pvin = true →
    ∃ t, exec .undervoltageShutdown s = .next t ∧ wasReset s t 1 1 ∧ t.start.pvin = false ∧ t.start.pwrgd = false ∧ t.start.under = true) ∧
  (∀ (s : State),
    s.start.pvin = true →
    ∃ t, exec .thermalTrip s = .next t ∧ wasReset s t 1 2 ∧ t.start.pvin = false ∧ t.start.pwrgd = false ∧ t.rd Obj.DEV_STATE = 0)

/-- The supplies and RESET_N (R418, R421, R437, R438, R446, R447): VAUX, then PVIN, then the rails take the start to P2, or to loader service where a
journal is open; RESET_N low holds P1 or, from P2 on, resets the engine, and its rise goes on; the loss of VAUX is a cold reset; the
host, the bus and the watchdog reset the engine. -/
def Obligations.SuppliesAndResets : Prop :=
  (∀ (s : State),
    s.start.vaux = false →
    ∃ t, exec .vauxValid s = .next t ∧ t.start = { s.start with vaux := true, begun := s.wall } ∧ t.rd Obj.DEV_RESET_KIND = 0 ∧
      t.rd Obj.DEV_RESET_CAUSE = 0 ∧ t.rd Obj.DEV_START_STEP = 0 ∧ t.rest = { s.rest with start := t.start } ∧ t.sess = s.sess ∧ t.log = s.log ∧
      s.only t [Obj.DEV_RESET_KIND, Obj.DEV_RESET_CAUSE, Obj.DEV_START_STEP]) ∧
  (∀ (s : State) (a : Nat) (tj : Int),
    s.start.vaux = true → s.start.pvin = false → s.start.kind ≠ 1 ∨ tj ≤ 25600 → s.start.resetLow = false →
    ∃ t, exec (.pvinValid a tj) s = .next t ∧ t.start = { s.start with pvin := true, upSince := some s.wall, begun := s.wall } ∧
      t.i3c = { s.i3c with addrSel := a % 4 } ∧ t.rd Obj.DEV_START_STEP = 1 ∧ t.rest = { s.rest with start := t.start, i3c := t.i3c } ∧
      t.sess = s.sess ∧ t.log = s.log ∧ s.only t [Obj.DEV_START_STEP]) ∧
  (∀ (s : State) (a : Nat) (tj : Int),
    s.start.kind = 1 → 25600 < tj →
    ∃ t, exec (.pvinValid a tj) s = .next t ∧ t = s) ∧
  (∀ (s : State),
    s.start.vaux = true → s.start.pvin = true → s.start.resetLow = false → s.start.pwrgd = false → s.rd Obj.DEV_START_STEP = 1 →
    s.upd.journal = none → s.upd.failed = false →
    ∃ t, exec .railsInRegulation s = .next t ∧ t.start = { s.start with pwrgd := true } ∧ t.rd Obj.DEV_START_STEP = 2 ∧
      (∀ j, j < 8 → 550 ≤ t.rd (Obj.PWR_SLICE_MV j) ∧ t.rd (Obj.PWR_SLICE_MV j) ≤ 800) ∧
      t.rest = { s.rest with start := t.start, free := s.free + 8 } ∧ t.sess = s.sess ∧ t.log = s.log ∧
      s.only t (Obj.DEV_START_STEP :: (List.range 8).map Obj.PWR_SLICE_MV)) ∧
  (∀ (s : State),
    s.start.vaux = true → s.start.pvin = true → s.start.resetLow = false → s.start.pwrgd = false → s.rd Obj.DEV_START_STEP = 1 →
    s.upd.journal ≠ none → (∀ p ∈ s.mram, p.1 ∉ startKeys) →
    ∃ t, exec .railsInRegulation s = .next t ∧ t.start.pwrgd = true ∧ t.rd Obj.DEV_STATE = 6 ∧ t.rd Obj.UPD_STATE = 7 ∧
      t.rd Obj.UPD_LAST_FAIL = 5 ∧ t.upd = s.upd) ∧
  (∀ (s : State),
    s.start.resetLow = false → s.start.pwrgd = true →
    ∃ t, exec .resetNFall s = .next t ∧ wasReset s t 2 3 ∧ t.start.resetLow = true ∧ t.start.pwrgd = true ∧ t.rd Obj.DEV_STATE = 0) ∧
  (∀ (s : State),
    s.start.resetLow = false → s.start.pwrgd = false →
    ∃ t, exec .resetNFall s = .next t ∧ t.start = { s.start with resetLow := true } ∧ t.rest = { s.rest with start := t.start } ∧
      t.obj = s.obj ∧ t.sess = s.sess ∧ t.log = s.log) ∧
  (∀ (s : State) (a : Nat),
    s.start.resetLow = true → s.start.pwrgd = true → s.upd.journal = none → s.upd.failed = false →
    ∃ t, exec (.resetNRise a) s = .next t ∧ t.start = { s.start with resetLow := false, begun := s.wall } ∧ t.rd Obj.DEV_START_STEP = 2 ∧
      t.i3c = { s.i3c with addrSel := a % 4 } ∧ t.rest = { s.rest with start := t.start, i3c := t.i3c, free := s.free + 8 } ∧
      t.sess = s.sess ∧ t.log = s.log ∧ s.only t (Obj.DEV_START_STEP :: (List.range 8).map Obj.PWR_SLICE_MV)) ∧
  (∀ (s : State),
    s.start.vaux = true →
    ∃ t, exec .vauxLoss s = .next t ∧ wasReset s t 0 0 ∧ t.start.vaux = false ∧ t.start.pvin = false ∧ t.start.pwrgd = false ∧
      t.rd Obj.DEV_STATE = 0 ∧ t.rd Obj.DEV_I3C_ADDR = State.reset.rd Obj.DEV_I3C_ADDR) ∧
  (∀ (s : State) (sess tag : Nat),
    s.serves sess tag Obj.DIAG_RESET 1 = true → s.upd.journal = none → s.upd.failed = false →
    ∃ t, exec (.diagReset sess tag 1) s = .next t ∧ wasReset s t 2 5 ∧ t.rd Obj.DEV_STATE = 0 ∧ t.rd Obj.DEV_START_STEP = 2) ∧
  (∀ (s : State),
    s.rd Obj.DEV_STATE ≠ 0 → s.upd.journal = none → s.upd.failed = false →
    ∃ t, exec .rstactEngine s = .next t ∧ wasReset s t 2 4 ∧ t.rd Obj.DEV_STATE = 0 ∧ t.rd Obj.DEV_START_STEP = 2 ∧
      t.rd Obj.DEV_I3C_ADDR = s.rd Obj.DEV_I3C_ADDR) ∧
  (∀ (s : State),
    s.start.loaded = true → s.start.resetLow = false → s.rd Obj.UPD_PROBATION ≠ 1 → s.start.readyAt ≠ none → s.upd.journal = none →
    s.upd.failed = false →
    ∃ t, exec .watchdog s = .next t ∧ wasReset s t 2 6 ∧ t.rd Obj.DEV_STATE = 0 ∧ t.rd Obj.DEV_START_STEP = 2 ∧ t.upd.dogs = 0) ∧
  (∀ (s : State),
    s.start.loaded = true → s.start.resetLow = false → s.rd Obj.UPD_PROBATION = 1 → s.upd.journal = none → (∀ p ∈ s.mram, p.1 ∉ startKeys) →
    ∃ t, exec .watchdog s = .next t ∧ wasReset s t 2 6 ∧ t.upd.failed = true ∧ t.rd Obj.DEV_STATE = 6 ∧ t.rd Obj.UPD_LAST_FAIL = 1)

/-- The start from P3 to READY (R437, R438, R440 to R443): an image that loads takes it to P3 and one that does not to loader service; the
control set is served in P4, or retried after 10 s; self-test fences the slices that failed and P6 begins; training ends in READY, or in
MINIMUM where a member of the measuring set is missing; a start longer than 4 s is reported. -/
def Obligations.StartSequence : Prop :=
  (∀ (s : State),
    s.start.pwrgd = true → s.start.resetLow = false → s.start.loaded = false → s.rd Obj.DEV_STATE = 0 → s.rd Obj.DEV_START_STEP = 2 →
    s.start.retries ≤ 3 → s.start.retryAt ≤ s.wall → s.upd.inForce = none →
    ∃ t, exec (.imageLoaded true) s = .next t ∧ t.start = { s.start with loaded := true } ∧ t.rd Obj.DEV_START_STEP = 3 ∧
      t.rest = { s.rest with start := t.start } ∧ t.sess = s.sess ∧ t.log = s.log ∧ s.only t [Obj.DEV_START_STEP]) ∧
  (∀ (s : State),
    s.start.pwrgd = true → s.start.resetLow = false → s.start.loaded = false → s.rd Obj.DEV_STATE = 0 → s.rd Obj.DEV_START_STEP = 2 →
    s.start.retries ≤ 3 → s.start.retryAt ≤ s.wall → (∀ p ∈ s.mram, p.1 ∉ startKeys) →
    ∃ t, exec (.imageLoaded false) s = .next t ∧ t.rd Obj.DEV_STATE = 6 ∧ t.rd Obj.UPD_STATE = 7 ∧ t.rd Obj.UPD_LAST_FAIL = 6 ∧
      t.rd Obj.DEV_START_STEP = 2 ∧ t.start.loaded = false ∧ t.upd = s.upd) ∧
  (∀ (s : State),
    s.start.loaded = true → s.start.resetLow = false → s.rd Obj.DEV_START_STEP = 3 → s.rd Obj.UPD_PROBATION ≠ 1 → s.storedClock = [] →
    ∃ t, exec (.controlSetReady true) s = .next t ∧ t.rd Obj.DEV_STATE = 1 ∧ t.rd Obj.DEV_START_STEP = 4 ∧ t.rd Obj.CLK_STATE = 1 ∧
      t.rd Obj.UPD_STATE = 0 ∧ t.rd Obj.DEV_START_COUNT = min (2 ^ 32 - 1) (s.rd Obj.DEV_START_COUNT + 1) ∧ t.start.setAt = s.wall ∧
      t.start.alertHeld = false ∧ t.rest = { s.rest with start := t.start, clk := t.clk } ∧
      s.onlyE t [Obj.DEV_STATE, Obj.DEV_START_STEP, Obj.CLK_STATE, Obj.DEV_THERM_DIODE, Obj.UPD_STATE, Obj.DEV_START_COUNT]) ∧
  (∀ (s : State) (v : Nat),
    s.start.loaded = true → s.start.resetLow = false → s.rd Obj.DEV_START_STEP = 3 → s.storedClock = [(Obj.CLK_REF_SEL, v + 1)] →
    ∃ t, exec (.controlSetReady true) s = .next t ∧ t.rd Obj.CLK_REF_SEL = v ∧ t.rd Obj.DEV_STATE = 1 ∧ t.mram = s.mram) ∧
  (∀ (s : State),
    s.start.loaded = true → s.start.resetLow = false → s.rd Obj.DEV_START_STEP = 3 →
    ∃ t, exec (.controlSetReady false) s = .next t ∧
      t.start = { s.start with loaded := false, alertHeld := true, retries := s.start.retries + 1, retryAt := s.wall + 10 * tps } ∧
      t.rd Obj.DEV_START_STEP = 2 ∧ t.rest = { s.rest with start := t.start } ∧ t.sess = s.sess ∧ t.log = s.log ∧
      s.only t [Obj.DEV_START_STEP]) ∧
  (∀ (s : State) (slices : List Nat) (remap : Nat),
    s.rd Obj.DEV_STATE = 1 → s.start.tested = false → s.rd Obj.CLK_STATE = 2 → s.stored Obj.CONV_CAL_AT_START ≠ 1 → remap ≤ 12288 →
    ∃ t, exec (.selfTestEnd slices [] [] [] false false false [] remap 0) s = .next t ∧
      (∀ j, j < 8 → bitOf (t.rd Obj.DIAG_FENCE_SLICES) j = (bitOf (s.rd Obj.DIAG_FENCE_SLICES) j || slices.contains j)) ∧
      t.rd Obj.DEV_SLICES_IN_SERVICE = 8 - (bitList (t.rd Obj.DIAG_FENCE_SLICES) 8).length ∧
      t.rd Obj.DET_STORE_CAP = min 8388608 (1198373 * t.rd Obj.DEV_SLICES_IN_SERVICE) ∧ t.rd Obj.DIAG_SRAM_REMAP = remap ∧
      t.rd Obj.RSV_STATE = 1 ∧ t.rd Obj.DEV_START_STEP = 6 ∧ t.start.tested = true ∧ t.rd Obj.DEV_STATE = 1) ∧
  (∀ (s : State),
    s.Sized → s.rd Obj.DEV_STATE = 1 → s.start.tested = true → s.rsv.trained = true → (∀ ch, ch < 4 → s.calibrating ch = false) → s.mram = [] →
    s.upd.fresh = false → s.missing = 0 → s.start.noSet = false → s.rd Obj.TWIN_ENABLE = 0 →
    ∃ t, exec (.ready []) s = .next t ∧ t.rd Obj.DEV_STATE = 2 ∧ t.rd Obj.DEV_START_STEP = 7 ∧ t.start = { s.start with readyAt := some s.wall } ∧
      t.upd = { s.upd with dogs := 0, starts := 0 } ∧ t.rd Obj.DEV_READY_MS = min (2 ^ 32 - 1) ((s.wall - s.start.begun) / tpms) ∧
      (∀ ch, ch < 4 → t.chan ch = { s.chan ch with
        shift := (pathSplit (s.rd (Obj.CONV_PATH_DELAY ch))).1, trim := (pathSplit (s.rd (Obj.CONV_PATH_DELAY ch))).2 }) ∧
      t.rest = { s.rest with start := t.start, upd := t.upd, chans := t.chans } ∧ t.log.alerts = s.log.alerts ∧
      s.onlyE t [Obj.DEV_STATE, Obj.DEV_START_STEP, Obj.DEV_READY_MS, Obj.CLK_OUT_HZ]) ∧
  (∀ (s : State),
    s.rd Obj.DEV_STATE = 1 → s.start.tested = true → s.rsv.trained = true → (∀ ch, ch < 4 → s.calibrating ch = false) → s.mram = [] →
    s.upd.fresh = false → s.rd Obj.CLK_STATE = 7 →
    ∃ t, exec (.ready []) s = .next t ∧ t.rd Obj.DEV_STATE = 5 ∧ t.rd Obj.DEV_START_STEP = 7 ∧ t.log.alerts = s.log.alerts + 1) ∧
  (∀ (s : State),
    s.start.slow = false → s.rd Obj.DEV_STATE ≤ 1 → s.start.pwrgd = true → s.start.resetLow = false → s.start.begun + 4 * tps ≤ s.wall →
    ∃ t, exec .startSlow s = .next t ∧ t.start = { s.start with slow := true } ∧ t.log.alerts = s.log.alerts + 1 ∧
      t.rest = { s.rest with start := t.start } ∧ s.onlyE t [])

/-- Fencing in service, alerts, log snapshots and the tick index limit (R444, R451, R452, R455): a token check failure is logged and counted; a
slice without a handshake is fenced, and the slices in service follow; an acknowledgement clears the pending alert raised before it; new
log entries are copied to MRAM; at the limit the committed output is disabled by an engine Joint. -/
def Obligations.FencingAndLog : Prop :=
  (∀ (s : State) (j src seq : Nat),
    j < 8 → bitOf (s.rd Obj.DIAG_FENCE_SLICES) j = false → s.rd Obj.DEV_STATE ≠ 0 → s.start.tokens.length = 8 →
    ∃ t, exec (.tokenCheckFailure j src seq) s = .next t ∧ (t.tokenTimes j).length = (s.tokenTimes j).length + 1 ∧
      (∀ i, i ≠ j → t.tokenTimes i = s.tokenTimes i) ∧ t.log.alerts = s.log.alerts ∧
      (((s.log.rateOf 0x0019).times.filter fun x => Nat.blt s.wall (x + tps)).length < 10 → t.log.next = s.log.next + 1) ∧
      t.rest = { s.rest with start := t.start } ∧ s.onlyE t []) ∧
  (∀ (s : State) (j : Nat),
    j < 8 → bitOf (s.rd Obj.DIAG_FENCE_SLICES) j = false → s.start.tested = true → s.wall < s.shed.nextStep → s.paired = false →
    ∃ t, exec (.sliceFail j true) s = .next t ∧ bitOf (t.rd Obj.DIAG_FENCE_SLICES) j = true ∧
      (∀ i, i ≠ j → bitOf (t.rd Obj.DIAG_FENCE_SLICES) i = bitOf (s.rd Obj.DIAG_FENCE_SLICES) i) ∧
      t.rd Obj.DEV_SLICES_IN_SERVICE = 8 - (bitList (t.rd Obj.DIAG_FENCE_SLICES) 8).length ∧ t.log.alerts = s.log.alerts + 1 ∧
      t.rest = { s.rest with dets := t.dets, free := t.free } ∧
      s.onlyE t [Obj.DIAG_FENCE_SLICES, Obj.DEV_SLICES_IN_SERVICE, Obj.DET_STORE_CAP, Obj.DEV_FLOOR_BFLY, Obj.DEV_FLOOR_CELL, Obj.DEV_FLOOR_RSV,
        Obj.DEV_FLOOR_PORT, Obj.DEV_FLOOR_POOL]) ∧
  (∀ (s : State) (sess tag : Nat),
    s.serves sess tag Obj.DIAG_ALERT_ACK 1 = true → s.log.alertAt < s.wall →
    ∃ t, exec (.diagAlertAck sess tag 1) s = .next t ∧ s.replied t sess tag Obj.DIAG_ALERT_ACK .ok ∧ t.rd Obj.DIAG_ALERT_PENDING = 0 ∧
      s.keeps t [Obj.DIAG_ALERT_PENDING]) ∧
  (∀ (s : State) (e : LogEntry) (l : List LogEntry),
    s.rd Obj.DEV_STATE ≠ 0 → s.log.ring = e :: l → s.log.lastSnap < e.seq → (∀ x ∈ l, x.seq ≤ s.log.lastSnap) → s.log.due = true →
    s.snapAllowed = true →
    ∃ t, exec .logSnapshot s = .next t ∧ t.log.snap = (e :: s.log.snap).take 4096 ∧ t.log.lastSnap = e.seq ∧ t.log.due = false ∧
      t.log.ring = s.log.ring ∧ t.rd Obj.DIAG_LOG_SNAP_LAST = e.seq ∧
      t.rd Obj.DIAG_LOG_SNAPS = min (2 ^ 32 - 1) (s.rd Obj.DIAG_LOG_SNAPS + 1) ∧ t.rest = s.rest ∧ t.sess = s.sess ∧
      s.only t [Obj.DIAG_LOG_SNAPS, Obj.DIAG_LOG_SNAP_LAST]) ∧
  (∀ (s : State),
    2 ^ 64 - 2 ^ 36 ≤ s.tick → s.rdc Obj.SCAN_ENABLE = 1 → s.committedUnits = [] → s.holder ⟨.global, Obj.SCAN_ENABLE⟩ = none →
    ∃ t, exec .tickLimitJoint s = .next t ∧ t.rdc Obj.SCAN_ENABLE = 0 ∧ t.rd Obj.SCAN_ENABLE = s.rd Obj.SCAN_ENABLE ∧
      (∃ w, t.swaps = s.swaps ++ [w] ∧ w.cause = some 3 ∧ w.vals = [(Obj.SCAN_ENABLE, 0)] ∧ w.reqTick = s.tick) ∧ t.swapId = s.swapId + 1 ∧
      t.sess = s.sess ∧ t.log = s.log)

/-- A refused commit (R24, R450): a commit that validation or admission refuses answers REFUSED_COMMIT with the reason and the object; it changes
no committed configuration and no output, and what is staged stays staged. -/
def Obligations.RefusedCommits : Prop :=
  (∀ (s : State) (w : Swap) (v : Refused),
    s.Sized → s.swaps = [w] → s.live w.req = true → w.req.sess = w.sess → w.sess < 8 → w.validating = true → s.verdict w = some v →
    (s.ses w.sess).deferred = [] → (s.ses w.sess).mirror = false →
    ∃ t, exec (.commitValidated w.sess) s = .next t ∧ t.rd (sk w.sess Obj.DEV_COMMIT_STATE) = 4 ∧
      t.rd (sk w.sess Obj.DEV_COMMIT_REASON) = v.reason ∧ t.rd (sk w.sess Obj.DEV_COMMIT_OBJECT) = v.obj ∧
      t.rd (sk w.sess Obj.DEV_ADMIT_RESULT) = 2 ∧ (t.ses w.sess).txq = (s.ses w.sess).txq ++ [reply w.req.tag w.req.key .refusedCommit] ∧
      t.swaps = [] ∧ t.com = s.com ∧ t.staged = s.staged ∧ t.rest = { s.rest with swaps := [] } ∧
      s.onlyE t
        [sk w.sess Obj.DEV_COMMIT_STATE, sk w.sess Obj.DEV_COMMIT_REASON, sk w.sess Obj.DEV_COMMIT_OBJECT, sk w.sess Obj.DEV_COMMIT_QUOTA,
        sk w.sess Obj.DEV_LOAD_STG_BFLY, sk w.sess Obj.DEV_LOAD_STG_CELL, sk w.sess Obj.DEV_LOAD_STG_RSV, sk w.sess Obj.DEV_LOAD_STG_PORT,
        sk w.sess Obj.DEV_LOAD_STG_POOL, sk w.sess Obj.DET_STORE_USED, sk w.sess Obj.DEV_ADMIT_RESULT, sk w.sess Obj.DEV_ADMIT_RESOURCE, sk w.sess Obj.DEV_ADMIT_OBJECT,
        sk w.sess Obj.DEV_ADMIT_EXCESS, sk w.sess Obj.DEV_ADMIT_PORT, sk w.sess Obj.DEV_SCOPE_BUSY, sk w.sess Obj.DEV_DEFERRED])

/-- Commits (R23, R349 to R355, R386): a commit takes a snapshot of its scope and is ACCEPTED; one that every check passes is committed, leaves staging and is
answered OK, and its requested tick lies at least 100 µs ahead; a validation reports and changes nothing else; a discard empties the scope's staging; a swap whose every change has
applied is complete; and with a standby the OK waits for its receipt, at most 1 ms. -/
def Obligations.Commits : Prop :=
  (∀ (s : State) (sess tag g : Nat),
    s.serves sess tag Obj.DEV_COMMIT 1 = true → s.commitClosed = false → s.validating sess = false → s.scopeOf sess = g → bitOf g 9 = false →
    Nat.land g (s.busyGroups sess) = 0 →
    ∃ t, exec (.devCommit sess tag) s = .next t ∧ s.pended t sess tag Obj.DEV_COMMIT ∧ t.rd (sk sess Obj.DEV_COMMIT_STATE) = 1 ∧
      t.rd (sk sess Obj.DEV_COMMIT_SEQ) = s.commits % 2 ^ 32 ∧ t.rd (sk sess Obj.DEV_JOINT_SERVED) = s.tick ∧
      t.rd (sk sess Obj.DEV_SCOPE_BUSY) = t.busyGroups sess ∧
      (∃ w, t.swaps = s.swaps ++ [w] ∧ w.req = s.req sess tag Obj.DEV_COMMIT ∧ w.sess = sess ∧ w.validating = true ∧ w.groups = g ∧
        w.served = s.tick ∧ w.reqTick = s.rd (sk sess Obj.DEV_JOINT_AT) ∧ w.seq = s.commits % 2 ^ 32 ∧
        w.vals = (s.stagedOf sess).filter fun p => bitOf g (groupOf p.1) && (loadOf p.1).isNone) ∧
      t.rest = { s.rest with swaps := t.swaps, swapId := s.swapId + 1, commits := s.commits + 1 } ∧ t.log = s.log ∧
      s.only t [sk sess Obj.DEV_COMMIT_STATE, sk sess Obj.DEV_COMMIT_SEQ, sk sess Obj.DEV_JOINT_SERVED, sk sess Obj.DEV_SCOPE_BUSY]) ∧
  (∀ (s : State) (sess tag : Nat),
    s.serves sess tag Obj.DEV_COMMIT 1 = true → s.rd Obj.DEV_STATE ≠ 2 → s.rd Obj.DEV_STATE ≠ 3 →
    ∃ t, exec (.devCommit sess tag) s = .next t ∧ s.replied t sess tag Obj.DEV_COMMIT .busy ∧ s.keeps t []) ∧
  (∀ (s : State) (w : Swap) (k v : Nat),
    s.Sized → s.swaps = [w] → s.live w.req = true → w.req.sess = w.sess → w.sess < 8 → w.validating = true → w.cause = none → w.tables = [] →
    w.vals = [(k, v)] → bitOf w.groups 9 = false → s.hasStandby = false → s.verdict w = none →
    ∃ t, exec (.commitValidated w.sess) s = .next t ∧ finished s t w.req .ok ∧ t.rdc k = v ∧ (∀ j, j ≠ k → t.rdc j = s.rdc j) ∧
      (t.stagedOf w.sess).all (fun p => p.1 != k) = true ∧ t.rd (sk w.sess Obj.DEV_COMMIT_STATE) = 2 ∧
      t.rd (sk w.sess Obj.DEV_JOINT_REQ) = max w.reqTick (s.tick + 3200000) ∧ t.rd (sk w.sess Obj.DEV_COMMIT_REASON) = 0 ∧
      t.rd (sk w.sess Obj.DEV_ADMIT_RESULT) = 1 ∧
      (∃ x, t.swaps = [x] ∧ x.validating = false ∧ x.reqTick = max w.reqTick (s.tick + 3200000) ∧ x.vals = w.vals ∧ x.receipt = none) ∧
      t.log = s.log) ∧
  (∀ (s : State) (sess tag : Nat),
    s.serves sess tag Obj.DEV_COMMIT 2 = true → s.commitClosed = false → s.validating sess = false →
    Nat.land (s.scopeOf sess) (s.busyGroups sess) = 0 →
    ∃ t, exec (.devCommitValidate sess tag) s = .next t ∧
      (∀ h w v, h = s.updSes sess (fun x => { x with heard := s.wall }) → w = h.snapshot (s.req sess tag Obj.DEV_COMMIT) (s.scopeOf sess) →
        h.verdict w = v →
        t.ses sess = { s.ses sess with
          heard := s.wall, checked := w.vals
          txq := (s.ses sess).txq ++ [reply tag Obj.DEV_COMMIT (if v.isSome then .refusedCommit else .ok)] } ∧
        (∀ i, i ≠ sess → t.ses i = s.ses i) ∧
        t.rd (sk sess Obj.DEV_COMMIT_REASON) = (v.map Refused.reason).getD 0 ∧ t.rd (sk sess Obj.DEV_COMMIT_OBJECT) = (v.map Refused.obj).getD 0) ∧
      s.keeps t [sk sess Obj.DEV_COMMIT_REASON, sk sess Obj.DEV_COMMIT_OBJECT, sk sess Obj.DEV_COMMIT_QUOTA, sk sess Obj.DEV_LOAD_STG_BFLY,
        sk sess Obj.DEV_LOAD_STG_CELL, sk sess Obj.DEV_LOAD_STG_RSV, sk sess Obj.DEV_LOAD_STG_PORT, sk sess Obj.DEV_LOAD_STG_POOL,
        sk sess Obj.DET_STORE_USED]) ∧
  (∀ (s : State) (sess tag : Nat),
    s.serves sess tag Obj.DEV_COMMIT 3 = true → s.commitClosed = false → s.validating sess = false →
    Nat.land (s.scopeOf sess) (s.busyGroups sess) = 0 →
    ∃ t, exec (.devCommitDiscard sess tag) s = .next t ∧ s.told t sess tag Obj.DEV_COMMIT .ok ∧
      t.stagedOf sess = (s.stagedOf sess).filter (fun p => !bitOf (s.scopeOf sess) (groupOf p.1)) ∧
      t.com = s.com ∧ t.swaps = s.swaps ∧ t.log = s.log) ∧
  (∀ (s : State) (w : Swap),
    s.Sized → s.swaps = [w] → w.sess < 8 → (s.ses w.sess).isOpen = true → (s.ses w.sess).inc = w.req.inc → w.validating = false → w.units = [] →
    w.cause = none → w.receipt = none → (s.ses w.sess).deferred = [] →
    ∃ t, exec (.swapComplete w.sess) s = .next t ∧ t.rd (sk w.sess Obj.DEV_COMMIT_STATE) = 3 ∧ t.rd (sk w.sess Obj.DEV_SCOPE_BUSY) = 0 ∧
      t.swaps = [] ∧ t.rest = { s.rest with swaps := [] } ∧ t.log = s.log ∧
      s.only t [sk w.sess Obj.DEV_COMMIT_STATE, sk w.sess Obj.DEV_SCOPE_BUSY, sk w.sess Obj.DEV_DEFERRED, sk w.sess Obj.DEV_NOTIFY_LOST]) ∧
  (∀ (s : State) (w : Swap),
    s.Sized → s.swaps = [w] → w.sess < 8 → (s.ses w.sess).isOpen = false → w.validating = false → w.units = [] → w.cause = some 0 →
    w.receipt = none → w.reqTick ≤ s.tick → (∀ f, f < 249 → s.holder ⟨.flow, f⟩ ≠ some (w.sess + 8)) →
    ∃ t, exec (.sessionEndJoint w.sess) s = .next t ∧ t.rd (Obj.DEV_SESS_STATE w.sess) = 0 ∧ t.rd (Obj.DEV_SESS_ROLE w.sess) = 0 ∧
      t.rd (Obj.DEV_SESS_PORT w.sess) = 255 ∧ t.swaps = [] ∧ (t.ses w.sess).ending = false ∧
      t.rest = { s.rest with swaps := [], owners := t.owners } ∧ t.log.alerts = s.log.alerts ∧
      s.onlyE t [Obj.DEV_SESS_STATE w.sess, Obj.DEV_SESS_ROLE w.sess, Obj.DEV_SESS_PORT w.sess]) ∧
  (∀ (s : State) (w : Swap),
    s.swaps = [w] → w.receipt ≠ none →
    ∃ t, exec (.snapshotReceipt w.sess) s = .next t ∧ finished s t w.req .ok ∧ t.swaps = [{ w with receipt := none }] ∧
      t.rest = { s.rest with swaps := t.swaps } ∧ t.obj = s.obj ∧ t.log = s.log) ∧
  (∀ (s : State) (w : Swap) (a : Nat),
    s.swaps = [w] → w.receipt = some a → a + tpms ≤ s.wall →
    ∃ t, exec (.snapshotReceiptTimeout w.sess) s = .next t ∧ finished s t w.req .ok ∧ t.swaps = [{ w with receipt := none }] ∧
      t.rd Obj.TWIN_STATE = (if s.rd Obj.TWIN_STATE = 3 then 2 else s.rd Obj.TWIN_STATE) ∧ t.twin = { s.twin with peerReady := false } ∧
      t.rest = { s.rest with swaps := t.swaps, twin := t.twin } ∧ t.log = s.log ∧ s.only t [Obj.TWIN_STATE])

/-- Identity and trust (R360 to R364, R371): a word of a certificate is staged; a staged certificate that is sound is installed with its role;
the last anchor of an owned engine stays; provisioning is session 0's alone and needs an anchor; an attestation is formed for the nonce of its
session and answered when it is signed. -/
def Obligations.Trust : Prop :=
  (∀ (s : State) (sess tag slot off word : Nat),
    slot < 8 → off < 512 → word < 2 ^ 32 → s.serves sess tag Obj.SEC_ANCHOR_WRITE (slot * 2 ^ 48 + off * 2 ^ 36 + word) = true →
    ∃ t, exec (.secAnchorWrite sess tag (slot * 2 ^ 48 + off * 2 ^ 36 + word)) s = .next t ∧ s.replied t sess tag Obj.SEC_ANCHOR_WRITE .ok ∧
      t.sec = { s.sec with stage := s.sec.stage.set zeroDflt (sess * 4096 + slot * 512 + off) word } ∧ t.rest = { s.rest with sec := t.sec } ∧
      t.obj = s.obj ∧ t.log = s.log) ∧
  (∀ (s : State) (sess tag v : Nat),
    s.serves sess tag Obj.SEC_ANCHOR_WRITE v = true → 2 ^ 51 ≤ v ∨ 512 ≤ v / 2 ^ 36 % 4096 ∨ 2 ^ 32 ≤ v % 2 ^ 36 →
    ∃ t, exec (.secAnchorWrite sess tag v) s = .next t ∧ s.replied t sess tag Obj.SEC_ANCHOR_WRITE .range ∧ s.keeps t []) ∧
  (∀ (s : State) (sess tag role slot : Nat),
    s.serves sess tag Obj.SEC_ANCHOR_CMD (2 ^ 16 + role * 256 + slot) = true → role ≤ 2 → slot ≤ 7 → s.sec.lastCmd = none →
    (s.stagedCert sess slot).isEmpty = false → s.rd Obj.TWIN_STATE ≠ 7 →
    ∃ t, exec (.secAnchorInstall sess tag role slot true true true true) s = .next t ∧ s.replied t sess tag Obj.SEC_ANCHOR_CMD .ok ∧
      t.rd (Obj.SEC_ANCHOR_ROLE slot) = role ∧
      t.sec = { s.sec with certs := s.sec.certs.set slot (s.stagedCert sess slot), lastCmd := some s.wall } ∧
      t.rest = { s.rest with sec := t.sec } ∧ t.log = s.log ∧ s.only t [Obj.SEC_ANCHOR_ROLE slot]) ∧
  (∀ (s : State) (sess tag role slot : Nat) (pa p3 ca sg : Bool),
    s.serves sess tag Obj.SEC_ANCHOR_CMD (2 ^ 16 + role * 256 + slot) = true → role ≤ 2 → slot ≤ 7 → s.sec.lastCmd = none →
    (pa && p3 && ca && sg) = false →
    ∃ t, exec (.secAnchorInstall sess tag role slot pa p3 ca sg) s = .next t ∧ s.replied t sess tag Obj.SEC_ANCHOR_CMD .range ∧ s.keeps t []) ∧
  (∀ (s : State) (sess tag slot : Nat),
    s.serves sess tag Obj.SEC_ANCHOR_CMD (2 * 2 ^ 16 + slot) = true → slot ≤ 7 → s.sec.lastCmd = none → s.rd Obj.SEC_OWNER_STATE ≠ 1 →
    s.rd Obj.TWIN_STATE ≠ 7 →
    ∃ t, exec (.secAnchorRemove sess tag slot) s = .next t ∧ s.replied t sess tag Obj.SEC_ANCHOR_CMD .ok ∧
      t.rd (Obj.SEC_ANCHOR_ROLE slot) = 255 ∧ t.sec = { s.sec with certs := s.sec.certs.set slot [], lastCmd := some s.wall } ∧
      t.rest = { s.rest with sec := t.sec } ∧ t.log = s.log ∧ s.only t [Obj.SEC_ANCHOR_ROLE slot]) ∧
  (∀ (s : State) (sess tag slot : Nat),
    s.serves sess tag Obj.SEC_ANCHOR_CMD (2 * 2 ^ 16 + slot) = true → slot ≤ 7 → s.sec.lastCmd = none → s.rd Obj.SEC_OWNER_STATE = 1 →
    (∀ i, i < 8 → i ≠ slot → s.rd (Obj.SEC_ANCHOR_ROLE i) = 255) →
    ∃ t, exec (.secAnchorRemove sess tag slot) s = .next t ∧ s.replied t sess tag Obj.SEC_ANCHOR_CMD .range ∧ s.keeps t []) ∧
  (∀ (s : State) (tag i : Nat),
    s.serves 0 tag Obj.SEC_PROVISION 1 = true → i < 8 → s.rd (Obj.SEC_ANCHOR_ROLE i) ≠ 255 → s.rd Obj.TWIN_STATE ≠ 7 →
    ∃ t, exec (.secProvision 0 tag 1) s = .next t ∧ s.replied t 0 tag Obj.SEC_PROVISION .ok ∧ t.rd Obj.SEC_OWNER_STATE = 1 ∧
      t.rd Obj.SEC_TAP_LOCKED = 1 ∧ s.keeps t [Obj.SEC_OWNER_STATE, Obj.SEC_TAP_LOCKED]) ∧
  (∀ (s : State) (sess tag v : Nat),
    s.takes sess tag = true → sess ≠ 0 →
    ∃ t, exec (.secProvision sess tag v) s = .next t ∧ s.replied t sess tag Obj.SEC_PROVISION .denied ∧ s.keeps t []) ∧
  (∀ (s : State) (sess tag : Nat),
    s.serves sess tag Obj.SEC_ATTEST_CMD 1 = true → s.forming sess = none → s.upd.closed = false → s.sec.forming.length = 8 →
    ∃ t, exec (.secAttestCmd sess tag 1) s = .next t ∧ s.pended t sess tag Obj.SEC_ATTEST_CMD ∧ t.rd (sk sess Obj.SEC_ATTEST_STATE) = 1 ∧
      t.forming sess = some ⟨s.req sess tag Obj.SEC_ATTEST_CMD, s.rd (sk sess Obj.SEC_ATTEST_NONCE)⟩ ∧
      t.rest = { s.rest with sec := t.sec } ∧ t.log = s.log ∧ s.only t [sk sess Obj.SEC_ATTEST_STATE]) ∧
  (∀ (s : State) (sess : Nat) (a : Attest),
    s.forming sess = some a →
    ∃ t, exec (.attestDone sess) s = .next t ∧ finished s t a.req .ok ∧ t.rd (sk sess Obj.SEC_ATTEST_STATE) = 2 ∧ t.forming sess = none ∧
      (∀ i, i < 86 → t.rd (sk sess (Obj.SEC_ATTEST_WORD i)) = ofOctets (((s.report sess a.nonce).drop (4 * i)).take 4)) ∧
      t.rest = { s.rest with sec := t.sec } ∧ t.log = s.log ∧
      s.only t (sk sess Obj.SEC_ATTEST_STATE :: (List.range 86).map fun i => sk sess (Obj.SEC_ATTEST_WORD i)))

/-- The request checks (R338, Table 15.5): every READ and WRITE is checked in the table's order and the first check that fails gives the
answer; an object that does not exist answers NO_OBJECT once a version is agreed; a unit that another session holds answers LOCKED with the
holder in DETAIL (R342); and a command whose check fails answers just that and changes nothing else. -/
def Obligations.CheckOrder : Prop :=
  (∀ (s : State) (sess k : Nat) (r : Row) (v : Option Nat),
    findRow (k / 256) (k % 256) = some r → s.check sess k true v = firstFailing r (writeChecks s sess k r v)) ∧
  (∀ (s : State) (sess k : Nat) (r : Row),
    findRow (k / 256) (k % 256) = some r →
      s.check sess k false (some 0) = firstFailing r (readChecks s sess k true) ∧
      s.check sess k false none = firstFailing r (readChecks s sess k false)) ∧
  (∀ (s : State) (sess k : Nat) (write : Bool) (v : Option Nat),
    (s.ses sess).ver ≠ 0 → findRow (k / 256) (k % 256) = none → s.check sess k write v = .fail .noObject 0) ∧
  (∀ (s : State) (sess k : Nat) (r : Row) (v h : Nat),
    (s.ses sess).ver ≠ 0 → (s.ses sess).role ≠ 0 → k < 0x800000 → s.rd Obj.DEV_STATE ≠ 6 → s.isStandby = false → findRow (k / 256) (k % 256) = some r →
    r.acc = .sh → r.adm = false → isClaim k = false → s.holder (ownId k) = some h → h ≠ sess →
    s.check sess k true (some v) = .fail .locked (h % 8)) ∧
  (∀ (c : Instr) (s : State) (sess tag k v : Nat) (st : Status) (d : Nat),
    requestOf c = some (sess, tag, k, v) → s.takes sess tag = true → s.check sess k true (fits k v) = .fail st d →
    ∃ t, exec c s = .next t ∧ t.ses sess = { s.ses sess with heard := s.wall, txq := (s.ses sess).txq ++ [reply tag k st d] } ∧
      (∀ i, i ≠ sess → t.ses i = s.ses i) ∧ t.rest = s.rest ∧ t.obj = s.obj ∧ t.log = s.log)

/-- Requests that are not taken up (R337, R344, R347): an engine that is off or changes images, and a closed remote session, take nothing; while
session 0 is closed its host is answered VERSION; a tag that is outstanding is only counted; the 65th outstanding request is answered BUSY. -/
def Obligations.UntakenRequests : Prop :=
  (∀ (c : Instr) (s : State) (sess tag k v : Nat),
    requestOf c = some (sess, tag, k, v) →
    s.rd Obj.DEV_STATE = 0 ∨ 8 ≤ sess ∨ s.handing = true ∨ ((s.ses sess).isOpen = false ∧ sess ≠ 0) → exec c s = .next s) ∧
  (∀ (c : Instr) (s : State) (tag k v : Nat),
    requestOf c = some (0, tag, k, v) → s.Sized → s.rd Obj.DEV_STATE ≠ 0 → s.handing = false → (s.ses 0).isOpen = false → (s.ses 0).mirror = false →
    ∃ t, exec c s = .next t ∧ t.ses 0 = { s.ses 0 with txq := (s.ses 0).txq ++ [reply tag k .version] } ∧
      (∀ i, i ≠ 0 → t.ses i = s.ses i) ∧ t.rest = s.rest ∧ t.obj = s.obj ∧ t.log = s.log) ∧
  (∀ (c : Instr) (s : State) (sess tag k v : Nat),
    requestOf c = some (sess, tag, k, v) → s.Sized → sess < 8 → s.rd Obj.DEV_STATE ≠ 0 → s.handing = false → (s.ses sess).isOpen = true →
    s.tagTaken sess tag = true →
    ∃ t, exec c s = .next t ∧ t.rd (Obj.DEV_SESS_TAG_DUP sess) = min (2 ^ 32 - 1) (s.rd (Obj.DEV_SESS_TAG_DUP sess) + 1) ∧
      t.ses sess = { s.ses sess with heard := s.wall } ∧ (∀ i, i ≠ sess → t.ses i = s.ses i) ∧
      s.keeps t [Obj.DEV_SESS_TAG_DUP sess]) ∧
  (∀ (c : Instr) (s : State) (sess tag k v : Nat),
    requestOf c = some (sess, tag, k, v) → s.Sized → sess < 8 → s.rd Obj.DEV_STATE ≠ 0 → s.handing = false → (s.ses sess).isOpen = true →
    (s.ses sess).mirror = false → s.tagTaken sess tag = false → 64 ≤ s.requests sess →
    ∃ t, exec c s = .next t ∧ t.ses sess = { s.ses sess with heard := s.wall, txq := (s.ses sess).txq ++ [reply tag k .busy] } ∧
      (∀ i, i ≠ sess → t.ses i = s.ses i) ∧ t.rest = s.rest ∧ t.obj = s.obj ∧ t.log = s.log)

/-- The uncertainty bound of device time (R325): with sources 1 and 2 the pulse's own accuracy plus the latest accepted edge's error; with source
3 the magnitude of the mean offset plus half the spread of the round-trip delay, over the exchanges kept (each its wall time, its offset and its
round-trip delay in 2^−16 ns); in holdover after sources 1 and 2 the same plus PLMB_HOLD_PPB over the time since the last accepted edge; free
running, and from 2^36 − 1 fs on, all ones. A time anchor carries it and PLMB_UNCERT reads it. -/
def Obligations.UncertaintyBound : Prop :=
  (∀ (s : State),
    s.rd Obj.PLMB_TIME_STATE = 1 ∨ s.rd Obj.PLMB_TIME_STATE = 2 →
    s.uncert = min (s.rd Obj.PLMB_PPS_ACC + s.plumb.err) (2 ^ 36 - 1)) ∧
  (∀ (s : State) (hi lo : Nat),
    s.rd Obj.PLMB_TIME_STATE = 3 → (∀ o ∈ s.plumb.ptp, lo ≤ o.2.2 ∧ o.2.2 ≤ hi) → (∃ o ∈ s.plumb.ptp, o.2.2 = hi) → (∃ o ∈ s.plumb.ptp, o.2.2 = lo) →
    s.uncert = min (((s.plumb.ptp.map fun (o : Nat × Int × Nat) => o.2.1).sum.natAbs / s.plumb.ptp.length + (hi - lo) / 2) * 1000000 / 65536) (2 ^ 36 - 1)) ∧
  (∀ (s : State),
    s.rd Obj.PLMB_TIME_STATE = 4 → s.rd Obj.PLMB_TIME_SRC ≠ 3 →
    s.uncert = min (s.rd Obj.PLMB_PPS_ACC + s.plumb.err +
      (s.wall - s.plumb.goodAt) * 31250 * s.rd Obj.PLMB_HOLD_PPB / 1000000000) (2 ^ 36 - 1)) ∧
  (∀ (s : State), s.rd Obj.PLMB_TIME_STATE = 0 → s.uncert = 2 ^ 36 - 1) ∧
  (∀ (s : State), s.anchor.payload =
    Ty.time80.encode s.timeNow ++ [s.rd Obj.PLMB_TIME_STATE, s.uncert, s.rd Obj.CLK_REF_ACTIVE, s.rd Obj.PLMB_UTC_OFFSET]) ∧
  (∀ (s : State) (sess tag : Nat) (row : Row),
    s.takes sess tag = true → (s.ses sess).inbox = [] → s.i3c.inbox = [] → s.check sess Obj.PLMB_UNCERT false (some 0) = .pass row →
    ∃ t, exec (.dictRead sess tag (Obj.PLMB_UNCERT / 256) (Obj.PLMB_UNCERT % 256) 0 0) s = .next t ∧
      t.ses sess = { s.ses sess with heard := s.wall, txq := (s.ses sess).txq ++
        [{ reply tag Obj.PLMB_UNCERT .ok with words := row.ty.encode s.uncert }] } ∧
      (∀ i, i ≠ sess → t.ses i = s.ses i) ∧ t.rest = s.rest ∧ t.obj = s.obj ∧ t.log = s.log)

/-- A step takes the command at the front of the queue and answers what the command answers on the machine with the queue's rest (this
model's shape of a block); with no command waiting one converter period passes: the wall time goes on, and the tick index while it counts
(R47; the model's choice, log entry 15). -/
def Obligations.StepTakesTheFront : Prop :=
  (∀ (c : Instr) (l : List Instr) (s : State), s.pending = c :: l → step s = exec c { s with pending := l }) ∧
  (∀ (s : State), s.Sized → s.pending = [] → (∀ ch, ch < 4 → (s.chan ch).fill = 0) →
    ∃ t, step s = .next t ∧ t.wall = s.wall + 1 ∧ t.tick = (if s.conv.counts then s.tick + 1 else s.tick) ∧ t.sess = s.sess ∧
      t.pending = [] ∧
      t.rest = { s.rest with wall := s.wall + 1, tick := t.tick, shed := t.shed } ∧ t.obj = s.obj ∧ t.log = s.log)

/-- Every command runs to a next state, for every operand and in every state: none faults and none is refused. It leaves the queue and
the wall time alone (commands take no time: the model's choice, log entry 15). -/
def Obligations.EveryCommandCompletes : Prop :=
  ∀ (c : Instr) (s : State), ∃ t, exec c s = .next t ∧ t.pending = s.pending ∧ t.wall = s.wall

/-- The queue is served first in, first out: as many steps as commands wait in front take just those, whatever they are; the rest of the
queue waits unchanged, and no time passes before the queue is empty (the model's choice, log entry 15). -/
def Obligations.QueueIsServedInOrder : Prop :=
  ∀ (l rest : List Instr) (s : State), s.pending = l ++ rest →
    ∃ t, stepped l.length s = some t ∧ t.pending = rest ∧ t.wall = s.wall

/-- What reset leaves: every object reads its default of the dictionary's tables and nothing is committed or staged; no session is open, no
unit owned, no swap or commit outstanding, and no command waits. The defaults of a few objects, from their tables: DEV_STATE 0, PLMB_OWNER 255,
PLMB_UNCERT all ones, CONV_SYNC_MODE and CRYS_STATE 0. The fields the manual states no value for are the model's (their log entries stand in
INVENTORY.md) and no clause names one. -/
def Obligations.ResetValues : Prop :=
  (∀ (k : Nat) (r : Row), keyRow k = some r → identityDefault (k % 2 ^ 24 / 256) (k % 256) = none → State.reset.rd k = r.dflt) ∧
  (∀ (k : Nat), State.reset.rdc k = dflt k) ∧ (∀ (sess k : Nat), State.reset.staging sess k = dflt k) ∧
  (∀ i, i < 8 → (State.reset.ses i).isOpen = false ∧ (State.reset.ses i).txq = [] ∧ (State.reset.ses i).tags = []) ∧
  State.reset.owners = [] ∧ State.reset.swaps = [] ∧ State.reset.pending = [] ∧ State.reset.tick = 0 ∧
  State.reset.rd Obj.DEV_STATE = 0 ∧ State.reset.rd Obj.PLMB_OWNER = 255 ∧ State.reset.rd Obj.PLMB_UNCERT = 2 ^ 36 - 1 ∧
  State.reset.rd Obj.CONV_SYNC_MODE = 0 ∧ (∀ p, p < 8 → State.reset.rd (Obj.CRYS_STATE p) = 0) ∧
  (∀ ch, ch < 4 → State.reset.rd (Obj.CONV_STATE ch) = 0)

/-- The invariant of the model at reset: every unit that Table 0.2 gives the engine is there, the stores of values are in canonical form and no
ill-formed command waits. -/
def Obligations.ResetInvariant : Prop :=
  State.reset.Sized ∧ StoresWf State.reset ∧ PendingWf State.reset

/-- Every step keeps the invariant: whatever command is taken, the engine's units stay those of Table 0.2, the stores of values stay in
canonical form (keys strictly rising, no entry equal to its default), and the waiting commands stay well-formed. -/
def Obligations.StepKeepsInvariant : Prop :=
  ∀ (s t : State), s.Sized → StoresWf s → PendingWf s → step s = .next t → t.Sized ∧ StoresWf t ∧ PendingWf t
end

