-- ==== Sys2Proof/Laws/Mem.lean ====
section
/-! SUPPORT. The stores of values: a read after a write, the canonical form, and the values of objects. -/

namespace Sys2Proof.Machine

theorem Mem.look_erase (m : Mem) (k k' : Nat) :
    (m.erase k).look k' = if k = k' then none else m.look k' := by
  induction m with
  | nil => simp [Mem.erase, Mem.look]
  | cons p m ih =>
    obtain ⟨a, v⟩ := p
    by_cases h : a = k <;> by_cases h' : a = k' <;> simp_all [Mem.erase, Mem.look]
    · intro e; exact absurd e.symm h

theorem Mem.look_ins (m : Mem) (k v k' : Nat) :
    (m.ins k v).look k' = if k = k' then some v else m.look k' := by
  induction m with
  | nil => simp [Mem.ins, Mem.look]
  | cons p m ih =>
    obtain ⟨a, w⟩ := p
    by_cases h1 : k < a
    · simp [Mem.ins, Mem.look, h1]
    · by_cases h2 : a = k
      · subst h2; by_cases h3 : a = k' <;> simp [Mem.ins, Mem.look, h3]
      · by_cases h3 : k = k'
        · subst h3; simp [Mem.ins, Mem.look, h1, h2, ih]
        · simp [Mem.ins, Mem.look, h1, h2, ih, h3]

/-- A read after a write: the value written at its key, and what was there at every other key. -/
theorem Mem.get_set (d : Nat → Nat) (m : Mem) (k v k' : Nat) :
    (m.set d k v).get d k' = if k' = k then v else m.get d k' := by
  unfold Mem.set Mem.get
  by_cases h : v = d k
  · by_cases h' : k = k'
    · subst h'; simp [h, Mem.look_erase]
    · simp [h, Mem.look_erase, h', Ne.symm h']
  · by_cases h' : k = k'
    · subst h'; simp [h, Mem.look_ins]
    · simp [h, Mem.look_ins, h', Ne.symm h']

@[simp] theorem Mem.get_set_same (d : Nat → Nat) (m : Mem) (k v : Nat) : (m.set d k v).get d k = v := by
  simp [Mem.get_set]

theorem Mem.get_set_other (d : Nat → Nat) (m : Mem) (k v k' : Nat) (h : k' ≠ k) :
    (m.set d k v).get d k' = m.get d k' := by
  simp [Mem.get_set, h]

/-- An empty store reads as every key does unlisted. -/
@[simp] theorem Mem.get_nil (d : Nat → Nat) (k : Nat) : Mem.get d [] k = d k := rfl

theorem Mem.wfFrom_mono (d : Nat → Nat) (m : Mem) (lo lo' : Nat) (h : lo' ≤ lo) (w : Mem.wfFrom d lo m = true) :
    Mem.wfFrom d lo' m = true := by
  cases m with
  | nil => rfl
  | cons p m =>
    obtain ⟨a, v⟩ := p
    simp only [Mem.wfFrom, Bool.and_eq_true, Nat.ble_eq] at w ⊢
    exact ⟨⟨by omega, w.1.2⟩, w.2⟩

theorem Mem.wfFrom_erase (d : Nat → Nat) (m : Mem) (k lo : Nat) (w : Mem.wfFrom d lo m = true) :
    Mem.wfFrom d lo (m.erase k) = true := by
  induction m generalizing lo with
  | nil => rfl
  | cons p m ih =>
    obtain ⟨a, v⟩ := p
    simp only [Mem.wfFrom, Bool.and_eq_true, Nat.ble_eq] at w
    by_cases h : a = k
    · simp only [Mem.erase, h, ite_true]
      exact ih lo (Mem.wfFrom_mono d m (a + 1) lo (by omega) w.2)
    · simp only [Mem.erase, h, ite_false, Mem.wfFrom, Bool.and_eq_true, Nat.ble_eq]
      exact ⟨w.1, ih (a + 1) w.2⟩

theorem Mem.wfFrom_ins (d : Nat → Nat) (m : Mem) (k v lo : Nat) (hv : v ≠ d k) (hk : lo ≤ k)
    (w : Mem.wfFrom d lo m = true) : Mem.wfFrom d lo (m.ins k v) = true := by
  induction m generalizing lo with
  | nil => simp [Mem.ins, Mem.wfFrom, hv, hk]
  | cons p m ih =>
    obtain ⟨a, x⟩ := p
    simp only [Mem.wfFrom, Bool.and_eq_true, Nat.ble_eq] at w
    by_cases h1 : k < a
    · simp only [Mem.ins, h1, ite_true, Mem.wfFrom, Bool.and_eq_true, Nat.ble_eq]
      exact ⟨⟨hk, by simp [hv]⟩, ⟨by omega, w.1.2⟩, w.2⟩
    · by_cases h2 : a = k
      · subst h2
        simp only [Mem.ins, Nat.lt_irrefl, ite_false, ite_true, Mem.wfFrom, Bool.and_eq_true, Nat.ble_eq]
        exact ⟨⟨hk, by simp [hv]⟩, w.2⟩
      · simp only [Mem.ins, h1, h2, ite_false, Mem.wfFrom, Bool.and_eq_true, Nat.ble_eq]
        exact ⟨w.1, ih (a + 1) (by omega) w.2⟩

/-- A write keeps the canonical form. -/
theorem Mem.wf_set (d : Nat → Nat) (m : Mem) (k v : Nat) (w : m.wf d = true) : (m.set d k v).wf d = true := by
  unfold Mem.set
  by_cases h : v = d k
  · simp only [h, ite_true]; exact Mem.wfFrom_erase d m k 0 w
  · simp only [h, ite_false]; exact Mem.wfFrom_ins d m k v 0 h (Nat.zero_le k) w

theorem Mem.wfFrom_filter (d : Nat → Nat) (p : Nat × Nat → Bool) (m : Mem) (lo : Nat) (w : Mem.wfFrom d lo m = true) :
    Mem.wfFrom d lo (m.filter p) = true := by
  induction m generalizing lo with
  | nil => rfl
  | cons q m ih =>
    obtain ⟨a, v⟩ := q
    simp only [Mem.wfFrom, Bool.and_eq_true, Nat.ble_eq] at w
    by_cases h : p (a, v) = true
    · simp only [List.filter_cons, h, ite_true, Mem.wfFrom, Bool.and_eq_true, Nat.ble_eq]
      exact ⟨w.1, ih (a + 1) w.2⟩
    · simp only [List.filter_cons, h]
      exact ih lo (Mem.wfFrom_mono d m (a + 1) lo (by omega) w.2)

/-- Removing entries keeps the canonical form. -/
theorem Mem.wf_filter (d : Nat → Nat) (p : Nat × Nat → Bool) (m : Mem) (w : m.wf d = true) : Mem.wf d (m.filter p) = true :=
  Mem.wfFrom_filter d p m 0 w

/-! ## Objects -/

/-- An object after a write of an object. -/
theorem State.rd_wr (s : State) (k v k' : Nat) : (s.wr k v).rd k' = if k' = k then v else s.rd k' :=
  Mem.get_set dflt s.obj k v k'

@[simp] theorem State.rd_wr_same (s : State) (k v : Nat) : (s.wr k v).rd k = v := by simp [State.rd_wr]

theorem State.rd_wr_other (s : State) (k v k' : Nat) (h : k' ≠ k) : (s.wr k v).rd k' = s.rd k' := by
  simp [State.rd_wr, h]

/-- A committed value after one is put. -/
theorem State.rdc_wrc (s : State) (k v k' : Nat) : (s.wrc k v).rdc k' = if k' = k then v else s.rdc k' :=
  Mem.get_set dflt s.com k v k'

end Sys2Proof.Machine
end

