-- ==== Sys2Proof/Laws/State.lean ====
section
/-! SUPPORT. Every field of the state after every update of one field, and what an update leaves of the rest: all by
unfolding, so that no later proof unfolds a record update. -/

namespace Sys2Proof.Machine.State

variable (s : State)

/-! ### wr -/

@[simp] theorem wr_tick (k v : Nat) : (s.wr k v).tick = s.tick := rfl
@[simp] theorem wr_wall (k v : Nat) : (s.wr k v).wall = s.wall := rfl
@[simp] theorem wr_free (k v : Nat) : (s.wr k v).free = s.free := rfl
@[simp] theorem wr_pending (k v : Nat) : (s.wr k v).pending = s.pending := rfl
@[simp] theorem wr_obj (k v : Nat) : (s.wr k v).obj = s.obj.set dflt k v := rfl
@[simp] theorem wr_com (k v : Nat) : (s.wr k v).com = s.com := rfl
@[simp] theorem wr_staged (k v : Nat) : (s.wr k v).staged = s.staged := rfl
@[simp] theorem wr_mram (k v : Nat) : (s.wr k v).mram = s.mram := rfl
@[simp] theorem wr_log (k v : Nat) : (s.wr k v).log = s.log := rfl
@[simp] theorem wr_sess (k v : Nat) : (s.wr k v).sess = s.sess := rfl
@[simp] theorem wr_i3c (k v : Nat) : (s.wr k v).i3c = s.i3c := rfl
@[simp] theorem wr_swaps (k v : Nat) : (s.wr k v).swaps = s.swaps := rfl
@[simp] theorem wr_swapId (k v : Nat) : (s.wr k v).swapId = s.swapId := rfl
@[simp] theorem wr_commits (k v : Nat) : (s.wr k v).commits = s.commits := rfl
@[simp] theorem wr_owners (k v : Nat) : (s.wr k v).owners = s.owners := rfl
@[simp] theorem wr_flows (k v : Nat) : (s.wr k v).flows = s.flows := rfl
@[simp] theorem wr_wire (k v : Nat) : (s.wr k v).wire = s.wire := rfl
@[simp] theorem wr_rsv (k v : Nat) : (s.wr k v).rsv = s.rsv := rfl
@[simp] theorem wr_loads (k v : Nat) : (s.wr k v).loads = s.loads := rfl
@[simp] theorem wr_trig (k v : Nat) : (s.wr k v).trig = s.trig := rfl
@[simp] theorem wr_planes (k v : Nat) : (s.wr k v).planes = s.planes := rfl
@[simp] theorem wr_chans (k v : Nat) : (s.wr k v).chans = s.chans := rfl
@[simp] theorem wr_conv (k v : Nat) : (s.wr k v).conv = s.conv := rfl
@[simp] theorem wr_tuners (k v : Nat) : (s.wr k v).tuners = s.tuners := rfl
@[simp] theorem wr_ctxs (k v : Nat) : (s.wr k v).ctxs = s.ctxs := rfl
@[simp] theorem wr_dets (k v : Nat) : (s.wr k v).dets = s.dets := rfl
@[simp] theorem wr_shed (k v : Nat) : (s.wr k v).shed = s.shed := rfl
@[simp] theorem wr_gens (k v : Nat) : (s.wr k v).gens = s.gens := rfl
@[simp] theorem wr_formed (k v : Nat) : (s.wr k v).formed = s.formed := rfl
@[simp] theorem wr_twin (k v : Nat) : (s.wr k v).twin = s.twin := rfl
@[simp] theorem wr_clk (k v : Nat) : (s.wr k v).clk = s.clk := rfl
@[simp] theorem wr_plumb (k v : Nat) : (s.wr k v).plumb = s.plumb := rfl
@[simp] theorem wr_ports (k v : Nat) : (s.wr k v).ports = s.ports := rfl
@[simp] theorem wr_opens (k v : Nat) : (s.wr k v).opens = s.opens := rfl
@[simp] theorem wr_openTimes (k v : Nat) : (s.wr k v).openTimes = s.openTimes := rfl
@[simp] theorem wr_anchorAt (k v : Nat) : (s.wr k v).anchorAt = s.anchorAt := rfl
@[simp] theorem wr_signed (k v : Nat) : (s.wr k v).signed = s.signed := rfl
@[simp] theorem wr_movers (k v : Nat) : (s.wr k v).movers = s.movers := rfl
@[simp] theorem wr_scan (k v : Nat) : (s.wr k v).scan = s.scan := rfl
@[simp] theorem wr_pwr (k v : Nat) : (s.wr k v).pwr = s.pwr := rfl
@[simp] theorem wr_upd (k v : Nat) : (s.wr k v).upd = s.upd := rfl
@[simp] theorem wr_sec (k v : Nat) : (s.wr k v).sec = s.sec := rfl
@[simp] theorem wr_start (k v : Nat) : (s.wr k v).start = s.start := rfl
@[simp] theorem wr_rdc (k v : Nat) (q : Nat) : (s.wr k v).rdc q = s.rdc q := rfl
@[simp] theorem wr_ses (k v : Nat) (q : Nat) : (s.wr k v).ses q = s.ses q := rfl
@[simp] theorem wr_rest (k v : Nat) : (s.wr k v).rest = s.rest := rfl

/-! ### wrc -/

@[simp] theorem wrc_tick (k v : Nat) : (s.wrc k v).tick = s.tick := rfl
@[simp] theorem wrc_wall (k v : Nat) : (s.wrc k v).wall = s.wall := rfl
@[simp] theorem wrc_free (k v : Nat) : (s.wrc k v).free = s.free := rfl
@[simp] theorem wrc_pending (k v : Nat) : (s.wrc k v).pending = s.pending := rfl
@[simp] theorem wrc_obj (k v : Nat) : (s.wrc k v).obj = s.obj := rfl
@[simp] theorem wrc_com (k v : Nat) : (s.wrc k v).com = s.com.set dflt k v := rfl
@[simp] theorem wrc_staged (k v : Nat) : (s.wrc k v).staged = s.staged := rfl
@[simp] theorem wrc_mram (k v : Nat) : (s.wrc k v).mram = s.mram := rfl
@[simp] theorem wrc_log (k v : Nat) : (s.wrc k v).log = s.log := rfl
@[simp] theorem wrc_sess (k v : Nat) : (s.wrc k v).sess = s.sess := rfl
@[simp] theorem wrc_i3c (k v : Nat) : (s.wrc k v).i3c = s.i3c := rfl
@[simp] theorem wrc_swaps (k v : Nat) : (s.wrc k v).swaps = s.swaps := rfl
@[simp] theorem wrc_swapId (k v : Nat) : (s.wrc k v).swapId = s.swapId := rfl
@[simp] theorem wrc_commits (k v : Nat) : (s.wrc k v).commits = s.commits := rfl
@[simp] theorem wrc_owners (k v : Nat) : (s.wrc k v).owners = s.owners := rfl
@[simp] theorem wrc_flows (k v : Nat) : (s.wrc k v).flows = s.flows := rfl
@[simp] theorem wrc_wire (k v : Nat) : (s.wrc k v).wire = s.wire := rfl
@[simp] theorem wrc_rsv (k v : Nat) : (s.wrc k v).rsv = s.rsv := rfl
@[simp] theorem wrc_loads (k v : Nat) : (s.wrc k v).loads = s.loads := rfl
@[simp] theorem wrc_trig (k v : Nat) : (s.wrc k v).trig = s.trig := rfl
@[simp] theorem wrc_planes (k v : Nat) : (s.wrc k v).planes = s.planes := rfl
@[simp] theorem wrc_chans (k v : Nat) : (s.wrc k v).chans = s.chans := rfl
@[simp] theorem wrc_conv (k v : Nat) : (s.wrc k v).conv = s.conv := rfl
@[simp] theorem wrc_tuners (k v : Nat) : (s.wrc k v).tuners = s.tuners := rfl
@[simp] theorem wrc_ctxs (k v : Nat) : (s.wrc k v).ctxs = s.ctxs := rfl
@[simp] theorem wrc_dets (k v : Nat) : (s.wrc k v).dets = s.dets := rfl
@[simp] theorem wrc_shed (k v : Nat) : (s.wrc k v).shed = s.shed := rfl
@[simp] theorem wrc_gens (k v : Nat) : (s.wrc k v).gens = s.gens := rfl
@[simp] theorem wrc_formed (k v : Nat) : (s.wrc k v).formed = s.formed := rfl
@[simp] theorem wrc_twin (k v : Nat) : (s.wrc k v).twin = s.twin := rfl
@[simp] theorem wrc_clk (k v : Nat) : (s.wrc k v).clk = s.clk := rfl
@[simp] theorem wrc_plumb (k v : Nat) : (s.wrc k v).plumb = s.plumb := rfl
@[simp] theorem wrc_ports (k v : Nat) : (s.wrc k v).ports = s.ports := rfl
@[simp] theorem wrc_opens (k v : Nat) : (s.wrc k v).opens = s.opens := rfl
@[simp] theorem wrc_openTimes (k v : Nat) : (s.wrc k v).openTimes = s.openTimes := rfl
@[simp] theorem wrc_anchorAt (k v : Nat) : (s.wrc k v).anchorAt = s.anchorAt := rfl
@[simp] theorem wrc_signed (k v : Nat) : (s.wrc k v).signed = s.signed := rfl
@[simp] theorem wrc_movers (k v : Nat) : (s.wrc k v).movers = s.movers := rfl
@[simp] theorem wrc_scan (k v : Nat) : (s.wrc k v).scan = s.scan := rfl
@[simp] theorem wrc_pwr (k v : Nat) : (s.wrc k v).pwr = s.pwr := rfl
@[simp] theorem wrc_upd (k v : Nat) : (s.wrc k v).upd = s.upd := rfl
@[simp] theorem wrc_sec (k v : Nat) : (s.wrc k v).sec = s.sec := rfl
@[simp] theorem wrc_start (k v : Nat) : (s.wrc k v).start = s.start := rfl
@[simp] theorem wrc_rd (k v : Nat) (q : Nat) : (s.wrc k v).rd q = s.rd q := rfl
@[simp] theorem wrc_rdB (k v : Nat) (q : Nat) : (s.wrc k v).rdB q = s.rdB q := rfl
@[simp] theorem wrc_rdI (k v : Nat) (q : Nat) : (s.wrc k v).rdI q = s.rdI q := rfl
@[simp] theorem wrc_ses (k v : Nat) (q : Nat) : (s.wrc k v).ses q = s.ses q := rfl
theorem wrc_rest (k v : Nat) : (s.wrc k v).rest = { s.rest with com := (s.wrc k v).com } := rfl

/-! ### used -/

@[simp] theorem used_tick (n : Nat) : (s.used n).tick = s.tick := rfl
@[simp] theorem used_wall (n : Nat) : (s.used n).wall = s.wall := rfl
@[simp] theorem used_free (n : Nat) : (s.used n).free = s.free + n := rfl
@[simp] theorem used_pending (n : Nat) : (s.used n).pending = s.pending := rfl
@[simp] theorem used_obj (n : Nat) : (s.used n).obj = s.obj := rfl
@[simp] theorem used_com (n : Nat) : (s.used n).com = s.com := rfl
@[simp] theorem used_staged (n : Nat) : (s.used n).staged = s.staged := rfl
@[simp] theorem used_mram (n : Nat) : (s.used n).mram = s.mram := rfl
@[simp] theorem used_log (n : Nat) : (s.used n).log = s.log := rfl
@[simp] theorem used_sess (n : Nat) : (s.used n).sess = s.sess := rfl
@[simp] theorem used_i3c (n : Nat) : (s.used n).i3c = s.i3c := rfl
@[simp] theorem used_swaps (n : Nat) : (s.used n).swaps = s.swaps := rfl
@[simp] theorem used_swapId (n : Nat) : (s.used n).swapId = s.swapId := rfl
@[simp] theorem used_commits (n : Nat) : (s.used n).commits = s.commits := rfl
@[simp] theorem used_owners (n : Nat) : (s.used n).owners = s.owners := rfl
@[simp] theorem used_flows (n : Nat) : (s.used n).flows = s.flows := rfl
@[simp] theorem used_wire (n : Nat) : (s.used n).wire = s.wire := rfl
@[simp] theorem used_rsv (n : Nat) : (s.used n).rsv = s.rsv := rfl
@[simp] theorem used_loads (n : Nat) : (s.used n).loads = s.loads := rfl
@[simp] theorem used_trig (n : Nat) : (s.used n).trig = s.trig := rfl
@[simp] theorem used_planes (n : Nat) : (s.used n).planes = s.planes := rfl
@[simp] theorem used_chans (n : Nat) : (s.used n).chans = s.chans := rfl
@[simp] theorem used_conv (n : Nat) : (s.used n).conv = s.conv := rfl
@[simp] theorem used_tuners (n : Nat) : (s.used n).tuners = s.tuners := rfl
@[simp] theorem used_ctxs (n : Nat) : (s.used n).ctxs = s.ctxs := rfl
@[simp] theorem used_dets (n : Nat) : (s.used n).dets = s.dets := rfl
@[simp] theorem used_shed (n : Nat) : (s.used n).shed = s.shed := rfl
@[simp] theorem used_gens (n : Nat) : (s.used n).gens = s.gens := rfl
@[simp] theorem used_formed (n : Nat) : (s.used n).formed = s.formed := rfl
@[simp] theorem used_twin (n : Nat) : (s.used n).twin = s.twin := rfl
@[simp] theorem used_clk (n : Nat) : (s.used n).clk = s.clk := rfl
@[simp] theorem used_plumb (n : Nat) : (s.used n).plumb = s.plumb := rfl
@[simp] theorem used_ports (n : Nat) : (s.used n).ports = s.ports := rfl
@[simp] theorem used_opens (n : Nat) : (s.used n).opens = s.opens := rfl
@[simp] theorem used_openTimes (n : Nat) : (s.used n).openTimes = s.openTimes := rfl
@[simp] theorem used_anchorAt (n : Nat) : (s.used n).anchorAt = s.anchorAt := rfl
@[simp] theorem used_signed (n : Nat) : (s.used n).signed = s.signed := rfl
@[simp] theorem used_movers (n : Nat) : (s.used n).movers = s.movers := rfl
@[simp] theorem used_scan (n : Nat) : (s.used n).scan = s.scan := rfl
@[simp] theorem used_pwr (n : Nat) : (s.used n).pwr = s.pwr := rfl
@[simp] theorem used_upd (n : Nat) : (s.used n).upd = s.upd := rfl
@[simp] theorem used_sec (n : Nat) : (s.used n).sec = s.sec := rfl
@[simp] theorem used_start (n : Nat) : (s.used n).start = s.start := rfl
@[simp] theorem used_rd (n : Nat) (q : Nat) : (s.used n).rd q = s.rd q := rfl
@[simp] theorem used_rdB (n : Nat) (q : Nat) : (s.used n).rdB q = s.rdB q := rfl
@[simp] theorem used_rdI (n : Nat) (q : Nat) : (s.used n).rdI q = s.rdI q := rfl
@[simp] theorem used_rdc (n : Nat) (q : Nat) : (s.used n).rdc q = s.rdc q := rfl
@[simp] theorem used_ses (n : Nat) (q : Nat) : (s.used n).ses q = s.ses q := rfl
theorem used_rest (n : Nat) : (s.used n).rest = { s.rest with free := (s.used n).free } := rfl

/-! ### updSes -/

@[simp] theorem updSes_tick (i : Nat) (f : Sess → Sess) : (s.updSes i f).tick = s.tick := rfl
@[simp] theorem updSes_wall (i : Nat) (f : Sess → Sess) : (s.updSes i f).wall = s.wall := rfl
@[simp] theorem updSes_free (i : Nat) (f : Sess → Sess) : (s.updSes i f).free = s.free := rfl
@[simp] theorem updSes_pending (i : Nat) (f : Sess → Sess) : (s.updSes i f).pending = s.pending := rfl
@[simp] theorem updSes_obj (i : Nat) (f : Sess → Sess) : (s.updSes i f).obj = s.obj := rfl
@[simp] theorem updSes_com (i : Nat) (f : Sess → Sess) : (s.updSes i f).com = s.com := rfl
@[simp] theorem updSes_staged (i : Nat) (f : Sess → Sess) : (s.updSes i f).staged = s.staged := rfl
@[simp] theorem updSes_mram (i : Nat) (f : Sess → Sess) : (s.updSes i f).mram = s.mram := rfl
@[simp] theorem updSes_log (i : Nat) (f : Sess → Sess) : (s.updSes i f).log = s.log := rfl
@[simp] theorem updSes_sess (i : Nat) (f : Sess → Sess) : (s.updSes i f).sess = s.sess.modify i f := rfl
@[simp] theorem updSes_i3c (i : Nat) (f : Sess → Sess) : (s.updSes i f).i3c = s.i3c := rfl
@[simp] theorem updSes_swaps (i : Nat) (f : Sess → Sess) : (s.updSes i f).swaps = s.swaps := rfl
@[simp] theorem updSes_swapId (i : Nat) (f : Sess → Sess) : (s.updSes i f).swapId = s.swapId := rfl
@[simp] theorem updSes_commits (i : Nat) (f : Sess → Sess) : (s.updSes i f).commits = s.commits := rfl
@[simp] theorem updSes_owners (i : Nat) (f : Sess → Sess) : (s.updSes i f).owners = s.owners := rfl
@[simp] theorem updSes_flows (i : Nat) (f : Sess → Sess) : (s.updSes i f).flows = s.flows := rfl
@[simp] theorem updSes_wire (i : Nat) (f : Sess → Sess) : (s.updSes i f).wire = s.wire := rfl
@[simp] theorem updSes_rsv (i : Nat) (f : Sess → Sess) : (s.updSes i f).rsv = s.rsv := rfl
@[simp] theorem updSes_loads (i : Nat) (f : Sess → Sess) : (s.updSes i f).loads = s.loads := rfl
@[simp] theorem updSes_trig (i : Nat) (f : Sess → Sess) : (s.updSes i f).trig = s.trig := rfl
@[simp] theorem updSes_planes (i : Nat) (f : Sess → Sess) : (s.updSes i f).planes = s.planes := rfl
@[simp] theorem updSes_chans (i : Nat) (f : Sess → Sess) : (s.updSes i f).chans = s.chans := rfl
@[simp] theorem updSes_conv (i : Nat) (f : Sess → Sess) : (s.updSes i f).conv = s.conv := rfl
@[simp] theorem updSes_tuners (i : Nat) (f : Sess → Sess) : (s.updSes i f).tuners = s.tuners := rfl
@[simp] theorem updSes_ctxs (i : Nat) (f : Sess → Sess) : (s.updSes i f).ctxs = s.ctxs := rfl
@[simp] theorem updSes_dets (i : Nat) (f : Sess → Sess) : (s.updSes i f).dets = s.dets := rfl
@[simp] theorem updSes_shed (i : Nat) (f : Sess → Sess) : (s.updSes i f).shed = s.shed := rfl
@[simp] theorem updSes_gens (i : Nat) (f : Sess → Sess) : (s.updSes i f).gens = s.gens := rfl
@[simp] theorem updSes_formed (i : Nat) (f : Sess → Sess) : (s.updSes i f).formed = s.formed := rfl
@[simp] theorem updSes_twin (i : Nat) (f : Sess → Sess) : (s.updSes i f).twin = s.twin := rfl
@[simp] theorem updSes_clk (i : Nat) (f : Sess → Sess) : (s.updSes i f).clk = s.clk := rfl
@[simp] theorem updSes_plumb (i : Nat) (f : Sess → Sess) : (s.updSes i f).plumb = s.plumb := rfl
@[simp] theorem updSes_ports (i : Nat) (f : Sess → Sess) : (s.updSes i f).ports = s.ports := rfl
@[simp] theorem updSes_opens (i : Nat) (f : Sess → Sess) : (s.updSes i f).opens = s.opens := rfl
@[simp] theorem updSes_openTimes (i : Nat) (f : Sess → Sess) : (s.updSes i f).openTimes = s.openTimes := rfl
@[simp] theorem updSes_anchorAt (i : Nat) (f : Sess → Sess) : (s.updSes i f).anchorAt = s.anchorAt := rfl
@[simp] theorem updSes_signed (i : Nat) (f : Sess → Sess) : (s.updSes i f).signed = s.signed := rfl
@[simp] theorem updSes_movers (i : Nat) (f : Sess → Sess) : (s.updSes i f).movers = s.movers := rfl
@[simp] theorem updSes_scan (i : Nat) (f : Sess → Sess) : (s.updSes i f).scan = s.scan := rfl
@[simp] theorem updSes_pwr (i : Nat) (f : Sess → Sess) : (s.updSes i f).pwr = s.pwr := rfl
@[simp] theorem updSes_upd (i : Nat) (f : Sess → Sess) : (s.updSes i f).upd = s.upd := rfl
@[simp] theorem updSes_sec (i : Nat) (f : Sess → Sess) : (s.updSes i f).sec = s.sec := rfl
@[simp] theorem updSes_start (i : Nat) (f : Sess → Sess) : (s.updSes i f).start = s.start := rfl
@[simp] theorem updSes_rd (i : Nat) (f : Sess → Sess) (q : Nat) : (s.updSes i f).rd q = s.rd q := rfl
@[simp] theorem updSes_rdB (i : Nat) (f : Sess → Sess) (q : Nat) : (s.updSes i f).rdB q = s.rdB q := rfl
@[simp] theorem updSes_rdI (i : Nat) (f : Sess → Sess) (q : Nat) : (s.updSes i f).rdI q = s.rdI q := rfl
@[simp] theorem updSes_rdc (i : Nat) (f : Sess → Sess) (q : Nat) : (s.updSes i f).rdc q = s.rdc q := rfl
@[simp] theorem updSes_rest (i : Nat) (f : Sess → Sess) : (s.updSes i f).rest = s.rest := rfl

/-! ### own -/

@[simp] theorem own_tick (u : UnitId) (i : Nat) (b : Bool) : (s.own u i b).tick = s.tick := rfl
@[simp] theorem own_wall (u : UnitId) (i : Nat) (b : Bool) : (s.own u i b).wall = s.wall := rfl
@[simp] theorem own_free (u : UnitId) (i : Nat) (b : Bool) : (s.own u i b).free = s.free := rfl
@[simp] theorem own_pending (u : UnitId) (i : Nat) (b : Bool) : (s.own u i b).pending = s.pending := rfl
@[simp] theorem own_obj (u : UnitId) (i : Nat) (b : Bool) : (s.own u i b).obj = s.obj := rfl
@[simp] theorem own_com (u : UnitId) (i : Nat) (b : Bool) : (s.own u i b).com = s.com := rfl
@[simp] theorem own_staged (u : UnitId) (i : Nat) (b : Bool) : (s.own u i b).staged = s.staged := rfl
@[simp] theorem own_mram (u : UnitId) (i : Nat) (b : Bool) : (s.own u i b).mram = s.mram := rfl
@[simp] theorem own_log (u : UnitId) (i : Nat) (b : Bool) : (s.own u i b).log = s.log := rfl
@[simp] theorem own_sess (u : UnitId) (i : Nat) (b : Bool) : (s.own u i b).sess = s.sess := rfl
@[simp] theorem own_i3c (u : UnitId) (i : Nat) (b : Bool) : (s.own u i b).i3c = s.i3c := rfl
@[simp] theorem own_swaps (u : UnitId) (i : Nat) (b : Bool) : (s.own u i b).swaps = s.swaps := rfl
@[simp] theorem own_swapId (u : UnitId) (i : Nat) (b : Bool) : (s.own u i b).swapId = s.swapId := rfl
@[simp] theorem own_commits (u : UnitId) (i : Nat) (b : Bool) : (s.own u i b).commits = s.commits := rfl
@[simp] theorem own_owners (u : UnitId) (i : Nat) (b : Bool) : (s.own u i b).owners = ⟨u, i, b⟩ :: s.owners.filter fun o => o.unit != u := rfl
@[simp] theorem own_flows (u : UnitId) (i : Nat) (b : Bool) : (s.own u i b).flows = s.flows := rfl
@[simp] theorem own_wire (u : UnitId) (i : Nat) (b : Bool) : (s.own u i b).wire = s.wire := rfl
@[simp] theorem own_rsv (u : UnitId) (i : Nat) (b : Bool) : (s.own u i b).rsv = s.rsv := rfl
@[simp] theorem own_loads (u : UnitId) (i : Nat) (b : Bool) : (s.own u i b).loads = s.loads := rfl
@[simp] theorem own_trig (u : UnitId) (i : Nat) (b : Bool) : (s.own u i b).trig = s.trig := rfl
@[simp] theorem own_planes (u : UnitId) (i : Nat) (b : Bool) : (s.own u i b).planes = s.planes := rfl
@[simp] theorem own_chans (u : UnitId) (i : Nat) (b : Bool) : (s.own u i b).chans = s.chans := rfl
@[simp] theorem own_conv (u : UnitId) (i : Nat) (b : Bool) : (s.own u i b).conv = s.conv := rfl
@[simp] theorem own_tuners (u : UnitId) (i : Nat) (b : Bool) : (s.own u i b).tuners = s.tuners := rfl
@[simp] theorem own_ctxs (u : UnitId) (i : Nat) (b : Bool) : (s.own u i b).ctxs = s.ctxs := rfl
@[simp] theorem own_dets (u : UnitId) (i : Nat) (b : Bool) : (s.own u i b).dets = s.dets := rfl
@[simp] theorem own_shed (u : UnitId) (i : Nat) (b : Bool) : (s.own u i b).shed = s.shed := rfl
@[simp] theorem own_gens (u : UnitId) (i : Nat) (b : Bool) : (s.own u i b).gens = s.gens := rfl
@[simp] theorem own_formed (u : UnitId) (i : Nat) (b : Bool) : (s.own u i b).formed = s.formed := rfl
@[simp] theorem own_twin (u : UnitId) (i : Nat) (b : Bool) : (s.own u i b).twin = s.twin := rfl
@[simp] theorem own_clk (u : UnitId) (i : Nat) (b : Bool) : (s.own u i b).clk = s.clk := rfl
@[simp] theorem own_plumb (u : UnitId) (i : Nat) (b : Bool) : (s.own u i b).plumb = s.plumb := rfl
@[simp] theorem own_ports (u : UnitId) (i : Nat) (b : Bool) : (s.own u i b).ports = s.ports := rfl
@[simp] theorem own_opens (u : UnitId) (i : Nat) (b : Bool) : (s.own u i b).opens = s.opens := rfl
@[simp] theorem own_openTimes (u : UnitId) (i : Nat) (b : Bool) : (s.own u i b).openTimes = s.openTimes := rfl
@[simp] theorem own_anchorAt (u : UnitId) (i : Nat) (b : Bool) : (s.own u i b).anchorAt = s.anchorAt := rfl
@[simp] theorem own_signed (u : UnitId) (i : Nat) (b : Bool) : (s.own u i b).signed = s.signed := rfl
@[simp] theorem own_movers (u : UnitId) (i : Nat) (b : Bool) : (s.own u i b).movers = s.movers := rfl
@[simp] theorem own_scan (u : UnitId) (i : Nat) (b : Bool) : (s.own u i b).scan = s.scan := rfl
@[simp] theorem own_pwr (u : UnitId) (i : Nat) (b : Bool) : (s.own u i b).pwr = s.pwr := rfl
@[simp] theorem own_upd (u : UnitId) (i : Nat) (b : Bool) : (s.own u i b).upd = s.upd := rfl
@[simp] theorem own_sec (u : UnitId) (i : Nat) (b : Bool) : (s.own u i b).sec = s.sec := rfl
@[simp] theorem own_start (u : UnitId) (i : Nat) (b : Bool) : (s.own u i b).start = s.start := rfl
@[simp] theorem own_rd (u : UnitId) (i : Nat) (b : Bool) (q : Nat) : (s.own u i b).rd q = s.rd q := rfl
@[simp] theorem own_rdB (u : UnitId) (i : Nat) (b : Bool) (q : Nat) : (s.own u i b).rdB q = s.rdB q := rfl
@[simp] theorem own_rdI (u : UnitId) (i : Nat) (b : Bool) (q : Nat) : (s.own u i b).rdI q = s.rdI q := rfl
@[simp] theorem own_rdc (u : UnitId) (i : Nat) (b : Bool) (q : Nat) : (s.own u i b).rdc q = s.rdc q := rfl
@[simp] theorem own_ses (u : UnitId) (i : Nat) (b : Bool) (q : Nat) : (s.own u i b).ses q = s.ses q := rfl
theorem own_rest (u : UnitId) (i : Nat) (b : Bool) : (s.own u i b).rest = { s.rest with owners := (s.own u i b).owners } := rfl

/-! ### disown -/

@[simp] theorem disown_tick (u : UnitId) : (s.disown u).tick = s.tick := rfl
@[simp] theorem disown_wall (u : UnitId) : (s.disown u).wall = s.wall := rfl
@[simp] theorem disown_free (u : UnitId) : (s.disown u).free = s.free := rfl
@[simp] theorem disown_pending (u : UnitId) : (s.disown u).pending = s.pending := rfl
@[simp] theorem disown_obj (u : UnitId) : (s.disown u).obj = s.obj := rfl
@[simp] theorem disown_com (u : UnitId) : (s.disown u).com = s.com := rfl
@[simp] theorem disown_staged (u : UnitId) : (s.disown u).staged = s.staged := rfl
@[simp] theorem disown_mram (u : UnitId) : (s.disown u).mram = s.mram := rfl
@[simp] theorem disown_log (u : UnitId) : (s.disown u).log = s.log := rfl
@[simp] theorem disown_sess (u : UnitId) : (s.disown u).sess = s.sess := rfl
@[simp] theorem disown_i3c (u : UnitId) : (s.disown u).i3c = s.i3c := rfl
@[simp] theorem disown_swaps (u : UnitId) : (s.disown u).swaps = s.swaps := rfl
@[simp] theorem disown_swapId (u : UnitId) : (s.disown u).swapId = s.swapId := rfl
@[simp] theorem disown_commits (u : UnitId) : (s.disown u).commits = s.commits := rfl
@[simp] theorem disown_owners (u : UnitId) : (s.disown u).owners = s.owners.filter fun o => o.unit != u := rfl
@[simp] theorem disown_flows (u : UnitId) : (s.disown u).flows = s.flows := rfl
@[simp] theorem disown_wire (u : UnitId) : (s.disown u).wire = s.wire := rfl
@[simp] theorem disown_rsv (u : UnitId) : (s.disown u).rsv = s.rsv := rfl
@[simp] theorem disown_loads (u : UnitId) : (s.disown u).loads = s.loads := rfl
@[simp] theorem disown_trig (u : UnitId) : (s.disown u).trig = s.trig := rfl
@[simp] theorem disown_planes (u : UnitId) : (s.disown u).planes = s.planes := rfl
@[simp] theorem disown_chans (u : UnitId) : (s.disown u).chans = s.chans := rfl
@[simp] theorem disown_conv (u : UnitId) : (s.disown u).conv = s.conv := rfl
@[simp] theorem disown_tuners (u : UnitId) : (s.disown u).tuners = s.tuners := rfl
@[simp] theorem disown_ctxs (u : UnitId) : (s.disown u).ctxs = s.ctxs := rfl
@[simp] theorem disown_dets (u : UnitId) : (s.disown u).dets = s.dets := rfl
@[simp] theorem disown_shed (u : UnitId) : (s.disown u).shed = s.shed := rfl
@[simp] theorem disown_gens (u : UnitId) : (s.disown u).gens = s.gens := rfl
@[simp] theorem disown_formed (u : UnitId) : (s.disown u).formed = s.formed := rfl
@[simp] theorem disown_twin (u : UnitId) : (s.disown u).twin = s.twin := rfl
@[simp] theorem disown_clk (u : UnitId) : (s.disown u).clk = s.clk := rfl
@[simp] theorem disown_plumb (u : UnitId) : (s.disown u).plumb = s.plumb := rfl
@[simp] theorem disown_ports (u : UnitId) : (s.disown u).ports = s.ports := rfl
@[simp] theorem disown_opens (u : UnitId) : (s.disown u).opens = s.opens := rfl
@[simp] theorem disown_openTimes (u : UnitId) : (s.disown u).openTimes = s.openTimes := rfl
@[simp] theorem disown_anchorAt (u : UnitId) : (s.disown u).anchorAt = s.anchorAt := rfl
@[simp] theorem disown_signed (u : UnitId) : (s.disown u).signed = s.signed := rfl
@[simp] theorem disown_movers (u : UnitId) : (s.disown u).movers = s.movers := rfl
@[simp] theorem disown_scan (u : UnitId) : (s.disown u).scan = s.scan := rfl
@[simp] theorem disown_pwr (u : UnitId) : (s.disown u).pwr = s.pwr := rfl
@[simp] theorem disown_upd (u : UnitId) : (s.disown u).upd = s.upd := rfl
@[simp] theorem disown_sec (u : UnitId) : (s.disown u).sec = s.sec := rfl
@[simp] theorem disown_start (u : UnitId) : (s.disown u).start = s.start := rfl
@[simp] theorem disown_rd (u : UnitId) (q : Nat) : (s.disown u).rd q = s.rd q := rfl
@[simp] theorem disown_rdB (u : UnitId) (q : Nat) : (s.disown u).rdB q = s.rdB q := rfl
@[simp] theorem disown_rdI (u : UnitId) (q : Nat) : (s.disown u).rdI q = s.rdI q := rfl
@[simp] theorem disown_rdc (u : UnitId) (q : Nat) : (s.disown u).rdc q = s.rdc q := rfl
@[simp] theorem disown_ses (u : UnitId) (q : Nat) : (s.disown u).ses q = s.ses q := rfl
theorem disown_rest (u : UnitId) : (s.disown u).rest = { s.rest with owners := (s.disown u).owners } := rfl

/-! ### setSwap -/

@[simp] theorem setSwap_tick (w : Swap) : (s.setSwap w).tick = s.tick := rfl
@[simp] theorem setSwap_wall (w : Swap) : (s.setSwap w).wall = s.wall := rfl
@[simp] theorem setSwap_free (w : Swap) : (s.setSwap w).free = s.free := rfl
@[simp] theorem setSwap_pending (w : Swap) : (s.setSwap w).pending = s.pending := rfl
@[simp] theorem setSwap_obj (w : Swap) : (s.setSwap w).obj = s.obj := rfl
@[simp] theorem setSwap_com (w : Swap) : (s.setSwap w).com = s.com := rfl
@[simp] theorem setSwap_staged (w : Swap) : (s.setSwap w).staged = s.staged := rfl
@[simp] theorem setSwap_mram (w : Swap) : (s.setSwap w).mram = s.mram := rfl
@[simp] theorem setSwap_log (w : Swap) : (s.setSwap w).log = s.log := rfl
@[simp] theorem setSwap_sess (w : Swap) : (s.setSwap w).sess = s.sess := rfl
@[simp] theorem setSwap_i3c (w : Swap) : (s.setSwap w).i3c = s.i3c := rfl
@[simp] theorem setSwap_swaps (w : Swap) : (s.setSwap w).swaps = s.swaps.map fun x => if x.id = w.id then w else x := rfl
@[simp] theorem setSwap_swapId (w : Swap) : (s.setSwap w).swapId = s.swapId := rfl
@[simp] theorem setSwap_commits (w : Swap) : (s.setSwap w).commits = s.commits := rfl
@[simp] theorem setSwap_owners (w : Swap) : (s.setSwap w).owners = s.owners := rfl
@[simp] theorem setSwap_flows (w : Swap) : (s.setSwap w).flows = s.flows := rfl
@[simp] theorem setSwap_wire (w : Swap) : (s.setSwap w).wire = s.wire := rfl
@[simp] theorem setSwap_rsv (w : Swap) : (s.setSwap w).rsv = s.rsv := rfl
@[simp] theorem setSwap_loads (w : Swap) : (s.setSwap w).loads = s.loads := rfl
@[simp] theorem setSwap_trig (w : Swap) : (s.setSwap w).trig = s.trig := rfl
@[simp] theorem setSwap_planes (w : Swap) : (s.setSwap w).planes = s.planes := rfl
@[simp] theorem setSwap_chans (w : Swap) : (s.setSwap w).chans = s.chans := rfl
@[simp] theorem setSwap_conv (w : Swap) : (s.setSwap w).conv = s.conv := rfl
@[simp] theorem setSwap_tuners (w : Swap) : (s.setSwap w).tuners = s.tuners := rfl
@[simp] theorem setSwap_ctxs (w : Swap) : (s.setSwap w).ctxs = s.ctxs := rfl
@[simp] theorem setSwap_dets (w : Swap) : (s.setSwap w).dets = s.dets := rfl
@[simp] theorem setSwap_shed (w : Swap) : (s.setSwap w).shed = s.shed := rfl
@[simp] theorem setSwap_gens (w : Swap) : (s.setSwap w).gens = s.gens := rfl
@[simp] theorem setSwap_formed (w : Swap) : (s.setSwap w).formed = s.formed := rfl
@[simp] theorem setSwap_twin (w : Swap) : (s.setSwap w).twin = s.twin := rfl
@[simp] theorem setSwap_clk (w : Swap) : (s.setSwap w).clk = s.clk := rfl
@[simp] theorem setSwap_plumb (w : Swap) : (s.setSwap w).plumb = s.plumb := rfl
@[simp] theorem setSwap_ports (w : Swap) : (s.setSwap w).ports = s.ports := rfl
@[simp] theorem setSwap_opens (w : Swap) : (s.setSwap w).opens = s.opens := rfl
@[simp] theorem setSwap_openTimes (w : Swap) : (s.setSwap w).openTimes = s.openTimes := rfl
@[simp] theorem setSwap_anchorAt (w : Swap) : (s.setSwap w).anchorAt = s.anchorAt := rfl
@[simp] theorem setSwap_signed (w : Swap) : (s.setSwap w).signed = s.signed := rfl
@[simp] theorem setSwap_movers (w : Swap) : (s.setSwap w).movers = s.movers := rfl
@[simp] theorem setSwap_scan (w : Swap) : (s.setSwap w).scan = s.scan := rfl
@[simp] theorem setSwap_pwr (w : Swap) : (s.setSwap w).pwr = s.pwr := rfl
@[simp] theorem setSwap_upd (w : Swap) : (s.setSwap w).upd = s.upd := rfl
@[simp] theorem setSwap_sec (w : Swap) : (s.setSwap w).sec = s.sec := rfl
@[simp] theorem setSwap_start (w : Swap) : (s.setSwap w).start = s.start := rfl
@[simp] theorem setSwap_rd (w : Swap) (q : Nat) : (s.setSwap w).rd q = s.rd q := rfl
@[simp] theorem setSwap_rdB (w : Swap) (q : Nat) : (s.setSwap w).rdB q = s.rdB q := rfl
@[simp] theorem setSwap_rdI (w : Swap) (q : Nat) : (s.setSwap w).rdI q = s.rdI q := rfl
@[simp] theorem setSwap_rdc (w : Swap) (q : Nat) : (s.setSwap w).rdc q = s.rdc q := rfl
@[simp] theorem setSwap_ses (w : Swap) (q : Nat) : (s.setSwap w).ses q = s.ses q := rfl
theorem setSwap_rest (w : Swap) : (s.setSwap w).rest = { s.rest with swaps := (s.setSwap w).swaps } := rfl

/-! ### dropSwap -/

@[simp] theorem dropSwap_tick (w : Swap) : (s.dropSwap w).tick = s.tick := rfl
@[simp] theorem dropSwap_wall (w : Swap) : (s.dropSwap w).wall = s.wall := rfl
@[simp] theorem dropSwap_free (w : Swap) : (s.dropSwap w).free = s.free := rfl
@[simp] theorem dropSwap_pending (w : Swap) : (s.dropSwap w).pending = s.pending := rfl
@[simp] theorem dropSwap_obj (w : Swap) : (s.dropSwap w).obj = s.obj := rfl
@[simp] theorem dropSwap_com (w : Swap) : (s.dropSwap w).com = s.com := rfl
@[simp] theorem dropSwap_staged (w : Swap) : (s.dropSwap w).staged = s.staged := rfl
@[simp] theorem dropSwap_mram (w : Swap) : (s.dropSwap w).mram = s.mram := rfl
@[simp] theorem dropSwap_log (w : Swap) : (s.dropSwap w).log = s.log := rfl
@[simp] theorem dropSwap_sess (w : Swap) : (s.dropSwap w).sess = s.sess := rfl
@[simp] theorem dropSwap_i3c (w : Swap) : (s.dropSwap w).i3c = s.i3c := rfl
@[simp] theorem dropSwap_swaps (w : Swap) : (s.dropSwap w).swaps = s.swaps.filter fun x => x.id != w.id := rfl
@[simp] theorem dropSwap_swapId (w : Swap) : (s.dropSwap w).swapId = s.swapId := rfl
@[simp] theorem dropSwap_commits (w : Swap) : (s.dropSwap w).commits = s.commits := rfl
@[simp] theorem dropSwap_owners (w : Swap) : (s.dropSwap w).owners = s.owners := rfl
@[simp] theorem dropSwap_flows (w : Swap) : (s.dropSwap w).flows = s.flows := rfl
@[simp] theorem dropSwap_wire (w : Swap) : (s.dropSwap w).wire = s.wire := rfl
@[simp] theorem dropSwap_rsv (w : Swap) : (s.dropSwap w).rsv = s.rsv := rfl
@[simp] theorem dropSwap_loads (w : Swap) : (s.dropSwap w).loads = s.loads := rfl
@[simp] theorem dropSwap_trig (w : Swap) : (s.dropSwap w).trig = s.trig := rfl
@[simp] theorem dropSwap_planes (w : Swap) : (s.dropSwap w).planes = s.planes := rfl
@[simp] theorem dropSwap_chans (w : Swap) : (s.dropSwap w).chans = s.chans := rfl
@[simp] theorem dropSwap_conv (w : Swap) : (s.dropSwap w).conv = s.conv := rfl
@[simp] theorem dropSwap_tuners (w : Swap) : (s.dropSwap w).tuners = s.tuners := rfl
@[simp] theorem dropSwap_ctxs (w : Swap) : (s.dropSwap w).ctxs = s.ctxs := rfl
@[simp] theorem dropSwap_dets (w : Swap) : (s.dropSwap w).dets = s.dets := rfl
@[simp] theorem dropSwap_shed (w : Swap) : (s.dropSwap w).shed = s.shed := rfl
@[simp] theorem dropSwap_gens (w : Swap) : (s.dropSwap w).gens = s.gens := rfl
@[simp] theorem dropSwap_formed (w : Swap) : (s.dropSwap w).formed = s.formed := rfl
@[simp] theorem dropSwap_twin (w : Swap) : (s.dropSwap w).twin = s.twin := rfl
@[simp] theorem dropSwap_clk (w : Swap) : (s.dropSwap w).clk = s.clk := rfl
@[simp] theorem dropSwap_plumb (w : Swap) : (s.dropSwap w).plumb = s.plumb := rfl
@[simp] theorem dropSwap_ports (w : Swap) : (s.dropSwap w).ports = s.ports := rfl
@[simp] theorem dropSwap_opens (w : Swap) : (s.dropSwap w).opens = s.opens := rfl
@[simp] theorem dropSwap_openTimes (w : Swap) : (s.dropSwap w).openTimes = s.openTimes := rfl
@[simp] theorem dropSwap_anchorAt (w : Swap) : (s.dropSwap w).anchorAt = s.anchorAt := rfl
@[simp] theorem dropSwap_signed (w : Swap) : (s.dropSwap w).signed = s.signed := rfl
@[simp] theorem dropSwap_movers (w : Swap) : (s.dropSwap w).movers = s.movers := rfl
@[simp] theorem dropSwap_scan (w : Swap) : (s.dropSwap w).scan = s.scan := rfl
@[simp] theorem dropSwap_pwr (w : Swap) : (s.dropSwap w).pwr = s.pwr := rfl
@[simp] theorem dropSwap_upd (w : Swap) : (s.dropSwap w).upd = s.upd := rfl
@[simp] theorem dropSwap_sec (w : Swap) : (s.dropSwap w).sec = s.sec := rfl
@[simp] theorem dropSwap_start (w : Swap) : (s.dropSwap w).start = s.start := rfl
@[simp] theorem dropSwap_rd (w : Swap) (q : Nat) : (s.dropSwap w).rd q = s.rd q := rfl
@[simp] theorem dropSwap_rdB (w : Swap) (q : Nat) : (s.dropSwap w).rdB q = s.rdB q := rfl
@[simp] theorem dropSwap_rdI (w : Swap) (q : Nat) : (s.dropSwap w).rdI q = s.rdI q := rfl
@[simp] theorem dropSwap_rdc (w : Swap) (q : Nat) : (s.dropSwap w).rdc q = s.rdc q := rfl
@[simp] theorem dropSwap_ses (w : Swap) (q : Nat) : (s.dropSwap w).ses q = s.ses q := rfl
theorem dropSwap_rest (w : Swap) : (s.dropSwap w).rest = { s.rest with swaps := (s.dropSwap w).swaps } := rfl

/-! ### updLoad -/

@[simp] theorem updLoad_tick (i : Nat) (f : Load → Load) : (s.updLoad i f).tick = s.tick := rfl
@[simp] theorem updLoad_wall (i : Nat) (f : Load → Load) : (s.updLoad i f).wall = s.wall := rfl
@[simp] theorem updLoad_free (i : Nat) (f : Load → Load) : (s.updLoad i f).free = s.free := rfl
@[simp] theorem updLoad_pending (i : Nat) (f : Load → Load) : (s.updLoad i f).pending = s.pending := rfl
@[simp] theorem updLoad_obj (i : Nat) (f : Load → Load) : (s.updLoad i f).obj = s.obj := rfl
@[simp] theorem updLoad_com (i : Nat) (f : Load → Load) : (s.updLoad i f).com = s.com := rfl
@[simp] theorem updLoad_staged (i : Nat) (f : Load → Load) : (s.updLoad i f).staged = s.staged := rfl
@[simp] theorem updLoad_mram (i : Nat) (f : Load → Load) : (s.updLoad i f).mram = s.mram := rfl
@[simp] theorem updLoad_log (i : Nat) (f : Load → Load) : (s.updLoad i f).log = s.log := rfl
@[simp] theorem updLoad_sess (i : Nat) (f : Load → Load) : (s.updLoad i f).sess = s.sess := rfl
@[simp] theorem updLoad_i3c (i : Nat) (f : Load → Load) : (s.updLoad i f).i3c = s.i3c := rfl
@[simp] theorem updLoad_swaps (i : Nat) (f : Load → Load) : (s.updLoad i f).swaps = s.swaps := rfl
@[simp] theorem updLoad_swapId (i : Nat) (f : Load → Load) : (s.updLoad i f).swapId = s.swapId := rfl
@[simp] theorem updLoad_commits (i : Nat) (f : Load → Load) : (s.updLoad i f).commits = s.commits := rfl
@[simp] theorem updLoad_owners (i : Nat) (f : Load → Load) : (s.updLoad i f).owners = s.owners := rfl
@[simp] theorem updLoad_flows (i : Nat) (f : Load → Load) : (s.updLoad i f).flows = s.flows := rfl
@[simp] theorem updLoad_wire (i : Nat) (f : Load → Load) : (s.updLoad i f).wire = s.wire := rfl
@[simp] theorem updLoad_rsv (i : Nat) (f : Load → Load) : (s.updLoad i f).rsv = s.rsv := rfl
@[simp] theorem updLoad_loads (i : Nat) (f : Load → Load) : (s.updLoad i f).loads = s.loads.modify i f := rfl
@[simp] theorem updLoad_trig (i : Nat) (f : Load → Load) : (s.updLoad i f).trig = s.trig := rfl
@[simp] theorem updLoad_planes (i : Nat) (f : Load → Load) : (s.updLoad i f).planes = s.planes := rfl
@[simp] theorem updLoad_chans (i : Nat) (f : Load → Load) : (s.updLoad i f).chans = s.chans := rfl
@[simp] theorem updLoad_conv (i : Nat) (f : Load → Load) : (s.updLoad i f).conv = s.conv := rfl
@[simp] theorem updLoad_tuners (i : Nat) (f : Load → Load) : (s.updLoad i f).tuners = s.tuners := rfl
@[simp] theorem updLoad_ctxs (i : Nat) (f : Load → Load) : (s.updLoad i f).ctxs = s.ctxs := rfl
@[simp] theorem updLoad_dets (i : Nat) (f : Load → Load) : (s.updLoad i f).dets = s.dets := rfl
@[simp] theorem updLoad_shed (i : Nat) (f : Load → Load) : (s.updLoad i f).shed = s.shed := rfl
@[simp] theorem updLoad_gens (i : Nat) (f : Load → Load) : (s.updLoad i f).gens = s.gens := rfl
@[simp] theorem updLoad_formed (i : Nat) (f : Load → Load) : (s.updLoad i f).formed = s.formed := rfl
@[simp] theorem updLoad_twin (i : Nat) (f : Load → Load) : (s.updLoad i f).twin = s.twin := rfl
@[simp] theorem updLoad_clk (i : Nat) (f : Load → Load) : (s.updLoad i f).clk = s.clk := rfl
@[simp] theorem updLoad_plumb (i : Nat) (f : Load → Load) : (s.updLoad i f).plumb = s.plumb := rfl
@[simp] theorem updLoad_ports (i : Nat) (f : Load → Load) : (s.updLoad i f).ports = s.ports := rfl
@[simp] theorem updLoad_opens (i : Nat) (f : Load → Load) : (s.updLoad i f).opens = s.opens := rfl
@[simp] theorem updLoad_openTimes (i : Nat) (f : Load → Load) : (s.updLoad i f).openTimes = s.openTimes := rfl
@[simp] theorem updLoad_anchorAt (i : Nat) (f : Load → Load) : (s.updLoad i f).anchorAt = s.anchorAt := rfl
@[simp] theorem updLoad_signed (i : Nat) (f : Load → Load) : (s.updLoad i f).signed = s.signed := rfl
@[simp] theorem updLoad_movers (i : Nat) (f : Load → Load) : (s.updLoad i f).movers = s.movers := rfl
@[simp] theorem updLoad_scan (i : Nat) (f : Load → Load) : (s.updLoad i f).scan = s.scan := rfl
@[simp] theorem updLoad_pwr (i : Nat) (f : Load → Load) : (s.updLoad i f).pwr = s.pwr := rfl
@[simp] theorem updLoad_upd (i : Nat) (f : Load → Load) : (s.updLoad i f).upd = s.upd := rfl
@[simp] theorem updLoad_sec (i : Nat) (f : Load → Load) : (s.updLoad i f).sec = s.sec := rfl
@[simp] theorem updLoad_start (i : Nat) (f : Load → Load) : (s.updLoad i f).start = s.start := rfl
@[simp] theorem updLoad_rd (i : Nat) (f : Load → Load) (q : Nat) : (s.updLoad i f).rd q = s.rd q := rfl
@[simp] theorem updLoad_rdB (i : Nat) (f : Load → Load) (q : Nat) : (s.updLoad i f).rdB q = s.rdB q := rfl
@[simp] theorem updLoad_rdI (i : Nat) (f : Load → Load) (q : Nat) : (s.updLoad i f).rdI q = s.rdI q := rfl
@[simp] theorem updLoad_rdc (i : Nat) (f : Load → Load) (q : Nat) : (s.updLoad i f).rdc q = s.rdc q := rfl
@[simp] theorem updLoad_ses (i : Nat) (f : Load → Load) (q : Nat) : (s.updLoad i f).ses q = s.ses q := rfl
theorem updLoad_rest (i : Nat) (f : Load → Load) : (s.updLoad i f).rest = { s.rest with loads := (s.updLoad i f).loads } := rfl

/-! ### updFlow -/

@[simp] theorem updFlow_tick (i : Nat) (f : Flow → Flow) : (s.updFlow i f).tick = s.tick := rfl
@[simp] theorem updFlow_wall (i : Nat) (f : Flow → Flow) : (s.updFlow i f).wall = s.wall := rfl
@[simp] theorem updFlow_free (i : Nat) (f : Flow → Flow) : (s.updFlow i f).free = s.free := rfl
@[simp] theorem updFlow_pending (i : Nat) (f : Flow → Flow) : (s.updFlow i f).pending = s.pending := rfl
@[simp] theorem updFlow_obj (i : Nat) (f : Flow → Flow) : (s.updFlow i f).obj = s.obj := rfl
@[simp] theorem updFlow_com (i : Nat) (f : Flow → Flow) : (s.updFlow i f).com = s.com := rfl
@[simp] theorem updFlow_staged (i : Nat) (f : Flow → Flow) : (s.updFlow i f).staged = s.staged := rfl
@[simp] theorem updFlow_mram (i : Nat) (f : Flow → Flow) : (s.updFlow i f).mram = s.mram := rfl
@[simp] theorem updFlow_log (i : Nat) (f : Flow → Flow) : (s.updFlow i f).log = s.log := rfl
@[simp] theorem updFlow_sess (i : Nat) (f : Flow → Flow) : (s.updFlow i f).sess = s.sess := rfl
@[simp] theorem updFlow_i3c (i : Nat) (f : Flow → Flow) : (s.updFlow i f).i3c = s.i3c := rfl
@[simp] theorem updFlow_swaps (i : Nat) (f : Flow → Flow) : (s.updFlow i f).swaps = s.swaps := rfl
@[simp] theorem updFlow_swapId (i : Nat) (f : Flow → Flow) : (s.updFlow i f).swapId = s.swapId := rfl
@[simp] theorem updFlow_commits (i : Nat) (f : Flow → Flow) : (s.updFlow i f).commits = s.commits := rfl
@[simp] theorem updFlow_owners (i : Nat) (f : Flow → Flow) : (s.updFlow i f).owners = s.owners := rfl
@[simp] theorem updFlow_flows (i : Nat) (f : Flow → Flow) : (s.updFlow i f).flows = s.flows.modify i f := rfl
@[simp] theorem updFlow_wire (i : Nat) (f : Flow → Flow) : (s.updFlow i f).wire = s.wire := rfl
@[simp] theorem updFlow_rsv (i : Nat) (f : Flow → Flow) : (s.updFlow i f).rsv = s.rsv := rfl
@[simp] theorem updFlow_loads (i : Nat) (f : Flow → Flow) : (s.updFlow i f).loads = s.loads := rfl
@[simp] theorem updFlow_trig (i : Nat) (f : Flow → Flow) : (s.updFlow i f).trig = s.trig := rfl
@[simp] theorem updFlow_planes (i : Nat) (f : Flow → Flow) : (s.updFlow i f).planes = s.planes := rfl
@[simp] theorem updFlow_chans (i : Nat) (f : Flow → Flow) : (s.updFlow i f).chans = s.chans := rfl
@[simp] theorem updFlow_conv (i : Nat) (f : Flow → Flow) : (s.updFlow i f).conv = s.conv := rfl
@[simp] theorem updFlow_tuners (i : Nat) (f : Flow → Flow) : (s.updFlow i f).tuners = s.tuners := rfl
@[simp] theorem updFlow_ctxs (i : Nat) (f : Flow → Flow) : (s.updFlow i f).ctxs = s.ctxs := rfl
@[simp] theorem updFlow_dets (i : Nat) (f : Flow → Flow) : (s.updFlow i f).dets = s.dets := rfl
@[simp] theorem updFlow_shed (i : Nat) (f : Flow → Flow) : (s.updFlow i f).shed = s.shed := rfl
@[simp] theorem updFlow_gens (i : Nat) (f : Flow → Flow) : (s.updFlow i f).gens = s.gens := rfl
@[simp] theorem updFlow_formed (i : Nat) (f : Flow → Flow) : (s.updFlow i f).formed = s.formed := rfl
@[simp] theorem updFlow_twin (i : Nat) (f : Flow → Flow) : (s.updFlow i f).twin = s.twin := rfl
@[simp] theorem updFlow_clk (i : Nat) (f : Flow → Flow) : (s.updFlow i f).clk = s.clk := rfl
@[simp] theorem updFlow_plumb (i : Nat) (f : Flow → Flow) : (s.updFlow i f).plumb = s.plumb := rfl
@[simp] theorem updFlow_ports (i : Nat) (f : Flow → Flow) : (s.updFlow i f).ports = s.ports := rfl
@[simp] theorem updFlow_opens (i : Nat) (f : Flow → Flow) : (s.updFlow i f).opens = s.opens := rfl
@[simp] theorem updFlow_openTimes (i : Nat) (f : Flow → Flow) : (s.updFlow i f).openTimes = s.openTimes := rfl
@[simp] theorem updFlow_anchorAt (i : Nat) (f : Flow → Flow) : (s.updFlow i f).anchorAt = s.anchorAt := rfl
@[simp] theorem updFlow_signed (i : Nat) (f : Flow → Flow) : (s.updFlow i f).signed = s.signed := rfl
@[simp] theorem updFlow_movers (i : Nat) (f : Flow → Flow) : (s.updFlow i f).movers = s.movers := rfl
@[simp] theorem updFlow_scan (i : Nat) (f : Flow → Flow) : (s.updFlow i f).scan = s.scan := rfl
@[simp] theorem updFlow_pwr (i : Nat) (f : Flow → Flow) : (s.updFlow i f).pwr = s.pwr := rfl
@[simp] theorem updFlow_upd (i : Nat) (f : Flow → Flow) : (s.updFlow i f).upd = s.upd := rfl
@[simp] theorem updFlow_sec (i : Nat) (f : Flow → Flow) : (s.updFlow i f).sec = s.sec := rfl
@[simp] theorem updFlow_start (i : Nat) (f : Flow → Flow) : (s.updFlow i f).start = s.start := rfl
@[simp] theorem updFlow_rd (i : Nat) (f : Flow → Flow) (q : Nat) : (s.updFlow i f).rd q = s.rd q := rfl
@[simp] theorem updFlow_rdB (i : Nat) (f : Flow → Flow) (q : Nat) : (s.updFlow i f).rdB q = s.rdB q := rfl
@[simp] theorem updFlow_rdI (i : Nat) (f : Flow → Flow) (q : Nat) : (s.updFlow i f).rdI q = s.rdI q := rfl
@[simp] theorem updFlow_rdc (i : Nat) (f : Flow → Flow) (q : Nat) : (s.updFlow i f).rdc q = s.rdc q := rfl
@[simp] theorem updFlow_ses (i : Nat) (f : Flow → Flow) (q : Nat) : (s.updFlow i f).ses q = s.ses q := rfl
theorem updFlow_rest (i : Nat) (f : Flow → Flow) : (s.updFlow i f).rest = { s.rest with flows := (s.updFlow i f).flows } := rfl

/-! ### updTuner -/

@[simp] theorem updTuner_tick (i : Nat) (f : Tuner → Tuner) : (s.updTuner i f).tick = s.tick := rfl
@[simp] theorem updTuner_wall (i : Nat) (f : Tuner → Tuner) : (s.updTuner i f).wall = s.wall := rfl
@[simp] theorem updTuner_free (i : Nat) (f : Tuner → Tuner) : (s.updTuner i f).free = s.free := rfl
@[simp] theorem updTuner_pending (i : Nat) (f : Tuner → Tuner) : (s.updTuner i f).pending = s.pending := rfl
@[simp] theorem updTuner_obj (i : Nat) (f : Tuner → Tuner) : (s.updTuner i f).obj = s.obj := rfl
@[simp] theorem updTuner_com (i : Nat) (f : Tuner → Tuner) : (s.updTuner i f).com = s.com := rfl
@[simp] theorem updTuner_staged (i : Nat) (f : Tuner → Tuner) : (s.updTuner i f).staged = s.staged := rfl
@[simp] theorem updTuner_mram (i : Nat) (f : Tuner → Tuner) : (s.updTuner i f).mram = s.mram := rfl
@[simp] theorem updTuner_log (i : Nat) (f : Tuner → Tuner) : (s.updTuner i f).log = s.log := rfl
@[simp] theorem updTuner_sess (i : Nat) (f : Tuner → Tuner) : (s.updTuner i f).sess = s.sess := rfl
@[simp] theorem updTuner_i3c (i : Nat) (f : Tuner → Tuner) : (s.updTuner i f).i3c = s.i3c := rfl
@[simp] theorem updTuner_swaps (i : Nat) (f : Tuner → Tuner) : (s.updTuner i f).swaps = s.swaps := rfl
@[simp] theorem updTuner_swapId (i : Nat) (f : Tuner → Tuner) : (s.updTuner i f).swapId = s.swapId := rfl
@[simp] theorem updTuner_commits (i : Nat) (f : Tuner → Tuner) : (s.updTuner i f).commits = s.commits := rfl
@[simp] theorem updTuner_owners (i : Nat) (f : Tuner → Tuner) : (s.updTuner i f).owners = s.owners := rfl
@[simp] theorem updTuner_flows (i : Nat) (f : Tuner → Tuner) : (s.updTuner i f).flows = s.flows := rfl
@[simp] theorem updTuner_wire (i : Nat) (f : Tuner → Tuner) : (s.updTuner i f).wire = s.wire := rfl
@[simp] theorem updTuner_rsv (i : Nat) (f : Tuner → Tuner) : (s.updTuner i f).rsv = s.rsv := rfl
@[simp] theorem updTuner_loads (i : Nat) (f : Tuner → Tuner) : (s.updTuner i f).loads = s.loads := rfl
@[simp] theorem updTuner_trig (i : Nat) (f : Tuner → Tuner) : (s.updTuner i f).trig = s.trig := rfl
@[simp] theorem updTuner_planes (i : Nat) (f : Tuner → Tuner) : (s.updTuner i f).planes = s.planes := rfl
@[simp] theorem updTuner_chans (i : Nat) (f : Tuner → Tuner) : (s.updTuner i f).chans = s.chans := rfl
@[simp] theorem updTuner_conv (i : Nat) (f : Tuner → Tuner) : (s.updTuner i f).conv = s.conv := rfl
@[simp] theorem updTuner_tuners (i : Nat) (f : Tuner → Tuner) : (s.updTuner i f).tuners = s.tuners.modify i f := rfl
@[simp] theorem updTuner_ctxs (i : Nat) (f : Tuner → Tuner) : (s.updTuner i f).ctxs = s.ctxs := rfl
@[simp] theorem updTuner_dets (i : Nat) (f : Tuner → Tuner) : (s.updTuner i f).dets = s.dets := rfl
@[simp] theorem updTuner_shed (i : Nat) (f : Tuner → Tuner) : (s.updTuner i f).shed = s.shed := rfl
@[simp] theorem updTuner_gens (i : Nat) (f : Tuner → Tuner) : (s.updTuner i f).gens = s.gens := rfl
@[simp] theorem updTuner_formed (i : Nat) (f : Tuner → Tuner) : (s.updTuner i f).formed = s.formed := rfl
@[simp] theorem updTuner_twin (i : Nat) (f : Tuner → Tuner) : (s.updTuner i f).twin = s.twin := rfl
@[simp] theorem updTuner_clk (i : Nat) (f : Tuner → Tuner) : (s.updTuner i f).clk = s.clk := rfl
@[simp] theorem updTuner_plumb (i : Nat) (f : Tuner → Tuner) : (s.updTuner i f).plumb = s.plumb := rfl
@[simp] theorem updTuner_ports (i : Nat) (f : Tuner → Tuner) : (s.updTuner i f).ports = s.ports := rfl
@[simp] theorem updTuner_opens (i : Nat) (f : Tuner → Tuner) : (s.updTuner i f).opens = s.opens := rfl
@[simp] theorem updTuner_openTimes (i : Nat) (f : Tuner → Tuner) : (s.updTuner i f).openTimes = s.openTimes := rfl
@[simp] theorem updTuner_anchorAt (i : Nat) (f : Tuner → Tuner) : (s.updTuner i f).anchorAt = s.anchorAt := rfl
@[simp] theorem updTuner_signed (i : Nat) (f : Tuner → Tuner) : (s.updTuner i f).signed = s.signed := rfl
@[simp] theorem updTuner_movers (i : Nat) (f : Tuner → Tuner) : (s.updTuner i f).movers = s.movers := rfl
@[simp] theorem updTuner_scan (i : Nat) (f : Tuner → Tuner) : (s.updTuner i f).scan = s.scan := rfl
@[simp] theorem updTuner_pwr (i : Nat) (f : Tuner → Tuner) : (s.updTuner i f).pwr = s.pwr := rfl
@[simp] theorem updTuner_upd (i : Nat) (f : Tuner → Tuner) : (s.updTuner i f).upd = s.upd := rfl
@[simp] theorem updTuner_sec (i : Nat) (f : Tuner → Tuner) : (s.updTuner i f).sec = s.sec := rfl
@[simp] theorem updTuner_start (i : Nat) (f : Tuner → Tuner) : (s.updTuner i f).start = s.start := rfl
@[simp] theorem updTuner_rd (i : Nat) (f : Tuner → Tuner) (q : Nat) : (s.updTuner i f).rd q = s.rd q := rfl
@[simp] theorem updTuner_rdB (i : Nat) (f : Tuner → Tuner) (q : Nat) : (s.updTuner i f).rdB q = s.rdB q := rfl
@[simp] theorem updTuner_rdI (i : Nat) (f : Tuner → Tuner) (q : Nat) : (s.updTuner i f).rdI q = s.rdI q := rfl
@[simp] theorem updTuner_rdc (i : Nat) (f : Tuner → Tuner) (q : Nat) : (s.updTuner i f).rdc q = s.rdc q := rfl
@[simp] theorem updTuner_ses (i : Nat) (f : Tuner → Tuner) (q : Nat) : (s.updTuner i f).ses q = s.ses q := rfl
theorem updTuner_rest (i : Nat) (f : Tuner → Tuner) : (s.updTuner i f).rest = { s.rest with tuners := (s.updTuner i f).tuners } := rfl

/-! ### updChan -/

@[simp] theorem updChan_tick (i : Nat) (f : Chan → Chan) : (s.updChan i f).tick = s.tick := rfl
@[simp] theorem updChan_wall (i : Nat) (f : Chan → Chan) : (s.updChan i f).wall = s.wall := rfl
@[simp] theorem updChan_free (i : Nat) (f : Chan → Chan) : (s.updChan i f).free = s.free := rfl
@[simp] theorem updChan_pending (i : Nat) (f : Chan → Chan) : (s.updChan i f).pending = s.pending := rfl
@[simp] theorem updChan_obj (i : Nat) (f : Chan → Chan) : (s.updChan i f).obj = s.obj := rfl
@[simp] theorem updChan_com (i : Nat) (f : Chan → Chan) : (s.updChan i f).com = s.com := rfl
@[simp] theorem updChan_staged (i : Nat) (f : Chan → Chan) : (s.updChan i f).staged = s.staged := rfl
@[simp] theorem updChan_mram (i : Nat) (f : Chan → Chan) : (s.updChan i f).mram = s.mram := rfl
@[simp] theorem updChan_log (i : Nat) (f : Chan → Chan) : (s.updChan i f).log = s.log := rfl
@[simp] theorem updChan_sess (i : Nat) (f : Chan → Chan) : (s.updChan i f).sess = s.sess := rfl
@[simp] theorem updChan_i3c (i : Nat) (f : Chan → Chan) : (s.updChan i f).i3c = s.i3c := rfl
@[simp] theorem updChan_swaps (i : Nat) (f : Chan → Chan) : (s.updChan i f).swaps = s.swaps := rfl
@[simp] theorem updChan_swapId (i : Nat) (f : Chan → Chan) : (s.updChan i f).swapId = s.swapId := rfl
@[simp] theorem updChan_commits (i : Nat) (f : Chan → Chan) : (s.updChan i f).commits = s.commits := rfl
@[simp] theorem updChan_owners (i : Nat) (f : Chan → Chan) : (s.updChan i f).owners = s.owners := rfl
@[simp] theorem updChan_flows (i : Nat) (f : Chan → Chan) : (s.updChan i f).flows = s.flows := rfl
@[simp] theorem updChan_wire (i : Nat) (f : Chan → Chan) : (s.updChan i f).wire = s.wire := rfl
@[simp] theorem updChan_rsv (i : Nat) (f : Chan → Chan) : (s.updChan i f).rsv = s.rsv := rfl
@[simp] theorem updChan_loads (i : Nat) (f : Chan → Chan) : (s.updChan i f).loads = s.loads := rfl
@[simp] theorem updChan_trig (i : Nat) (f : Chan → Chan) : (s.updChan i f).trig = s.trig := rfl
@[simp] theorem updChan_planes (i : Nat) (f : Chan → Chan) : (s.updChan i f).planes = s.planes := rfl
@[simp] theorem updChan_chans (i : Nat) (f : Chan → Chan) : (s.updChan i f).chans = s.chans.modify i f := rfl
@[simp] theorem updChan_conv (i : Nat) (f : Chan → Chan) : (s.updChan i f).conv = s.conv := rfl
@[simp] theorem updChan_tuners (i : Nat) (f : Chan → Chan) : (s.updChan i f).tuners = s.tuners := rfl
@[simp] theorem updChan_ctxs (i : Nat) (f : Chan → Chan) : (s.updChan i f).ctxs = s.ctxs := rfl
@[simp] theorem updChan_dets (i : Nat) (f : Chan → Chan) : (s.updChan i f).dets = s.dets := rfl
@[simp] theorem updChan_shed (i : Nat) (f : Chan → Chan) : (s.updChan i f).shed = s.shed := rfl
@[simp] theorem updChan_gens (i : Nat) (f : Chan → Chan) : (s.updChan i f).gens = s.gens := rfl
@[simp] theorem updChan_formed (i : Nat) (f : Chan → Chan) : (s.updChan i f).formed = s.formed := rfl
@[simp] theorem updChan_twin (i : Nat) (f : Chan → Chan) : (s.updChan i f).twin = s.twin := rfl
@[simp] theorem updChan_clk (i : Nat) (f : Chan → Chan) : (s.updChan i f).clk = s.clk := rfl
@[simp] theorem updChan_plumb (i : Nat) (f : Chan → Chan) : (s.updChan i f).plumb = s.plumb := rfl
@[simp] theorem updChan_ports (i : Nat) (f : Chan → Chan) : (s.updChan i f).ports = s.ports := rfl
@[simp] theorem updChan_opens (i : Nat) (f : Chan → Chan) : (s.updChan i f).opens = s.opens := rfl
@[simp] theorem updChan_openTimes (i : Nat) (f : Chan → Chan) : (s.updChan i f).openTimes = s.openTimes := rfl
@[simp] theorem updChan_anchorAt (i : Nat) (f : Chan → Chan) : (s.updChan i f).anchorAt = s.anchorAt := rfl
@[simp] theorem updChan_signed (i : Nat) (f : Chan → Chan) : (s.updChan i f).signed = s.signed := rfl
@[simp] theorem updChan_movers (i : Nat) (f : Chan → Chan) : (s.updChan i f).movers = s.movers := rfl
@[simp] theorem updChan_scan (i : Nat) (f : Chan → Chan) : (s.updChan i f).scan = s.scan := rfl
@[simp] theorem updChan_pwr (i : Nat) (f : Chan → Chan) : (s.updChan i f).pwr = s.pwr := rfl
@[simp] theorem updChan_upd (i : Nat) (f : Chan → Chan) : (s.updChan i f).upd = s.upd := rfl
@[simp] theorem updChan_sec (i : Nat) (f : Chan → Chan) : (s.updChan i f).sec = s.sec := rfl
@[simp] theorem updChan_start (i : Nat) (f : Chan → Chan) : (s.updChan i f).start = s.start := rfl
@[simp] theorem updChan_rd (i : Nat) (f : Chan → Chan) (q : Nat) : (s.updChan i f).rd q = s.rd q := rfl
@[simp] theorem updChan_rdB (i : Nat) (f : Chan → Chan) (q : Nat) : (s.updChan i f).rdB q = s.rdB q := rfl
@[simp] theorem updChan_rdI (i : Nat) (f : Chan → Chan) (q : Nat) : (s.updChan i f).rdI q = s.rdI q := rfl
@[simp] theorem updChan_rdc (i : Nat) (f : Chan → Chan) (q : Nat) : (s.updChan i f).rdc q = s.rdc q := rfl
@[simp] theorem updChan_ses (i : Nat) (f : Chan → Chan) (q : Nat) : (s.updChan i f).ses q = s.ses q := rfl
theorem updChan_rest (i : Nat) (f : Chan → Chan) : (s.updChan i f).rest = { s.rest with chans := (s.updChan i f).chans } := rfl

/-! ### updPlane -/

@[simp] theorem updPlane_tick (i : Nat) (f : Plane → Plane) : (s.updPlane i f).tick = s.tick := rfl
@[simp] theorem updPlane_wall (i : Nat) (f : Plane → Plane) : (s.updPlane i f).wall = s.wall := rfl
@[simp] theorem updPlane_free (i : Nat) (f : Plane → Plane) : (s.updPlane i f).free = s.free := rfl
@[simp] theorem updPlane_pending (i : Nat) (f : Plane → Plane) : (s.updPlane i f).pending = s.pending := rfl
@[simp] theorem updPlane_obj (i : Nat) (f : Plane → Plane) : (s.updPlane i f).obj = s.obj := rfl
@[simp] theorem updPlane_com (i : Nat) (f : Plane → Plane) : (s.updPlane i f).com = s.com := rfl
@[simp] theorem updPlane_staged (i : Nat) (f : Plane → Plane) : (s.updPlane i f).staged = s.staged := rfl
@[simp] theorem updPlane_mram (i : Nat) (f : Plane → Plane) : (s.updPlane i f).mram = s.mram := rfl
@[simp] theorem updPlane_log (i : Nat) (f : Plane → Plane) : (s.updPlane i f).log = s.log := rfl
@[simp] theorem updPlane_sess (i : Nat) (f : Plane → Plane) : (s.updPlane i f).sess = s.sess := rfl
@[simp] theorem updPlane_i3c (i : Nat) (f : Plane → Plane) : (s.updPlane i f).i3c = s.i3c := rfl
@[simp] theorem updPlane_swaps (i : Nat) (f : Plane → Plane) : (s.updPlane i f).swaps = s.swaps := rfl
@[simp] theorem updPlane_swapId (i : Nat) (f : Plane → Plane) : (s.updPlane i f).swapId = s.swapId := rfl
@[simp] theorem updPlane_commits (i : Nat) (f : Plane → Plane) : (s.updPlane i f).commits = s.commits := rfl
@[simp] theorem updPlane_owners (i : Nat) (f : Plane → Plane) : (s.updPlane i f).owners = s.owners := rfl
@[simp] theorem updPlane_flows (i : Nat) (f : Plane → Plane) : (s.updPlane i f).flows = s.flows := rfl
@[simp] theorem updPlane_wire (i : Nat) (f : Plane → Plane) : (s.updPlane i f).wire = s.wire := rfl
@[simp] theorem updPlane_rsv (i : Nat) (f : Plane → Plane) : (s.updPlane i f).rsv = s.rsv := rfl
@[simp] theorem updPlane_loads (i : Nat) (f : Plane → Plane) : (s.updPlane i f).loads = s.loads := rfl
@[simp] theorem updPlane_trig (i : Nat) (f : Plane → Plane) : (s.updPlane i f).trig = s.trig := rfl
@[simp] theorem updPlane_planes (i : Nat) (f : Plane → Plane) : (s.updPlane i f).planes = s.planes.modify i f := rfl
@[simp] theorem updPlane_chans (i : Nat) (f : Plane → Plane) : (s.updPlane i f).chans = s.chans := rfl
@[simp] theorem updPlane_conv (i : Nat) (f : Plane → Plane) : (s.updPlane i f).conv = s.conv := rfl
@[simp] theorem updPlane_tuners (i : Nat) (f : Plane → Plane) : (s.updPlane i f).tuners = s.tuners := rfl
@[simp] theorem updPlane_ctxs (i : Nat) (f : Plane → Plane) : (s.updPlane i f).ctxs = s.ctxs := rfl
@[simp] theorem updPlane_dets (i : Nat) (f : Plane → Plane) : (s.updPlane i f).dets = s.dets := rfl
@[simp] theorem updPlane_shed (i : Nat) (f : Plane → Plane) : (s.updPlane i f).shed = s.shed := rfl
@[simp] theorem updPlane_gens (i : Nat) (f : Plane → Plane) : (s.updPlane i f).gens = s.gens := rfl
@[simp] theorem updPlane_formed (i : Nat) (f : Plane → Plane) : (s.updPlane i f).formed = s.formed := rfl
@[simp] theorem updPlane_twin (i : Nat) (f : Plane → Plane) : (s.updPlane i f).twin = s.twin := rfl
@[simp] theorem updPlane_clk (i : Nat) (f : Plane → Plane) : (s.updPlane i f).clk = s.clk := rfl
@[simp] theorem updPlane_plumb (i : Nat) (f : Plane → Plane) : (s.updPlane i f).plumb = s.plumb := rfl
@[simp] theorem updPlane_ports (i : Nat) (f : Plane → Plane) : (s.updPlane i f).ports = s.ports := rfl
@[simp] theorem updPlane_opens (i : Nat) (f : Plane → Plane) : (s.updPlane i f).opens = s.opens := rfl
@[simp] theorem updPlane_openTimes (i : Nat) (f : Plane → Plane) : (s.updPlane i f).openTimes = s.openTimes := rfl
@[simp] theorem updPlane_anchorAt (i : Nat) (f : Plane → Plane) : (s.updPlane i f).anchorAt = s.anchorAt := rfl
@[simp] theorem updPlane_signed (i : Nat) (f : Plane → Plane) : (s.updPlane i f).signed = s.signed := rfl
@[simp] theorem updPlane_movers (i : Nat) (f : Plane → Plane) : (s.updPlane i f).movers = s.movers := rfl
@[simp] theorem updPlane_scan (i : Nat) (f : Plane → Plane) : (s.updPlane i f).scan = s.scan := rfl
@[simp] theorem updPlane_pwr (i : Nat) (f : Plane → Plane) : (s.updPlane i f).pwr = s.pwr := rfl
@[simp] theorem updPlane_upd (i : Nat) (f : Plane → Plane) : (s.updPlane i f).upd = s.upd := rfl
@[simp] theorem updPlane_sec (i : Nat) (f : Plane → Plane) : (s.updPlane i f).sec = s.sec := rfl
@[simp] theorem updPlane_start (i : Nat) (f : Plane → Plane) : (s.updPlane i f).start = s.start := rfl
@[simp] theorem updPlane_rd (i : Nat) (f : Plane → Plane) (q : Nat) : (s.updPlane i f).rd q = s.rd q := rfl
@[simp] theorem updPlane_rdB (i : Nat) (f : Plane → Plane) (q : Nat) : (s.updPlane i f).rdB q = s.rdB q := rfl
@[simp] theorem updPlane_rdI (i : Nat) (f : Plane → Plane) (q : Nat) : (s.updPlane i f).rdI q = s.rdI q := rfl
@[simp] theorem updPlane_rdc (i : Nat) (f : Plane → Plane) (q : Nat) : (s.updPlane i f).rdc q = s.rdc q := rfl
@[simp] theorem updPlane_ses (i : Nat) (f : Plane → Plane) (q : Nat) : (s.updPlane i f).ses q = s.ses q := rfl
theorem updPlane_rest (i : Nat) (f : Plane → Plane) : (s.updPlane i f).rest = { s.rest with planes := (s.updPlane i f).planes } := rfl

/-! ### updDet -/

@[simp] theorem updDet_tick (i : Nat) (f : Det → Det) : (s.updDet i f).tick = s.tick := rfl
@[simp] theorem updDet_wall (i : Nat) (f : Det → Det) : (s.updDet i f).wall = s.wall := rfl
@[simp] theorem updDet_free (i : Nat) (f : Det → Det) : (s.updDet i f).free = s.free := rfl
@[simp] theorem updDet_pending (i : Nat) (f : Det → Det) : (s.updDet i f).pending = s.pending := rfl
@[simp] theorem updDet_obj (i : Nat) (f : Det → Det) : (s.updDet i f).obj = s.obj := rfl
@[simp] theorem updDet_com (i : Nat) (f : Det → Det) : (s.updDet i f).com = s.com := rfl
@[simp] theorem updDet_staged (i : Nat) (f : Det → Det) : (s.updDet i f).staged = s.staged := rfl
@[simp] theorem updDet_mram (i : Nat) (f : Det → Det) : (s.updDet i f).mram = s.mram := rfl
@[simp] theorem updDet_log (i : Nat) (f : Det → Det) : (s.updDet i f).log = s.log := rfl
@[simp] theorem updDet_sess (i : Nat) (f : Det → Det) : (s.updDet i f).sess = s.sess := rfl
@[simp] theorem updDet_i3c (i : Nat) (f : Det → Det) : (s.updDet i f).i3c = s.i3c := rfl
@[simp] theorem updDet_swaps (i : Nat) (f : Det → Det) : (s.updDet i f).swaps = s.swaps := rfl
@[simp] theorem updDet_swapId (i : Nat) (f : Det → Det) : (s.updDet i f).swapId = s.swapId := rfl
@[simp] theorem updDet_commits (i : Nat) (f : Det → Det) : (s.updDet i f).commits = s.commits := rfl
@[simp] theorem updDet_owners (i : Nat) (f : Det → Det) : (s.updDet i f).owners = s.owners := rfl
@[simp] theorem updDet_flows (i : Nat) (f : Det → Det) : (s.updDet i f).flows = s.flows := rfl
@[simp] theorem updDet_wire (i : Nat) (f : Det → Det) : (s.updDet i f).wire = s.wire := rfl
@[simp] theorem updDet_rsv (i : Nat) (f : Det → Det) : (s.updDet i f).rsv = s.rsv := rfl
@[simp] theorem updDet_loads (i : Nat) (f : Det → Det) : (s.updDet i f).loads = s.loads := rfl
@[simp] theorem updDet_trig (i : Nat) (f : Det → Det) : (s.updDet i f).trig = s.trig := rfl
@[simp] theorem updDet_planes (i : Nat) (f : Det → Det) : (s.updDet i f).planes = s.planes := rfl
@[simp] theorem updDet_chans (i : Nat) (f : Det → Det) : (s.updDet i f).chans = s.chans := rfl
@[simp] theorem updDet_conv (i : Nat) (f : Det → Det) : (s.updDet i f).conv = s.conv := rfl
@[simp] theorem updDet_tuners (i : Nat) (f : Det → Det) : (s.updDet i f).tuners = s.tuners := rfl
@[simp] theorem updDet_ctxs (i : Nat) (f : Det → Det) : (s.updDet i f).ctxs = s.ctxs := rfl
@[simp] theorem updDet_dets (i : Nat) (f : Det → Det) : (s.updDet i f).dets = s.dets.modify i f := rfl
@[simp] theorem updDet_shed (i : Nat) (f : Det → Det) : (s.updDet i f).shed = s.shed := rfl
@[simp] theorem updDet_gens (i : Nat) (f : Det → Det) : (s.updDet i f).gens = s.gens := rfl
@[simp] theorem updDet_formed (i : Nat) (f : Det → Det) : (s.updDet i f).formed = s.formed := rfl
@[simp] theorem updDet_twin (i : Nat) (f : Det → Det) : (s.updDet i f).twin = s.twin := rfl
@[simp] theorem updDet_clk (i : Nat) (f : Det → Det) : (s.updDet i f).clk = s.clk := rfl
@[simp] theorem updDet_plumb (i : Nat) (f : Det → Det) : (s.updDet i f).plumb = s.plumb := rfl
@[simp] theorem updDet_ports (i : Nat) (f : Det → Det) : (s.updDet i f).ports = s.ports := rfl
@[simp] theorem updDet_opens (i : Nat) (f : Det → Det) : (s.updDet i f).opens = s.opens := rfl
@[simp] theorem updDet_openTimes (i : Nat) (f : Det → Det) : (s.updDet i f).openTimes = s.openTimes := rfl
@[simp] theorem updDet_anchorAt (i : Nat) (f : Det → Det) : (s.updDet i f).anchorAt = s.anchorAt := rfl
@[simp] theorem updDet_signed (i : Nat) (f : Det → Det) : (s.updDet i f).signed = s.signed := rfl
@[simp] theorem updDet_movers (i : Nat) (f : Det → Det) : (s.updDet i f).movers = s.movers := rfl
@[simp] theorem updDet_scan (i : Nat) (f : Det → Det) : (s.updDet i f).scan = s.scan := rfl
@[simp] theorem updDet_pwr (i : Nat) (f : Det → Det) : (s.updDet i f).pwr = s.pwr := rfl
@[simp] theorem updDet_upd (i : Nat) (f : Det → Det) : (s.updDet i f).upd = s.upd := rfl
@[simp] theorem updDet_sec (i : Nat) (f : Det → Det) : (s.updDet i f).sec = s.sec := rfl
@[simp] theorem updDet_start (i : Nat) (f : Det → Det) : (s.updDet i f).start = s.start := rfl
@[simp] theorem updDet_rd (i : Nat) (f : Det → Det) (q : Nat) : (s.updDet i f).rd q = s.rd q := rfl
@[simp] theorem updDet_rdB (i : Nat) (f : Det → Det) (q : Nat) : (s.updDet i f).rdB q = s.rdB q := rfl
@[simp] theorem updDet_rdI (i : Nat) (f : Det → Det) (q : Nat) : (s.updDet i f).rdI q = s.rdI q := rfl
@[simp] theorem updDet_rdc (i : Nat) (f : Det → Det) (q : Nat) : (s.updDet i f).rdc q = s.rdc q := rfl
@[simp] theorem updDet_ses (i : Nat) (f : Det → Det) (q : Nat) : (s.updDet i f).ses q = s.ses q := rfl
theorem updDet_rest (i : Nat) (f : Det → Det) : (s.updDet i f).rest = { s.rest with dets := (s.updDet i f).dets } := rfl

/-! ### updCtx -/

@[simp] theorem updCtx_tick (i : Nat) (f : Ctx → Ctx) : (s.updCtx i f).tick = s.tick := rfl
@[simp] theorem updCtx_wall (i : Nat) (f : Ctx → Ctx) : (s.updCtx i f).wall = s.wall := rfl
@[simp] theorem updCtx_free (i : Nat) (f : Ctx → Ctx) : (s.updCtx i f).free = s.free := rfl
@[simp] theorem updCtx_pending (i : Nat) (f : Ctx → Ctx) : (s.updCtx i f).pending = s.pending := rfl
@[simp] theorem updCtx_obj (i : Nat) (f : Ctx → Ctx) : (s.updCtx i f).obj = s.obj := rfl
@[simp] theorem updCtx_com (i : Nat) (f : Ctx → Ctx) : (s.updCtx i f).com = s.com := rfl
@[simp] theorem updCtx_staged (i : Nat) (f : Ctx → Ctx) : (s.updCtx i f).staged = s.staged := rfl
@[simp] theorem updCtx_mram (i : Nat) (f : Ctx → Ctx) : (s.updCtx i f).mram = s.mram := rfl
@[simp] theorem updCtx_log (i : Nat) (f : Ctx → Ctx) : (s.updCtx i f).log = s.log := rfl
@[simp] theorem updCtx_sess (i : Nat) (f : Ctx → Ctx) : (s.updCtx i f).sess = s.sess := rfl
@[simp] theorem updCtx_i3c (i : Nat) (f : Ctx → Ctx) : (s.updCtx i f).i3c = s.i3c := rfl
@[simp] theorem updCtx_swaps (i : Nat) (f : Ctx → Ctx) : (s.updCtx i f).swaps = s.swaps := rfl
@[simp] theorem updCtx_swapId (i : Nat) (f : Ctx → Ctx) : (s.updCtx i f).swapId = s.swapId := rfl
@[simp] theorem updCtx_commits (i : Nat) (f : Ctx → Ctx) : (s.updCtx i f).commits = s.commits := rfl
@[simp] theorem updCtx_owners (i : Nat) (f : Ctx → Ctx) : (s.updCtx i f).owners = s.owners := rfl
@[simp] theorem updCtx_flows (i : Nat) (f : Ctx → Ctx) : (s.updCtx i f).flows = s.flows := rfl
@[simp] theorem updCtx_wire (i : Nat) (f : Ctx → Ctx) : (s.updCtx i f).wire = s.wire := rfl
@[simp] theorem updCtx_rsv (i : Nat) (f : Ctx → Ctx) : (s.updCtx i f).rsv = s.rsv := rfl
@[simp] theorem updCtx_loads (i : Nat) (f : Ctx → Ctx) : (s.updCtx i f).loads = s.loads := rfl
@[simp] theorem updCtx_trig (i : Nat) (f : Ctx → Ctx) : (s.updCtx i f).trig = s.trig := rfl
@[simp] theorem updCtx_planes (i : Nat) (f : Ctx → Ctx) : (s.updCtx i f).planes = s.planes := rfl
@[simp] theorem updCtx_chans (i : Nat) (f : Ctx → Ctx) : (s.updCtx i f).chans = s.chans := rfl
@[simp] theorem updCtx_conv (i : Nat) (f : Ctx → Ctx) : (s.updCtx i f).conv = s.conv := rfl
@[simp] theorem updCtx_tuners (i : Nat) (f : Ctx → Ctx) : (s.updCtx i f).tuners = s.tuners := rfl
@[simp] theorem updCtx_ctxs (i : Nat) (f : Ctx → Ctx) : (s.updCtx i f).ctxs = s.ctxs.modify i f := rfl
@[simp] theorem updCtx_dets (i : Nat) (f : Ctx → Ctx) : (s.updCtx i f).dets = s.dets := rfl
@[simp] theorem updCtx_shed (i : Nat) (f : Ctx → Ctx) : (s.updCtx i f).shed = s.shed := rfl
@[simp] theorem updCtx_gens (i : Nat) (f : Ctx → Ctx) : (s.updCtx i f).gens = s.gens := rfl
@[simp] theorem updCtx_formed (i : Nat) (f : Ctx → Ctx) : (s.updCtx i f).formed = s.formed := rfl
@[simp] theorem updCtx_twin (i : Nat) (f : Ctx → Ctx) : (s.updCtx i f).twin = s.twin := rfl
@[simp] theorem updCtx_clk (i : Nat) (f : Ctx → Ctx) : (s.updCtx i f).clk = s.clk := rfl
@[simp] theorem updCtx_plumb (i : Nat) (f : Ctx → Ctx) : (s.updCtx i f).plumb = s.plumb := rfl
@[simp] theorem updCtx_ports (i : Nat) (f : Ctx → Ctx) : (s.updCtx i f).ports = s.ports := rfl
@[simp] theorem updCtx_opens (i : Nat) (f : Ctx → Ctx) : (s.updCtx i f).opens = s.opens := rfl
@[simp] theorem updCtx_openTimes (i : Nat) (f : Ctx → Ctx) : (s.updCtx i f).openTimes = s.openTimes := rfl
@[simp] theorem updCtx_anchorAt (i : Nat) (f : Ctx → Ctx) : (s.updCtx i f).anchorAt = s.anchorAt := rfl
@[simp] theorem updCtx_signed (i : Nat) (f : Ctx → Ctx) : (s.updCtx i f).signed = s.signed := rfl
@[simp] theorem updCtx_movers (i : Nat) (f : Ctx → Ctx) : (s.updCtx i f).movers = s.movers := rfl
@[simp] theorem updCtx_scan (i : Nat) (f : Ctx → Ctx) : (s.updCtx i f).scan = s.scan := rfl
@[simp] theorem updCtx_pwr (i : Nat) (f : Ctx → Ctx) : (s.updCtx i f).pwr = s.pwr := rfl
@[simp] theorem updCtx_upd (i : Nat) (f : Ctx → Ctx) : (s.updCtx i f).upd = s.upd := rfl
@[simp] theorem updCtx_sec (i : Nat) (f : Ctx → Ctx) : (s.updCtx i f).sec = s.sec := rfl
@[simp] theorem updCtx_start (i : Nat) (f : Ctx → Ctx) : (s.updCtx i f).start = s.start := rfl
@[simp] theorem updCtx_rd (i : Nat) (f : Ctx → Ctx) (q : Nat) : (s.updCtx i f).rd q = s.rd q := rfl
@[simp] theorem updCtx_rdB (i : Nat) (f : Ctx → Ctx) (q : Nat) : (s.updCtx i f).rdB q = s.rdB q := rfl
@[simp] theorem updCtx_rdI (i : Nat) (f : Ctx → Ctx) (q : Nat) : (s.updCtx i f).rdI q = s.rdI q := rfl
@[simp] theorem updCtx_rdc (i : Nat) (f : Ctx → Ctx) (q : Nat) : (s.updCtx i f).rdc q = s.rdc q := rfl
@[simp] theorem updCtx_ses (i : Nat) (f : Ctx → Ctx) (q : Nat) : (s.updCtx i f).ses q = s.ses q := rfl
theorem updCtx_rest (i : Nat) (f : Ctx → Ctx) : (s.updCtx i f).rest = { s.rest with ctxs := (s.updCtx i f).ctxs } := rfl

/-! ### updMover -/

@[simp] theorem updMover_tick (i : Nat) (f : Mover → Mover) : (s.updMover i f).tick = s.tick := rfl
@[simp] theorem updMover_wall (i : Nat) (f : Mover → Mover) : (s.updMover i f).wall = s.wall := rfl
@[simp] theorem updMover_free (i : Nat) (f : Mover → Mover) : (s.updMover i f).free = s.free := rfl
@[simp] theorem updMover_pending (i : Nat) (f : Mover → Mover) : (s.updMover i f).pending = s.pending := rfl
@[simp] theorem updMover_obj (i : Nat) (f : Mover → Mover) : (s.updMover i f).obj = s.obj := rfl
@[simp] theorem updMover_com (i : Nat) (f : Mover → Mover) : (s.updMover i f).com = s.com := rfl
@[simp] theorem updMover_staged (i : Nat) (f : Mover → Mover) : (s.updMover i f).staged = s.staged := rfl
@[simp] theorem updMover_mram (i : Nat) (f : Mover → Mover) : (s.updMover i f).mram = s.mram := rfl
@[simp] theorem updMover_log (i : Nat) (f : Mover → Mover) : (s.updMover i f).log = s.log := rfl
@[simp] theorem updMover_sess (i : Nat) (f : Mover → Mover) : (s.updMover i f).sess = s.sess := rfl
@[simp] theorem updMover_i3c (i : Nat) (f : Mover → Mover) : (s.updMover i f).i3c = s.i3c := rfl
@[simp] theorem updMover_swaps (i : Nat) (f : Mover → Mover) : (s.updMover i f).swaps = s.swaps := rfl
@[simp] theorem updMover_swapId (i : Nat) (f : Mover → Mover) : (s.updMover i f).swapId = s.swapId := rfl
@[simp] theorem updMover_commits (i : Nat) (f : Mover → Mover) : (s.updMover i f).commits = s.commits := rfl
@[simp] theorem updMover_owners (i : Nat) (f : Mover → Mover) : (s.updMover i f).owners = s.owners := rfl
@[simp] theorem updMover_flows (i : Nat) (f : Mover → Mover) : (s.updMover i f).flows = s.flows := rfl
@[simp] theorem updMover_wire (i : Nat) (f : Mover → Mover) : (s.updMover i f).wire = s.wire := rfl
@[simp] theorem updMover_rsv (i : Nat) (f : Mover → Mover) : (s.updMover i f).rsv = s.rsv := rfl
@[simp] theorem updMover_loads (i : Nat) (f : Mover → Mover) : (s.updMover i f).loads = s.loads := rfl
@[simp] theorem updMover_trig (i : Nat) (f : Mover → Mover) : (s.updMover i f).trig = s.trig := rfl
@[simp] theorem updMover_planes (i : Nat) (f : Mover → Mover) : (s.updMover i f).planes = s.planes := rfl
@[simp] theorem updMover_chans (i : Nat) (f : Mover → Mover) : (s.updMover i f).chans = s.chans := rfl
@[simp] theorem updMover_conv (i : Nat) (f : Mover → Mover) : (s.updMover i f).conv = s.conv := rfl
@[simp] theorem updMover_tuners (i : Nat) (f : Mover → Mover) : (s.updMover i f).tuners = s.tuners := rfl
@[simp] theorem updMover_ctxs (i : Nat) (f : Mover → Mover) : (s.updMover i f).ctxs = s.ctxs := rfl
@[simp] theorem updMover_dets (i : Nat) (f : Mover → Mover) : (s.updMover i f).dets = s.dets := rfl
@[simp] theorem updMover_shed (i : Nat) (f : Mover → Mover) : (s.updMover i f).shed = s.shed := rfl
@[simp] theorem updMover_gens (i : Nat) (f : Mover → Mover) : (s.updMover i f).gens = s.gens := rfl
@[simp] theorem updMover_formed (i : Nat) (f : Mover → Mover) : (s.updMover i f).formed = s.formed := rfl
@[simp] theorem updMover_twin (i : Nat) (f : Mover → Mover) : (s.updMover i f).twin = s.twin := rfl
@[simp] theorem updMover_clk (i : Nat) (f : Mover → Mover) : (s.updMover i f).clk = s.clk := rfl
@[simp] theorem updMover_plumb (i : Nat) (f : Mover → Mover) : (s.updMover i f).plumb = s.plumb := rfl
@[simp] theorem updMover_ports (i : Nat) (f : Mover → Mover) : (s.updMover i f).ports = s.ports := rfl
@[simp] theorem updMover_opens (i : Nat) (f : Mover → Mover) : (s.updMover i f).opens = s.opens := rfl
@[simp] theorem updMover_openTimes (i : Nat) (f : Mover → Mover) : (s.updMover i f).openTimes = s.openTimes := rfl
@[simp] theorem updMover_anchorAt (i : Nat) (f : Mover → Mover) : (s.updMover i f).anchorAt = s.anchorAt := rfl
@[simp] theorem updMover_signed (i : Nat) (f : Mover → Mover) : (s.updMover i f).signed = s.signed := rfl
@[simp] theorem updMover_movers (i : Nat) (f : Mover → Mover) : (s.updMover i f).movers = s.movers.modify i f := rfl
@[simp] theorem updMover_scan (i : Nat) (f : Mover → Mover) : (s.updMover i f).scan = s.scan := rfl
@[simp] theorem updMover_pwr (i : Nat) (f : Mover → Mover) : (s.updMover i f).pwr = s.pwr := rfl
@[simp] theorem updMover_upd (i : Nat) (f : Mover → Mover) : (s.updMover i f).upd = s.upd := rfl
@[simp] theorem updMover_sec (i : Nat) (f : Mover → Mover) : (s.updMover i f).sec = s.sec := rfl
@[simp] theorem updMover_start (i : Nat) (f : Mover → Mover) : (s.updMover i f).start = s.start := rfl
@[simp] theorem updMover_rd (i : Nat) (f : Mover → Mover) (q : Nat) : (s.updMover i f).rd q = s.rd q := rfl
@[simp] theorem updMover_rdB (i : Nat) (f : Mover → Mover) (q : Nat) : (s.updMover i f).rdB q = s.rdB q := rfl
@[simp] theorem updMover_rdI (i : Nat) (f : Mover → Mover) (q : Nat) : (s.updMover i f).rdI q = s.rdI q := rfl
@[simp] theorem updMover_rdc (i : Nat) (f : Mover → Mover) (q : Nat) : (s.updMover i f).rdc q = s.rdc q := rfl
@[simp] theorem updMover_ses (i : Nat) (f : Mover → Mover) (q : Nat) : (s.updMover i f).ses q = s.ses q := rfl
theorem updMover_rest (i : Nat) (f : Mover → Mover) : (s.updMover i f).rest = { s.rest with movers := (s.updMover i f).movers } := rfl

/-! ### updPort -/

@[simp] theorem updPort_tick (i : Nat) (f : PortRt → PortRt) : (s.updPort i f).tick = s.tick := rfl
@[simp] theorem updPort_wall (i : Nat) (f : PortRt → PortRt) : (s.updPort i f).wall = s.wall := rfl
@[simp] theorem updPort_free (i : Nat) (f : PortRt → PortRt) : (s.updPort i f).free = s.free := rfl
@[simp] theorem updPort_pending (i : Nat) (f : PortRt → PortRt) : (s.updPort i f).pending = s.pending := rfl
@[simp] theorem updPort_obj (i : Nat) (f : PortRt → PortRt) : (s.updPort i f).obj = s.obj := rfl
@[simp] theorem updPort_com (i : Nat) (f : PortRt → PortRt) : (s.updPort i f).com = s.com := rfl
@[simp] theorem updPort_staged (i : Nat) (f : PortRt → PortRt) : (s.updPort i f).staged = s.staged := rfl
@[simp] theorem updPort_mram (i : Nat) (f : PortRt → PortRt) : (s.updPort i f).mram = s.mram := rfl
@[simp] theorem updPort_log (i : Nat) (f : PortRt → PortRt) : (s.updPort i f).log = s.log := rfl
@[simp] theorem updPort_sess (i : Nat) (f : PortRt → PortRt) : (s.updPort i f).sess = s.sess := rfl
@[simp] theorem updPort_i3c (i : Nat) (f : PortRt → PortRt) : (s.updPort i f).i3c = s.i3c := rfl
@[simp] theorem updPort_swaps (i : Nat) (f : PortRt → PortRt) : (s.updPort i f).swaps = s.swaps := rfl
@[simp] theorem updPort_swapId (i : Nat) (f : PortRt → PortRt) : (s.updPort i f).swapId = s.swapId := rfl
@[simp] theorem updPort_commits (i : Nat) (f : PortRt → PortRt) : (s.updPort i f).commits = s.commits := rfl
@[simp] theorem updPort_owners (i : Nat) (f : PortRt → PortRt) : (s.updPort i f).owners = s.owners := rfl
@[simp] theorem updPort_flows (i : Nat) (f : PortRt → PortRt) : (s.updPort i f).flows = s.flows := rfl
@[simp] theorem updPort_wire (i : Nat) (f : PortRt → PortRt) : (s.updPort i f).wire = s.wire := rfl
@[simp] theorem updPort_rsv (i : Nat) (f : PortRt → PortRt) : (s.updPort i f).rsv = s.rsv := rfl
@[simp] theorem updPort_loads (i : Nat) (f : PortRt → PortRt) : (s.updPort i f).loads = s.loads := rfl
@[simp] theorem updPort_trig (i : Nat) (f : PortRt → PortRt) : (s.updPort i f).trig = s.trig := rfl
@[simp] theorem updPort_planes (i : Nat) (f : PortRt → PortRt) : (s.updPort i f).planes = s.planes := rfl
@[simp] theorem updPort_chans (i : Nat) (f : PortRt → PortRt) : (s.updPort i f).chans = s.chans := rfl
@[simp] theorem updPort_conv (i : Nat) (f : PortRt → PortRt) : (s.updPort i f).conv = s.conv := rfl
@[simp] theorem updPort_tuners (i : Nat) (f : PortRt → PortRt) : (s.updPort i f).tuners = s.tuners := rfl
@[simp] theorem updPort_ctxs (i : Nat) (f : PortRt → PortRt) : (s.updPort i f).ctxs = s.ctxs := rfl
@[simp] theorem updPort_dets (i : Nat) (f : PortRt → PortRt) : (s.updPort i f).dets = s.dets := rfl
@[simp] theorem updPort_shed (i : Nat) (f : PortRt → PortRt) : (s.updPort i f).shed = s.shed := rfl
@[simp] theorem updPort_gens (i : Nat) (f : PortRt → PortRt) : (s.updPort i f).gens = s.gens := rfl
@[simp] theorem updPort_formed (i : Nat) (f : PortRt → PortRt) : (s.updPort i f).formed = s.formed := rfl
@[simp] theorem updPort_twin (i : Nat) (f : PortRt → PortRt) : (s.updPort i f).twin = s.twin := rfl
@[simp] theorem updPort_clk (i : Nat) (f : PortRt → PortRt) : (s.updPort i f).clk = s.clk := rfl
@[simp] theorem updPort_plumb (i : Nat) (f : PortRt → PortRt) : (s.updPort i f).plumb = s.plumb := rfl
@[simp] theorem updPort_ports (i : Nat) (f : PortRt → PortRt) : (s.updPort i f).ports = s.ports.modify i f := rfl
@[simp] theorem updPort_opens (i : Nat) (f : PortRt → PortRt) : (s.updPort i f).opens = s.opens := rfl
@[simp] theorem updPort_openTimes (i : Nat) (f : PortRt → PortRt) : (s.updPort i f).openTimes = s.openTimes := rfl
@[simp] theorem updPort_anchorAt (i : Nat) (f : PortRt → PortRt) : (s.updPort i f).anchorAt = s.anchorAt := rfl
@[simp] theorem updPort_signed (i : Nat) (f : PortRt → PortRt) : (s.updPort i f).signed = s.signed := rfl
@[simp] theorem updPort_movers (i : Nat) (f : PortRt → PortRt) : (s.updPort i f).movers = s.movers := rfl
@[simp] theorem updPort_scan (i : Nat) (f : PortRt → PortRt) : (s.updPort i f).scan = s.scan := rfl
@[simp] theorem updPort_pwr (i : Nat) (f : PortRt → PortRt) : (s.updPort i f).pwr = s.pwr := rfl
@[simp] theorem updPort_upd (i : Nat) (f : PortRt → PortRt) : (s.updPort i f).upd = s.upd := rfl
@[simp] theorem updPort_sec (i : Nat) (f : PortRt → PortRt) : (s.updPort i f).sec = s.sec := rfl
@[simp] theorem updPort_start (i : Nat) (f : PortRt → PortRt) : (s.updPort i f).start = s.start := rfl
@[simp] theorem updPort_rd (i : Nat) (f : PortRt → PortRt) (q : Nat) : (s.updPort i f).rd q = s.rd q := rfl
@[simp] theorem updPort_rdB (i : Nat) (f : PortRt → PortRt) (q : Nat) : (s.updPort i f).rdB q = s.rdB q := rfl
@[simp] theorem updPort_rdI (i : Nat) (f : PortRt → PortRt) (q : Nat) : (s.updPort i f).rdI q = s.rdI q := rfl
@[simp] theorem updPort_rdc (i : Nat) (f : PortRt → PortRt) (q : Nat) : (s.updPort i f).rdc q = s.rdc q := rfl
@[simp] theorem updPort_ses (i : Nat) (f : PortRt → PortRt) (q : Nat) : (s.updPort i f).ses q = s.ses q := rfl
theorem updPort_rest (i : Nat) (f : PortRt → PortRt) : (s.updPort i f).rest = { s.rest with ports := (s.updPort i f).ports } := rfl

/-! ### updClk -/

@[simp] theorem updClk_tick (f : Clk → Clk) : (s.updClk f).tick = s.tick := rfl
@[simp] theorem updClk_wall (f : Clk → Clk) : (s.updClk f).wall = s.wall := rfl
@[simp] theorem updClk_free (f : Clk → Clk) : (s.updClk f).free = s.free := rfl
@[simp] theorem updClk_pending (f : Clk → Clk) : (s.updClk f).pending = s.pending := rfl
@[simp] theorem updClk_obj (f : Clk → Clk) : (s.updClk f).obj = s.obj := rfl
@[simp] theorem updClk_com (f : Clk → Clk) : (s.updClk f).com = s.com := rfl
@[simp] theorem updClk_staged (f : Clk → Clk) : (s.updClk f).staged = s.staged := rfl
@[simp] theorem updClk_mram (f : Clk → Clk) : (s.updClk f).mram = s.mram := rfl
@[simp] theorem updClk_log (f : Clk → Clk) : (s.updClk f).log = s.log := rfl
@[simp] theorem updClk_sess (f : Clk → Clk) : (s.updClk f).sess = s.sess := rfl
@[simp] theorem updClk_i3c (f : Clk → Clk) : (s.updClk f).i3c = s.i3c := rfl
@[simp] theorem updClk_swaps (f : Clk → Clk) : (s.updClk f).swaps = s.swaps := rfl
@[simp] theorem updClk_swapId (f : Clk → Clk) : (s.updClk f).swapId = s.swapId := rfl
@[simp] theorem updClk_commits (f : Clk → Clk) : (s.updClk f).commits = s.commits := rfl
@[simp] theorem updClk_owners (f : Clk → Clk) : (s.updClk f).owners = s.owners := rfl
@[simp] theorem updClk_flows (f : Clk → Clk) : (s.updClk f).flows = s.flows := rfl
@[simp] theorem updClk_wire (f : Clk → Clk) : (s.updClk f).wire = s.wire := rfl
@[simp] theorem updClk_rsv (f : Clk → Clk) : (s.updClk f).rsv = s.rsv := rfl
@[simp] theorem updClk_loads (f : Clk → Clk) : (s.updClk f).loads = s.loads := rfl
@[simp] theorem updClk_trig (f : Clk → Clk) : (s.updClk f).trig = s.trig := rfl
@[simp] theorem updClk_planes (f : Clk → Clk) : (s.updClk f).planes = s.planes := rfl
@[simp] theorem updClk_chans (f : Clk → Clk) : (s.updClk f).chans = s.chans := rfl
@[simp] theorem updClk_conv (f : Clk → Clk) : (s.updClk f).conv = s.conv := rfl
@[simp] theorem updClk_tuners (f : Clk → Clk) : (s.updClk f).tuners = s.tuners := rfl
@[simp] theorem updClk_ctxs (f : Clk → Clk) : (s.updClk f).ctxs = s.ctxs := rfl
@[simp] theorem updClk_dets (f : Clk → Clk) : (s.updClk f).dets = s.dets := rfl
@[simp] theorem updClk_shed (f : Clk → Clk) : (s.updClk f).shed = s.shed := rfl
@[simp] theorem updClk_gens (f : Clk → Clk) : (s.updClk f).gens = s.gens := rfl
@[simp] theorem updClk_formed (f : Clk → Clk) : (s.updClk f).formed = s.formed := rfl
@[simp] theorem updClk_twin (f : Clk → Clk) : (s.updClk f).twin = s.twin := rfl
@[simp] theorem updClk_clk (f : Clk → Clk) : (s.updClk f).clk = f s.clk := rfl
@[simp] theorem updClk_plumb (f : Clk → Clk) : (s.updClk f).plumb = s.plumb := rfl
@[simp] theorem updClk_ports (f : Clk → Clk) : (s.updClk f).ports = s.ports := rfl
@[simp] theorem updClk_opens (f : Clk → Clk) : (s.updClk f).opens = s.opens := rfl
@[simp] theorem updClk_openTimes (f : Clk → Clk) : (s.updClk f).openTimes = s.openTimes := rfl
@[simp] theorem updClk_anchorAt (f : Clk → Clk) : (s.updClk f).anchorAt = s.anchorAt := rfl
@[simp] theorem updClk_signed (f : Clk → Clk) : (s.updClk f).signed = s.signed := rfl
@[simp] theorem updClk_movers (f : Clk → Clk) : (s.updClk f).movers = s.movers := rfl
@[simp] theorem updClk_scan (f : Clk → Clk) : (s.updClk f).scan = s.scan := rfl
@[simp] theorem updClk_pwr (f : Clk → Clk) : (s.updClk f).pwr = s.pwr := rfl
@[simp] theorem updClk_upd (f : Clk → Clk) : (s.updClk f).upd = s.upd := rfl
@[simp] theorem updClk_sec (f : Clk → Clk) : (s.updClk f).sec = s.sec := rfl
@[simp] theorem updClk_start (f : Clk → Clk) : (s.updClk f).start = s.start := rfl
@[simp] theorem updClk_rd (f : Clk → Clk) (q : Nat) : (s.updClk f).rd q = s.rd q := rfl
@[simp] theorem updClk_rdB (f : Clk → Clk) (q : Nat) : (s.updClk f).rdB q = s.rdB q := rfl
@[simp] theorem updClk_rdI (f : Clk → Clk) (q : Nat) : (s.updClk f).rdI q = s.rdI q := rfl
@[simp] theorem updClk_rdc (f : Clk → Clk) (q : Nat) : (s.updClk f).rdc q = s.rdc q := rfl
@[simp] theorem updClk_ses (f : Clk → Clk) (q : Nat) : (s.updClk f).ses q = s.ses q := rfl
theorem updClk_rest (f : Clk → Clk) : (s.updClk f).rest = { s.rest with clk := (s.updClk f).clk } := rfl

/-! ### updConv -/

@[simp] theorem updConv_tick (f : ConvGlobal → ConvGlobal) : (s.updConv f).tick = s.tick := rfl
@[simp] theorem updConv_wall (f : ConvGlobal → ConvGlobal) : (s.updConv f).wall = s.wall := rfl
@[simp] theorem updConv_free (f : ConvGlobal → ConvGlobal) : (s.updConv f).free = s.free := rfl
@[simp] theorem updConv_pending (f : ConvGlobal → ConvGlobal) : (s.updConv f).pending = s.pending := rfl
@[simp] theorem updConv_obj (f : ConvGlobal → ConvGlobal) : (s.updConv f).obj = s.obj := rfl
@[simp] theorem updConv_com (f : ConvGlobal → ConvGlobal) : (s.updConv f).com = s.com := rfl
@[simp] theorem updConv_staged (f : ConvGlobal → ConvGlobal) : (s.updConv f).staged = s.staged := rfl
@[simp] theorem updConv_mram (f : ConvGlobal → ConvGlobal) : (s.updConv f).mram = s.mram := rfl
@[simp] theorem updConv_log (f : ConvGlobal → ConvGlobal) : (s.updConv f).log = s.log := rfl
@[simp] theorem updConv_sess (f : ConvGlobal → ConvGlobal) : (s.updConv f).sess = s.sess := rfl
@[simp] theorem updConv_i3c (f : ConvGlobal → ConvGlobal) : (s.updConv f).i3c = s.i3c := rfl
@[simp] theorem updConv_swaps (f : ConvGlobal → ConvGlobal) : (s.updConv f).swaps = s.swaps := rfl
@[simp] theorem updConv_swapId (f : ConvGlobal → ConvGlobal) : (s.updConv f).swapId = s.swapId := rfl
@[simp] theorem updConv_commits (f : ConvGlobal → ConvGlobal) : (s.updConv f).commits = s.commits := rfl
@[simp] theorem updConv_owners (f : ConvGlobal → ConvGlobal) : (s.updConv f).owners = s.owners := rfl
@[simp] theorem updConv_flows (f : ConvGlobal → ConvGlobal) : (s.updConv f).flows = s.flows := rfl
@[simp] theorem updConv_wire (f : ConvGlobal → ConvGlobal) : (s.updConv f).wire = s.wire := rfl
@[simp] theorem updConv_rsv (f : ConvGlobal → ConvGlobal) : (s.updConv f).rsv = s.rsv := rfl
@[simp] theorem updConv_loads (f : ConvGlobal → ConvGlobal) : (s.updConv f).loads = s.loads := rfl
@[simp] theorem updConv_trig (f : ConvGlobal → ConvGlobal) : (s.updConv f).trig = s.trig := rfl
@[simp] theorem updConv_planes (f : ConvGlobal → ConvGlobal) : (s.updConv f).planes = s.planes := rfl
@[simp] theorem updConv_chans (f : ConvGlobal → ConvGlobal) : (s.updConv f).chans = s.chans := rfl
@[simp] theorem updConv_conv (f : ConvGlobal → ConvGlobal) : (s.updConv f).conv = f s.conv := rfl
@[simp] theorem updConv_tuners (f : ConvGlobal → ConvGlobal) : (s.updConv f).tuners = s.tuners := rfl
@[simp] theorem updConv_ctxs (f : ConvGlobal → ConvGlobal) : (s.updConv f).ctxs = s.ctxs := rfl
@[simp] theorem updConv_dets (f : ConvGlobal → ConvGlobal) : (s.updConv f).dets = s.dets := rfl
@[simp] theorem updConv_shed (f : ConvGlobal → ConvGlobal) : (s.updConv f).shed = s.shed := rfl
@[simp] theorem updConv_gens (f : ConvGlobal → ConvGlobal) : (s.updConv f).gens = s.gens := rfl
@[simp] theorem updConv_formed (f : ConvGlobal → ConvGlobal) : (s.updConv f).formed = s.formed := rfl
@[simp] theorem updConv_twin (f : ConvGlobal → ConvGlobal) : (s.updConv f).twin = s.twin := rfl
@[simp] theorem updConv_clk (f : ConvGlobal → ConvGlobal) : (s.updConv f).clk = s.clk := rfl
@[simp] theorem updConv_plumb (f : ConvGlobal → ConvGlobal) : (s.updConv f).plumb = s.plumb := rfl
@[simp] theorem updConv_ports (f : ConvGlobal → ConvGlobal) : (s.updConv f).ports = s.ports := rfl
@[simp] theorem updConv_opens (f : ConvGlobal → ConvGlobal) : (s.updConv f).opens = s.opens := rfl
@[simp] theorem updConv_openTimes (f : ConvGlobal → ConvGlobal) : (s.updConv f).openTimes = s.openTimes := rfl
@[simp] theorem updConv_anchorAt (f : ConvGlobal → ConvGlobal) : (s.updConv f).anchorAt = s.anchorAt := rfl
@[simp] theorem updConv_signed (f : ConvGlobal → ConvGlobal) : (s.updConv f).signed = s.signed := rfl
@[simp] theorem updConv_movers (f : ConvGlobal → ConvGlobal) : (s.updConv f).movers = s.movers := rfl
@[simp] theorem updConv_scan (f : ConvGlobal → ConvGlobal) : (s.updConv f).scan = s.scan := rfl
@[simp] theorem updConv_pwr (f : ConvGlobal → ConvGlobal) : (s.updConv f).pwr = s.pwr := rfl
@[simp] theorem updConv_upd (f : ConvGlobal → ConvGlobal) : (s.updConv f).upd = s.upd := rfl
@[simp] theorem updConv_sec (f : ConvGlobal → ConvGlobal) : (s.updConv f).sec = s.sec := rfl
@[simp] theorem updConv_start (f : ConvGlobal → ConvGlobal) : (s.updConv f).start = s.start := rfl
@[simp] theorem updConv_rd (f : ConvGlobal → ConvGlobal) (q : Nat) : (s.updConv f).rd q = s.rd q := rfl
@[simp] theorem updConv_rdB (f : ConvGlobal → ConvGlobal) (q : Nat) : (s.updConv f).rdB q = s.rdB q := rfl
@[simp] theorem updConv_rdI (f : ConvGlobal → ConvGlobal) (q : Nat) : (s.updConv f).rdI q = s.rdI q := rfl
@[simp] theorem updConv_rdc (f : ConvGlobal → ConvGlobal) (q : Nat) : (s.updConv f).rdc q = s.rdc q := rfl
@[simp] theorem updConv_ses (f : ConvGlobal → ConvGlobal) (q : Nat) : (s.updConv f).ses q = s.ses q := rfl
theorem updConv_rest (f : ConvGlobal → ConvGlobal) : (s.updConv f).rest = { s.rest with conv := (s.updConv f).conv } := rfl

/-! ### updPlumb -/

@[simp] theorem updPlumb_tick (f : Plumb → Plumb) : (s.updPlumb f).tick = s.tick := rfl
@[simp] theorem updPlumb_wall (f : Plumb → Plumb) : (s.updPlumb f).wall = s.wall := rfl
@[simp] theorem updPlumb_free (f : Plumb → Plumb) : (s.updPlumb f).free = s.free := rfl
@[simp] theorem updPlumb_pending (f : Plumb → Plumb) : (s.updPlumb f).pending = s.pending := rfl
@[simp] theorem updPlumb_obj (f : Plumb → Plumb) : (s.updPlumb f).obj = s.obj := rfl
@[simp] theorem updPlumb_com (f : Plumb → Plumb) : (s.updPlumb f).com = s.com := rfl
@[simp] theorem updPlumb_staged (f : Plumb → Plumb) : (s.updPlumb f).staged = s.staged := rfl
@[simp] theorem updPlumb_mram (f : Plumb → Plumb) : (s.updPlumb f).mram = s.mram := rfl
@[simp] theorem updPlumb_log (f : Plumb → Plumb) : (s.updPlumb f).log = s.log := rfl
@[simp] theorem updPlumb_sess (f : Plumb → Plumb) : (s.updPlumb f).sess = s.sess := rfl
@[simp] theorem updPlumb_i3c (f : Plumb → Plumb) : (s.updPlumb f).i3c = s.i3c := rfl
@[simp] theorem updPlumb_swaps (f : Plumb → Plumb) : (s.updPlumb f).swaps = s.swaps := rfl
@[simp] theorem updPlumb_swapId (f : Plumb → Plumb) : (s.updPlumb f).swapId = s.swapId := rfl
@[simp] theorem updPlumb_commits (f : Plumb → Plumb) : (s.updPlumb f).commits = s.commits := rfl
@[simp] theorem updPlumb_owners (f : Plumb → Plumb) : (s.updPlumb f).owners = s.owners := rfl
@[simp] theorem updPlumb_flows (f : Plumb → Plumb) : (s.updPlumb f).flows = s.flows := rfl
@[simp] theorem updPlumb_wire (f : Plumb → Plumb) : (s.updPlumb f).wire = s.wire := rfl
@[simp] theorem updPlumb_rsv (f : Plumb → Plumb) : (s.updPlumb f).rsv = s.rsv := rfl
@[simp] theorem updPlumb_loads (f : Plumb → Plumb) : (s.updPlumb f).loads = s.loads := rfl
@[simp] theorem updPlumb_trig (f : Plumb → Plumb) : (s.updPlumb f).trig = s.trig := rfl
@[simp] theorem updPlumb_planes (f : Plumb → Plumb) : (s.updPlumb f).planes = s.planes := rfl
@[simp] theorem updPlumb_chans (f : Plumb → Plumb) : (s.updPlumb f).chans = s.chans := rfl
@[simp] theorem updPlumb_conv (f : Plumb → Plumb) : (s.updPlumb f).conv = s.conv := rfl
@[simp] theorem updPlumb_tuners (f : Plumb → Plumb) : (s.updPlumb f).tuners = s.tuners := rfl
@[simp] theorem updPlumb_ctxs (f : Plumb → Plumb) : (s.updPlumb f).ctxs = s.ctxs := rfl
@[simp] theorem updPlumb_dets (f : Plumb → Plumb) : (s.updPlumb f).dets = s.dets := rfl
@[simp] theorem updPlumb_shed (f : Plumb → Plumb) : (s.updPlumb f).shed = s.shed := rfl
@[simp] theorem updPlumb_gens (f : Plumb → Plumb) : (s.updPlumb f).gens = s.gens := rfl
@[simp] theorem updPlumb_formed (f : Plumb → Plumb) : (s.updPlumb f).formed = s.formed := rfl
@[simp] theorem updPlumb_twin (f : Plumb → Plumb) : (s.updPlumb f).twin = s.twin := rfl
@[simp] theorem updPlumb_clk (f : Plumb → Plumb) : (s.updPlumb f).clk = s.clk := rfl
@[simp] theorem updPlumb_plumb (f : Plumb → Plumb) : (s.updPlumb f).plumb = f s.plumb := rfl
@[simp] theorem updPlumb_ports (f : Plumb → Plumb) : (s.updPlumb f).ports = s.ports := rfl
@[simp] theorem updPlumb_opens (f : Plumb → Plumb) : (s.updPlumb f).opens = s.opens := rfl
@[simp] theorem updPlumb_openTimes (f : Plumb → Plumb) : (s.updPlumb f).openTimes = s.openTimes := rfl
@[simp] theorem updPlumb_anchorAt (f : Plumb → Plumb) : (s.updPlumb f).anchorAt = s.anchorAt := rfl
@[simp] theorem updPlumb_signed (f : Plumb → Plumb) : (s.updPlumb f).signed = s.signed := rfl
@[simp] theorem updPlumb_movers (f : Plumb → Plumb) : (s.updPlumb f).movers = s.movers := rfl
@[simp] theorem updPlumb_scan (f : Plumb → Plumb) : (s.updPlumb f).scan = s.scan := rfl
@[simp] theorem updPlumb_pwr (f : Plumb → Plumb) : (s.updPlumb f).pwr = s.pwr := rfl
@[simp] theorem updPlumb_upd (f : Plumb → Plumb) : (s.updPlumb f).upd = s.upd := rfl
@[simp] theorem updPlumb_sec (f : Plumb → Plumb) : (s.updPlumb f).sec = s.sec := rfl
@[simp] theorem updPlumb_start (f : Plumb → Plumb) : (s.updPlumb f).start = s.start := rfl
@[simp] theorem updPlumb_rd (f : Plumb → Plumb) (q : Nat) : (s.updPlumb f).rd q = s.rd q := rfl
@[simp] theorem updPlumb_rdB (f : Plumb → Plumb) (q : Nat) : (s.updPlumb f).rdB q = s.rdB q := rfl
@[simp] theorem updPlumb_rdI (f : Plumb → Plumb) (q : Nat) : (s.updPlumb f).rdI q = s.rdI q := rfl
@[simp] theorem updPlumb_rdc (f : Plumb → Plumb) (q : Nat) : (s.updPlumb f).rdc q = s.rdc q := rfl
@[simp] theorem updPlumb_ses (f : Plumb → Plumb) (q : Nat) : (s.updPlumb f).ses q = s.ses q := rfl
theorem updPlumb_rest (f : Plumb → Plumb) : (s.updPlumb f).rest = { s.rest with plumb := (s.updPlumb f).plumb } := rfl

/-! ### updPwr -/

@[simp] theorem updPwr_tick (f : Pwr → Pwr) : (s.updPwr f).tick = s.tick := rfl
@[simp] theorem updPwr_wall (f : Pwr → Pwr) : (s.updPwr f).wall = s.wall := rfl
@[simp] theorem updPwr_free (f : Pwr → Pwr) : (s.updPwr f).free = s.free := rfl
@[simp] theorem updPwr_pending (f : Pwr → Pwr) : (s.updPwr f).pending = s.pending := rfl
@[simp] theorem updPwr_obj (f : Pwr → Pwr) : (s.updPwr f).obj = s.obj := rfl
@[simp] theorem updPwr_com (f : Pwr → Pwr) : (s.updPwr f).com = s.com := rfl
@[simp] theorem updPwr_staged (f : Pwr → Pwr) : (s.updPwr f).staged = s.staged := rfl
@[simp] theorem updPwr_mram (f : Pwr → Pwr) : (s.updPwr f).mram = s.mram := rfl
@[simp] theorem updPwr_log (f : Pwr → Pwr) : (s.updPwr f).log = s.log := rfl
@[simp] theorem updPwr_sess (f : Pwr → Pwr) : (s.updPwr f).sess = s.sess := rfl
@[simp] theorem updPwr_i3c (f : Pwr → Pwr) : (s.updPwr f).i3c = s.i3c := rfl
@[simp] theorem updPwr_swaps (f : Pwr → Pwr) : (s.updPwr f).swaps = s.swaps := rfl
@[simp] theorem updPwr_swapId (f : Pwr → Pwr) : (s.updPwr f).swapId = s.swapId := rfl
@[simp] theorem updPwr_commits (f : Pwr → Pwr) : (s.updPwr f).commits = s.commits := rfl
@[simp] theorem updPwr_owners (f : Pwr → Pwr) : (s.updPwr f).owners = s.owners := rfl
@[simp] theorem updPwr_flows (f : Pwr → Pwr) : (s.updPwr f).flows = s.flows := rfl
@[simp] theorem updPwr_wire (f : Pwr → Pwr) : (s.updPwr f).wire = s.wire := rfl
@[simp] theorem updPwr_rsv (f : Pwr → Pwr) : (s.updPwr f).rsv = s.rsv := rfl
@[simp] theorem updPwr_loads (f : Pwr → Pwr) : (s.updPwr f).loads = s.loads := rfl
@[simp] theorem updPwr_trig (f : Pwr → Pwr) : (s.updPwr f).trig = s.trig := rfl
@[simp] theorem updPwr_planes (f : Pwr → Pwr) : (s.updPwr f).planes = s.planes := rfl
@[simp] theorem updPwr_chans (f : Pwr → Pwr) : (s.updPwr f).chans = s.chans := rfl
@[simp] theorem updPwr_conv (f : Pwr → Pwr) : (s.updPwr f).conv = s.conv := rfl
@[simp] theorem updPwr_tuners (f : Pwr → Pwr) : (s.updPwr f).tuners = s.tuners := rfl
@[simp] theorem updPwr_ctxs (f : Pwr → Pwr) : (s.updPwr f).ctxs = s.ctxs := rfl
@[simp] theorem updPwr_dets (f : Pwr → Pwr) : (s.updPwr f).dets = s.dets := rfl
@[simp] theorem updPwr_shed (f : Pwr → Pwr) : (s.updPwr f).shed = s.shed := rfl
@[simp] theorem updPwr_gens (f : Pwr → Pwr) : (s.updPwr f).gens = s.gens := rfl
@[simp] theorem updPwr_formed (f : Pwr → Pwr) : (s.updPwr f).formed = s.formed := rfl
@[simp] theorem updPwr_twin (f : Pwr → Pwr) : (s.updPwr f).twin = s.twin := rfl
@[simp] theorem updPwr_clk (f : Pwr → Pwr) : (s.updPwr f).clk = s.clk := rfl
@[simp] theorem updPwr_plumb (f : Pwr → Pwr) : (s.updPwr f).plumb = s.plumb := rfl
@[simp] theorem updPwr_ports (f : Pwr → Pwr) : (s.updPwr f).ports = s.ports := rfl
@[simp] theorem updPwr_opens (f : Pwr → Pwr) : (s.updPwr f).opens = s.opens := rfl
@[simp] theorem updPwr_openTimes (f : Pwr → Pwr) : (s.updPwr f).openTimes = s.openTimes := rfl
@[simp] theorem updPwr_anchorAt (f : Pwr → Pwr) : (s.updPwr f).anchorAt = s.anchorAt := rfl
@[simp] theorem updPwr_signed (f : Pwr → Pwr) : (s.updPwr f).signed = s.signed := rfl
@[simp] theorem updPwr_movers (f : Pwr → Pwr) : (s.updPwr f).movers = s.movers := rfl
@[simp] theorem updPwr_scan (f : Pwr → Pwr) : (s.updPwr f).scan = s.scan := rfl
@[simp] theorem updPwr_pwr (f : Pwr → Pwr) : (s.updPwr f).pwr = f s.pwr := rfl
@[simp] theorem updPwr_upd (f : Pwr → Pwr) : (s.updPwr f).upd = s.upd := rfl
@[simp] theorem updPwr_sec (f : Pwr → Pwr) : (s.updPwr f).sec = s.sec := rfl
@[simp] theorem updPwr_start (f : Pwr → Pwr) : (s.updPwr f).start = s.start := rfl
@[simp] theorem updPwr_rd (f : Pwr → Pwr) (q : Nat) : (s.updPwr f).rd q = s.rd q := rfl
@[simp] theorem updPwr_rdB (f : Pwr → Pwr) (q : Nat) : (s.updPwr f).rdB q = s.rdB q := rfl
@[simp] theorem updPwr_rdI (f : Pwr → Pwr) (q : Nat) : (s.updPwr f).rdI q = s.rdI q := rfl
@[simp] theorem updPwr_rdc (f : Pwr → Pwr) (q : Nat) : (s.updPwr f).rdc q = s.rdc q := rfl
@[simp] theorem updPwr_ses (f : Pwr → Pwr) (q : Nat) : (s.updPwr f).ses q = s.ses q := rfl
theorem updPwr_rest (f : Pwr → Pwr) : (s.updPwr f).rest = { s.rest with pwr := (s.updPwr f).pwr } := rfl

/-! ### updStart -/

@[simp] theorem updStart_tick (f : Start → Start) : (s.updStart f).tick = s.tick := rfl
@[simp] theorem updStart_wall (f : Start → Start) : (s.updStart f).wall = s.wall := rfl
@[simp] theorem updStart_free (f : Start → Start) : (s.updStart f).free = s.free := rfl
@[simp] theorem updStart_pending (f : Start → Start) : (s.updStart f).pending = s.pending := rfl
@[simp] theorem updStart_obj (f : Start → Start) : (s.updStart f).obj = s.obj := rfl
@[simp] theorem updStart_com (f : Start → Start) : (s.updStart f).com = s.com := rfl
@[simp] theorem updStart_staged (f : Start → Start) : (s.updStart f).staged = s.staged := rfl
@[simp] theorem updStart_mram (f : Start → Start) : (s.updStart f).mram = s.mram := rfl
@[simp] theorem updStart_log (f : Start → Start) : (s.updStart f).log = s.log := rfl
@[simp] theorem updStart_sess (f : Start → Start) : (s.updStart f).sess = s.sess := rfl
@[simp] theorem updStart_i3c (f : Start → Start) : (s.updStart f).i3c = s.i3c := rfl
@[simp] theorem updStart_swaps (f : Start → Start) : (s.updStart f).swaps = s.swaps := rfl
@[simp] theorem updStart_swapId (f : Start → Start) : (s.updStart f).swapId = s.swapId := rfl
@[simp] theorem updStart_commits (f : Start → Start) : (s.updStart f).commits = s.commits := rfl
@[simp] theorem updStart_owners (f : Start → Start) : (s.updStart f).owners = s.owners := rfl
@[simp] theorem updStart_flows (f : Start → Start) : (s.updStart f).flows = s.flows := rfl
@[simp] theorem updStart_wire (f : Start → Start) : (s.updStart f).wire = s.wire := rfl
@[simp] theorem updStart_rsv (f : Start → Start) : (s.updStart f).rsv = s.rsv := rfl
@[simp] theorem updStart_loads (f : Start → Start) : (s.updStart f).loads = s.loads := rfl
@[simp] theorem updStart_trig (f : Start → Start) : (s.updStart f).trig = s.trig := rfl
@[simp] theorem updStart_planes (f : Start → Start) : (s.updStart f).planes = s.planes := rfl
@[simp] theorem updStart_chans (f : Start → Start) : (s.updStart f).chans = s.chans := rfl
@[simp] theorem updStart_conv (f : Start → Start) : (s.updStart f).conv = s.conv := rfl
@[simp] theorem updStart_tuners (f : Start → Start) : (s.updStart f).tuners = s.tuners := rfl
@[simp] theorem updStart_ctxs (f : Start → Start) : (s.updStart f).ctxs = s.ctxs := rfl
@[simp] theorem updStart_dets (f : Start → Start) : (s.updStart f).dets = s.dets := rfl
@[simp] theorem updStart_shed (f : Start → Start) : (s.updStart f).shed = s.shed := rfl
@[simp] theorem updStart_gens (f : Start → Start) : (s.updStart f).gens = s.gens := rfl
@[simp] theorem updStart_formed (f : Start → Start) : (s.updStart f).formed = s.formed := rfl
@[simp] theorem updStart_twin (f : Start → Start) : (s.updStart f).twin = s.twin := rfl
@[simp] theorem updStart_clk (f : Start → Start) : (s.updStart f).clk = s.clk := rfl
@[simp] theorem updStart_plumb (f : Start → Start) : (s.updStart f).plumb = s.plumb := rfl
@[simp] theorem updStart_ports (f : Start → Start) : (s.updStart f).ports = s.ports := rfl
@[simp] theorem updStart_opens (f : Start → Start) : (s.updStart f).opens = s.opens := rfl
@[simp] theorem updStart_openTimes (f : Start → Start) : (s.updStart f).openTimes = s.openTimes := rfl
@[simp] theorem updStart_anchorAt (f : Start → Start) : (s.updStart f).anchorAt = s.anchorAt := rfl
@[simp] theorem updStart_signed (f : Start → Start) : (s.updStart f).signed = s.signed := rfl
@[simp] theorem updStart_movers (f : Start → Start) : (s.updStart f).movers = s.movers := rfl
@[simp] theorem updStart_scan (f : Start → Start) : (s.updStart f).scan = s.scan := rfl
@[simp] theorem updStart_pwr (f : Start → Start) : (s.updStart f).pwr = s.pwr := rfl
@[simp] theorem updStart_upd (f : Start → Start) : (s.updStart f).upd = s.upd := rfl
@[simp] theorem updStart_sec (f : Start → Start) : (s.updStart f).sec = s.sec := rfl
@[simp] theorem updStart_start (f : Start → Start) : (s.updStart f).start = f s.start := rfl
@[simp] theorem updStart_rd (f : Start → Start) (q : Nat) : (s.updStart f).rd q = s.rd q := rfl
@[simp] theorem updStart_rdB (f : Start → Start) (q : Nat) : (s.updStart f).rdB q = s.rdB q := rfl
@[simp] theorem updStart_rdI (f : Start → Start) (q : Nat) : (s.updStart f).rdI q = s.rdI q := rfl
@[simp] theorem updStart_rdc (f : Start → Start) (q : Nat) : (s.updStart f).rdc q = s.rdc q := rfl
@[simp] theorem updStart_ses (f : Start → Start) (q : Nat) : (s.updStart f).ses q = s.ses q := rfl
theorem updStart_rest (f : Start → Start) : (s.updStart f).rest = { s.rest with start := (s.updStart f).start } := rfl

/-! ### updUpd -/

@[simp] theorem updUpd_tick (f : Upd → Upd) : (s.updUpd f).tick = s.tick := rfl
@[simp] theorem updUpd_wall (f : Upd → Upd) : (s.updUpd f).wall = s.wall := rfl
@[simp] theorem updUpd_free (f : Upd → Upd) : (s.updUpd f).free = s.free := rfl
@[simp] theorem updUpd_pending (f : Upd → Upd) : (s.updUpd f).pending = s.pending := rfl
@[simp] theorem updUpd_obj (f : Upd → Upd) : (s.updUpd f).obj = s.obj := rfl
@[simp] theorem updUpd_com (f : Upd → Upd) : (s.updUpd f).com = s.com := rfl
@[simp] theorem updUpd_staged (f : Upd → Upd) : (s.updUpd f).staged = s.staged := rfl
@[simp] theorem updUpd_mram (f : Upd → Upd) : (s.updUpd f).mram = s.mram := rfl
@[simp] theorem updUpd_log (f : Upd → Upd) : (s.updUpd f).log = s.log := rfl
@[simp] theorem updUpd_sess (f : Upd → Upd) : (s.updUpd f).sess = s.sess := rfl
@[simp] theorem updUpd_i3c (f : Upd → Upd) : (s.updUpd f).i3c = s.i3c := rfl
@[simp] theorem updUpd_swaps (f : Upd → Upd) : (s.updUpd f).swaps = s.swaps := rfl
@[simp] theorem updUpd_swapId (f : Upd → Upd) : (s.updUpd f).swapId = s.swapId := rfl
@[simp] theorem updUpd_commits (f : Upd → Upd) : (s.updUpd f).commits = s.commits := rfl
@[simp] theorem updUpd_owners (f : Upd → Upd) : (s.updUpd f).owners = s.owners := rfl
@[simp] theorem updUpd_flows (f : Upd → Upd) : (s.updUpd f).flows = s.flows := rfl
@[simp] theorem updUpd_wire (f : Upd → Upd) : (s.updUpd f).wire = s.wire := rfl
@[simp] theorem updUpd_rsv (f : Upd → Upd) : (s.updUpd f).rsv = s.rsv := rfl
@[simp] theorem updUpd_loads (f : Upd → Upd) : (s.updUpd f).loads = s.loads := rfl
@[simp] theorem updUpd_trig (f : Upd → Upd) : (s.updUpd f).trig = s.trig := rfl
@[simp] theorem updUpd_planes (f : Upd → Upd) : (s.updUpd f).planes = s.planes := rfl
@[simp] theorem updUpd_chans (f : Upd → Upd) : (s.updUpd f).chans = s.chans := rfl
@[simp] theorem updUpd_conv (f : Upd → Upd) : (s.updUpd f).conv = s.conv := rfl
@[simp] theorem updUpd_tuners (f : Upd → Upd) : (s.updUpd f).tuners = s.tuners := rfl
@[simp] theorem updUpd_ctxs (f : Upd → Upd) : (s.updUpd f).ctxs = s.ctxs := rfl
@[simp] theorem updUpd_dets (f : Upd → Upd) : (s.updUpd f).dets = s.dets := rfl
@[simp] theorem updUpd_shed (f : Upd → Upd) : (s.updUpd f).shed = s.shed := rfl
@[simp] theorem updUpd_gens (f : Upd → Upd) : (s.updUpd f).gens = s.gens := rfl
@[simp] theorem updUpd_formed (f : Upd → Upd) : (s.updUpd f).formed = s.formed := rfl
@[simp] theorem updUpd_twin (f : Upd → Upd) : (s.updUpd f).twin = s.twin := rfl
@[simp] theorem updUpd_clk (f : Upd → Upd) : (s.updUpd f).clk = s.clk := rfl
@[simp] theorem updUpd_plumb (f : Upd → Upd) : (s.updUpd f).plumb = s.plumb := rfl
@[simp] theorem updUpd_ports (f : Upd → Upd) : (s.updUpd f).ports = s.ports := rfl
@[simp] theorem updUpd_opens (f : Upd → Upd) : (s.updUpd f).opens = s.opens := rfl
@[simp] theorem updUpd_openTimes (f : Upd → Upd) : (s.updUpd f).openTimes = s.openTimes := rfl
@[simp] theorem updUpd_anchorAt (f : Upd → Upd) : (s.updUpd f).anchorAt = s.anchorAt := rfl
@[simp] theorem updUpd_signed (f : Upd → Upd) : (s.updUpd f).signed = s.signed := rfl
@[simp] theorem updUpd_movers (f : Upd → Upd) : (s.updUpd f).movers = s.movers := rfl
@[simp] theorem updUpd_scan (f : Upd → Upd) : (s.updUpd f).scan = s.scan := rfl
@[simp] theorem updUpd_pwr (f : Upd → Upd) : (s.updUpd f).pwr = s.pwr := rfl
@[simp] theorem updUpd_upd (f : Upd → Upd) : (s.updUpd f).upd = f s.upd := rfl
@[simp] theorem updUpd_sec (f : Upd → Upd) : (s.updUpd f).sec = s.sec := rfl
@[simp] theorem updUpd_start (f : Upd → Upd) : (s.updUpd f).start = s.start := rfl
@[simp] theorem updUpd_rd (f : Upd → Upd) (q : Nat) : (s.updUpd f).rd q = s.rd q := rfl
@[simp] theorem updUpd_rdB (f : Upd → Upd) (q : Nat) : (s.updUpd f).rdB q = s.rdB q := rfl
@[simp] theorem updUpd_rdI (f : Upd → Upd) (q : Nat) : (s.updUpd f).rdI q = s.rdI q := rfl
@[simp] theorem updUpd_rdc (f : Upd → Upd) (q : Nat) : (s.updUpd f).rdc q = s.rdc q := rfl
@[simp] theorem updUpd_ses (f : Upd → Upd) (q : Nat) : (s.updUpd f).ses q = s.ses q := rfl
theorem updUpd_rest (f : Upd → Upd) : (s.updUpd f).rest = { s.rest with upd := (s.updUpd f).upd } := rfl

/-! ### updTwin -/

@[simp] theorem updTwin_tick (f : Twin → Twin) : (s.updTwin f).tick = s.tick := rfl
@[simp] theorem updTwin_wall (f : Twin → Twin) : (s.updTwin f).wall = s.wall := rfl
@[simp] theorem updTwin_free (f : Twin → Twin) : (s.updTwin f).free = s.free := rfl
@[simp] theorem updTwin_pending (f : Twin → Twin) : (s.updTwin f).pending = s.pending := rfl
@[simp] theorem updTwin_obj (f : Twin → Twin) : (s.updTwin f).obj = s.obj := rfl
@[simp] theorem updTwin_com (f : Twin → Twin) : (s.updTwin f).com = s.com := rfl
@[simp] theorem updTwin_staged (f : Twin → Twin) : (s.updTwin f).staged = s.staged := rfl
@[simp] theorem updTwin_mram (f : Twin → Twin) : (s.updTwin f).mram = s.mram := rfl
@[simp] theorem updTwin_log (f : Twin → Twin) : (s.updTwin f).log = s.log := rfl
@[simp] theorem updTwin_sess (f : Twin → Twin) : (s.updTwin f).sess = s.sess := rfl
@[simp] theorem updTwin_i3c (f : Twin → Twin) : (s.updTwin f).i3c = s.i3c := rfl
@[simp] theorem updTwin_swaps (f : Twin → Twin) : (s.updTwin f).swaps = s.swaps := rfl
@[simp] theorem updTwin_swapId (f : Twin → Twin) : (s.updTwin f).swapId = s.swapId := rfl
@[simp] theorem updTwin_commits (f : Twin → Twin) : (s.updTwin f).commits = s.commits := rfl
@[simp] theorem updTwin_owners (f : Twin → Twin) : (s.updTwin f).owners = s.owners := rfl
@[simp] theorem updTwin_flows (f : Twin → Twin) : (s.updTwin f).flows = s.flows := rfl
@[simp] theorem updTwin_wire (f : Twin → Twin) : (s.updTwin f).wire = s.wire := rfl
@[simp] theorem updTwin_rsv (f : Twin → Twin) : (s.updTwin f).rsv = s.rsv := rfl
@[simp] theorem updTwin_loads (f : Twin → Twin) : (s.updTwin f).loads = s.loads := rfl
@[simp] theorem updTwin_trig (f : Twin → Twin) : (s.updTwin f).trig = s.trig := rfl
@[simp] theorem updTwin_planes (f : Twin → Twin) : (s.updTwin f).planes = s.planes := rfl
@[simp] theorem updTwin_chans (f : Twin → Twin) : (s.updTwin f).chans = s.chans := rfl
@[simp] theorem updTwin_conv (f : Twin → Twin) : (s.updTwin f).conv = s.conv := rfl
@[simp] theorem updTwin_tuners (f : Twin → Twin) : (s.updTwin f).tuners = s.tuners := rfl
@[simp] theorem updTwin_ctxs (f : Twin → Twin) : (s.updTwin f).ctxs = s.ctxs := rfl
@[simp] theorem updTwin_dets (f : Twin → Twin) : (s.updTwin f).dets = s.dets := rfl
@[simp] theorem updTwin_shed (f : Twin → Twin) : (s.updTwin f).shed = s.shed := rfl
@[simp] theorem updTwin_gens (f : Twin → Twin) : (s.updTwin f).gens = s.gens := rfl
@[simp] theorem updTwin_formed (f : Twin → Twin) : (s.updTwin f).formed = s.formed := rfl
@[simp] theorem updTwin_twin (f : Twin → Twin) : (s.updTwin f).twin = f s.twin := rfl
@[simp] theorem updTwin_clk (f : Twin → Twin) : (s.updTwin f).clk = s.clk := rfl
@[simp] theorem updTwin_plumb (f : Twin → Twin) : (s.updTwin f).plumb = s.plumb := rfl
@[simp] theorem updTwin_ports (f : Twin → Twin) : (s.updTwin f).ports = s.ports := rfl
@[simp] theorem updTwin_opens (f : Twin → Twin) : (s.updTwin f).opens = s.opens := rfl
@[simp] theorem updTwin_openTimes (f : Twin → Twin) : (s.updTwin f).openTimes = s.openTimes := rfl
@[simp] theorem updTwin_anchorAt (f : Twin → Twin) : (s.updTwin f).anchorAt = s.anchorAt := rfl
@[simp] theorem updTwin_signed (f : Twin → Twin) : (s.updTwin f).signed = s.signed := rfl
@[simp] theorem updTwin_movers (f : Twin → Twin) : (s.updTwin f).movers = s.movers := rfl
@[simp] theorem updTwin_scan (f : Twin → Twin) : (s.updTwin f).scan = s.scan := rfl
@[simp] theorem updTwin_pwr (f : Twin → Twin) : (s.updTwin f).pwr = s.pwr := rfl
@[simp] theorem updTwin_upd (f : Twin → Twin) : (s.updTwin f).upd = s.upd := rfl
@[simp] theorem updTwin_sec (f : Twin → Twin) : (s.updTwin f).sec = s.sec := rfl
@[simp] theorem updTwin_start (f : Twin → Twin) : (s.updTwin f).start = s.start := rfl
@[simp] theorem updTwin_rd (f : Twin → Twin) (q : Nat) : (s.updTwin f).rd q = s.rd q := rfl
@[simp] theorem updTwin_rdB (f : Twin → Twin) (q : Nat) : (s.updTwin f).rdB q = s.rdB q := rfl
@[simp] theorem updTwin_rdI (f : Twin → Twin) (q : Nat) : (s.updTwin f).rdI q = s.rdI q := rfl
@[simp] theorem updTwin_rdc (f : Twin → Twin) (q : Nat) : (s.updTwin f).rdc q = s.rdc q := rfl
@[simp] theorem updTwin_ses (f : Twin → Twin) (q : Nat) : (s.updTwin f).ses q = s.ses q := rfl
theorem updTwin_rest (f : Twin → Twin) : (s.updTwin f).rest = { s.rest with twin := (s.updTwin f).twin } := rfl

/-! ### updSec -/

@[simp] theorem updSec_tick (f : Sec → Sec) : (s.updSec f).tick = s.tick := rfl
@[simp] theorem updSec_wall (f : Sec → Sec) : (s.updSec f).wall = s.wall := rfl
@[simp] theorem updSec_free (f : Sec → Sec) : (s.updSec f).free = s.free := rfl
@[simp] theorem updSec_pending (f : Sec → Sec) : (s.updSec f).pending = s.pending := rfl
@[simp] theorem updSec_obj (f : Sec → Sec) : (s.updSec f).obj = s.obj := rfl
@[simp] theorem updSec_com (f : Sec → Sec) : (s.updSec f).com = s.com := rfl
@[simp] theorem updSec_staged (f : Sec → Sec) : (s.updSec f).staged = s.staged := rfl
@[simp] theorem updSec_mram (f : Sec → Sec) : (s.updSec f).mram = s.mram := rfl
@[simp] theorem updSec_log (f : Sec → Sec) : (s.updSec f).log = s.log := rfl
@[simp] theorem updSec_sess (f : Sec → Sec) : (s.updSec f).sess = s.sess := rfl
@[simp] theorem updSec_i3c (f : Sec → Sec) : (s.updSec f).i3c = s.i3c := rfl
@[simp] theorem updSec_swaps (f : Sec → Sec) : (s.updSec f).swaps = s.swaps := rfl
@[simp] theorem updSec_swapId (f : Sec → Sec) : (s.updSec f).swapId = s.swapId := rfl
@[simp] theorem updSec_commits (f : Sec → Sec) : (s.updSec f).commits = s.commits := rfl
@[simp] theorem updSec_owners (f : Sec → Sec) : (s.updSec f).owners = s.owners := rfl
@[simp] theorem updSec_flows (f : Sec → Sec) : (s.updSec f).flows = s.flows := rfl
@[simp] theorem updSec_wire (f : Sec → Sec) : (s.updSec f).wire = s.wire := rfl
@[simp] theorem updSec_rsv (f : Sec → Sec) : (s.updSec f).rsv = s.rsv := rfl
@[simp] theorem updSec_loads (f : Sec → Sec) : (s.updSec f).loads = s.loads := rfl
@[simp] theorem updSec_trig (f : Sec → Sec) : (s.updSec f).trig = s.trig := rfl
@[simp] theorem updSec_planes (f : Sec → Sec) : (s.updSec f).planes = s.planes := rfl
@[simp] theorem updSec_chans (f : Sec → Sec) : (s.updSec f).chans = s.chans := rfl
@[simp] theorem updSec_conv (f : Sec → Sec) : (s.updSec f).conv = s.conv := rfl
@[simp] theorem updSec_tuners (f : Sec → Sec) : (s.updSec f).tuners = s.tuners := rfl
@[simp] theorem updSec_ctxs (f : Sec → Sec) : (s.updSec f).ctxs = s.ctxs := rfl
@[simp] theorem updSec_dets (f : Sec → Sec) : (s.updSec f).dets = s.dets := rfl
@[simp] theorem updSec_shed (f : Sec → Sec) : (s.updSec f).shed = s.shed := rfl
@[simp] theorem updSec_gens (f : Sec → Sec) : (s.updSec f).gens = s.gens := rfl
@[simp] theorem updSec_formed (f : Sec → Sec) : (s.updSec f).formed = s.formed := rfl
@[simp] theorem updSec_twin (f : Sec → Sec) : (s.updSec f).twin = s.twin := rfl
@[simp] theorem updSec_clk (f : Sec → Sec) : (s.updSec f).clk = s.clk := rfl
@[simp] theorem updSec_plumb (f : Sec → Sec) : (s.updSec f).plumb = s.plumb := rfl
@[simp] theorem updSec_ports (f : Sec → Sec) : (s.updSec f).ports = s.ports := rfl
@[simp] theorem updSec_opens (f : Sec → Sec) : (s.updSec f).opens = s.opens := rfl
@[simp] theorem updSec_openTimes (f : Sec → Sec) : (s.updSec f).openTimes = s.openTimes := rfl
@[simp] theorem updSec_anchorAt (f : Sec → Sec) : (s.updSec f).anchorAt = s.anchorAt := rfl
@[simp] theorem updSec_signed (f : Sec → Sec) : (s.updSec f).signed = s.signed := rfl
@[simp] theorem updSec_movers (f : Sec → Sec) : (s.updSec f).movers = s.movers := rfl
@[simp] theorem updSec_scan (f : Sec → Sec) : (s.updSec f).scan = s.scan := rfl
@[simp] theorem updSec_pwr (f : Sec → Sec) : (s.updSec f).pwr = s.pwr := rfl
@[simp] theorem updSec_upd (f : Sec → Sec) : (s.updSec f).upd = s.upd := rfl
@[simp] theorem updSec_sec (f : Sec → Sec) : (s.updSec f).sec = f s.sec := rfl
@[simp] theorem updSec_start (f : Sec → Sec) : (s.updSec f).start = s.start := rfl
@[simp] theorem updSec_rd (f : Sec → Sec) (q : Nat) : (s.updSec f).rd q = s.rd q := rfl
@[simp] theorem updSec_rdB (f : Sec → Sec) (q : Nat) : (s.updSec f).rdB q = s.rdB q := rfl
@[simp] theorem updSec_rdI (f : Sec → Sec) (q : Nat) : (s.updSec f).rdI q = s.rdI q := rfl
@[simp] theorem updSec_rdc (f : Sec → Sec) (q : Nat) : (s.updSec f).rdc q = s.rdc q := rfl
@[simp] theorem updSec_ses (f : Sec → Sec) (q : Nat) : (s.updSec f).ses q = s.ses q := rfl
theorem updSec_rest (f : Sec → Sec) : (s.updSec f).rest = { s.rest with sec := (s.updSec f).sec } := rfl

/-! ### updI3c -/

@[simp] theorem updI3c_tick (f : I3c → I3c) : (s.updI3c f).tick = s.tick := rfl
@[simp] theorem updI3c_wall (f : I3c → I3c) : (s.updI3c f).wall = s.wall := rfl
@[simp] theorem updI3c_free (f : I3c → I3c) : (s.updI3c f).free = s.free := rfl
@[simp] theorem updI3c_pending (f : I3c → I3c) : (s.updI3c f).pending = s.pending := rfl
@[simp] theorem updI3c_obj (f : I3c → I3c) : (s.updI3c f).obj = s.obj := rfl
@[simp] theorem updI3c_com (f : I3c → I3c) : (s.updI3c f).com = s.com := rfl
@[simp] theorem updI3c_staged (f : I3c → I3c) : (s.updI3c f).staged = s.staged := rfl
@[simp] theorem updI3c_mram (f : I3c → I3c) : (s.updI3c f).mram = s.mram := rfl
@[simp] theorem updI3c_log (f : I3c → I3c) : (s.updI3c f).log = s.log := rfl
@[simp] theorem updI3c_sess (f : I3c → I3c) : (s.updI3c f).sess = s.sess := rfl
@[simp] theorem updI3c_i3c (f : I3c → I3c) : (s.updI3c f).i3c = f s.i3c := rfl
@[simp] theorem updI3c_swaps (f : I3c → I3c) : (s.updI3c f).swaps = s.swaps := rfl
@[simp] theorem updI3c_swapId (f : I3c → I3c) : (s.updI3c f).swapId = s.swapId := rfl
@[simp] theorem updI3c_commits (f : I3c → I3c) : (s.updI3c f).commits = s.commits := rfl
@[simp] theorem updI3c_owners (f : I3c → I3c) : (s.updI3c f).owners = s.owners := rfl
@[simp] theorem updI3c_flows (f : I3c → I3c) : (s.updI3c f).flows = s.flows := rfl
@[simp] theorem updI3c_wire (f : I3c → I3c) : (s.updI3c f).wire = s.wire := rfl
@[simp] theorem updI3c_rsv (f : I3c → I3c) : (s.updI3c f).rsv = s.rsv := rfl
@[simp] theorem updI3c_loads (f : I3c → I3c) : (s.updI3c f).loads = s.loads := rfl
@[simp] theorem updI3c_trig (f : I3c → I3c) : (s.updI3c f).trig = s.trig := rfl
@[simp] theorem updI3c_planes (f : I3c → I3c) : (s.updI3c f).planes = s.planes := rfl
@[simp] theorem updI3c_chans (f : I3c → I3c) : (s.updI3c f).chans = s.chans := rfl
@[simp] theorem updI3c_conv (f : I3c → I3c) : (s.updI3c f).conv = s.conv := rfl
@[simp] theorem updI3c_tuners (f : I3c → I3c) : (s.updI3c f).tuners = s.tuners := rfl
@[simp] theorem updI3c_ctxs (f : I3c → I3c) : (s.updI3c f).ctxs = s.ctxs := rfl
@[simp] theorem updI3c_dets (f : I3c → I3c) : (s.updI3c f).dets = s.dets := rfl
@[simp] theorem updI3c_shed (f : I3c → I3c) : (s.updI3c f).shed = s.shed := rfl
@[simp] theorem updI3c_gens (f : I3c → I3c) : (s.updI3c f).gens = s.gens := rfl
@[simp] theorem updI3c_formed (f : I3c → I3c) : (s.updI3c f).formed = s.formed := rfl
@[simp] theorem updI3c_twin (f : I3c → I3c) : (s.updI3c f).twin = s.twin := rfl
@[simp] theorem updI3c_clk (f : I3c → I3c) : (s.updI3c f).clk = s.clk := rfl
@[simp] theorem updI3c_plumb (f : I3c → I3c) : (s.updI3c f).plumb = s.plumb := rfl
@[simp] theorem updI3c_ports (f : I3c → I3c) : (s.updI3c f).ports = s.ports := rfl
@[simp] theorem updI3c_opens (f : I3c → I3c) : (s.updI3c f).opens = s.opens := rfl
@[simp] theorem updI3c_openTimes (f : I3c → I3c) : (s.updI3c f).openTimes = s.openTimes := rfl
@[simp] theorem updI3c_anchorAt (f : I3c → I3c) : (s.updI3c f).anchorAt = s.anchorAt := rfl
@[simp] theorem updI3c_signed (f : I3c → I3c) : (s.updI3c f).signed = s.signed := rfl
@[simp] theorem updI3c_movers (f : I3c → I3c) : (s.updI3c f).movers = s.movers := rfl
@[simp] theorem updI3c_scan (f : I3c → I3c) : (s.updI3c f).scan = s.scan := rfl
@[simp] theorem updI3c_pwr (f : I3c → I3c) : (s.updI3c f).pwr = s.pwr := rfl
@[simp] theorem updI3c_upd (f : I3c → I3c) : (s.updI3c f).upd = s.upd := rfl
@[simp] theorem updI3c_sec (f : I3c → I3c) : (s.updI3c f).sec = s.sec := rfl
@[simp] theorem updI3c_start (f : I3c → I3c) : (s.updI3c f).start = s.start := rfl
@[simp] theorem updI3c_rd (f : I3c → I3c) (q : Nat) : (s.updI3c f).rd q = s.rd q := rfl
@[simp] theorem updI3c_rdB (f : I3c → I3c) (q : Nat) : (s.updI3c f).rdB q = s.rdB q := rfl
@[simp] theorem updI3c_rdI (f : I3c → I3c) (q : Nat) : (s.updI3c f).rdI q = s.rdI q := rfl
@[simp] theorem updI3c_rdc (f : I3c → I3c) (q : Nat) : (s.updI3c f).rdc q = s.rdc q := rfl
@[simp] theorem updI3c_ses (f : I3c → I3c) (q : Nat) : (s.updI3c f).ses q = s.ses q := rfl
theorem updI3c_rest (f : I3c → I3c) : (s.updI3c f).rest = { s.rest with i3c := (s.updI3c f).i3c } := rfl

/-! ### putMem -/

@[simp] theorem putMem_tick (a w : Nat) : (s.putMem a w).tick = s.tick := rfl
@[simp] theorem putMem_wall (a w : Nat) : (s.putMem a w).wall = s.wall := rfl
@[simp] theorem putMem_free (a w : Nat) : (s.putMem a w).free = s.free := rfl
@[simp] theorem putMem_pending (a w : Nat) : (s.putMem a w).pending = s.pending := rfl
@[simp] theorem putMem_obj (a w : Nat) : (s.putMem a w).obj = s.obj := rfl
@[simp] theorem putMem_com (a w : Nat) : (s.putMem a w).com = s.com := rfl
@[simp] theorem putMem_staged (a w : Nat) : (s.putMem a w).staged = s.staged := rfl
@[simp] theorem putMem_mram (a w : Nat) : (s.putMem a w).mram = s.mram := rfl
@[simp] theorem putMem_log (a w : Nat) : (s.putMem a w).log = s.log := rfl
@[simp] theorem putMem_sess (a w : Nat) : (s.putMem a w).sess = s.sess := rfl
@[simp] theorem putMem_i3c (a w : Nat) : (s.putMem a w).i3c = s.i3c := rfl
@[simp] theorem putMem_swaps (a w : Nat) : (s.putMem a w).swaps = s.swaps := rfl
@[simp] theorem putMem_swapId (a w : Nat) : (s.putMem a w).swapId = s.swapId := rfl
@[simp] theorem putMem_commits (a w : Nat) : (s.putMem a w).commits = s.commits := rfl
@[simp] theorem putMem_owners (a w : Nat) : (s.putMem a w).owners = s.owners := rfl
@[simp] theorem putMem_flows (a w : Nat) : (s.putMem a w).flows = s.flows := rfl
@[simp] theorem putMem_wire (a w : Nat) : (s.putMem a w).wire = s.wire := rfl
@[simp] theorem putMem_rsv (a w : Nat) : (s.putMem a w).rsv = { s.rsv with mem := s.rsv.mem.set zeroDflt a w } := rfl
@[simp] theorem putMem_loads (a w : Nat) : (s.putMem a w).loads = s.loads := rfl
@[simp] theorem putMem_trig (a w : Nat) : (s.putMem a w).trig = s.trig := rfl
@[simp] theorem putMem_planes (a w : Nat) : (s.putMem a w).planes = s.planes := rfl
@[simp] theorem putMem_chans (a w : Nat) : (s.putMem a w).chans = s.chans := rfl
@[simp] theorem putMem_conv (a w : Nat) : (s.putMem a w).conv = s.conv := rfl
@[simp] theorem putMem_tuners (a w : Nat) : (s.putMem a w).tuners = s.tuners := rfl
@[simp] theorem putMem_ctxs (a w : Nat) : (s.putMem a w).ctxs = s.ctxs := rfl
@[simp] theorem putMem_dets (a w : Nat) : (s.putMem a w).dets = s.dets := rfl
@[simp] theorem putMem_shed (a w : Nat) : (s.putMem a w).shed = s.shed := rfl
@[simp] theorem putMem_gens (a w : Nat) : (s.putMem a w).gens = s.gens := rfl
@[simp] theorem putMem_formed (a w : Nat) : (s.putMem a w).formed = s.formed := rfl
@[simp] theorem putMem_twin (a w : Nat) : (s.putMem a w).twin = s.twin := rfl
@[simp] theorem putMem_clk (a w : Nat) : (s.putMem a w).clk = s.clk := rfl
@[simp] theorem putMem_plumb (a w : Nat) : (s.putMem a w).plumb = s.plumb := rfl
@[simp] theorem putMem_ports (a w : Nat) : (s.putMem a w).ports = s.ports := rfl
@[simp] theorem putMem_opens (a w : Nat) : (s.putMem a w).opens = s.opens := rfl
@[simp] theorem putMem_openTimes (a w : Nat) : (s.putMem a w).openTimes = s.openTimes := rfl
@[simp] theorem putMem_anchorAt (a w : Nat) : (s.putMem a w).anchorAt = s.anchorAt := rfl
@[simp] theorem putMem_signed (a w : Nat) : (s.putMem a w).signed = s.signed := rfl
@[simp] theorem putMem_movers (a w : Nat) : (s.putMem a w).movers = s.movers := rfl
@[simp] theorem putMem_scan (a w : Nat) : (s.putMem a w).scan = s.scan := rfl
@[simp] theorem putMem_pwr (a w : Nat) : (s.putMem a w).pwr = s.pwr := rfl
@[simp] theorem putMem_upd (a w : Nat) : (s.putMem a w).upd = s.upd := rfl
@[simp] theorem putMem_sec (a w : Nat) : (s.putMem a w).sec = s.sec := rfl
@[simp] theorem putMem_start (a w : Nat) : (s.putMem a w).start = s.start := rfl
@[simp] theorem putMem_rd (a w : Nat) (q : Nat) : (s.putMem a w).rd q = s.rd q := rfl
@[simp] theorem putMem_rdB (a w : Nat) (q : Nat) : (s.putMem a w).rdB q = s.rdB q := rfl
@[simp] theorem putMem_rdI (a w : Nat) (q : Nat) : (s.putMem a w).rdI q = s.rdI q := rfl
@[simp] theorem putMem_rdc (a w : Nat) (q : Nat) : (s.putMem a w).rdc q = s.rdc q := rfl
@[simp] theorem putMem_ses (a w : Nat) (q : Nat) : (s.putMem a w).ses q = s.ses q := rfl
theorem putMem_rest (a w : Nat) : (s.putMem a w).rest = { s.rest with rsv := (s.putMem a w).rsv } := rfl

/-! ### updRing -/

@[simp] theorem updRing_tick (i : Nat) (f : Ring → Ring) : (s.updRing i f).tick = s.tick := rfl
@[simp] theorem updRing_wall (i : Nat) (f : Ring → Ring) : (s.updRing i f).wall = s.wall := rfl
@[simp] theorem updRing_free (i : Nat) (f : Ring → Ring) : (s.updRing i f).free = s.free := rfl
@[simp] theorem updRing_pending (i : Nat) (f : Ring → Ring) : (s.updRing i f).pending = s.pending := rfl
@[simp] theorem updRing_obj (i : Nat) (f : Ring → Ring) : (s.updRing i f).obj = s.obj := rfl
@[simp] theorem updRing_com (i : Nat) (f : Ring → Ring) : (s.updRing i f).com = s.com := rfl
@[simp] theorem updRing_staged (i : Nat) (f : Ring → Ring) : (s.updRing i f).staged = s.staged := rfl
@[simp] theorem updRing_mram (i : Nat) (f : Ring → Ring) : (s.updRing i f).mram = s.mram := rfl
@[simp] theorem updRing_log (i : Nat) (f : Ring → Ring) : (s.updRing i f).log = s.log := rfl
@[simp] theorem updRing_sess (i : Nat) (f : Ring → Ring) : (s.updRing i f).sess = s.sess := rfl
@[simp] theorem updRing_i3c (i : Nat) (f : Ring → Ring) : (s.updRing i f).i3c = s.i3c := rfl
@[simp] theorem updRing_swaps (i : Nat) (f : Ring → Ring) : (s.updRing i f).swaps = s.swaps := rfl
@[simp] theorem updRing_swapId (i : Nat) (f : Ring → Ring) : (s.updRing i f).swapId = s.swapId := rfl
@[simp] theorem updRing_commits (i : Nat) (f : Ring → Ring) : (s.updRing i f).commits = s.commits := rfl
@[simp] theorem updRing_owners (i : Nat) (f : Ring → Ring) : (s.updRing i f).owners = s.owners := rfl
@[simp] theorem updRing_flows (i : Nat) (f : Ring → Ring) : (s.updRing i f).flows = s.flows := rfl
@[simp] theorem updRing_wire (i : Nat) (f : Ring → Ring) : (s.updRing i f).wire = s.wire := rfl
@[simp] theorem updRing_rsv (i : Nat) (f : Ring → Ring) : (s.updRing i f).rsv = { s.rsv with rings := s.rsv.rings.modify i f } := rfl
@[simp] theorem updRing_loads (i : Nat) (f : Ring → Ring) : (s.updRing i f).loads = s.loads := rfl
@[simp] theorem updRing_trig (i : Nat) (f : Ring → Ring) : (s.updRing i f).trig = s.trig := rfl
@[simp] theorem updRing_planes (i : Nat) (f : Ring → Ring) : (s.updRing i f).planes = s.planes := rfl
@[simp] theorem updRing_chans (i : Nat) (f : Ring → Ring) : (s.updRing i f).chans = s.chans := rfl
@[simp] theorem updRing_conv (i : Nat) (f : Ring → Ring) : (s.updRing i f).conv = s.conv := rfl
@[simp] theorem updRing_tuners (i : Nat) (f : Ring → Ring) : (s.updRing i f).tuners = s.tuners := rfl
@[simp] theorem updRing_ctxs (i : Nat) (f : Ring → Ring) : (s.updRing i f).ctxs = s.ctxs := rfl
@[simp] theorem updRing_dets (i : Nat) (f : Ring → Ring) : (s.updRing i f).dets = s.dets := rfl
@[simp] theorem updRing_shed (i : Nat) (f : Ring → Ring) : (s.updRing i f).shed = s.shed := rfl
@[simp] theorem updRing_gens (i : Nat) (f : Ring → Ring) : (s.updRing i f).gens = s.gens := rfl
@[simp] theorem updRing_formed (i : Nat) (f : Ring → Ring) : (s.updRing i f).formed = s.formed := rfl
@[simp] theorem updRing_twin (i : Nat) (f : Ring → Ring) : (s.updRing i f).twin = s.twin := rfl
@[simp] theorem updRing_clk (i : Nat) (f : Ring → Ring) : (s.updRing i f).clk = s.clk := rfl
@[simp] theorem updRing_plumb (i : Nat) (f : Ring → Ring) : (s.updRing i f).plumb = s.plumb := rfl
@[simp] theorem updRing_ports (i : Nat) (f : Ring → Ring) : (s.updRing i f).ports = s.ports := rfl
@[simp] theorem updRing_opens (i : Nat) (f : Ring → Ring) : (s.updRing i f).opens = s.opens := rfl
@[simp] theorem updRing_openTimes (i : Nat) (f : Ring → Ring) : (s.updRing i f).openTimes = s.openTimes := rfl
@[simp] theorem updRing_anchorAt (i : Nat) (f : Ring → Ring) : (s.updRing i f).anchorAt = s.anchorAt := rfl
@[simp] theorem updRing_signed (i : Nat) (f : Ring → Ring) : (s.updRing i f).signed = s.signed := rfl
@[simp] theorem updRing_movers (i : Nat) (f : Ring → Ring) : (s.updRing i f).movers = s.movers := rfl
@[simp] theorem updRing_scan (i : Nat) (f : Ring → Ring) : (s.updRing i f).scan = s.scan := rfl
@[simp] theorem updRing_pwr (i : Nat) (f : Ring → Ring) : (s.updRing i f).pwr = s.pwr := rfl
@[simp] theorem updRing_upd (i : Nat) (f : Ring → Ring) : (s.updRing i f).upd = s.upd := rfl
@[simp] theorem updRing_sec (i : Nat) (f : Ring → Ring) : (s.updRing i f).sec = s.sec := rfl
@[simp] theorem updRing_start (i : Nat) (f : Ring → Ring) : (s.updRing i f).start = s.start := rfl
@[simp] theorem updRing_rd (i : Nat) (f : Ring → Ring) (q : Nat) : (s.updRing i f).rd q = s.rd q := rfl
@[simp] theorem updRing_rdB (i : Nat) (f : Ring → Ring) (q : Nat) : (s.updRing i f).rdB q = s.rdB q := rfl
@[simp] theorem updRing_rdI (i : Nat) (f : Ring → Ring) (q : Nat) : (s.updRing i f).rdI q = s.rdI q := rfl
@[simp] theorem updRing_rdc (i : Nat) (f : Ring → Ring) (q : Nat) : (s.updRing i f).rdc q = s.rdc q := rfl
@[simp] theorem updRing_ses (i : Nat) (f : Ring → Ring) (q : Nat) : (s.updRing i f).ses q = s.ses q := rfl
theorem updRing_rest (i : Nat) (f : Ring → Ring) : (s.updRing i f).rest = { s.rest with rsv := (s.updRing i f).rsv } := rfl

/-! ### updPch -/

@[simp] theorem updPch_tick (i : Nat) (f : Pch → Pch) : (s.updPch i f).tick = s.tick := rfl
@[simp] theorem updPch_wall (i : Nat) (f : Pch → Pch) : (s.updPch i f).wall = s.wall := rfl
@[simp] theorem updPch_free (i : Nat) (f : Pch → Pch) : (s.updPch i f).free = s.free := rfl
@[simp] theorem updPch_pending (i : Nat) (f : Pch → Pch) : (s.updPch i f).pending = s.pending := rfl
@[simp] theorem updPch_obj (i : Nat) (f : Pch → Pch) : (s.updPch i f).obj = s.obj := rfl
@[simp] theorem updPch_com (i : Nat) (f : Pch → Pch) : (s.updPch i f).com = s.com := rfl
@[simp] theorem updPch_staged (i : Nat) (f : Pch → Pch) : (s.updPch i f).staged = s.staged := rfl
@[simp] theorem updPch_mram (i : Nat) (f : Pch → Pch) : (s.updPch i f).mram = s.mram := rfl
@[simp] theorem updPch_log (i : Nat) (f : Pch → Pch) : (s.updPch i f).log = s.log := rfl
@[simp] theorem updPch_sess (i : Nat) (f : Pch → Pch) : (s.updPch i f).sess = s.sess := rfl
@[simp] theorem updPch_i3c (i : Nat) (f : Pch → Pch) : (s.updPch i f).i3c = s.i3c := rfl
@[simp] theorem updPch_swaps (i : Nat) (f : Pch → Pch) : (s.updPch i f).swaps = s.swaps := rfl
@[simp] theorem updPch_swapId (i : Nat) (f : Pch → Pch) : (s.updPch i f).swapId = s.swapId := rfl
@[simp] theorem updPch_commits (i : Nat) (f : Pch → Pch) : (s.updPch i f).commits = s.commits := rfl
@[simp] theorem updPch_owners (i : Nat) (f : Pch → Pch) : (s.updPch i f).owners = s.owners := rfl
@[simp] theorem updPch_flows (i : Nat) (f : Pch → Pch) : (s.updPch i f).flows = s.flows := rfl
@[simp] theorem updPch_wire (i : Nat) (f : Pch → Pch) : (s.updPch i f).wire = s.wire := rfl
@[simp] theorem updPch_rsv (i : Nat) (f : Pch → Pch) : (s.updPch i f).rsv = { s.rsv with pch := s.rsv.pch.modify i f } := rfl
@[simp] theorem updPch_loads (i : Nat) (f : Pch → Pch) : (s.updPch i f).loads = s.loads := rfl
@[simp] theorem updPch_trig (i : Nat) (f : Pch → Pch) : (s.updPch i f).trig = s.trig := rfl
@[simp] theorem updPch_planes (i : Nat) (f : Pch → Pch) : (s.updPch i f).planes = s.planes := rfl
@[simp] theorem updPch_chans (i : Nat) (f : Pch → Pch) : (s.updPch i f).chans = s.chans := rfl
@[simp] theorem updPch_conv (i : Nat) (f : Pch → Pch) : (s.updPch i f).conv = s.conv := rfl
@[simp] theorem updPch_tuners (i : Nat) (f : Pch → Pch) : (s.updPch i f).tuners = s.tuners := rfl
@[simp] theorem updPch_ctxs (i : Nat) (f : Pch → Pch) : (s.updPch i f).ctxs = s.ctxs := rfl
@[simp] theorem updPch_dets (i : Nat) (f : Pch → Pch) : (s.updPch i f).dets = s.dets := rfl
@[simp] theorem updPch_shed (i : Nat) (f : Pch → Pch) : (s.updPch i f).shed = s.shed := rfl
@[simp] theorem updPch_gens (i : Nat) (f : Pch → Pch) : (s.updPch i f).gens = s.gens := rfl
@[simp] theorem updPch_formed (i : Nat) (f : Pch → Pch) : (s.updPch i f).formed = s.formed := rfl
@[simp] theorem updPch_twin (i : Nat) (f : Pch → Pch) : (s.updPch i f).twin = s.twin := rfl
@[simp] theorem updPch_clk (i : Nat) (f : Pch → Pch) : (s.updPch i f).clk = s.clk := rfl
@[simp] theorem updPch_plumb (i : Nat) (f : Pch → Pch) : (s.updPch i f).plumb = s.plumb := rfl
@[simp] theorem updPch_ports (i : Nat) (f : Pch → Pch) : (s.updPch i f).ports = s.ports := rfl
@[simp] theorem updPch_opens (i : Nat) (f : Pch → Pch) : (s.updPch i f).opens = s.opens := rfl
@[simp] theorem updPch_openTimes (i : Nat) (f : Pch → Pch) : (s.updPch i f).openTimes = s.openTimes := rfl
@[simp] theorem updPch_anchorAt (i : Nat) (f : Pch → Pch) : (s.updPch i f).anchorAt = s.anchorAt := rfl
@[simp] theorem updPch_signed (i : Nat) (f : Pch → Pch) : (s.updPch i f).signed = s.signed := rfl
@[simp] theorem updPch_movers (i : Nat) (f : Pch → Pch) : (s.updPch i f).movers = s.movers := rfl
@[simp] theorem updPch_scan (i : Nat) (f : Pch → Pch) : (s.updPch i f).scan = s.scan := rfl
@[simp] theorem updPch_pwr (i : Nat) (f : Pch → Pch) : (s.updPch i f).pwr = s.pwr := rfl
@[simp] theorem updPch_upd (i : Nat) (f : Pch → Pch) : (s.updPch i f).upd = s.upd := rfl
@[simp] theorem updPch_sec (i : Nat) (f : Pch → Pch) : (s.updPch i f).sec = s.sec := rfl
@[simp] theorem updPch_start (i : Nat) (f : Pch → Pch) : (s.updPch i f).start = s.start := rfl
@[simp] theorem updPch_rd (i : Nat) (f : Pch → Pch) (q : Nat) : (s.updPch i f).rd q = s.rd q := rfl
@[simp] theorem updPch_rdB (i : Nat) (f : Pch → Pch) (q : Nat) : (s.updPch i f).rdB q = s.rdB q := rfl
@[simp] theorem updPch_rdI (i : Nat) (f : Pch → Pch) (q : Nat) : (s.updPch i f).rdI q = s.rdI q := rfl
@[simp] theorem updPch_rdc (i : Nat) (f : Pch → Pch) (q : Nat) : (s.updPch i f).rdc q = s.rdc q := rfl
@[simp] theorem updPch_ses (i : Nat) (f : Pch → Pch) (q : Nat) : (s.updPch i f).ses q = s.ses q := rfl
theorem updPch_rest (i : Nat) (f : Pch → Pch) : (s.updPch i f).rest = { s.rest with rsv := (s.updPch i f).rsv } := rfl

/-! ### updReplay -/

@[simp] theorem updReplay_tick (i : Nat) (f : Replay → Replay) : (s.updReplay i f).tick = s.tick := rfl
@[simp] theorem updReplay_wall (i : Nat) (f : Replay → Replay) : (s.updReplay i f).wall = s.wall := rfl
@[simp] theorem updReplay_free (i : Nat) (f : Replay → Replay) : (s.updReplay i f).free = s.free := rfl
@[simp] theorem updReplay_pending (i : Nat) (f : Replay → Replay) : (s.updReplay i f).pending = s.pending := rfl
@[simp] theorem updReplay_obj (i : Nat) (f : Replay → Replay) : (s.updReplay i f).obj = s.obj := rfl
@[simp] theorem updReplay_com (i : Nat) (f : Replay → Replay) : (s.updReplay i f).com = s.com := rfl
@[simp] theorem updReplay_staged (i : Nat) (f : Replay → Replay) : (s.updReplay i f).staged = s.staged := rfl
@[simp] theorem updReplay_mram (i : Nat) (f : Replay → Replay) : (s.updReplay i f).mram = s.mram := rfl
@[simp] theorem updReplay_log (i : Nat) (f : Replay → Replay) : (s.updReplay i f).log = s.log := rfl
@[simp] theorem updReplay_sess (i : Nat) (f : Replay → Replay) : (s.updReplay i f).sess = s.sess := rfl
@[simp] theorem updReplay_i3c (i : Nat) (f : Replay → Replay) : (s.updReplay i f).i3c = s.i3c := rfl
@[simp] theorem updReplay_swaps (i : Nat) (f : Replay → Replay) : (s.updReplay i f).swaps = s.swaps := rfl
@[simp] theorem updReplay_swapId (i : Nat) (f : Replay → Replay) : (s.updReplay i f).swapId = s.swapId := rfl
@[simp] theorem updReplay_commits (i : Nat) (f : Replay → Replay) : (s.updReplay i f).commits = s.commits := rfl
@[simp] theorem updReplay_owners (i : Nat) (f : Replay → Replay) : (s.updReplay i f).owners = s.owners := rfl
@[simp] theorem updReplay_flows (i : Nat) (f : Replay → Replay) : (s.updReplay i f).flows = s.flows := rfl
@[simp] theorem updReplay_wire (i : Nat) (f : Replay → Replay) : (s.updReplay i f).wire = s.wire := rfl
@[simp] theorem updReplay_rsv (i : Nat) (f : Replay → Replay) : (s.updReplay i f).rsv = { s.rsv with replays := s.rsv.replays.modify i f } := rfl
@[simp] theorem updReplay_loads (i : Nat) (f : Replay → Replay) : (s.updReplay i f).loads = s.loads := rfl
@[simp] theorem updReplay_trig (i : Nat) (f : Replay → Replay) : (s.updReplay i f).trig = s.trig := rfl
@[simp] theorem updReplay_planes (i : Nat) (f : Replay → Replay) : (s.updReplay i f).planes = s.planes := rfl
@[simp] theorem updReplay_chans (i : Nat) (f : Replay → Replay) : (s.updReplay i f).chans = s.chans := rfl
@[simp] theorem updReplay_conv (i : Nat) (f : Replay → Replay) : (s.updReplay i f).conv = s.conv := rfl
@[simp] theorem updReplay_tuners (i : Nat) (f : Replay → Replay) : (s.updReplay i f).tuners = s.tuners := rfl
@[simp] theorem updReplay_ctxs (i : Nat) (f : Replay → Replay) : (s.updReplay i f).ctxs = s.ctxs := rfl
@[simp] theorem updReplay_dets (i : Nat) (f : Replay → Replay) : (s.updReplay i f).dets = s.dets := rfl
@[simp] theorem updReplay_shed (i : Nat) (f : Replay → Replay) : (s.updReplay i f).shed = s.shed := rfl
@[simp] theorem updReplay_gens (i : Nat) (f : Replay → Replay) : (s.updReplay i f).gens = s.gens := rfl
@[simp] theorem updReplay_formed (i : Nat) (f : Replay → Replay) : (s.updReplay i f).formed = s.formed := rfl
@[simp] theorem updReplay_twin (i : Nat) (f : Replay → Replay) : (s.updReplay i f).twin = s.twin := rfl
@[simp] theorem updReplay_clk (i : Nat) (f : Replay → Replay) : (s.updReplay i f).clk = s.clk := rfl
@[simp] theorem updReplay_plumb (i : Nat) (f : Replay → Replay) : (s.updReplay i f).plumb = s.plumb := rfl
@[simp] theorem updReplay_ports (i : Nat) (f : Replay → Replay) : (s.updReplay i f).ports = s.ports := rfl
@[simp] theorem updReplay_opens (i : Nat) (f : Replay → Replay) : (s.updReplay i f).opens = s.opens := rfl
@[simp] theorem updReplay_openTimes (i : Nat) (f : Replay → Replay) : (s.updReplay i f).openTimes = s.openTimes := rfl
@[simp] theorem updReplay_anchorAt (i : Nat) (f : Replay → Replay) : (s.updReplay i f).anchorAt = s.anchorAt := rfl
@[simp] theorem updReplay_signed (i : Nat) (f : Replay → Replay) : (s.updReplay i f).signed = s.signed := rfl
@[simp] theorem updReplay_movers (i : Nat) (f : Replay → Replay) : (s.updReplay i f).movers = s.movers := rfl
@[simp] theorem updReplay_scan (i : Nat) (f : Replay → Replay) : (s.updReplay i f).scan = s.scan := rfl
@[simp] theorem updReplay_pwr (i : Nat) (f : Replay → Replay) : (s.updReplay i f).pwr = s.pwr := rfl
@[simp] theorem updReplay_upd (i : Nat) (f : Replay → Replay) : (s.updReplay i f).upd = s.upd := rfl
@[simp] theorem updReplay_sec (i : Nat) (f : Replay → Replay) : (s.updReplay i f).sec = s.sec := rfl
@[simp] theorem updReplay_start (i : Nat) (f : Replay → Replay) : (s.updReplay i f).start = s.start := rfl
@[simp] theorem updReplay_rd (i : Nat) (f : Replay → Replay) (q : Nat) : (s.updReplay i f).rd q = s.rd q := rfl
@[simp] theorem updReplay_rdB (i : Nat) (f : Replay → Replay) (q : Nat) : (s.updReplay i f).rdB q = s.rdB q := rfl
@[simp] theorem updReplay_rdI (i : Nat) (f : Replay → Replay) (q : Nat) : (s.updReplay i f).rdI q = s.rdI q := rfl
@[simp] theorem updReplay_rdc (i : Nat) (f : Replay → Replay) (q : Nat) : (s.updReplay i f).rdc q = s.rdc q := rfl
@[simp] theorem updReplay_ses (i : Nat) (f : Replay → Replay) (q : Nat) : (s.updReplay i f).ses q = s.ses q := rfl
theorem updReplay_rest (i : Nat) (f : Replay → Replay) : (s.updReplay i f).rest = { s.rest with rsv := (s.updReplay i f).rsv } := rfl

/-! ### updGrp -/

@[simp] theorem updGrp_tick (i : Nat) (f : Group → Group) : (s.updGrp i f).tick = s.tick := rfl
@[simp] theorem updGrp_wall (i : Nat) (f : Group → Group) : (s.updGrp i f).wall = s.wall := rfl
@[simp] theorem updGrp_free (i : Nat) (f : Group → Group) : (s.updGrp i f).free = s.free := rfl
@[simp] theorem updGrp_pending (i : Nat) (f : Group → Group) : (s.updGrp i f).pending = s.pending := rfl
@[simp] theorem updGrp_obj (i : Nat) (f : Group → Group) : (s.updGrp i f).obj = s.obj := rfl
@[simp] theorem updGrp_com (i : Nat) (f : Group → Group) : (s.updGrp i f).com = s.com := rfl
@[simp] theorem updGrp_staged (i : Nat) (f : Group → Group) : (s.updGrp i f).staged = s.staged := rfl
@[simp] theorem updGrp_mram (i : Nat) (f : Group → Group) : (s.updGrp i f).mram = s.mram := rfl
@[simp] theorem updGrp_log (i : Nat) (f : Group → Group) : (s.updGrp i f).log = s.log := rfl
@[simp] theorem updGrp_sess (i : Nat) (f : Group → Group) : (s.updGrp i f).sess = s.sess := rfl
@[simp] theorem updGrp_i3c (i : Nat) (f : Group → Group) : (s.updGrp i f).i3c = s.i3c := rfl
@[simp] theorem updGrp_swaps (i : Nat) (f : Group → Group) : (s.updGrp i f).swaps = s.swaps := rfl
@[simp] theorem updGrp_swapId (i : Nat) (f : Group → Group) : (s.updGrp i f).swapId = s.swapId := rfl
@[simp] theorem updGrp_commits (i : Nat) (f : Group → Group) : (s.updGrp i f).commits = s.commits := rfl
@[simp] theorem updGrp_owners (i : Nat) (f : Group → Group) : (s.updGrp i f).owners = s.owners := rfl
@[simp] theorem updGrp_flows (i : Nat) (f : Group → Group) : (s.updGrp i f).flows = s.flows := rfl
@[simp] theorem updGrp_wire (i : Nat) (f : Group → Group) : (s.updGrp i f).wire = s.wire := rfl
@[simp] theorem updGrp_rsv (i : Nat) (f : Group → Group) : (s.updGrp i f).rsv = s.rsv := rfl
@[simp] theorem updGrp_loads (i : Nat) (f : Group → Group) : (s.updGrp i f).loads = s.loads := rfl
@[simp] theorem updGrp_trig (i : Nat) (f : Group → Group) : (s.updGrp i f).trig = { s.trig with groups := s.trig.groups.modify i f } := rfl
@[simp] theorem updGrp_planes (i : Nat) (f : Group → Group) : (s.updGrp i f).planes = s.planes := rfl
@[simp] theorem updGrp_chans (i : Nat) (f : Group → Group) : (s.updGrp i f).chans = s.chans := rfl
@[simp] theorem updGrp_conv (i : Nat) (f : Group → Group) : (s.updGrp i f).conv = s.conv := rfl
@[simp] theorem updGrp_tuners (i : Nat) (f : Group → Group) : (s.updGrp i f).tuners = s.tuners := rfl
@[simp] theorem updGrp_ctxs (i : Nat) (f : Group → Group) : (s.updGrp i f).ctxs = s.ctxs := rfl
@[simp] theorem updGrp_dets (i : Nat) (f : Group → Group) : (s.updGrp i f).dets = s.dets := rfl
@[simp] theorem updGrp_shed (i : Nat) (f : Group → Group) : (s.updGrp i f).shed = s.shed := rfl
@[simp] theorem updGrp_gens (i : Nat) (f : Group → Group) : (s.updGrp i f).gens = s.gens := rfl
@[simp] theorem updGrp_formed (i : Nat) (f : Group → Group) : (s.updGrp i f).formed = s.formed := rfl
@[simp] theorem updGrp_twin (i : Nat) (f : Group → Group) : (s.updGrp i f).twin = s.twin := rfl
@[simp] theorem updGrp_clk (i : Nat) (f : Group → Group) : (s.updGrp i f).clk = s.clk := rfl
@[simp] theorem updGrp_plumb (i : Nat) (f : Group → Group) : (s.updGrp i f).plumb = s.plumb := rfl
@[simp] theorem updGrp_ports (i : Nat) (f : Group → Group) : (s.updGrp i f).ports = s.ports := rfl
@[simp] theorem updGrp_opens (i : Nat) (f : Group → Group) : (s.updGrp i f).opens = s.opens := rfl
@[simp] theorem updGrp_openTimes (i : Nat) (f : Group → Group) : (s.updGrp i f).openTimes = s.openTimes := rfl
@[simp] theorem updGrp_anchorAt (i : Nat) (f : Group → Group) : (s.updGrp i f).anchorAt = s.anchorAt := rfl
@[simp] theorem updGrp_signed (i : Nat) (f : Group → Group) : (s.updGrp i f).signed = s.signed := rfl
@[simp] theorem updGrp_movers (i : Nat) (f : Group → Group) : (s.updGrp i f).movers = s.movers := rfl
@[simp] theorem updGrp_scan (i : Nat) (f : Group → Group) : (s.updGrp i f).scan = s.scan := rfl
@[simp] theorem updGrp_pwr (i : Nat) (f : Group → Group) : (s.updGrp i f).pwr = s.pwr := rfl
@[simp] theorem updGrp_upd (i : Nat) (f : Group → Group) : (s.updGrp i f).upd = s.upd := rfl
@[simp] theorem updGrp_sec (i : Nat) (f : Group → Group) : (s.updGrp i f).sec = s.sec := rfl
@[simp] theorem updGrp_start (i : Nat) (f : Group → Group) : (s.updGrp i f).start = s.start := rfl
@[simp] theorem updGrp_rd (i : Nat) (f : Group → Group) (q : Nat) : (s.updGrp i f).rd q = s.rd q := rfl
@[simp] theorem updGrp_rdB (i : Nat) (f : Group → Group) (q : Nat) : (s.updGrp i f).rdB q = s.rdB q := rfl
@[simp] theorem updGrp_rdI (i : Nat) (f : Group → Group) (q : Nat) : (s.updGrp i f).rdI q = s.rdI q := rfl
@[simp] theorem updGrp_rdc (i : Nat) (f : Group → Group) (q : Nat) : (s.updGrp i f).rdc q = s.rdc q := rfl
@[simp] theorem updGrp_ses (i : Nat) (f : Group → Group) (q : Nat) : (s.updGrp i f).ses q = s.ses q := rfl
theorem updGrp_rest (i : Nat) (f : Group → Group) : (s.updGrp i f).rest = { s.rest with trig := (s.updGrp i f).trig } := rfl

/-! ### updOut -/

@[simp] theorem updOut_tick (i : Nat) (f : OutPin → OutPin) : (s.updOut i f).tick = s.tick := rfl
@[simp] theorem updOut_wall (i : Nat) (f : OutPin → OutPin) : (s.updOut i f).wall = s.wall := rfl
@[simp] theorem updOut_free (i : Nat) (f : OutPin → OutPin) : (s.updOut i f).free = s.free := rfl
@[simp] theorem updOut_pending (i : Nat) (f : OutPin → OutPin) : (s.updOut i f).pending = s.pending := rfl
@[simp] theorem updOut_obj (i : Nat) (f : OutPin → OutPin) : (s.updOut i f).obj = s.obj := rfl
@[simp] theorem updOut_com (i : Nat) (f : OutPin → OutPin) : (s.updOut i f).com = s.com := rfl
@[simp] theorem updOut_staged (i : Nat) (f : OutPin → OutPin) : (s.updOut i f).staged = s.staged := rfl
@[simp] theorem updOut_mram (i : Nat) (f : OutPin → OutPin) : (s.updOut i f).mram = s.mram := rfl
@[simp] theorem updOut_log (i : Nat) (f : OutPin → OutPin) : (s.updOut i f).log = s.log := rfl
@[simp] theorem updOut_sess (i : Nat) (f : OutPin → OutPin) : (s.updOut i f).sess = s.sess := rfl
@[simp] theorem updOut_i3c (i : Nat) (f : OutPin → OutPin) : (s.updOut i f).i3c = s.i3c := rfl
@[simp] theorem updOut_swaps (i : Nat) (f : OutPin → OutPin) : (s.updOut i f).swaps = s.swaps := rfl
@[simp] theorem updOut_swapId (i : Nat) (f : OutPin → OutPin) : (s.updOut i f).swapId = s.swapId := rfl
@[simp] theorem updOut_commits (i : Nat) (f : OutPin → OutPin) : (s.updOut i f).commits = s.commits := rfl
@[simp] theorem updOut_owners (i : Nat) (f : OutPin → OutPin) : (s.updOut i f).owners = s.owners := rfl
@[simp] theorem updOut_flows (i : Nat) (f : OutPin → OutPin) : (s.updOut i f).flows = s.flows := rfl
@[simp] theorem updOut_wire (i : Nat) (f : OutPin → OutPin) : (s.updOut i f).wire = s.wire := rfl
@[simp] theorem updOut_rsv (i : Nat) (f : OutPin → OutPin) : (s.updOut i f).rsv = s.rsv := rfl
@[simp] theorem updOut_loads (i : Nat) (f : OutPin → OutPin) : (s.updOut i f).loads = s.loads := rfl
@[simp] theorem updOut_trig (i : Nat) (f : OutPin → OutPin) : (s.updOut i f).trig = { s.trig with outs := s.trig.outs.modify i f } := rfl
@[simp] theorem updOut_planes (i : Nat) (f : OutPin → OutPin) : (s.updOut i f).planes = s.planes := rfl
@[simp] theorem updOut_chans (i : Nat) (f : OutPin → OutPin) : (s.updOut i f).chans = s.chans := rfl
@[simp] theorem updOut_conv (i : Nat) (f : OutPin → OutPin) : (s.updOut i f).conv = s.conv := rfl
@[simp] theorem updOut_tuners (i : Nat) (f : OutPin → OutPin) : (s.updOut i f).tuners = s.tuners := rfl
@[simp] theorem updOut_ctxs (i : Nat) (f : OutPin → OutPin) : (s.updOut i f).ctxs = s.ctxs := rfl
@[simp] theorem updOut_dets (i : Nat) (f : OutPin → OutPin) : (s.updOut i f).dets = s.dets := rfl
@[simp] theorem updOut_shed (i : Nat) (f : OutPin → OutPin) : (s.updOut i f).shed = s.shed := rfl
@[simp] theorem updOut_gens (i : Nat) (f : OutPin → OutPin) : (s.updOut i f).gens = s.gens := rfl
@[simp] theorem updOut_formed (i : Nat) (f : OutPin → OutPin) : (s.updOut i f).formed = s.formed := rfl
@[simp] theorem updOut_twin (i : Nat) (f : OutPin → OutPin) : (s.updOut i f).twin = s.twin := rfl
@[simp] theorem updOut_clk (i : Nat) (f : OutPin → OutPin) : (s.updOut i f).clk = s.clk := rfl
@[simp] theorem updOut_plumb (i : Nat) (f : OutPin → OutPin) : (s.updOut i f).plumb = s.plumb := rfl
@[simp] theorem updOut_ports (i : Nat) (f : OutPin → OutPin) : (s.updOut i f).ports = s.ports := rfl
@[simp] theorem updOut_opens (i : Nat) (f : OutPin → OutPin) : (s.updOut i f).opens = s.opens := rfl
@[simp] theorem updOut_openTimes (i : Nat) (f : OutPin → OutPin) : (s.updOut i f).openTimes = s.openTimes := rfl
@[simp] theorem updOut_anchorAt (i : Nat) (f : OutPin → OutPin) : (s.updOut i f).anchorAt = s.anchorAt := rfl
@[simp] theorem updOut_signed (i : Nat) (f : OutPin → OutPin) : (s.updOut i f).signed = s.signed := rfl
@[simp] theorem updOut_movers (i : Nat) (f : OutPin → OutPin) : (s.updOut i f).movers = s.movers := rfl
@[simp] theorem updOut_scan (i : Nat) (f : OutPin → OutPin) : (s.updOut i f).scan = s.scan := rfl
@[simp] theorem updOut_pwr (i : Nat) (f : OutPin → OutPin) : (s.updOut i f).pwr = s.pwr := rfl
@[simp] theorem updOut_upd (i : Nat) (f : OutPin → OutPin) : (s.updOut i f).upd = s.upd := rfl
@[simp] theorem updOut_sec (i : Nat) (f : OutPin → OutPin) : (s.updOut i f).sec = s.sec := rfl
@[simp] theorem updOut_start (i : Nat) (f : OutPin → OutPin) : (s.updOut i f).start = s.start := rfl
@[simp] theorem updOut_rd (i : Nat) (f : OutPin → OutPin) (q : Nat) : (s.updOut i f).rd q = s.rd q := rfl
@[simp] theorem updOut_rdB (i : Nat) (f : OutPin → OutPin) (q : Nat) : (s.updOut i f).rdB q = s.rdB q := rfl
@[simp] theorem updOut_rdI (i : Nat) (f : OutPin → OutPin) (q : Nat) : (s.updOut i f).rdI q = s.rdI q := rfl
@[simp] theorem updOut_rdc (i : Nat) (f : OutPin → OutPin) (q : Nat) : (s.updOut i f).rdc q = s.rdc q := rfl
@[simp] theorem updOut_ses (i : Nat) (f : OutPin → OutPin) (q : Nat) : (s.updOut i f).ses q = s.ses q := rfl
theorem updOut_rest (i : Nat) (f : OutPin → OutPin) : (s.updOut i f).rest = { s.rest with trig := (s.updOut i f).trig } := rfl

/-! ### updCap -/

@[simp] theorem updCap_tick (i : Nat) (f : Capture → Capture) : (s.updCap i f).tick = s.tick := rfl
@[simp] theorem updCap_wall (i : Nat) (f : Capture → Capture) : (s.updCap i f).wall = s.wall := rfl
@[simp] theorem updCap_free (i : Nat) (f : Capture → Capture) : (s.updCap i f).free = s.free := rfl
@[simp] theorem updCap_pending (i : Nat) (f : Capture → Capture) : (s.updCap i f).pending = s.pending := rfl
@[simp] theorem updCap_obj (i : Nat) (f : Capture → Capture) : (s.updCap i f).obj = s.obj := rfl
@[simp] theorem updCap_com (i : Nat) (f : Capture → Capture) : (s.updCap i f).com = s.com := rfl
@[simp] theorem updCap_staged (i : Nat) (f : Capture → Capture) : (s.updCap i f).staged = s.staged := rfl
@[simp] theorem updCap_mram (i : Nat) (f : Capture → Capture) : (s.updCap i f).mram = s.mram := rfl
@[simp] theorem updCap_log (i : Nat) (f : Capture → Capture) : (s.updCap i f).log = s.log := rfl
@[simp] theorem updCap_sess (i : Nat) (f : Capture → Capture) : (s.updCap i f).sess = s.sess := rfl
@[simp] theorem updCap_i3c (i : Nat) (f : Capture → Capture) : (s.updCap i f).i3c = s.i3c := rfl
@[simp] theorem updCap_swaps (i : Nat) (f : Capture → Capture) : (s.updCap i f).swaps = s.swaps := rfl
@[simp] theorem updCap_swapId (i : Nat) (f : Capture → Capture) : (s.updCap i f).swapId = s.swapId := rfl
@[simp] theorem updCap_commits (i : Nat) (f : Capture → Capture) : (s.updCap i f).commits = s.commits := rfl
@[simp] theorem updCap_owners (i : Nat) (f : Capture → Capture) : (s.updCap i f).owners = s.owners := rfl
@[simp] theorem updCap_flows (i : Nat) (f : Capture → Capture) : (s.updCap i f).flows = s.flows := rfl
@[simp] theorem updCap_wire (i : Nat) (f : Capture → Capture) : (s.updCap i f).wire = s.wire := rfl
@[simp] theorem updCap_rsv (i : Nat) (f : Capture → Capture) : (s.updCap i f).rsv = s.rsv := rfl
@[simp] theorem updCap_loads (i : Nat) (f : Capture → Capture) : (s.updCap i f).loads = s.loads := rfl
@[simp] theorem updCap_trig (i : Nat) (f : Capture → Capture) : (s.updCap i f).trig = { s.trig with caps := s.trig.caps.modify i f } := rfl
@[simp] theorem updCap_planes (i : Nat) (f : Capture → Capture) : (s.updCap i f).planes = s.planes := rfl
@[simp] theorem updCap_chans (i : Nat) (f : Capture → Capture) : (s.updCap i f).chans = s.chans := rfl
@[simp] theorem updCap_conv (i : Nat) (f : Capture → Capture) : (s.updCap i f).conv = s.conv := rfl
@[simp] theorem updCap_tuners (i : Nat) (f : Capture → Capture) : (s.updCap i f).tuners = s.tuners := rfl
@[simp] theorem updCap_ctxs (i : Nat) (f : Capture → Capture) : (s.updCap i f).ctxs = s.ctxs := rfl
@[simp] theorem updCap_dets (i : Nat) (f : Capture → Capture) : (s.updCap i f).dets = s.dets := rfl
@[simp] theorem updCap_shed (i : Nat) (f : Capture → Capture) : (s.updCap i f).shed = s.shed := rfl
@[simp] theorem updCap_gens (i : Nat) (f : Capture → Capture) : (s.updCap i f).gens = s.gens := rfl
@[simp] theorem updCap_formed (i : Nat) (f : Capture → Capture) : (s.updCap i f).formed = s.formed := rfl
@[simp] theorem updCap_twin (i : Nat) (f : Capture → Capture) : (s.updCap i f).twin = s.twin := rfl
@[simp] theorem updCap_clk (i : Nat) (f : Capture → Capture) : (s.updCap i f).clk = s.clk := rfl
@[simp] theorem updCap_plumb (i : Nat) (f : Capture → Capture) : (s.updCap i f).plumb = s.plumb := rfl
@[simp] theorem updCap_ports (i : Nat) (f : Capture → Capture) : (s.updCap i f).ports = s.ports := rfl
@[simp] theorem updCap_opens (i : Nat) (f : Capture → Capture) : (s.updCap i f).opens = s.opens := rfl
@[simp] theorem updCap_openTimes (i : Nat) (f : Capture → Capture) : (s.updCap i f).openTimes = s.openTimes := rfl
@[simp] theorem updCap_anchorAt (i : Nat) (f : Capture → Capture) : (s.updCap i f).anchorAt = s.anchorAt := rfl
@[simp] theorem updCap_signed (i : Nat) (f : Capture → Capture) : (s.updCap i f).signed = s.signed := rfl
@[simp] theorem updCap_movers (i : Nat) (f : Capture → Capture) : (s.updCap i f).movers = s.movers := rfl
@[simp] theorem updCap_scan (i : Nat) (f : Capture → Capture) : (s.updCap i f).scan = s.scan := rfl
@[simp] theorem updCap_pwr (i : Nat) (f : Capture → Capture) : (s.updCap i f).pwr = s.pwr := rfl
@[simp] theorem updCap_upd (i : Nat) (f : Capture → Capture) : (s.updCap i f).upd = s.upd := rfl
@[simp] theorem updCap_sec (i : Nat) (f : Capture → Capture) : (s.updCap i f).sec = s.sec := rfl
@[simp] theorem updCap_start (i : Nat) (f : Capture → Capture) : (s.updCap i f).start = s.start := rfl
@[simp] theorem updCap_rd (i : Nat) (f : Capture → Capture) (q : Nat) : (s.updCap i f).rd q = s.rd q := rfl
@[simp] theorem updCap_rdB (i : Nat) (f : Capture → Capture) (q : Nat) : (s.updCap i f).rdB q = s.rdB q := rfl
@[simp] theorem updCap_rdI (i : Nat) (f : Capture → Capture) (q : Nat) : (s.updCap i f).rdI q = s.rdI q := rfl
@[simp] theorem updCap_rdc (i : Nat) (f : Capture → Capture) (q : Nat) : (s.updCap i f).rdc q = s.rdc q := rfl
@[simp] theorem updCap_ses (i : Nat) (f : Capture → Capture) (q : Nat) : (s.updCap i f).ses q = s.ses q := rfl
theorem updCap_rest (i : Nat) (f : Capture → Capture) : (s.updCap i f).rest = { s.rest with trig := (s.updCap i f).trig } := rfl

/-! ### updSrc -/

@[simp] theorem updSrc_tick (i : Nat) (f : Source → Source) : (s.updSrc i f).tick = s.tick := rfl
@[simp] theorem updSrc_wall (i : Nat) (f : Source → Source) : (s.updSrc i f).wall = s.wall := rfl
@[simp] theorem updSrc_free (i : Nat) (f : Source → Source) : (s.updSrc i f).free = s.free := rfl
@[simp] theorem updSrc_pending (i : Nat) (f : Source → Source) : (s.updSrc i f).pending = s.pending := rfl
@[simp] theorem updSrc_obj (i : Nat) (f : Source → Source) : (s.updSrc i f).obj = s.obj := rfl
@[simp] theorem updSrc_com (i : Nat) (f : Source → Source) : (s.updSrc i f).com = s.com := rfl
@[simp] theorem updSrc_staged (i : Nat) (f : Source → Source) : (s.updSrc i f).staged = s.staged := rfl
@[simp] theorem updSrc_mram (i : Nat) (f : Source → Source) : (s.updSrc i f).mram = s.mram := rfl
@[simp] theorem updSrc_log (i : Nat) (f : Source → Source) : (s.updSrc i f).log = s.log := rfl
@[simp] theorem updSrc_sess (i : Nat) (f : Source → Source) : (s.updSrc i f).sess = s.sess := rfl
@[simp] theorem updSrc_i3c (i : Nat) (f : Source → Source) : (s.updSrc i f).i3c = s.i3c := rfl
@[simp] theorem updSrc_swaps (i : Nat) (f : Source → Source) : (s.updSrc i f).swaps = s.swaps := rfl
@[simp] theorem updSrc_swapId (i : Nat) (f : Source → Source) : (s.updSrc i f).swapId = s.swapId := rfl
@[simp] theorem updSrc_commits (i : Nat) (f : Source → Source) : (s.updSrc i f).commits = s.commits := rfl
@[simp] theorem updSrc_owners (i : Nat) (f : Source → Source) : (s.updSrc i f).owners = s.owners := rfl
@[simp] theorem updSrc_flows (i : Nat) (f : Source → Source) : (s.updSrc i f).flows = s.flows := rfl
@[simp] theorem updSrc_wire (i : Nat) (f : Source → Source) : (s.updSrc i f).wire = s.wire := rfl
@[simp] theorem updSrc_rsv (i : Nat) (f : Source → Source) : (s.updSrc i f).rsv = s.rsv := rfl
@[simp] theorem updSrc_loads (i : Nat) (f : Source → Source) : (s.updSrc i f).loads = s.loads := rfl
@[simp] theorem updSrc_trig (i : Nat) (f : Source → Source) : (s.updSrc i f).trig = { s.trig with sources := s.trig.sources.modify i f } := rfl
@[simp] theorem updSrc_planes (i : Nat) (f : Source → Source) : (s.updSrc i f).planes = s.planes := rfl
@[simp] theorem updSrc_chans (i : Nat) (f : Source → Source) : (s.updSrc i f).chans = s.chans := rfl
@[simp] theorem updSrc_conv (i : Nat) (f : Source → Source) : (s.updSrc i f).conv = s.conv := rfl
@[simp] theorem updSrc_tuners (i : Nat) (f : Source → Source) : (s.updSrc i f).tuners = s.tuners := rfl
@[simp] theorem updSrc_ctxs (i : Nat) (f : Source → Source) : (s.updSrc i f).ctxs = s.ctxs := rfl
@[simp] theorem updSrc_dets (i : Nat) (f : Source → Source) : (s.updSrc i f).dets = s.dets := rfl
@[simp] theorem updSrc_shed (i : Nat) (f : Source → Source) : (s.updSrc i f).shed = s.shed := rfl
@[simp] theorem updSrc_gens (i : Nat) (f : Source → Source) : (s.updSrc i f).gens = s.gens := rfl
@[simp] theorem updSrc_formed (i : Nat) (f : Source → Source) : (s.updSrc i f).formed = s.formed := rfl
@[simp] theorem updSrc_twin (i : Nat) (f : Source → Source) : (s.updSrc i f).twin = s.twin := rfl
@[simp] theorem updSrc_clk (i : Nat) (f : Source → Source) : (s.updSrc i f).clk = s.clk := rfl
@[simp] theorem updSrc_plumb (i : Nat) (f : Source → Source) : (s.updSrc i f).plumb = s.plumb := rfl
@[simp] theorem updSrc_ports (i : Nat) (f : Source → Source) : (s.updSrc i f).ports = s.ports := rfl
@[simp] theorem updSrc_opens (i : Nat) (f : Source → Source) : (s.updSrc i f).opens = s.opens := rfl
@[simp] theorem updSrc_openTimes (i : Nat) (f : Source → Source) : (s.updSrc i f).openTimes = s.openTimes := rfl
@[simp] theorem updSrc_anchorAt (i : Nat) (f : Source → Source) : (s.updSrc i f).anchorAt = s.anchorAt := rfl
@[simp] theorem updSrc_signed (i : Nat) (f : Source → Source) : (s.updSrc i f).signed = s.signed := rfl
@[simp] theorem updSrc_movers (i : Nat) (f : Source → Source) : (s.updSrc i f).movers = s.movers := rfl
@[simp] theorem updSrc_scan (i : Nat) (f : Source → Source) : (s.updSrc i f).scan = s.scan := rfl
@[simp] theorem updSrc_pwr (i : Nat) (f : Source → Source) : (s.updSrc i f).pwr = s.pwr := rfl
@[simp] theorem updSrc_upd (i : Nat) (f : Source → Source) : (s.updSrc i f).upd = s.upd := rfl
@[simp] theorem updSrc_sec (i : Nat) (f : Source → Source) : (s.updSrc i f).sec = s.sec := rfl
@[simp] theorem updSrc_start (i : Nat) (f : Source → Source) : (s.updSrc i f).start = s.start := rfl
@[simp] theorem updSrc_rd (i : Nat) (f : Source → Source) (q : Nat) : (s.updSrc i f).rd q = s.rd q := rfl
@[simp] theorem updSrc_rdB (i : Nat) (f : Source → Source) (q : Nat) : (s.updSrc i f).rdB q = s.rdB q := rfl
@[simp] theorem updSrc_rdI (i : Nat) (f : Source → Source) (q : Nat) : (s.updSrc i f).rdI q = s.rdI q := rfl
@[simp] theorem updSrc_rdc (i : Nat) (f : Source → Source) (q : Nat) : (s.updSrc i f).rdc q = s.rdc q := rfl
@[simp] theorem updSrc_ses (i : Nat) (f : Source → Source) (q : Nat) : (s.updSrc i f).ses q = s.ses q := rfl
theorem updSrc_rest (i : Nat) (f : Source → Source) : (s.updSrc i f).rest = { s.rest with trig := (s.updSrc i f).trig } := rfl

/-! ### updSeqr -/

@[simp] theorem updSeqr_tick (i : Nat) (f : Seqr → Seqr) : (s.updSeqr i f).tick = s.tick := rfl
@[simp] theorem updSeqr_wall (i : Nat) (f : Seqr → Seqr) : (s.updSeqr i f).wall = s.wall := rfl
@[simp] theorem updSeqr_free (i : Nat) (f : Seqr → Seqr) : (s.updSeqr i f).free = s.free := rfl
@[simp] theorem updSeqr_pending (i : Nat) (f : Seqr → Seqr) : (s.updSeqr i f).pending = s.pending := rfl
@[simp] theorem updSeqr_obj (i : Nat) (f : Seqr → Seqr) : (s.updSeqr i f).obj = s.obj := rfl
@[simp] theorem updSeqr_com (i : Nat) (f : Seqr → Seqr) : (s.updSeqr i f).com = s.com := rfl
@[simp] theorem updSeqr_staged (i : Nat) (f : Seqr → Seqr) : (s.updSeqr i f).staged = s.staged := rfl
@[simp] theorem updSeqr_mram (i : Nat) (f : Seqr → Seqr) : (s.updSeqr i f).mram = s.mram := rfl
@[simp] theorem updSeqr_log (i : Nat) (f : Seqr → Seqr) : (s.updSeqr i f).log = s.log := rfl
@[simp] theorem updSeqr_sess (i : Nat) (f : Seqr → Seqr) : (s.updSeqr i f).sess = s.sess := rfl
@[simp] theorem updSeqr_i3c (i : Nat) (f : Seqr → Seqr) : (s.updSeqr i f).i3c = s.i3c := rfl
@[simp] theorem updSeqr_swaps (i : Nat) (f : Seqr → Seqr) : (s.updSeqr i f).swaps = s.swaps := rfl
@[simp] theorem updSeqr_swapId (i : Nat) (f : Seqr → Seqr) : (s.updSeqr i f).swapId = s.swapId := rfl
@[simp] theorem updSeqr_commits (i : Nat) (f : Seqr → Seqr) : (s.updSeqr i f).commits = s.commits := rfl
@[simp] theorem updSeqr_owners (i : Nat) (f : Seqr → Seqr) : (s.updSeqr i f).owners = s.owners := rfl
@[simp] theorem updSeqr_flows (i : Nat) (f : Seqr → Seqr) : (s.updSeqr i f).flows = s.flows := rfl
@[simp] theorem updSeqr_wire (i : Nat) (f : Seqr → Seqr) : (s.updSeqr i f).wire = s.wire := rfl
@[simp] theorem updSeqr_rsv (i : Nat) (f : Seqr → Seqr) : (s.updSeqr i f).rsv = s.rsv := rfl
@[simp] theorem updSeqr_loads (i : Nat) (f : Seqr → Seqr) : (s.updSeqr i f).loads = s.loads := rfl
@[simp] theorem updSeqr_trig (i : Nat) (f : Seqr → Seqr) : (s.updSeqr i f).trig = { s.trig with seqs := s.trig.seqs.modify i f } := rfl
@[simp] theorem updSeqr_planes (i : Nat) (f : Seqr → Seqr) : (s.updSeqr i f).planes = s.planes := rfl
@[simp] theorem updSeqr_chans (i : Nat) (f : Seqr → Seqr) : (s.updSeqr i f).chans = s.chans := rfl
@[simp] theorem updSeqr_conv (i : Nat) (f : Seqr → Seqr) : (s.updSeqr i f).conv = s.conv := rfl
@[simp] theorem updSeqr_tuners (i : Nat) (f : Seqr → Seqr) : (s.updSeqr i f).tuners = s.tuners := rfl
@[simp] theorem updSeqr_ctxs (i : Nat) (f : Seqr → Seqr) : (s.updSeqr i f).ctxs = s.ctxs := rfl
@[simp] theorem updSeqr_dets (i : Nat) (f : Seqr → Seqr) : (s.updSeqr i f).dets = s.dets := rfl
@[simp] theorem updSeqr_shed (i : Nat) (f : Seqr → Seqr) : (s.updSeqr i f).shed = s.shed := rfl
@[simp] theorem updSeqr_gens (i : Nat) (f : Seqr → Seqr) : (s.updSeqr i f).gens = s.gens := rfl
@[simp] theorem updSeqr_formed (i : Nat) (f : Seqr → Seqr) : (s.updSeqr i f).formed = s.formed := rfl
@[simp] theorem updSeqr_twin (i : Nat) (f : Seqr → Seqr) : (s.updSeqr i f).twin = s.twin := rfl
@[simp] theorem updSeqr_clk (i : Nat) (f : Seqr → Seqr) : (s.updSeqr i f).clk = s.clk := rfl
@[simp] theorem updSeqr_plumb (i : Nat) (f : Seqr → Seqr) : (s.updSeqr i f).plumb = s.plumb := rfl
@[simp] theorem updSeqr_ports (i : Nat) (f : Seqr → Seqr) : (s.updSeqr i f).ports = s.ports := rfl
@[simp] theorem updSeqr_opens (i : Nat) (f : Seqr → Seqr) : (s.updSeqr i f).opens = s.opens := rfl
@[simp] theorem updSeqr_openTimes (i : Nat) (f : Seqr → Seqr) : (s.updSeqr i f).openTimes = s.openTimes := rfl
@[simp] theorem updSeqr_anchorAt (i : Nat) (f : Seqr → Seqr) : (s.updSeqr i f).anchorAt = s.anchorAt := rfl
@[simp] theorem updSeqr_signed (i : Nat) (f : Seqr → Seqr) : (s.updSeqr i f).signed = s.signed := rfl
@[simp] theorem updSeqr_movers (i : Nat) (f : Seqr → Seqr) : (s.updSeqr i f).movers = s.movers := rfl
@[simp] theorem updSeqr_scan (i : Nat) (f : Seqr → Seqr) : (s.updSeqr i f).scan = s.scan := rfl
@[simp] theorem updSeqr_pwr (i : Nat) (f : Seqr → Seqr) : (s.updSeqr i f).pwr = s.pwr := rfl
@[simp] theorem updSeqr_upd (i : Nat) (f : Seqr → Seqr) : (s.updSeqr i f).upd = s.upd := rfl
@[simp] theorem updSeqr_sec (i : Nat) (f : Seqr → Seqr) : (s.updSeqr i f).sec = s.sec := rfl
@[simp] theorem updSeqr_start (i : Nat) (f : Seqr → Seqr) : (s.updSeqr i f).start = s.start := rfl
@[simp] theorem updSeqr_rd (i : Nat) (f : Seqr → Seqr) (q : Nat) : (s.updSeqr i f).rd q = s.rd q := rfl
@[simp] theorem updSeqr_rdB (i : Nat) (f : Seqr → Seqr) (q : Nat) : (s.updSeqr i f).rdB q = s.rdB q := rfl
@[simp] theorem updSeqr_rdI (i : Nat) (f : Seqr → Seqr) (q : Nat) : (s.updSeqr i f).rdI q = s.rdI q := rfl
@[simp] theorem updSeqr_rdc (i : Nat) (f : Seqr → Seqr) (q : Nat) : (s.updSeqr i f).rdc q = s.rdc q := rfl
@[simp] theorem updSeqr_ses (i : Nat) (f : Seqr → Seqr) (q : Nat) : (s.updSeqr i f).ses q = s.ses q := rfl
theorem updSeqr_rest (i : Nat) (f : Seqr → Seqr) : (s.updSeqr i f).rest = { s.rest with trig := (s.updSeqr i f).trig } := rfl

/-! ### rest -/

@[simp] theorem rest_tick : s.rest.tick = s.tick := rfl
@[simp] theorem rest_wall : s.rest.wall = s.wall := rfl
@[simp] theorem rest_free : s.rest.free = s.free := rfl
@[simp] theorem rest_pending : s.rest.pending = s.pending := rfl
@[simp] theorem rest_obj : s.rest.obj = [] := rfl
@[simp] theorem rest_com : s.rest.com = s.com := rfl
@[simp] theorem rest_staged : s.rest.staged = s.staged := rfl
@[simp] theorem rest_mram : s.rest.mram = s.mram := rfl
@[simp] theorem rest_log : s.rest.log = {} := rfl
@[simp] theorem rest_sess : s.rest.sess = [] := rfl
@[simp] theorem rest_i3c : s.rest.i3c = s.i3c := rfl
@[simp] theorem rest_swaps : s.rest.swaps = s.swaps := rfl
@[simp] theorem rest_swapId : s.rest.swapId = s.swapId := rfl
@[simp] theorem rest_commits : s.rest.commits = s.commits := rfl
@[simp] theorem rest_owners : s.rest.owners = s.owners := rfl
@[simp] theorem rest_flows : s.rest.flows = s.flows := rfl
@[simp] theorem rest_wire : s.rest.wire = s.wire := rfl
@[simp] theorem rest_rsv : s.rest.rsv = s.rsv := rfl
@[simp] theorem rest_loads : s.rest.loads = s.loads := rfl
@[simp] theorem rest_trig : s.rest.trig = s.trig := rfl
@[simp] theorem rest_planes : s.rest.planes = s.planes := rfl
@[simp] theorem rest_chans : s.rest.chans = s.chans := rfl
@[simp] theorem rest_conv : s.rest.conv = s.conv := rfl
@[simp] theorem rest_tuners : s.rest.tuners = s.tuners := rfl
@[simp] theorem rest_ctxs : s.rest.ctxs = s.ctxs := rfl
@[simp] theorem rest_dets : s.rest.dets = s.dets := rfl
@[simp] theorem rest_shed : s.rest.shed = s.shed := rfl
@[simp] theorem rest_gens : s.rest.gens = s.gens := rfl
@[simp] theorem rest_formed : s.rest.formed = s.formed := rfl
@[simp] theorem rest_twin : s.rest.twin = s.twin := rfl
@[simp] theorem rest_clk : s.rest.clk = s.clk := rfl
@[simp] theorem rest_plumb : s.rest.plumb = s.plumb := rfl
@[simp] theorem rest_ports : s.rest.ports = s.ports := rfl
@[simp] theorem rest_opens : s.rest.opens = s.opens := rfl
@[simp] theorem rest_openTimes : s.rest.openTimes = s.openTimes := rfl
@[simp] theorem rest_anchorAt : s.rest.anchorAt = s.anchorAt := rfl
@[simp] theorem rest_signed : s.rest.signed = s.signed := rfl
@[simp] theorem rest_movers : s.rest.movers = s.movers := rfl
@[simp] theorem rest_scan : s.rest.scan = s.scan := rfl
@[simp] theorem rest_pwr : s.rest.pwr = s.pwr := rfl
@[simp] theorem rest_upd : s.rest.upd = s.upd := rfl
@[simp] theorem rest_sec : s.rest.sec = s.sec := rfl
@[simp] theorem rest_start : s.rest.start = s.start := rfl

end Sys2Proof.Machine.State
end

