-- ==== Sys2Proof/Laws/Ops.lean ====
section
/-! SUPPORT. What the shared operations do: objects after a write, answers, events and alerts, and a served write. A proof about
a command cites these and does not unfold the operations. -/

namespace Sys2Proof.Machine

namespace State

variable (s : State)

/-! ## The Reservoir's words -/

/-- A word written is read back, and every other word reads as before. -/
theorem word_putMem (a w b : Nat) : (s.putMem a w).word b = if b = a then w else s.word b :=
  Mem.get_set zeroDflt s.rsv.mem a w b

/-- Writing a word keeps the canonical form of the memory. -/
theorem putMem_wf (a w : Nat) (h : Mem.wf zeroDflt s.rsv.mem = true) : Mem.wf zeroDflt (s.putMem a w).rsv.mem = true :=
  Mem.wf_set zeroDflt s.rsv.mem a w h

/-! ## Objects -/

theorem rdB_wr (k v k' : Nat) : (s.wr k v).rdB k' = if k' = k then v == 1 else s.rdB k' := by
  unfold rdB; rw [rd_wr]; split <;> rfl

theorem rdI_wr (k v k' : Nat) : (s.wr k v).rdI k' = if k' = k then toI 36 v else s.rdI k' := by
  unfold rdI; rw [rd_wr]; split <;> rfl

/-- A value that `wrAll` writes last, or what was there. -/
theorem rd_wrAll (l : List (Nat × Nat)) (k : Nat) :
    (s.wrAll l).rd k = ((l.reverse.find? fun p => p.1 == k).map Prod.snd).getD (s.rd k) := by
  unfold wrAll
  induction l generalizing s with
  | nil => rfl
  | cons p l ih =>
    rw [List.foldl_cons, ih, List.reverse_cons, List.find?_append]
    cases h : l.reverse.find? fun p => p.1 == k with
    | some q => simp
    | none =>
      by_cases e : p.1 = k
      · simp [e]
      · simp [e, rd_wr, Ne.symm e]

theorem wrAll_nil : s.wrAll [] = s := rfl
theorem wrAll_cons (p : Nat × Nat) (l : List (Nat × Nat)) : s.wrAll (p :: l) = (s.wr p.1 p.2).wrAll l := rfl

/-! ## Sessions -/

theorem ses_updSes (i : Nat) (f : Sess → Sess) (j : Nat) :
    (s.updSes i f).ses j = if j = i ∧ i < s.sess.length then f (s.ses i) else s.ses j := by
  unfold ses at'
  simp only [updSes_sess, List.getD_eq_getElem?_getD, List.getElem?_modify]
  by_cases h : j = i
  · subst h
    by_cases l : j < s.sess.length
    · simp [l]
    · simp [l]
  · have : ¬ i = j := fun e => h e.symm
    simp [h, this]

/-- An open session is one of those the state holds. -/
theorem ses_lt {s : State} {i : Nat} (h : (s.ses i).isOpen = true) : i < s.sess.length := by
  by_contra l
  have : s.ses i = default := by
    unfold ses at'; rw [List.getD_eq_getElem?_getD, List.getElem?_eq_none (by omega)]; rfl
  rw [this] at h; exact absurd h (by decide)

/-- The session's latest frame is now. -/
def hear (i : Nat) : State := s.updSes i fun x => { x with heard := s.wall }

end State

/-! ## Frames to the host -/

namespace State

variable (s : State)

@[simp] theorem queue_obj (i : Nat) (f : Frame) : (s.queue i f).obj = s.obj := by unfold queue; split <;> rfl
@[simp] theorem queue_rd (i : Nat) (f : Frame) (q : Nat) : (s.queue i f).rd q = s.rd q := by unfold queue; split <;> rfl
@[simp] theorem queue_rdc (i : Nat) (f : Frame) (q : Nat) : (s.queue i f).rdc q = s.rdc q := by unfold queue; split <;> rfl
@[simp] theorem queue_rest (i : Nat) (f : Frame) : (s.queue i f).rest = s.rest := by unfold queue; split <;> rfl
@[simp] theorem queue_log (i : Nat) (f : Frame) : (s.queue i f).log = s.log := by unfold queue; split <;> rfl

theorem queue_plain {i : Nat} (f : Frame) (h : (s.ses i).mirror = false) :
    s.queue i f = s.updSes i fun x => { x with txq := x.txq ++ [f] } := by
  unfold queue; simp [h]

/-- The words of a response and the session that it goes to: only that session's record can change. -/
theorem queue_ses_other {i j : Nat} (f : Frame) (h : j ≠ i) : (s.queue i f).ses j = s.ses j := by
  unfold queue; split
  · rfl
  · rw [ses_updSes]; simp [h]

/-! ## Answers -/

@[simp] theorem respond_obj (i g k : Nat) (st : Status) (d : Nat) (w : List Nat) : (s.respond i g k st d w).obj = s.obj := queue_obj ..
@[simp] theorem respond_rd (i g k : Nat) (st : Status) (d : Nat) (w : List Nat) (q : Nat) : (s.respond i g k st d w).rd q = s.rd q := queue_rd ..
@[simp] theorem respond_rest (i g k : Nat) (st : Status) (d : Nat) (w : List Nat) : (s.respond i g k st d w).rest = s.rest := queue_rest ..
@[simp] theorem respond_log (i g k : Nat) (st : Status) (d : Nat) (w : List Nat) : (s.respond i g k st d w).log = s.log := queue_log ..
@[simp] theorem answer_obj (r : Req) (st : Status) (d : Nat) (w : List Nat) : (s.answer r st d w).obj = s.obj := queue_obj ..
@[simp] theorem answer_rd (r : Req) (st : Status) (d : Nat) (w : List Nat) (q : Nat) : (s.answer r st d w).rd q = s.rd q := queue_rd ..
@[simp] theorem answer_rdc (r : Req) (st : Status) (d : Nat) (w : List Nat) (q : Nat) : (s.answer r st d w).rdc q = s.rdc q := queue_rdc ..
@[simp] theorem answer_rest (r : Req) (st : Status) (d : Nat) (w : List Nat) : (s.answer r st d w).rest = s.rest := queue_rest ..
@[simp] theorem answer_log (r : Req) (st : Status) (d : Nat) (w : List Nat) : (s.answer r st d w).log = s.log := queue_log ..
@[simp] theorem accept_obj (r : Req) : (s.accept r).obj = s.obj := queue_obj ..
@[simp] theorem accept_rd (r : Req) (q : Nat) : (s.accept r).rd q = s.rd q := queue_rd ..
@[simp] theorem accept_rdc (r : Req) (q : Nat) : (s.accept r).rdc q = s.rdc q := queue_rdc ..
@[simp] theorem accept_rest (r : Req) : (s.accept r).rest = s.rest := queue_rest ..
@[simp] theorem accept_log (r : Req) : (s.accept r).log = s.log := queue_log ..
@[simp] theorem finish_obj (r : Req) (st : Status) (d : Nat) : (s.finish r st d).obj = s.obj := by
  unfold finish; split
  · exact queue_obj ..
  · rfl
@[simp] theorem finish_rd (r : Req) (st : Status) (d : Nat) (q : Nat) : (s.finish r st d).rd q = s.rd q := by
  unfold rd; rw [finish_obj]
@[simp] theorem finish_rest (r : Req) (st : Status) (d : Nat) : (s.finish r st d).rest = s.rest := by
  unfold finish; split
  · exact queue_rest ..
  · rfl
@[simp] theorem finish_log (r : Req) (st : Status) (d : Nat) : (s.finish r st d).log = s.log := by
  unfold finish; split
  · exact queue_log ..
  · rfl

/-! ## Counters, live values -/

@[simp] theorem wrI_rest (k : Nat) (i : Int) : (s.wrI k i).rest = s.rest := rfl
@[simp] theorem countN_rest (k n : Nat) : (s.countN k n).rest = s.rest := rfl
@[simp] theorem count_rest (k : Nat) : (s.count k).rest = s.rest := rfl
@[simp] theorem peak_rest (k n : Nat) : (s.peak k n).rest = s.rest := rfl
@[simp] theorem markPs_rest (i k : Nat) : (s.markPs i k).rest = s.rest := rfl
@[simp] theorem markPs_rd (i k q : Nat) : (s.markPs i k).rd q = s.rd q := rfl
@[simp] theorem wrI_sess (k : Nat) (i : Int) : (s.wrI k i).sess = s.sess := rfl
@[simp] theorem countN_sess (k n : Nat) : (s.countN k n).sess = s.sess := rfl
@[simp] theorem count_sess (k : Nat) : (s.count k).sess = s.sess := rfl
@[simp] theorem peak_sess (k n : Nat) : (s.peak k n).sess = s.sess := rfl
@[simp] theorem wrI_ses (k : Nat) (i : Int) (j : Nat) : (s.wrI k i).ses j = s.ses j := rfl
@[simp] theorem count_ses (k j : Nat) : (s.count k).ses j = s.ses j := rfl
@[simp] theorem wrI_log (k : Nat) (i : Int) : (s.wrI k i).log = s.log := rfl
@[simp] theorem countN_log (k n : Nat) : (s.countN k n).log = s.log := rfl
@[simp] theorem count_log (k : Nat) : (s.count k).log = s.log := rfl

theorem rd_countN (k n q : Nat) : (s.countN k n).rd q = if q = k then min (2 ^ 32 - 1) (s.rd k + n) else s.rd q := rd_wr ..
theorem rd_count (k q : Nat) : (s.count k).rd q = if q = k then min (2 ^ 32 - 1) (s.rd k + 1) else s.rd q := rd_wr ..
theorem rd_peak (k v q : Nat) : (s.peak k v).rd q = if q = k then max (s.rd k) v else s.rd q := rd_wr ..
theorem rd_wrI (k : Nat) (i : Int) (q : Nat) : (s.wrI k i).rd q = if q = k then ofI 36 i else s.rd q := rd_wr ..

/-- A fold of an operation that leaves something as it was leaves it as it was. -/
theorem foldl_same {α β : Type} (F : State → β) (f : State → α → State) (h : ∀ s a, F (f s a) = F s) (l : List α) (s : State) :
    F (l.foldl f s) = F s := by
  induction l generalizing s with
  | nil => rfl
  | cons a l ih => rw [List.foldl_cons, ih, h]

@[simp] theorem wrAll_rest (l : List (Nat × Nat)) : (s.wrAll l).rest = s.rest := foldl_same rest (fun (s : State) (p : Nat × Nat) => s.wr p.1 p.2) (fun _ _ => rfl) l s
@[simp] theorem wrAll_sess (l : List (Nat × Nat)) : (s.wrAll l).sess = s.sess := foldl_same sess (fun (s : State) (p : Nat × Nat) => s.wr p.1 p.2) (fun _ _ => rfl) l s
@[simp] theorem wrAll_log (l : List (Nat × Nat)) : (s.wrAll l).log = s.log := foldl_same log (fun (s : State) (p : Nat × Nat) => s.wr p.1 p.2) (fun _ _ => rfl) l s
@[simp] theorem wrAll_ses (l : List (Nat × Nat)) (j : Nat) : (s.wrAll l).ses j = s.ses j := by unfold ses; rw [wrAll_sess]

/-! ## Events and alerts (R340, R451, R452) -/

/-- A notification is not sent, is counted as lost, or is queued. -/
theorem notify_cases (P : State → Prop) (i c d : Nat) (w : List Nat) (h0 : P s) (h1 : P (s.count (sk i Obj.DEV_NOTIFY_LOST)))
    (h2 : P (s.queue i ⟨0x90, 0, c, d, 0, 0, w⟩)) : P (s.notify i c d w) := by
  unfold notify
  generalize (if c = 1 then 0 else if c = 3 then 1 else 2) = b
  dsimp only
  split
  · exact h0
  · split
    · exact h1
    · exact h2

@[simp] theorem notify_rest (i c d : Nat) (w : List Nat) : (s.notify i c d w).rest = s.rest :=
  notify_cases s (fun t => t.rest = s.rest) i c d w rfl rfl (queue_rest ..)
@[simp] theorem notify_log (i c d : Nat) (w : List Nat) : (s.notify i c d w).log = s.log :=
  notify_cases s (fun t => t.log = s.log) i c d w rfl rfl (queue_log ..)
theorem notify_rd (i c d : Nat) (w : List Nat) (q : Nat) (h : q ≠ sk i Obj.DEV_NOTIFY_LOST) : (s.notify i c d w).rd q = s.rd q :=
  notify_cases s (fun t => t.rd q = s.rd q) i c d w rfl (rd_wr_other _ _ _ _ h) (queue_rd ..)

@[simp] theorem alertAll_rest (c : Nat) : (s.alertAll c).rest = s.rest := foldl_same rest (fun s i => s.notify i 4 0 [c]) (fun _ _ => notify_rest ..) _ s
@[simp] theorem alertAll_log (c : Nat) : (s.alertAll c).log = s.log := foldl_same log (fun s i => s.notify i 4 0 [c]) (fun _ _ => notify_log ..) _ s
theorem alertAll_rd (c q : Nat) (h : ∀ i, i < 8 → q ≠ sk i Obj.DEV_NOTIFY_LOST) : (s.alertAll c).rd q = s.rd q := by
  unfold alertAll
  have : ∀ (l : List Nat) (s : State), (∀ i ∈ l, i < 8) → (l.foldl (fun s i => s.notify i 4 0 [c]) s).rd q = s.rd q := by
    intro l
    induction l with
    | nil => intros; rfl
    | cons a l ih =>
      intro s hl
      rw [List.foldl_cons, ih _ (fun i hi => hl i (List.mem_cons_of_mem _ hi))]
      exact notify_rd _ _ _ _ _ _ (h a (hl a List.mem_cons_self))
  exact this _ s (fun i hi => List.mem_range.mp hi)

/-- An event changes the dictionary, the sessions' frames and the log alone. -/
@[simp] theorem event_rest (c i e a b d : Nat) : (s.event c i e a b d).rest = s.rest := by
  unfold event; dsimp only
  split <;> split <;> simp <;> rfl

/-- An event leaves every object but the log's as it was. -/
theorem event_rd (c i e a b d q : Nat) (h : eventKey q = false) : (s.event c i e a b d).rd q = s.rd q := by
  have h' := h
  simp only [eventKey, Bool.or_eq_false_iff, beq_eq_false_iff_ne, List.any_eq_false, List.mem_range, beq_iff_eq, ne_eq] at h'
  obtain ⟨⟨⟨⟨⟨⟨h1, h2⟩, h3⟩, h4⟩, h5⟩, h6⟩, h7⟩ := h'
  unfold event
  extract_lets r recent d' l' t
  have A : t.rd q = s.rd q := by
    simp only [t]
    split
    · exact (rd_wr_other _ _ _ _ h2).trans (rd_wr_other _ _ _ _ h1)
    · exact rd_wr_other _ _ _ _ h3
  split
  · exact A
  · exact (alertAll_rd _ _ _ (fun i hi => h7 i hi)).trans
      ((rd_wr_other _ _ _ _ h6).trans ((rd_wr_other _ _ _ _ h5).trans ((rd_wr_other _ _ _ _ h4).trans A)))

/-! ## What the operations above leave of every other field -/

@[simp] theorem queue_tick (i : Nat) (f : Frame) : (s.queue i f).tick = s.tick := (congrArg State.tick (queue_rest s i f) :)
@[simp] theorem queue_wall (i : Nat) (f : Frame) : (s.queue i f).wall = s.wall := (congrArg State.wall (queue_rest s i f) :)
@[simp] theorem queue_free (i : Nat) (f : Frame) : (s.queue i f).free = s.free := (congrArg State.free (queue_rest s i f) :)
@[simp] theorem queue_pending (i : Nat) (f : Frame) : (s.queue i f).pending = s.pending := (congrArg State.pending (queue_rest s i f) :)
@[simp] theorem queue_com (i : Nat) (f : Frame) : (s.queue i f).com = s.com := (congrArg State.com (queue_rest s i f) :)
@[simp] theorem queue_staged (i : Nat) (f : Frame) : (s.queue i f).staged = s.staged := (congrArg State.staged (queue_rest s i f) :)
@[simp] theorem queue_mram (i : Nat) (f : Frame) : (s.queue i f).mram = s.mram := (congrArg State.mram (queue_rest s i f) :)
@[simp] theorem queue_i3c (i : Nat) (f : Frame) : (s.queue i f).i3c = s.i3c := (congrArg State.i3c (queue_rest s i f) :)
@[simp] theorem queue_swaps (i : Nat) (f : Frame) : (s.queue i f).swaps = s.swaps := (congrArg State.swaps (queue_rest s i f) :)
@[simp] theorem queue_swapId (i : Nat) (f : Frame) : (s.queue i f).swapId = s.swapId := (congrArg State.swapId (queue_rest s i f) :)
@[simp] theorem queue_commits (i : Nat) (f : Frame) : (s.queue i f).commits = s.commits := (congrArg State.commits (queue_rest s i f) :)
@[simp] theorem queue_owners (i : Nat) (f : Frame) : (s.queue i f).owners = s.owners := (congrArg State.owners (queue_rest s i f) :)
@[simp] theorem queue_flows (i : Nat) (f : Frame) : (s.queue i f).flows = s.flows := (congrArg State.flows (queue_rest s i f) :)
@[simp] theorem queue_wire (i : Nat) (f : Frame) : (s.queue i f).wire = s.wire := (congrArg State.wire (queue_rest s i f) :)
@[simp] theorem queue_rsv (i : Nat) (f : Frame) : (s.queue i f).rsv = s.rsv := (congrArg State.rsv (queue_rest s i f) :)
@[simp] theorem queue_loads (i : Nat) (f : Frame) : (s.queue i f).loads = s.loads := (congrArg State.loads (queue_rest s i f) :)
@[simp] theorem queue_trig (i : Nat) (f : Frame) : (s.queue i f).trig = s.trig := (congrArg State.trig (queue_rest s i f) :)
@[simp] theorem queue_planes (i : Nat) (f : Frame) : (s.queue i f).planes = s.planes := (congrArg State.planes (queue_rest s i f) :)
@[simp] theorem queue_chans (i : Nat) (f : Frame) : (s.queue i f).chans = s.chans := (congrArg State.chans (queue_rest s i f) :)
@[simp] theorem queue_conv (i : Nat) (f : Frame) : (s.queue i f).conv = s.conv := (congrArg State.conv (queue_rest s i f) :)
@[simp] theorem queue_tuners (i : Nat) (f : Frame) : (s.queue i f).tuners = s.tuners := (congrArg State.tuners (queue_rest s i f) :)
@[simp] theorem queue_ctxs (i : Nat) (f : Frame) : (s.queue i f).ctxs = s.ctxs := (congrArg State.ctxs (queue_rest s i f) :)
@[simp] theorem queue_dets (i : Nat) (f : Frame) : (s.queue i f).dets = s.dets := (congrArg State.dets (queue_rest s i f) :)
@[simp] theorem queue_shed (i : Nat) (f : Frame) : (s.queue i f).shed = s.shed := (congrArg State.shed (queue_rest s i f) :)
@[simp] theorem queue_gens (i : Nat) (f : Frame) : (s.queue i f).gens = s.gens := (congrArg State.gens (queue_rest s i f) :)
@[simp] theorem queue_formed (i : Nat) (f : Frame) : (s.queue i f).formed = s.formed := (congrArg State.formed (queue_rest s i f) :)
@[simp] theorem queue_twin (i : Nat) (f : Frame) : (s.queue i f).twin = s.twin := (congrArg State.twin (queue_rest s i f) :)
@[simp] theorem queue_clk (i : Nat) (f : Frame) : (s.queue i f).clk = s.clk := (congrArg State.clk (queue_rest s i f) :)
@[simp] theorem queue_plumb (i : Nat) (f : Frame) : (s.queue i f).plumb = s.plumb := (congrArg State.plumb (queue_rest s i f) :)
@[simp] theorem queue_ports (i : Nat) (f : Frame) : (s.queue i f).ports = s.ports := (congrArg State.ports (queue_rest s i f) :)
@[simp] theorem queue_opens (i : Nat) (f : Frame) : (s.queue i f).opens = s.opens := (congrArg State.opens (queue_rest s i f) :)
@[simp] theorem queue_openTimes (i : Nat) (f : Frame) : (s.queue i f).openTimes = s.openTimes := (congrArg State.openTimes (queue_rest s i f) :)
@[simp] theorem queue_anchorAt (i : Nat) (f : Frame) : (s.queue i f).anchorAt = s.anchorAt := (congrArg State.anchorAt (queue_rest s i f) :)
@[simp] theorem queue_signed (i : Nat) (f : Frame) : (s.queue i f).signed = s.signed := (congrArg State.signed (queue_rest s i f) :)
@[simp] theorem queue_movers (i : Nat) (f : Frame) : (s.queue i f).movers = s.movers := (congrArg State.movers (queue_rest s i f) :)
@[simp] theorem queue_scan (i : Nat) (f : Frame) : (s.queue i f).scan = s.scan := (congrArg State.scan (queue_rest s i f) :)
@[simp] theorem queue_pwr (i : Nat) (f : Frame) : (s.queue i f).pwr = s.pwr := (congrArg State.pwr (queue_rest s i f) :)
@[simp] theorem queue_upd (i : Nat) (f : Frame) : (s.queue i f).upd = s.upd := (congrArg State.upd (queue_rest s i f) :)
@[simp] theorem queue_sec (i : Nat) (f : Frame) : (s.queue i f).sec = s.sec := (congrArg State.sec (queue_rest s i f) :)
@[simp] theorem queue_start (i : Nat) (f : Frame) : (s.queue i f).start = s.start := (congrArg State.start (queue_rest s i f) :)
@[simp] theorem answer_tick (r : Req) (st : Status) (d : Nat) (w : List Nat) : (s.answer r st d w).tick = s.tick := (congrArg State.tick (answer_rest s r st d w) :)
@[simp] theorem answer_wall (r : Req) (st : Status) (d : Nat) (w : List Nat) : (s.answer r st d w).wall = s.wall := (congrArg State.wall (answer_rest s r st d w) :)
@[simp] theorem answer_free (r : Req) (st : Status) (d : Nat) (w : List Nat) : (s.answer r st d w).free = s.free := (congrArg State.free (answer_rest s r st d w) :)
@[simp] theorem answer_pending (r : Req) (st : Status) (d : Nat) (w : List Nat) : (s.answer r st d w).pending = s.pending := (congrArg State.pending (answer_rest s r st d w) :)
@[simp] theorem answer_com (r : Req) (st : Status) (d : Nat) (w : List Nat) : (s.answer r st d w).com = s.com := (congrArg State.com (answer_rest s r st d w) :)
@[simp] theorem answer_staged (r : Req) (st : Status) (d : Nat) (w : List Nat) : (s.answer r st d w).staged = s.staged := (congrArg State.staged (answer_rest s r st d w) :)
@[simp] theorem answer_mram (r : Req) (st : Status) (d : Nat) (w : List Nat) : (s.answer r st d w).mram = s.mram := (congrArg State.mram (answer_rest s r st d w) :)
@[simp] theorem answer_i3c (r : Req) (st : Status) (d : Nat) (w : List Nat) : (s.answer r st d w).i3c = s.i3c := (congrArg State.i3c (answer_rest s r st d w) :)
@[simp] theorem answer_swaps (r : Req) (st : Status) (d : Nat) (w : List Nat) : (s.answer r st d w).swaps = s.swaps := (congrArg State.swaps (answer_rest s r st d w) :)
@[simp] theorem answer_swapId (r : Req) (st : Status) (d : Nat) (w : List Nat) : (s.answer r st d w).swapId = s.swapId := (congrArg State.swapId (answer_rest s r st d w) :)
@[simp] theorem answer_commits (r : Req) (st : Status) (d : Nat) (w : List Nat) : (s.answer r st d w).commits = s.commits := (congrArg State.commits (answer_rest s r st d w) :)
@[simp] theorem answer_owners (r : Req) (st : Status) (d : Nat) (w : List Nat) : (s.answer r st d w).owners = s.owners := (congrArg State.owners (answer_rest s r st d w) :)
@[simp] theorem answer_flows (r : Req) (st : Status) (d : Nat) (w : List Nat) : (s.answer r st d w).flows = s.flows := (congrArg State.flows (answer_rest s r st d w) :)
@[simp] theorem answer_wire (r : Req) (st : Status) (d : Nat) (w : List Nat) : (s.answer r st d w).wire = s.wire := (congrArg State.wire (answer_rest s r st d w) :)
@[simp] theorem answer_rsv (r : Req) (st : Status) (d : Nat) (w : List Nat) : (s.answer r st d w).rsv = s.rsv := (congrArg State.rsv (answer_rest s r st d w) :)
@[simp] theorem answer_loads (r : Req) (st : Status) (d : Nat) (w : List Nat) : (s.answer r st d w).loads = s.loads := (congrArg State.loads (answer_rest s r st d w) :)
@[simp] theorem answer_trig (r : Req) (st : Status) (d : Nat) (w : List Nat) : (s.answer r st d w).trig = s.trig := (congrArg State.trig (answer_rest s r st d w) :)
@[simp] theorem answer_planes (r : Req) (st : Status) (d : Nat) (w : List Nat) : (s.answer r st d w).planes = s.planes := (congrArg State.planes (answer_rest s r st d w) :)
@[simp] theorem answer_chans (r : Req) (st : Status) (d : Nat) (w : List Nat) : (s.answer r st d w).chans = s.chans := (congrArg State.chans (answer_rest s r st d w) :)
@[simp] theorem answer_conv (r : Req) (st : Status) (d : Nat) (w : List Nat) : (s.answer r st d w).conv = s.conv := (congrArg State.conv (answer_rest s r st d w) :)
@[simp] theorem answer_tuners (r : Req) (st : Status) (d : Nat) (w : List Nat) : (s.answer r st d w).tuners = s.tuners := (congrArg State.tuners (answer_rest s r st d w) :)
@[simp] theorem answer_ctxs (r : Req) (st : Status) (d : Nat) (w : List Nat) : (s.answer r st d w).ctxs = s.ctxs := (congrArg State.ctxs (answer_rest s r st d w) :)
@[simp] theorem answer_dets (r : Req) (st : Status) (d : Nat) (w : List Nat) : (s.answer r st d w).dets = s.dets := (congrArg State.dets (answer_rest s r st d w) :)
@[simp] theorem answer_shed (r : Req) (st : Status) (d : Nat) (w : List Nat) : (s.answer r st d w).shed = s.shed := (congrArg State.shed (answer_rest s r st d w) :)
@[simp] theorem answer_gens (r : Req) (st : Status) (d : Nat) (w : List Nat) : (s.answer r st d w).gens = s.gens := (congrArg State.gens (answer_rest s r st d w) :)
@[simp] theorem answer_formed (r : Req) (st : Status) (d : Nat) (w : List Nat) : (s.answer r st d w).formed = s.formed := (congrArg State.formed (answer_rest s r st d w) :)
@[simp] theorem answer_twin (r : Req) (st : Status) (d : Nat) (w : List Nat) : (s.answer r st d w).twin = s.twin := (congrArg State.twin (answer_rest s r st d w) :)
@[simp] theorem answer_clk (r : Req) (st : Status) (d : Nat) (w : List Nat) : (s.answer r st d w).clk = s.clk := (congrArg State.clk (answer_rest s r st d w) :)
@[simp] theorem answer_plumb (r : Req) (st : Status) (d : Nat) (w : List Nat) : (s.answer r st d w).plumb = s.plumb := (congrArg State.plumb (answer_rest s r st d w) :)
@[simp] theorem answer_ports (r : Req) (st : Status) (d : Nat) (w : List Nat) : (s.answer r st d w).ports = s.ports := (congrArg State.ports (answer_rest s r st d w) :)
@[simp] theorem answer_opens (r : Req) (st : Status) (d : Nat) (w : List Nat) : (s.answer r st d w).opens = s.opens := (congrArg State.opens (answer_rest s r st d w) :)
@[simp] theorem answer_openTimes (r : Req) (st : Status) (d : Nat) (w : List Nat) : (s.answer r st d w).openTimes = s.openTimes := (congrArg State.openTimes (answer_rest s r st d w) :)
@[simp] theorem answer_anchorAt (r : Req) (st : Status) (d : Nat) (w : List Nat) : (s.answer r st d w).anchorAt = s.anchorAt := (congrArg State.anchorAt (answer_rest s r st d w) :)
@[simp] theorem answer_signed (r : Req) (st : Status) (d : Nat) (w : List Nat) : (s.answer r st d w).signed = s.signed := (congrArg State.signed (answer_rest s r st d w) :)
@[simp] theorem answer_movers (r : Req) (st : Status) (d : Nat) (w : List Nat) : (s.answer r st d w).movers = s.movers := (congrArg State.movers (answer_rest s r st d w) :)
@[simp] theorem answer_scan (r : Req) (st : Status) (d : Nat) (w : List Nat) : (s.answer r st d w).scan = s.scan := (congrArg State.scan (answer_rest s r st d w) :)
@[simp] theorem answer_pwr (r : Req) (st : Status) (d : Nat) (w : List Nat) : (s.answer r st d w).pwr = s.pwr := (congrArg State.pwr (answer_rest s r st d w) :)
@[simp] theorem answer_upd (r : Req) (st : Status) (d : Nat) (w : List Nat) : (s.answer r st d w).upd = s.upd := (congrArg State.upd (answer_rest s r st d w) :)
@[simp] theorem answer_sec (r : Req) (st : Status) (d : Nat) (w : List Nat) : (s.answer r st d w).sec = s.sec := (congrArg State.sec (answer_rest s r st d w) :)
@[simp] theorem answer_start (r : Req) (st : Status) (d : Nat) (w : List Nat) : (s.answer r st d w).start = s.start := (congrArg State.start (answer_rest s r st d w) :)
@[simp] theorem respond_tick (i g k : Nat) (st : Status) (d : Nat) (w : List Nat) : (s.respond i g k st d w).tick = s.tick := (congrArg State.tick (respond_rest s i g k st d w) :)
@[simp] theorem respond_wall (i g k : Nat) (st : Status) (d : Nat) (w : List Nat) : (s.respond i g k st d w).wall = s.wall := (congrArg State.wall (respond_rest s i g k st d w) :)
@[simp] theorem respond_free (i g k : Nat) (st : Status) (d : Nat) (w : List Nat) : (s.respond i g k st d w).free = s.free := (congrArg State.free (respond_rest s i g k st d w) :)
@[simp] theorem respond_pending (i g k : Nat) (st : Status) (d : Nat) (w : List Nat) : (s.respond i g k st d w).pending = s.pending := (congrArg State.pending (respond_rest s i g k st d w) :)
@[simp] theorem respond_com (i g k : Nat) (st : Status) (d : Nat) (w : List Nat) : (s.respond i g k st d w).com = s.com := (congrArg State.com (respond_rest s i g k st d w) :)
@[simp] theorem respond_staged (i g k : Nat) (st : Status) (d : Nat) (w : List Nat) : (s.respond i g k st d w).staged = s.staged := (congrArg State.staged (respond_rest s i g k st d w) :)
@[simp] theorem respond_mram (i g k : Nat) (st : Status) (d : Nat) (w : List Nat) : (s.respond i g k st d w).mram = s.mram := (congrArg State.mram (respond_rest s i g k st d w) :)
@[simp] theorem respond_i3c (i g k : Nat) (st : Status) (d : Nat) (w : List Nat) : (s.respond i g k st d w).i3c = s.i3c := (congrArg State.i3c (respond_rest s i g k st d w) :)
@[simp] theorem respond_swaps (i g k : Nat) (st : Status) (d : Nat) (w : List Nat) : (s.respond i g k st d w).swaps = s.swaps := (congrArg State.swaps (respond_rest s i g k st d w) :)
@[simp] theorem respond_swapId (i g k : Nat) (st : Status) (d : Nat) (w : List Nat) : (s.respond i g k st d w).swapId = s.swapId := (congrArg State.swapId (respond_rest s i g k st d w) :)
@[simp] theorem respond_commits (i g k : Nat) (st : Status) (d : Nat) (w : List Nat) : (s.respond i g k st d w).commits = s.commits := (congrArg State.commits (respond_rest s i g k st d w) :)
@[simp] theorem respond_owners (i g k : Nat) (st : Status) (d : Nat) (w : List Nat) : (s.respond i g k st d w).owners = s.owners := (congrArg State.owners (respond_rest s i g k st d w) :)
@[simp] theorem respond_flows (i g k : Nat) (st : Status) (d : Nat) (w : List Nat) : (s.respond i g k st d w).flows = s.flows := (congrArg State.flows (respond_rest s i g k st d w) :)
@[simp] theorem respond_wire (i g k : Nat) (st : Status) (d : Nat) (w : List Nat) : (s.respond i g k st d w).wire = s.wire := (congrArg State.wire (respond_rest s i g k st d w) :)
@[simp] theorem respond_rsv (i g k : Nat) (st : Status) (d : Nat) (w : List Nat) : (s.respond i g k st d w).rsv = s.rsv := (congrArg State.rsv (respond_rest s i g k st d w) :)
@[simp] theorem respond_loads (i g k : Nat) (st : Status) (d : Nat) (w : List Nat) : (s.respond i g k st d w).loads = s.loads := (congrArg State.loads (respond_rest s i g k st d w) :)
@[simp] theorem respond_trig (i g k : Nat) (st : Status) (d : Nat) (w : List Nat) : (s.respond i g k st d w).trig = s.trig := (congrArg State.trig (respond_rest s i g k st d w) :)
@[simp] theorem respond_planes (i g k : Nat) (st : Status) (d : Nat) (w : List Nat) : (s.respond i g k st d w).planes = s.planes := (congrArg State.planes (respond_rest s i g k st d w) :)
@[simp] theorem respond_chans (i g k : Nat) (st : Status) (d : Nat) (w : List Nat) : (s.respond i g k st d w).chans = s.chans := (congrArg State.chans (respond_rest s i g k st d w) :)
@[simp] theorem respond_conv (i g k : Nat) (st : Status) (d : Nat) (w : List Nat) : (s.respond i g k st d w).conv = s.conv := (congrArg State.conv (respond_rest s i g k st d w) :)
@[simp] theorem respond_tuners (i g k : Nat) (st : Status) (d : Nat) (w : List Nat) : (s.respond i g k st d w).tuners = s.tuners := (congrArg State.tuners (respond_rest s i g k st d w) :)
@[simp] theorem respond_ctxs (i g k : Nat) (st : Status) (d : Nat) (w : List Nat) : (s.respond i g k st d w).ctxs = s.ctxs := (congrArg State.ctxs (respond_rest s i g k st d w) :)
@[simp] theorem respond_dets (i g k : Nat) (st : Status) (d : Nat) (w : List Nat) : (s.respond i g k st d w).dets = s.dets := (congrArg State.dets (respond_rest s i g k st d w) :)
@[simp] theorem respond_shed (i g k : Nat) (st : Status) (d : Nat) (w : List Nat) : (s.respond i g k st d w).shed = s.shed := (congrArg State.shed (respond_rest s i g k st d w) :)
@[simp] theorem respond_gens (i g k : Nat) (st : Status) (d : Nat) (w : List Nat) : (s.respond i g k st d w).gens = s.gens := (congrArg State.gens (respond_rest s i g k st d w) :)
@[simp] theorem respond_formed (i g k : Nat) (st : Status) (d : Nat) (w : List Nat) : (s.respond i g k st d w).formed = s.formed := (congrArg State.formed (respond_rest s i g k st d w) :)
@[simp] theorem respond_twin (i g k : Nat) (st : Status) (d : Nat) (w : List Nat) : (s.respond i g k st d w).twin = s.twin := (congrArg State.twin (respond_rest s i g k st d w) :)
@[simp] theorem respond_clk (i g k : Nat) (st : Status) (d : Nat) (w : List Nat) : (s.respond i g k st d w).clk = s.clk := (congrArg State.clk (respond_rest s i g k st d w) :)
@[simp] theorem respond_plumb (i g k : Nat) (st : Status) (d : Nat) (w : List Nat) : (s.respond i g k st d w).plumb = s.plumb := (congrArg State.plumb (respond_rest s i g k st d w) :)
@[simp] theorem respond_ports (i g k : Nat) (st : Status) (d : Nat) (w : List Nat) : (s.respond i g k st d w).ports = s.ports := (congrArg State.ports (respond_rest s i g k st d w) :)
@[simp] theorem respond_opens (i g k : Nat) (st : Status) (d : Nat) (w : List Nat) : (s.respond i g k st d w).opens = s.opens := (congrArg State.opens (respond_rest s i g k st d w) :)
@[simp] theorem respond_openTimes (i g k : Nat) (st : Status) (d : Nat) (w : List Nat) : (s.respond i g k st d w).openTimes = s.openTimes := (congrArg State.openTimes (respond_rest s i g k st d w) :)
@[simp] theorem respond_anchorAt (i g k : Nat) (st : Status) (d : Nat) (w : List Nat) : (s.respond i g k st d w).anchorAt = s.anchorAt := (congrArg State.anchorAt (respond_rest s i g k st d w) :)
@[simp] theorem respond_signed (i g k : Nat) (st : Status) (d : Nat) (w : List Nat) : (s.respond i g k st d w).signed = s.signed := (congrArg State.signed (respond_rest s i g k st d w) :)
@[simp] theorem respond_movers (i g k : Nat) (st : Status) (d : Nat) (w : List Nat) : (s.respond i g k st d w).movers = s.movers := (congrArg State.movers (respond_rest s i g k st d w) :)
@[simp] theorem respond_scan (i g k : Nat) (st : Status) (d : Nat) (w : List Nat) : (s.respond i g k st d w).scan = s.scan := (congrArg State.scan (respond_rest s i g k st d w) :)
@[simp] theorem respond_pwr (i g k : Nat) (st : Status) (d : Nat) (w : List Nat) : (s.respond i g k st d w).pwr = s.pwr := (congrArg State.pwr (respond_rest s i g k st d w) :)
@[simp] theorem respond_upd (i g k : Nat) (st : Status) (d : Nat) (w : List Nat) : (s.respond i g k st d w).upd = s.upd := (congrArg State.upd (respond_rest s i g k st d w) :)
@[simp] theorem respond_sec (i g k : Nat) (st : Status) (d : Nat) (w : List Nat) : (s.respond i g k st d w).sec = s.sec := (congrArg State.sec (respond_rest s i g k st d w) :)
@[simp] theorem respond_start (i g k : Nat) (st : Status) (d : Nat) (w : List Nat) : (s.respond i g k st d w).start = s.start := (congrArg State.start (respond_rest s i g k st d w) :)
@[simp] theorem accept_tick (r : Req) : (s.accept r).tick = s.tick := (congrArg State.tick (accept_rest s r) :)
@[simp] theorem accept_wall (r : Req) : (s.accept r).wall = s.wall := (congrArg State.wall (accept_rest s r) :)
@[simp] theorem accept_free (r : Req) : (s.accept r).free = s.free := (congrArg State.free (accept_rest s r) :)
@[simp] theorem accept_pending (r : Req) : (s.accept r).pending = s.pending := (congrArg State.pending (accept_rest s r) :)
@[simp] theorem accept_com (r : Req) : (s.accept r).com = s.com := (congrArg State.com (accept_rest s r) :)
@[simp] theorem accept_staged (r : Req) : (s.accept r).staged = s.staged := (congrArg State.staged (accept_rest s r) :)
@[simp] theorem accept_mram (r : Req) : (s.accept r).mram = s.mram := (congrArg State.mram (accept_rest s r) :)
@[simp] theorem accept_i3c (r : Req) : (s.accept r).i3c = s.i3c := (congrArg State.i3c (accept_rest s r) :)
@[simp] theorem accept_swaps (r : Req) : (s.accept r).swaps = s.swaps := (congrArg State.swaps (accept_rest s r) :)
@[simp] theorem accept_swapId (r : Req) : (s.accept r).swapId = s.swapId := (congrArg State.swapId (accept_rest s r) :)
@[simp] theorem accept_commits (r : Req) : (s.accept r).commits = s.commits := (congrArg State.commits (accept_rest s r) :)
@[simp] theorem accept_owners (r : Req) : (s.accept r).owners = s.owners := (congrArg State.owners (accept_rest s r) :)
@[simp] theorem accept_flows (r : Req) : (s.accept r).flows = s.flows := (congrArg State.flows (accept_rest s r) :)
@[simp] theorem accept_wire (r : Req) : (s.accept r).wire = s.wire := (congrArg State.wire (accept_rest s r) :)
@[simp] theorem accept_rsv (r : Req) : (s.accept r).rsv = s.rsv := (congrArg State.rsv (accept_rest s r) :)
@[simp] theorem accept_loads (r : Req) : (s.accept r).loads = s.loads := (congrArg State.loads (accept_rest s r) :)
@[simp] theorem accept_trig (r : Req) : (s.accept r).trig = s.trig := (congrArg State.trig (accept_rest s r) :)
@[simp] theorem accept_planes (r : Req) : (s.accept r).planes = s.planes := (congrArg State.planes (accept_rest s r) :)
@[simp] theorem accept_chans (r : Req) : (s.accept r).chans = s.chans := (congrArg State.chans (accept_rest s r) :)
@[simp] theorem accept_conv (r : Req) : (s.accept r).conv = s.conv := (congrArg State.conv (accept_rest s r) :)
@[simp] theorem accept_tuners (r : Req) : (s.accept r).tuners = s.tuners := (congrArg State.tuners (accept_rest s r) :)
@[simp] theorem accept_ctxs (r : Req) : (s.accept r).ctxs = s.ctxs := (congrArg State.ctxs (accept_rest s r) :)
@[simp] theorem accept_dets (r : Req) : (s.accept r).dets = s.dets := (congrArg State.dets (accept_rest s r) :)
@[simp] theorem accept_shed (r : Req) : (s.accept r).shed = s.shed := (congrArg State.shed (accept_rest s r) :)
@[simp] theorem accept_gens (r : Req) : (s.accept r).gens = s.gens := (congrArg State.gens (accept_rest s r) :)
@[simp] theorem accept_formed (r : Req) : (s.accept r).formed = s.formed := (congrArg State.formed (accept_rest s r) :)
@[simp] theorem accept_twin (r : Req) : (s.accept r).twin = s.twin := (congrArg State.twin (accept_rest s r) :)
@[simp] theorem accept_clk (r : Req) : (s.accept r).clk = s.clk := (congrArg State.clk (accept_rest s r) :)
@[simp] theorem accept_plumb (r : Req) : (s.accept r).plumb = s.plumb := (congrArg State.plumb (accept_rest s r) :)
@[simp] theorem accept_ports (r : Req) : (s.accept r).ports = s.ports := (congrArg State.ports (accept_rest s r) :)
@[simp] theorem accept_opens (r : Req) : (s.accept r).opens = s.opens := (congrArg State.opens (accept_rest s r) :)
@[simp] theorem accept_openTimes (r : Req) : (s.accept r).openTimes = s.openTimes := (congrArg State.openTimes (accept_rest s r) :)
@[simp] theorem accept_anchorAt (r : Req) : (s.accept r).anchorAt = s.anchorAt := (congrArg State.anchorAt (accept_rest s r) :)
@[simp] theorem accept_signed (r : Req) : (s.accept r).signed = s.signed := (congrArg State.signed (accept_rest s r) :)
@[simp] theorem accept_movers (r : Req) : (s.accept r).movers = s.movers := (congrArg State.movers (accept_rest s r) :)
@[simp] theorem accept_scan (r : Req) : (s.accept r).scan = s.scan := (congrArg State.scan (accept_rest s r) :)
@[simp] theorem accept_pwr (r : Req) : (s.accept r).pwr = s.pwr := (congrArg State.pwr (accept_rest s r) :)
@[simp] theorem accept_upd (r : Req) : (s.accept r).upd = s.upd := (congrArg State.upd (accept_rest s r) :)
@[simp] theorem accept_sec (r : Req) : (s.accept r).sec = s.sec := (congrArg State.sec (accept_rest s r) :)
@[simp] theorem accept_start (r : Req) : (s.accept r).start = s.start := (congrArg State.start (accept_rest s r) :)
@[simp] theorem finish_tick (r : Req) (st : Status) (d : Nat) : (s.finish r st d).tick = s.tick := (congrArg State.tick (finish_rest s r st d) :)
@[simp] theorem finish_wall (r : Req) (st : Status) (d : Nat) : (s.finish r st d).wall = s.wall := (congrArg State.wall (finish_rest s r st d) :)
@[simp] theorem finish_free (r : Req) (st : Status) (d : Nat) : (s.finish r st d).free = s.free := (congrArg State.free (finish_rest s r st d) :)
@[simp] theorem finish_pending (r : Req) (st : Status) (d : Nat) : (s.finish r st d).pending = s.pending := (congrArg State.pending (finish_rest s r st d) :)
@[simp] theorem finish_com (r : Req) (st : Status) (d : Nat) : (s.finish r st d).com = s.com := (congrArg State.com (finish_rest s r st d) :)
@[simp] theorem finish_staged (r : Req) (st : Status) (d : Nat) : (s.finish r st d).staged = s.staged := (congrArg State.staged (finish_rest s r st d) :)
@[simp] theorem finish_mram (r : Req) (st : Status) (d : Nat) : (s.finish r st d).mram = s.mram := (congrArg State.mram (finish_rest s r st d) :)
@[simp] theorem finish_i3c (r : Req) (st : Status) (d : Nat) : (s.finish r st d).i3c = s.i3c := (congrArg State.i3c (finish_rest s r st d) :)
@[simp] theorem finish_swaps (r : Req) (st : Status) (d : Nat) : (s.finish r st d).swaps = s.swaps := (congrArg State.swaps (finish_rest s r st d) :)
@[simp] theorem finish_swapId (r : Req) (st : Status) (d : Nat) : (s.finish r st d).swapId = s.swapId := (congrArg State.swapId (finish_rest s r st d) :)
@[simp] theorem finish_commits (r : Req) (st : Status) (d : Nat) : (s.finish r st d).commits = s.commits := (congrArg State.commits (finish_rest s r st d) :)
@[simp] theorem finish_owners (r : Req) (st : Status) (d : Nat) : (s.finish r st d).owners = s.owners := (congrArg State.owners (finish_rest s r st d) :)
@[simp] theorem finish_flows (r : Req) (st : Status) (d : Nat) : (s.finish r st d).flows = s.flows := (congrArg State.flows (finish_rest s r st d) :)
@[simp] theorem finish_wire (r : Req) (st : Status) (d : Nat) : (s.finish r st d).wire = s.wire := (congrArg State.wire (finish_rest s r st d) :)
@[simp] theorem finish_rsv (r : Req) (st : Status) (d : Nat) : (s.finish r st d).rsv = s.rsv := (congrArg State.rsv (finish_rest s r st d) :)
@[simp] theorem finish_loads (r : Req) (st : Status) (d : Nat) : (s.finish r st d).loads = s.loads := (congrArg State.loads (finish_rest s r st d) :)
@[simp] theorem finish_trig (r : Req) (st : Status) (d : Nat) : (s.finish r st d).trig = s.trig := (congrArg State.trig (finish_rest s r st d) :)
@[simp] theorem finish_planes (r : Req) (st : Status) (d : Nat) : (s.finish r st d).planes = s.planes := (congrArg State.planes (finish_rest s r st d) :)
@[simp] theorem finish_chans (r : Req) (st : Status) (d : Nat) : (s.finish r st d).chans = s.chans := (congrArg State.chans (finish_rest s r st d) :)
@[simp] theorem finish_conv (r : Req) (st : Status) (d : Nat) : (s.finish r st d).conv = s.conv := (congrArg State.conv (finish_rest s r st d) :)
@[simp] theorem finish_tuners (r : Req) (st : Status) (d : Nat) : (s.finish r st d).tuners = s.tuners := (congrArg State.tuners (finish_rest s r st d) :)
@[simp] theorem finish_ctxs (r : Req) (st : Status) (d : Nat) : (s.finish r st d).ctxs = s.ctxs := (congrArg State.ctxs (finish_rest s r st d) :)
@[simp] theorem finish_dets (r : Req) (st : Status) (d : Nat) : (s.finish r st d).dets = s.dets := (congrArg State.dets (finish_rest s r st d) :)
@[simp] theorem finish_shed (r : Req) (st : Status) (d : Nat) : (s.finish r st d).shed = s.shed := (congrArg State.shed (finish_rest s r st d) :)
@[simp] theorem finish_gens (r : Req) (st : Status) (d : Nat) : (s.finish r st d).gens = s.gens := (congrArg State.gens (finish_rest s r st d) :)
@[simp] theorem finish_formed (r : Req) (st : Status) (d : Nat) : (s.finish r st d).formed = s.formed := (congrArg State.formed (finish_rest s r st d) :)
@[simp] theorem finish_twin (r : Req) (st : Status) (d : Nat) : (s.finish r st d).twin = s.twin := (congrArg State.twin (finish_rest s r st d) :)
@[simp] theorem finish_clk (r : Req) (st : Status) (d : Nat) : (s.finish r st d).clk = s.clk := (congrArg State.clk (finish_rest s r st d) :)
@[simp] theorem finish_plumb (r : Req) (st : Status) (d : Nat) : (s.finish r st d).plumb = s.plumb := (congrArg State.plumb (finish_rest s r st d) :)
@[simp] theorem finish_ports (r : Req) (st : Status) (d : Nat) : (s.finish r st d).ports = s.ports := (congrArg State.ports (finish_rest s r st d) :)
@[simp] theorem finish_opens (r : Req) (st : Status) (d : Nat) : (s.finish r st d).opens = s.opens := (congrArg State.opens (finish_rest s r st d) :)
@[simp] theorem finish_openTimes (r : Req) (st : Status) (d : Nat) : (s.finish r st d).openTimes = s.openTimes := (congrArg State.openTimes (finish_rest s r st d) :)
@[simp] theorem finish_anchorAt (r : Req) (st : Status) (d : Nat) : (s.finish r st d).anchorAt = s.anchorAt := (congrArg State.anchorAt (finish_rest s r st d) :)
@[simp] theorem finish_signed (r : Req) (st : Status) (d : Nat) : (s.finish r st d).signed = s.signed := (congrArg State.signed (finish_rest s r st d) :)
@[simp] theorem finish_movers (r : Req) (st : Status) (d : Nat) : (s.finish r st d).movers = s.movers := (congrArg State.movers (finish_rest s r st d) :)
@[simp] theorem finish_scan (r : Req) (st : Status) (d : Nat) : (s.finish r st d).scan = s.scan := (congrArg State.scan (finish_rest s r st d) :)
@[simp] theorem finish_pwr (r : Req) (st : Status) (d : Nat) : (s.finish r st d).pwr = s.pwr := (congrArg State.pwr (finish_rest s r st d) :)
@[simp] theorem finish_upd (r : Req) (st : Status) (d : Nat) : (s.finish r st d).upd = s.upd := (congrArg State.upd (finish_rest s r st d) :)
@[simp] theorem finish_sec (r : Req) (st : Status) (d : Nat) : (s.finish r st d).sec = s.sec := (congrArg State.sec (finish_rest s r st d) :)
@[simp] theorem finish_start (r : Req) (st : Status) (d : Nat) : (s.finish r st d).start = s.start := (congrArg State.start (finish_rest s r st d) :)
@[simp] theorem wrAll_tick (l : List (Nat × Nat)) : (s.wrAll l).tick = s.tick := (congrArg State.tick (wrAll_rest s l) :)
@[simp] theorem wrAll_wall (l : List (Nat × Nat)) : (s.wrAll l).wall = s.wall := (congrArg State.wall (wrAll_rest s l) :)
@[simp] theorem wrAll_free (l : List (Nat × Nat)) : (s.wrAll l).free = s.free := (congrArg State.free (wrAll_rest s l) :)
@[simp] theorem wrAll_pending (l : List (Nat × Nat)) : (s.wrAll l).pending = s.pending := (congrArg State.pending (wrAll_rest s l) :)
@[simp] theorem wrAll_com (l : List (Nat × Nat)) : (s.wrAll l).com = s.com := (congrArg State.com (wrAll_rest s l) :)
@[simp] theorem wrAll_staged (l : List (Nat × Nat)) : (s.wrAll l).staged = s.staged := (congrArg State.staged (wrAll_rest s l) :)
@[simp] theorem wrAll_mram (l : List (Nat × Nat)) : (s.wrAll l).mram = s.mram := (congrArg State.mram (wrAll_rest s l) :)
@[simp] theorem wrAll_i3c (l : List (Nat × Nat)) : (s.wrAll l).i3c = s.i3c := (congrArg State.i3c (wrAll_rest s l) :)
@[simp] theorem wrAll_swaps (l : List (Nat × Nat)) : (s.wrAll l).swaps = s.swaps := (congrArg State.swaps (wrAll_rest s l) :)
@[simp] theorem wrAll_swapId (l : List (Nat × Nat)) : (s.wrAll l).swapId = s.swapId := (congrArg State.swapId (wrAll_rest s l) :)
@[simp] theorem wrAll_commits (l : List (Nat × Nat)) : (s.wrAll l).commits = s.commits := (congrArg State.commits (wrAll_rest s l) :)
@[simp] theorem wrAll_owners (l : List (Nat × Nat)) : (s.wrAll l).owners = s.owners := (congrArg State.owners (wrAll_rest s l) :)
@[simp] theorem wrAll_flows (l : List (Nat × Nat)) : (s.wrAll l).flows = s.flows := (congrArg State.flows (wrAll_rest s l) :)
@[simp] theorem wrAll_wire (l : List (Nat × Nat)) : (s.wrAll l).wire = s.wire := (congrArg State.wire (wrAll_rest s l) :)
@[simp] theorem wrAll_rsv (l : List (Nat × Nat)) : (s.wrAll l).rsv = s.rsv := (congrArg State.rsv (wrAll_rest s l) :)
@[simp] theorem wrAll_loads (l : List (Nat × Nat)) : (s.wrAll l).loads = s.loads := (congrArg State.loads (wrAll_rest s l) :)
@[simp] theorem wrAll_trig (l : List (Nat × Nat)) : (s.wrAll l).trig = s.trig := (congrArg State.trig (wrAll_rest s l) :)
@[simp] theorem wrAll_planes (l : List (Nat × Nat)) : (s.wrAll l).planes = s.planes := (congrArg State.planes (wrAll_rest s l) :)
@[simp] theorem wrAll_chans (l : List (Nat × Nat)) : (s.wrAll l).chans = s.chans := (congrArg State.chans (wrAll_rest s l) :)
@[simp] theorem wrAll_conv (l : List (Nat × Nat)) : (s.wrAll l).conv = s.conv := (congrArg State.conv (wrAll_rest s l) :)
@[simp] theorem wrAll_tuners (l : List (Nat × Nat)) : (s.wrAll l).tuners = s.tuners := (congrArg State.tuners (wrAll_rest s l) :)
@[simp] theorem wrAll_ctxs (l : List (Nat × Nat)) : (s.wrAll l).ctxs = s.ctxs := (congrArg State.ctxs (wrAll_rest s l) :)
@[simp] theorem wrAll_dets (l : List (Nat × Nat)) : (s.wrAll l).dets = s.dets := (congrArg State.dets (wrAll_rest s l) :)
@[simp] theorem wrAll_shed (l : List (Nat × Nat)) : (s.wrAll l).shed = s.shed := (congrArg State.shed (wrAll_rest s l) :)
@[simp] theorem wrAll_gens (l : List (Nat × Nat)) : (s.wrAll l).gens = s.gens := (congrArg State.gens (wrAll_rest s l) :)
@[simp] theorem wrAll_formed (l : List (Nat × Nat)) : (s.wrAll l).formed = s.formed := (congrArg State.formed (wrAll_rest s l) :)
@[simp] theorem wrAll_twin (l : List (Nat × Nat)) : (s.wrAll l).twin = s.twin := (congrArg State.twin (wrAll_rest s l) :)
@[simp] theorem wrAll_clk (l : List (Nat × Nat)) : (s.wrAll l).clk = s.clk := (congrArg State.clk (wrAll_rest s l) :)
@[simp] theorem wrAll_plumb (l : List (Nat × Nat)) : (s.wrAll l).plumb = s.plumb := (congrArg State.plumb (wrAll_rest s l) :)
@[simp] theorem wrAll_ports (l : List (Nat × Nat)) : (s.wrAll l).ports = s.ports := (congrArg State.ports (wrAll_rest s l) :)
@[simp] theorem wrAll_opens (l : List (Nat × Nat)) : (s.wrAll l).opens = s.opens := (congrArg State.opens (wrAll_rest s l) :)
@[simp] theorem wrAll_openTimes (l : List (Nat × Nat)) : (s.wrAll l).openTimes = s.openTimes := (congrArg State.openTimes (wrAll_rest s l) :)
@[simp] theorem wrAll_anchorAt (l : List (Nat × Nat)) : (s.wrAll l).anchorAt = s.anchorAt := (congrArg State.anchorAt (wrAll_rest s l) :)
@[simp] theorem wrAll_signed (l : List (Nat × Nat)) : (s.wrAll l).signed = s.signed := (congrArg State.signed (wrAll_rest s l) :)
@[simp] theorem wrAll_movers (l : List (Nat × Nat)) : (s.wrAll l).movers = s.movers := (congrArg State.movers (wrAll_rest s l) :)
@[simp] theorem wrAll_scan (l : List (Nat × Nat)) : (s.wrAll l).scan = s.scan := (congrArg State.scan (wrAll_rest s l) :)
@[simp] theorem wrAll_pwr (l : List (Nat × Nat)) : (s.wrAll l).pwr = s.pwr := (congrArg State.pwr (wrAll_rest s l) :)
@[simp] theorem wrAll_upd (l : List (Nat × Nat)) : (s.wrAll l).upd = s.upd := (congrArg State.upd (wrAll_rest s l) :)
@[simp] theorem wrAll_sec (l : List (Nat × Nat)) : (s.wrAll l).sec = s.sec := (congrArg State.sec (wrAll_rest s l) :)
@[simp] theorem wrAll_start (l : List (Nat × Nat)) : (s.wrAll l).start = s.start := (congrArg State.start (wrAll_rest s l) :)
@[simp] theorem notify_tick (i c d : Nat) (w : List Nat) : (s.notify i c d w).tick = s.tick := (congrArg State.tick (notify_rest s i c d w) :)
@[simp] theorem notify_wall (i c d : Nat) (w : List Nat) : (s.notify i c d w).wall = s.wall := (congrArg State.wall (notify_rest s i c d w) :)
@[simp] theorem notify_free (i c d : Nat) (w : List Nat) : (s.notify i c d w).free = s.free := (congrArg State.free (notify_rest s i c d w) :)
@[simp] theorem notify_pending (i c d : Nat) (w : List Nat) : (s.notify i c d w).pending = s.pending := (congrArg State.pending (notify_rest s i c d w) :)
@[simp] theorem notify_com (i c d : Nat) (w : List Nat) : (s.notify i c d w).com = s.com := (congrArg State.com (notify_rest s i c d w) :)
@[simp] theorem notify_staged (i c d : Nat) (w : List Nat) : (s.notify i c d w).staged = s.staged := (congrArg State.staged (notify_rest s i c d w) :)
@[simp] theorem notify_mram (i c d : Nat) (w : List Nat) : (s.notify i c d w).mram = s.mram := (congrArg State.mram (notify_rest s i c d w) :)
@[simp] theorem notify_i3c (i c d : Nat) (w : List Nat) : (s.notify i c d w).i3c = s.i3c := (congrArg State.i3c (notify_rest s i c d w) :)
@[simp] theorem notify_swaps (i c d : Nat) (w : List Nat) : (s.notify i c d w).swaps = s.swaps := (congrArg State.swaps (notify_rest s i c d w) :)
@[simp] theorem notify_swapId (i c d : Nat) (w : List Nat) : (s.notify i c d w).swapId = s.swapId := (congrArg State.swapId (notify_rest s i c d w) :)
@[simp] theorem notify_commits (i c d : Nat) (w : List Nat) : (s.notify i c d w).commits = s.commits := (congrArg State.commits (notify_rest s i c d w) :)
@[simp] theorem notify_owners (i c d : Nat) (w : List Nat) : (s.notify i c d w).owners = s.owners := (congrArg State.owners (notify_rest s i c d w) :)
@[simp] theorem notify_flows (i c d : Nat) (w : List Nat) : (s.notify i c d w).flows = s.flows := (congrArg State.flows (notify_rest s i c d w) :)
@[simp] theorem notify_wire (i c d : Nat) (w : List Nat) : (s.notify i c d w).wire = s.wire := (congrArg State.wire (notify_rest s i c d w) :)
@[simp] theorem notify_rsv (i c d : Nat) (w : List Nat) : (s.notify i c d w).rsv = s.rsv := (congrArg State.rsv (notify_rest s i c d w) :)
@[simp] theorem notify_loads (i c d : Nat) (w : List Nat) : (s.notify i c d w).loads = s.loads := (congrArg State.loads (notify_rest s i c d w) :)
@[simp] theorem notify_trig (i c d : Nat) (w : List Nat) : (s.notify i c d w).trig = s.trig := (congrArg State.trig (notify_rest s i c d w) :)
@[simp] theorem notify_planes (i c d : Nat) (w : List Nat) : (s.notify i c d w).planes = s.planes := (congrArg State.planes (notify_rest s i c d w) :)
@[simp] theorem notify_chans (i c d : Nat) (w : List Nat) : (s.notify i c d w).chans = s.chans := (congrArg State.chans (notify_rest s i c d w) :)
@[simp] theorem notify_conv (i c d : Nat) (w : List Nat) : (s.notify i c d w).conv = s.conv := (congrArg State.conv (notify_rest s i c d w) :)
@[simp] theorem notify_tuners (i c d : Nat) (w : List Nat) : (s.notify i c d w).tuners = s.tuners := (congrArg State.tuners (notify_rest s i c d w) :)
@[simp] theorem notify_ctxs (i c d : Nat) (w : List Nat) : (s.notify i c d w).ctxs = s.ctxs := (congrArg State.ctxs (notify_rest s i c d w) :)
@[simp] theorem notify_dets (i c d : Nat) (w : List Nat) : (s.notify i c d w).dets = s.dets := (congrArg State.dets (notify_rest s i c d w) :)
@[simp] theorem notify_shed (i c d : Nat) (w : List Nat) : (s.notify i c d w).shed = s.shed := (congrArg State.shed (notify_rest s i c d w) :)
@[simp] theorem notify_gens (i c d : Nat) (w : List Nat) : (s.notify i c d w).gens = s.gens := (congrArg State.gens (notify_rest s i c d w) :)
@[simp] theorem notify_formed (i c d : Nat) (w : List Nat) : (s.notify i c d w).formed = s.formed := (congrArg State.formed (notify_rest s i c d w) :)
@[simp] theorem notify_twin (i c d : Nat) (w : List Nat) : (s.notify i c d w).twin = s.twin := (congrArg State.twin (notify_rest s i c d w) :)
@[simp] theorem notify_clk (i c d : Nat) (w : List Nat) : (s.notify i c d w).clk = s.clk := (congrArg State.clk (notify_rest s i c d w) :)
@[simp] theorem notify_plumb (i c d : Nat) (w : List Nat) : (s.notify i c d w).plumb = s.plumb := (congrArg State.plumb (notify_rest s i c d w) :)
@[simp] theorem notify_ports (i c d : Nat) (w : List Nat) : (s.notify i c d w).ports = s.ports := (congrArg State.ports (notify_rest s i c d w) :)
@[simp] theorem notify_opens (i c d : Nat) (w : List Nat) : (s.notify i c d w).opens = s.opens := (congrArg State.opens (notify_rest s i c d w) :)
@[simp] theorem notify_openTimes (i c d : Nat) (w : List Nat) : (s.notify i c d w).openTimes = s.openTimes := (congrArg State.openTimes (notify_rest s i c d w) :)
@[simp] theorem notify_anchorAt (i c d : Nat) (w : List Nat) : (s.notify i c d w).anchorAt = s.anchorAt := (congrArg State.anchorAt (notify_rest s i c d w) :)
@[simp] theorem notify_signed (i c d : Nat) (w : List Nat) : (s.notify i c d w).signed = s.signed := (congrArg State.signed (notify_rest s i c d w) :)
@[simp] theorem notify_movers (i c d : Nat) (w : List Nat) : (s.notify i c d w).movers = s.movers := (congrArg State.movers (notify_rest s i c d w) :)
@[simp] theorem notify_scan (i c d : Nat) (w : List Nat) : (s.notify i c d w).scan = s.scan := (congrArg State.scan (notify_rest s i c d w) :)
@[simp] theorem notify_pwr (i c d : Nat) (w : List Nat) : (s.notify i c d w).pwr = s.pwr := (congrArg State.pwr (notify_rest s i c d w) :)
@[simp] theorem notify_upd (i c d : Nat) (w : List Nat) : (s.notify i c d w).upd = s.upd := (congrArg State.upd (notify_rest s i c d w) :)
@[simp] theorem notify_sec (i c d : Nat) (w : List Nat) : (s.notify i c d w).sec = s.sec := (congrArg State.sec (notify_rest s i c d w) :)
@[simp] theorem notify_start (i c d : Nat) (w : List Nat) : (s.notify i c d w).start = s.start := (congrArg State.start (notify_rest s i c d w) :)
@[simp] theorem event_tick (c i e a b d : Nat) : (s.event c i e a b d).tick = s.tick := (congrArg State.tick (event_rest s c i e a b d) :)
@[simp] theorem event_wall (c i e a b d : Nat) : (s.event c i e a b d).wall = s.wall := (congrArg State.wall (event_rest s c i e a b d) :)
@[simp] theorem event_free (c i e a b d : Nat) : (s.event c i e a b d).free = s.free := (congrArg State.free (event_rest s c i e a b d) :)
@[simp] theorem event_pending (c i e a b d : Nat) : (s.event c i e a b d).pending = s.pending := (congrArg State.pending (event_rest s c i e a b d) :)
@[simp] theorem event_com (c i e a b d : Nat) : (s.event c i e a b d).com = s.com := (congrArg State.com (event_rest s c i e a b d) :)
@[simp] theorem event_staged (c i e a b d : Nat) : (s.event c i e a b d).staged = s.staged := (congrArg State.staged (event_rest s c i e a b d) :)
@[simp] theorem event_mram (c i e a b d : Nat) : (s.event c i e a b d).mram = s.mram := (congrArg State.mram (event_rest s c i e a b d) :)
@[simp] theorem event_i3c (c i e a b d : Nat) : (s.event c i e a b d).i3c = s.i3c := (congrArg State.i3c (event_rest s c i e a b d) :)
@[simp] theorem event_swaps (c i e a b d : Nat) : (s.event c i e a b d).swaps = s.swaps := (congrArg State.swaps (event_rest s c i e a b d) :)
@[simp] theorem event_swapId (c i e a b d : Nat) : (s.event c i e a b d).swapId = s.swapId := (congrArg State.swapId (event_rest s c i e a b d) :)
@[simp] theorem event_commits (c i e a b d : Nat) : (s.event c i e a b d).commits = s.commits := (congrArg State.commits (event_rest s c i e a b d) :)
@[simp] theorem event_owners (c i e a b d : Nat) : (s.event c i e a b d).owners = s.owners := (congrArg State.owners (event_rest s c i e a b d) :)
@[simp] theorem event_flows (c i e a b d : Nat) : (s.event c i e a b d).flows = s.flows := (congrArg State.flows (event_rest s c i e a b d) :)
@[simp] theorem event_wire (c i e a b d : Nat) : (s.event c i e a b d).wire = s.wire := (congrArg State.wire (event_rest s c i e a b d) :)
@[simp] theorem event_rsv (c i e a b d : Nat) : (s.event c i e a b d).rsv = s.rsv := (congrArg State.rsv (event_rest s c i e a b d) :)
@[simp] theorem event_loads (c i e a b d : Nat) : (s.event c i e a b d).loads = s.loads := (congrArg State.loads (event_rest s c i e a b d) :)
@[simp] theorem event_trig (c i e a b d : Nat) : (s.event c i e a b d).trig = s.trig := (congrArg State.trig (event_rest s c i e a b d) :)
@[simp] theorem event_planes (c i e a b d : Nat) : (s.event c i e a b d).planes = s.planes := (congrArg State.planes (event_rest s c i e a b d) :)
@[simp] theorem event_chans (c i e a b d : Nat) : (s.event c i e a b d).chans = s.chans := (congrArg State.chans (event_rest s c i e a b d) :)
@[simp] theorem event_conv (c i e a b d : Nat) : (s.event c i e a b d).conv = s.conv := (congrArg State.conv (event_rest s c i e a b d) :)
@[simp] theorem event_tuners (c i e a b d : Nat) : (s.event c i e a b d).tuners = s.tuners := (congrArg State.tuners (event_rest s c i e a b d) :)
@[simp] theorem event_ctxs (c i e a b d : Nat) : (s.event c i e a b d).ctxs = s.ctxs := (congrArg State.ctxs (event_rest s c i e a b d) :)
@[simp] theorem event_dets (c i e a b d : Nat) : (s.event c i e a b d).dets = s.dets := (congrArg State.dets (event_rest s c i e a b d) :)
@[simp] theorem event_shed (c i e a b d : Nat) : (s.event c i e a b d).shed = s.shed := (congrArg State.shed (event_rest s c i e a b d) :)
@[simp] theorem event_gens (c i e a b d : Nat) : (s.event c i e a b d).gens = s.gens := (congrArg State.gens (event_rest s c i e a b d) :)
@[simp] theorem event_formed (c i e a b d : Nat) : (s.event c i e a b d).formed = s.formed := (congrArg State.formed (event_rest s c i e a b d) :)
@[simp] theorem event_twin (c i e a b d : Nat) : (s.event c i e a b d).twin = s.twin := (congrArg State.twin (event_rest s c i e a b d) :)
@[simp] theorem event_clk (c i e a b d : Nat) : (s.event c i e a b d).clk = s.clk := (congrArg State.clk (event_rest s c i e a b d) :)
@[simp] theorem event_plumb (c i e a b d : Nat) : (s.event c i e a b d).plumb = s.plumb := (congrArg State.plumb (event_rest s c i e a b d) :)
@[simp] theorem event_ports (c i e a b d : Nat) : (s.event c i e a b d).ports = s.ports := (congrArg State.ports (event_rest s c i e a b d) :)
@[simp] theorem event_opens (c i e a b d : Nat) : (s.event c i e a b d).opens = s.opens := (congrArg State.opens (event_rest s c i e a b d) :)
@[simp] theorem event_openTimes (c i e a b d : Nat) : (s.event c i e a b d).openTimes = s.openTimes := (congrArg State.openTimes (event_rest s c i e a b d) :)
@[simp] theorem event_anchorAt (c i e a b d : Nat) : (s.event c i e a b d).anchorAt = s.anchorAt := (congrArg State.anchorAt (event_rest s c i e a b d) :)
@[simp] theorem event_signed (c i e a b d : Nat) : (s.event c i e a b d).signed = s.signed := (congrArg State.signed (event_rest s c i e a b d) :)
@[simp] theorem event_movers (c i e a b d : Nat) : (s.event c i e a b d).movers = s.movers := (congrArg State.movers (event_rest s c i e a b d) :)
@[simp] theorem event_scan (c i e a b d : Nat) : (s.event c i e a b d).scan = s.scan := (congrArg State.scan (event_rest s c i e a b d) :)
@[simp] theorem event_pwr (c i e a b d : Nat) : (s.event c i e a b d).pwr = s.pwr := (congrArg State.pwr (event_rest s c i e a b d) :)
@[simp] theorem event_upd (c i e a b d : Nat) : (s.event c i e a b d).upd = s.upd := (congrArg State.upd (event_rest s c i e a b d) :)
@[simp] theorem event_sec (c i e a b d : Nat) : (s.event c i e a b d).sec = s.sec := (congrArg State.sec (event_rest s c i e a b d) :)
@[simp] theorem event_start (c i e a b d : Nat) : (s.event c i e a b d).start = s.start := (congrArg State.start (event_rest s c i e a b d) :)
@[simp] theorem wrI_tick (k : Nat) (i : Int) : (s.wrI k i).tick = s.tick := rfl
@[simp] theorem wrI_wall (k : Nat) (i : Int) : (s.wrI k i).wall = s.wall := rfl
@[simp] theorem wrI_free (k : Nat) (i : Int) : (s.wrI k i).free = s.free := rfl
@[simp] theorem wrI_pending (k : Nat) (i : Int) : (s.wrI k i).pending = s.pending := rfl
@[simp] theorem wrI_com (k : Nat) (i : Int) : (s.wrI k i).com = s.com := rfl
@[simp] theorem wrI_staged (k : Nat) (i : Int) : (s.wrI k i).staged = s.staged := rfl
@[simp] theorem wrI_mram (k : Nat) (i : Int) : (s.wrI k i).mram = s.mram := rfl
@[simp] theorem wrI_i3c (k : Nat) (i : Int) : (s.wrI k i).i3c = s.i3c := rfl
@[simp] theorem wrI_swaps (k : Nat) (i : Int) : (s.wrI k i).swaps = s.swaps := rfl
@[simp] theorem wrI_swapId (k : Nat) (i : Int) : (s.wrI k i).swapId = s.swapId := rfl
@[simp] theorem wrI_commits (k : Nat) (i : Int) : (s.wrI k i).commits = s.commits := rfl
@[simp] theorem wrI_owners (k : Nat) (i : Int) : (s.wrI k i).owners = s.owners := rfl
@[simp] theorem wrI_flows (k : Nat) (i : Int) : (s.wrI k i).flows = s.flows := rfl
@[simp] theorem wrI_wire (k : Nat) (i : Int) : (s.wrI k i).wire = s.wire := rfl
@[simp] theorem wrI_rsv (k : Nat) (i : Int) : (s.wrI k i).rsv = s.rsv := rfl
@[simp] theorem wrI_loads (k : Nat) (i : Int) : (s.wrI k i).loads = s.loads := rfl
@[simp] theorem wrI_trig (k : Nat) (i : Int) : (s.wrI k i).trig = s.trig := rfl
@[simp] theorem wrI_planes (k : Nat) (i : Int) : (s.wrI k i).planes = s.planes := rfl
@[simp] theorem wrI_chans (k : Nat) (i : Int) : (s.wrI k i).chans = s.chans := rfl
@[simp] theorem wrI_conv (k : Nat) (i : Int) : (s.wrI k i).conv = s.conv := rfl
@[simp] theorem wrI_tuners (k : Nat) (i : Int) : (s.wrI k i).tuners = s.tuners := rfl
@[simp] theorem wrI_ctxs (k : Nat) (i : Int) : (s.wrI k i).ctxs = s.ctxs := rfl
@[simp] theorem wrI_dets (k : Nat) (i : Int) : (s.wrI k i).dets = s.dets := rfl
@[simp] theorem wrI_shed (k : Nat) (i : Int) : (s.wrI k i).shed = s.shed := rfl
@[simp] theorem wrI_gens (k : Nat) (i : Int) : (s.wrI k i).gens = s.gens := rfl
@[simp] theorem wrI_formed (k : Nat) (i : Int) : (s.wrI k i).formed = s.formed := rfl
@[simp] theorem wrI_twin (k : Nat) (i : Int) : (s.wrI k i).twin = s.twin := rfl
@[simp] theorem wrI_clk (k : Nat) (i : Int) : (s.wrI k i).clk = s.clk := rfl
@[simp] theorem wrI_plumb (k : Nat) (i : Int) : (s.wrI k i).plumb = s.plumb := rfl
@[simp] theorem wrI_ports (k : Nat) (i : Int) : (s.wrI k i).ports = s.ports := rfl
@[simp] theorem wrI_opens (k : Nat) (i : Int) : (s.wrI k i).opens = s.opens := rfl
@[simp] theorem wrI_openTimes (k : Nat) (i : Int) : (s.wrI k i).openTimes = s.openTimes := rfl
@[simp] theorem wrI_anchorAt (k : Nat) (i : Int) : (s.wrI k i).anchorAt = s.anchorAt := rfl
@[simp] theorem wrI_signed (k : Nat) (i : Int) : (s.wrI k i).signed = s.signed := rfl
@[simp] theorem wrI_movers (k : Nat) (i : Int) : (s.wrI k i).movers = s.movers := rfl
@[simp] theorem wrI_scan (k : Nat) (i : Int) : (s.wrI k i).scan = s.scan := rfl
@[simp] theorem wrI_pwr (k : Nat) (i : Int) : (s.wrI k i).pwr = s.pwr := rfl
@[simp] theorem wrI_upd (k : Nat) (i : Int) : (s.wrI k i).upd = s.upd := rfl
@[simp] theorem wrI_sec (k : Nat) (i : Int) : (s.wrI k i).sec = s.sec := rfl
@[simp] theorem wrI_start (k : Nat) (i : Int) : (s.wrI k i).start = s.start := rfl
@[simp] theorem count_tick (k : Nat) : (s.count k).tick = s.tick := rfl
@[simp] theorem count_wall (k : Nat) : (s.count k).wall = s.wall := rfl
@[simp] theorem count_free (k : Nat) : (s.count k).free = s.free := rfl
@[simp] theorem count_pending (k : Nat) : (s.count k).pending = s.pending := rfl
@[simp] theorem count_com (k : Nat) : (s.count k).com = s.com := rfl
@[simp] theorem count_staged (k : Nat) : (s.count k).staged = s.staged := rfl
@[simp] theorem count_mram (k : Nat) : (s.count k).mram = s.mram := rfl
@[simp] theorem count_i3c (k : Nat) : (s.count k).i3c = s.i3c := rfl
@[simp] theorem count_swaps (k : Nat) : (s.count k).swaps = s.swaps := rfl
@[simp] theorem count_swapId (k : Nat) : (s.count k).swapId = s.swapId := rfl
@[simp] theorem count_commits (k : Nat) : (s.count k).commits = s.commits := rfl
@[simp] theorem count_owners (k : Nat) : (s.count k).owners = s.owners := rfl
@[simp] theorem count_flows (k : Nat) : (s.count k).flows = s.flows := rfl
@[simp] theorem count_wire (k : Nat) : (s.count k).wire = s.wire := rfl
@[simp] theorem count_rsv (k : Nat) : (s.count k).rsv = s.rsv := rfl
@[simp] theorem count_loads (k : Nat) : (s.count k).loads = s.loads := rfl
@[simp] theorem count_trig (k : Nat) : (s.count k).trig = s.trig := rfl
@[simp] theorem count_planes (k : Nat) : (s.count k).planes = s.planes := rfl
@[simp] theorem count_chans (k : Nat) : (s.count k).chans = s.chans := rfl
@[simp] theorem count_conv (k : Nat) : (s.count k).conv = s.conv := rfl
@[simp] theorem count_tuners (k : Nat) : (s.count k).tuners = s.tuners := rfl
@[simp] theorem count_ctxs (k : Nat) : (s.count k).ctxs = s.ctxs := rfl
@[simp] theorem count_dets (k : Nat) : (s.count k).dets = s.dets := rfl
@[simp] theorem count_shed (k : Nat) : (s.count k).shed = s.shed := rfl
@[simp] theorem count_gens (k : Nat) : (s.count k).gens = s.gens := rfl
@[simp] theorem count_formed (k : Nat) : (s.count k).formed = s.formed := rfl
@[simp] theorem count_twin (k : Nat) : (s.count k).twin = s.twin := rfl
@[simp] theorem count_clk (k : Nat) : (s.count k).clk = s.clk := rfl
@[simp] theorem count_plumb (k : Nat) : (s.count k).plumb = s.plumb := rfl
@[simp] theorem count_ports (k : Nat) : (s.count k).ports = s.ports := rfl
@[simp] theorem count_opens (k : Nat) : (s.count k).opens = s.opens := rfl
@[simp] theorem count_openTimes (k : Nat) : (s.count k).openTimes = s.openTimes := rfl
@[simp] theorem count_anchorAt (k : Nat) : (s.count k).anchorAt = s.anchorAt := rfl
@[simp] theorem count_signed (k : Nat) : (s.count k).signed = s.signed := rfl
@[simp] theorem count_movers (k : Nat) : (s.count k).movers = s.movers := rfl
@[simp] theorem count_scan (k : Nat) : (s.count k).scan = s.scan := rfl
@[simp] theorem count_pwr (k : Nat) : (s.count k).pwr = s.pwr := rfl
@[simp] theorem count_upd (k : Nat) : (s.count k).upd = s.upd := rfl
@[simp] theorem count_sec (k : Nat) : (s.count k).sec = s.sec := rfl
@[simp] theorem count_start (k : Nat) : (s.count k).start = s.start := rfl
@[simp] theorem countN_tick (k n : Nat) : (s.countN k n).tick = s.tick := rfl
@[simp] theorem countN_wall (k n : Nat) : (s.countN k n).wall = s.wall := rfl
@[simp] theorem countN_free (k n : Nat) : (s.countN k n).free = s.free := rfl
@[simp] theorem countN_pending (k n : Nat) : (s.countN k n).pending = s.pending := rfl
@[simp] theorem countN_com (k n : Nat) : (s.countN k n).com = s.com := rfl
@[simp] theorem countN_staged (k n : Nat) : (s.countN k n).staged = s.staged := rfl
@[simp] theorem countN_mram (k n : Nat) : (s.countN k n).mram = s.mram := rfl
@[simp] theorem countN_i3c (k n : Nat) : (s.countN k n).i3c = s.i3c := rfl
@[simp] theorem countN_swaps (k n : Nat) : (s.countN k n).swaps = s.swaps := rfl
@[simp] theorem countN_swapId (k n : Nat) : (s.countN k n).swapId = s.swapId := rfl
@[simp] theorem countN_commits (k n : Nat) : (s.countN k n).commits = s.commits := rfl
@[simp] theorem countN_owners (k n : Nat) : (s.countN k n).owners = s.owners := rfl
@[simp] theorem countN_flows (k n : Nat) : (s.countN k n).flows = s.flows := rfl
@[simp] theorem countN_wire (k n : Nat) : (s.countN k n).wire = s.wire := rfl
@[simp] theorem countN_rsv (k n : Nat) : (s.countN k n).rsv = s.rsv := rfl
@[simp] theorem countN_loads (k n : Nat) : (s.countN k n).loads = s.loads := rfl
@[simp] theorem countN_trig (k n : Nat) : (s.countN k n).trig = s.trig := rfl
@[simp] theorem countN_planes (k n : Nat) : (s.countN k n).planes = s.planes := rfl
@[simp] theorem countN_chans (k n : Nat) : (s.countN k n).chans = s.chans := rfl
@[simp] theorem countN_conv (k n : Nat) : (s.countN k n).conv = s.conv := rfl
@[simp] theorem countN_tuners (k n : Nat) : (s.countN k n).tuners = s.tuners := rfl
@[simp] theorem countN_ctxs (k n : Nat) : (s.countN k n).ctxs = s.ctxs := rfl
@[simp] theorem countN_dets (k n : Nat) : (s.countN k n).dets = s.dets := rfl
@[simp] theorem countN_shed (k n : Nat) : (s.countN k n).shed = s.shed := rfl
@[simp] theorem countN_gens (k n : Nat) : (s.countN k n).gens = s.gens := rfl
@[simp] theorem countN_formed (k n : Nat) : (s.countN k n).formed = s.formed := rfl
@[simp] theorem countN_twin (k n : Nat) : (s.countN k n).twin = s.twin := rfl
@[simp] theorem countN_clk (k n : Nat) : (s.countN k n).clk = s.clk := rfl
@[simp] theorem countN_plumb (k n : Nat) : (s.countN k n).plumb = s.plumb := rfl
@[simp] theorem countN_ports (k n : Nat) : (s.countN k n).ports = s.ports := rfl
@[simp] theorem countN_opens (k n : Nat) : (s.countN k n).opens = s.opens := rfl
@[simp] theorem countN_openTimes (k n : Nat) : (s.countN k n).openTimes = s.openTimes := rfl
@[simp] theorem countN_anchorAt (k n : Nat) : (s.countN k n).anchorAt = s.anchorAt := rfl
@[simp] theorem countN_signed (k n : Nat) : (s.countN k n).signed = s.signed := rfl
@[simp] theorem countN_movers (k n : Nat) : (s.countN k n).movers = s.movers := rfl
@[simp] theorem countN_scan (k n : Nat) : (s.countN k n).scan = s.scan := rfl
@[simp] theorem countN_pwr (k n : Nat) : (s.countN k n).pwr = s.pwr := rfl
@[simp] theorem countN_upd (k n : Nat) : (s.countN k n).upd = s.upd := rfl
@[simp] theorem countN_sec (k n : Nat) : (s.countN k n).sec = s.sec := rfl
@[simp] theorem countN_start (k n : Nat) : (s.countN k n).start = s.start := rfl
@[simp] theorem peak_tick (k n : Nat) : (s.peak k n).tick = s.tick := rfl
@[simp] theorem peak_wall (k n : Nat) : (s.peak k n).wall = s.wall := rfl
@[simp] theorem peak_free (k n : Nat) : (s.peak k n).free = s.free := rfl
@[simp] theorem peak_pending (k n : Nat) : (s.peak k n).pending = s.pending := rfl
@[simp] theorem peak_com (k n : Nat) : (s.peak k n).com = s.com := rfl
@[simp] theorem peak_staged (k n : Nat) : (s.peak k n).staged = s.staged := rfl
@[simp] theorem peak_mram (k n : Nat) : (s.peak k n).mram = s.mram := rfl
@[simp] theorem peak_i3c (k n : Nat) : (s.peak k n).i3c = s.i3c := rfl
@[simp] theorem peak_swaps (k n : Nat) : (s.peak k n).swaps = s.swaps := rfl
@[simp] theorem peak_swapId (k n : Nat) : (s.peak k n).swapId = s.swapId := rfl
@[simp] theorem peak_commits (k n : Nat) : (s.peak k n).commits = s.commits := rfl
@[simp] theorem peak_owners (k n : Nat) : (s.peak k n).owners = s.owners := rfl
@[simp] theorem peak_flows (k n : Nat) : (s.peak k n).flows = s.flows := rfl
@[simp] theorem peak_wire (k n : Nat) : (s.peak k n).wire = s.wire := rfl
@[simp] theorem peak_rsv (k n : Nat) : (s.peak k n).rsv = s.rsv := rfl
@[simp] theorem peak_loads (k n : Nat) : (s.peak k n).loads = s.loads := rfl
@[simp] theorem peak_trig (k n : Nat) : (s.peak k n).trig = s.trig := rfl
@[simp] theorem peak_planes (k n : Nat) : (s.peak k n).planes = s.planes := rfl
@[simp] theorem peak_chans (k n : Nat) : (s.peak k n).chans = s.chans := rfl
@[simp] theorem peak_conv (k n : Nat) : (s.peak k n).conv = s.conv := rfl
@[simp] theorem peak_tuners (k n : Nat) : (s.peak k n).tuners = s.tuners := rfl
@[simp] theorem peak_ctxs (k n : Nat) : (s.peak k n).ctxs = s.ctxs := rfl
@[simp] theorem peak_dets (k n : Nat) : (s.peak k n).dets = s.dets := rfl
@[simp] theorem peak_shed (k n : Nat) : (s.peak k n).shed = s.shed := rfl
@[simp] theorem peak_gens (k n : Nat) : (s.peak k n).gens = s.gens := rfl
@[simp] theorem peak_formed (k n : Nat) : (s.peak k n).formed = s.formed := rfl
@[simp] theorem peak_twin (k n : Nat) : (s.peak k n).twin = s.twin := rfl
@[simp] theorem peak_clk (k n : Nat) : (s.peak k n).clk = s.clk := rfl
@[simp] theorem peak_plumb (k n : Nat) : (s.peak k n).plumb = s.plumb := rfl
@[simp] theorem peak_ports (k n : Nat) : (s.peak k n).ports = s.ports := rfl
@[simp] theorem peak_opens (k n : Nat) : (s.peak k n).opens = s.opens := rfl
@[simp] theorem peak_openTimes (k n : Nat) : (s.peak k n).openTimes = s.openTimes := rfl
@[simp] theorem peak_anchorAt (k n : Nat) : (s.peak k n).anchorAt = s.anchorAt := rfl
@[simp] theorem peak_signed (k n : Nat) : (s.peak k n).signed = s.signed := rfl
@[simp] theorem peak_movers (k n : Nat) : (s.peak k n).movers = s.movers := rfl
@[simp] theorem peak_scan (k n : Nat) : (s.peak k n).scan = s.scan := rfl
@[simp] theorem peak_pwr (k n : Nat) : (s.peak k n).pwr = s.pwr := rfl
@[simp] theorem peak_upd (k n : Nat) : (s.peak k n).upd = s.upd := rfl
@[simp] theorem peak_sec (k n : Nat) : (s.peak k n).sec = s.sec := rfl
@[simp] theorem peak_start (k n : Nat) : (s.peak k n).start = s.start := rfl
@[simp] theorem markPs_tick (i k : Nat) : (s.markPs i k).tick = s.tick := rfl
@[simp] theorem markPs_wall (i k : Nat) : (s.markPs i k).wall = s.wall := rfl
@[simp] theorem markPs_free (i k : Nat) : (s.markPs i k).free = s.free := rfl
@[simp] theorem markPs_pending (i k : Nat) : (s.markPs i k).pending = s.pending := rfl
@[simp] theorem markPs_com (i k : Nat) : (s.markPs i k).com = s.com := rfl
@[simp] theorem markPs_staged (i k : Nat) : (s.markPs i k).staged = s.staged := rfl
@[simp] theorem markPs_mram (i k : Nat) : (s.markPs i k).mram = s.mram := rfl
@[simp] theorem markPs_i3c (i k : Nat) : (s.markPs i k).i3c = s.i3c := rfl
@[simp] theorem markPs_swaps (i k : Nat) : (s.markPs i k).swaps = s.swaps := rfl
@[simp] theorem markPs_swapId (i k : Nat) : (s.markPs i k).swapId = s.swapId := rfl
@[simp] theorem markPs_commits (i k : Nat) : (s.markPs i k).commits = s.commits := rfl
@[simp] theorem markPs_owners (i k : Nat) : (s.markPs i k).owners = s.owners := rfl
@[simp] theorem markPs_flows (i k : Nat) : (s.markPs i k).flows = s.flows := rfl
@[simp] theorem markPs_wire (i k : Nat) : (s.markPs i k).wire = s.wire := rfl
@[simp] theorem markPs_rsv (i k : Nat) : (s.markPs i k).rsv = s.rsv := rfl
@[simp] theorem markPs_loads (i k : Nat) : (s.markPs i k).loads = s.loads := rfl
@[simp] theorem markPs_trig (i k : Nat) : (s.markPs i k).trig = s.trig := rfl
@[simp] theorem markPs_planes (i k : Nat) : (s.markPs i k).planes = s.planes := rfl
@[simp] theorem markPs_chans (i k : Nat) : (s.markPs i k).chans = s.chans := rfl
@[simp] theorem markPs_conv (i k : Nat) : (s.markPs i k).conv = s.conv := rfl
@[simp] theorem markPs_tuners (i k : Nat) : (s.markPs i k).tuners = s.tuners := rfl
@[simp] theorem markPs_ctxs (i k : Nat) : (s.markPs i k).ctxs = s.ctxs := rfl
@[simp] theorem markPs_dets (i k : Nat) : (s.markPs i k).dets = s.dets := rfl
@[simp] theorem markPs_shed (i k : Nat) : (s.markPs i k).shed = s.shed := rfl
@[simp] theorem markPs_gens (i k : Nat) : (s.markPs i k).gens = s.gens := rfl
@[simp] theorem markPs_formed (i k : Nat) : (s.markPs i k).formed = s.formed := rfl
@[simp] theorem markPs_twin (i k : Nat) : (s.markPs i k).twin = s.twin := rfl
@[simp] theorem markPs_clk (i k : Nat) : (s.markPs i k).clk = s.clk := rfl
@[simp] theorem markPs_plumb (i k : Nat) : (s.markPs i k).plumb = s.plumb := rfl
@[simp] theorem markPs_ports (i k : Nat) : (s.markPs i k).ports = s.ports := rfl
@[simp] theorem markPs_opens (i k : Nat) : (s.markPs i k).opens = s.opens := rfl
@[simp] theorem markPs_openTimes (i k : Nat) : (s.markPs i k).openTimes = s.openTimes := rfl
@[simp] theorem markPs_anchorAt (i k : Nat) : (s.markPs i k).anchorAt = s.anchorAt := rfl
@[simp] theorem markPs_signed (i k : Nat) : (s.markPs i k).signed = s.signed := rfl
@[simp] theorem markPs_movers (i k : Nat) : (s.markPs i k).movers = s.movers := rfl
@[simp] theorem markPs_scan (i k : Nat) : (s.markPs i k).scan = s.scan := rfl
@[simp] theorem markPs_pwr (i k : Nat) : (s.markPs i k).pwr = s.pwr := rfl
@[simp] theorem markPs_upd (i k : Nat) : (s.markPs i k).upd = s.upd := rfl
@[simp] theorem markPs_sec (i k : Nat) : (s.markPs i k).sec = s.sec := rfl
@[simp] theorem markPs_start (i k : Nat) : (s.markPs i k).start = s.start := rfl

end State

/-! ## A served write -/

/-- The request that a session's write is served as. -/
theorem State.req_eq (s : State) (i g k : Nat) : s.req i g k = ⟨i, (s.ses i).inc, g, k⟩ := rfl

theorem State.takes_open {s : State} {i g : Nat} (h : s.takes i g = true) : (s.ses i).isOpen = true := by
  simp only [State.takes, Bool.and_eq_true] at h; exact h.1.1.1.2

theorem State.takes_mirror {s : State} {i g : Nat} (h : s.takes i g = true) : (s.ses i).mirror = false := by
  simp only [State.takes, Bool.and_eq_true, Bool.not_eq_true'] at h; exact h.1.1.2

/-- A request that is taken up is served by its body, at a state in which its session's latest frame is now. -/
theorem State.arrive_takes {s : State} {i g : Nat} (k : Nat) (body : State → State) (h : s.takes i g = true) :
    s.arrive i g k body = body (s.hear i) := by
  have l := State.ses_lt (State.takes_open h)
  simp only [State.takes, Bool.and_eq_true, Bool.not_eq_true', Nat.blt_eq, bne_iff_ne, ne_eq] at h
  obtain ⟨⟨⟨⟨⟨⟨h0, h1⟩, h2⟩, h3⟩, h4⟩, h5⟩, h6⟩ := h
  have n8 : Nat.ble 8 i = false := by
    cases e : Nat.ble 8 i with
    | false => rfl
    | true => exact absurd (Nat.ble_eq.mp e) (by omega)
  have n64 : Nat.ble 64 (s.requests i) = false := by
    cases e : Nat.ble 64 (s.requests i) with
    | false => rfl
    | true => exact absurd (Nat.ble_eq.mp e) (by omega)
  have e : ∀ f : Sess → Sess, (∀ x, (f x).tags = x.tags ∧ (f x).inbox = x.inbox) →
      (s.updSes i f).tagTaken i g = s.tagTaken i g ∧ (s.updSes i f).requests i = s.requests i := by
    intro f hf
    have u : (s.updSes i f).ses i = f (s.ses i) := by rw [State.ses_updSes]; simp [l]
    simp only [State.tagTaken, State.requests, State.waitingTags, u, (hf (s.ses i)).1, (hf (s.ses i)).2, State.updSes_i3c]
    exact ⟨trivial, trivial⟩
  have t := e (fun x => { x with heard := s.wall }) fun _ => ⟨rfl, rfl⟩
  unfold State.arrive State.hear
  simp only [h2, h3, n8, h0, Bool.or_self, Bool.not_true, Bool.false_eq_true, ite_false, t.1, t.2, h5, n64, decide_false]

/-- The checks do not depend on when the session was last heard. -/
theorem State.check_hear (s : State) (i k : Nat) (w : Bool) (v : Option Nat) : (s.hear i).check i k w v = s.check i k w v := by
  have e : ((s.hear i).ses i).ver = (s.ses i).ver ∧ ((s.hear i).ses i).role = (s.ses i).role := by
    unfold State.hear; rw [State.ses_updSes]; split <;> exact ⟨rfl, rfl⟩
  unfold State.check
  rw [e.1, e.2]
  rfl

/-- A direct write that is served runs its body on the request. -/
theorem State.direct_serves {s : State} {i g k v : Nat} (body : Req → State → State) (h : s.serves i g k v = true) :
    s.direct i g k v body = body ⟨i, (s.ses i).inc, g, k⟩ (s.hear i) := by
  simp only [State.serves, Bool.and_eq_true] at h
  unfold State.direct State.command
  rw [State.arrive_takes _ _ h.1]
  have p := h.2
  unfold State.passes at p
  rw [← State.check_hear] at p
  revert p
  cases (s.hear i).check i k true (fits k v) with
  | fail st d => intro p; exact absurd p Bool.false_ne_true
  | pass r =>
    intro _
    have : ((s.hear i).ses i).inc = (s.ses i).inc := by unfold State.hear; rw [State.ses_updSes]; split <;> rfl
    simp only [State.req, this]

/-- Hearing from a session changes its own record alone. -/
theorem State.hear_other (s : State) {i j : Nat} (h : j ≠ i) : (s.hear i).ses j = s.ses j := by
  unfold State.hear; rw [State.ses_updSes]; simp [h]

theorem State.hear_same {s : State} {i : Nat} (h : i < s.sess.length) :
    (s.hear i).ses i = { s.ses i with heard := s.wall } := by
  unfold State.hear; rw [State.ses_updSes]; simp [h]

@[simp] theorem State.hear_rest (s : State) (i : Nat) : (s.hear i).rest = s.rest := rfl
@[simp] theorem State.hear_rd (s : State) (i q : Nat) : (s.hear i).rd q = s.rd q := rfl
@[simp] theorem State.hear_rdB (s : State) (i q : Nat) : (s.hear i).rdB q = s.rdB q := rfl
@[simp] theorem State.hear_rdc (s : State) (i q : Nat) : (s.hear i).rdc q = s.rdc q := rfl

/-- A command whose request is answered OK after a change `f` that leaves the sessions alone replies once. -/
theorem State.replied_answer {s t : State} {i g k : Nat} (st : Status) (h : s.takes i g = true) (n : Nat)
    (hs : t.sess = (s.hear i).sess) : s.replied (t.answer ⟨i, n, g, k⟩ st) i g k st := by
  have l := State.ses_lt (State.takes_open h)
  have m := State.takes_mirror h
  have e : ∀ j, t.ses j = (s.hear i).ses j := fun j => by unfold State.ses; rw [hs]
  have mi : (t.ses i).mirror = false := by rw [e]; unfold State.hear; rw [State.ses_updSes]; simp [l, m]
  have lt : i < t.sess.length := by rw [hs]; simpa [State.hear] using l
  unfold State.answer State.respond
  rw [State.queue_plain _ _ mi]
  refine ⟨?_, fun j hj => ?_⟩
  · rw [State.ses_updSes, e]; unfold State.hear; rw [State.ses_updSes]; simp [l, lt, reply]
  · rw [State.ses_updSes]; simp only [hj, false_and, ite_false]; rw [e, State.hear_other _ hj]

/-- A command whose request is accepted leaves it outstanding. -/
theorem State.pended_accept {s t : State} {i g k : Nat} (h : s.takes i g = true) (n : Nat)
    (hs : t.sess = (s.hear i).sess) : s.pended (t.accept ⟨i, n, g, k⟩) i g k := by
  have l := State.ses_lt (State.takes_open h)
  have m := State.takes_mirror h
  have e : ∀ j, t.ses j = (s.hear i).ses j := fun j => by unfold State.ses; rw [hs]
  have mi : (t.ses i).mirror = false := by rw [e]; unfold State.hear; rw [State.ses_updSes]; simp [l, m]
  have lt : i < t.sess.length := by rw [hs]; simpa [State.hear] using l
  unfold State.accept State.answer State.respond
  rw [State.queue_plain _ _ mi]
  refine ⟨?_, fun j hj => ?_⟩
  · rw [State.ses_updSes, State.ses_updSes, e]; unfold State.hear; rw [State.ses_updSes]; simp [l, lt, reply]
  · rw [State.ses_updSes]; simp only [hj, false_and, ite_false]
    rw [State.ses_updSes]; simp only [hj, false_and, ite_false]; rw [e, State.hear_other _ hj]

end Sys2Proof.Machine
end

