-- ==== Sys2Proof/Tests/Slice0.lean ====
section
/-! SUPPORT. The model's own tests: ill-formed commands, worked examples of the manual, and for every statement with hypotheses a theorem
that shows, clause by clause, a state and operands that meet them. -/

section
set_option Elab.async false
set_option linter.unusedVariables false
set_option linter.unreachableTactic false
set_option linter.unusedTactic false
open Sys2Proof Sys2Proof.Machine

namespace Sys2Proof.Tests

/-! ## Ill-formed commands: one for each check of each command -/

theorem test_ill_formed_1 : ([
    .converterBlockEntry 4 0 (List.replicate 64 0) 0, .converterBlockEntry 0 0 [] 0, .convCalCmd 8 0 0 0,
    .convCalCmd 0 256 0 0, .convCalCmd 0 0 4 0, .convCalCmd 0 0 0 (2 ^ 1024), .convCalAll 8 0, .convCalAll 0 256,
    .boardPathSkewCmd 8 0, .boardPathSkewCmd 0 256, .calIntervalEnd 4 [] [] [] [] false 0, .calSetStored 4 false,
    .trackingUpdate 4 0 [] false, .trackingUpdate 0 3 [] false, .syncAlignCmd 8 0, .syncAlignCmd 0 256,
    .syncModeOff 8 0, .syncModeOff 0 256, .syncModeCheck 8 0, .syncModeCheck 0 256, .convPathDelayWrite 8 0 0 0,
    .convPathDelayWrite 0 256 0 0, .convPathDelayWrite 0 0 4 0, .convPathDelayWrite 0 0 0 (2 ^ 1024),
    .tunerSampleRelease 16, .tunerJoint 16, .tunerEnableJoint 16, .frameDispatch 32, .frameRelease 32,
    .frameStagingSkip 32, .contextJoint 32, .xfmUwinWrite 8 0 0 0, .xfmUwinWrite 0 256 0 0, .xfmUwinWrite 0 0 32 0,
    .xfmUwinWrite 0 0 0 (2 ^ 1024), .productPeriodRelease 32, .detHoldClear 8 0 0 0, .detHoldClear 0 256 0 0,
    .detHoldClear 0 0 32 0, .detHoldClear 0 0 0 (2 ^ 1024), .detectorJoint 32, .trigInEdge 4 false 0,
    .trigTimeEvent 32, .twinMarkReceive 32 0 0, .trigSrcForce 8 0 0 0, .trigSrcForce 0 256 0 0, .trigSrcForce 0 0 32 0,
    .trigSrcForce 0 0 0 (2 ^ 1024), .seqPosition 16, .trigTimerExpiry 16 0, .trigTimerExpiry 0 4,
    .trigSeqRearm 8 0 0 0, .trigSeqRearm 0 256 0 0, .trigSeqRearm 0 0 16 0, .trigSeqRearm 0 0 0 (2 ^ 1024),
    .triggerJoint 255, .groupResolve 4, .trigGrpArm 8 0 0 0, .trigGrpArm 0 256 0 0, .trigGrpArm 0 0 4 0] : List Instr).all (fun c => !c.wf) = true := by decide +kernel

theorem test_ill_formed_2 : ([
    .trigGrpArm 0 0 0 (2 ^ 1024), .trigGrpDisarm 8 0 0 0, .trigGrpDisarm 0 256 0 0, .trigGrpDisarm 0 0 4 0,
    .trigGrpDisarm 0 0 0 (2 ^ 1024), .trigOutLaunch 4, .trigOutPulseEnd 4, .trigOutModeWrite 8 0 0 0,
    .trigOutModeWrite 0 256 0 0, .trigOutModeWrite 0 0 4 0, .trigOutModeWrite 0 0 0 (2 ^ 1024),
    .trigMaskSegsWrite 8 0 0 0, .trigMaskSegsWrite 0 256 0 0, .trigMaskSegsWrite 0 0 16 0,
    .trigMaskSegsWrite 0 0 0 (2 ^ 1024), .trigMaskWrite 8 0 0 0, .trigMaskWrite 0 256 0 0, .trigMaskWrite 0 0 16 0,
    .trigMaskWrite 0 0 0 (2 ^ 1024), .trigCapArm 8 0 0 0, .trigCapArm 0 256 0 0, .trigCapArm 0 0 4 0,
    .trigCapArm 0 0 0 (2 ^ 1024), .captureFillEnd 4, .captureSegmentRead 4 [], .columnSetApply 8, .planeBoundary 8,
    .harvestReadDone 8, .crysClear 8 0 0 0, .crysClear 0 256 0 0, .crysClear 0 0 8 0, .crysClear 0 0 0 (2 ^ 1024),
    .crysHarvCmd 8 0 0 0, .crysHarvCmd 0 256 0 0, .crysHarvCmd 0 0 8 0, .crysHarvCmd 0 0 0 (2 ^ 1024),
    .histLineWrite 20, .histRingJoint 36, .reservoirRequestServe 128 0 0 0 0 0, .reservoirRequestServe 0 16 0 0 0 0,
    .refreshDue 4 0, .pchPowerDown 128, .pchRetrain 128 false false, .scrub 128 0 0 0, .rsvRplStart 8 0 0,
    .rsvRplStart 0 256 0, .rsvRplStart 0 0 16, .rsvRplAbort 8 0 0, .rsvRplAbort 0 256 0, .rsvRplAbort 0 0 16,
    .replayRead 16 false, .moveClaim 8 0 0, .moveClaim 0 256 0, .moveClaim 0 0 96, .moveRelease 8 0 0,
    .moveRelease 0 256 0, .moveRelease 0 0 96, .moveDescWrite 8 0 0 0, .moveDescWrite 0 256 0 0,
    .moveDescWrite 0 0 96 0] : List Instr).all (fun c => !c.wf) = true := by decide +kernel

theorem test_ill_formed_3 : ([
    .moveDescWrite 0 0 0 (2 ^ 1024), .moveStart 8 0 0, .moveStart 0 256 0, .moveStart 0 0 96, .moveHalt 8 0 0 0,
    .moveHalt 0 256 0 0, .moveHalt 0 0 96 0, .moveRetry 8 0 0, .moveRetry 0 256 0, .moveRetry 0 0 96, .moveSkip 8 0 0,
    .moveSkip 0 256 0, .moveSkip 0 0 96, .moveAbort 8 0 0 0, .moveAbort 0 256 0 0, .moveAbort 0 0 96 0,
    .moveResume 8 0 0, .moveResume 0 256 0, .moveResume 0 0 96, .descriptorComplete 96, .beatError 96 0 0 0,
    .portConfigWrite 8 0 0 0, .portConfigWrite 0 256 0 0, .portConfigWrite 0 0 16777216 0,
    .portConfigWrite 0 0 0 (2 ^ 1024), .portLinkUp 28 0, .portLinkDown 28, .arpRequest 28 0 0, .ndSolicitation 28 0 0,
    .frameReceive 28 default, .frameClose 256, .flowFlushTimer 256, .frameTransmit 28, .ackReceive 28,
    .rtoExpiry 256 0, .flowStall 256, .receiveFlowData 28, .receiveFlowAckTimer 256, .flowClaim 8 0 0,
    .flowClaim 0 256 0, .flowClaim 0 0 256, .flowRelease 8 0 0, .flowRelease 0 256 0, .flowRelease 0 0 256,
    .flowEnableJoint 256, .flowDisableJoint 256, .flowDrainEnd 256, .openSegmentReceive 28, .closeFrame 28,
    .layerBufferRelease 4, .scanLClaim 8 0 0, .scanLClaim 0 256 0, .scanLClaim 0 0 4, .scanLRelease 8 0 0,
    .scanLRelease 0 256 0, .scanLRelease 0 0 4, .scanLPalWrite 8 0 0 0, .scanLPalWrite 0 256 0 0,
    .scanLPalWrite 0 0 4 0, .scanLPalWrite 0 0 0 (2 ^ 1024)] : List Instr).all (fun c => !c.wf) = true := by decide +kernel

theorem test_ill_formed_4 : ([
    .refPresenceChange 2 0 0, .refPresenceChange 0 4 0, .clkRefSelWrite 8 0 0, .clkRefSelWrite 0 256 0,
    .clkRefSelWrite 0 0 (2 ^ 1024), .clkChangeCmd 8 0 0, .clkChangeCmd 0 256 0, .clkChangeCmd 0 0 (2 ^ 1024),
    .clkOutDivWrite 8 0 0, .clkOutDivWrite 0 256 0, .clkOutDivWrite 0 0 (2 ^ 1024), .clkTest 8 0 0, .clkTest 0 256 0,
    .clkTest 0 0 (2 ^ 1024), .plmbClaim 8 0, .plmbClaim 0 256, .plmbRelease 8 0, .plmbRelease 0 256,
    .plmbEdge 10 false 0 0, .plmbResNext 8 0 0, .plmbResNext 0 256 0, .plmbResNext 0 0 (2 ^ 1024), .plmbTodNext 8 0 0,
    .plmbTodNext 0 256 0, .plmbTodNext 0 0 (2 ^ 1024), .plmbConvTickWrite 8 0 0, .plmbConvTickWrite 0 256 0,
    .plmbConvTickWrite 0 0 (2 ^ 1024), .hello 8 0 0 0 false, .hello 0 256 0 0 false, .dictRead 8 0 0 0 0 0,
    .dictRead 0 256 0 0 0 0, .dictRead 0 0 65536 0 0 0, .dictRead 0 0 0 256 0 0, .dictWrite 8 0 0 0 [],
    .dictWrite 0 256 0 0 [], .dictWrite 0 0 65536 0 [], .dictWrite 0 0 0 256 [], .dictWrite 0 0 0 0 [2 ^ 36],
    .close 8 0 false, .close 0 256 false, .sessionIdleTimeout 8, .devSessEnd 8 0 0 0, .devSessEnd 0 256 0 0,
    .devSessEnd 0 0 8 0, .devSessEnd 0 0 0 (2 ^ 1024), .sessionEndJoint 8, .devCommit 8 0, .devCommit 0 256,
    .commitValidated 8, .devCommitValidate 8 0, .devCommitValidate 0 256, .devCommitDiscard 8 0,
    .devCommitDiscard 0 256, .swapComplete 255, .devStore 8 0, .devStore 0 256, .storeRun 8, .secAnchorWrite 8 0 0,
    .secAnchorWrite 0 256 0] : List Instr).all (fun c => !c.wf) = true := by decide +kernel

theorem test_ill_formed_5 : ([
    .secAnchorWrite 0 0 (2 ^ 1024), .secAnchorInstall 8 0 0 0 false false false false,
    .secAnchorInstall 0 256 0 0 false false false false, .secAnchorRemove 8 0 0, .secAnchorRemove 0 256 0,
    .secProvision 8 0 0, .secProvision 0 256 0, .secProvision 0 0 (2 ^ 1024), .secAttestCmd 8 0 0,
    .secAttestCmd 0 256 0, .secAttestCmd 0 0 (2 ^ 1024), .attestDone 8, .custodySegmentClose 256, .tenonLaneTrained 4,
    .tenonLaneDrop 4, .logEntryAck 256 0 0, .substRetx 256 0, .twinHandoverCmd 8 0, .twinHandoverCmd 0 256,
    .twinDetachCmd 8 0, .twinDetachCmd 0 256, .twinEnableFalse 8 0, .twinEnableFalse 0 256, .updLockTake 8 0,
    .updLockTake 0 256, .updLockRelease 8 0, .updLockRelease 0 256, .updLength 8 0 0, .updLength 0 256 0,
    .updLength 0 0 (2 ^ 1024), .updOffsetWrite 8 0 0, .updOffsetWrite 0 256 0, .updOffsetWrite 0 0 (2 ^ 1024),
    .updData 8 0 0, .updData 0 256 0, .updData 0 0 (2 ^ 2048), .updVerify 8 0 0, .updVerify 0 256 0,
    .updVerify 0 0 (2 ^ 1024), .updActivateHandover 8 0, .updActivateHandover 0 256, .updActivateRestart 8 0,
    .updActivateRestart 0 256, .updConfirm 8 0 0, .updConfirm 0 256 0, .updConfirm 0 0 (2 ^ 1024), .pwrReqService 8 0,
    .pwrReqService 0 256, .pwrReqHold 8 0, .pwrReqHold 0 256, .pwrReqWatch 8 0, .pwrReqWatch 0 256, .pwrReqDormant 8 0,
    .pwrReqDormant 0 256, .coreVoltageAdjust 8 0 false 0, .wakeTrigIn 4, .watchBurstStart 4, .watchBurstEnd 4 none,
    .diagReset 8 0 0, .diagReset 0 256 0] : List Instr).all (fun c => !c.wf) = true := by decide +kernel

theorem test_ill_formed_6 : ([
    .diagReset 0 0 (2 ^ 1024), .sliceFail 8 false, .diagAlertAck 8 0 0, .diagAlertAck 0 256 0,
    .diagAlertAck 0 0 (2 ^ 1024), .convJoint 4, .moveBufferJoint 96, .tokenCheckFailure 8 0 0, .snapshotReceipt 8,
    .snapshotReceiptTimeout 8, .forwardedAckReceive 256 default] : List Instr).all (fun c => !c.wf) = true := by decide +kernel

/-! ## Worked examples and tables of the manual -/

/-- The worked example of R5 (chapter 0): a tick index as two words, a level, and a complex sample. -/
theorem test_value_types : Ty.u64.encode 0x00000123456789AB = [0x12, 0x3456789AB] ∧ ofI 36 (-1343488) = 0xFFFEB8000 ∧
    cplx36 65536 (-32768) = 0x400038000 := by decide +kernel

/-- Table 3.4, with R67's largest half-span. -/
theorem test_splits : [1, 10, 34, 80, 4099, 10000, 65535, 65536].map splitOf =
    [(0, 1, 1), (1, 10, 1), (2, 2, 17), (2, 16, 5), (3, 1, 4099), (2, 16, 625), (3, 1, 65535), (2, 16, 4096)] ∧
    [1, 10, 34, 80, 4099, 10000].map protectOf = [100, 100, 60, 100, 17, 100] ∧ kerfHalf 65535 = 2949070 ∧ kerfHalf 1 = 0 := by decide +kernel

/-- The worked example of R335: the register after each octet of a READ of DEV_FW_VERSION, and the frame. -/
theorem test_crc : [0x02, 0x05, 0x10, 0x01, 0x01, 0x00].foldl (fun (l : List Nat) o => l ++ [crcOctet (l.getLastD 0xFFFF) o]) [] =
    [0xC1B2, 0x2BC8, 0x4F38, 0x910A, 0x89B9, 0xB9A1] ∧
    requestSound [0x02, 0x05, 0x10, 0x01, 0x01, 0x00, 0xB9, 0xA1] = true ∧
    requestSound [0x02, 0x05, 0x10, 0x01, 0x01, 0x00, 0xB9, 0xA0] = false := by decide +kernel

/-- The response of that example: its first octets and its value word. -/
theorem test_response : ((reply 5 (key 0x1001 1) .ok).octets.take 7 = [0x80, 0x05, 0, 0, 0x10, 0x01, 0x01]) ∧
    packWords [0x00104000C] = [0x00, 0x10, 0x40, 0x00, 0xC0] ∧
    ({ reply 5 (key 0x1001 1) .ok with words := [0x00104000C] } : Sys2Proof.Machine.Frame).octets.length = 15 := by decide +kernel

/-- The worked example of R156: columns at −37.25 dBFS, and at +0.5 dBFS without and with CRYS_CLIP = 1. -/
def wRows (clip : Nat) : State :=
  State.reset.wrAll [(Obj.CRYS_TOP 0, 0), (Obj.CRYS_RANGE 0, 6553600), (Obj.CRYS_ROWS 0, 1024), (Obj.CRYS_CLIP 0, clip)]
theorem test_rows : (wRows 0).rowOf 0 (ofI 36 (-2441216)) = (some 642, 0) ∧ (wRows 0).rowOf 0 (ofI 36 32768) = (none, 1) ∧
    (wRows 1).rowOf 0 (ofI 36 32768) = (some 1023, 1) := by decide +kernel

/-- Table 7.3 with no evaporation: the 262,143rd hit of weight 64 leaves 16,777,152 and the next saturates the cell. -/
theorem test_saturation : (hitCell 64 [(2048 * 7 + 3, 16777088)] 7 3) = ([(2048 * 7 + 3, 16777152)], 0) ∧
    (hitCell 64 [(2048 * 7 + 3, 16777152)] 7 3) = ([(2048 * 7 + 3, 16777215)], 1) := by decide +kernel

/-- Table 14.3's head: intervals and STOPINFO of its four stops. -/
theorem test_stops : [(posOf 4999800000, 3), (posOf 5000000000 + 1049, 2), (posOf 5000003200, 2), (posOf 5000003200 + 32768, 3)].map
      (fun (p : Nat × Nat) => stopResult (posOf 5000000000) { pos := p.1, input := p.2, rising := true, clock := false }) =
    [(-13107200000, 0x0302), (0, 0x0201), (209715200, 0x0200), (209747968, 0x0300)] := by decide +kernel

/-- The example of R295: 122.88 MHz gives 260 + 5/12. -/
theorem test_ratio : ((State.reset.setRatio 122880000).rd Obj.CLK_RATIO_INT, (State.reset.setRatio 122880000).rd Obj.CLK_RATIO_NUM,
    (State.reset.setRatio 122880000).rd Obj.CLK_RATIO_DEN) = (260, 5, 12) ∧
    (State.reset.setRatio 100000000).rd Obj.CLK_RATIO_NUM = 0 := by decide +kernel

/-- The worked example after Table 7.3 (R162): T = 100 ms gives 4,291,066,996; and the ends of R167's log code. -/
theorem test_evaporation : evaporation 3200000000 = 4291066996 ∧ evaporation 0 = 2 ^ 32 ∧ [0, 1, 2 ^ 24 - 1].map logCodeOf = [0, 1, 3073] := by
  decide +kernel

/-- Table 4.1: ENBW and coherent gain of the Hann window; and R87's level of half the full-scale power, −3.01 dB, before its error. -/
theorem test_window : enbwOf (coefs 1 0 64 []) = 98304 ∧ cgainOf (coefs 1 0 64 []) = 2 ^ 29 ∧ levelOf (2 ^ 239) = -197283 ∧ levelOf (2 ^ 240) = 0 := by
  decide +kernel

/-- R83: a bin of a constant frame under the rectangular window is the constant at bin 0, before the noise. -/
theorem test_bin : binSum 16 0 (List.replicate 16 (cplx36 65536 (-32768))) (coefs 0 0 16 []) =
    (16 * 65536 * 65536 * 2 ^ 96, -(16 * 65536 * 32768 * 2 ^ 96)) ∧ binScale (16 * 65536) (16 * 65536 * 65536 * 2 ^ 96) = 2 ^ 119 := by
  decide +kernel

/-- Idle steps from reset pass time only, and a queued request waits its turn. -/
theorem test_queue : (stepped 1 { State.reset with pending := [.devCommit 1 7, .shedStep] }).map (fun t => (t.pending, t.wall)) = some ([.shedStep], 0) ∧
    (stepped 2 State.reset).map State.wall = some 2 := by decide +kernel

/-! ## States for the witnesses -/

/-- An engine in service with an administrator's session 1 open. -/
def base : State :=
  { State.reset with sess := State.reset.sess.set 1 { isOpen := true, inc := 3, ver := 1, role := 2 } }.wrAll
    [(Obj.DEV_STATE, 3), (Obj.CLK_LOCKED_MASK, 1)]
/-- A request of session 1 that is outstanding. -/
def wReq : Req := ⟨1, 3, 9, 0⟩
def wOpen (s : State) : State := s.updSes 1 fun x => { x with tags := [9] }
def zeros : List Int := List.replicate 64 0
def wConv : State :=
  { base with
    tick := 100000000000, wall := 400000000000, conv := { base.conv with counts := true }
    chans := base.chans.set 1 { base.chan 1 with nextBlock := 5 } }
/-- A swap of session 1 with one unit's change due at tick 100. -/
def wSwap (g : Nat) (u : UnitId) (vals : List (Nat × Nat)) : Swap :=
  { id := 1, req := wReq, sess := 1, seq := 1, groups := 2 ^ g, validating := false, served := 0, vals := vals, units := [⟨g, u, 100⟩] }
def wDue (g : Nat) (u : UnitId) (vals : List (Nat × Nat)) : State := { wConv with swaps := [wSwap g u vals] }
def wFrm : Sys2Proof.Machine.Frm := { label := 512, d := 1, cfg := { on := true, sizeLog2 := 4, hop := 16 }, samples := [] }
def wCtx (x : Ctx) : State := wConv.updCtx 2 fun _ => x
def wSrc (k : Nat) (x : Source) : State := wConv.updSrc k fun _ => x
def wEv : TEvent := ⟨65536, 2, 0⟩
/-- No maintenance of pseudo-channel 5 is due. -/
def wQuiet (s : State) : State :=
  { s with rsv := { s.rsv with refreshAt := List.replicate 4 (10 ^ 15) } }.updPch 5 fun x => { x with retrainAt := s.wall }
def wRsv (l : List (Nat × Nat)) : State := wConv.wrAll ([(Obj.RSV_STATE, 2)] ++ l)
def wLine : Line := { no := 7, words := [(0, ⟨5, false⟩)] }
def wRq : Rq := ⟨2 ^ 12 + 3, false, none, false⟩
def wScanRq : Rq := ⟨2 ^ 13, true, none, false⟩
def wOwn (u : UnitId) (s : State) : State := s.own u 1 true
/-- A mover channel of session 1 with one descriptor from its buffer to its buffer. -/
def wMover (l : List (Nat × Nat)) : State :=
  (wOwn ⟨.mover, 40⟩ (wConv.updMover 40 fun x => { x with slots := [(0, 2 ^ 32 + 2 ^ 28 + 256), (2, 64), (3, 4), (5, 77)] })).wrAll
    ([(Obj.MOVE_STATE 40, 1), (Obj.MOVE_OWNER 40, 1), (Obj.MOVE_BUF_LOG2 40, 12)] ++ l)
/-- Port 3's link is up and its peer learned. -/
def wPort (l : List (Nat × Nat)) : State :=
  ({ wConv with obj := wConv.obj.ins (Obj.PORT_MAC 3) 3 } : State).wrAll ([(Obj.PORT_ENABLE 3, 1), (Obj.PORT_STATE 3, 3), (Obj.PORT_MEDIA_ACTIVE 3, 1), (Obj.PORT_PEER_LEARNED 3, 77), (Obj.PORT_MTU 3, 1500), (Obj.PORT_IP4 3, 9), (Obj.PORT_IP6 3, 10)] ++ l)
/-- Flow 5 of session 1 runs over port 3. -/
def wFlow (x : Flow) (l : List (Nat × Nat)) : State :=
  (wOwn ⟨.flow, 5⟩ ((wPort []).updFlow 5 fun _ => x)).wrAll
    ([(Obj.FLOW_ENABLE 5, 1), (Obj.FLOW_STATE 5, 2), (Obj.FLOW_OWNER 5, 1), (Obj.FLOW_PORTS 5, 8), (Obj.FLOW_BEATS 5, 1), (Obj.FLOW_SRC 5, 2)] ++ l)
def wTx : TxFrame := { seq := 4, pos := 0, words := List.replicate 8 0, firstRec := 0xFFFF, tick := 0 }
def wAct : TxFrame := { wTx with sent := 1, lastAt := 5, port := 3 }
def wRx (k : Nat) : RxFrame := { dstMac := 3, srcMac := 78, length := 100, kind := k, session := 1, flow := 249, seq := 0, sent := 6 }
def wRxq (f : RxFrame) (s : State) : State := s.updPort 3 fun x => { x with rxq := [f] }
/-- A frame of three words packed with its CRC, of operation op on index i. -/
def wI3c (s : State) : State := s.wr Obj.DEV_I3C_ADDR 9
def wS2 : State := wI3c (wConv.updSes 2 fun _ => { isOpen := true, inc := 1, ver := 1, role := 2, srcIp := 4, heard := 5 })
def wRow (k : Nat) : Row := (keyRow k).getD ⟨0, 0, 0, 0, 0, .u8, .ro, false, 0, .any⟩
def wScan (x : Scan) (l : List (Nat × Nat)) : State :=
  ({ wConv with scan := x } : State).wrAll ([(Obj.SCAN_ENABLE, 1), (Obj.SCAN_STATE, 2), (Obj.SCAN_PIXEL_HZ, 1000000), (Obj.SCAN_HACTIVE, 2), (Obj.SCAN_VACTIVE, 4), (Obj.SCAN_LANE_MBPS, 1000), (Obj.SCAN_RATE_MAX, 60000)] ++ l)
def wHarv : Harvest := { cols := 2, rows := 2 }
def wShedU : ShedUnit := ⟨2, 0, 0, 0, 254⟩
def wTdc : TdcCfg := { on := true, startIn := 1, mask := 4 }
def wPlumb (x : Plumb) (l : List (Nat × Nat)) : State :=
  (wOwn ⟨.plumb, 0⟩ ({ wConv with plumb := x } : State)).wrAll ([(Obj.PLMB_TDC_ENABLE, 1), (Obj.PLMB_OWNER, 1)] ++ l)
def wHello : PeerHello := ⟨7, 3, 0, 1, 1, 1, true, true, 0, false, false, (1, 1), (1, 1), (1, 1), some 900⟩
/-- A primary with a twin whose link is up. -/
def wPair (l : List (Nat × Nat)) (x : Twin) : State :=
  ({ wConv with twin := { x with peer := some wHello } } : State).wrAll ([(Obj.TWIN_STATE, 2), (Obj.TWIN_SENSE_STATE, 1), (Obj.TWIN_LANES, 1)] ++ l)
/-- A standby at step 3. -/
def wStby (l : List (Nat × Nat)) (x : Twin) : State := wPair ([(Obj.TWIN_STATE, 4)] ++ l) { x with steps := 3, js := some 5 }
def wAnchored : State :=
  (wConv.wrAll [(Obj.TWIN_ENABLE, 1), (Obj.TWIN_LANES, 1), (Obj.TWIN_STATE, 1), (Obj.TWIN_PEER_ID, 7), (Obj.SEC_OWNER_STATE, 1)]).wrc Obj.SCAN_ENABLE 1
/-- A standby that holds session 2 of its primary. -/
def wMirror (l : List (Nat × Nat)) (x : Twin) : State :=
  (wStby l x).updSes 2 fun _ => { isOpen := true, inc := 1, ver := 1, role := 2, mirror := true }
def wItem (b : MirrorBody) : MirrorItem := ⟨100000000000, true, b⟩
def wImage : ImageInfo := ⟨true, 1, 256, 8192, 0, 4096, 0x7436, true, true, 0, 0, 5, 0, 9, 1, [], 77⟩
/-- Session 1 holds the update lock. -/
def wUpd (l : List (Nat × Nat)) (x : Upd) : State :=
  ({ wConv with upd := x } : State).wrAll ([(Obj.UPD_LOCK_HOLDER, 1)] ++ l)
def wPwr (l : List (Nat × Nat)) (x : Pwr) : State := ({ wOpen wConv with pwr := x } : State).wrAll l
def wPReq (n : Nat) : PwrReq := { target := n, req := some wReq }
def wStart (l : List (Nat × Nat)) (x : Start) : State := ({ wConv with start := x } : State).wrAll l
def wEntry (n : Nat) : LogEntry := { seq := n, tick := 0, cls := 0, sess := 254, code := 0 }
def wCommit : Swap :=
  { id := 0, req := wReq, sess := 1, seq := 1, groups := 16, validating := true, served := 5, reqTick := 5, vals := [(Obj.TRIG_SRC_WIDTH 5, 7)] }

/-! ## What meets the hypotheses of each statement -/

theorem witness_ConverterBlocks :
    (let s : State := wConv;
      let ch : Nat := 1;
      let n : Nat := 5;
      let prev : Int := 0;
      let raw : List Int := List.replicate 64 7;
      let next : Int := 0;
      s.Sized ∧ ch < 4 ∧ s.rdB (Obj.CONV_ENABLE ch) = true ∧ s.convFenced ch = false ∧ s.conv.counts = true ∧ raw.length = 64 ∧ (s.chan ch).dueBlock = some n ∧ 64 * (n + 1) ≤ s.tick ∧ (s.chan ch).joins n prev (raw.headD 0) = true ∧ (s.chan ch).fill < 512 ∧ (s.chan ch).drops = none ∧ (s.chan ch).withheld = none ∧ s.rdB (Obj.RSV_HIST_ENABLE (16 + ch)) = false) ∧
    (let s : State := (wConv.updChan 1 fun x => { x with fill := 1024 });
      let ch : Nat := 1;
      let n : Nat := 5;
      let prev : Int := 0;
      let raw : List Int := List.replicate 64 7;
      let next : Int := 0;
      s.Sized ∧ ch < 4 ∧ s.rdB (Obj.CONV_ENABLE ch) = true ∧ s.convFenced ch = false ∧ s.conv.counts = true ∧ raw.length = 64 ∧ (s.chan ch).dueBlock = some n ∧ 64 * (n + 1) ≤ s.tick ∧ (s.chan ch).joins n prev (raw.headD 0) = true ∧ 1024 ≤ (s.chan ch).fill) ∧
    (let s : State := wDue 0 ⟨.converter, 1⟩ [(Obj.CONV_ENABLE 1, 1)] |>.wr (Obj.CONV_ENABLE 1) 0;
      let ch : Nat := 1;
      let b : Nat := 100;
      let w : Swap := wSwap 0 ⟨.converter, 1⟩ [(Obj.CONV_ENABLE 1, 1)];
      s.Sized ∧ ch < 4 ∧ s.due 0 ⟨.converter, ch⟩ = some (w, b) ∧ w.vals = [(Obj.CONV_ENABLE ch, 1)] ∧ s.rdB (Obj.CONV_ENABLE ch) = false ∧ s.convFenced ch = false ∧ (s.chan ch).cal = none ∧ (s.chan ch).drops = none ∧ bitOf (s.rd Obj.CLK_LOCKED_MASK) 0 = true ∧ s.clk.gatedAt = none) ∧
    (let s : State := wDue 0 ⟨.converter, 1⟩ [(Obj.CONV_ENABLE 1, 0)];
      let ch : Nat := 1;
      let b : Nat := 100;
      let w : Swap := wSwap 0 ⟨.converter, 1⟩ [(Obj.CONV_ENABLE 1, 0)];
      s.Sized ∧ ch < 4 ∧ s.due 0 ⟨.converter, ch⟩ = some (w, b) ∧ w.vals = [(Obj.CONV_ENABLE ch, 0)] ∧ s.rdB (Obj.CONV_ENABLE ch) = true ∧ s.convFenced ch = false ∧ (s.chan ch).drops = none ∧ (s.chan ch).withheld = none) := by
  refine ⟨⟨?_, ?_, ?_, ?_, ?_, ?_, ?_, ?_, ?_, ?_, ?_, ?_, ?_⟩, ⟨?_, ?_, ?_, ?_, ?_, ?_, ?_, ?_, ?_, ?_⟩, ⟨?_, ?_, ?_, ?_, ?_, ?_, ?_, ?_, ?_, ?_⟩, ⟨?_, ?_, ?_, ?_, ?_, ?_, ?_, ?_⟩⟩ <;> first | decide +kernel | (unfold State.Sized; decide +kernel) | rfl

theorem witness_ConverterCalibration :
    (let s : State := wConv.wr Obj.DEV_STATE 1;
      (s.rd Obj.DEV_STATE < 2 ∨ (s.conv.skew = none ∧ ∃ ch, ch < 4 ∧ (s.chan ch).calRuns = true))) ∧
    (let s : State := wConv;
      2 ≤ s.rd Obj.DEV_STATE ∧ s.conv.skew = none ∧ ((∀ ch, ch < 4 → (s.chan ch).calRuns = false))) ∧
    (let s : State := wConv;
      let sess : Nat := 1;
      let tag : Nat := 7;
      let ch : Nat := 1;
      s.Sized ∧ ch < 4 ∧ s.serves sess tag (Obj.CONV_CAL_CMD ch) 1 = true ∧ s.convFenced ch = false ∧ s.calibrating ch = false ∧ s.masterLocked = true ∧ s.conv.skew = none ∧ s.upd.closed = false ∧ s.rd Obj.TWIN_STATE = 0) ∧
    (let s : State := wConv;
      let sess : Nat := 1;
      let tag : Nat := 7;
      s.Sized ∧ s.serves sess tag Obj.CONV_CAL_ALL 1 = true ∧ s.calChannels ≠ [] ∧ ((∀ ch, ch < 4 → s.calibrating ch = false)) ∧ s.masterLocked = true ∧ s.conv.skew = none ∧ s.upd.closed = false ∧ s.rd Obj.TWIN_STATE = 0) ∧
    (let s : State := (wConv.updChan 1 fun x => { x with cal := some { start := 64, end_ := 128 } });
      let ch : Nat := 1;
      let off : List Int := zeros;
      let gain : List Int := zeros;
      let skew : List Int := zeros;
      let bw : List Int := zeros;
      let sourceOk : Bool := true;
      let tj : Int := 50;
      let c : Cal := { start := 64, end_ := 128 };
      s.Sized ∧ ch < 4 ∧ (s.chan ch).cal = some c ∧ c.end_ ≤ s.tick ∧ c.abandoned = false ∧ calReason off gain skew bw sourceOk = 0) ∧
    (let s : State := (wConv.updChan 1 fun x => { x with storing := some { seq := 5 } });
      let ch : Nat := 1;
      let f : FactorSet := { seq := 5 };
      s.Sized ∧ ch < 4 ∧ (s.chan ch).storing = some f ∧ (s.chan ch).sets.length = 2 ∧ (s.chan ch).calReqs = [] ∧ s.conv.all = none) ∧
    (let s : State := (wConv.wrAll [(Obj.CONV_STATE 1, 2), (Obj.CONV_TRACK_ENABLE 1, 1)]).updChan 1 fun x => { x with track := [⟨64, 1⟩, {}, {}] };
      let ch : Nat := 1;
      let kind : Nat := 0;
      let target : List Int := zeros.map (· + 4000);
      let bandOk : Bool := true;
      s.Sized ∧ ch < 4 ∧ kind < 3 ∧ (s.chan ch).trackAt.getD kind 0 ≤ s.wall ∧ s.rdB (Obj.CONV_TRACK_ENABLE ch) = true ∧ s.rd (Obj.CONV_STATE ch) = 2 ∧ ((s.chan ch).track.getD kind {}).n ≠ 0 ∧ ((kind = 0 ∨ ((s.chan ch).track.getD kind {}).loud = true)) ∧ (kind = 2 → bandOk = true)) := by
  refine ⟨?_, ⟨?_, ?_, ?_⟩, ⟨?_, ?_, ?_, ?_, ?_, ?_, ?_, ?_, ?_⟩, ⟨?_, ?_, ?_, ?_, ?_, ?_, ?_, ?_⟩, ⟨?_, ?_, ?_, ?_, ?_, ?_⟩, ⟨?_, ?_, ?_, ?_, ?_, ?_⟩, ⟨?_, ?_, ?_, ?_, ?_, ?_, ?_, ?_, ?_⟩⟩ <;> first | decide +kernel | (unfold State.Sized; decide +kernel) | rfl

theorem witness_BoardPaths :
    (let s : State := wConv;
      let sess : Nat := 1;
      let tag : Nat := 7;
      let ch : Nat := 1;
      let v : Nat := 100;
      s.Sized ∧ ch < 4 ∧ s.serves sess tag (Obj.CONV_PATH_DELAY ch) v = true ∧ s.channelFeeds ch = false) ∧
    (let s : State := wConv;
      let sess : Nat := 1;
      let tag : Nat := 7;
      s.serves sess tag Obj.CONV_CAL_ALL 2 = true ∧ s.anyFeeds = false ∧ ((∀ ch, ch < 4 → s.calibrating ch = false)) ∧ s.conv.skew = none) ∧
    (let s : State := wOpen { wConv with conv := { wConv.conv with skew := some (wReq, 5) } };
      let a0 : Nat := 5;
      let a1 : Nat := 6;
      let a2 : Nat := 7;
      let a3 : Nat := 8;
      let combOk : Bool := true;
      let r : Req := wReq;
      let u : Nat := 5;
      s.Sized ∧ s.conv.skew = some (r, u) ∧ u ≤ s.wall) := by
  refine ⟨⟨?_, ?_, ?_, ?_⟩, ⟨?_, ?_, ?_, ?_⟩, ⟨?_, ?_, ?_⟩⟩ <;> first | decide +kernel | (unfold State.Sized; decide +kernel) | rfl

theorem witness_SyncGrid :
    (let s : State := wConv;
      let sess : Nat := 1;
      let tag : Nat := 7;
      s.serves sess tag Obj.CONV_SYNC_MODE 2 = true ∧ s.conv.align = none ∧ s.anyFeeds = false) ∧
    (let s : State := wOpen { wConv with conv := { wConv.conv with align := some (wReq, 0, 500000000000) } };
      let r : Req := wReq;
      let mode : Nat := 0;
      let dl : Nat := 500000000000;
      s.conv.align = some (r, mode, dl) ∧ s.wall < dl ∧ s.masterLocked = true ∧ r.sess ≠ 254) ∧
    (let s : State := wOpen { wConv with conv := { wConv.conv with align := some (wReq, 1, 5) } };
      let r : Req := wReq;
      let mode : Nat := 1;
      let dl : Nat := 5;
      s.conv.align = some (r, mode, dl) ∧ dl ≤ s.wall) ∧
    (let s : State := { wConv with conv := { wConv.conv with grid := some 5 } };
      let sess : Nat := 1;
      let tag : Nat := 7;
      s.serves sess tag Obj.CONV_SYNC_MODE 0 = true ∧ s.conv.align = none) ∧
    (let s : State := wConv.wr Obj.CONV_SYNC_MODE 1;
      let sess : Nat := 1;
      let tag : Nat := 7;
      s.serves sess tag Obj.CONV_SYNC_MODE 1 = true ∧ s.conv.align = none ∧ s.rd Obj.CONV_SYNC_MODE = 1) ∧
    (let s : State := { wConv with conv := { wConv.conv with grid := some 5 } }.wr Obj.CONV_SYNC_MODE 1;
      let edges : List Int := [0, 3];
      let e : Nat := 5;
      s.conv.grid = some e ∧ s.rd Obj.CONV_SYNC_MODE = 1 ∧ s.conv.nextCheck ≤ s.tick) ∧
    (let s : State := { wConv with conv := { wConv.conv with grid := some 5 } }.wr Obj.CONV_SYNC_MODE 1;
      let e : Nat := 5;
      s.conv.grid = some e ∧ s.rd Obj.CONV_SYNC_MODE = 1 ∧ s.conv.nextOut + 4096 ≤ s.tick) := by
  refine ⟨⟨?_, ?_, ?_⟩, ⟨?_, ?_, ?_, ?_⟩, ⟨?_, ?_⟩, ⟨?_, ?_⟩, ⟨?_, ?_, ?_⟩, ⟨?_, ?_, ?_⟩, ⟨?_, ?_, ?_⟩⟩ <;> first | decide +kernel | (unfold State.Sized; decide +kernel) | rfl

theorem witness_TunerCommands :
    (let s : State := (wConv.updTuner 4 fun x => { x with on := true, cfgs := [{}] }).updChan 1 fun x => { x with entered := 10000 };
      let n : Nat := 4;
      let l : Nat := 0;
      s.Sized ∧ n < 16 ∧ s.due 1 ⟨.tuner, n⟩ = none ∧ (s.tuner n).nextLabel = some l ∧ l + groupDelay ((s.tuner n).cfgAt l).d < (s.chan (tunerChannel n)).entered) ∧
    (let s : State := (wDue 1 ⟨.tuner, 4⟩ [(Obj.TUNE_DECIM 4, 4)]).wr (Obj.TUNE_ENABLE 4) 1;
      let n : Nat := 4;
      let b : Nat := 100;
      let w : Swap := wSwap 1 ⟨.tuner, 4⟩ [(Obj.TUNE_DECIM 4, 4)];
      s.Sized ∧ n < 16 ∧ s.due 1 ⟨.tuner, n⟩ = some (w, b) ∧ w.changes s (Obj.TUNE_ENABLE n) = false) ∧
    (let s : State := (wDue 1 ⟨.tuner, 4⟩ [(Obj.TUNE_ENABLE 4, 1)]);
      let n : Nat := 4;
      let b : Nat := 100;
      let w : Swap := wSwap 1 ⟨.tuner, 4⟩ [(Obj.TUNE_ENABLE 4, 1)];
      s.Sized ∧ n < 16 ∧ s.due 1 ⟨.tuner, n⟩ = some (w, b) ∧ w.changes s (Obj.TUNE_ENABLE n) = true ∧ s.rdB (Obj.TUNE_ENABLE n) = false ∧ (s.tuner n).on = false ∧ s.rd (Obj.CONV_STATE (tunerChannel n)) ≠ 5) ∧
    (let s : State := (wDue 1 ⟨.tuner, 4⟩ [(Obj.TUNE_ENABLE 4, 0)]).wr (Obj.TUNE_ENABLE 4) 1;
      let n : Nat := 4;
      let b : Nat := 100;
      let w : Swap := wSwap 1 ⟨.tuner, 4⟩ [(Obj.TUNE_ENABLE 4, 0)];
      s.Sized ∧ n < 16 ∧ s.due 1 ⟨.tuner, n⟩ = some (w, b) ∧ w.changes s (Obj.TUNE_ENABLE n) = true ∧ s.rdB (Obj.TUNE_ENABLE n) = true ∧ (s.tuner n).stopAt = none ∧ s.rd (Obj.CONV_STATE (tunerChannel n)) ≠ 5) := by
  refine ⟨⟨?_, ?_, ?_, ?_, ?_⟩, ⟨?_, ?_, ?_, ?_⟩, ⟨?_, ?_, ?_, ?_, ?_, ?_, ?_⟩, ⟨?_, ?_, ?_, ?_, ?_, ?_, ?_⟩⟩ <;> first | decide +kernel | (unfold State.Sized; decide +kernel) | rfl

theorem witness_ContextsAndDetectors :
    (let s : State := wCtx { items := [.frame { wFrm with cfg := { wFrm.cfg with sizeLog2 := 10 } }] };
      let c : Nat := 2;
      let f : Sys2Proof.Machine.Frm := { wFrm with cfg := { wFrm.cfg with sizeLog2 := 10 } };
      (s.ctx c).waiting = some f ∧ s.slotFree c = true ∧ s.slotTurn c = true ∧ s.unitWhole c f = true ∧ (s.ctx c).stag = none) ∧
    (let s : State := wCtx { items := [.frame { wFrm with dispatched := true }] };
      let c : Nat := 2;
      let f : Sys2Proof.Machine.Frm := { wFrm with dispatched := true };
      s.Sized ∧ c < 32 ∧ (s.ctx c).items = [CtxItem.frame f] ∧ f.dispatched = true ∧ s.olderFormed c f.label = true ∧ s.due 3 ⟨.context, c⟩ = none) ∧
    (let s : State := ((wCtx { items := [.frame wFrm] }).updTuner 0 fun x => { x with newest := 100000 }).wr (Obj.XFM_ENABLE 2) 1;
      let c : Nat := 2;
      let f : Sys2Proof.Machine.Frm := wFrm;
      s.Sized ∧ c < 32 ∧ s.rdB (Obj.XFM_ENABLE c) = true ∧ (s.ctx c).waiting = some f ∧ f.label / (2 * f.d) + ringSamples f.cfg.n ≤ (at' s.tuners f.cfg.source).newest / (2 * f.d) + 1) ∧
    (let s : State := wDue 2 ⟨.context, 2⟩ [(Obj.XFM_ENABLE 2, 1)];
      let c : Nat := 2;
      let b : Nat := 100;
      let w : Swap := wSwap 2 ⟨.context, 2⟩ [(Obj.XFM_ENABLE 2, 1)];
      s.Sized ∧ c < 32 ∧ s.due 2 ⟨.context, c⟩ = some (w, b)) ∧
    (let s : State := wConv;
      let sess : Nat := 1;
      let tag : Nat := 7;
      let c : Nat := 2;
      let v : Nat := 68719476736 * 3 + 5;
      s.Sized ∧ c < 32 ∧ s.serves sess tag (Obj.XFM_UWIN_WRITE c) v = true ∧ s.swapHolds sess 2 = false ∧ v / 2 ^ 36 < 2 ^ (s.staging sess (Obj.XFM_SIZE_LOG2 c) - 1)) ∧
    (let s : State := wConv.updDet 2 fun x => { x with out := [.period [] [(3, 77, 3200000)], .explain []] };
      let c : Nat := 2;
      let bp : Nat := 3;
      let v : Nat := 77;
      let tk : Nat := 3200000;
      let rest : List DetItem := [.explain []];
      s.Sized ∧ c < 32 ∧ (s.det c).out = DetItem.period [] [(bp, v, tk)] :: rest) ∧
    (let s : State := wConv.updDet 2 fun x => { x with out := [.period [(0, detRecord 2 5 0 0 0 [1])] []] };
      let c : Nat := 2;
      let recs : List (Nat × Record) := [(0, detRecord 2 5 0 0 0 [1])];
      let bands : List (Nat × Nat × Nat) := [];
      let rest : List DetItem := [];
      s.Sized ∧ c < 32 ∧ (s.det c).out = DetItem.period recs bands :: rest) ∧
    (let s : State := wConv;
      let sess : Nat := 1;
      let tag : Nat := 7;
      let c : Nat := 2;
      s.Sized ∧ c < 32 ∧ s.serves sess tag (Obj.DET_HOLD_CLEAR c) 1 = true) ∧
    (let s : State := wDue 3 ⟨.context, 2⟩ [(Obj.DET_AVG_MODE 2, 1)];
      let c : Nat := 2;
      let b : Nat := 100;
      let w : Swap := wSwap 3 ⟨.context, 2⟩ [(Obj.DET_AVG_MODE 2, 1)];
      s.Sized ∧ c < 32 ∧ s.due 3 ⟨.context, c⟩ = some (w, b)) := by
  refine ⟨⟨?_, ?_, ?_, ?_, ?_⟩, ⟨?_, ?_, ?_, ?_, ?_, ?_⟩, ⟨?_, ?_, ?_, ?_, ?_⟩, ⟨?_, ?_, ?_⟩, ⟨?_, ?_, ?_, ?_, ?_⟩, ⟨?_, ?_, ?_⟩, ⟨?_, ?_, ?_⟩, ⟨?_, ?_, ?_⟩, ⟨?_, ?_, ?_⟩⟩ <;> first | decide +kernel | (unfold State.Sized; decide +kernel) | rfl

theorem witness_TriggerSourceEvents :
    (let s : State := wSrc 3 { cfgs := [{ kind := 4, input := 1 }] };
      let pin : Nat := 1;
      let rising : Bool := true;
      let x : Nat := 5;
      s.Sized ∧ pin < 4 ∧ s.masterLocked = true ∧ s.pinSources pin ((posOf s.tick + x % 16 * 4096 - inDelay (s.rd (Obj.TRIG_IN_DELAY pin))) / 65536) ≠ [] ∧ ((at' s.trig.stamps pin).filter fun t => Nat.blt s.tick (t + 32000)).length < 64) ∧
    (let s : State := wSrc 3 { cfgs := [{ kind := 5, timePeriod := 1000 }], nextTime := some 500 };
      let k : Nat := 3;
      let n : Nat := 500;
      let c : SrcCfg := { kind := 5, timePeriod := 1000 };
      s.Sized ∧ k < 32 ∧ (s.src k).nextTime = some n ∧ (s.src k).cfgAt s.tick = some c ∧ c.kind = 5 ∧ n ≤ s.tick ∧ (s.src k).lastEvent = none ∧ s.pwr.suspended = false) ∧
    (let s : State := { wSrc 3 { cfgs := [{ kind := 6, input := 2 }] } with twin := { peer := some default } };
      let q : Nat := 2;
      let k : Nat := 3;
      let posTick : Nat := 100000000000;
      let posFine : Nat := 9;
      let c : SrcCfg := { kind := 6, input := 2 };
      s.Sized ∧ s.paired = true ∧ (s.sourcesOf 6 posTick fun i => i == q) = [(k, c)] ∧ s.tick - 640000 ≤ posTick ∧ (s.src k).lastEvent = none ∧ s.pwr.suspended = false) ∧
    (let s : State := wConv.wr (Obj.TRIG_SRC_KIND 3) 7;
      let sess : Nat := 1;
      let tag : Nat := 7;
      let k : Nat := 3;
      s.Sized ∧ k < 32 ∧ s.serves sess tag (Obj.TRIG_SRC_FORCE k) 0 = true ∧ s.rd (Obj.TRIG_SRC_KIND k) = 7 ∧ ((∀ i, i < 32 → (s.src i).forced = [])) ∧ (s.src k).lastEvent = none ∧ s.pwr.suspended = false) := by
  refine ⟨⟨?_, ?_, ?_, ?_, ?_⟩, ⟨?_, ?_, ?_, ?_, ?_, ?_, ?_, ?_⟩, ⟨?_, ?_, ?_, ?_, ?_, ?_⟩, ⟨?_, ?_, ?_, ?_, ?_, ?_, ?_⟩⟩ <;> first | decide +kernel | (unfold State.Sized; decide +kernel) | rfl

theorem witness_SequencerCommands :
    (let s : State := (wConv.updSeqr 2 fun x => { x with pend := [wEv] }).wr (Obj.TRIG_SEQ_RUN 2) 1;
      let q : Nat := 2;
      let e : TEvent := wEv;
      let rest : List TEvent := [];
      s.Sized ∧ q < 16 ∧ ((∀ i, i < 32 → (s.src i).forced = [])) ∧ s.rd (Obj.TRIG_SEQ_RUN q) = 1 ∧ (s.seqr q).pend = e :: rest ∧ e.pos ≤ min (s.seqLimit 16 q) (s.trigCap ⟨.sequencer, q⟩)) ∧
    (let s : State := (wConv.updSeqr 2 fun x => { x with timers := [none, some 70000, none, none] }).wrAll [(Obj.TRIG_SEQ_RUN 2, 1), (Obj.TRIG_TMR_MODE 2 1, 1), (Obj.TRIG_TMR_PERIOD 2 1, 50)];
      let q : Nat := 2;
      let j : Nat := 1;
      let e : Nat := 70000;
      s.Sized ∧ q < 16 ∧ j < 4 ∧ at' (s.seqr q).timers j = some e ∧ s.rd (Obj.TRIG_SEQ_RUN q) = 1 ∧ e ≤ posOf s.tick) ∧
    (let s : State := wConv.wrAll [(Obj.TRIG_SEQ_RUN 2, 2), (Obj.TRIG_SEQ_INIT 2, 3)];
      let sess : Nat := 1;
      let tag : Nat := 7;
      let q : Nat := 2;
      q < 16 ∧ s.serves sess tag (Obj.TRIG_SEQ_REARM q) 1 = true ∧ s.rd (Obj.TRIG_SEQ_RUN q) = 2) ∧
    (let s : State := wConv.wr (Obj.TRIG_SEQ_RUN 2) 1;
      let sess : Nat := 1;
      let tag : Nat := 7;
      let q : Nat := 2;
      s.Sized ∧ q < 16 ∧ s.serves sess tag (Obj.TRIG_SEQ_REARM q) 1 = true ∧ s.rd (Obj.TRIG_SEQ_RUN q) = 1) ∧
    (let s : State := wDue 4 ⟨.sequencer, 2⟩ [(Obj.TRIG_SEQ_ENABLE 2, 1)];
      let sess : Nat := 1;
      let q : Nat := 2;
      let b : Nat := 100;
      let w : Swap := wSwap 4 ⟨.sequencer, 2⟩ [(Obj.TRIG_SEQ_ENABLE 2, 1)];
      s.Sized ∧ q < 16 ∧ s.trigChanges sess = [⟨.sequencer, q⟩] ∧ s.due 4 ⟨.sequencer, q⟩ = some (w, b) ∧ s.trigReady ⟨.sequencer, q⟩ b = true) := by
  refine ⟨⟨?_, ?_, ?_, ?_, ?_, ?_⟩, ⟨?_, ?_, ?_, ?_, ?_, ?_⟩, ⟨?_, ?_, ?_⟩, ⟨?_, ?_, ?_, ?_⟩, ⟨?_, ?_, ?_, ?_, ?_⟩⟩ <;> first | decide +kernel | (unfold State.Sized; decide +kernel) | rfl

theorem witness_GroupCommands :
    (let s : State := wConv.wr (Obj.TRIG_GRP_ENABLE 1) 1;
      let sess : Nat := 1;
      let tag : Nat := 7;
      let g : Nat := 1;
      s.Sized ∧ g < 4 ∧ s.serves sess tag (Obj.TRIG_GRP_ARM g) 1 = true ∧ s.rdB (Obj.TRIG_GRP_ENABLE g) = true) ∧
    (let s : State := wConv.wr (Obj.TRIG_GRP_ENABLE 1) 1;
      let sess : Nat := 1;
      let tag : Nat := 7;
      let g : Nat := 1;
      s.Sized ∧ g < 4 ∧ s.serves sess tag (Obj.TRIG_GRP_DISARM g) 1 = true ∧ s.rdB (Obj.TRIG_GRP_ENABLE g) = true) ∧
    (let s : State := (wConv.updGrp 1 fun x => { x with items := [⟨6, 0, 0, default⟩] }).wr (Obj.TRIG_GRP_ENABLE 1) 1;
      let g : Nat := 1;
      let i : GrpItem := ⟨6, 0, 0, default⟩;
      s.Sized ∧ g < 4 ∧ (s.grp g).items = [i] ∧ i.what = 0 ∧ s.rdB (Obj.TRIG_GRP_ENABLE g) = true ∧ i.pos ≤ min (s.grpHorizon g) (s.trigCap ⟨.group, g⟩)) ∧
    (let s : State := (wConv.updGrp 1 fun x => { x with armed := true, items := [⟨65536, 2, 3, default⟩] }).wr (Obj.TRIG_GRP_ENABLE 1) 1;
      let g : Nat := 1;
      let i : GrpItem := ⟨65536, 2, 3, default⟩;
      s.Sized ∧ g < 4 ∧ (s.grp g).items = [i] ∧ i.what = 2 ∧ (s.grp g).armed = true ∧ s.rdB (Obj.TRIG_GRP_ENABLE g) = true ∧ i.pos ≤ min (s.grpHorizon g) (s.trigCap ⟨.group, g⟩)) := by
  refine ⟨⟨?_, ?_, ?_, ?_⟩, ⟨?_, ?_, ?_, ?_⟩, ⟨?_, ?_, ?_, ?_, ?_, ?_⟩, ⟨?_, ?_, ?_, ?_, ?_, ?_, ?_⟩⟩ <;> first | decide +kernel | (unfold State.Sized; decide +kernel) | rfl

theorem witness_OutputAndCaptureCommands :
    (let s : State := (wConv.updOut 2 fun x => { x with high := true }).wr Obj.DEV_STATE 1;
      let n : Nat := 2;
      (s.rd Obj.DEV_STATE < 2 ∨ s.isStandby = true ∨ s.pwr.suspended = true)) ∧
    (let s : State := wConv;
      let n : Nat := 2;
      2 ≤ s.rd Obj.DEV_STATE ∧ s.isStandby = false ∧ s.pwr.suspended = false) ∧
    (let s : State := (wConv.updOut 2 fun x => { x with queue := [(50, 10)] }).wr (Obj.TRIG_OUT_MODE 2) 1;
      let n : Nat := 2;
      let l : Nat := 50;
      let w : Nat := 10;
      let rest : List (Nat × Nat) := [];
      s.Sized ∧ n < 4 ∧ (s.outPin n).queue = (l, w) :: rest ∧ s.launchAt l = l ∧ l ≤ s.tick ∧ s.masterLocked = true ∧ s.rd (Obj.TRIG_OUT_MODE n) = 1) ∧
    (let s : State := (wConv.updOut 2 fun x => { x with high := true, until_ := 50 }).wr (Obj.TRIG_OUT_MODE 2) 1;
      let n : Nat := 2;
      s.Sized ∧ n < 4 ∧ s.rd (Obj.TRIG_OUT_MODE n) = 1 ∧ (s.outPin n).high = true ∧ (s.outPin n).until_ ≤ s.tick) ∧
    (let s : State := (wConv.updOut 2 fun x => { x with high := true, until_ := 50 }).wr (Obj.TRIG_OUT_MODE 2) 1;
      let sess : Nat := 1;
      let tag : Nat := 7;
      let n : Nat := 2;
      let v : Nat := 0;
      s.Sized ∧ n < 4 ∧ s.serves sess tag (Obj.TRIG_OUT_MODE n) v = true) ∧
    (let s : State := wConv.updLoad 5 fun x => { x with staged := [(1, 9)] };
      let sess : Nat := 1;
      let tag : Nat := 7;
      let m : Nat := 5;
      let v : Nat := 8;
      s.Sized ∧ m < 16 ∧ s.serves sess tag (Obj.TRIG_MASK_SEGS m) v = true ∧ s.swapHolds sess 4 = false) ∧
    (let s : State := wConv;
      let sess : Nat := 1;
      let tag : Nat := 7;
      let m : Nat := 5;
      let v : Nat := 281474976710656 + 77;
      s.Sized ∧ m < 16 ∧ s.serves sess tag (Obj.TRIG_MASK_WRITE m) v = true ∧ s.swapHolds sess 4 = false ∧ v / 2 ^ 48 % 4 ≠ 3 ∧ v / 2 ^ 36 % 2 ^ 11 < s.staging sess (Obj.TRIG_MASK_SEGS m)) ∧
    (let s : State := wConv.wr (Obj.TRIG_CAP_ENABLE 1) 1;
      let sess : Nat := 1;
      let tag : Nat := 7;
      let u : Nat := 1;
      s.Sized ∧ u < 4 ∧ s.serves sess tag (Obj.TRIG_CAP_ARM u) 1 = true ∧ s.rdB (Obj.TRIG_CAP_ENABLE u) = true) ∧
    (let s : State := wConv.wrAll [(Obj.TRIG_CAP_STATE 1, 1)];
      let u : Nat := 1;
      s.rd (Obj.TRIG_CAP_STATE u) = 1 ∧ (s.cap u).threshold ≤ s.tick) ∧
    (let s : State := (wConv.updCap 1 fun x => { x with segs := [⟨markRecord 5 0 0 0 0 {}, 100, 0⟩] }).wrAll [(Obj.RSV_HIST_NEWEST 0, 1000000)];
      let u : Nat := 1;
      let bad : List Nat := [];
      let g : CapSeg := ⟨markRecord 5 0 0 0 0 {}, 100, 0⟩;
      let rest : List CapSeg := [];
      s.Sized ∧ u < 4 ∧ (s.cap u).segs = g :: rest ∧ (g.t / s.capStep u - s.rd (Obj.TRIG_CAP_PRE u) + s.rd (Obj.TRIG_CAP_LEN u) - 1) * s.capStep u ≤ s.rd (Obj.RSV_HIST_NEWEST (s.rd (Obj.TRIG_CAP_TUNER u))) ∧ s.rd (Obj.RSV_HIST_STATE (s.rd (Obj.TRIG_CAP_TUNER u))) ≠ 2 ∧ s.mayAsk (s.linePch (s.physLine (s.rd (Obj.TRIG_CAP_TUNER u)) ((g.t / s.capStep u - s.rd (Obj.TRIG_CAP_PRE u)) / 64))) (captureRq u) = true) := by
  refine ⟨?_, ⟨?_, ?_, ?_⟩, ⟨?_, ?_, ?_, ?_, ?_, ?_, ?_⟩, ⟨?_, ?_, ?_, ?_, ?_⟩, ⟨?_, ?_, ?_⟩, ⟨?_, ?_, ?_, ?_⟩, ⟨?_, ?_, ?_, ?_, ?_, ?_⟩, ⟨?_, ?_, ?_, ?_⟩, ⟨?_, ?_⟩, ⟨?_, ?_, ?_, ?_, ?_, ?_⟩⟩ <;> first | decide +kernel | (unfold State.Sized; decide +kernel) | rfl

theorem witness_PlaneCommands :
    (let s : State := (wConv.updPlane 3 fun x => { x with next := 4194304, sets := [⟨5, 0, List.replicate 2048 0⟩] }).wrAll [(Obj.CRYS_ENABLE 3, 1), (Obj.CRYS_COLS 3, 2048)];
      let p : Nat := 3;
      let x : ColSet := ⟨5, 0, List.replicate 2048 0⟩;
      let rest : List ColSet := [];
      s.Sized ∧ p < 8 ∧ (s.plane p).sets = x :: rest ∧ x.label < (s.plane p).next ∧ s.rdB (Obj.CRYS_ENABLE p) = true ∧ x.cols.length = s.rd (Obj.CRYS_COLS p)) ∧
    (let s : State := (wConv.updPlane 3 fun x => { x with next := 4194304 }).wrAll [(Obj.CRYS_ENABLE 3, 1)];
      let p : Nat := 3;
      let b : Nat := 4194304;
      s.Sized ∧ p < 8 ∧ s.planeNext p = some b ∧ s.planeReady p b = true ∧ s.due 5 ⟨.plane, p⟩ = none ∧ ((∀ c, c < 32 → s.rd (Obj.XFM_STATE c) ≠ 4))) ∧
    (let s : State := wConv.updPlane 3 fun x => { x with reading := some { b := 4194304, rows := 4, cols := 3 } };
      let p : Nat := 3;
      let h : Harvest := { b := 4194304, rows := 4, cols := 3 };
      s.Sized ∧ p < 8 ∧ (s.plane p).reading = some h) ∧
    (let s : State := wConv;
      let sess : Nat := 1;
      let tag : Nat := 7;
      let p : Nat := 3;
      s.Sized ∧ p < 8 ∧ s.serves sess tag (Obj.CRYS_CLEAR p) 1 = true ∧ (s.plane p).clearAt.contains s.nextGrid = false) ∧
    (let s : State := wConv;
      let sess : Nat := 1;
      let tag : Nat := 7;
      let p : Nat := 3;
      s.Sized ∧ p < 8 ∧ s.serves sess tag (Obj.CRYS_HARV_CMD p) 1 = true ∧ (s.plane p).reading = none ∧ (s.plane p).harvAt = none) := by
  refine ⟨⟨?_, ?_, ?_, ?_, ?_, ?_⟩, ⟨?_, ?_, ?_, ?_, ?_, ?_⟩, ⟨?_, ?_, ?_⟩, ⟨?_, ?_, ?_, ?_⟩, ⟨?_, ?_, ?_, ?_, ?_⟩⟩ <;> first | decide +kernel | (unfold State.Sized; decide +kernel) | rfl

theorem witness_RingsAndReplay :
    (let s : State := (wRsv [(Obj.RSV_HIST_STATE 3, 1), (Obj.RSV_HIST_PANS 3, 1)]).updRing 3 fun x => { x with buf := [wLine], step := 2 };
      let h : Nat := 3;
      let l : Line := wLine;
      let rest : List Line := [];
      s.Sized ∧ h < 20 ∧ s.rd (Obj.RSV_HIST_STATE h) = 1 ∧ s.rd Obj.RSV_STATE = 2 ∧ (s.ring h).buf = l :: rest ∧ l.n ≤ 1 ∧ (((s.pch (s.linePch (s.physLine h l.no))).failed = true ∨ s.hasPlace (s.linePch (s.physLine h l.no)) 1 = true))) ∧
    (let s : State := (wDue 6 ⟨.ring, 3⟩ [(Obj.RSV_HIST_ENABLE 3, 1)]).wr Obj.RSV_PANS_TOTAL 910;
      let h : Nat := 3;
      let b : Nat := 100;
      let w : Swap := wSwap 6 ⟨.ring, 3⟩ [(Obj.RSV_HIST_ENABLE 3, 1)];
      s.Sized ∧ h < 20 ∧ s.due 6 ⟨.ring, h⟩ = some (w, b)) ∧
    (let s : State := wDue 6 ⟨.replay, 3⟩ [(Obj.RSV_RPL_RATE 3, 1000)];
      let x : Nat := 3;
      let b : Nat := 100;
      let w : Swap := wSwap 6 ⟨.replay, 3⟩ [(Obj.RSV_RPL_RATE 3, 1000)];
      x < 16 ∧ s.due 6 ⟨.replay, x⟩ = some (w, b)) ∧
    (let s : State := wRsv [(Obj.RSV_RPL_STATE 2, 1), (Obj.RSV_RPL_RATE 2, 1000000), (Obj.RSV_RPL_FIRST 2, 1000), (Obj.RSV_RPL_LAST 2, 1000), (Obj.RSV_HIST_NEWEST 0, 5000), (Obj.RSV_HIST_OLDEST 0, 10), (Obj.RSV_HIST_SPAN 0, 1000000)];
      let sess : Nat := 1;
      let tag : Nat := 7;
      let x : Nat := 2;
      s.Sized ∧ x < 16 ∧ s.serves sess tag (Obj.RSV_RPL_CMD x) 1 = true ∧ s.rd (Obj.RSV_RPL_STATE x) ≠ 2 ∧ s.rd (Obj.RSV_RPL_RATE x) ≠ 0 ∧ s.rd (Obj.RSV_RPL_FIRST x) ≤ s.rd (Obj.RSV_RPL_LAST x) ∧ s.rd (Obj.RSV_RPL_LAST x) ≤ s.rd (Obj.RSV_HIST_NEWEST (s.rd (Obj.RSV_RPL_RING x))) + s.rd (Obj.RSV_HIST_SPAN (s.rd (Obj.RSV_RPL_RING x))) ∧ s.rd (Obj.RSV_HIST_OLDEST (s.rd (Obj.RSV_RPL_RING x))) ≤ s.rd (Obj.RSV_RPL_FIRST x) ∧ 0 < s.replayMargin x) ∧
    (let s : State := wRsv [(Obj.RSV_RPL_STATE 2, 2)];
      let sess : Nat := 1;
      let tag : Nat := 7;
      let x : Nat := 2;
      s.Sized ∧ x < 16 ∧ s.serves sess tag (Obj.RSV_RPL_CMD x) 2 = true ∧ s.rd (Obj.RSV_RPL_STATE x) = 2) ∧
    (let s : State := (wRsv [(Obj.RSV_RPL_STATE 2, 2), (Obj.RSV_HIST_NEWEST 0, 5000)]).updReplay 2 fun x => { x with last := 4000 };
      let x : Nat := 2;
      let bad : Bool := false;
      s.Sized ∧ x < 16 ∧ s.rd (Obj.RSV_RPL_STATE x) = 2 ∧ (s.replay x).nextAt ≤ s.wall ∧ (s.replay x).aborting = false ∧ min (s.replay x).last ((s.replay x).at_ * 64 * s.ringStep (s.rd (Obj.RSV_RPL_RING x)) + 63 * s.ringStep (s.rd (Obj.RSV_RPL_RING x))) ≤ s.rd (Obj.RSV_HIST_NEWEST (s.rd (Obj.RSV_RPL_RING x))) ∧ ((s.replay x).at_ + 1) * 64 * s.ringStep (s.rd (Obj.RSV_RPL_RING x)) ≤ (s.replay x).last ∧ s.rd (Obj.RSV_HIST_STATE (s.rd (Obj.RSV_RPL_RING x))) ≠ 2 ∧ s.mayAsk (s.linePch (s.physLine (s.rd (Obj.RSV_RPL_RING x)) (s.replay x).at_)) (replayRq x) = true) ∧
    (let s : State := (wRsv [(Obj.RSV_RPL_STATE 2, 2)]).updReplay 2 fun x => { x with last := 4000, aborting := true };
      let x : Nat := 2;
      let bad : Bool := false;
      s.Sized ∧ x < 16 ∧ s.rd (Obj.RSV_RPL_STATE x) = 2 ∧ (s.replay x).aborting = true ∧ (s.replay x).cut = []) := by
  refine ⟨⟨?_, ?_, ?_, ?_, ?_, ?_, ?_⟩, ⟨?_, ?_, ?_⟩, ⟨?_, ?_⟩, ⟨?_, ?_, ?_, ?_, ?_, ?_, ?_, ?_, ?_⟩, ⟨?_, ?_, ?_, ?_⟩, ⟨?_, ?_, ?_, ?_, ?_, ?_, ?_, ?_, ?_⟩, ⟨?_, ?_, ?_, ?_, ?_⟩⟩ <;> first | decide +kernel | (unfold State.Sized; decide +kernel) | rfl

theorem witness_PseudoChannelCommands :
    (let s : State := (wQuiet (wRsv [])).updPch 5 fun x => { x with queue := [wRq] };
      let k : Nat := 5;
      let bank : Nat := 1;
      let row : Nat := 2;
      let addr : Nat := 3;
      let corrected : Nat := 0;
      let q : Rq := wRq;
      s.Sized ∧ k < 128 ∧ (s.pch k).failed = false ∧ s.rsvUp = true ∧ (s.pch k).waiting = [] ∧ s.nextRq k = some q ∧ q.cls ≠ 2) ∧
    (let s : State := { (wQuiet (wRsv [(Obj.SCAN_VACTIVE, 4), (Obj.SCAN_L_ENABLE 0, 1), (Obj.SCAN_TOL_LINES, 2)])).updPch 5 fun x => { x with queue := [wScanRq] } with scan := { sending := true } };
      let k : Nat := 5;
      let bank : Nat := 1;
      let row : Nat := 2;
      let addr : Nat := 3;
      let corrected : Nat := 0;
      let q : Rq := wScanRq;
      s.Sized ∧ k < 128 ∧ ((∀ p ∈ s.rsv.pch, p.failed = false)) ∧ s.rsvUp = true ∧ (s.pch k).waiting = [] ∧ s.nextRq k = some q ∧ q.cls = 2) ∧
    (let s : State := wRsv [];
      let stack : Nat := 2;
      let temp : Int := 30000;
      s.Sized ∧ s.rsvUp = true ∧ stack < 4 ∧ stack < s.rsv.refreshAt.length ∧ at' s.rsv.refreshAt stack ≤ s.wall ∧ s.panic2 = false ∧ ((∀ j, j < 32 → s.panicWaits (stack * 32 + j) = false))) ∧
    (let s : State := wRsv [(Obj.RSV_IDLE_PD, 100)];
      let k : Nat := 5;
      s.Sized ∧ s.rsvUp = true ∧ k < 128 ∧ s.rd Obj.RSV_IDLE_PD ≠ 0 ∧ (s.pch k).queue = [] ∧ (s.pch k).idleSince + s.rd Obj.RSV_IDLE_PD * 32 ≤ s.wall) ∧
    (let s : State := wRsv [(Obj.RSV_RETRAIN_PERIOD, 1)];
      let k : Nat := 5;
      let ok : Bool := false;
      s.Sized ∧ s.rsvUp = true ∧ k < 128 ∧ (s.pch k).failed = false ∧ (s.pch k).retrainAt + s.rd Obj.RSV_RETRAIN_PERIOD * 32000000 ≤ s.wall ∧ s.panic2 = false ∧ s.panicWaits k = false) ∧
    (let s : State := wRsv [(Obj.RSV_SCRUB_PERIOD, 24)];
      let k : Nat := 127;
      let addr : Nat := 3;
      let corrected : Nat := 2;
      s.rsvUp = true ∧ s.rd Obj.RSV_SCRUB_PERIOD ≠ 0 ∧ s.rsv.scrubAt ≤ s.wall ∧ (s.pch k).failed = false ∧ s.panic2 = false ∧ s.nextRq k = none ∧ 0 < corrected) ∧
    (let s : State := { wConv.wr Obj.RSV_STATE 1 with start := { tested := true } };
      s.Sized ∧ s.rd Obj.RSV_STATE = 1 ∧ s.start.tested = true ∧ s.pwr.step ≠ 6 ∧ ((∀ k, k < 128 → (s.pch k).failed = false))) := by
  refine ⟨⟨?_, ?_, ?_, ?_, ?_, ?_, ?_⟩, ⟨?_, ?_, ?_, ?_, ?_, ?_, ?_⟩, ⟨?_, ?_, ?_, ?_, ?_, ?_, ?_⟩, ⟨?_, ?_, ?_, ?_, ?_, ?_⟩, ⟨?_, ?_, ?_, ?_, ?_, ?_, ?_⟩, ⟨?_, ?_, ?_, ?_, ?_, ?_, ?_⟩, ⟨?_, ?_, ?_, ?_, ?_⟩⟩ <;> first | decide +kernel | (unfold State.Sized; decide +kernel) | rfl

theorem witness_MoverCommands :
    (let s : State := wConv.wr (Obj.DEV_QUOTA_MOVERS 1) 4;
      let sess : Nat := 1;
      let tag : Nat := 7;
      let m : Nat := 40;
      32 ≤ m ∧ m < 96 ∧ s.serves sess tag (Obj.MOVE_CLAIM m) 1 = true ∧ s.holder ⟨.mover, m⟩ = none ∧ s.heldOf .mover sess < s.rd (Obj.DEV_QUOTA_MOVERS sess)) ∧
    (let s : State := wMover [];
      let sess : Nat := 1;
      let tag : Nat := 7;
      let m : Nat := 40;
      32 ≤ m ∧ m < 96 ∧ s.serves sess tag (Obj.MOVE_CLAIM m) 2 = true ∧ s.holder ⟨.mover, m⟩ = some sess ∧ s.rd (Obj.MOVE_STATE m) = 1) ∧
    (let s : State := wMover [];
      let sess : Nat := 1;
      let tag : Nat := 7;
      let m : Nat := 40;
      let v : Nat := 3 * 1099511627776 + 2 * 68719476736 + 9;
      s.Sized ∧ 32 ≤ m ∧ m < 96 ∧ s.serves sess tag (Obj.MOVE_DESC_WRITE m) v = true ∧ s.rd (Obj.MOVE_STATE m) = 1) ∧
    (let s : State := wMover [];
      let sess : Nat := 1;
      let tag : Nat := 7;
      let m : Nat := 40;
      s.Sized ∧ 32 ≤ m ∧ m < 96 ∧ s.serves sess tag (Obj.MOVE_CMD m) 1 = true ∧ s.rd (Obj.MOVE_STATE m) = 1 ∧ ((∀ i ∈ (s.mover m).reach 16 [] (s.rd (Obj.MOVE_START m)), s.slotOk sess m i = true))) ∧
    (let s : State := (wMover []).updMover 5 fun x => { x with slots := [(0, 5 * 2 ^ 32 + 5 * 2 ^ 28 + 256), (2, 64), (3, 4), (5, 77)] };
      let tag : Nat := 7;
      let m : Nat := 5;
      s.Sized ∧ m < 32 ∧ s.rd (Obj.MOVE_STATE m) = 0 ∧ ((∀ i ∈ (s.mover m).reach 16 [] (s.rd (Obj.MOVE_START m)), s.slotOk 254 m i = true))) ∧
    (let s : State := (wMover [(Obj.MOVE_STATE 40, 2)]).updMover 40 fun x => { x with beat := 2 };
      let sess : Nat := 1;
      let tag : Nat := 7;
      let m : Nat := 40;
      let beats : Nat := 2;
      s.Sized ∧ 32 ≤ m ∧ m < 96 ∧ s.serves sess tag (Obj.MOVE_CMD m) 2 = true ∧ s.rd (Obj.MOVE_STATE m) = 2 ∧ (s.mover m).beat < (s.curDesc m).count ∧ beats ≤ (s.mover m).beat) ∧
    (let s : State := wMover [(Obj.MOVE_STATE 40, 2)];
      let sess : Nat := 1;
      let tag : Nat := 7;
      let m : Nat := 40;
      let beats : Nat := 2;
      s.Sized ∧ 32 ≤ m ∧ m < 96 ∧ s.serves sess tag (Obj.MOVE_CMD m) 2 = true ∧ s.rd (Obj.MOVE_STATE m) = 2 ∧ (s.mover m).beat < beats) ∧
    (let s : State := wMover [(Obj.MOVE_STATE 40, 4), (Obj.MOVE_ERR_BEATS 40, 2)];
      let sess : Nat := 1;
      let tag : Nat := 7;
      let m : Nat := 40;
      s.Sized ∧ 32 ≤ m ∧ m < 96 ∧ s.serves sess tag (Obj.MOVE_CMD m) 3 = true ∧ s.rd (Obj.MOVE_STATE m) = 4) ∧
    (let s : State := wMover [(Obj.MOVE_STATE 40, 4)];
      let sess : Nat := 1;
      let tag : Nat := 7;
      let m : Nat := 40;
      s.Sized ∧ 32 ≤ m ∧ m < 96 ∧ s.serves sess tag (Obj.MOVE_CMD m) 4 = true ∧ s.rd (Obj.MOVE_STATE m) = 4) ∧
    (let s : State := wMover [(Obj.MOVE_STATE 40, 3)];
      let sess : Nat := 1;
      let tag : Nat := 7;
      let m : Nat := 40;
      let beats : Nat := 0;
      32 ≤ m ∧ m < 96 ∧ s.serves sess tag (Obj.MOVE_CMD m) 5 = true ∧ s.rd (Obj.MOVE_STATE m) = 3) ∧
    (let s : State := wMover [(Obj.MOVE_STATE 40, 3)];
      let sess : Nat := 1;
      let tag : Nat := 7;
      let m : Nat := 40;
      32 ≤ m ∧ m < 96 ∧ s.serves sess tag (Obj.MOVE_CMD m) 6 = true ∧ s.rd (Obj.MOVE_STATE m) = 3) := by
  refine ⟨⟨?_, ?_, ?_, ?_, ?_⟩, ⟨?_, ?_, ?_, ?_, ?_⟩, ⟨?_, ?_, ?_, ?_, ?_⟩, ⟨?_, ?_, ?_, ?_, ?_, ?_⟩, ⟨?_, ?_, ?_, ?_⟩, ⟨?_, ?_, ?_, ?_, ?_, ?_, ?_⟩, ⟨?_, ?_, ?_, ?_, ?_, ?_⟩, ⟨?_, ?_, ?_, ?_, ?_⟩, ⟨?_, ?_, ?_, ?_, ?_⟩, ⟨?_, ?_, ?_, ?_⟩, ⟨?_, ?_, ?_, ?_⟩⟩ <;> first | decide +kernel | (unfold State.Sized; decide +kernel) | rfl

theorem witness_MoverEvents :
    (let s : State := wMover [(Obj.MOVE_STATE 40, 2)];
      let m : Nat := 40;
      s.Sized ∧ 32 ≤ m ∧ m < 96 ∧ s.rd (Obj.MOVE_STATE m) = 2 ∧ s.goneDir m = none ∧ (s.mover m).halt = none ∧ ((∀ p ∈ s.rsv.pch, p.failed = false)) ∧ (s.mover m).beat ≤ (s.curDesc m).count ∧ s.beatsReady m ((s.curDesc m).count - (s.mover m).beat) = (s.curDesc m).count - (s.mover m).beat ∧ (s.curDesc m).last = true ∧ (s.curDesc m).notify = false) ∧
    (let s : State := (wMover [(Obj.MOVE_STATE 40, 2)]).updMover 40 fun x => { x with halt := some 3 };
      let m : Nat := 40;
      let b : Nat := 3;
      s.Sized ∧ 32 ≤ m ∧ m < 96 ∧ s.rd (Obj.MOVE_STATE m) = 2 ∧ s.goneDir m = none ∧ (s.mover m).halt = some b ∧ ((∀ p ∈ s.rsv.pch, p.failed = false)) ∧ (s.mover m).beat ≤ b ∧ b < (s.curDesc m).count ∧ s.beatsReady m (b - (s.mover m).beat) = b - (s.mover m).beat) ∧
    (let s : State := wMover [(Obj.MOVE_STATE 40, 2)];
      let m : Nat := 40;
      let beat : Nat := 2;
      s.Sized ∧ 32 ≤ m ∧ m < 96 ∧ s.rd (Obj.MOVE_STATE m) = 2 ∧ (s.mover m).beat ≤ beat ∧ beat < (s.curDesc m).count ∧ beat - (s.mover m).beat < s.beatsReady m ((s.curDesc m).count - (s.mover m).beat)) ∧
    (let s : State := (wMover [(Obj.MOVE_STATE 5, 2)]).updMover 5 fun x => { x with slots := [(0, 5 * 2 ^ 32 + 5 * 2 ^ 28 + 256), (2, 64), (3, 4), (5, 77)] };
      let m : Nat := 5;
      let beat : Nat := 2;
      s.Sized ∧ m < 32 ∧ s.rd (Obj.MOVE_STATE m) = 2 ∧ (s.mover m).beat ≤ beat ∧ beat < (s.curDesc m).count ∧ beat - (s.mover m).beat < s.beatsReady m ((s.curDesc m).count - (s.mover m).beat) ∧ (s.mover m).retried = false) ∧
    (let s : State := (wDue 7 ⟨.mover, 40⟩ [(Obj.MOVE_BUF_LOG2 40, 12)]).wr (Obj.MOVE_STATE 40) 1;
      let m : Nat := 40;
      let b : Nat := 100;
      let w : Swap := wSwap 7 ⟨.mover, 40⟩ [(Obj.MOVE_BUF_LOG2 40, 12)];
      32 ≤ m ∧ m < 96 ∧ s.due 7 ⟨.mover, m⟩ = some (w, b) ∧ s.rd (Obj.MOVE_STATE m) ≠ 2 ∧ s.rd (Obj.MOVE_STATE m) ≠ 0 ∧ w.vals = [(Obj.MOVE_BUF_LOG2 m, w.value s (Obj.MOVE_BUF_LOG2 m))] ∧ s.rd (Obj.MOVE_BUF_LOG2 m) ≠ w.value s (Obj.MOVE_BUF_LOG2 m)) := by
  refine ⟨⟨?_, ?_, ?_, ?_, ?_, ?_, ?_, ?_, ?_, ?_, ?_⟩, ⟨?_, ?_, ?_, ?_, ?_, ?_, ?_, ?_, ?_, ?_⟩, ⟨?_, ?_, ?_, ?_, ?_, ?_, ?_⟩, ⟨?_, ?_, ?_, ?_, ?_, ?_, ?_⟩, ⟨?_, ?_, ?_, ?_, ?_, ?_, ?_⟩⟩ <;> first | decide +kernel | (unfold State.Sized; decide +kernel) | rfl

theorem witness_PortsAndNeighbours :
    (let s : State := wPort [];
      let sess : Nat := 1;
      let tag : Nat := 7;
      let k : Nat := Obj.PORT_IP4 3;
      let v : Nat := 5;
      isPortKey k = true ∧ s.serves sess tag k v = true ∧ (portGuarded k (portOf k) v && s.portNamed (portOf k)) = false ∧ k ≠ Obj.PORT_ENABLE (portOf k) ∧ ((k = Obj.PORT_MEDIA (portOf k) → s.portUp (portOf k) = true → v = 0 ∨ v = s.rd (Obj.PORT_MEDIA_ACTIVE (portOf k))))) ∧
    (let s : State := wPort [];
      let sess : Nat := 1;
      let tag : Nat := 7;
      let p : Nat := 3;
      let v : Nat := 2;
      p < 28 ∧ s.serves sess tag (Obj.PORT_MEDIA p) v = true ∧ s.portNamed p = false ∧ s.rd (Obj.PORT_STATE p) = 3 ∧ v ≠ 0 ∧ v ≠ s.rd (Obj.PORT_MEDIA_ACTIVE p)) ∧
    (let s : State := wConv;
      let sess : Nat := 1;
      let tag : Nat := 7;
      let p : Nat := 3;
      let v : Nat := 1;
      p < 28 ∧ s.serves sess tag (Obj.PORT_ENABLE p) v = true ∧ (v = 0 → s.portNamed p = false) ∧ s.rd (Obj.PORT_STATE p) ≠ 5) ∧
    (let s : State := wFlow {} [];
      let sess : Nat := 1;
      let tag : Nat := 7;
      let k : Nat := Obj.PORT_IP4 3;
      let v : Nat := 5;
      isPortKey k = true ∧ s.serves sess tag k v = true ∧ portGuarded k (portOf k) v = true ∧ s.portNamed (portOf k) = true) ∧
    (let s : State := wConv.wrAll [(Obj.PORT_ENABLE 3, 1), (Obj.PORT_STATE 3, 2), (Obj.PORT_MEDIA 3, 0)];
      let p : Nat := 3;
      let media : Nat := 1;
      p < 28 ∧ s.rdB (Obj.PORT_ENABLE p) = true ∧ s.rd (Obj.PORT_STATE p) ∉ [0, 3, 5] ∧ s.rd Obj.DEV_STATE ≠ 0 ∧ s.portPowered p = true) ∧
    (let s : State := wPort [];
      let p : Nat := 3;
      p < 28 ∧ s.rd (Obj.PORT_STATE p) = 3) ∧
    (let s : State := wPort [];
      let p : Nat := 3;
      let ip : Nat := 9;
      let mac : Nat := 55;
      s.Sized ∧ p < 28 ∧ s.rd (Obj.PORT_STATE p) = 3 ∧ ip ≠ 0 ∧ ip = s.rd (Obj.PORT_IP4 p)) ∧
    (let s : State := wPort [];
      let p : Nat := 3;
      let ip : Nat := 10;
      let mac : Nat := 55;
      s.Sized ∧ p < 28 ∧ s.rd (Obj.PORT_STATE p) = 3 ∧ ip ≠ 0 ∧ ip = s.rd (Obj.PORT_IP6 p)) ∧
    (let s : State := wPort [];
      let p : Nat := 3;
      let ip : Nat := 11;
      let mac : Nat := 55;
      ip ≠ s.rd (Obj.PORT_IP4 p)) := by
  refine ⟨⟨?_, ?_, ?_, ?_, ?_⟩, ⟨?_, ?_, ?_, ?_, ?_, ?_⟩, ⟨?_, ?_, ?_, ?_⟩, ⟨?_, ?_, ?_, ?_⟩, ⟨?_, ?_, ?_, ?_, ?_⟩, ⟨?_, ?_⟩, ⟨?_, ?_, ?_, ?_, ?_⟩, ⟨?_, ?_, ?_, ?_, ?_⟩, ?_⟩ <;> first | decide +kernel | (unfold State.Sized; decide +kernel) | rfl

theorem witness_FrameReception :
    (let s : State := wPort [];
      let p : Nat := 3;
      let f : RxFrame := { wRx 1 with dstMac := 5 };
      p < 28 ∧ s.rd (Obj.PORT_STATE p) = 3 ∧ (s.wr (Obj.PORT_RX_FRAMES p) ((s.rd (Obj.PORT_RX_FRAMES p) + 1) % 2 ^ 64)).rxDrops p f = true) ∧
    (let s : State := wPort [];
      let p : Nat := 3;
      let f : RxFrame := { wRx 1 with tagOk := false };
      p < 28 ∧ s.rd (Obj.PORT_STATE p) = 3 ∧ (s.wr (Obj.PORT_RX_FRAMES p) ((s.rd (Obj.PORT_RX_FRAMES p) + 1) % 2 ^ 64)).rxDrops p f = false ∧ f.tagOk = false) ∧
    (let s : State := wPort [];
      let p : Nat := 3;
      let f : RxFrame := wRx 1;
      s.Sized ∧ p < 28 ∧ s.rd (Obj.PORT_STATE p) = 3 ∧ (s.wr (Obj.PORT_RX_FRAMES p) ((s.rd (Obj.PORT_RX_FRAMES p) + 1) % 2 ^ 64)).rxDrops p f = false ∧ f.kind ≠ 4 ∧ f.tagOk = true ∧ f.epoch = s.rxEpoch f ∧ 249 ≤ f.flow ∧ 0 < f.session ∧ f.session < 8 ∧ (s.ses f.session).isOpen = true) ∧
    (let s : State := wRxq { wRx 1 with flow := 5, payload := [7, 8] } (wFlow {} [(Obj.FLOW_DIR 5, 1), (Obj.FLOW_RETAIN_LOG2 5, 12)]);
      let p : Nat := 3;
      let r : RxFrame := { wRx 1 with flow := 5, payload := [7, 8] };
      s.Sized ∧ p < 28 ∧ s.rxHead p 1 = some r ∧ r.flow < 249 ∧ s.rd (Obj.FLOW_DIR r.flow) = 1 ∧ s.rd (Obj.FLOW_STATE r.flow) = 2 ∧ r.seq = (s.flow r.flow).rxNext ∧ (s.flow r.flow).rxHeld = [] ∧ 0 < s.rxWindow r.flow) ∧
    (let s : State := wRxq { wRx 1 with flow := 5, seq := 9, payload := [7, 8] } (wFlow { rxNext := 10 } [(Obj.FLOW_DIR 5, 1), (Obj.FLOW_RETAIN_LOG2 5, 12)]);
      let p : Nat := 3;
      let r : RxFrame := { wRx 1 with flow := 5, seq := 9, payload := [7, 8] };
      s.Sized ∧ p < 28 ∧ s.rxHead p 1 = some r ∧ r.flow < 249 ∧ s.rd (Obj.FLOW_DIR r.flow) = 1 ∧ s.rd (Obj.FLOW_STATE r.flow) = 2 ∧ seqBefore r.seq (s.flow r.flow).rxNext = true) ∧
    (let s : State := wFlow { rxSince := some 5, rxPort := 3 } [];
      let f : Nat := 5;
      let w : Nat := 5;
      s.Sized ∧ f < 256 ∧ (s.flow f).rxSince = some w ∧ w + 100 * tpus ≤ s.wall ∧ (s.flow f).rxPort < 28) := by
  refine ⟨⟨?_, ?_, ?_⟩, ⟨?_, ?_, ?_, ?_⟩, ⟨?_, ?_, ?_, ?_, ?_, ?_, ?_, ?_, ?_, ?_, ?_⟩, ⟨?_, ?_, ?_, ?_, ?_, ?_, ?_, ?_, ?_⟩, ⟨?_, ?_, ?_, ?_, ?_, ?_, ?_⟩, ⟨?_, ?_, ?_, ?_, ?_⟩⟩ <;> first | decide +kernel | (unfold State.Sized; decide +kernel) | rfl

theorem witness_FramesAndEngineRecords :
    (let s : State := wFlow { tail := List.replicate 9 0, pos := 9 } [];
      let f : Nat := 5;
      s.Sized ∧ f < 249 ∧ s.flowRuns f = true ∧ s.isStandby = false ∧ s.frameWords f ≤ (s.flow f).tail.length ∧ ((∀ p ∈ s.rsv.pch, p.failed = false)) ∧ (s.rd (Obj.FLOW_SRC f) ∈ [1, 6, 7, 8] ∨ (s.flow f).frames = [] ∧ s.frameWords f ≤ 2 ^ s.rd (Obj.FLOW_RETAIN_LOG2 f) ∧ (s.flow f).pos ≤ 2 ^ s.rd (Obj.FLOW_RETAIN_LOG2 f))) ∧
    (let s : State := wConv.updSes 1 fun x => { x with txq := [default] };
      let f : Nat := 249;
      let d : Sys2Proof.Machine.Frame := default;
      let rest : List Sys2Proof.Machine.Frame := [];
      s.Sized ∧ 249 ≤ f ∧ f < 256 ∧ (s.ses (f - 248)).txq = d :: rest ∧ (s.flow f).frames.length < 64 ∧ s.handing = false) ∧
    (let s : State := wFlow { tail := [1, 2, 3], pos := 3, since := 5 } [];
      let f : Nat := 5;
      s.Sized ∧ f < 249 ∧ s.flowRuns f = true ∧ s.isStandby = false ∧ (s.flow f).tail ≠ [] ∧ (s.flow f).tail.length < s.frameWords f ∧ ((∀ p ∈ s.rsv.pch, p.failed = false)) ∧ (s.flow f).atBoundary = true ∧ (s.flow f).since + s.rd (Obj.FLOW_FLUSH f) * tpus ≤ s.wall ∧ (s.byReference f = true ∨ s.rd (Obj.FLOW_SRC f) = 8 ∨ (s.flow f).frames = [] ∧ (s.flow f).fillBeat.pos ≤ 2 ^ s.rd (Obj.FLOW_RETAIN_LOG2 f))) ∧
    (let s : State := { wFlow { anchorAt := 100 } [] with anchorAt := 100000000005 };
      let f : Nat := 5;
      s.Sized ∧ s.runningFlows = [f] ∧ secondDue (s.flow f).anchorAt s.tick = true ∧ s.isStandby = false ∧ s.twin.entered = [] ∧ (s.flow f).cut = [] ∧ (s.flow f).left = 0 ∧ (s.flow f).lost = [] ∧ (s.flow f).subst = false ∧ secondDue s.anchorAt s.tick = false ∧ s.pwr.cold = false) ∧
    (let s : State := wFlow { statusAt := 100 } [(Obj.FLOW_STATUS 5, 1)];
      let f : Nat := 5;
      s.Sized ∧ s.runningFlows = [f] ∧ s.statusDue f = true ∧ s.isStandby = false ∧ s.twin.entered = [] ∧ (s.flow f).cut = [] ∧ (s.flow f).left = 0 ∧ (s.flow f).lost = [] ∧ (s.flow f).subst = false) ∧
    (let s : State := { wFlow { custody := { on := true, records := 1 } } [(Obj.SEC_CUST_RECORDS 5, 1)] with signed := (wConv.wall, 3) };
      let f : Nat := 5;
      s.Sized ∧ f < 249 ∧ s.flowRuns f = true ∧ s.isStandby = false ∧ s.segmentDue f = true ∧ (s.flow f).cut = [] ∧ (s.flow f).left = 0 ∧ (s.flow f).lost = [] ∧ (s.flow f).subst = false ∧ s.signed.2 < 20000) := by
  refine ⟨⟨?_, ?_, ?_, ?_, ?_, ?_, ?_⟩, ⟨?_, ?_, ?_, ?_, ?_, ?_⟩, ⟨?_, ?_, ?_, ?_, ?_, ?_, ?_, ?_, ?_, ?_⟩, ⟨?_, ?_, ?_, ?_, ?_, ?_, ?_, ?_, ?_, ?_, ?_⟩, ⟨?_, ?_, ?_, ?_, ?_, ?_, ?_, ?_, ?_⟩, ⟨?_, ?_, ?_, ?_, ?_, ?_, ?_, ?_, ?_, ?_⟩⟩ <;> first | decide +kernel | (unfold State.Sized; decide +kernel) | rfl

theorem witness_Transmission :
    (let s : State := (wPort []).updPort 3 fun x => { x with replies := [(4, 8)] };
      let p : Nat := 3;
      let fam : Nat := 4;
      let mac : Nat := 8;
      let rest : List (Nat × Nat) := [];
      s.Sized ∧ p < 28 ∧ s.rd (Obj.PORT_STATE p) = 3 ∧ 2 ≤ s.rd Obj.DEV_STATE ∧ (s.port p).replies = (fam, mac) :: rest ∧ fam ≠ 2 ∧ ((∀ i, i < 8 → (s.ses i).closing = none)) ∧ s.txFill p + 64 * 84 ≤ 64 * 65536) ∧
    (let s : State := wFlow { frames := [wTx] } [];
      let p : Nat := 3;
      let f : Nat := 5;
      let fr : TxFrame := wTx;
      s.Sized ∧ p < 28 ∧ s.rd (Obj.PORT_STATE p) = 3 ∧ 2 ≤ s.rd Obj.DEV_STATE ∧ (s.port p).replies = [] ∧ s.peer p ≠ 0 ∧ s.rd Obj.TWIN_STATE = 0 ∧ s.controlFrames p = [] ∧ s.portRoom p = true ∧ oldestFrame false (s.dataFrames p false) = some (f, fr) ∧ fr.sent = 0 ∧ (s.flow f).frames = [fr] ∧ f < 249 ∧ s.txFill p + 64 * ((s.payload f fr).length + 154) ≤ 64 * 65536 ∧ ((∀ i, i < 8 → (s.ses i).closing = none))) ∧
    (let s : State := wFlow { frames := [wAct] } [(Obj.FLOW_TRY_MAX 5, 4)];
      let f : Nat := 5;
      let q : Nat := 4;
      let fr : TxFrame := wAct;
      s.Sized ∧ f < 249 ∧ (s.flow f).frames.find? (fun x => x.seq == q) = some fr ∧ fr.sent ≠ 0 ∧ fr.lastAt + s.rto f ≤ s.wall ∧ fr.sent ≤ s.rd (Obj.FLOW_TRY_MAX f) ∧ ((∀ p ∈ s.rsv.pch, p.failed = false))) ∧
    (let s : State := wFlow { frames := [wAct] } [(Obj.FLOW_TRY_MAX 5, 0)];
      let f : Nat := 5;
      let q : Nat := 4;
      let fr : TxFrame := wAct;
      s.Sized ∧ f < 249 ∧ (s.flow f).frames.find? (fun x => x.seq == q) = some fr ∧ fr.sent ≠ 0 ∧ fr.lastAt + s.rto f ≤ s.wall ∧ s.rd (Obj.FLOW_TRY_MAX f) < fr.sent ∧ s.rd (Obj.FLOW_SRC f) ≠ 8) ∧
    (let s : State := wFlow {} [];
      let f : Nat := 5;
      f < 249 ∧ s.rd (Obj.FLOW_STATE f) = 2 ∧ s.rd (Obj.FLOW_DIR f) = 0 ∧ s.pwr.suspended = false ∧ max (s.flow f).ackAt (s.flow f).liveAt + tps ≤ s.wall) := by
  refine ⟨⟨?_, ?_, ?_, ?_, ?_, ?_, ?_, ?_⟩, ⟨?_, ?_, ?_, ?_, ?_, ?_, ?_, ?_, ?_, ?_, ?_, ?_, ?_, ?_, ?_⟩, ⟨?_, ?_, ?_, ?_, ?_, ?_, ?_⟩, ⟨?_, ?_, ?_, ?_, ?_, ?_, ?_⟩, ⟨?_, ?_, ?_, ?_, ?_⟩⟩ <;> first | decide +kernel | (unfold State.Sized; decide +kernel) | rfl

theorem witness_Acknowledgements :
    (let s : State := wRxq { wRx 2 with flow := 5, seq := 3, payload := List.replicate 24 0 } (wFlow { frames := [wAct] } []);
      let p : Nat := 3;
      let r : RxFrame := { wRx 2 with flow := 5, seq := 3, payload := List.replicate 24 0 };
      s.Sized ∧ p < 28 ∧ s.rxHead p 2 = some r ∧ r.flow < 249 ∧ s.flowSends r.flow = true ∧ (((s.flow r.flow).ackSeq = 0 ∨ seqBefore ((s.flow r.flow).ackSeq - 1) r.seq = true)) ∧ ((∀ p ∈ s.rsv.pch, p.failed = false))) ∧
    (let s : State := wRxq { wRx 2 with flow := 5, seq := 3, payload := List.replicate 24 0 } (wFlow { frames := [wAct], ackSeq := 9 } []);
      let p : Nat := 3;
      let r : RxFrame := { wRx 2 with flow := 5, seq := 3, payload := List.replicate 24 0 };
      s.Sized ∧ p < 28 ∧ s.rxHead p 2 = some r ∧ r.flow < 249 ∧ s.flowSends r.flow = true ∧ (s.flow r.flow).ackSeq ≠ 0 ∧ seqBefore ((s.flow r.flow).ackSeq - 1) r.seq = false) ∧
    (let s : State := { wFlow { frames := [wAct] } [(Obj.TWIN_STATE, 3)] with twin := { peer := some default } };
      let f : Nat := 5;
      let a : Ack := { seq := 3, cum := 5, high := 5 };
      s.Sized ∧ f < 249 ∧ s.rd Obj.TWIN_STATE = 3 ∧ s.paired = true ∧ s.flowSends f = true ∧ (((s.flow f).ackSeq = 0 ∨ seqBefore ((s.flow f).ackSeq - 1) a.seq = true)) ∧ ((∀ p ∈ s.rsv.pch, p.failed = false))) := by
  refine ⟨⟨?_, ?_, ?_, ?_, ?_, ?_, ?_⟩, ⟨?_, ?_, ?_, ?_, ?_, ?_, ?_⟩, ⟨?_, ?_, ?_, ?_, ?_, ?_, ?_⟩⟩ <;> first | decide +kernel | (unfold State.Sized; decide +kernel) | rfl

theorem witness_FlowLife :
    (let s : State := wPort [(Obj.DEV_QUOTA_FLOWS 1, 4)];
      let sess : Nat := 1;
      let tag : Nat := 7;
      let f : Nat := 5;
      s.Sized ∧ f < 249 ∧ s.serves sess tag (Obj.FLOW_CLAIM f) 1 = true ∧ s.holder ⟨.flow, f⟩ = none ∧ s.heldOf .flow sess < s.rd (Obj.DEV_QUOTA_FLOWS sess)) ∧
    (let s : State := wFlow {} [(Obj.FLOW_STATE 5, 1)];
      let sess : Nat := 1;
      let tag : Nat := 7;
      let f : Nat := 5;
      s.Sized ∧ f < 249 ∧ s.serves sess tag (Obj.FLOW_CLAIM f) 2 = true ∧ s.holder ⟨.flow, f⟩ = some sess ∧ s.rd (Obj.FLOW_STATE f) = 1) ∧
    (let s : State := wPort [];
      let sess : Nat := 1;
      let tag : Nat := 7;
      let f : Nat := 250;
      249 ≤ f ∧ f < 256 ∧ s.serves sess tag (Obj.FLOW_CLAIM f) 1 = true) ∧
    (let s : State := { wOwn ⟨.flow, 5⟩ (wPort [(Obj.FLOW_STATE 5, 1), (Obj.FLOW_OWNER 5, 1)]) with swaps := [wSwap 8 ⟨.flow, 5⟩ [(Obj.FLOW_ENABLE 5, 1)]] };
      let f : Nat := 5;
      let b : Nat := 100;
      let w : Swap := wSwap 8 ⟨.flow, 5⟩ [(Obj.FLOW_ENABLE 5, 1)];
      s.Sized ∧ f < 249 ∧ s.due 8 ⟨.flow, f⟩ = some (w, b) ∧ w.value s (Obj.FLOW_ENABLE f) = 1 ∧ s.rdB (Obj.FLOW_ENABLE f) = false ∧ s.rd (Obj.FLOW_STATE f) ≠ 3 ∧ w.cause = none ∧ s.rd (Obj.FLOW_DIR f) = 0 ∧ s.isStandby = false ∧ w.vals = [(Obj.FLOW_ENABLE f, 1)] ∧ s.twin.entered = []) ∧
    (let s : State := { wFlow {} [] with swaps := [wSwap 8 ⟨.flow, 5⟩ [(Obj.FLOW_ENABLE 5, 0)]] };
      let f : Nat := 5;
      let b : Nat := 100;
      let w : Swap := wSwap 8 ⟨.flow, 5⟩ [(Obj.FLOW_ENABLE 5, 0)];
      s.Sized ∧ f < 249 ∧ s.due 8 ⟨.flow, f⟩ = some (w, b) ∧ w.value s (Obj.FLOW_ENABLE f) = 0 ∧ s.rdB (Obj.FLOW_ENABLE f) = true ∧ w.vals = [(Obj.FLOW_ENABLE f, 0)] ∧ ((∀ m, m < 96 → s.rd (Obj.MOVE_STATE m) ∉ [2, 3, 4]))) ∧
    (let s : State := wFlow {} [(Obj.FLOW_STATE 5, 3)];
      let f : Nat := 5;
      s.Sized ∧ f < 249 ∧ s.rd (Obj.FLOW_STATE f) = 3 ∧ (s.flow f).frames = [] ∧ (s.flow f).ending = false) := by
  refine ⟨⟨?_, ?_, ?_, ?_, ?_⟩, ⟨?_, ?_, ?_, ?_, ?_⟩, ⟨?_, ?_, ?_⟩, ⟨?_, ?_, ?_, ?_, ?_, ?_, ?_, ?_, ?_, ?_, ?_⟩, ⟨?_, ?_, ?_, ?_, ?_, ?_, ?_⟩, ⟨?_, ?_, ?_, ?_, ?_⟩⟩ <;> first | decide +kernel | (unfold State.Sized; decide +kernel) | rfl

theorem witness_I3cTarget :
    (let s : State := wConv;
      let cmd : Nat := 0;
      let addr : Nat := 9;
      s.rd Obj.DEV_STATE ≠ 0 ∧ s.rd Obj.DEV_I3C_ADDR = 0 ∧ cmd < 2 ∧ 0 < addr ∧ addr < 128) ∧
    (let s : State := wI3c wConv;
      let code : Nat := 0x8E;
      let arg : Nat := 0;
      let o : List Nat := [0x26];
      s.rd Obj.DEV_STATE ≠ 0 ∧ s.rd Obj.DEV_I3C_ADDR ≠ 0 ∧ s.i3cGet code = some o) ∧
    (let s : State := wI3c wConv;
      let o : List Nat := (let b := [2, 7, 48, 0, 0, 0]; b ++ [crc16 b / 256, crc16 b % 256]);
      s.i3cLive = true ∧ s.i3c.hdr = false ∧ s.i3c.inbox.length < 2 ∧ requestSound o = true ∧ ((s.ses 0).isOpen = false ∨ (parseRequest o).op = 1 ∨ (s.tagTaken 0 (parseRequest o).tag = false ∧ s.requests 0 < 64))) ∧
    (let s : State := wI3c wConv;
      let o : List Nat := [2, 7, 48, 0, 0, 0, 1, 1];
      s.i3cLive = true ∧ s.i3c.hdr = false ∧ s.i3c.inbox.length < 2 ∧ requestSound o = false) ∧
    (let s : State := wI3c (wConv.updSes 0 fun x => { x with txq := [default, default] });
      let f : Sys2Proof.Machine.Frame := default;
      let rest : List Sys2Proof.Machine.Frame := [default];
      let code : Nat := 0;
      let got : Nat := 300;
      s.Sized ∧ s.i3cLive = true ∧ s.i3c.hdr = false ∧ (s.ses 0).txq = f :: rest ∧ ((∀ i, i < 8 → (s.ses i).closing = none)) ∧ f.octets.length ≤ got) ∧
    (let s : State := wI3c (wConv.updSes 0 fun x => { x with txq := [default, default] });
      let f : Sys2Proof.Machine.Frame := default;
      let rest : List Sys2Proof.Machine.Frame := [default];
      let code : Nat := 160;
      let got : Nat := 3;
      s.i3cLive = true ∧ s.i3c.hdr = false ∧ (s.ses 0).txq = f :: rest ∧ code = 0xA0 ∧ got < f.octets.length) ∧
    (let s : State := wI3c wConv;
      let ddr : Bool := true;
      let code : Nat := 160;
      let got : Nat := 9;
      s.i3c.hdr = false ∧ (s.ses 0).txq = []) ∧
    (let s : State := { (wI3c wConv) with i3c := { (wI3c wConv).i3c with hdr := true } };
      let ddr : Bool := false;
      let code : Nat := 0;
      let o : List Nat := [2, 7, 48, 0, 0, 0, 1, 1];
      let got : Nat := 9;
      let c : Instr := .i3cPrivateRead false 0 9;
      s.i3c.hdr = true ∧ (c = .i3cPrivateWrite ddr code o ∨ c = .i3cPrivateRead ddr code got)) ∧
    (let s : State := wI3c ((wConv.updSes 0 fun x => { x with isOpen := true, ver := 1, role := 2, tags := [7] }).wr Obj.DEV_STATE 2);
      let o : List Nat := (let b := [2, 7, 48, 0, 0, 0]; b ++ [crc16 b / 256, crc16 b % 256]);
      s.Sized ∧ s.i3cLive = true ∧ s.i3c.hdr = false ∧ s.i3c.inbox.length < 2 ∧ requestSound o = true ∧ (s.ses 0).isOpen = true ∧ (parseRequest o).op ≠ 1 ∧ s.tagTaken 0 (parseRequest o).tag = true) ∧
    (let s : State := wI3c (wConv.updSes 0 fun x => { x with txq := [default, default] });
      s.i3cLive = true ∧ (s.ses 0).txq ≠ [] ∧ s.i3c.ibi = false ∧ s.i3c.ibiOff = false) := by
  refine ⟨⟨?_, ?_, ?_, ?_, ?_⟩, ⟨?_, ?_, ?_⟩, ⟨?_, ?_, ?_, ?_, ?_⟩, ⟨?_, ?_, ?_, ?_⟩, ⟨?_, ?_, ?_, ?_, ?_, ?_⟩, ⟨?_, ?_, ?_, ?_, ?_⟩, ⟨?_, ?_⟩, ⟨?_, ?_⟩, ⟨?_, ?_, ?_, ?_, ?_, ?_, ?_, ?_⟩, ⟨?_, ?_, ?_, ?_⟩⟩ <;> first | decide +kernel | (unfold State.Sized; decide +kernel) | rfl

theorem witness_OpeningAndStores :
    (let s : State := wI3c wConv;
      let tag : Nat := 7;
      let vmin : Nat := 1;
      let vmax : Nat := 1;
      s.Sized ∧ s.rd Obj.DEV_STATE ≠ 0 ∧ s.handing = false ∧ s.rd Obj.DEV_I3C_ADDR ≠ 0 ∧ (s.ses 0).isOpen = false ∧ (s.ses 0).mirror = false ∧ s.i3c.inbox = [] ∧ s.commonDict vmin vmax ≠ 0) ∧
    (let s : State := wS2;
      let sess : Nat := 1;
      let tag : Nat := 7;
      let vmin : Nat := 1;
      let vmax : Nat := 1;
      sess ≠ 0 ∧ s.takes sess tag = true ∧ (s.ses sess).inbox = []) ∧
    (let s : State := wS2;
      let sess : Nat := 1;
      let tag : Nat := 7;
      s.Sized ∧ s.serves sess tag Obj.DEV_STORE 1 = true ∧ s.upd.closed = false ∧ (s.ses sess).storeAt = none ∧ (s.ses sess).lastStore = none) ∧
    (let s : State := wS2.updSes 1 fun x => { x with storeAt := some 5, psDirty := [Obj.PORT_IP4 3] };
      let sess : Nat := 1;
      let w : Nat := 5;
      let k : Nat := Obj.PORT_IP4 3;
      s.Sized ∧ sess < 8 ∧ (s.ses sess).storeAt = some w ∧ w ≤ s.wall ∧ (s.ses sess).psDirty = [k] ∧ (s.ses sess).storeReqs = []) := by
  refine ⟨⟨?_, ?_, ?_, ?_, ?_, ?_, ?_, ?_⟩, ⟨?_, ?_, ?_⟩, ⟨?_, ?_, ?_, ?_, ?_⟩, ⟨?_, ?_, ?_, ?_, ?_, ?_⟩⟩ <;> first | decide +kernel | (unfold State.Sized; decide +kernel) | rfl

theorem witness_SessionEnds :
    (let s : State := wS2;
      let sess : Nat := 1;
      let tag : Nat := 7;
      s.takes sess tag = true ∧ (s.ses sess).inbox = [] ∧ s.i3c.inbox = []) ∧
    (let s : State := wS2;
      let sess : Nat := 1;
      let tag : Nat := 7;
      let i : Nat := 2;
      s.Sized ∧ i < 8 ∧ i ≠ 0 ∧ i ≠ sess ∧ s.serves sess tag (Obj.DEV_SESS_END i) 1 = true ∧ (s.ses i).isOpen = true ∧ holdsNothing s i = true) ∧
    (let s : State := wS2;
      let sess : Nat := 1;
      let tag : Nat := 7;
      s.Sized ∧ sess < 8 ∧ s.serves sess tag (Obj.DEV_SESS_END sess) 1 = true ∧ (s.ses sess).isOpen = true ∧ holdsNothing s sess = true) ∧
    (let s : State := (wS2.wrAll [(Obj.DEV_SESSION_IDLE_S, 1), (Obj.DEV_SESS_PORT 2, 3), (Obj.PORT_STATE 3, 3)]);
      let i : Nat := 2;
      let p : Nat := 3;
      s.Sized ∧ 0 < i ∧ i < 8 ∧ (s.ses i).isOpen = true ∧ (s.ses i).mirror = false ∧ (s.ses i).heard + s.rd Obj.DEV_SESSION_IDLE_S * tps ≤ s.wall ∧ holdsNothing s i = true ∧ s.rd (Obj.DEV_SESS_PORT i) = p ∧ s.portUp p = true ∧ s.rd Obj.TWIN_STATE ≠ 6) ∧
    (let s : State := wRxq { wRx 6 with session := 1 } (wPort []);
      let p : Nat := 3;
      let r : RxFrame := { wRx 6 with session := 1 };
      s.Sized ∧ p < 28 ∧ s.rxHead p 6 = some r ∧ 0 < r.session ∧ r.session < 8 ∧ (s.ses r.session).isOpen = true ∧ holdsNothing s r.session = true) ∧
    (let s : State := wI3c (wConv.updSes 0 fun x => { x with isOpen := true, ver := 1, role := 2 });
      s.Sized ∧ s.rd Obj.DEV_STATE ≠ 0 ∧ (s.ses 0).isOpen = true ∧ holdsNothing s 0 = true) ∧
    (let s : State := wI3c wConv;
      s.Sized ∧ s.rd Obj.DEV_STATE ≠ 0 ∧ (s.ses 0).isOpen = false) := by
  refine ⟨⟨?_, ?_, ?_⟩, ⟨?_, ?_, ?_, ?_, ?_, ?_, ?_⟩, ⟨?_, ?_, ?_, ?_, ?_⟩, ⟨?_, ?_, ?_, ?_, ?_, ?_, ?_, ?_, ?_, ?_⟩, ⟨?_, ?_, ?_, ?_, ?_, ?_, ?_⟩, ⟨?_, ?_, ?_, ?_⟩, ⟨?_, ?_, ?_⟩⟩ <;> first | decide +kernel | (unfold State.Sized; decide +kernel) | rfl

theorem witness_SessionOpens :
    (let s : State := wRxq { wRx 4 with session := 255, seq := 0, srcIp := 5, srcUdp := 6, payload := [1] } (wPort []);
      let p : Nat := 3;
      let r : RxFrame := { wRx 4 with session := 255, seq := 0, srcIp := 5, srcUdp := 6, payload := [1] };
      s.Sized ∧ p < 28 ∧ s.rxHead p 4 = some r ∧ s.openFrom r.srcIp r.srcUdp = none ∧ r.seq < 8 ∧ r.payload.length ≤ 8192) ∧
    (let s : State := { wConv with opens := [{ srcIp := 5, srcUdp := 6, srcMac := 0, port := 3, firstAt := 7 }] };
      let ip : Nat := 5;
      let udp : Nat := 6;
      let a : OpenAsm := { srcIp := 5, srcUdp := 6, srcMac := 0, port := 3, firstAt := 7 };
      s.openFrom ip udp = some a ∧ a.whole = false ∧ a.firstAt + 100 * tpms ≤ s.wall) ∧
    (let s : State := { wPort [] with opens := [{ srcIp := 5, srcUdp := 6, srcMac := 8, port := 3, firstAt := 7, segs := [(0, [1])], total := some 1 }] };
      let o : OpenInfo := { sluiceMin := 9, sluiceMax := 9, dictMin := 9, dictMax := 9, role := 2, chainOk := true, anchors := [], datesOk := true, transcript := 0, srcMac := 8, srcIp := 5, srcUdp := 6, port := 3 };
      let a : OpenAsm := { srcIp := 5, srcUdp := 6, srcMac := 8, port := 3, firstAt := 7, segs := [(0, [1])], total := some 1 };
      s.openFrom o.srcIp o.srcUdp = some a ∧ a.whole = true ∧ s.portUp o.port = true ∧ (s.openTimes.filter fun w => Nat.blt s.wall (w + tps)).length < 4 ∧ s.isStandby = false ∧ (s.openSluice o = 0 ∨ s.openDict o = 0)) ∧
    (let s : State := { wPort [(Obj.SEC_ANCHOR_ROLE 0, 1), (Obj.SEC_OWNER_STATE, 1), (Obj.PLMB_TIME_STATE, 1)] with opens := [{ srcIp := 5, srcUdp := 6, srcMac := 8, port := 3, firstAt := 7, segs := [(0, [1])], total := some 1 }] };
      let o : OpenInfo := { sluiceMin := 1, sluiceMax := 1, dictMin := 1, dictMax := 1, role := 2, chainOk := true, anchors := [0], datesOk := true, transcript := 0, srcMac := 8, srcIp := 5, srcUdp := 6, port := 3 };
      let a : OpenAsm := { srcIp := 5, srcUdp := 6, srcMac := 8, port := 3, firstAt := 7, segs := [(0, [1])], total := some 1 };
      let i : Nat := 2;
      s.Sized ∧ s.openFrom o.srcIp o.srcUdp = some a ∧ a.whole = true ∧ s.portUp o.port = true ∧ o.port < 28 ∧ (s.openTimes.filter fun w => Nat.blt s.wall (w + tps)).length < 4 ∧ s.isStandby = false ∧ s.openSluice o ≠ 0 ∧ s.openDict o ≠ 0 ∧ s.freeSession = some i ∧ s.openFails o = false) := by
  refine ⟨⟨?_, ?_, ?_, ?_, ?_, ?_⟩, ⟨?_, ?_, ?_⟩, ⟨?_, ?_, ?_, ?_, ?_, ?_⟩, ⟨?_, ?_, ?_, ?_, ?_, ?_, ?_, ?_, ?_, ?_, ?_⟩⟩ <;> first | decide +kernel | (unfold State.Sized; decide +kernel) | rfl

theorem witness_Dictionary :
    (let s : State := wS2;
      let sess : Nat := 1;
      let tag : Nat := 7;
      let row : Row := wRow (Obj.CONV_STATE 1);
      let idx : Nat := Obj.CONV_STATE 1 / 256;
      let sub : Nat := Obj.CONV_STATE 1 % 256;
      s.takes sess tag = true ∧ (s.ses sess).inbox = [] ∧ s.i3c.inbox = [] ∧ sub < 256 ∧ s.check sess (key idx sub) false (some 0) = .pass row ∧ (row.acc = .ro ∨ row.acc = .rw ∨ row.acc = .ps) ∧ (key idx sub = Obj.UPD_JOURNAL_DONE → s.rd Obj.UPD_STATE ≠ 4) ∧ s.computed sess (key idx sub) = none ∧ measured (key idx sub) = false ∧ fecCounter (key idx sub) = false ∧ dieTemp (key idx sub) = false) ∧
    (let s : State := wS2;
      let sess : Nat := 1;
      let tag : Nat := 7;
      let view : Nat := 0;
      let idx : Nat := Obj.CONV_ENABLE 1 / 256;
      let sub : Nat := Obj.CONV_ENABLE 1 % 256;
      let row : Row := wRow (Obj.CONV_ENABLE 1);
      s.takes sess tag = true ∧ (s.ses sess).inbox = [] ∧ s.i3c.inbox = [] ∧ sub < 256 ∧ s.check sess (key idx sub) false (some 0) = .pass row ∧ row.acc = .sh ∧ loadOf (key idx sub) = none ∧ s.computed sess (key idx sub) = none ∧ measured (key idx sub) = false ∧ fecCounter (key idx sub) = false ∧ dieTemp (key idx sub) = false) ∧
    (let s : State := wS2.wr (Obj.DEV_SESS_TAG_DUP 1) 4;
      let sess : Nat := 1;
      let tag : Nat := 7;
      let idx : Nat := Obj.DEV_SESS_TAG_DUP 1 / 256;
      let sub : Nat := Obj.DEV_SESS_TAG_DUP 1 % 256;
      let row : Row := wRow (Obj.DEV_SESS_TAG_DUP 1);
      s.takes sess tag = true ∧ (s.ses sess).inbox = [] ∧ s.i3c.inbox = [] ∧ sub < 256 ∧ s.check sess (key idx sub) false (some 0) = .pass row ∧ row.acc = .rc ∧ (s.ses sess).role ≠ 0 ∧ s.computed sess (key idx sub) = none ∧ measured (key idx sub) = false ∧ fecCounter (key idx sub) = false ∧ dieTemp (key idx sub) = false) ∧
    (let s : State := wS2;
      let sess : Nat := 1;
      let tag : Nat := 7;
      let v : Nat := 1;
      let idx : Nat := Obj.CONV_ENABLE 1 / 256;
      let sub : Nat := Obj.CONV_ENABLE 1 % 256;
      let ws : List Nat := [1];
      let row : Row := wRow (Obj.CONV_ENABLE 1);
      s.takes sess tag = true ∧ (s.ses sess).inbox = [] ∧ s.i3c.inbox = [] ∧ sub < 256 ∧ keyRow (key idx sub) = some row ∧ row.ty.decode ws = some v ∧ s.check sess (key idx sub) true (some v) = .pass row ∧ row.acc = .sh ∧ idx < 0x7000 ∧ loadOf (key idx sub) = none ∧ segsOf (key idx sub) = none ∧ sizeOf' (key idx sub) = none ∧ s.swapHolds sess (groupOf (key idx sub)) = false ∧ s.inBounds sess (key idx sub) v = true) ∧
    (let s : State := wS2;
      let sess : Nat := 1;
      let tag : Nat := 7;
      let v : Nat := 0x80000;
      let idx : Nat := Obj.XFM_HOP 3 / 256;
      let sub : Nat := Obj.XFM_HOP 3 % 256;
      let ws : List Nat := [0x80000];
      let row : Row := wRow (Obj.XFM_HOP 3);
      s.takes sess tag = true ∧ (s.ses sess).inbox = [] ∧ s.i3c.inbox = [] ∧ sub < 256 ∧ keyRow (key idx sub) = some row ∧ row.ty.decode ws = some v ∧ s.check sess (key idx sub) true (some v) = .pass row ∧ row.acc = .sh ∧ idx < 0x7000 ∧ loadOf (key idx sub) = none ∧ s.swapHolds sess (groupOf (key idx sub)) = false ∧ s.inBounds sess (key idx sub) v = false) ∧
    (let s : State := wS2;
      let sess : Nat := 1;
      let tag : Nat := 7;
      let v : Nat := 9;
      let idx : Nat := Obj.DEV_JOINT_AT / 256;
      let sub : Nat := Obj.DEV_JOINT_AT % 256;
      let ws : List Nat := [0, 9];
      let row : Row := wRow (Obj.DEV_JOINT_AT);
      s.takes sess tag = true ∧ (s.ses sess).inbox = [] ∧ s.i3c.inbox = [] ∧ sub < 256 ∧ key idx sub = Obj.DEV_JOINT_AT ∧ keyRow (key idx sub) = some row ∧ row.ty.decode ws = some v ∧ s.check sess (key idx sub) true (some v) = .pass row) ∧
    (let s : State := wS2;
      let sess : Nat := 1;
      let tag : Nat := 7;
      let idx : Nat := Obj.CONV_ENABLE 1 / 256;
      let sub : Nat := Obj.CONV_ENABLE 1 % 256;
      let ws : List Nat := [2, 2];
      let st : Status := .type;
      let d : Nat := 0;
      s.takes sess tag = true ∧ (s.ses sess).inbox = [] ∧ s.i3c.inbox = [] ∧ sub < 256 ∧ idx < 0x7000 ∧ s.check sess (key idx sub) true ((keyRow (key idx sub)).bind fun row => row.ty.decode ws) = .fail st d) := by
  refine ⟨⟨?_, ?_, ?_, ?_, ?_, ?_, ?_, ?_, ?_, ?_, ?_⟩, ⟨?_, ?_, ?_, ?_, ?_, ?_, ?_, ?_, ?_, ?_, ?_⟩, ⟨?_, ?_, ?_, ?_, ?_, ?_, ?_, ?_, ?_, ?_, ?_⟩, ⟨?_, ?_, ?_, ?_, ?_, ?_, ?_, ?_, ?_, ?_, ?_, ?_, ?_, ?_⟩, ⟨?_, ?_, ?_, ?_, ?_, ?_, ?_, ?_, ?_, ?_, ?_, ?_⟩, ⟨?_, ?_, ?_, ?_, ?_, ?_, ?_, ?_⟩, ⟨?_, ?_, ?_, ?_, ?_, ?_⟩⟩ <;> first | decide +kernel | (unfold State.Sized; decide +kernel) | rfl

theorem witness_Shedding :
    (let s : State := wConv;
      let mv : Nat := 2400;
      let k : Nat := 62914;
      k = min 65536 (mv * 65536 / 2500) ∧ (((s.noteTrouble.wr Obj.PWR_PVIN_MV mv).wr Obj.DEV_PVIN_SCALE k).setFloors).overFloors = false) ∧
    (let s : State := (wScan {} [(Obj.PWR_THERM_EMERG, 1)]);
      let c : Nat := 1;
      let u : ShedUnit := wShedU;
      s.Sized ∧ s.shedCause = some c ∧ s.shed.nextStep ≤ s.wall ∧ s.shedNext c = some u) ∧
    (let s : State := { wScan {} [(Obj.DEV_SHED_ACTIVE, 2)] with shed := { wConv.shed with units := [wShedU] } };
      let u : ShedUnit := wShedU;
      let rest : List ShedUnit := [];
      let h : Nat := 0;
      s.Sized ∧ s.shed.units = u :: rest ∧ s.shedCause = none ∧ s.shed.troubleAt + 100 * tpms ≤ s.wall ∧ s.shed.nextRestore ≤ s.wall ∧ s.shed.highSince = some h ∧ h + 100 * tpms ≤ s.wall ∧ ({ s with shed := { s.shed with units := rest } } : State).overFloors = false ∧ 0 < u.cls) := by
  refine ⟨⟨?_, ?_⟩, ⟨?_, ?_, ?_, ?_⟩, ⟨?_, ?_, ?_, ?_, ?_, ?_, ?_, ?_, ?_⟩⟩ <;> first | decide +kernel | (unfold State.Sized; decide +kernel) | rfl

theorem witness_ScanLatchesAndLayers :
    (let s : State := wScan {} [];
      2 ≤ s.rd Obj.DEV_STATE ∧ s.rdB Obj.SCAN_ENABLE = true ∧ s.rd Obj.SCAN_MODE = 0 ∧ s.scan.sending = false ∧ s.scanLineAt (s.rd Obj.SCAN_VACTIVE) ≤ s.wall ∧ s.scanSwaps = [] ∧ s.scan.drop = [] ∧ s.isShed 2 0 = false) ∧
    (let s : State := wScan {} [(Obj.SCAN_MODE, 1)];
      s.commandMode = true ∧ s.teOpen = true ∧ s.scanSwaps = [] ∧ s.scan.drop = [] ∧ s.isShed 2 0 = false) ∧
    (let s : State := wScan { sending := true } [(Obj.SCAN_MODE, 1)];
      s.commandMode = true ∧ s.teOpen = false) ∧
    (let s : State := wScan {} [(Obj.SCAN_MODE, 1), (Obj.SCAN_TE_TIMEOUT, 10)];
      s.commandMode = true ∧ s.teOpen = true ∧ s.rd Obj.SCAN_TE_TIMEOUT ≠ 0 ∧ s.teFrom + s.rd Obj.SCAN_TE_TIMEOUT * tpus ≤ s.wall ∧ s.scanSwaps = [] ∧ s.scan.drop = [] ∧ s.isShed 2 0 = false) ∧
    (let s : State := wScan {} [];
      let sess : Nat := 1;
      let tag : Nat := 7;
      let l : Nat := 2;
      l < 4 ∧ s.serves sess tag (Obj.SCAN_L_CLAIM l) 1 = true ∧ s.holder ⟨.layer, l⟩ = none ∧ s.heldOf .layer sess < 256) ∧
    (let s : State := wOwn ⟨.layer, 2⟩ (wScan {} [(Obj.SCAN_L_OWNER 2, 1)]);
      let sess : Nat := 1;
      let tag : Nat := 7;
      let l : Nat := 2;
      l < 4 ∧ s.serves sess tag (Obj.SCAN_L_CLAIM l) 2 = true ∧ s.holder ⟨.layer, l⟩ = some sess ∧ s.rdB (Obj.SCAN_L_ENABLE l) = false ∧ s.rd (Obj.SCAN_L_BUF_LOG2 l) = 0 ∧ ((∀ w ∈ s.swaps, w.change 9 ⟨.layer, l⟩ = none))) ∧
    (let s : State := wOwn ⟨.layer, 2⟩ (wScan {} []);
      let sess : Nat := 1;
      let tag : Nat := 7;
      let l : Nat := 2;
      let v : Nat := 3 * 68719476736 + 4278190335;
      s.Sized ∧ l < 4 ∧ s.serves sess tag (Obj.SCAN_L_PAL_WRITE l) v = true ∧ s.swapHolds sess 9 = false) ∧
    (let s : State := wScan {} [(Obj.SCAN_L_STATE 2, 2)];
      let l : Nat := 2;
      l < 4 ∧ s.rd (Obj.SCAN_L_STATE l) = 2 ∧ s.rdB (Obj.SCAN_L_ENABLE l) = false) := by
  refine ⟨⟨?_, ?_, ?_, ?_, ?_, ?_, ?_, ?_⟩, ⟨?_, ?_, ?_, ?_, ?_⟩, ⟨?_, ?_⟩, ⟨?_, ?_, ?_, ?_, ?_, ?_, ?_⟩, ⟨?_, ?_, ?_, ?_⟩, ⟨?_, ?_, ?_, ?_, ?_, ?_⟩, ⟨?_, ?_, ?_, ?_⟩, ⟨?_, ?_, ?_⟩⟩ <;> first | decide +kernel | (unfold State.Sized; decide +kernel) | rfl

theorem witness_ScanLines :
    (let s : State := wScan { sending := true } [];
      let y : Nat := 0;
      s.scan.sending = true ∧ y = s.scan.line ∧ s.scanLineAt y ≤ s.wall ∧ ((∀ l, l < 4 → s.torn l = false)) ∧ s.scan.run = none ∧ y + 1 ≠ s.rd Obj.SCAN_VACTIVE ∧ s.rd Obj.SCAN_STATE ≠ 1) ∧
    (let s : State := wScan { sending := true } [(Obj.SCAN_L_ENABLE 0, 1), (Obj.SCAN_L_H 0, 2), (Obj.SCAN_L_W 0, 2)];
      let y : Nat := 0;
      let missing : List Nat := [0];
      s.scan.sending = true ∧ y = s.scan.line ∧ s.scanLineAt y ≤ s.wall ∧ ((∀ l, l < 4 → s.torn l = false)) ∧ s.lacking missing y ≠ [] ∧ y + 1 ≠ s.rd Obj.SCAN_VACTIVE ∧ s.rd Obj.SCAN_STATE ≠ 1) ∧
    (let s : State := wScan { check := some (4, 77, 5) } [];
      let pad : Nat := 77;
      let n : Nat := 4;
      let at_ : Nat := 5;
      s.scan.check = some (n, pad, at_) ∧ at_ ≤ s.wall ∧ pad < 2 ^ 32) ∧
    (let s : State := wScan { check := some (4, 78, 5) } [];
      let pad : Nat := 77;
      let n : Nat := 4;
      let crc : Nat := 78;
      let at_ : Nat := 5;
      s.scan.check = some (n, crc, at_) ∧ at_ ≤ s.wall ∧ pad < 2 ^ 32 ∧ pad ≠ crc) ∧
    (let s : State := wScan { render := some wHarv } [(Obj.SCAN_L_BUF_LOG2 0, 4), (Obj.SCAN_L_W 0, 2), (Obj.SCAN_L_H 0, 2)];
      let h : Harvest := wHarv;
      s.scan.render = some h ∧ s.scan.rendered = false ∧ s.rd (Obj.SCAN_L_BUF_LOG2 0) ≠ 0) := by
  refine ⟨⟨?_, ?_, ?_, ?_, ?_, ?_, ?_⟩, ⟨?_, ?_, ?_, ?_, ?_, ?_, ?_⟩, ⟨?_, ?_, ?_⟩, ⟨?_, ?_, ?_, ?_⟩, ⟨?_, ?_, ?_⟩⟩ <;> first | decide +kernel | (unfold State.Sized; decide +kernel) | rfl

theorem witness_References :
    (let s : State := wConv.wrAll [(Obj.CLK_STATE, 2), (Obj.CLK_REF_ACTIVE, 0), (Obj.CLK_REF_STATE 1, 2)];
      let r : Nat := 1;
      let st : Nat := 3;
      let ppb : Int := 4;
      r < 2 ∧ st < 4 ∧ 1 ≤ s.rd Obj.DEV_STATE ∧ st ≠ s.rd (Obj.CLK_REF_STATE r) ∧ st ≠ 2 ∧ s.rd Obj.CLK_STATE = 2 ∧ s.rd Obj.CLK_REF_ACTIVE ≠ r ∧ -(2 ^ 35) ≤ ppb ∧ ppb < 2 ^ 35) ∧
    (let s : State := wConv.wrAll [(Obj.CLK_STATE, 2), (Obj.CLK_REF_ACTIVE, 1), (Obj.CLK_REF_STATE 1, 2), (Obj.CLK_REF_SEL, 1)];
      let r : Nat := 1;
      let st : Nat := 0;
      let ppb : Int := 0;
      s.Sized ∧ r < 2 ∧ st < 4 ∧ 1 ≤ s.rd Obj.DEV_STATE ∧ st ≠ s.rd (Obj.CLK_REF_STATE r) ∧ st ≠ 2 ∧ s.rd Obj.CLK_STATE = 2 ∧ s.rd Obj.CLK_REF_ACTIVE = r ∧ s.rd Obj.CLK_REF_SEL ≠ 2) ∧
    (let s : State := wConv.wrAll [(Obj.CLK_STATE, 2), (Obj.CLK_REF_ACTIVE, 0)];
      s.rd Obj.CLK_STATE = 2 ∧ s.rd Obj.CLK_REF_ACTIVE < 2 ∧ s.clk.missAt = none) ∧
    (let s : State := { wConv.wrAll [(Obj.CLK_STATE, 2), (Obj.CLK_REF_ACTIVE, 0)] with clk := { wConv.clk with missAt := some 400000000000 } };
      let m : Nat := 400000000000;
      s.rd Obj.CLK_STATE = 2 ∧ s.rd Obj.CLK_REF_ACTIVE < 2 ∧ s.clk.missAt = some m ∧ 2 * s.wall ≤ 2 * m + 3 * (tps / max 1 (s.refHz (s.rd Obj.CLK_REF_ACTIVE)))) ∧
    (let s : State := wConv.wr Obj.CLK_STATE 3;
      let tj : Int := 5;
      s.rd Obj.CLK_STATE = 3 ∧ s.clk.trimAt ≤ s.wall) ∧
    (let s : State := { wConv.wr Obj.CLK_STATE 3 with wall := 86401 * 32000000000 };
      s.rd Obj.CLK_STATE = 3 ∧ s.clk.long = false ∧ s.clk.holdAt + 86400 * tps < s.wall) ∧
    (let s : State := wConv.wr Obj.CLK_STATE 4;
      s.rd Obj.CLK_STATE = 4) ∧
    (let s : State := { wConv.wrAll [(Obj.CLK_STATE, 2), (Obj.CLK_REF_ACTIVE, 1), (Obj.CLK_REF_STATE 0, 2), (Obj.CLK_REF_SEL, 2), (Obj.CLK_REVERT_S, 1), (Obj.CLK_REF_A_HZ, 10000000), (Obj.CLK_REF_B_HZ, 10000000)] with clk := { wConv.clk with presentAt := [some 5, some 5] } };
      let a : Nat := 5;
      s.rd Obj.CLK_REF_SEL = 2 ∧ s.rd Obj.CLK_REVERT_S ≠ 0 ∧ s.rd Obj.CLK_STATE = 2 ∧ s.rd Obj.CLK_REF_ACTIVE = 1 ∧ s.refPresent 0 = true ∧ at' s.clk.presentAt 0 = some a ∧ a + s.rd Obj.CLK_REVERT_S * tps ≤ s.wall ∧ s.refHz 0 = s.refHz 1 ∧ s.refsAgree = true) ∧
    (let s : State := wConv.wr Obj.CLK_STATE 2;
      let sess : Nat := 1;
      let tag : Nat := 7;
      s.serves sess tag Obj.CLK_REF_SEL 2 = true ∧ s.rd Obj.CLK_STATE = 2) := by
  refine ⟨⟨?_, ?_, ?_, ?_, ?_, ?_, ?_, ?_⟩, ⟨?_, ?_, ?_, ?_, ?_, ?_, ?_, ?_, ?_⟩, ⟨?_, ?_, ?_⟩, ⟨?_, ?_, ?_, ?_⟩, ⟨?_, ?_⟩, ⟨?_, ?_, ?_⟩, ?_, ⟨?_, ?_, ?_, ?_, ?_, ?_, ?_, ?_, ?_⟩, ⟨?_, ?_⟩⟩ <;> first | decide +kernel | (unfold State.Sized; decide +kernel) | rfl

theorem witness_JitterTest :
    (let s : State := wConv.wr Obj.CLK_STATE 2;
      let sess : Nat := 1;
      let tag : Nat := 7;
      s.serves sess tag Obj.CLK_TEST 1 = true ∧ s.masterLocked = true) ∧
    (let s : State := { wConv with clk := { wConv.clk with testAt := some 5 } };
      let fs : Nat := 77;
      let a : Nat := 5;
      s.clk.testAt = some a ∧ a ≤ s.wall) ∧
    (let s : State := wConv.wr Obj.CLK_LOCKED_MASK 0;
      let sess : Nat := 1;
      let tag : Nat := 7;
      s.serves sess tag Obj.CLK_TEST 1 = true ∧ s.masterLocked = false) := by
  refine ⟨⟨?_, ?_⟩, ⟨?_, ?_⟩, ⟨?_, ?_⟩⟩ <;> first | decide +kernel | (unfold State.Sized; decide +kernel) | rfl

theorem witness_MasterLock :
    (let s : State := { wConv.wrAll [(Obj.CLK_STATE, 1), (Obj.CLK_REF_STATE 0, 2)] with clk := { wConv.clk with acquireAt := some 5 } };
      let a : Nat := 5;
      s.clk.acquireAt = some a ∧ a + 100 * tpus ≤ s.wall ∧ s.refPresent s.clk.target = true ∧ s.rd Obj.CLK_STATE = 1 ∧ s.conv.counts = true) ∧
    (let s : State := { wConv.wrAll [(Obj.CLK_STATE, 1)] with clk := { wConv.clk with acquireAt := some 5 } };
      let a : Nat := 5;
      s.clk.acquireAt = some a ∧ a + 50 * tpms ≤ s.wall ∧ s.clk.late = false ∧ s.clk.change = none ∧ s.rd Obj.CLK_STATE = 1) ∧
    (let s : State := { wConv.wrAll [(Obj.CLK_STATE, 5)] with clk := { wConv.clk with acquireAt := some 5 } };
      let a : Nat := 5;
      s.clk.acquireAt = some a ∧ a + 50 * tpms ≤ s.wall ∧ s.clk.late = false ∧ s.clk.change = none ∧ s.rd Obj.CLK_STATE = 5) ∧
    (let s : State := wConv.wrAll [(Obj.CLK_STATE, 3)];
      s.Sized ∧ s.masterLocked = true ∧ s.rd Obj.CLK_STATE ∈ [2, 3, 4]) := by
  refine ⟨⟨?_, ?_, ?_, ?_, ?_⟩, ⟨?_, ?_, ?_, ?_, ?_⟩, ⟨?_, ?_, ?_, ?_, ?_⟩, ⟨?_, ?_, ?_⟩⟩ <;> first | decide +kernel | (unfold State.Sized; decide +kernel) | rfl

theorem witness_ClockChanges :
    (let s : State := wConv.wrAll [(Obj.CLK_CHANGE_HZ, 20000000), (Obj.CLK_CHANGE_AT, 200000000000)];
      let sess : Nat := 1;
      let tag : Nat := 7;
      s.serves sess tag Obj.CLK_CHANGE_CMD 1 = true ∧ 10000000 ≤ s.rd Obj.CLK_CHANGE_HZ ∧ s.rd Obj.CLK_CHANGE_HZ ≤ 1000000000 ∧ s.rd Obj.CONV_SYNC_MODE ≠ 1 ∧ s.rd Obj.CLK_CHANGE_AT % 64 = 0 ∧ s.tick + 250 * tpms ≤ s.rd Obj.CLK_CHANGE_AT ∧ s.clk.change = none ∧ ((∀ ch, ch < 4 → s.calibrating ch = false)) ∧ s.conv.align = none) ∧
    (let s : State := { wConv.wrAll [(Obj.CLK_CHANGE_STATUS, 1)] with clk := { wConv.clk with change := some ⟨wReq, 0, 20000000, 6400000000⟩ } };
      let c : ClkChange := ⟨wReq, 0, 20000000, 6400000000⟩;
      s.Sized ∧ s.clk.change = some c ∧ s.rd Obj.CLK_CHANGE_STATUS = 1 ∧ c.at_ - 6400000000 ≤ s.tick) ∧
    (let s : State := wOpen { wConv.wrAll [(Obj.CLK_CHANGE_STATUS, 2)] with clk := { wConv.clk with change := some ⟨wReq, 0, 20000000, 6400000000⟩, gatedAt := some 0 } };
      let c : ClkChange := ⟨wReq, 0, 20000000, 6400000000⟩;
      let edge : Bool := true;
      s.Sized ∧ s.clk.change = some c ∧ s.rd Obj.CLK_CHANGE_STATUS = 2 ∧ c.at_ ≤ s.tick ∧ bitOf (s.rd Obj.CLK_LOCKED_MASK) 0 = true ∧ s.conv.grid = none ∧ c.ref < 2) ∧
    (let s : State := { wConv.wrAll [(Obj.CLK_CHANGE_STATUS, 2), (Obj.CLK_LOCKED_MASK, 0)] with clk := { wConv.clk with change := some ⟨wReq, 0, 20000000, 6400000000⟩, gatedAt := some 0 } };
      let c : ClkChange := ⟨wReq, 0, 20000000, 6400000000⟩;
      let edge : Bool := true;
      s.clk.change = some c ∧ s.rd Obj.CLK_CHANGE_STATUS = 2 ∧ c.at_ ≤ s.tick ∧ bitOf (s.rd Obj.CLK_LOCKED_MASK) 0 = false) ∧
    (let s : State := wConv;
      let sess : Nat := 1;
      let tag : Nat := 7;
      let v : Nat := 32;
      s.serves sess tag Obj.CLK_OUT_DIV v = true ∧ s.masterLocked = true ∧ 2 ≤ s.rd Obj.DEV_STATE) := by
  refine ⟨⟨?_, ?_, ?_, ?_, ?_, ?_, ?_, ?_, ?_⟩, ⟨?_, ?_, ?_, ?_⟩, ⟨?_, ?_, ?_, ?_, ?_, ?_, ?_⟩, ⟨?_, ?_, ?_, ?_⟩, ⟨?_, ?_, ?_⟩⟩ <;> first | decide +kernel | (unfold State.Sized; decide +kernel) | rfl

theorem witness_Measurements :
    (let s : State := wPlumb { cfgs := [wTdc] } [];
      let input : Nat := 1;
      let tick : Nat := 99999999999;
      let fine : Nat := 4;
      let rising : Bool := true;
      let pos : Nat := placeOf 99999999999 4 - wConv.plumbDelay 1;
      let c : TdcCfg := wTdc;
      1 ≤ input ∧ input ≤ 9 ∧ s.stampArrives tick fine = true ∧ pos = placeOf tick fine - s.plumbDelay input ∧ s.plumb.cfgAt pos = some c ∧ c.starts input rising = true ∧ (s.plumb.cfgs.any fun c => c.stops input rising) = false ∧ at' s.plumb.lastEdge input = none) ∧
    (let s : State := wPlumb { cfgs := [wTdc] } [];
      let input : Nat := 2;
      let tick : Nat := 99999999999;
      let fine : Nat := 4;
      let rising : Bool := true;
      let pos : Nat := placeOf 99999999999 4 - wConv.plumbDelay 2;
      let c : TdcCfg := wTdc;
      1 ≤ input ∧ input ≤ 9 ∧ s.stampArrives tick fine = true ∧ pos = placeOf tick fine - s.plumbDelay input ∧ s.plumb.cfgAt pos = some c ∧ c.starts input rising = false ∧ (s.plumb.cfgs.any fun c => c.stops input rising) = true ∧ at' s.plumb.lastEdge input = none ∧ s.plumb.stops.length < 64) ∧
    (let s : State := wPlumb { cfgs := [wTdc], lastEdge := List.replicate 10 (some (placeOf 99999999999 0)) } [];
      let input : Nat := 2;
      let tick : Nat := 99999999999;
      let fine : Nat := 4;
      let rising : Bool := true;
      let pos : Nat := placeOf 99999999999 4 - wConv.plumbDelay 2;
      let p : Nat := placeOf 99999999999 0;
      1 ≤ input ∧ input ≤ 9 ∧ s.stampArrives tick fine = true ∧ pos = placeOf tick fine - s.plumbDelay input ∧ (s.plumb.cfgs.any fun c => c.stops input rising) = true ∧ at' s.plumb.lastEdge input = some p ∧ pos < p + posOf 64) ∧
    (let s : State := wPlumb { cfgs := [wTdc], nextStart := some 500 } [(Obj.PLMB_START_PERIOD, 1000)];
      let n : Nat := 500;
      s.plumb.nextStart = some n ∧ n ≤ s.tick) ∧
    (let s : State := wPlumb { cfgs := [wTdc], starts := [⟨65536000, false, false⟩], stops := [⟨65636000, 2, true, false⟩] } [];
      let a : StartEdge := ⟨65536000, false, false⟩;
      let later : List StartEdge := [];
      let c : TdcCfg := wTdc;
      s.plumb.starts = a :: later ∧ s.plumb.cfgAt a.pos = some c ∧ a.pos + c.w < s.plumbHorizon ∧ s.plumb.stamps + (s.plumb.stops.filter fun p => c.takes a.pos p).length + 1 ≤ 256) ∧
    (let s : State := wPlumb { cfgs := [wTdc], stops := [⟨65636000, 2, true, false⟩] } [];
      let p : Stop := ⟨65636000, 2, true, false⟩;
      let rest : List Stop := [];
      let c : TdcCfg := wTdc;
      s.plumb.unconsumed = p :: rest ∧ s.plumb.cfgAt p.pos = some c ∧ p.pos + c.w < s.plumbHorizon) ∧
    (let s : State := wPlumb { queue := [⟨1, 0, 0, []⟩] } [];
      let sess : Nat := 1;
      let tag : Nat := 7;
      let m : Meas := ⟨1, 0, 0, []⟩;
      let rest : List Meas := [];
      s.serves sess tag Obj.PLMB_RES_NEXT 1 = true ∧ s.plumb.queue = m :: rest) := by
  refine ⟨⟨?_, ?_, ?_, ?_, ?_, ?_, ?_, ?_⟩, ⟨?_, ?_, ?_, ?_, ?_, ?_, ?_, ?_, ?_⟩, ⟨?_, ?_, ?_, ?_, ?_, ?_, ?_⟩, ⟨?_, ?_⟩, ⟨?_, ?_, ?_, ?_⟩, ⟨?_, ?_, ?_⟩, ⟨?_, ?_⟩⟩ <;> first | decide +kernel | (unfold State.Sized; decide +kernel) | rfl

theorem witness_PlumbUnit :
    (let s : State := wConv;
      let sess : Nat := 1;
      let tag : Nat := 7;
      s.serves sess tag Obj.PLMB_CLAIM 1 = true ∧ s.holder ⟨.plumb, 0⟩ = none ∧ s.heldOf .plumb sess < 256) ∧
    (let s : State := wPlumb { cfgs := [wTdc] } [];
      let sess : Nat := 1;
      let tag : Nat := 7;
      s.serves sess tag Obj.PLMB_CLAIM 2 = true ∧ s.holder ⟨.plumb, 0⟩ = some sess) ∧
    (let s : State := { wPlumb {} [] with swaps := [wSwap 10 ⟨.plumb, 0⟩ [(Obj.PLMB_STOP_MASK, 5)]] };
      let b : Nat := 100;
      let w : Swap := wSwap 10 ⟨.plumb, 0⟩ [(Obj.PLMB_STOP_MASK, 5)];
      let v : Nat := 5;
      s.due 10 ⟨.plumb, 0⟩ = some (w, b) ∧ w.vals = [(Obj.PLMB_STOP_MASK, v)]) ∧
    (let s : State := wPlumb { cnt := [{ on := true }], gate := some { start := 99999000000 } } [(Obj.PLMB_CNT_ENABLE, 1)];
      let n : Nat := 5;
      let tick : Nat := 99999999999;
      let fine : Nat := 4;
      let pos : Nat := placeOf 99999999999 4 - wConv.plumbDelay 6;
      let g : Gate := { start := 99999000000 };
      s.rdB Obj.PLMB_CNT_ENABLE = true ∧ s.stampArrives tick fine = true ∧ pos = placeOf tick fine - s.plumbDelay 6 ∧ s.plumb.lastPoint ≠ some n ∧ s.plumb.gate = some g ∧ g.start ≤ pos / 65536 ∧ pos / 65536 < (s.plumb.gateEnd g).1) ∧
    (let s : State := wPlumb { cnt := [{ on := true }], gate := some { start := 99000000000 } } [(Obj.PLMB_CNT_ENABLE, 1)];
      let g : Gate := { start := 99000000000 };
      s.plumb.gate = some g ∧ (s.plumb.gateEnd g).1 + horizonLag ≤ s.tick) ∧
    (let s : State := wPlumb {} [(Obj.PLMB_CNT_ENABLE, 1), (Obj.PLMB_CNT_STATE, 1), (Obj.PLMB_CNT_ABSENT_US, 5)];
      s.rdB Obj.PLMB_CNT_ENABLE = true ∧ s.rd Obj.PLMB_CNT_STATE ≠ 0 ∧ s.plumb.cntSeen + s.rd Obj.PLMB_CNT_ABSENT_US * tpus ≤ s.wall) := by
  refine ⟨⟨?_, ?_, ?_⟩, ⟨?_, ?_⟩, ⟨?_, ?_⟩, ⟨?_, ?_, ?_, ?_, ?_, ?_, ?_⟩, ⟨?_, ?_⟩, ⟨?_, ?_, ?_⟩⟩ <;> first | decide +kernel | (unfold State.Sized; decide +kernel) | rfl

theorem witness_DeviceTime :
    (let s : State := wPlumb {} [(Obj.PLMB_TIME_SRC, 1), (Obj.PLMB_PPS_TOL, 1000000000)];
      let tick : Nat := 99999999999;
      let fine : Nat := 0;
      let pos : Nat := placeOf 99999999999 0 - wConv.plumbDelay 5;
      s.rd Obj.PLMB_TIME_SRC = 1 ∧ s.stampArrives tick fine = true ∧ pos = placeOf tick fine - s.plumbDelay 5 ∧ s.plumb.tod = none ∧ ((s.plumb.timeAt pos : Int) - (nearSec (s.plumb.timeAt pos) * secFine : Nat)).natAbs ≤ s.ppsTol) ∧
    (let s : State := wPlumb {} [(Obj.PLMB_TIME_SRC, 1), (Obj.PLMB_PPS_TOL, 0)];
      let tick : Nat := 99999999999;
      let fine : Nat := 0;
      let pos : Nat := placeOf 99999999999 0 - wConv.plumbDelay 5;
      s.rd Obj.PLMB_TIME_SRC = 1 ∧ s.stampArrives tick fine = true ∧ pos = placeOf tick fine - s.plumbDelay 5 ∧ s.ppsTol < ((s.plumb.timeAt pos : Int) - (nearSec (s.plumb.timeAt pos) * secFine : Nat)).natAbs ∧ s.plumb.rejects.length < 2) ∧
    (let s : State := wPlumb {} [(Obj.PLMB_TIME_SRC, 1)];
      s.rd Obj.PLMB_TIME_SRC = 1 ∧ s.plumb.second < (s.timeAt (s.tick - horizonLag) - s.ppsTol) / secFine ∧ s.plumb.misses < 2) ∧
    (let s : State := wPlumb {} [];
      let sess : Nat := 1;
      let tag : Nat := 7;
      let v : Nat := 55;
      s.serves sess tag Obj.PLMB_TOD_NEXT v = true) ∧
    (let s : State := wPlumb {} [(Obj.PLMB_TIME_SRC, 2), (Obj.PORT_STATE 0, 3)];
      let offset : Int := 5;
      let rtt : Nat := 6;
      let utc : Int := 37;
      s.rd Obj.PLMB_TIME_SRC = 2 ∧ s.portUp 0 = true ∧ -(2 ^ 35) ≤ utc ∧ utc < 2 ^ 35) ∧
    (let s : State := wPlumb {} [(Obj.PLMB_PPS_OUT_EN, 1), (Obj.PLMB_PPS_OUT_WIDTH, 320)];
      s.rdB Obj.PLMB_PPS_OUT_EN = true ∧ s.masterLocked = true ∧ 2 ≤ s.rd Obj.DEV_STATE ∧ s.plumb.ppsNext ≤ s.timeNow / secFine) ∧
    (let s : State := wPlumb { ppsHigh := some 5 } [];
      let n : Nat := 5;
      s.plumb.ppsHigh = some n ∧ n ≤ s.tick) ∧
    (let s : State := wPlumb {} [];
      let sess : Nat := 1;
      let tag : Nat := 7;
      let v : Nat := 99999999999;
      s.serves sess tag Obj.PLMB_CONV_TICK v = true ∧ v ≤ s.tick + tps ∧ s.tick ≤ v + 256 * tps ∧ ((s.plumb.pieces.getLast?).map Piece.start).getD 0 ≤ posOf v) := by
  refine ⟨⟨?_, ?_, ?_, ?_, ?_⟩, ⟨?_, ?_, ?_, ?_, ?_⟩, ⟨?_, ?_, ?_⟩, ?_, ⟨?_, ?_, ?_⟩, ⟨?_, ?_, ?_, ?_⟩, ⟨?_, ?_⟩, ⟨?_, ?_, ?_, ?_⟩⟩ <;> first | decide +kernel | (unfold State.Sized; decide +kernel) | rfl

theorem witness_TwinLink :
    (let s : State := wConv.wrAll [(Obj.TWIN_ENABLE, 1)];
      s.rd Obj.TWIN_ENABLE = 1 ∧ 2 ≤ s.rd Obj.DEV_STATE ∧ s.rd Obj.DEV_STATE ≤ 5 ∧ s.rd Obj.TWIN_STATE = 0) ∧
    (let s : State := wConv;
      s.rd Obj.TWIN_ENABLE = 0) ∧
    (let s : State := wConv.wrAll [(Obj.TWIN_ENABLE, 1), (Obj.TWIN_SENSE_STATE, 1)];
      let lane : Nat := 2;
      lane < 4 ∧ s.rd Obj.DEV_STATE ≠ 0 ∧ s.rd Obj.TWIN_ENABLE = 1 ∧ s.rd Obj.TWIN_SENSE_STATE = 1 ∧ bitOf (s.rd Obj.DIAG_FENCE_OTHER) (12 + lane) = false) ∧
    (let s : State := wPair [(Obj.TWIN_LANES, 5)] {};
      let lane : Nat := 2;
      lane < 4) ∧
    (let s : State := wConv.wrAll [(Obj.TWIN_ENABLE, 1), (Obj.TWIN_LANES, 1), (Obj.TWIN_STATE, 1), (Obj.TWIN_PEER_ID, 8)];
      let p : PeerHello := wHello;
      s.rd Obj.TWIN_LANES ≠ 0 ∧ s.twin.peer = none ∧ s.twin.guard = none ∧ s.twin.due = none ∧ 2 ≤ s.rd Obj.DEV_STATE ∧ s.rd Obj.DEV_STATE ≤ 5 ∧ s.rd Obj.TWIN_STATE = 1 ∧ s.refuseReason p ≠ 0) ∧
    (let s : State := wAnchored;
      let p : PeerHello := { wHello with anchorHash := wAnchored.anchorHash };
      s.rd Obj.TWIN_LANES ≠ 0 ∧ s.twin.peer = none ∧ s.twin.guard = none ∧ s.twin.due = none ∧ 2 ≤ s.rd Obj.DEV_STATE ∧ s.rd Obj.DEV_STATE ≤ 5 ∧ s.rd Obj.TWIN_STATE = 1 ∧ s.rd Obj.TWIN_ENABLE = 1 ∧ p.certOk = true ∧ p.signatureOk = true ∧ p.devId = s.rd Obj.TWIN_PEER_ID ∧ s.rd Obj.SEC_OWNER_STATE = 1 ∧ p.ownerState = 1 ∧ p.anchorHash = s.anchorHash ∧ p.tenonMin ≤ 1 ∧ 1 ≤ p.tenonMax ∧ p.isolated = false ∧ s.hasOutputs = true ∧ p.hasOutputs = false) ∧
    (let s : State := wPair [] { beat := some ⟨0, false, 0, true, 0⟩, sentAt := 5 };
      s.paired = true ∧ s.rd Obj.TWIN_LANES ≠ 0 ∧ s.twin.sentAt + tpus ≤ s.wall) ∧
    (let s : State := wPair [] { heard := 5 };
      let ready : Bool := false;
      let cseq : Nat := 4;
      let sense : Bool := true;
      let sinceNs : Nat := 900;
      let peerState : Nat := 4;
      let floors : List Nat := [];
      s.paired = true ∧ s.rd Obj.TWIN_LANES ≠ 0 ∧ s.rd Obj.TWIN_STATE = 2 ∧ ready = false ∧ peerState < 256) ∧
    (let s : State := wPair [] { js := some 5 };
      let cseq : Nat := 4;
      let sense : Bool := true;
      let sinceNs : Nat := 900;
      let peerState : Nat := 5;
      let js : Nat := 5;
      let floors : List Nat := [];
      s.paired = true ∧ s.rd Obj.TWIN_LANES ≠ 0 ∧ s.rd Obj.TWIN_STATE = 2 ∧ s.twin.js = some js ∧ s.rd Obj.TWIN_REVERT = 0) ∧
    (let s : State := wConv.wrAll [(Obj.TWIN_ENABLE, 1)];
      let sess : Nat := 1;
      let tag : Nat := 7;
      s.serves sess tag Obj.TWIN_ENABLE 0 = true ∧ s.rd Obj.TWIN_STATE = 0) ∧
    (let s : State := wPair [(Obj.TWIN_ENABLE, 1)] {};
      let sess : Nat := 1;
      let tag : Nat := 7;
      s.serves sess tag Obj.TWIN_ENABLE 0 = true ∧ s.rd Obj.TWIN_STATE = 2 ∧ s.twin.handover = none ∧ s.twin.subst = []) := by
  refine ⟨⟨?_, ?_, ?_, ?_⟩, ?_, ⟨?_, ?_, ?_, ?_, ?_⟩, ?_, ⟨?_, ?_, ?_, ?_, ?_, ?_, ?_, ?_⟩, ⟨?_, ?_, ?_, ?_, ?_, ?_, ?_, ?_, ?_, ?_, ?_, ?_, ?_, ?_, ?_, ?_, ?_, ?_, ?_⟩, ⟨?_, ?_, ?_⟩, ⟨?_, ?_, ?_, ?_, ?_⟩, ⟨?_, ?_, ?_, ?_, ?_⟩, ⟨?_, ?_⟩, ⟨?_, ?_, ?_, ?_⟩⟩ <;> first | decide +kernel | (unfold State.Sized; decide +kernel) | rfl

theorem witness_TwinFailure :
    (let s : State := wPair [] { heard := 5 };
      s.paired = true ∧ s.rd Obj.TWIN_STATE = 2 ∧ s.rd Obj.TWIN_SENSE_STATE = 1 ∧ s.twin.heard + 8 * tpus ≤ s.wall ∧ s.twin.subst = []) ∧
    (let s : State := wStby [] { heard := 5 };
      let j : Nat := 5;
      s.paired = true ∧ s.rd Obj.TWIN_STATE = 4 ∧ s.twin.steps = 3 ∧ s.twin.js = some j ∧ j ≤ s.tick ∧ s.twin.heard + 8 * tpus ≤ s.wall ∧ s.twin.subst = []) ∧
    (let s : State := wPair [] { heard := 400000000000, peerSince := 4000 };
      s.paired = true ∧ s.rd Obj.TWIN_STATE = 2 ∧ 4000 ≤ s.twin.peerSince ∧ s.twin.subst = []) ∧
    (let s : State := wPair [] {};
      let cause : Nat := 0;
      s.paired = true ∧ s.rd Obj.TWIN_STATE = 2 ∧ s.twin.subst = []) ∧
    (let s : State := wStby [] {};
      let j : Nat := 5;
      s.paired = true ∧ (s.rd Obj.TWIN_STATE = 5 ∨ s.rd Obj.TWIN_STATE = 4) ∧ s.twin.steps = 3 ∧ s.twin.js = some j ∧ j ≤ s.tick ∧ s.twin.subst = []) ∧
    (let s : State := wPair [] {};
      s.paired = true ∧ s.rd Obj.TWIN_STATE = 2 ∧ s.twin.subst = []) ∧
    (let s : State := wConv.wrAll [(Obj.TWIN_SENSE_STATE, 1), (Obj.TWIN_STATE, 6)];
      s.paired = false ∧ s.rd Obj.TWIN_STATE = 6) ∧
    (let s : State := { wConv.wr Obj.TWIN_STATE 5 with twin := { guard := some 9 } };
      let g : Nat := 9;
      s.twin.guard = some g ∧ g ≤ s.wall) ∧
    (let s : State := wPair [] { logWait := [(5, 4, 0, 9)] };
      let f : Nat := 5;
      let q : Nat := 4;
      let tr : Nat := 0;
      let a : Nat := 9;
      s.paired = true ∧ s.rd Obj.TWIN_STATE = 2 ∧ (f, q, tr, a) ∈ s.twin.logWait ∧ a + 8 * tpus ≤ s.wall ∧ s.twin.subst = []) ∧
    (let s : State := wPair [] { detachAt := some 5 };
      let d : Nat := 5;
      s.twin.detachAt = some d ∧ d ≤ s.tick ∧ s.rd Obj.TWIN_STATE = 2 ∧ s.twin.handover = none ∧ s.twin.subst = []) := by
  refine ⟨⟨?_, ?_, ?_, ?_, ?_⟩, ⟨?_, ?_, ?_, ?_, ?_, ?_, ?_⟩, ⟨?_, ?_, ?_, ?_⟩, ⟨?_, ?_, ?_⟩, ⟨?_, ?_, ?_, ?_, ?_, ?_⟩, ⟨?_, ?_, ?_⟩, ⟨?_, ?_⟩, ⟨?_, ?_⟩, ⟨?_, ?_, ?_, ?_, ?_⟩, ⟨?_, ?_, ?_, ?_, ?_⟩⟩ <;> first | decide +kernel | (unfold State.Sized; decide +kernel) | rfl

theorem witness_Mirroring :
    (let s : State := wMirror [] {};
      let m : MirrorItem := { wItem (.write 2 (Obj.TRIG_SRC_DIR 5) 1) with offered := false };
      s.isStandby = true ∧ s.paired = true ∧ m.offered = false) ∧
    (let s : State := wMirror [] {};
      let m : MirrorItem := wItem (.write 2 Obj.CONV_TONE_ATTEN 7);
      let i : Nat := 2;
      let v : Nat := 7;
      s.isStandby = true ∧ s.paired = true ∧ m.offered = true ∧ m.body = .write i Obj.CONV_TONE_ATTEN v ∧ s.tick < m.at_ + 640000 ∧ (s.ses i).mirror = true ∧ (s.ses i).tags = [] ∧ 1 ≤ i ∧ i < 8) ∧
    (let s : State := wMirror [] {};
      let m : MirrorItem := wItem (.sessionOpen 3 2 1 1 77 4 5 6 7);
      let i : Nat := 3;
      let role : Nat := 2;
      let dict : Nat := 1;
      let sl : Nat := 1;
      let secret : Nat := 77;
      let port : Nat := 4;
      let mac : Nat := 5;
      let ip : Nat := 6;
      let udp : Nat := 7;
      s.Sized ∧ s.isStandby = true ∧ s.paired = true ∧ m.offered = true ∧ m.body = .sessionOpen i role dict sl secret port mac ip udp ∧ 1 ≤ i ∧ i < 8) ∧
    (let s : State := wMirror [] {};
      let m : MirrorItem := wItem (.snapshot 2 8 256 100000640000 9 []);
      let i : Nat := 2;
      let tag : Nat := 8;
      let scope : Nat := 256;
      let rq : Nat := 100000640000;
      let cseq : Nat := 9;
      s.Sized ∧ s.isStandby = true ∧ s.paired = true ∧ m.offered = true ∧ m.body = .snapshot i tag scope rq cseq [] ∧ s.tick ≤ rq ∧ s.twin.steps = 3 ∧ 1 ≤ i ∧ i < 8 ∧ s.loads = State.reset.loads ∧ s.stagedOf i = []) ∧
    (let s : State := wMirror [] {};
      let m : MirrorItem := wItem (.manifest 5 99);
      let f : Nat := 5;
      let h : Nat := 99;
      s.Sized ∧ s.isStandby = true ∧ s.paired = true ∧ m.offered = true ∧ m.body = .manifest f h ∧ f < 249) ∧
    (let s : State := wPair [] {};
      let m : MirrorItem := wItem (.manifest 5 99);
      s.isStandby = false) ∧
    (let s : State := wPair [] { logWait := [(5, 4, 0, 399999999680)] };
      let f : Nat := 5;
      let q : Nat := 4;
      let tr : Nat := 0;
      let a : Nat := 399999999680;
      s.twin.logWait = [(f, q, tr, a)]) := by
  refine ⟨⟨?_, ?_, ?_⟩, ⟨?_, ?_, ?_, ?_, ?_, ?_, ?_, ?_⟩, ⟨?_, ?_, ?_, ?_, ?_, ?_⟩, ⟨?_, ?_, ?_, ?_, ?_, ?_, ?_, ?_, ?_, ?_⟩, ⟨?_, ?_, ?_, ?_, ?_, ?_⟩, ?_, ?_⟩ <;> first | decide +kernel | (unfold State.Sized; decide +kernel) | rfl

theorem witness_TwinService :
    (let s : State := wPair [(Obj.TWIN_STATE, 4)] {};
      let js : Nat := 100010000000;
      let vals : List (Nat × Nat) := [];
      let owners : List (Nat × Nat) := [];
      let eq : Bool := true;
      s.rd Obj.TWIN_STATE = 4 ∧ s.paired = true ∧ s.twin.steps ≠ 3 ∧ s.rd Obj.CONV_SYNC_MODE ≠ 1) ∧
    (let s : State := wPair [(Obj.TWIN_STATE, 4), (Obj.CONV_SYNC_MODE, 1)] {};
      let js : Nat := 5;
      let vals : List (Nat × Nat) := [];
      let owners : List (Nat × Nat) := [];
      let eq : Bool := true;
      s.rd Obj.TWIN_STATE = 4 ∧ s.paired = true ∧ s.twin.steps ≠ 3 ∧ s.rd Obj.CONV_SYNC_MODE = 1 ∧ (eq = false ∨ js < s.tick)) ∧
    (let s : State := wPair [(Obj.TWIN_STATE, 4), (Obj.CONV_SYNC_MODE, 1)] {};
      let js : Nat := 100010000000;
      let v : Nat := 7;
      s.Sized ∧ s.rd Obj.TWIN_STATE = 4 ∧ s.paired = true ∧ s.twin.steps ≠ 3 ∧ s.rd Obj.CONV_SYNC_MODE = 1 ∧ s.tick ≤ js) ∧
    (let s : State := wStby [] {};
      let j : Nat := 5;
      s.rd Obj.TWIN_STATE = 4 ∧ s.paired = true ∧ s.rd Obj.TWIN_LANES ≠ 0 ∧ s.twin.steps = 3 ∧ s.twin.js = some j ∧ j ≤ s.tick ∧ s.swaps = [] ∧ ((∀ ch, ch < 4 → s.calibrating ch = false)) ∧ s.twin.unoffered = []) ∧
    (let s : State := wMirror [] { due := some 2 };
      let r : Nat := 2;
      s.Sized ∧ s.twin.due = some r ∧ s.swaps = [] ∧ ((∀ f, f < 249 → s.flowSends f = false)) ∧ ((∀ h, h < 20 → s.rd (Obj.RSV_HIST_ENABLE h) ≠ 1))) ∧
    (let s : State := wPair [(Obj.TWIN_STATE, 3), (Obj.TWIN_CMD_AT, 100320000000)] {};
      let sess : Nat := 1;
      let tag : Nat := 7;
      s.serves sess tag Obj.TWIN_CMD 3 = true ∧ s.rd Obj.TWIN_STATE = 3 ∧ s.tick + 10 * tpms ≤ s.rd Obj.TWIN_CMD_AT ∧ s.twin.handover = none) ∧
    (let s : State := wPair [(Obj.TWIN_STATE, 3)] {};
      let sess : Nat := 1;
      let tag : Nat := 7;
      s.serves sess tag Obj.TWIN_CMD 3 = true ∧ s.rd Obj.TWIN_CMD_AT < s.tick + 10 * tpms) ∧
    (let s : State := wPair [(Obj.TWIN_CMD_AT, 100320000000)] {};
      let sess : Nat := 1;
      let tag : Nat := 7;
      s.serves sess tag Obj.TWIN_CMD 2 = true ∧ s.paired = true ∧ s.rd Obj.TWIN_STATE = 2) ∧
    (let s : State := wPair [(Obj.TWIN_STATE, 2), (Obj.TWIN_CMD_STATUS, 1)] { handover := some ⟨5, 1⟩ };
      let h : Handover := ⟨5, 1⟩;
      s.twin.handover = some h ∧ h.at_ ≤ s.tick ∧ s.twinReady = false ∧ s.conv.calWait = [] ∧ s.upd.waits = none) ∧
    (let s : State := { wPair [(Obj.TWIN_STATE, 3), (Obj.TWIN_CMD_STATUS, 1)] {} with twin := { peer := some { wHello with syncNext := none }, handover := some ⟨5, 1⟩ } };
      let h : Handover := ⟨5, 1⟩;
      let p : PeerHello := { wHello with syncNext := none };
      s.Sized ∧ s.twin.handover = some h ∧ h.at_ ≤ s.tick ∧ s.twinReady = true ∧ s.twin.peer = some p ∧ p.syncNext = none ∧ s.conv.calWait = [] ∧ s.upd.waits = none ∧ s.committedUnits = []) ∧
    (let s : State := wPair [] { subst := [(5, wAct)] };
      let f : Nat := 5;
      let seq : Nat := 4;
      s.isStandby = false) := by
  refine ⟨⟨?_, ?_, ?_, ?_⟩, ⟨?_, ?_, ?_, ?_, ?_⟩, ⟨?_, ?_, ?_, ?_, ?_, ?_⟩, ⟨?_, ?_, ?_, ?_, ?_, ?_, ?_, ?_, ?_⟩, ⟨?_, ?_, ?_, ?_, ?_⟩, ⟨?_, ?_, ?_, ?_⟩, ⟨?_, ?_⟩, ⟨?_, ?_, ?_⟩, ⟨?_, ?_, ?_, ?_, ?_⟩, ⟨?_, ?_, ?_, ?_, ?_, ?_, ?_, ?_, ?_⟩, ?_⟩ <;> first | decide +kernel | (unfold State.Sized; decide +kernel) | rfl

theorem witness_ImageStaging :
    (let s : State := wConv.wrAll [(Obj.UPD_LOCK_HOLDER, 255)];
      let sess : Nat := 1;
      let tag : Nat := 7;
      s.serves sess tag Obj.UPD_LOCK 1 = true ∧ s.rd Obj.UPD_LOCK_HOLDER = 255 ∧ s.rd Obj.UPD_STATE ≠ 4 ∧ s.rd Obj.UPD_STATE ≠ 5) ∧
    (let s : State := wConv.wrAll [(Obj.UPD_LOCK_HOLDER, 3)];
      let sess : Nat := 1;
      let tag : Nat := 7;
      let h : Nat := 3;
      s.serves sess tag Obj.UPD_LOCK 1 = true ∧ s.rd Obj.UPD_LOCK_HOLDER = h ∧ h ≠ sess ∧ h ≠ 255) ∧
    (let s : State := wUpd [(Obj.UPD_STATE, 1), (Obj.UPD_LENGTH, 512)] {};
      let sess : Nat := 1;
      let tag : Nat := 7;
      s.serves sess tag Obj.UPD_LOCK 2 = true ∧ s.rd Obj.UPD_LOCK_HOLDER = sess ∧ s.rd Obj.UPD_STATE ≠ 4 ∧ s.rd Obj.UPD_STATE ≠ 5) ∧
    (let s : State := wUpd [(Obj.UPD_STATE, 1), (Obj.UPD_LENGTH, 512)] { heard := 5 } |> fun s => { s with wall := 600 * 32000000000 + 5 };
      s.rd Obj.UPD_LOCK_HOLDER < 8 ∧ s.rd Obj.UPD_STATE ≤ 3 ∧ s.upd.heard + 600 * tps ≤ s.wall) ∧
    (let s : State := wUpd [(Obj.DEV_STATE, 6), (Obj.UPD_STATE, 7)] {};
      let sess : Nat := 1;
      let tag : Nat := 7;
      let v : Nat := 512;
      s.serves sess tag Obj.UPD_LENGTH v = true ∧ s.rd Obj.UPD_LOCK_HOLDER = sess ∧ s.rd Obj.UPD_STATE ∈ [0, 1, 3, 6, 7] ∧ 128 ≤ v ∧ v ≤ 25165824 ∧ s.rd Obj.DEV_STATE = 6) ∧
    (let s : State := wUpd [(Obj.UPD_STATE, 0), (Obj.RSV_PANS_TOTAL, 3)] {};
      let sess : Nat := 1;
      let tag : Nat := 7;
      let v : Nat := 512;
      s.serves sess tag Obj.UPD_LENGTH v = true ∧ s.rd Obj.UPD_LOCK_HOLDER = sess ∧ s.rd Obj.UPD_STATE ∈ [0, 1, 3, 6] ∧ 128 ≤ v ∧ v ≤ 25165824 ∧ s.rd Obj.DEV_STATE ≠ 6 ∧ s.rsv.small = [] ∧ s.com = [] ∧ 1 ≤ s.rd Obj.RSV_PANS_TOTAL ∧ s.pwr.suspended = false) ∧
    (let s : State := wUpd [(Obj.UPD_STATE, 1), (Obj.UPD_LENGTH, 600)] {};
      let sess : Nat := 1;
      let tag : Nat := 7;
      let v : Nat := 512;
      s.serves sess tag Obj.UPD_OFFSET v = true ∧ s.rd Obj.UPD_LOCK_HOLDER = sess ∧ s.rd Obj.UPD_STATE ≠ 4 ∧ s.rd Obj.UPD_STATE ≠ 5) ∧
    (let s : State := wUpd [(Obj.UPD_STATE, 3), (Obj.UPD_LENGTH, 600), (Obj.UPD_OFFSET, 256)] { image := some wImage };
      let sess : Nat := 1;
      let tag : Nat := 7;
      let v : Nat := 99;
      s.serves sess tag Obj.UPD_DATA v = true ∧ s.rd Obj.UPD_LOCK_HOLDER = sess ∧ s.rd Obj.UPD_STATE ∈ [1, 3] ∧ s.rd Obj.UPD_OFFSET < s.rd Obj.UPD_LENGTH) ∧
    (let s : State := wUpd [(Obj.UPD_STATE, 1), (Obj.UPD_LENGTH, 600)] {};
      let sess : Nat := 1;
      let tag : Nat := 7;
      s.serves sess tag Obj.UPD_VERIFY 1 = true ∧ s.rd Obj.UPD_LOCK_HOLDER = sess ∧ s.rd Obj.UPD_STATE ∈ [0, 1, 3, 6, 7]) ∧
    (let s : State := wOpen (wUpd [(Obj.UPD_STATE, 2), (Obj.UPD_LENGTH, 600)] { req := some wReq });
      let sig : Bool := true;
      let r : Req := wReq;
      s.rd Obj.UPD_STATE = 2 ∧ s.upd.req = some r ∧ (s.rd Obj.UPD_LENGTH = 0 ∨ s.updMissing ≠ 2 ^ 32 - 1)) ∧
    (let s : State := wOpen (wUpd [(Obj.UPD_STATE, 2), (Obj.UPD_LENGTH, 200)] { req := some wReq, blocks := [(0, 5)] });
      let sig : Bool := true;
      let r : Req := wReq;
      s.rd Obj.UPD_STATE = 2 ∧ s.upd.req = some r ∧ s.rd Obj.UPD_LENGTH ≠ 0 ∧ s.updMissing = 2 ^ 32 - 1) := by
  refine ⟨⟨?_, ?_, ?_, ?_⟩, ⟨?_, ?_, ?_, ?_⟩, ⟨?_, ?_, ?_, ?_⟩, ⟨?_, ?_, ?_⟩, ⟨?_, ?_, ?_, ?_, ?_, ?_⟩, ⟨?_, ?_, ?_, ?_, ?_, ?_, ?_, ?_, ?_, ?_⟩, ⟨?_, ?_, ?_, ?_⟩, ⟨?_, ?_, ?_, ?_⟩, ⟨?_, ?_, ?_⟩, ⟨?_, ?_, ?_⟩, ⟨?_, ?_, ?_, ?_⟩⟩ <;> first | decide +kernel | (unfold State.Sized; decide +kernel) | rfl

theorem witness_Activation :
    (let s : State := wUpd [(Obj.UPD_STATE, 3)] { image := some wImage };
      let sess : Nat := 1;
      let tag : Nat := 7;
      let i : ImageInfo := wImage;
      s.serves sess tag Obj.UPD_ACTIVATE 1 = true ∧ s.rd Obj.UPD_LOCK_HOLDER = sess ∧ s.rd Obj.UPD_STATE = 3 ∧ s.upd.image = some i ∧ s.upd.closedAt = none ∧ i.hoAcceptLo ≤ s.rd Obj.UPD_HANDOVER_FMT ∧ s.rd Obj.UPD_HANDOVER_FMT ≤ i.hoAcceptHi ∧ ((∀ ch, ch < 4 → s.calibrating ch = false)) ∧ s.conv.skew = none ∧ s.conv.align = none ∧ s.rd Obj.DEV_STATE ≠ 6 ∧ s.upd.journal = none) ∧
    (let s : State := wUpd [(Obj.UPD_STATE, 3), (Obj.UPD_HANDOVER_FMT, 12)] { image := some wImage };
      let sess : Nat := 1;
      let tag : Nat := 7;
      let i : ImageInfo := wImage;
      s.serves sess tag Obj.UPD_ACTIVATE 1 = true ∧ s.rd Obj.UPD_LOCK_HOLDER = sess ∧ s.rd Obj.UPD_STATE = 3 ∧ s.upd.image = some i ∧ s.upd.closedAt = none ∧ (s.rd Obj.UPD_HANDOVER_FMT < i.hoAcceptLo ∨ i.hoAcceptHi < s.rd Obj.UPD_HANDOVER_FMT)) ∧
    (let s : State := wUpd [(Obj.UPD_STATE, 3)] { image := some wImage };
      let sess : Nat := 1;
      let tag : Nat := 7;
      let i : ImageInfo := wImage;
      s.serves sess tag Obj.UPD_ACTIVATE 2 = true ∧ s.rd Obj.UPD_LOCK_HOLDER = sess ∧ s.rd Obj.UPD_STATE = 3 ∧ s.upd.image = some i ∧ s.upd.closedAt = none ∧ ((∀ ch, ch < 4 → s.calibrating ch = false)) ∧ s.conv.skew = none ∧ s.conv.align = none ∧ s.rd Obj.DEV_STATE ≠ 6 ∧ s.rd Obj.TWIN_STATE ≠ 3) ∧
    (let s : State := wUpd [(Obj.UPD_STATE, 4), (Obj.DEV_STATE, 6)] { journal := some ⟨wImage, 3, 0, 1⟩ };
      let page : Nat := 2;
      let j : Journal := ⟨wImage, 3, 0, 1⟩;
      s.upd.journal = some j ∧ s.rd Obj.UPD_STATE = 4 ∧ s.rd Obj.DEV_STATE = 6 ∧ s.upd.req = none) ∧
    (let s : State := wUpd [(Obj.UPD_STATE, 4)] { journal := some ⟨wImage, 3, 2, 1⟩ };
      let page : Nat := 2;
      let j : Journal := ⟨wImage, 3, 2, 1⟩;
      s.upd.journal = some j ∧ s.rd Obj.UPD_STATE = 4 ∧ s.rd Obj.DEV_STATE ≠ 6 ∧ ((∀ p ∈ s.mram, p.1 ∉ startKeys))) ∧
    (let s : State := wUpd [(Obj.UPD_STATE, 4)] { journal := some ⟨wImage, 3, 1, 1⟩ };
      let j : Journal := ⟨wImage, 3, 1, 1⟩;
      s.upd.journal = some j ∧ s.rd Obj.UPD_STATE = 4 ∧ j.mode = 1 ∧ j.source ≠ 2) ∧
    (let s : State := wUpd [(Obj.UPD_STATE, 4)] { journal := some ⟨wImage, 3, 2, 1⟩ };
      let j : Journal := ⟨wImage, 3, 2, 1⟩;
      s.upd.journal = some j ∧ s.rd Obj.UPD_STATE = 4 ∧ j.mode = 2 ∧ j.source ≠ 2) ∧
    (let s : State := wOpen (wUpd [(Obj.UPD_STATE, 5), (Obj.UPD_PROBATION, 1)] { closed := true, inForce := some wImage, req := some wReq });
      let ms : Nat := 900;
      let i : ImageInfo := wImage;
      let r : Req := wReq;
      s.handing = true ∧ ms ≤ 2000 ∧ s.upd.inForce = some i ∧ s.upd.fresh = false ∧ s.upd.req = some r ∧ s.rd Obj.DEV_STATE ≠ 6 ∧ s.rd Obj.UPD_PROBATION = 1) ∧
    (let s : State := wUpd [(Obj.UPD_STATE, 5)] { closed := true, inForce := some wImage };
      let ms : Nat := 2001;
      let ok : Bool := true;
      s.handing = true ∧ (2000 < ms ∨ ok = false) ∧ ((∀ p ∈ s.mram, p.1 ∉ startKeys))) ∧
    (let s : State := wUpd [(Obj.UPD_STATE, 6), (Obj.UPD_PROBATION, 1)] { inForce := some wImage, starts := 2 };
      let sess : Nat := 1;
      let tag : Nat := 7;
      let i : ImageInfo := wImage;
      s.serves sess tag Obj.UPD_CONFIRM 1 = true ∧ s.rd Obj.UPD_PROBATION = 1 ∧ s.upd.inForce = some i ∧ s.rd Obj.UPD_STATE = 6) ∧
    (let s : State := wUpd [(Obj.UPD_STATE, 6), (Obj.UPD_PROBATION, 1)] { inForce := some wImage, starts := 3 };
      let code : Nat := 3;
      s.probationFails code = true ∧ ((∀ p ∈ s.mram, p.1 ∉ startKeys))) ∧
    (let s : State := wConv.wrAll [(Obj.DEV_STATE, 6), (Obj.UPD_STATE, 7), (Obj.UPD_LOCK_HOLDER, 255)];
      let up : Bool := false;
      let sends : Bool := false;
      let i : ImageInfo := wImage;
      s.rd Obj.DEV_STATE = 6 ∧ s.rd Obj.UPD_STATE = 7 ∧ s.rd Obj.UPD_LOCK_HOLDER = 255 ∧ (s.rd Obj.TWIN_ENABLE = 0 ∨ up = false ∨ sends = false)) ∧
    (let s : State := wConv.wrAll [(Obj.DEV_STATE, 6), (Obj.UPD_STATE, 7), (Obj.UPD_LOCK_HOLDER, 255), (Obj.TWIN_ENABLE, 1), (Obj.UPD_FMT_MAX, 1), (Obj.UPD_FMT_MIN, 1)];
      let i : ImageInfo := { wImage with bodyLen := 8192 };
      s.rd Obj.DEV_STATE = 6 ∧ s.rd Obj.UPD_STATE = 7 ∧ s.rd Obj.UPD_LOCK_HOLDER = 255 ∧ s.rd Obj.TWIN_ENABLE = 1 ∧ s.imageCheck i (i.hlen + i.bodyLen) = 0) ∧
    (let s : State := wPair [] {};
      s.rd Obj.TWIN_LANES ≠ 0 ∧ s.rd Obj.DEV_STATE ≠ 0 ∧ s.rd Obj.DEV_STATE ≠ 6) := by
  refine ⟨⟨?_, ?_, ?_, ?_, ?_, ?_, ?_, ?_, ?_, ?_, ?_, ?_⟩, ⟨?_, ?_, ?_, ?_, ?_, ?_⟩, ⟨?_, ?_, ?_, ?_, ?_, ?_, ?_, ?_, ?_, ?_⟩, ⟨?_, ?_, ?_, ?_⟩, ⟨?_, ?_, ?_, ?_⟩, ⟨?_, ?_, ?_, ?_⟩, ⟨?_, ?_, ?_, ?_⟩, ⟨?_, ?_, ?_, ?_, ?_, ?_, ?_⟩, ⟨?_, ?_, ?_⟩, ⟨?_, ?_, ?_, ?_⟩, ⟨?_, ?_⟩, ⟨?_, ?_, ?_, ?_⟩, ⟨?_, ?_, ?_, ?_, ?_⟩, ⟨?_, ?_, ?_⟩⟩ <;> first | decide +kernel | (unfold State.Sized; decide +kernel) | rfl

theorem witness_PowerRequests :
    (let s : State := wPwr [] {};
      let sess : Nat := 1;
      let tag : Nat := 7;
      s.serves sess tag Obj.PWR_REQ 0 = true ∧ atService s) ∧
    (let s : State := wPwr [] {};
      let sess : Nat := 1;
      let tag : Nat := 7;
      s.serves sess tag Obj.PWR_REQ 2 = true ∧ atService s ∧ blocksGrant s) ∧
    (let s : State := wPwr [] {};
      let sess : Nat := 1;
      let tag : Nat := 7;
      s.serves sess tag Obj.PWR_REQ 4 = true ∧ atService s ∧ blocksGrant s) ∧
    (let s : State := (((wPwr [(Obj.PWR_W_ENABLE 0, 1), (Obj.PWR_W_SOURCE 0, 3)] {}).wrc (Obj.TRIG_SRC_KIND 3) 1).wrc (Obj.TUNE_ENABLE 0) 1).wrc (Obj.CONV_ENABLE 0) 1;
      let sess : Nat := 1;
      let tag : Nat := 7;
      s.serves sess tag Obj.PWR_REQ 3 = true ∧ atService s ∧ blocksGrant s ∧ s.programsOk = true) ∧
    (let s : State := wPwr [] {};
      let sess : Nat := 1;
      let tag : Nat := 7;
      s.serves sess tag Obj.PWR_REQ 3 = true ∧ atService s ∧ blocksGrant s ∧ s.programsOk = false) ∧
    (let s : State := wPwr [(Obj.PWR_STATE, 1)] { step := 1, cur := some { target := 2 }, asks := [(4, 1, 5)] };
      let sess : Nat := 1;
      let tag : Nat := 7;
      s.serves sess tag Obj.PWR_REQ 4 = true ∧ 2 ≤ s.rd Obj.DEV_STATE ∧ s.rd Obj.DEV_STATE ≤ 5 ∧ s.pwr.forced = false ∧ s.pwr.step = 1 ∧ s.pwr.newer = none) ∧
    (let s : State := wPwr [(Obj.PWR_STATE, 1)] { step := 1, cur := some { target := 2 }, asks := [(4, 1, 5)] };
      let row : Nat := 4;
      let d : Nat := 1;
      let a : Nat := 5;
      s.pwr.asks = [(row, d, a)] ∧ a ≤ s.wall ∧ s.pwr.step = 1 ∧ row ≠ 1 ∧ s.blockAnswer ((s.pwr.cur.map PwrReq.target).getD 0) row d = .grant ∧ s.pwr.wake = false ∧ s.pwr.newer = none) := by
  refine ⟨⟨?_, ?_⟩, ⟨?_, ?_, ?_⟩, ⟨?_, ?_, ?_⟩, ⟨?_, ?_, ?_, ?_⟩, ⟨?_, ?_, ?_, ?_⟩, ⟨?_, ?_, ?_, ?_, ?_⟩, ⟨?_, ?_, ?_, ?_, ?_, ?_, ?_⟩⟩ <;> first | decide +kernel | (unfold State.Sized; decide +kernel) | rfl

theorem witness_PowerSteps :
    (let s : State := wPwr [(Obj.PWR_STATE, 1), (Obj.PWR_SUSPEND_TICK, 640)] { step := 2, cur := some (wPReq 2) };
      s.pwr.step = 2 ∧ s.rd Obj.PWR_SUSPEND_TICK ≤ s.tick) ∧
    (let s : State := wPwr [(Obj.PWR_STATE, 1), (Obj.DEV_STATE, 4)] { step := 3, cur := some (wPReq 2), suspended := true };
      let p : PwrReq := wPReq 2;
      s.pwr.step = 3 ∧ s.swaps = [] ∧ s.pwr.forced = false ∧ s.pwr.wake = false ∧ s.pwr.newer = none ∧ s.pwr.cur = some p ∧ p.target = 2) ∧
    (let s : State := wPwr [(Obj.PWR_STATE, 1), (Obj.DEV_STATE, 4)] { step := 5, cur := some (wPReq 2), suspended := true };
      let p : PwrReq := wPReq 2;
      let r : Req := wReq;
      s.pwr.step = 5 ∧ s.pwr.suspended = true ∧ s.pwr.newer = none ∧ s.pwr.queue = none ∧ s.pwr.cur = some p ∧ p.target = 2 ∧ p.req = some r ∧ s.live r = true) ∧
    (let s : State := wPwr [(Obj.PWR_STATE, 1), (Obj.DEV_STATE, 4), (Obj.CLK_STATE, 2)] { step := 5, cur := some { target := 4 }, suspended := true };
      let p : PwrReq := { target := 4 };
      s.pwr.step = 5 ∧ s.pwr.suspended = true ∧ s.pwr.newer = none ∧ s.pwr.queue = none ∧ s.pwr.cur = some p ∧ p.target = 4 ∧ p.req = none) ∧
    (let s : State := wPwr [(Obj.PWR_STATE, 5), (Obj.DEV_STATE, 4), (Obj.RSV_STATE, 3)] { step := 6, low := 2, cur := some { target := 0 }, suspended := true };
      s.pwr.step = 6 ∧ s.pwr.low = 2 ∧ s.pwr.cold = false ∧ s.pwr.newer = none) ∧
    (let s : State := wPwr [(Obj.PWR_STATE, 5), (Obj.DEV_STATE, 4), (Obj.PWR_RESUME_TICK, 640)] { step := 7, low := 2, wasState := 3, cur := some { target := 0 }, suspended := true };
      let p : PwrReq := { target := 0 };
      s.pwr.step = 7 ∧ s.rd Obj.PWR_RESUME_TICK ≤ s.tick ∧ s.pwr.cur = some p ∧ p.target = 0 ∧ s.pwr.newer = none ∧ s.pwr.queue = none) ∧
    (let s : State := wPwr [] {};
      2 ≤ s.rd Obj.DEV_STATE ∧ s.rd Obj.DEV_STATE ≤ 5 ∧ (bitOf (s.rd Obj.PWR_WAKE_MASK) 0 = false ∨ s.rd Obj.PWR_STATE = 0)) ∧
    (let s : State := wPwr [(Obj.PWR_STATE, 2), (Obj.DEV_STATE, 4), (Obj.PWR_WAKE_MASK, 1)] { low := 2, suspended := true };
      s.rd Obj.DEV_STATE = 4 ∧ bitOf (s.rd Obj.PWR_WAKE_MASK) 0 = true ∧ s.rd Obj.PWR_STATE = 2 ∧ s.pwr.step = 0 ∧ s.pwr.suspended = true ∧ s.pwr.low = 2 ∧ s.pwr.newer = none) ∧
    (let s : State := wPwr [(Obj.PWR_STATE, 2), (Obj.DEV_STATE, 4), (Obj.PWR_WAKE_MASK, 4), (Obj.PWR_WAKE_AT, 9000)] { low := 2, suspended := true };
      s.rd Obj.DEV_STATE = 4 ∧ bitOf (s.rd Obj.PWR_WAKE_MASK) 2 = true ∧ s.rd Obj.PWR_STATE = 2 ∧ s.pwr.step = 0 ∧ s.pwr.suspended = true ∧ s.pwr.low = 2 ∧ s.pwr.newer = none ∧ s.rd Obj.PWR_WAKE_AT ≠ 0 ∧ s.rd Obj.PWR_WAKE_AT ≠ s.pwr.timed ∧ s.rd Obj.PWR_WAKE_AT ≤ s.tick) ∧
    (let s : State := wPwr [(Obj.PWR_STATE, 1), (Obj.PWR_WAKE_MASK, 8)] { step := 3, cur := some (wPReq 2) };
      let pin : Nat := 1;
      2 ≤ s.rd Obj.DEV_STATE ∧ s.rd Obj.DEV_STATE ≤ 5 ∧ pin < 4 ∧ bitOf (s.rd Obj.PWR_WAKE_MASK) 3 = true ∧ s.rd Obj.PWR_STATE = 1 ∧ s.pwr.forced = false ∧ s.pwr.step = 3) ∧
    (let s : State := wPwr [] {};
      let ma : Nat := 116000;
      atService s ∧ 115000 ≤ ma ∧ ((∀ ch, ch < 4 → s.calibrating ch = false)) ∧ s.conv.skew = none) := by
  refine ⟨⟨?_, ?_⟩, ⟨?_, ?_, ?_, ?_, ?_, ?_, ?_⟩, ⟨?_, ?_, ?_, ?_, ?_, ?_, ?_, ?_⟩, ⟨?_, ?_, ?_, ?_, ?_, ?_, ?_⟩, ⟨?_, ?_, ?_, ?_⟩, ⟨?_, ?_, ?_, ?_, ?_, ?_⟩, ⟨?_, ?_, ?_⟩, ⟨?_, ?_, ?_, ?_, ?_, ?_, ?_⟩, ⟨?_, ?_, ?_, ?_, ?_, ?_, ?_, ?_, ?_, ?_⟩, ⟨?_, ?_, ?_, ?_, ?_, ?_, ?_⟩, ⟨?_, ?_, ?_, ?_⟩⟩ <;> first | decide +kernel | (unfold State.Sized; decide +kernel) | rfl

theorem witness_WatchAndSupplies :
    (let s : State := wPwr [(Obj.PWR_STATE, 3)] { programs := [{}, { on := true, period := 32000000, next := 700 }, {}, {}] };
      let w : Nat := 1;
      s.Sized ∧ w < 4 ∧ s.rd Obj.PWR_STATE = 3 ∧ (s.program w).on = true ∧ (s.program w).next ≤ s.tick ∧ (s.program w).burst = none ∧ 1 ≤ (s.program w).period) ∧
    (let s : State := wPwr [(Obj.PWR_STATE, 3)] { programs := [{}, { on := true, period := 32000000, next := 700, burst := some 600 }, {}, {}] };
      let w : Nat := 1;
      s.Sized ∧ w < 4 ∧ s.rd Obj.PWR_STATE = 3 ∧ (s.program w).on = true ∧ (s.program w).next ≤ s.tick ∧ (s.program w).burst ≠ none ∧ 1 ≤ (s.program w).period) ∧
    (let s : State := wPwr [(Obj.PWR_STATE, 3)] { programs := [{}, { on := true, burst := some 600 }, {}, {}] };
      let w : Nat := 1;
      let b : Nat := 600;
      s.Sized ∧ w < 4 ∧ (s.program w).burst = some b ∧ b + 320000 ≤ s.tick ∧ s.pwr.hitAt ≠ some b) ∧
    (let s : State := wPwr [(Obj.PWR_STATE, 3)] { programs := [{}, { on := true, burst := some 600 }, { on := true, burst := some 600 }, {}] };
      let w : Nat := 1;
      let b : Nat := 600;
      let h : Nat × Nat := (610, 5);
      s.Sized ∧ w < 4 ∧ (s.program w).burst = some b ∧ b + 320000 ≤ s.tick ∧ ((∃ v, v < 4 ∧ v ≠ w ∧ (s.program v).burst = some b))) ∧
    (let s : State := wPwr [(Obj.PWR_SLICE_MV 3, 700)] {};
      let j : Nat := 3;
      let slack : Nat := 2000;
      let above8 : Bool := false;
      let ma : Nat := 50000;
      j < 8 ∧ 550 ≤ s.rd (Obj.PWR_SLICE_MV j) ∧ s.rd (Obj.PWR_SLICE_MV j) ≤ 800) ∧
    (let s : State := wPwr [] {};
      let j : Nat := 3;
      let temp : Int := 25601;
      j < 16 ∧ 25600 < temp ∧ temp < 2 ^ 35 ∧ s.rd Obj.PWR_THERM_EMERG ≠ 1 ∧ s.rd Obj.DEV_STATE ≠ 0) ∧
    (let s : State := wPwr [(Obj.PWR_THERM_EMERG, 1)] { emergAt := some 5 };
      let temps : List Int := List.replicate 16 24832;
      s.rd Obj.PWR_THERM_EMERG = 1 ∧ temps.length = 16 ∧ ((∀ x ∈ temps, x ≤ 24832)) ∧ ((∀ x ∈ temps, -(2 ^ 35) ≤ x))) ∧
    (let s : State := { wConv with start := { vaux := true, pvin := true, pwrgd := true } };
      s.start.pvin = true) ∧
    (let s : State := { wConv with start := { vaux := true, pvin := true, pwrgd := true } };
      s.start.pvin = true) := by
  refine ⟨⟨?_, ?_, ?_, ?_, ?_, ?_, ?_⟩, ⟨?_, ?_, ?_, ?_, ?_, ?_, ?_⟩, ⟨?_, ?_, ?_, ?_, ?_⟩, ⟨?_, ?_, ?_, ?_, ?_⟩, ⟨?_, ?_, ?_⟩, ⟨?_, ?_, ?_, ?_, ?_⟩, ⟨?_, ?_, ?_, ?_⟩, ?_, ?_⟩ <;> first | decide +kernel | (unfold State.Sized; decide +kernel) | rfl

theorem witness_SuppliesAndResets :
    (let s : State := State.reset;
      s.start.vaux = false) ∧
    (let s : State := wStart [] { vaux := true, kind := 1 };
      let a : Nat := 6;
      let tj : Int := 25600;
      s.start.vaux = true ∧ s.start.pvin = false ∧ (s.start.kind ≠ 1 ∨ tj ≤ 25600) ∧ s.start.resetLow = false) ∧
    (let s : State := wStart [] { vaux := true, kind := 1 };
      let a : Nat := 6;
      let tj : Int := 25601;
      s.start.kind = 1 ∧ 25600 < tj) ∧
    (let s : State := wStart [(Obj.DEV_START_STEP, 1)] { vaux := true, pvin := true };
      s.start.vaux = true ∧ s.start.pvin = true ∧ s.start.resetLow = false ∧ s.start.pwrgd = false ∧ s.rd Obj.DEV_START_STEP = 1 ∧ s.upd.journal = none ∧ s.upd.failed = false) ∧
    (let s : State := { wStart [(Obj.DEV_START_STEP, 1)] { vaux := true, pvin := true } with upd := { journal := some ⟨wImage, 3, 0, 1⟩ } };
      s.start.vaux = true ∧ s.start.pvin = true ∧ s.start.resetLow = false ∧ s.start.pwrgd = false ∧ s.rd Obj.DEV_START_STEP = 1 ∧ s.upd.journal ≠ none ∧ ((∀ p ∈ s.mram, p.1 ∉ startKeys))) ∧
    (let s : State := wStart [] { vaux := true, pvin := true, pwrgd := true };
      s.start.resetLow = false ∧ s.start.pwrgd = true) ∧
    (let s : State := wStart [] { vaux := true, pvin := true };
      s.start.resetLow = false ∧ s.start.pwrgd = false) ∧
    (let s : State := wStart [] { vaux := true, pvin := true, resetLow := true, pwrgd := true };
      let a : Nat := 3;
      s.start.resetLow = true ∧ s.start.pwrgd = true ∧ s.upd.journal = none ∧ s.upd.failed = false) ∧
    (let s : State := wStart [] { vaux := true, pvin := true, pwrgd := true };
      s.start.vaux = true) ∧
    (let s : State := wStart [] { vaux := true, pvin := true, pwrgd := true, loaded := true };
      let sess : Nat := 1;
      let tag : Nat := 7;
      s.serves sess tag Obj.DIAG_RESET 1 = true ∧ s.upd.journal = none ∧ s.upd.failed = false) ∧
    (let s : State := wStart [] { vaux := true, pvin := true, pwrgd := true, loaded := true };
      s.rd Obj.DEV_STATE ≠ 0 ∧ s.upd.journal = none ∧ s.upd.failed = false) ∧
    (let s : State := wStart [] { vaux := true, pvin := true, pwrgd := true, loaded := true, readyAt := some 9 };
      s.start.loaded = true ∧ s.start.resetLow = false ∧ s.rd Obj.UPD_PROBATION ≠ 1 ∧ s.start.readyAt ≠ none ∧ s.upd.journal = none ∧ s.upd.failed = false) ∧
    (let s : State := wStart [(Obj.UPD_PROBATION, 1)] { vaux := true, pvin := true, pwrgd := true, loaded := true };
      s.start.loaded = true ∧ s.start.resetLow = false ∧ s.rd Obj.UPD_PROBATION = 1 ∧ s.upd.journal = none ∧ ((∀ p ∈ s.mram, p.1 ∉ startKeys))) := by
  refine ⟨?_, ⟨?_, ?_, ?_, ?_⟩, ⟨?_, ?_⟩, ⟨?_, ?_, ?_, ?_, ?_, ?_, ?_⟩, ⟨?_, ?_, ?_, ?_, ?_, ?_, ?_⟩, ⟨?_, ?_⟩, ⟨?_, ?_⟩, ⟨?_, ?_, ?_, ?_⟩, ?_, ⟨?_, ?_, ?_⟩, ⟨?_, ?_, ?_⟩, ⟨?_, ?_, ?_, ?_, ?_, ?_⟩, ⟨?_, ?_, ?_, ?_, ?_⟩⟩ <;> first | decide +kernel | (unfold State.Sized; decide +kernel) | rfl

theorem witness_StartSequence :
    (let s : State := wStart [(Obj.DEV_STATE, 0), (Obj.DEV_START_STEP, 2)] { vaux := true, pvin := true, pwrgd := true };
      s.start.pwrgd = true ∧ s.start.resetLow = false ∧ s.start.loaded = false ∧ s.rd Obj.DEV_STATE = 0 ∧ s.rd Obj.DEV_START_STEP = 2 ∧ s.start.retries ≤ 3 ∧ s.start.retryAt ≤ s.wall ∧ s.upd.inForce = none) ∧
    (let s : State := wStart [(Obj.DEV_STATE, 0), (Obj.DEV_START_STEP, 2)] { vaux := true, pvin := true, pwrgd := true };
      s.start.pwrgd = true ∧ s.start.resetLow = false ∧ s.start.loaded = false ∧ s.rd Obj.DEV_STATE = 0 ∧ s.rd Obj.DEV_START_STEP = 2 ∧ s.start.retries ≤ 3 ∧ s.start.retryAt ≤ s.wall ∧ ((∀ p ∈ s.mram, p.1 ∉ startKeys))) ∧
    (let s : State := wStart [(Obj.DEV_STATE, 0), (Obj.DEV_START_STEP, 3)] { vaux := true, pvin := true, pwrgd := true, loaded := true };
      s.start.loaded = true ∧ s.start.resetLow = false ∧ s.rd Obj.DEV_START_STEP = 3 ∧ s.rd Obj.UPD_PROBATION ≠ 1 ∧ s.storedClock = []) ∧
    (let s : State := { wStart [(Obj.DEV_STATE, 0), (Obj.DEV_START_STEP, 3)] { vaux := true, pvin := true, pwrgd := true, loaded := true } with mram := [(Obj.CLK_REF_SEL, 2)] };
      let v : Nat := 1;
      s.start.loaded = true ∧ s.start.resetLow = false ∧ s.rd Obj.DEV_START_STEP = 3 ∧ s.storedClock = [(Obj.CLK_REF_SEL, v + 1)]) ∧
    (let s : State := wStart [(Obj.DEV_STATE, 0), (Obj.DEV_START_STEP, 3)] { vaux := true, pvin := true, pwrgd := true, loaded := true };
      s.start.loaded = true ∧ s.start.resetLow = false ∧ s.rd Obj.DEV_START_STEP = 3) ∧
    (let s : State := { wStart [(Obj.DEV_STATE, 1), (Obj.CLK_STATE, 2)] { loaded := true, setAt := 5 } with mram := [(Obj.CONV_CAL_AT_START, 1)] };
      let slices : List Nat := [3, 9, 3];
      let remap : Nat := 5;
      s.rd Obj.DEV_STATE = 1 ∧ s.start.tested = false ∧ s.rd Obj.CLK_STATE = 2 ∧ s.stored Obj.CONV_CAL_AT_START ≠ 1 ∧ remap ≤ 12288) ∧
    (let s : State := { wStart [(Obj.DEV_STATE, 1), (Obj.CLK_STATE, 2)] { loaded := true, tested := true, begun := 5, setAt := 5 } with rsv := { wConv.rsv with trained := true } };
      s.Sized ∧ s.rd Obj.DEV_STATE = 1 ∧ s.start.tested = true ∧ s.rsv.trained = true ∧ ((∀ ch, ch < 4 → s.calibrating ch = false)) ∧ s.mram = [] ∧ s.upd.fresh = false ∧ s.missing = 0 ∧ s.start.noSet = false ∧ s.rd Obj.TWIN_ENABLE = 0) ∧
    (let s : State := { wStart [(Obj.DEV_STATE, 1), (Obj.CLK_STATE, 7)] { loaded := true, tested := true, begun := 5, setAt := 5 } with rsv := { wConv.rsv with trained := true } };
      s.rd Obj.DEV_STATE = 1 ∧ s.start.tested = true ∧ s.rsv.trained = true ∧ ((∀ ch, ch < 4 → s.calibrating ch = false)) ∧ s.mram = [] ∧ s.upd.fresh = false ∧ s.rd Obj.CLK_STATE = 7) ∧
    (let s : State := wStart [(Obj.DEV_STATE, 1), (Obj.DEV_START_STEP, 6)] { pwrgd := true, begun := 5 };
      s.start.slow = false ∧ s.rd Obj.DEV_STATE ≤ 1 ∧ s.start.pwrgd = true ∧ s.start.resetLow = false ∧ s.start.begun + 4 * tps ≤ s.wall) := by
  refine ⟨⟨?_, ?_, ?_, ?_, ?_, ?_, ?_, ?_⟩, ⟨?_, ?_, ?_, ?_, ?_, ?_, ?_, ?_⟩, ⟨?_, ?_, ?_, ?_, ?_⟩, ⟨?_, ?_, ?_, ?_⟩, ⟨?_, ?_, ?_⟩, ⟨?_, ?_, ?_, ?_, ?_⟩, ⟨?_, ?_, ?_, ?_, ?_, ?_, ?_, ?_, ?_, ?_⟩, ⟨?_, ?_, ?_, ?_, ?_, ?_, ?_⟩, ⟨?_, ?_, ?_, ?_, ?_⟩⟩ <;> first | decide +kernel | (unfold State.Sized; decide +kernel) | rfl

theorem witness_FencingAndLog :
    (let s : State := wStart [] { tested := true };
      let j : Nat := 3;
      let src : Nat := 5;
      let seq : Nat := 6;
      j < 8 ∧ bitOf (s.rd Obj.DIAG_FENCE_SLICES) j = false ∧ s.rd Obj.DEV_STATE ≠ 0 ∧ s.start.tokens.length = 8) ∧
    (let s : State := { wStart [] { tested := true } with shed := { wConv.shed with nextStep := 500000000000 } };
      let j : Nat := 3;
      j < 8 ∧ bitOf (s.rd Obj.DIAG_FENCE_SLICES) j = false ∧ s.start.tested = true ∧ s.wall < s.shed.nextStep ∧ s.paired = false) ∧
    (let s : State := { wConv.wr Obj.DIAG_ALERT_PENDING 1 with log := { wConv.log with alertAt := 5 } };
      let sess : Nat := 1;
      let tag : Nat := 7;
      s.serves sess tag Obj.DIAG_ALERT_ACK 1 = true ∧ s.log.alertAt < s.wall) ∧
    (let s : State := { wConv with log := { wConv.log with ring := [wEntry 9, wEntry 8], lastSnap := 8, due := true } };
      let e : LogEntry := wEntry 9;
      let l : List LogEntry := [wEntry 8];
      s.rd Obj.DEV_STATE ≠ 0 ∧ s.log.ring = e :: l ∧ s.log.lastSnap < e.seq ∧ ((∀ x ∈ l, x.seq ≤ s.log.lastSnap)) ∧ s.log.due = true ∧ s.snapAllowed = true) ∧
    (let s : State := { (wConv.wrc Obj.SCAN_ENABLE 1) with tick := 2 ^ 64 - 2 ^ 36 };
      2 ^ 64 - 2 ^ 36 ≤ s.tick ∧ s.rdc Obj.SCAN_ENABLE = 1 ∧ s.committedUnits = [] ∧ s.holder ⟨.global, Obj.SCAN_ENABLE⟩ = none) := by
  refine ⟨⟨?_, ?_, ?_, ?_⟩, ⟨?_, ?_, ?_, ?_, ?_⟩, ⟨?_, ?_⟩, ⟨?_, ?_, ?_, ?_, ?_, ?_⟩, ⟨?_, ?_, ?_, ?_⟩⟩ <;> first | decide +kernel | (unfold State.Sized; decide +kernel) | rfl

theorem witness_RefusedCommits :
    (let s : State := wOpen { (wConv.stagePut 1 (Obj.XFM_ENABLE 2) 1) with swaps := [{ wCommit with vals := [(Obj.XFM_ENABLE 2, 1)], groups := 4 }] };
      let w : Swap := { wCommit with vals := [(Obj.XFM_ENABLE 2, 1)], groups := 4 };
      let v : Refused := { reason := 2, obj := 3703296 };
      s.Sized ∧ s.swaps = [w] ∧ s.live w.req = true ∧ w.req.sess = w.sess ∧ w.sess < 8 ∧ w.validating = true ∧ s.verdict w = some v ∧ (s.ses w.sess).deferred = [] ∧ (s.ses w.sess).mirror = false) := by
  refine ⟨?_, ?_, ?_, ?_, ?_, ?_, ?_, ?_, ?_⟩ <;> first | decide +kernel | (unfold State.Sized; decide +kernel) | rfl

theorem witness_Commits :
    (let s : State := (wConv.wr (sk 1 Obj.DEV_JOINT_AT) 200000000000).stagePut 1 (Obj.TRIG_SRC_WIDTH 5) 7;
      let sess : Nat := 1;
      let tag : Nat := 7;
      let g : Nat := 16;
      s.serves sess tag Obj.DEV_COMMIT 1 = true ∧ s.commitClosed = false ∧ s.validating sess = false ∧ s.scopeOf sess = g ∧ bitOf g 9 = false ∧ Nat.land g (s.busyGroups sess) = 0) ∧
    (let s : State := wConv.wr Obj.DEV_STATE 4;
      let sess : Nat := 1;
      let tag : Nat := 7;
      s.serves sess tag Obj.DEV_COMMIT 1 = true ∧ s.rd Obj.DEV_STATE ≠ 2 ∧ s.rd Obj.DEV_STATE ≠ 3) ∧
    (let s : State := wOpen { (wConv.stagePut 1 (Obj.TRIG_SRC_WIDTH 5) 7) with swaps := [wCommit] };
      let w : Swap := wCommit;
      let k : Nat := Obj.TRIG_SRC_WIDTH 5;
      let v : Nat := 7;
      s.Sized ∧ s.swaps = [w] ∧ s.live w.req = true ∧ w.req.sess = w.sess ∧ w.sess < 8 ∧ w.validating = true ∧ w.cause = none ∧ w.tables = [] ∧ w.vals = [(k, v)] ∧ bitOf w.groups 9 = false ∧ s.hasStandby = false ∧ s.verdict w = none) ∧
    (let s : State := wConv.stagePut 1 (Obj.TRIG_SRC_WIDTH 5) 7;
      let sess : Nat := 1;
      let tag : Nat := 7;
      s.serves sess tag Obj.DEV_COMMIT 2 = true ∧ s.commitClosed = false ∧ s.validating sess = false ∧ Nat.land (s.scopeOf sess) (s.busyGroups sess) = 0) ∧
    (let s : State := wConv.stagePut 1 (Obj.TRIG_SRC_WIDTH 5) 7;
      let sess : Nat := 1;
      let tag : Nat := 7;
      s.serves sess tag Obj.DEV_COMMIT 3 = true ∧ s.commitClosed = false ∧ s.validating sess = false ∧ Nat.land (s.scopeOf sess) (s.busyGroups sess) = 0) ∧
    (let s : State := wOpen { wConv with swaps := [{ wCommit with validating := false }] };
      let w : Swap := { wCommit with validating := false };
      s.Sized ∧ s.swaps = [w] ∧ w.sess < 8 ∧ (s.ses w.sess).isOpen = true ∧ (s.ses w.sess).inc = w.req.inc ∧ w.validating = false ∧ w.units = [] ∧ w.cause = none ∧ w.receipt = none ∧ (s.ses w.sess).deferred = []) ∧
    (let s : State := { wConv.wr (Obj.DEV_SESS_STATE 2) 2 with swaps := [{ wCommit with sess := 2, req := ⟨2, 0, 0, 0⟩, validating := false, cause := some 0, vals := [], reqTick := 5 }] };
      let w : Swap := { wCommit with sess := 2, req := ⟨2, 0, 0, 0⟩, validating := false, cause := some 0, vals := [], reqTick := 5 };
      s.Sized ∧ s.swaps = [w] ∧ w.sess < 8 ∧ (s.ses w.sess).isOpen = false ∧ w.validating = false ∧ w.units = [] ∧ w.cause = some 0 ∧ w.receipt = none ∧ w.reqTick ≤ s.tick ∧ ((∀ f, f < 249 → s.holder ⟨.flow, f⟩ ≠ some (w.sess + 8)))) ∧
    (let s : State := wOpen { wConv with swaps := [{ wCommit with validating := false, receipt := some 5 }] };
      let w : Swap := { wCommit with validating := false, receipt := some 5 };
      s.swaps = [w] ∧ w.receipt ≠ none) ∧
    (let s : State := wOpen { wPair [(Obj.TWIN_STATE, 3)] {} with swaps := [{ wCommit with validating := false, receipt := some 5 }] };
      let w : Swap := { wCommit with validating := false, receipt := some 5 };
      let a : Nat := 5;
      s.swaps = [w] ∧ w.receipt = some a ∧ a + tpms ≤ s.wall) := by
  refine ⟨⟨?_, ?_, ?_, ?_, ?_, ?_⟩, ⟨?_, ?_, ?_⟩, ⟨?_, ?_, ?_, ?_, ?_, ?_, ?_, ?_, ?_, ?_, ?_, ?_⟩, ⟨?_, ?_, ?_, ?_⟩, ⟨?_, ?_, ?_, ?_⟩, ⟨?_, ?_, ?_, ?_, ?_, ?_, ?_, ?_, ?_, ?_⟩, ⟨?_, ?_, ?_, ?_, ?_, ?_, ?_, ?_, ?_, ?_⟩, ⟨?_, ?_⟩, ⟨?_, ?_, ?_⟩⟩ <;> first | decide +kernel | (unfold State.Sized; decide +kernel) | rfl

theorem witness_Trust :
    (let s : State := wConv;
      let sess : Nat := 1;
      let tag : Nat := 7;
      let slot : Nat := 2;
      let off : Nat := 5;
      let word : Nat := 77;
      slot < 8 ∧ off < 512 ∧ word < 2 ^ 32 ∧ s.serves sess tag Obj.SEC_ANCHOR_WRITE (slot * 2 ^ 48 + off * 2 ^ 36 + word) = true) ∧
    (let s : State := wConv;
      let sess : Nat := 1;
      let tag : Nat := 7;
      let v : Nat := 512 * 2 ^ 36;
      s.serves sess tag Obj.SEC_ANCHOR_WRITE v = true ∧ (2 ^ 51 ≤ v ∨ 512 ≤ v / 2 ^ 36 % 4096 ∨ 2 ^ 32 ≤ v % 2 ^ 36)) ∧
    (let s : State := wConv.wr (sk 1 Obj.SEC_ANCHOR_STAGE_LEN) 9;
      let sess : Nat := 1;
      let tag : Nat := 7;
      let role : Nat := 1;
      let slot : Nat := 3;
      s.serves sess tag Obj.SEC_ANCHOR_CMD (2 ^ 16 + role * 256 + slot) = true ∧ role ≤ 2 ∧ slot ≤ 7 ∧ s.sec.lastCmd = none ∧ (s.stagedCert sess slot).isEmpty = false ∧ s.rd Obj.TWIN_STATE ≠ 7) ∧
    (let s : State := wConv.wr (sk 1 Obj.SEC_ANCHOR_STAGE_LEN) 9;
      let sess : Nat := 1;
      let tag : Nat := 7;
      let role : Nat := 1;
      let slot : Nat := 3;
      let pa : Bool := true;
      let p3 : Bool := false;
      let ca : Bool := true;
      let sg : Bool := true;
      s.serves sess tag Obj.SEC_ANCHOR_CMD (2 ^ 16 + role * 256 + slot) = true ∧ role ≤ 2 ∧ slot ≤ 7 ∧ s.sec.lastCmd = none ∧ (pa && p3 && ca && sg) = false) ∧
    (let s : State := wConv.wrAll [(Obj.SEC_ANCHOR_ROLE 3, 1)];
      let sess : Nat := 1;
      let tag : Nat := 7;
      let slot : Nat := 3;
      s.serves sess tag Obj.SEC_ANCHOR_CMD (2 * 2 ^ 16 + slot) = true ∧ slot ≤ 7 ∧ s.sec.lastCmd = none ∧ s.rd Obj.SEC_OWNER_STATE ≠ 1 ∧ s.rd Obj.TWIN_STATE ≠ 7) ∧
    (let s : State := wConv.wrAll [(Obj.SEC_ANCHOR_ROLE 3, 1), (Obj.SEC_OWNER_STATE, 1)];
      let sess : Nat := 1;
      let tag : Nat := 7;
      let slot : Nat := 3;
      s.serves sess tag Obj.SEC_ANCHOR_CMD (2 * 2 ^ 16 + slot) = true ∧ slot ≤ 7 ∧ s.sec.lastCmd = none ∧ s.rd Obj.SEC_OWNER_STATE = 1 ∧ ((∀ i, i < 8 → i ≠ slot → s.rd (Obj.SEC_ANCHOR_ROLE i) = 255))) ∧
    (let s : State := (wConv.updSes 0 fun _ => { isOpen := true, inc := 1, ver := 1, role := 2 }).wrAll [(Obj.SEC_ANCHOR_ROLE 3, 1)];
      let tag : Nat := 7;
      let i : Nat := 3;
      s.serves 0 tag Obj.SEC_PROVISION 1 = true ∧ i < 8 ∧ s.rd (Obj.SEC_ANCHOR_ROLE i) ≠ 255 ∧ s.rd Obj.TWIN_STATE ≠ 7) ∧
    (let s : State := wConv;
      let sess : Nat := 1;
      let tag : Nat := 7;
      let v : Nat := 1;
      s.takes sess tag = true ∧ sess ≠ 0) ∧
    (let s : State := wConv.wr (sk 1 Obj.SEC_ATTEST_NONCE) 99;
      let sess : Nat := 1;
      let tag : Nat := 7;
      s.serves sess tag Obj.SEC_ATTEST_CMD 1 = true ∧ s.forming sess = none ∧ s.upd.closed = false ∧ s.sec.forming.length = 8) ∧
    (let s : State := wOpen { wConv with sec := { wConv.sec with forming := [none, some ⟨wReq, 99⟩, none, none, none, none, none, none] } };
      let sess : Nat := 1;
      let a : Attest := ⟨wReq, 99⟩;
      s.forming sess = some a) := by
  refine ⟨⟨?_, ?_, ?_, ?_⟩, ⟨?_, ?_⟩, ⟨?_, ?_, ?_, ?_, ?_, ?_⟩, ⟨?_, ?_, ?_, ?_, ?_⟩, ⟨?_, ?_, ?_, ?_, ?_⟩, ⟨?_, ?_, ?_, ?_, ?_⟩, ⟨?_, ?_, ?_, ?_⟩, ⟨?_, ?_⟩, ⟨?_, ?_, ?_, ?_⟩, ?_⟩ <;> first | decide +kernel | (unfold State.Sized; decide +kernel) | rfl

theorem witness_CheckOrder :
    (let s : State := wS2;
      let sess : Nat := 1;
      let k : Nat := Obj.CONV_ENABLE 1;
      let r : Row := wRow (Obj.CONV_ENABLE 1);
      let v : Option Nat := some 1;
      findRow (k / 256) (k % 256) = some r) ∧
    (let s : State := wS2;
      let sess : Nat := 1;
      let k : Nat := Obj.CONV_ENABLE 1;
      let r : Row := wRow (Obj.CONV_ENABLE 1);
      findRow (k / 256) (k % 256) = some r) ∧
    (let s : State := wS2;
      let sess : Nat := 1;
      let k : Nat := 0x7FFF00;
      let write : Bool := true;
      let v : Option Nat := some 1;
      (s.ses sess).ver ≠ 0 ∧ findRow (k / 256) (k % 256) = none) ∧
    (let s : State := (wS2.updSes 1 fun x => { x with role := 1 }).own ⟨.context, 3⟩ 2 true;
      let sess : Nat := 1;
      let k : Nat := Obj.XFM_ENABLE 3;
      let r : Row := wRow (Obj.XFM_ENABLE 3);
      let v : Nat := 1;
      let h : Nat := 2;
      (s.ses sess).ver ≠ 0 ∧ (s.ses sess).role ≠ 0 ∧ k < 0x800000 ∧ s.rd Obj.DEV_STATE ≠ 6 ∧ s.isStandby = false ∧ findRow (k / 256) (k % 256) = some r ∧ r.acc = .sh ∧ r.adm = false ∧ isClaim k = false ∧ s.holder (ownId k) = some h ∧ h ≠ sess) ∧
    (let c : Instr := .detHoldClear 1 7 3 1;
      let s : State := wS2.updSes 1 fun x => { x with role := 0 };
      let sess : Nat := 1;
      let tag : Nat := 7;
      let k : Nat := Obj.DET_HOLD_CLEAR 3;
      let v : Nat := 1;
      let st : Status := .denied;
      let d : Nat := 0;
      requestOf c = some (sess, tag, k, v) ∧ s.takes sess tag = true ∧ s.check sess k true (fits k v) = .fail st d) := by
  refine ⟨?_, ?_, ⟨?_, ?_⟩, ⟨?_, ?_, ?_, ?_, ?_, ?_, ?_, ?_, ?_, ?_, ?_⟩, ⟨?_, ?_, ?_⟩⟩ <;> first | decide +kernel | (unfold State.Sized; decide +kernel) | rfl

theorem witness_UntakenRequests :
    (let c : Instr := .devCommit 3 7;
      let s : State := State.reset;
      let sess : Nat := 3;
      let tag : Nat := 7;
      let k : Nat := Obj.DEV_COMMIT;
      let v : Nat := 1;
      requestOf c = some (sess, tag, k, v) ∧ (s.rd Obj.DEV_STATE = 0 ∨ 8 ≤ sess ∨ s.handing = true ∨ ((s.ses sess).isOpen = false ∧ sess ≠ 0))) ∧
    (let c : Instr := .devCommit 0 7;
      let s : State := (State.reset.wr Obj.DEV_STATE 2);
      let tag : Nat := 7;
      let k : Nat := Obj.DEV_COMMIT;
      let v : Nat := 1;
      requestOf c = some (0, tag, k, v) ∧ s.Sized ∧ s.rd Obj.DEV_STATE ≠ 0 ∧ s.handing = false ∧ (s.ses 0).isOpen = false ∧ (s.ses 0).mirror = false) ∧
    (let c : Instr := .devCommit 1 7;
      let s : State := wS2.updSes 1 fun x => { x with tags := [7] };
      let sess : Nat := 1;
      let tag : Nat := 7;
      let k : Nat := Obj.DEV_COMMIT;
      let v : Nat := 1;
      requestOf c = some (sess, tag, k, v) ∧ s.Sized ∧ sess < 8 ∧ s.rd Obj.DEV_STATE ≠ 0 ∧ s.handing = false ∧ (s.ses sess).isOpen = true ∧ s.tagTaken sess tag = true) ∧
    (let c : Instr := .devCommit 1 77;
      let s : State := wS2.updSes 1 fun x => { x with tags := List.range 64 };
      let sess : Nat := 1;
      let tag : Nat := 77;
      let k : Nat := Obj.DEV_COMMIT;
      let v : Nat := 1;
      requestOf c = some (sess, tag, k, v) ∧ s.Sized ∧ sess < 8 ∧ s.rd Obj.DEV_STATE ≠ 0 ∧ s.handing = false ∧ (s.ses sess).isOpen = true ∧ (s.ses sess).mirror = false ∧ s.tagTaken sess tag = false ∧ 64 ≤ s.requests sess) := by
  refine ⟨⟨?_, ?_⟩, ⟨?_, ?_, ?_, ?_, ?_, ?_⟩, ⟨?_, ?_, ?_, ?_, ?_, ?_, ?_⟩, ⟨?_, ?_, ?_, ?_, ?_, ?_, ?_, ?_, ?_⟩⟩ <;> first | decide +kernel | (unfold State.Sized; decide +kernel) | rfl

theorem witness_UncertaintyBound :
    (let s : State := (State.reset.wr Obj.PLMB_TIME_STATE 2).wr Obj.PLMB_PPS_ACC 500;
      (s.rd Obj.PLMB_TIME_STATE = 1 ∨ s.rd Obj.PLMB_TIME_STATE = 2)) ∧
    (let s : State := { (State.reset.wr Obj.PLMB_TIME_STATE 3) with plumb := { State.reset.plumb with ptp := [(5, 65536, 7000), (6, -196608, 9000)] } };
      let hi : Nat := 9000;
      let lo : Nat := 7000;
      s.rd Obj.PLMB_TIME_STATE = 3 ∧ ((∀ o ∈ s.plumb.ptp, lo ≤ o.2.2 ∧ o.2.2 ≤ hi)) ∧ ((∃ o ∈ s.plumb.ptp, o.2.2 = hi)) ∧ ((∃ o ∈ s.plumb.ptp, o.2.2 = lo))) ∧
    (let s : State := { ((State.reset.wr Obj.PLMB_TIME_STATE 4).wr Obj.PLMB_TIME_SRC 1) with wall := 64000000000 };
      s.rd Obj.PLMB_TIME_STATE = 4 ∧ s.rd Obj.PLMB_TIME_SRC ≠ 3) ∧
    (let s : State := State.reset;
      s.rd Obj.PLMB_TIME_STATE = 0) ∧
    (let s : State := wS2;
      let sess : Nat := 1;
      let tag : Nat := 7;
      let row : Row := wRow Obj.PLMB_UNCERT;
      s.takes sess tag = true ∧ (s.ses sess).inbox = [] ∧ s.i3c.inbox = [] ∧ s.check sess Obj.PLMB_UNCERT false (some 0) = .pass row) := by
  refine ⟨?_, ⟨?_, ?_, ?_, ?_⟩, ⟨?_, ?_⟩, ?_, ⟨?_, ?_, ?_, ?_⟩⟩ <;> first | decide +kernel | (unfold State.Sized; decide +kernel) | rfl

theorem witness_StepTakesTheFront :
    (let c : Instr := .devCommit 1 7;
      let l : List Instr := [.convJoint 3];
      let s : State := { wS2 with pending := [.devCommit 1 7, .convJoint 3] };
      s.pending = c :: l) ∧
    (let s : State := wS2;
      s.Sized ∧ s.pending = [] ∧ ((∀ ch, ch < 4 → (s.chan ch).fill = 0))) := by
  refine ⟨?_, ⟨?_, ?_, ?_⟩⟩ <;> first | decide +kernel | (unfold State.Sized; decide +kernel) | rfl

end Sys2Proof.Tests
end
end

/-! ## The invariant of every step

`Sound` collects what every command keeps: the engine has its units and the stores of values are canonical.
One lemma per shared operation and per command says that it is kept; each follows the operation's own text,
citing the lemmas of the operations that it calls. -/

namespace Sys2Proof.Machine

/-- The engine has the units the manual gives it, and the stores of values are in canonical form. -/
def Sound (s : State) : Prop := s.Sized ∧ StoresWf s

/-- A command's answer on `s`: the next state is `done s t` for a `t` that is sound where `s` is. -/
def Answered (s : State) (o : Host.Outcome State Fault Refusal) : Prop := ∃ t, (Sound s → Sound t) ∧ o = done s t

namespace Sound

variable {s t : State}

/-! ### How it is shown -/

/-- Nothing but the units' numbers and the three stores matters. -/
theorem same (hs : Sound s) (hd : t.dims = s.dims) (ho : t.obj = s.obj) (hc : t.com = s.com) (hg : t.staged = s.staged) : Sound t := by
  unfold Sound State.Sized StoresWf at *
  rw [hd, ho, hc, hg]
  exact hs

theorem ite {c : Prop} [Decidable c] (hs : Sound s) (ht : Sound t) : Sound (if c then s else t) := by
  split
  · exact hs
  · exact ht

theorem foldl {α : Type} {f : State → α → State} {l : List α} (hs : Sound s) (hf : ∀ t a, Sound t → Sound (f t a)) :
    Sound (l.foldl f s) :=
  List.foldlRecOn l f hs fun t ht a _ => hf t a ht

theorem foldr {α : Type} {f : α → State → State} {l : List α} (hs : Sound s) (hf : ∀ a t, Sound t → Sound (f a t)) :
    Sound (l.foldr f s) :=
  List.foldrRecOn l f hs fun t ht a _ => hf a t ht

/-- As `foldl`, where the state is carried with something else. -/
theorem foldl_fst {α β : Type} {f : State × β → α → State × β} {l : List α} {p : State × β} (hp : Sound p.1)
    (hf : ∀ q a, Sound q.1 → Sound (f q a).1) : Sound (l.foldl f p).1 :=
  List.foldlRecOn (motive := fun q => Sound q.1) l f hp fun q hq a _ => hf q a hq

/-- The state of a pair that an operation answers. -/
theorem of_eq {α : Type} {p : State × α} {x : α} (h : Sound p.1) (e : p = (t, x)) : Sound t := by
  subst e; exact h

/-! ### Fields that the invariant does not look at -/

theorem withTick {x : Nat} (hs : Sound s) : Sound { s with tick := x } := hs.same rfl rfl rfl rfl
theorem withFree {x : Nat} (hs : Sound s) : Sound { s with free := x } := hs.same rfl rfl rfl rfl
theorem withPending {x : List Instr} (hs : Sound s) : Sound { s with pending := x } := hs.same rfl rfl rfl rfl
theorem withMram {x : Mem} (hs : Sound s) : Sound { s with mram := x } := hs.same rfl rfl rfl rfl
theorem withLog {x : Log} (hs : Sound s) : Sound { s with log := x } := hs.same rfl rfl rfl rfl
theorem withI3c {x : I3c} (hs : Sound s) : Sound { s with i3c := x } := hs.same rfl rfl rfl rfl
theorem withSwaps {x : List Swap} (hs : Sound s) : Sound { s with swaps := x } := hs.same rfl rfl rfl rfl
theorem withOwners {x : List Owner} (hs : Sound s) : Sound { s with owners := x } := hs.same rfl rfl rfl rfl
theorem withWire {x : List SentFrame} (hs : Sound s) : Sound { s with wire := x } := hs.same rfl rfl rfl rfl
theorem withConv {x : ConvGlobal} (hs : Sound s) : Sound { s with conv := x } := hs.same rfl rfl rfl rfl
theorem withShed {x : Shedding} (hs : Sound s) : Sound { s with shed := x } := hs.same rfl rfl rfl rfl
theorem withGens {x : List (UnitId × Nat)} (hs : Sound s) : Sound { s with gens := x } := hs.same rfl rfl rfl rfl
theorem withFormed {x : Nat} (hs : Sound s) : Sound { s with formed := x } := hs.same rfl rfl rfl rfl
theorem withTwin {x : Twin} (hs : Sound s) : Sound { s with twin := x } := hs.same rfl rfl rfl rfl
theorem withClk {x : Clk} (hs : Sound s) : Sound { s with clk := x } := hs.same rfl rfl rfl rfl
theorem withPlumb {x : Plumb} (hs : Sound s) : Sound { s with plumb := x } := hs.same rfl rfl rfl rfl
theorem withOpens {x : List OpenAsm} (hs : Sound s) : Sound { s with opens := x } := hs.same rfl rfl rfl rfl
theorem withOpenTimes {x : List Nat} (hs : Sound s) : Sound { s with openTimes := x } := hs.same rfl rfl rfl rfl
theorem withAnchorAt {x : Nat} (hs : Sound s) : Sound { s with anchorAt := x } := hs.same rfl rfl rfl rfl
theorem withSigned {x : Nat × Nat} (hs : Sound s) : Sound { s with signed := x } := hs.same rfl rfl rfl rfl
theorem withScan {x : Scan} (hs : Sound s) : Sound { s with scan := x } := hs.same rfl rfl rfl rfl
theorem withUpd {x : Upd} (hs : Sound s) : Sound { s with upd := x } := hs.same rfl rfl rfl rfl
theorem withSec {x : Sec} (hs : Sound s) : Sound { s with sec := x } := hs.same rfl rfl rfl rfl
theorem withStart {x : Start} (hs : Sound s) : Sound { s with start := x } := hs.same rfl rfl rfl rfl
theorem withWallPending {a : Nat} {b : List Instr} (hs : Sound s) : Sound { s with wall := a, pending := b } := hs.same rfl rfl rfl rfl
theorem withTickWall {a b : Nat} (hs : Sound s) : Sound { s with tick := a, wall := b } := hs.same rfl rfl rfl rfl
theorem withTickPlumb {a : Nat} {b : Plumb} (hs : Sound s) : Sound { s with tick := a, plumb := b } := hs.same rfl rfl rfl rfl
theorem withSwapsSwapId {a : List Swap} {b : Nat} (hs : Sound s) : Sound { s with swaps := a, swapId := b } := hs.same rfl rfl rfl rfl
theorem withSwapsSwapIdCommits {a : List Swap} {b c : Nat} (hs : Sound s) :
    Sound { s with swaps := a, swapId := b, commits := c } := hs.same rfl rfl rfl rfl

/-! ### Fields that hold units: their number stays -/

theorem sess_length (hs : Sound s) : s.sess.length = 8 := (List.cons.inj hs.1).1
theorem pch_length (hs : Sound s) : s.rsv.pch.length = 128 := congrArg (·.getD 3 0) hs.1
theorem chans_length (hs : Sound s) : s.chans.length = 4 := congrArg (·.getD 12 0) hs.1
theorem programs_length (hs : Sound s) : s.pwr.programs.length = 4 := congrArg (·.getD 18 0) hs.1

theorem withSess {l : List Sess} (hs : Sound s) (h : l.length = s.sess.length) : Sound { s with sess := l } :=
  hs.same (by simp only [State.dims, h]) rfl rfl rfl

theorem withDets {l : List Det} (hs : Sound s) (h : l.length = s.dets.length) : Sound { s with dets := l } :=
  hs.same (by simp only [State.dims, h]) rfl rfl rfl

theorem withRsv {r : Reservoir} (hs : Sound s)
    (h : (r.rings.length, r.pch.length, r.replays.length) = (s.rsv.rings.length, s.rsv.pch.length, s.rsv.replays.length) := by dsimp only) :
    Sound { s with rsv := r } := by
  simp only [Prod.mk.injEq] at h
  obtain ⟨hr, hp, hx⟩ := h
  exact hs.same (by simp only [State.dims, hr, hp, hx]) rfl rfl rfl

theorem withTrig {l : List (List Nat)} {v : List Bool} (hs : Sound s) :
    Sound { s with trig := { s.trig with stamps := l, inLevel := v } } :=
  hs.same rfl rfl rfl rfl

/-! ### The stores -/

theorem obj_wf (hs : Sound s) : Mem.wf dflt s.obj = true := hs.2.1
theorem staged_wf (hs : Sound s) : Mem.wf zeroDflt s.staged = true := hs.2.2.2

theorem withObj {m : Mem} (hs : Sound s) (h : Mem.wf dflt m = true) : Sound { s with obj := m } := by
  obtain ⟨hd, _, hc, hg⟩ := hs
  exact ⟨hd, h, hc, hg⟩

theorem withStaged {m : Mem} (hs : Sound s) (h : Mem.wf zeroDflt m = true) : Sound { s with staged := m } := by
  obtain ⟨hd, ho, hc, _⟩ := hs
  exact ⟨hd, ho, hc, h⟩

/-! ### The operations of Machine/Ops.lean -/

theorem wr {k v : Nat} (hs : Sound s) : Sound (s.wr k v) := by
  obtain ⟨hd, ho, hc, hg⟩ := hs
  exact ⟨hd, Mem.wf_set dflt s.obj k v ho, hc, hg⟩

theorem wrI {k : Nat} {i : Int} (hs : Sound s) : Sound (s.wrI k i) := by
  unfold State.wrI; exact hs.wr

theorem wrAll {l : List (Nat × Nat)} (hs : Sound s) : Sound (s.wrAll l) := by
  unfold State.wrAll; exact hs.foldl fun _ _ ht => ht.wr

theorem countN {k n : Nat} (hs : Sound s) : Sound (s.countN k n) := by
  unfold State.countN; exact hs.wr

theorem count {k : Nat} (hs : Sound s) : Sound (s.count k) := by
  unfold State.count; exact hs.countN

theorem peak {k v : Nat} (hs : Sound s) : Sound (s.peak k v) := by
  unfold State.peak; exact hs.wr

theorem wrc {k v : Nat} (hs : Sound s) : Sound (s.wrc k v) := by
  obtain ⟨hd, ho, hc, hg⟩ := hs
  exact ⟨hd, ho, Mem.wf_set dflt s.com k v hc, hg⟩

/-- Staged values are dropped by writing zero at their keys. -/
theorem dropStaged {sess : Nat} {p : Nat → Bool} (hs : Sound s) : Sound (s.dropStaged sess p) := by
  obtain ⟨hd, ho, hc, hg⟩ := hs
  refine ⟨hd, ho, hc, List.foldlRecOn (motive := fun m => Mem.wf zeroDflt m = true) _ _ hg fun m hm kv _ => ?_⟩
  split
  · exact Mem.wf_set zeroDflt m _ 0 hm
  · exact hm

theorem used {n : Nat} (hs : Sound s) : Sound (s.used n) := by
  unfold State.used; exact hs.withFree

theorem updSes {i : Nat} {f : Sess → Sess} (hs : Sound s) : Sound (s.updSes i f) :=
  hs.same (by simp [State.updSes, State.dims]) rfl rfl rfl

theorem queue {sess : Nat} {f : Frame} (hs : Sound s) : Sound (s.queue sess f) := by
  unfold State.queue; exact .ite hs hs.updSes

theorem respond {sess tag key : Nat} {st : Status} {detail : Nat} {words : List Nat} (hs : Sound s) :
    Sound (s.respond sess tag key st detail words) := by
  unfold State.respond; exact hs.queue

theorem answer {r : Req} {st : Status} {detail : Nat} {words : List Nat} (hs : Sound s) : Sound (s.answer r st detail words) := by
  unfold State.answer; exact hs.respond

theorem accept {r : Req} (hs : Sound s) : Sound (s.accept r) := by
  unfold State.accept; exact hs.answer.updSes

theorem finish {r : Req} {st : Status} {detail : Nat} (hs : Sound s) : Sound (s.finish r st detail) := by
  unfold State.finish; exact .ite hs.answer.updSes hs

theorem notify {sess code detail : Nat} {words : List Nat} (hs : Sound s) : Sound (s.notify sess code detail words) := by
  unfold State.notify; exact .ite hs <| .ite hs.count hs.queue

theorem alertAll {code : Nat} (hs : Sound s) : Sound (s.alertAll code) := by
  unfold State.alertAll; exact hs.foldl fun _ _ ht => ht.notify

theorem event {cls sess code d5 d6 d7 : Nat} (hs : Sound s) : Sound (s.event cls sess code d5 d6 d7) := by
  unfold State.event
  extract_lets _ _ _ _ s1
  have h1 : Sound s1 := .ite hs.withLog.wr.wr hs.withLog.count
  exact .ite h1 h1.withLog.count.wr.wr.alertAll

theorem own {u : UnitId} {sess : Nat} {owned : Bool} (hs : Sound s) : Sound (s.own u sess owned) := by
  unfold State.own; exact hs.withOwners

theorem disown {u : UnitId} (hs : Sound s) : Sound (s.disown u) := by
  unfold State.disown; exact hs.withOwners

theorem arrive {sess tag key : Nat} {body : State → State} (hs : Sound s) (hbody : ∀ t, Sound t → Sound (body t)) :
    Sound (s.arrive sess tag key body) := by
  unfold State.arrive; exact .ite hs <| .ite (hs.respond.ite hs) <| .ite hs.updSes.count <| .ite hs.updSes.respond <| hbody _ hs.updSes

theorem command {sess tag key : Nat} {v : Option Nat} {body : Req → State → State} (hs : Sound s)
    (hbody : ∀ x t, Sound t → Sound (body x t)) : Sound (s.command sess tag key v body) := by
  unfold State.command
  refine hs.arrive fun _ ht => ?_
  split
  · exact ht.respond
  · exact hbody _ _ ht

theorem direct {sess tag key v : Nat} {body : Req → State → State} (hs : Sound s) (hbody : ∀ x t, Sound t → Sound (body x t)) :
    Sound (s.direct sess tag key v body) := by
  unfold State.direct; exact hs.command hbody

theorem markPs {sess k : Nat} (hs : Sound s) : Sound (s.markPs sess k) := by
  unfold State.markPs; exact hs.updSes

theorem liveWrite {sess k : Nat} {r : Row} {v : Nat} (hs : Sound s) : Sound (s.liveWrite sess k r v) := by
  unfold State.liveWrite; exact .ite hs.wr.markPs hs.wr

theorem setFloors (hs : Sound s) : Sound s.setFloors := by
  unfold State.setFloors; exact hs.wrAll

theorem when {p : Bool} {f : State → State} (hs : Sound s) (hf : ∀ t, Sound t → Sound (f t)) : Sound (when p f s) :=
  (hf s hs).ite hs

/-! ### The operations of Machine/Streams.lean -/

theorem updFlow {f : Nat} {g : Flow → Flow} (hs : Sound s) : Sound (s.updFlow f g) :=
  hs.same (by simp [State.updFlow, State.dims]) rfl rfl rfl

theorem enterMirrored {f : Nat} (hs : Sound s) : Sound (s.enterMirrored f) := by
  unfold State.enterMirrored; exact .ite hs <| (hs.foldl fun _ _ ht => ht.updFlow).withTwin

theorem enter {f : Nat} {r : Record} (hs : Sound s) : Sound (s.enter f r) := by
  unfold State.enter
  extract_lets s1
  have h1 : Sound s1 := hs.enterMirrored
  exact .ite h1 <| .ite h1.updFlow h1

theorem enterAll {fs : List Nat} {r : Record} (hs : Sound s) : Sound (s.enterAll fs r) := by
  unfold State.enterAll; exact hs.foldl fun _ _ ht => ht.enter

theorem loseFrame {f : Nat} {fr : TxFrame} (hs : Sound s) : Sound (s.loseFrame f fr) := by
  unfold State.loseFrame
  extract_lets _ _ _ _ _ _ s1
  have h1 : Sound s1 := hs.updFlow.count.count.wr
  exact .ite h1.event h1

theorem missFrame {f : Nat} {fr : TxFrame} (hs : Sound s) : Sound (s.missFrame f fr) := by
  unfold State.missFrame; exact .ite hs.updFlow.enter.withTwin hs.loseFrame

theorem missFrames {f : Nat} {p : TxFrame → Bool} (hs : Sound s) : Sound (s.missFrames f p) := by
  unfold State.missFrames; exact hs.foldl fun _ _ ht => ht.missFrame

theorem loseFrames {f : Nat} {p : TxFrame → Bool} (hs : Sound s) : Sound (s.loseFrames f p) := by
  unfold State.loseFrames; exact hs.foldl fun _ _ ht => ht.loseFrame

theorem updRing {h : Nat} {g : Ring → Ring} (hs : Sound s) : Sound (s.updRing h g) :=
  hs.same (by simp [State.updRing, State.dims]) rfl rfl rfl

theorem side {h : Nat} {r : Record} (hs : Sound s) : Sound (s.side h r) := by
  unfold State.side; exact .ite hs.updRing.wr hs

theorem explain {f last : Nat} {r : Record} (hs : Sound s) : Sound (s.explain f last r) := by
  unfold State.explain; exact .ite (hs.updFlow.ite hs) <| .ite hs.enter hs

theorem tellChannel {ch last : Nat} {r : Record} (hs : Sound s) : Sound (s.tellChannel ch last r) := by
  unfold State.tellChannel; exact (hs.foldl fun _ _ ht => ht.side).foldl fun _ _ ht => ht.explain

theorem tellTuner {t last : Nat} {r : Record} (hs : Sound s) : Sound (s.tellTuner t last r) := by
  unfold State.tellTuner; exact hs.side.foldl fun _ _ ht => ht.explain

/-! ### The operations of Machine/Joints.lean -/

theorem serviceState (hs : Sound s) : Sound s.serviceState := by
  unfold State.serviceState; exact .ite hs.wr <| .ite hs.wr hs

theorem applyChange {w : Swap} {g : Nat} {u : UnitId} {b : Nat} (hs : Sound s) : Sound (s.applyChange w g u b) := by
  unfold State.applyChange
  extract_lets _ _ _ s1 _ s2
  have h1 : Sound s1 := (hs.foldl fun _ _ ht => ht.wr).withGens.withSwaps
  have h2 : Sound s2 := .ite h1.wr.wr h1
  exact (h2.disown.ite h2).serviceState

theorem joint {g : Nat} {u : UnitId} {before after : Swap → Nat → State → State} (hs : Sound s)
    (hbefore : ∀ x x1 t, Sound t → Sound (before x x1 t)) (hafter : ∀ x x1 t, Sound t → Sound (after x x1 t)) :
    Sound (s.joint g u before after) := by
  unfold State.joint
  split
  · exact hs
  · exact hafter _ _ _ (hbefore _ _ _ hs).applyChange

/-! ### The operations of Machine/Reservoir.lean -/

theorem updPch {k : Nat} {g : Pch → Pch} (hs : Sound s) : Sound (s.updPch k g) :=
  hs.same (by simp [State.updPch, State.dims]) rfl rfl rfl

theorem showOutstanding (hs : Sound s) : Sound s.showOutstanding := by
  unfold State.showOutstanding; exact hs.wr.peak

theorem enqueue {k : Nat} {q : Rq} (hs : Sound s) : Sound (s.enqueue k q) := by
  unfold State.enqueue; exact hs.updPch.showOutstanding

theorem request {k : Nat} {q : Rq} (hs : Sound s) : Sound (s.request k q) := by
  unfold State.request; exact .ite hs <| .ite hs.enqueue hs.updPch

theorem promote {k : Nat} (hs : Sound s) : Sound (s.promote k) := by
  unfold State.promote; exact hs.foldl fun _ _ ht => .ite ht.updPch.enqueue ht

theorem access {line id : Nat} {read : Bool} (hs : Sound s) : Sound (s.access line id read) := by
  unfold State.access; exact hs.request

theorem showPans (hs : Sound s) : Sound s.showPans := by
  unfold State.showPans; exact hs.wr

theorem freeSmall {key words : Nat} (hs : Sound s) : Sound (s.freeSmall key words) := by
  unfold State.freeSmall; exact hs.withRsv.showPans

theorem setPanic {h : Nat} (hs : Sound s) : Sound (s.setPanic h) := by
  unfold State.setPanic; exact .ite hs.updRing.count hs.updRing

theorem pushLine {h : Nat} {l : Line} (hs : Sound s) : Sound (s.pushLine h l) := by
  unfold State.pushLine; exact .ite hs.updRing.setPanic <| (hs.countN.side.foldl fun _ _ ht => ht.explain).event

theorem finishLine {h : Nat} (hs : Sound s) : Sound (s.finishLine h) := by
  unfold State.finishLine
  extract_lets
  split
  · exact hs
  · exact hs.updRing.pushLine

theorem ringPut {h i : Nat} {v : Samp} (hs : Sound s) : Sound (s.ringPut h i v) := by
  unfold State.ringPut
  extract_lets _ s1 s2
  have h1 : Sound s1 := .ite hs hs.finishLine
  have h2 : Sound s2 := by
    unfold s2
    split
    · exact h1
    · exact .ite h1.pushLine h1
  exact .ite hs <| .ite h2.updRing.finishLine h2.updRing

theorem finishRaw {h : Nat} (hs : Sound s) : Sound (s.finishRaw h) := by
  unfold State.finishRaw
  extract_lets
  split
  · exact hs
  · exact hs.updRing.ringPut

theorem rawPut {h t code : Nat} {ovl : Bool} (hs : Sound s) : Sound (s.rawPut h t code ovl) := by
  unfold State.rawPut
  extract_lets _ _ s1
  have h1 : Sound s1 := (hs.ite hs.finishRaw).updRing
  exact .ite h1.finishRaw h1

theorem stopRing {h : Nat} (hs : Sound s) : Sound (s.stopRing h) := by
  unfold State.stopRing; exact hs.finishRaw.finishLine.updRing

theorem loseRef {h : Nat} (hs : Sound s) : Sound (s.loseRef h) := by
  unfold State.loseRef; exact hs.foldl fun _ _ ht => ht.missFrames

theorem discardRing {h : Nat} (hs : Sound s) : Sound (s.discardRing h) := by
  unfold State.discardRing; exact hs.loseRef.updRing.wr.wr.wr

theorem dropUnheldRef {h : Nat} (hs : Sound s) : Sound (s.dropUnheldRef h) := by
  unfold State.dropUnheldRef; exact hs.foldl fun _ _ ht => ht.missFrames

theorem feedLine {h : Nat} {l : Line} (hs : Sound s) : Sound (s.feedLine h l) := by
  unfold State.feedLine; exact hs.foldl fun _ _ ht => ht.updFlow

theorem writeLine {h : Nat} {l : Line} {rest : List Line} (hs : Sound s) : Sound (s.writeLine h l rest) := by
  unfold State.writeLine; exact ((hs.wr.ite hs).updRing.wr.wr.setPanic.request.foldl fun _ _ ht => ht.access).feedLine.dropUnheldRef

theorem ringAfter {h b : Nat} {wasOn : Bool} {oldPans : Nat} (hs : Sound s) : Sound (s.ringAfter h b wasOn oldPans) := by
  unfold State.ringAfter
  extract_lets _ _ _ _ s1 _ _ s2
  have h1 : Sound s1 := hs.wr.freeSmall.updRing
  have h2 : Sound s2 := h1.updRing.updRing
  exact (hs.wr.loseRef.updRing.freeSmall.wr.wrAll.ite (h1.ite (h2.discardRing.ite h2).updRing.wr).wr.wr).showPans

theorem setScanPanic (hs : Sound s) : Sound s.setScanPanic := by
  unfold State.setScanPanic; exact .ite hs.withScan.count hs.withScan

theorem scanAsk (hs : Sound s) : Sound s.scanAsk := by
  unfold State.scanAsk; exact .ite (hs.withScan.ite hs.request) hs

theorem scanReader (hs : Sound s) : Sound s.scanReader := by
  unfold State.scanReader; exact hs.setScanPanic.scanAsk

theorem scanFetched (hs : Sound s) : Sound s.scanFetched := by
  unfold State.scanFetched; exact hs.withScan.scanReader

theorem failPch {k : Nat} (hs : Sound s) : Sound (s.failPch k) := by
  unfold State.failPch; exact .ite hs hs.updPch.wr.wr.wr.wr.setFloors.event

theorem ecc {k addr corrected uncorrectable : Nat} (hs : Sound s) : Sound (s.ecc k addr corrected uncorrectable) := by
  unfold State.ecc
  extract_lets s1 _ _ _ s2
  have h1 : Sound s1 := .ite hs hs.countN
  have h2 : Sound s2 := h1.countN.wr.event.updPch
  exact .ite h1 <| .ite h2.failPch h2

theorem badLine {line : Nat} (hs : Sound s) : Sound (s.badLine line) := by
  unfold State.badLine; exact .ite hs hs.used.ecc

theorem causeTrr {k id bank row : Nat} (hs : Sound s) : Sound (s.causeTrr k id bank row) := by
  unfold State.causeTrr
  extract_lets _ _ _ _ _ _ s1
  have h1 : Sound s1 := hs.updPch.count.wr
  exact .ite hs <| .ite (h1.ite h1.event) hs.updPch

theorem serveRq {k bank row addr corrected uncorrectable : Nat} {q : Rq} (hs : Sound s) :
    Sound (s.serveRq k bank row addr corrected uncorrectable q) := by
  unfold State.serveRq
  split
  extract_lets _ _ _ s1 _ s2
  have h1 : Sound s1 := .ite hs.updPch.count.causeTrr hs.updPch
  have h2 : Sound s2 := by
    unfold s2
    split
    · exact (h1.ecc.ite h1)
    · exact .ite (h1.ecc.ite h1).missFrames <| .ite (h1.ecc.ite h1) (h1.ecc.ite h1).updFlow
  exact (h2.scanFetched.ite h2).promote.showOutstanding

theorem newWindow {stack : Nat} (hs : Sound s) : Sound (s.newWindow stack) := by
  unfold State.newWindow; exact hs.foldl fun _ _ ht => ht.updPch

theorem fencePch {k : Nat} (hs : Sound s) : Sound (s.fencePch k) := by
  unfold State.fencePch; exact hs.updPch.wr.event

theorem trainAll {failed : List Nat} (hs : Sound s) : Sound (s.trainAll failed) := by
  unfold State.trainAll; exact hs.withRsv (by simp [hs.pch_length])

theorem updReplay {x : Nat} {g : Replay → Replay} (hs : Sound s) : Sound (s.updReplay x g) :=
  hs.same (by simp [State.updReplay, State.dims]) rfl rfl rfl

theorem replayStart {x : Nat} {r : Req} (hs : Sound s) : Sound (s.replayStart x r) := by
  unfold State.replayStart; exact .ite hs.wr.answer <| .ite hs.wr.answer hs.wr.updReplay.wr.wr.answer

theorem replayAbort {x : Nat} {r : Req} (hs : Sound s) : Sound (s.replayAbort x r) := by
  unfold State.replayAbort; exact (hs.updReplay.ite hs).answer

theorem replayCmd {x v : Nat} {r : Req} (hs : Sound s) : Sound (State.replayCmd x v r s) := by
  unfold State.replayCmd; exact .ite hs.replayStart <| .ite hs.replayAbort hs.answer

theorem enterReplay {x : Nat} {r : Record} (hs : Sound s) : Sound (s.enterReplay x r) := by
  unfold State.enterReplay; exact hs.enterAll

theorem replayEarly {x a b : Nat} (hs : Sound s) : Sound (s.replayEarly x a b) := by
  unfold State.replayEarly; exact (hs.foldl fun _ _ ht => ht.enterReplay).updReplay

theorem replaySide {x upto : Nat} (hs : Sound s) : Sound (s.replaySide x upto) := by
  unfold State.replaySide; exact (hs.foldl fun _ _ ht => ht.enterReplay).updReplay

theorem replayFlushRun {x : Nat} (hs : Sound s) : Sound (s.replayFlushRun x) := by
  unfold State.replayFlushRun
  split
  · exact hs
  · exact hs.enterReplay.updReplay

theorem replayEndCut {x : Nat} (hs : Sound s) : Sound (s.replayEndCut x) := by
  unfold State.replayEndCut; exact .ite hs hs.enterReplay.updReplay.replaySide

theorem replaySample {x i : Nat} {v : Samp} (hs : Sound s) : Sound (s.replaySample x i v) := by
  unfold State.replaySample
  extract_lets _ _ _ s1
  have h1 : Sound s1 := (hs.ite hs.replayEndCut.replaySide.updReplay).updReplay
  exact .ite h1.replayEndCut h1

theorem replayLost {x a b cause : Nat} (hs : Sound s) : Sound (s.replayLost x a b cause) := by
  unfold State.replayLost
  extract_lets s1
  have h1 : Sound s1 := hs.replayEndCut.count
  split
  · exact .ite h1.updReplay h1.replayFlushRun.replaySide.updReplay
  · exact h1.replaySide.updReplay

theorem replayLine {x : Nat} {uncorrectable : Bool} (hs : Sound s) : Sound (s.replayLine x uncorrectable) := by
  unfold State.replayLine
  extract_lets _ _ _ _ _ _ _ _ s1
  have h1 : Sound s1 := hs.access.replayFlushRun
  refine .ite hs.access.badLine.replayLost ?_
  split
  · exact hs.access.replayLost
  · exact .ite (hs.access.replayEndCut.replayFlushRun.replayEarly.replaySide.updReplay.count.ite hs.access.replayLost) <|
      .ite hs.access.replayLost <| (h1.replayEarly.ite h1).foldl fun _ _ ht => .ite ht <| .ite ht.replaySample ht

theorem replayEnd {x : Nat} (hs : Sound s) : Sound (s.replayEnd x) := by
  unfold State.replayEnd
  extract_lets _ s1
  have h1 : Sound s1 := hs.replayEndCut.replayFlushRun
  exact .ite h1.wr h1.replaySide.wr.wr

/-! ### The operations of Machine/Staging.lean -/

theorem updLoad {i : Nat} {f : Load → Load} (hs : Sound s) : Sound (s.updLoad i f) :=
  hs.same (by simp [State.updLoad, State.dims]) rfl rfl rfl

theorem showUwin (hs : Sound s) : Sound s.showUwin := by
  unfold State.showUwin; exact hs.wr

theorem showLoad {i : Nat} (hs : Sound s) : Sound (s.showLoad i) := by
  unfold State.showLoad; exact .ite hs.wr <| .ite hs.wr.showUwin hs

theorem stageLoad {i : Nat} {f : Mem → Mem} (hs : Sound s) : Sound (s.stageLoad i f) := by
  unfold State.stageLoad; exact hs.updLoad.showLoad

theorem stagePut {sess k v : Nat} (hs : Sound s) : Sound (s.stagePut sess k v) := by
  unfold State.stagePut
  extract_lets s1 s2 _ s3
  have h1 : Sound s1 := by
    unfold s1
    split
    · exact hs.stageLoad
    · exact hs
  have h2 : Sound s2 := by
    unfold s2
    split
    · exact h1.ite h1.stageLoad
    · exact h1
  have h3 : Sound s3 := by
    unfold s3
    split
    · exact h2.stageLoad.ite (h2.stageLoad.ite h2.stageLoad)
    · exact h2
  have h4 := h3.withStaged (Mem.wf_set zeroDflt s3.staged (sk sess k) (v + 1) h3.staged_wf)
  split
  · exact h4
  · exact h4.own

theorem stage {r : Req} {v : Nat} (hs : Sound s) : Sound (s.stage r v) := by
  unfold State.stage; exact .ite (hs.answer.ite hs.updSes.wr.answer) <| .ite hs.stagePut.answer hs.answer

theorem enterDeferred {sess : Nat} (hs : Sound s) : Sound (s.enterDeferred sess) := by
  unfold State.enterDeferred; exact (hs.updSes.foldl fun _ _ ht => .ite ht.stagePut ht.count.event).wr

theorem unstageLoads {p : UnitId → Bool} (hs : Sound s) : Sound (s.unstageLoads p) := by
  unfold State.unstageLoads; exact hs.foldl fun _ _ ht => .ite ht.stageLoad ht

theorem discard {sess groups : Nat} (hs : Sound s) : Sound (s.discard sess groups) := by
  unfold State.discard; exact hs.unstageLoads.dropStaged.withOwners

theorem stageWrite {sess tag k v : Nat} (hs : Sound s) : Sound (s.stageWrite sess tag k v) := by
  unfold State.stageWrite; exact hs.direct fun _ _ ht => ht.stage

/-! ### The operations of Machine/Sources.lean -/

theorem updSrc {k : Nat} {f : Source → Source} (hs : Sound s) : Sound (s.updSrc k f) :=
  hs.same (by simp [State.updSrc, State.dims]) rfl rfl rfl

theorem updSeqr {q : Nat} {f : Seqr → Seqr} (hs : Sound s) : Sound (s.updSeqr q f) :=
  hs.same (by simp [State.updSeqr, State.dims]) rfl rfl rfl

theorem showSrc {k : Nat} (hs : Sound s) : Sound (s.showSrc k) := by
  unfold State.showSrc; exact hs.wr

theorem srcLevel {k p : Nat} {b : Bool} (hs : Sound s) : Sound (s.srcLevel k p b) := by
  unfold State.srcLevel; exact hs.updSrc.showSrc

theorem offerEvent {from_ : Nat} {e : TEvent} (hs : Sound s) : Sound (s.offerEvent from_ e) := by
  unfold State.offerEvent; exact hs.foldl fun _ _ ht => .ite ht.updSeqr ht

theorem issue {k holdoff p flags : Nat} (hs : Sound s) : Sound (s.issue k holdoff p flags) := by
  unfold State.issue; exact .ite hs <| .ite hs.count hs.updSrc.wr.wr.offerEvent

theorem srcInput {k : Nat} {c : SrcCfg} {i : SrcInput} (hs : Sound s) : Sound (s.srcInput k c i) := by
  unfold State.srcInput
  extract_lets _ _ _ _ _ _ _ _ s1
  have h1 : Sound s1 := .ite hs.updSrc.srcLevel hs.updSrc
  exact .ite h1.srcLevel.issue h1.showSrc

theorem retireAll {p : SrcCfg → Bool} {label : Nat} (hs : Sound s) : Sound (s.retireAll p label) := by
  unfold State.retireAll; exact hs.foldl fun _ _ ht => ht.updSrc

theorem magnitudeInputs {t label d w : Nat} (hs : Sound s) : Sound (s.magnitudeInputs t label d w) := by
  unfold State.magnitudeInputs
  extract_lets
  refine hs.retireAll.foldl fun _ _ ht => ?_
  split
  extract_lets
  split
  exact ht.srcInput.updSrc

theorem frameInputs {c label n h d : Nat} {pow : Int → Nat} {bp : Nat → Option Nat} (hs : Sound s) :
    Sound (s.frameInputs c label n h d pow bp) := by
  unfold State.frameInputs
  extract_lets
  refine (hs.retireAll.foldl fun _ _ ht => ht.srcInput).foldl fun _ _ ht => ?_
  split
  exact ht.srcInput

theorem countGap {k : Nat} (hs : Sound s) : Sound (s.countGap k) := by
  unfold State.countGap; exact hs.foldl fun _ _ ht => .ite ht.count.updSeqr ht

theorem srcGap {k : Nat} {c : SrcCfg} {a b : Nat} (hs : Sound s) : Sound (s.srcGap k c a b) := by
  unfold State.srcGap
  extract_lets _ _ s1
  have h1 : Sound s1 := (hs.srcLevel.ite hs).updSrc
  exact (h1.countGap.ite h1).showSrc

theorem gapFor {kind a b p q : Nat} {test : Nat → Bool} {reads : SrcCfg → Bool} (hs : Sound s) :
    Sound (s.gapFor kind a b p q test reads) := by
  unfold State.gapFor; exact (hs.foldl fun _ _ ht => ht.srcGap).retireAll.foldl fun _ _ ht => ht.srcGap

theorem magnitudeGap {t a b : Nat} (hs : Sound s) : Sound (s.magnitudeGap t a b) := by
  unfold State.magnitudeGap; exact hs.gapFor

theorem frameGap {c a b n h d : Nat} (hs : Sound s) : Sound (s.frameGap c a b n h d) := by
  unfold State.frameGap; exact hs.gapFor.gapFor

theorem pinLevel {k pin p : Nat} {rising : Bool} (hs : Sound s) : Sound (s.pinLevel k pin p rising) := by
  unfold State.pinLevel; exact hs.srcLevel.foldl fun _ _ ht => ht.srcLevel

theorem endPinGaps (hs : Sound s) : Sound s.endPinGaps := by
  unfold State.endPinGaps; exact hs.foldl fun _ _ ht => .ite ht.updSrc.showSrc ht

theorem timeEvent {k n : Nat} {c : SrcCfg} (hs : Sound s) : Sound (s.timeEvent k n c) := by
  unfold State.timeEvent; exact hs.updSrc.srcLevel.issue

theorem timeUpTo {k t : Nat} (hs : Sound s) : Sound (s.timeUpTo k t) := by
  unfold State.timeUpTo
  split
  · exact .ite (hs.foldl fun _ _ ht => ht.timeEvent) hs
  · exact hs

theorem forcedUpTo {k t : Nat} (hs : Sound s) : Sound (s.forcedUpTo k t) := by
  unfold State.forcedUpTo; exact .ite hs <| hs.updSrc.foldl fun _ _ ht => ht.issue

theorem releaseForced (hs : Sound s) : Sound s.releaseForced := by
  unfold State.releaseForced; exact hs.foldl fun _ _ ht => ht.forcedUpTo

theorem forceSource {k v : Nat} {r : Req} (hs : Sound s) : Sound (State.forceSource k v r s) := by
  unfold State.forceSource
  extract_lets s1
  have h1 : Sound s1 := hs.releaseForced
  exact .ite h1.answer <| .ite h1.issue.answer <| .ite h1.issue.answer <| .ite h1.issue.answer <| .ite h1.answer h1.updSrc.answer

theorem sourceAfter {k b first : Nat} (hs : Sound s) : Sound (s.sourceAfter k b first) := by
  unfold State.sourceAfter; exact (hs.forcedUpTo.timeUpTo.updSrc.foldl fun _ _ ht => ht.updSeqr).wr.wr.showSrc

/-! ### The operations of Machine/Sequencers.lean -/

theorem updGrp {g : Nat} {f : Group → Group} (hs : Sound s) : Sound (s.updGrp g f) :=
  hs.same (by simp [State.updGrp, State.dims]) rfl rfl rfl

theorem updOut {n : Nat} {f : OutPin → OutPin} (hs : Sound s) : Sound (s.updOut n f) :=
  hs.same (by simp [State.updOut, State.dims]) rfl rfl rfl

theorem updCap {u : Nat} {f : Capture → Capture} (hs : Sound s) : Sound (s.updCap u f) :=
  hs.same (by simp [State.updCap, State.dims]) rfl rfl rfl

theorem requestPulse {p n : Nat} (hs : Sound s) : Sound (s.requestPulse p n) := by
  unfold State.requestPulse
  extract_lets
  split
  exact .ite hs.used.updOut.count hs.used.updOut

theorem requestPulses {p mask : Nat} (hs : Sound s) : Sound (s.requestPulses p mask) := by
  unfold State.requestPulses; exact hs.foldl fun _ _ ht => ht.requestPulse

theorem writeOutMode {n v : Nat} {r : Req} (hs : Sound s) : Sound (State.writeOutMode n v r s) := by
  unfold State.writeOutMode; exact (hs.wr.updOut.ite hs.wr).answer

theorem captureTrigger {u p : Nat} {r : Record} (hs : Sound s) : Sound (s.captureTrigger u p r) := by
  unfold State.captureTrigger; exact .ite hs <| .ite hs.count hs.updCap.wr

theorem emitMark {origin tuners p supp : Nat} {m : MarkFields} (hs : Sound s) : Sound (s.emitMark origin tuners p supp m) := by
  unfold State.emitMark
  extract_lets _ _ _ _ _ _ s1
  have h1 : Sound s1 := (hs.wr.foldl fun _ _ ht => ht.side).enterAll.foldl fun _ _ ht => .ite ht.captureTrigger ht
  exact .ite h1.offerEvent h1

theorem withhold {origin key supp : Nat} {alerted : Bool} (hs : Sound s) : Sound (s.withhold origin key supp alerted) := by
  unfold State.withhold; exact .ite hs.count.count hs.count.count.event

theorem seqMark {q p : Nat} {m : MarkFields} (hs : Sound s) : Sound (s.seqMark q p m) := by
  unfold State.seqMark; exact .ite hs.updSeqr.wr.wr.emitMark hs.updSeqr.withhold

theorem grpMark {g p : Nat} {m : MarkFields} (hs : Sound s) : Sound (s.grpMark g p m) := by
  unfold State.grpMark; exact .ite hs.updGrp.emitMark hs.updGrp.withhold

theorem groupAction {q p : Nat} {e : TEvent} (hs : Sound s) : Sound (s.groupAction q p e) := by
  unfold State.groupAction; exact hs.foldl fun _ _ ht => .ite ht <| .ite ht.updGrp <| .ite ht.updGrp ht

theorem counterActions {q p w : Nat} (hs : Sound s) : Sound (s.counterActions q p w).1 := by
  unfold State.counterActions
  exact foldl_fst (hs.foldl fun _ _ ht => ht.wr) fun _ _ ht => ht.wr

theorem startTimers {q p w : Nat} (hs : Sound s) : Sound (s.startTimers q p w) := by
  unfold State.startTimers; exact hs.foldl fun _ _ ht => ht.updSeqr.wr

theorem takeSlot {q p k : Nat} {e : TEvent} {rest : List TEvent} (hs : Sound s) : Sound (s.takeSlot q p k e rest).1 := by
  unfold State.takeSlot
  extract_lets
  split
  next t _ eq =>
    have ht : Sound t := hs.counterActions.of_eq eq
    extract_lets s1 _ _ s2
    have h1 : Sound s1 := ht.startTimers
    have h2 : Sound s2 := (h1.seqMark.ite h1).requestPulses
    exact (h2.groupAction.ite h2).wr

theorem initSeq {q : Nat} (hs : Sound s) : Sound (s.initSeq q) := by
  unfold State.initSeq; exact (hs.updSeqr.foldl fun _ _ ht => ht.wr.wr).wr.wr

theorem resumeSeq {q p : Nat} (hs : Sound s) : Sound (s.resumeSeq q p) := by
  unfold State.resumeSeq; exact hs.updSeqr.initSeq

theorem haltSeq {q : Nat} (hs : Sound s) : Sound (s.haltSeq q) := by
  unfold State.haltSeq
  extract_lets again _ s1
  have h1 : Sound s1 := (hs.foldl fun _ _ ht => ht.wr).wr.count.event
  clear_value again
  split
  · exact h1.resumeSeq
  · exact h1.updSeqr

theorem runEvents {fuel q p n : Nat} {taken : Bool} {rest : List TEvent} (hs : Sound s) :
    Sound (State.runEvents fuel s q p n taken rest) := by
  induction fuel generalizing s n taken rest with
  | zero => exact hs
  | succ fuel ih =>
    have taking {k : Nat} {e : TEvent} {l : List TEvent} : Sound (if n = 8 then s.haltSeq q else
        match s.takeSlot q p k e l with
        | (s, rest) => State.runEvents fuel s q p (n + 1) true rest) := by
      refine hs.haltSeq.ite ?_
      split
      next t _ eq => exact ih (hs.takeSlot.of_eq eq)
    unfold State.runEvents
    refine hs.ite ?_
    split
    · exact taking
    · split
      · exact hs
      · split
        · exact ih hs
        · exact taking

theorem seqAt {q p : Nat} (hs : Sound s) : Sound (s.seqAt q p) := by
  unfold State.seqAt; exact (hs.updSeqr.initSeq.ite hs.updSeqr).updSeqr.runEvents

theorem rearm {q v : Nat} {r : Req} (hs : Sound s) : Sound (State.rearm q v r s) := by
  unfold State.rearm; exact .ite hs.answer <| .ite hs.resumeSeq.answer <| .ite hs.updSeqr.answer hs.answer

theorem showGrp {g : Nat} (hs : Sound s) : Sound (s.showGrp g) := by
  unfold State.showGrp; exact hs.wr

theorem fire {g p : Nat} {win : GrpItem} {cands : List GrpItem} (hs : Sound s) : Sound (s.fire g p win cands) := by
  unfold State.fire; exact hs.updGrp.wr.wr.grpMark.requestPulses

theorem groupCommand {g what v : Nat} {r : Req} (hs : Sound s) : Sound (State.groupCommand g what v r s) := by
  unfold State.groupCommand; exact .ite hs.answer <| .ite hs.updGrp.answer hs.answer

theorem armCapture {u v : Nat} {r : Req} (hs : Sound s) : Sound (State.armCapture u v r s) := by
  unfold State.armCapture; exact .ite hs.answer <| .ite hs.updCap.wr.wr.answer hs.answer

theorem deliverSegment {u h i0 len : Nat} {dead fs : List Nat} (hs : Sound s) : Sound (s.deliverSegment u h i0 len dead fs) := by
  unfold State.deliverSegment
  extract_lets
  split
  next t _ eq =>
    have ht : Sound t := of_eq (foldl_fst hs fun _ _ hu => (hu.foldl fun _ _ hv => hv.enterAll).enterAll) eq
    exact ht.foldl fun _ _ hu => hu.enterAll

theorem trigAfter {w : Swap} {u : UnitId} {b : Nat} (hs : Sound s) : Sound (s.trigAfter w u b) := by
  unfold State.trigAfter
  extract_lets s1
  have h1 : Sound s1 := hs.updSeqr.initSeq
  split
  · exact hs.sourceAfter
  · exact hs.updLoad
  · exact (h1.ite h1.updSeqr.wrAll).wr.wr
  · exact hs.updGrp.wr.wr.showGrp
  · exact hs.updCap.wr
  · exact hs

/-! ### The operations of Machine/Crystallizer.lean -/

theorem updPlane {p : Nat} {f : Plane → Plane} (hs : Sound s) : Sound (s.updPlane p f) :=
  hs.same (by simp [State.updPlane, State.dims]) rfl rfl rfl

theorem showPlane {p : Nat} (hs : Sound s) : Sound (s.showPlane p) := by
  unfold State.showPlane; exact hs.wr

theorem applySet {p : Nat} {set : ColSet} (hs : Sound s) : Sound (s.applySet p set) := by
  unfold State.applySet
  extract_lets
  refine .ite hs.count ?_
  split
  exact hs.updPlane.countN.countN.countN.countN.wr

theorem applySetsBelow {p b : Nat} (hs : Sound s) : Sound (s.applySetsBelow p b) := by
  unfold State.applySetsBelow; exact .ite (hs.updPlane.foldl fun _ _ ht => ht.applySet) hs.updPlane

theorem planeSet {p : Nat} {set : ColSet} (hs : Sound s) : Sound (s.planeSet p set) := by
  unfold State.planeSet; exact .ite hs hs.updPlane

theorem planeGap {p : Nat} (hs : Sound s) : Sound (s.planeGap p) := by
  unfold State.planeGap; exact hs.updPlane

theorem takeHarvest {p b : Nat} (hs : Sound s) : Sound (s.takeHarvest p b) := by
  unfold State.takeHarvest; exact hs.updPlane.wr.wr.wr

theorem harvestStep {p b : Nat} (hs : Sound s) : Sound (s.harvestStep p b) := by
  unfold State.harvestStep
  extract_lets _ _ s1
  have h1 : Sound s1 := .ite hs.updPlane hs
  exact .ite h1.takeHarvest <| .ite (h1.count.ite h1.takeHarvest) h1

theorem clearPlane {p b : Nat} (hs : Sound s) : Sound (s.clearPlane p b) := by
  unfold State.clearPlane; exact hs.updPlane.wr

theorem planeJoint {p b : Nat} (hs : Sound s) : Sound (s.planeJoint p b) := by
  unfold State.planeJoint
  split
  · exact hs
  · exact .ite hs <|
      hs.joint (fun _ _ _ ht => .ite ht.clearPlane ht) fun _ _ _ ht => ((ht.ite ht.wr).updPlane.ite (ht.ite ht.updPlane)).wr.wr.showPlane

theorem takeBoundary {p b : Nat} (hs : Sound s) : Sound (s.takeBoundary p b) := by
  unfold State.takeBoundary
  extract_lets s1 _ _ _ s2
  have h1 : Sound s1 := hs.applySetsBelow
  have h2 : Sound s2 := (h1.updPlane.ite h1).harvestStep
  exact (h2.clearPlane.ite h2).planeJoint.updPlane

theorem clearCmd {p v : Nat} {r : Req} (hs : Sound s) : Sound (State.clearCmd p v r s) := by
  unfold State.clearCmd; exact .ite hs.answer hs.updPlane.answer

theorem harvestCmd {p v : Nat} {r : Req} (hs : Sound s) : Sound (State.harvestCmd p v r s) := by
  unfold State.harvestCmd; exact .ite hs.answer <| .ite hs.answer hs.updPlane.answer

/-! ### The operations of Machine/Flags.lean -/

theorem shedBit {cls : Nat} {on : Bool} (hs : Sound s) : Sound (s.shedBit cls on) := by
  unfold State.shedBit; exact hs.wr

/-! ### The operations of Machine/Detectors.lean -/

theorem updDet {c : Nat} {f : Det → Det} (hs : Sound s) : Sound (s.updDet c f) :=
  hs.same (by simp [State.updDet, State.dims]) rfl rfl rfl

theorem showDet {c : Nat} {gap : Bool} (hs : Sound s) : Sound (s.showDet c gap) := by
  unfold State.showDet; exact hs.wr

theorem peakWords {l : List (Option Int)} {b0 : Int} {k : Nat} (hs : Sound s) : Sound (s.peakWords l b0 k).1 := by
  unfold State.peakWords
  split
  · exact hs
  · exact hs.used

theorem peakPayload {g : DetCfg} {b0 : Int} {l : List (Option Int)} (hs : Sound s) : Sound (s.peakPayload g b0 l).1 := by
  unfold State.peakPayload
  refine foldl_fst hs fun _ _ ht => ?_
  split
  next eq => exact ht.peakWords.of_eq eq

theorem closePeriod {c : Nat} (hs : Sound s) : Sound (s.closePeriod c) := by
  unfold State.closePeriod
  extract_lets
  split
  · exact hs
  · split
    · exact hs.updDet
    · extract_lets
      split
      extract_lets
      split
      next t _ eq =>
        have ht : Sound t := of_eq (by split; exacts [hs.peakPayload, hs]) eq
        extract_lets _ _ s1 s2
        have h1 : Sound s1 := ht.updDet.countN
        have h2 : Sound s2 := h1.wr.ite h1
        exact h2.countN.ite h2

theorem closeIfCovered {c : Nat} (hs : Sound s) : Sound (s.closeIfCovered c) := by
  unfold State.closeIfCovered
  extract_lets
  split
  · exact hs
  · split
    · exact hs
    · exact .ite hs.closePeriod hs

theorem openPeriod {c start : Nat} {g : DetCfg} (hs : Sound s) : Sound (s.openPeriod c start g) := by
  unfold State.openPeriod
  extract_lets _ _ _ _ s1
  have h1 : Sound s1 := by
    unfold s1
    split
    · exact hs.wr
    · exact hs
  exact h1.updDet

theorem closeColumns {c : Nat} (hs : Sound s) : Sound (s.closeColumns c) := by
  unfold State.closeColumns
  extract_lets
  split
  · exact hs
  · split
    · exact hs.updDet
    · extract_lets _ _ _ s1
      have h1 : Sound s1 := hs.updDet.enterAll.updDet
      exact .ite h1.planeSet h1

theorem coverColumns {c : Nat} (hs : Sound s) : Sound (s.coverColumns c) := by
  unfold State.coverColumns
  extract_lets
  split
  · exact hs
  · split
    · exact hs.closeColumns
    · exact .ite hs.closeColumns hs

theorem tellRestored {c p a : Nat} (hs : Sound s) : Sound (s.tellRestored c p a) := by
  unfold State.tellRestored
  split
  · exact hs
  · exact hs.enterAll.enterAll.updPlane

theorem columnFrame {c : Nat} {v : FrameView} (hs : Sound s) : Sound (s.columnFrame c v) := by
  unfold State.columnFrame
  extract_lets
  split
  · exact hs
  · extract_lets _ s1
    have h1 : Sound s1 := .ite hs hs.closeColumns
    exact .ite hs <| (h1.tellRestored.ite h1).updDet

theorem restartColumns {c : Nat} {get : Nat → Nat} {w : Swap} (hs : Sound s) : Sound (s.restartColumns c get w) := by
  unfold State.restartColumns; exact hs.updDet

theorem columnsUpTo {c label : Nat} (hs : Sound s) : Sound (s.columnsUpTo c label) := by
  unfold State.columnsUpTo; exact foldl_fst hs fun _ _ ht => ht.restartColumns.ite ht

theorem detectorJoint {c : Nat} (hs : Sound s) : Sound (s.detectorJoint c) := by
  unfold State.detectorJoint
  refine hs.joint (fun _ _ _ ht => ht) fun _ _ _ ht => ?_
  extract_lets s1
  have h1 : Sound s1 := by
    refine ht.foldl fun _ _ hu => ?_
    split
    · exact .ite (hu.joint (fun _ _ _ hv => hv) fun _ _ _ hv => hv) hu
    · exact hu
  exact (h1.restartColumns.ite h1).updDet.wr.wr.showDet.closeIfCovered.coverColumns

theorem detFrame {c : Nat} {v : FrameView} (hs : Sound s) : Sound (s.detFrame c v) := by
  unfold State.detFrame
  extract_lets s2 s3
  have h2 : Sound s2 := by
    unfold s2
    split
    · exact .ite hs.detectorJoint hs
    · exact hs
  have h3 : Sound s3 := by
    unfold s3
    split
    · exact h2
    · extract_lets _ _ s1
      have h1 : Sound s1 := by
        unfold s1
        split
        · exact .ite h2 h2.closePeriod.openPeriod
        · exact h2.openPeriod
      exact .ite h2 h1.updDet
  exact (h3.columnsUpTo.ite h3.columnsUpTo.columnFrame).updDet.closeIfCovered.coverColumns.showDet

theorem detGap {c next : Nat} {recs : List Record} (hs : Sound s) : Sound (s.detGap c next recs) := by
  unfold State.detGap
  extract_lets _ _ _ s1 s2 s3
  have h1 : Sound s1 := hs.columnsUpTo.updDet.closeIfCovered.coverColumns.updDet
  have h2 : Sound s2 := h1.foldl fun _ _ ht => ht.enterAll
  have h3 : Sound s3 := by
    unfold s3
    split
    · exact .ite (h2.planeGap.ite h2) h1
    · exact h1
  exact h3.showDet

theorem holdClear {c v : Nat} {r : Req} (hs : Sound s) : Sound (State.holdClear c v r s) := by
  unfold State.holdClear; exact .ite hs.answer hs.updDet.answer

theorem coverShed {c : Nat} (hs : Sound s) : Sound (s.coverShed c) := by
  unfold State.coverShed; exact .ite hs.columnsUpTo.updDet.closeIfCovered.coverColumns hs

/-! ### The operations of Machine/Lattice.lean -/

theorem updCtx {c : Nat} {f : Ctx → Ctx} (hs : Sound s) : Sound (s.updCtx c f) :=
  hs.same (by simp [State.updCtx, State.dims]) rfl rfl rfl

theorem showWindow {c : Nat} (hs : Sound s) : Sound (s.showWindow c) := by
  unfold State.showWindow; exact hs.wrAll

theorem endStagingRun {c : Nat} (hs : Sound s) : Sound (s.endStagingRun c) := by
  unfold State.endStagingRun
  split
  · exact hs
  · exact hs.updCtx

theorem contextJoint {c : Nat} (hs : Sound s) : Sound (s.contextJoint c) := by
  unfold State.contextJoint
  extract_lets
  refine hs.joint (fun _ _ _ ht => ht) fun _ _ _ ht => ?_
  extract_lets _ _ s1 s2
  have h1 : Sound s1 := ht.updCtx.showWindow.wr
  have h2 : Sound s2 := .ite h1 h1.endStagingRun
  exact .ite h2.wr.wr.updCtx <| .ite h2.wr h2

theorem contextUpTo {c label : Nat} (hs : Sound s) : Sound (s.contextUpTo c label) := by
  unfold State.contextUpTo
  split
  · exact .ite hs.contextJoint hs
  · exact hs

theorem formFrames {t label d : Nat} (hs : Sound s) : Sound (s.formFrames t label d) := by
  unfold State.formFrames
  refine hs.foldl fun u c hu => ?_
  have h1 : Sound (u.contextUpTo c label) := hu.contextUpTo
  exact h1.ite (h1.foldr fun _ _ hv => hv.updCtx.withFormed.ite hv)

theorem forwardAll {c : Nat} {recs : List Record} (hs : Sound s) : Sound (s.forwardAll c recs) := by
  unfold State.forwardAll; exact hs.foldl fun _ _ ht => ht.enterAll

theorem flushGaps {c : Nat} (hs : Sound s) : Sound (s.flushGaps c) := by
  unfold State.flushGaps
  extract_lets
  refine hs.updCtx.foldl fun _ _ ht => ?_
  split
  · exact ht
  · exact ht.forwardAll.detGap.frameGap.updCtx

theorem showSlots (hs : Sound s) : Sound s.showSlots := by
  unfold State.showSlots; exact hs.wr.peak

theorem contextGap {t a b : Nat} {conv : Option (Nat × Nat)} {recs : List Record} (hs : Sound s) :
    Sound (s.contextGap t a b conv recs) := by
  unfold State.contextGap
  refine hs.foldl fun _ _ ht => ?_
  extract_lets
  refine .ite ht.contextUpTo ?_
  split
  · exact ht.contextUpTo
  · extract_lets _ s1
    have h1 : Sound s1 := ht.contextUpTo.countN.countN.updCtx
    exact (h1.wr.ite h1).flushGaps

theorem shedContext {c : Nat} (hs : Sound s) : Sound (s.shedContext c) := by
  unfold State.shedContext; exact hs.endStagingRun.updCtx.wr.showSlots

theorem restoreContext {c : Nat} (hs : Sound s) : Sound (s.restoreContext c) := by
  unfold State.restoreContext; exact .ite hs.updCtx.wr hs.updCtx

/-! ### The operations of Machine/Tuners.lean -/

theorem updTuner {t : Nat} {f : Tuner → Tuner} (hs : Sound s) : Sound (s.updTuner t f) :=
  hs.same (by simp [State.updTuner, State.dims]) rfl rfl rfl

theorem updChan {ch : Nat} {f : Chan → Chan} (hs : Sound s) : Sound (s.updChan ch f) :=
  hs.same (by simp [State.updChan, State.dims]) rfl rfl rfl

theorem showSplit {t : Nat} (hs : Sound s) : Sound (s.showSplit t) := by
  unfold State.showSplit; exact hs.wrAll

theorem closeRegion {t : Nat} {ws : List Withheld} {r : Nat × Nat} (hs : Sound s) : Sound (s.closeRegion t ws r) := by
  unfold State.closeRegion
  extract_lets _ _ _ _ _ s1 s2
  have h1 : Sound s1 := hs.foldl fun _ _ ht => ht.tellTuner
  have h2 : Sound s2 := by
    unfold s2
    split
    · exact h1.wr.wr.countN
    · exact h1
  exact h2.magnitudeGap.contextGap

theorem closeGaps {t label : Nat} (hs : Sound s) : Sound (s.closeGaps t label) := by
  unfold State.closeGaps; exact .ite hs <| (hs.foldl fun _ _ ht => ht.closeRegion).updTuner

theorem withholdLabels {t first last : Nat} {joint : Option Nat} {named : Option Record} (hs : Sound s) :
    Sound (s.withholdLabels t first last joint named) := by
  unfold State.withholdLabels; exact .ite hs hs.updTuner.wrAll

theorem tunerRetune {t : Nat} (hs : Sound s) : Sound (s.tunerRetune t) := by
  unfold State.tunerRetune
  extract_lets
  refine hs.joint (fun _ _ _ ht => ht) fun _ _ _ ht => ?_
  extract_lets _ s1
  have h1 : Sound s1 := ht.showSplit.wr
  exact .ite h1 <| .ite h1.updTuner h1.updTuner.withholdLabels.wr

theorem tunerSwitch {t : Nat} (hs : Sound s) : Sound (s.tunerSwitch t) := by
  unfold State.tunerSwitch
  exact .ite (hs.joint (fun _ _ _ ht => ht) fun _ _ _ ht => ht.updTuner.showSplit.wrAll) <| .ite hs <|
    hs.joint (fun _ _ _ ht => ht) fun _ _ _ ht => ht.updTuner.showSplit.wrAll

theorem tunerUpTo {t : Nat} (hs : Sound s) : Sound (s.tunerUpTo t) := by
  unfold State.tunerUpTo; exact .ite hs.tunerSwitch hs.tunerRetune

theorem ringGrid {t label d : Nat} (hs : Sound s) : Sound (s.ringGrid t label d) := by
  unfold State.ringGrid
  exact .ite hs <| .ite hs.updRing <|
    ((hs.finishLine.foldl fun _ _ ht => .ite ht ht.feedLine).foldl fun _ _ ht => ht.updFlow).discardRing.updRing.wr

/-! ### The operations of Machine/Capacity.lean -/

theorem showLoads (hs : Sound s) : Sound s.showLoads := by
  unfold State.showLoads; exact hs.wrAll.wrAll.wrAll.wrAll.wrAll.wr.wrAll.wr.wrAll

theorem showFlow {f : Nat} (hs : Sound s) : Sound (s.showFlow f) := by
  unfold State.showFlow; exact .ite hs.wrAll hs.wrAll

/-! ### The operations of Machine/Shed.lean -/

theorem noteTrouble (hs : Sound s) : Sound s.noteTrouble := by
  unfold State.noteTrouble; exact .ite hs.withShed hs

theorem shedTells {u : ShedUnit} {ev tick : Nat} (hs : Sound s) : Sound (s.shedTells u ev tick) := by
  unfold State.shedTells
  extract_lets
  split
  · split
    · exact hs.enterAll.enterAll
    · exact hs.enterAll
  · exact hs.enterAll
  · exact hs.enterAll
  · exact (hs.foldl fun _ _ ht => ht.side).foldl fun _ _ ht => ht.enter
  · exact hs

theorem dropPlaneColumns {p : Nat} (hs : Sound s) : Sound (s.dropPlaneColumns p) := by
  unfold State.dropPlaneColumns; exact hs.withDets (List.length_map _)

theorem settleContexts (hs : Sound s) : Sound s.settleContexts := by
  unfold State.settleContexts; exact hs.foldl fun _ _ ht => .ite (ht.ite ht.shedContext.frameGap) <| .ite ht.restoreContext ht

theorem shedOne {u : ShedUnit} {counted : Bool} (hs : Sound s) : Sound (s.shedOne u counted) := by
  unfold State.shedOne
  extract_lets _ _ _ _ s1 _ _ s2
  have h1 : Sound s1 := by
    unfold s1
    split
    · exact hs.shedTells.dropPlaneColumns.updPlane.wr
    · exact hs.shedTells.updDet.showDet
    · exact hs.shedTells.updFlow
    · exact (hs.shedTells.updChan.foldl fun _ _ ht => ht.stopRing).wrAll
    · exact hs.shedTells
  have h2 : Sound s2 := h1.withShed.wr.settleContexts
  exact .ite h2.count.shedBit.event h2

theorem resumeOne {u : ShedUnit} (hs : Sound s) : Sound (s.resumeOne u) := by
  unfold State.resumeOne
  extract_lets _ _ _ _ s1 _ s2
  have h1 : Sound s1 := by
    unfold s1
    split
    · exact hs.withShed.updPlane.showPlane
    · exact hs.withShed.updDet
    · exact hs.withShed.updFlow
    · exact hs.withShed.updChan.wrAll
    · exact hs.withShed
  have h2 : Sound s2 := (h1.ite h1.shedTells).wr.settleContexts
  exact .ite h2 h2.shedBit

theorem shedNow {cause : Nat} (hs : Sound s) : Sound (s.shedNow cause) := by
  unfold State.shedNow
  split
  · exact hs.noteTrouble
  · exact hs.shedOne.withShed

/-! ### The operations of Machine/Timekeeping.lean -/

theorem anchorAll (hs : Sound s) : Sound s.anchorAll := by
  unfold State.anchorAll; exact .ite hs hs.enterAll

/-! ### The operations of Machine/Converters.lean -/

theorem tunersRead {ch v : Nat} (hs : Sound s) : Sound (s.tunersRead ch v) := by
  unfold State.tunersRead; exact hs.foldl fun _ _ ht => .ite ht.wr ht

theorem interruptTuners {ch a b : Nat} {r : Record} (hs : Sound s) : Sound (s.interruptTuners ch a b r) := by
  unfold State.interruptTuners; exact hs.foldl fun _ _ ht => .ite ht ht.withholdLabels.withholdLabels.withholdLabels

theorem endInterval {ch a b : Nat} {clk : Bool} (hs : Sound s) : Sound (s.endInterval ch a b clk) := by
  unfold State.endInterval; exact .ite hs hs.tellChannel.interruptTuners.tunersRead

theorem endDrops {ch : Nat} (hs : Sound s) : Sound (s.endDrops ch) := by
  unfold State.endDrops
  split
  · exact hs
  · exact hs.tellChannel.interruptTuners.updChan.tunersRead

theorem enterBlock {ch n st : Nat} {codes : List Int} (hs : Sound s) : Sound (s.enterBlock ch n st codes) := by
  unfold State.enterBlock
  extract_lets _ _ s1 _ _ _ _ s2 _ s3
  have h1 : Sound s1 := by
    unfold s1
    split
    · exact .ite hs.endDrops.endInterval.updChan hs.endDrops
    · exact hs.endDrops
  have h2 : Sound s2 := h1.updChan.wr.peak
  have h3 : Sound s3 := .ite (h2.foldl fun _ _ ht => ht.rawPut) h2
  exact .ite h3.shedNow h3

theorem dropBlock {ch n : Nat} (hs : Sound s) : Sound (s.dropBlock ch n) := by
  unfold State.dropBlock; exact hs.updChan.count.event

theorem delayFirst {ch at_ : Nat} (hs : Sound s) : Sound (s.delayFirst ch at_) := by
  unfold State.delayFirst; exact hs.updChan.foldl fun _ _ ht => ht.updTuner

theorem powerChannel {ch first : Nat} (hs : Sound s) : Sound (s.powerChannel ch first) := by
  unfold State.powerChannel
  extract_lets _ _ _ s1 s2
  have h1 : Sound s1 := hs.endDrops.updChan.foldl fun _ _ ht => ht.updTuner
  have h2 : Sound s2 := by
    unfold s2
    split
    · exact h1.delayFirst
    · exact h1
  exact h2.wr

theorem unpowerChannel {ch j : Nat} (hs : Sound s) : Sound (s.unpowerChannel ch j) := by
  unfold State.unpowerChannel
  extract_lets _ s1
  have h1 : Sound s1 := by
    unfold s1
    split
    · exact hs.endDrops.endInterval
    · exact hs.endDrops
  exact (h1.updChan.foldl fun _ _ ht => ht.updTuner).wr

theorem putFactors {ch : Nat} {f : FactorSet} (hs : Sound s) : Sound (s.putFactors ch f) := by
  unfold State.putFactors; exact (hs.foldl fun _ _ ht => ht.foldl fun _ _ hu => hu.wrI).foldl fun _ _ ht => ht.wr

theorem showSet {ch i : Nat} (hs : Sound s) : Sound (s.showSet ch i) := by
  unfold State.showSet; exact hs.wr.wrAll.wrI

theorem advise {ch : Nat} (hs : Sound s) : Sound (s.advise ch) := by
  unfold State.advise; exact .ite hs.wr.event hs.wr

theorem loadSet {ch : Nat} (hs : Sound s) : Sound (s.loadSet ch) := by
  unfold State.loadSet; exact hs.updChan.putFactors.showSet.advise

theorem calDone {ch : Nat} {ok : Bool} (hs : Sound s) : Sound (s.calDone ch ok) := by
  unfold State.calDone
  extract_lets _ _ s1
  have h1 : Sound s1 := (hs.foldl fun _ _ ht => ht.finish).updChan
  split
  · exact h1
  · exact .ite h1 <| .ite h1.withConv.finish h1.withConv

theorem calFail {ch reason : Nat} (hs : Sound s) : Sound (s.calFail ch reason) := by
  unfold State.calFail; exact hs.wrAll.event.calDone

theorem unsync {reason : Nat} (hs : Sound s) : Sound (s.unsync reason) := by
  unfold State.unsync; exact .ite hs hs.withTwin.wrAll

theorem startCal {ch : Nat} (hs : Sound s) : Sound (s.startCal ch) := by
  unfold State.startCal
  extract_lets _ _ _ _ _ _ s1
  have h1 : Sound s1 := hs.updChan.unsync.wrAll.tunersRead
  exact .ite h1.delayFirst h1

theorem beginCals {r : Req} {chs : List Nat} {all : Bool} (hs : Sound s) : Sound (s.beginCals r chs all) := by
  unfold State.beginCals; exact (hs.withConv.ite (hs.foldl fun _ _ ht => ht.updChan)).foldl fun _ _ ht => ht.startCal

theorem planHandover {at_ reason : Nat} (hs : Sound s) : Sound (s.planHandover at_ reason) := by
  unfold State.planHandover; exact hs.withTwin.wr

theorem requestCals {r : Req} {chs : List Nat} {all : Bool} (hs : Sound s) : Sound (s.requestCals r chs all) := by
  unfold State.requestCals; exact .ite hs.accept.withConv.planHandover hs.accept.beginCals

theorem releaseCals (hs : Sound s) : Sound s.releaseCals := by
  unfold State.releaseCals; exact hs.withConv.foldl fun _ _ ht => ht.beginCals

theorem calCmd {ch v : Nat} {r : Req} (hs : Sound s) : Sound (s.calCmd ch v r) := by
  unfold State.calCmd; exact .ite hs.answer <| .ite hs.answer hs.requestCals

theorem calAllCmd {v : Nat} {r : Req} (hs : Sound s) : Sound (s.calAllCmd v r) := by
  unfold State.calAllCmd
  extract_lets
  split
  · exact .ite hs.answer <| .ite hs.answer hs.requestCals
  · exact .ite hs.answer hs.accept.withConv
  · exact hs.answer

theorem endCal {ch : Nat} {c : Cal} (hs : Sound s) : Sound (s.endCal ch c) := by
  unfold State.endCal; exact hs.updChan

theorem abandonCal {ch reason : Nat} (hs : Sound s) : Sound (s.abandonCal ch reason) := by
  unfold State.abandonCal
  split
  · exact hs
  · exact .ite hs hs.updChan.calFail

theorem abandonAnyCal {ch : Nat} (hs : Sound s) : Sound (s.abandonAnyCal ch) := by
  unfold State.abandonAnyCal
  extract_lets _ _ s1
  have h1 : Sound s1 := by
    unfold s1
    split
    · exact hs.abandonCal
    · exact hs.abandonCal.updChan.putFactors.calFail
  exact .ite h1 <| h1.withConv.foldl fun _ _ ht => (ht.foldl fun _ _ hu => hu.wrAll.event).finish

theorem clockWithhold {a : Nat} (hs : Sound s) : Sound (s.clockWithhold a) := by
  unfold State.clockWithhold; exact hs.foldl fun _ _ ht => .ite ht.abandonCal ht.abandonCal.updChan.wr.tunersRead

theorem clockResume {a : Nat} (hs : Sound s) : Sound (s.clockResume a) := by
  unfold State.clockResume; exact hs.foldl fun _ _ ht => .ite (ht.updChan.ite ht.updChan.delayFirst) ht

theorem updConv {f : ConvGlobal → ConvGlobal} (hs : Sound s) : Sound (s.updConv f) := by
  unfold State.updConv; exact hs.withConv

theorem syncModeCmd {v : Nat} {r : Req} (hs : Sound s) : Sound (s.syncModeCmd v r) := by
  unfold State.syncModeCmd
  extract_lets s1
  have h1 : Sound s1 := by
    unfold s1
    split
    · exact hs.finish
    · exact hs
  split
  · exact h1.updConv.wrAll.answer
  · exact .ite hs.answer <| .ite hs.answer hs.answer
  · exact .ite hs.answer hs.accept.updConv.wrAll

theorem renumber {t : Nat} (hs : Sound s) : Sound (s.renumber t) := by
  unfold State.renumber
  exact ((hs.withTickPlumb.foldl fun _ _ ht => ht.updChan).foldl fun _ _ ht => ht.updTuner).foldl fun _ _ ht => ht.discardRing

theorem boundaryFails {b : Nat} (hs : Sound s) : Sound (s.boundaryFails b) := by
  unfold State.boundaryFails; exact (hs.foldl fun _ _ ht => ht.updChan).wr.count.event

theorem applyPath {ch : Nat} (hs : Sound s) : Sound (s.applyPath ch) := by
  unfold State.applyPath; exact hs.updChan

theorem pathDelay {ch v : Nat} {r : Req} (hs : Sound s) : Sound (s.pathDelay ch v r) := by
  unfold State.pathDelay; exact .ite hs.answer hs.wr.applyPath.markPs.answer

/-! ### The operations of Machine/Placement.lean -/

theorem putMem {a w : Nat} (hs : Sound s) : Sound (s.putMem a w) := by
  unfold State.putMem; exact hs.withRsv

theorem claim {r : Req} {u : UnitId} {pool : List Nat} {quota : Nat} {took : State → State} (hs : Sound s)
    (htook : ∀ t, Sound t → Sound (took t)) : Sound (s.claim r u pool quota took) := by
  unfold State.claim
  split
  · exact .ite hs.answer <| .ite hs.answer <| .ite hs.answer hs.answer
  · exact .ite hs.answer <| (htook _ hs.own).answer

theorem unclaim {r : Req} {u : UnitId} {body : State → State} (hs : Sound s) (hbody : ∀ t, Sound t → Sound (body t)) :
    Sound (s.unclaim r u body) := by
  unfold State.unclaim
  split
  · exact hs.answer
  · exact .ite (hbody _ hs) hs.answer

theorem dropUnit {u : UnitId} (hs : Sound s) : Sound (s.dropUnit u) := by
  unfold State.dropUnit; exact hs.foldl fun _ _ ht => ht.dropStaged

/-! ### The operations of Machine/Movers.lean -/

theorem updMover {m : Nat} {f : Mover → Mover} (hs : Sound s) : Sound (s.updMover m f) :=
  hs.same (by simp [State.updMover, State.dims]) rfl rfl rfl

theorem moveBeat {m k skip : Nat} {keep : Bool} (hs : Sound s) : Sound (s.moveBeat m k skip keep) := by
  unfold State.moveBeat
  extract_lets _ _ _ s1
  have h1 : Sound s1 := .ite hs.updFlow hs
  exact .ite (h1.foldl fun _ _ ht => ht.withRsv) <| .ite h1.updFlow <| h1.foldl fun _ _ ht => ht.putMem

theorem askBeats {m b n : Nat} (hs : Sound s) : Sound (s.askBeats m b n) := by
  unfold State.askBeats; exact (hs.foldl fun _ _ ht => ht.access).foldl fun _ _ ht => ht.access

theorem moveBeats {m n : Nat} (hs : Sound s) : Sound (s.moveBeats m n) := by
  unfold State.moveBeats; exact (hs.askBeats.foldl fun _ _ ht => ht.moveBeat).updMover.wr.wr

theorem beginSlot {m slot : Nat} (hs : Sound s) : Sound (s.beginSlot m slot) := by
  unfold State.beginSlot; exact hs.updMover.wr.wr

theorem nextSlot {m : Nat} (hs : Sound s) : Sound (s.nextSlot m) := by
  unfold State.nextSlot; exact .ite hs.wr hs.beginSlot

theorem completeSlot {m : Nat} (hs : Sound s) : Sound (s.completeSlot m) := by
  unfold State.completeSlot; exact (hs.wr.wr.notify.ite hs.wr.wr).nextSlot

theorem failBeat {m k code dir : Nat} (hs : Sound s) : Sound (s.failBeat m k code dir) := by
  unfold State.failBeat
  extract_lets _ _ _ _ _ _ _ _ _ _ _ s1 s2
  have h1 : Sound s1 := (hs.moveBeats.used.foldl fun _ _ ht => ht.moveBeat).updMover.wrAll.count
  have h2 : Sound s2 := by
    unfold s2
    split
    · exact h1.badLine
    · exact h1
  exact .ite h2 h2.notify

theorem loseBeats {m k : Nat} (hs : Sound s) : Sound (s.loseBeats m k) := by
  unfold State.loseBeats; exact .ite (hs.ite hs.loseFrames) <| (hs.ite hs.loseFrames).loseFrames

theorem firmwareHandles {m : Nat} (hs : Sound s) : Sound (s.firmwareHandles m) := by
  unfold State.firmwareHandles; exact .ite hs.used.event.loseBeats.wr.nextSlot hs.used.event.updMover.wr.wr

theorem failed {m k code dir : Nat} (hs : Sound s) : Sound (s.failed m k code dir) := by
  unfold State.failed; exact .ite hs.failBeat.firmwareHandles hs.failBeat

theorem advance {m n : Nat} (hs : Sound s) : Sound (s.advance m n) := by
  unfold State.advance
  extract_lets _ bad
  clear_value bad
  split
  · exact hs.moveBeats
  · split
    · exact hs.failed
    · exact hs

theorem loseUse {m mark : Nat} (hs : Sound s) : Sound (s.loseUse m mark) := by
  unfold State.loseUse
  extract_lets
  refine .ite ?_ hs
  split
  · exact .ite hs.updMover.failBeat hs.updMover
  · exact hs.updMover

theorem moversLoseFlow {f : Nat} (hs : Sound s) : Sound (s.moversLoseFlow f) := by
  unfold State.moversLoseFlow; exact hs.foldl fun _ _ ht => ht.loseUse

theorem moversLoseLayer {l : Nat} (hs : Sound s) : Sound (s.moversLoseLayer l) := by
  unfold State.moversLoseLayer; exact hs.foldl fun _ _ ht => ht.loseUse

theorem completeIf {m n : Nat} (hs : Sound s) : Sound (s.completeIf m n) := by
  unfold State.completeIf; exact .ite hs.completeSlot hs

theorem moverHaltAt {m beats : Nat} (hs : Sound s) : Sound (s.moverHaltAt m beats) := by
  unfold State.moverHaltAt; exact hs.updMover.advance.completeIf

theorem halted {m beats : Nat} (hs : Sound s) : Sound (s.halted m beats) := by
  unfold State.halted; exact .ite hs.moverHaltAt.wr hs.moverHaltAt

theorem moverStart {m : Nat} {r : Req} (hs : Sound s) : Sound (s.moverStart m r) := by
  unfold State.moverStart
  extract_lets
  refine .ite hs.answer ?_
  split
  · exact hs.wrAll.answer
  · exact hs.updMover.beginSlot.wr.wr.answer

theorem moverHalt {m beats : Nat} {r : Req} (hs : Sound s) : Sound (s.moverHalt m beats r) := by
  unfold State.moverHalt; exact .ite hs.answer <| .ite hs.halted.answer hs.updMover.answer

theorem moverStop {m beats : Nat} (hs : Sound s) : Sound (s.moverStop m beats) := by
  unfold State.moverStop; exact (hs.moverHaltAt.ite hs).updMover.wr

theorem moverAbort {m beats : Nat} {r : Req} (hs : Sound s) : Sound (s.moverAbort m beats r) := by
  unfold State.moverAbort; exact .ite hs.moverStop.answer hs.answer

theorem moverRetry {m : Nat} {r : Req} (hs : Sound s) : Sound (s.moverRetry m r) := by
  unfold State.moverRetry; exact .ite hs.answer hs.updMover.wr.wr.answer

theorem moverSkip {m : Nat} {r : Req} (hs : Sound s) : Sound (s.moverSkip m r) := by
  unfold State.moverSkip; exact .ite hs.answer <| (hs.updFlow.ite hs).wr.nextSlot.answer

theorem moverResume {m : Nat} {r : Req} (hs : Sound s) : Sound (s.moverResume m r) := by
  unfold State.moverResume; exact .ite hs.answer hs.wr.answer

theorem moveCmd {m v beats : Nat} {r : Req} (hs : Sound s) : Sound (s.moveCmd m v beats r) := by
  unfold State.moveCmd
  split
  · exact hs.moverStart
  · exact hs.moverHalt
  · exact hs.moverRetry
  · exact hs.moverSkip
  · exact hs.moverAbort
  · exact hs.moverResume
  · exact hs.answer

theorem moveCommand {sess tag m v beats : Nat} (hs : Sound s) : Sound (s.moveCommand sess tag m v beats) := by
  unfold State.moveCommand; exact .ite (hs.when fun _ ht => ht.moveCmd) <| hs.when fun _ ht => ht.direct fun _ _ hu => hu.moveCmd

theorem freeMover {m : Nat} (hs : Sound s) : Sound (s.freeMover m) := by
  unfold State.freeMover; exact hs.moverStop.wr.wrc.wr.freeSmall.disown.dropUnit.wrAll

theorem moverClaim {m : Nat} {r : Req} (hs : Sound s) : Sound (s.moverClaim m r) := by
  unfold State.moverClaim; exact .ite hs.answer <| hs.claim fun _ ht => ht.wrAll

theorem moverRelease {m : Nat} {r : Req} (hs : Sound s) : Sound (s.moverRelease m r) := by
  unfold State.moverRelease; exact .ite hs.answer <| hs.unclaim fun _ ht => ht.freeMover.answer

theorem moverDesc {m v : Nat} {r : Req} (hs : Sound s) : Sound (s.moverDesc m v r) := by
  unfold State.moverDesc; exact .ite hs.answer hs.updMover.answer

/-! ### The operations of Machine/DictFrames.lean -/

theorem takeRequest {sess : Nat} {o : List Nat} (hs : Sound s) : Sound (s.takeRequest sess o) := by
  unfold State.takeRequest; exact .ite hs.count <| .ite hs.respond <| .ite hs.withI3c hs.updSes

theorem controlOctets {sess : Nat} {o : List Nat} (hs : Sound s) : Sound (s.controlOctets sess o) := by
  unfold State.controlOctets
  split
  exact (hs.updSes.foldl fun _ _ ht => ht.takeRequest).countN

theorem popRequest {sess op tag idx sub : Nat} (hs : Sound s) : Sound (s.popRequest sess op tag idx sub) := by
  unfold State.popRequest; exact .ite hs <| .ite hs.withI3c hs.updSes

/-! ### The operations of Machine/Custody.lean -/

theorem closeSegment {f : Nat} (hs : Sound s) : Sound (s.closeSegment f) := by
  unfold State.closeSegment; exact .ite hs hs.updFlow.updFlow.wr

theorem signs (hs : Sound s) : Sound s.signs.2 := by
  unfold State.signs
  extract_lets
  split
  · exact hs.withSigned
  · split
    · exact hs.used
    · exact hs.used.withSigned

/-! ### The operations of Machine/Ports.lean -/

theorem updPort {p : Nat} {f : PortRt → PortRt} (hs : Sound s) : Sound (s.updPort p f) :=
  hs.same (by simp [State.updPort, State.dims]) rfl rfl rfl

theorem setSeq {f q : Nat} (hs : Sound s) : Sound (s.setSeq f q) := by
  unfold State.setSeq; exact hs.updFlow.wr

theorem portWrite {r : Req} {v : Nat} (hs : Sound s) : Sound (s.portWrite r v) := by
  unfold State.portWrite
  extract_lets
  refine .ite hs.answer ?_
  split
  · exact hs
  · exact (hs.liveWrite.wrAll.ite ((hs.liveWrite.wrAll.ite (hs.liveWrite.wr.ite hs.liveWrite)).ite hs.liveWrite)).answer

theorem rxPop {p : Nat} (hs : Sound s) : Sound (s.rxPop p) := by
  unfold State.rxPop; exact hs.updPort

theorem showTj (hs : Sound s) : Sound s.showTj := by
  unfold State.showTj; exact .ite (hs.wrI.foldl fun _ _ ht => ht.advise) hs.wrI

theorem sampleTj (hs : Sound s) : Sound s.sampleTj := by
  unfold State.sampleTj; exact (hs.foldl fun _ _ ht => ht.wrI).used.showTj

/-! ### The operations of Machine/Flows.lean -/

theorem overwrite {f : Nat} (hs : Sound s) : Sound (s.overwrite f) := by
  unfold State.overwrite; exact .ite hs hs.missFrames

theorem reReadFrame {f : Nat} {fr : TxFrame} (hs : Sound s) : Sound (s.reReadFrame f fr) := by
  unfold State.reReadFrame; exact .ite hs.updFlow <| .ite hs.missFrames <| hs.foldl fun _ _ ht => ht.request

theorem reRead {f : Nat} (hs : Sound s) : Sound (s.reRead f) := by
  unfold State.reRead; exact hs.foldl fun _ _ ht => ht.reReadFrame

theorem retain {f seq : Nat} (hs : Sound s) : Sound (s.retain f seq) := by
  unfold State.retain
  split
  · exact hs
  · exact .ite (hs.missFrames.ite hs) <| hs.foldl fun _ _ ht => ht.access

theorem cutFrame {f n : Nat} {flushed final : Bool} (hs : Sound s) : Sound (s.cutFrame f n flushed final) := by
  unfold State.cutFrame; exact hs.updFlow.setSeq.overwrite.retain.updFlow

theorem flushAll {f : Nat} {final : Bool} (hs : Sound s) : Sound (s.flushAll f final) := by
  unfold State.flushAll; exact hs.updFlow.foldl fun _ _ ht => ht.cutFrame

theorem finalFrame {f : Nat} (hs : Sound s) : Sound (s.finalFrame f) := by
  unfold State.finalFrame
  extract_lets
  refine .ite hs.flushAll ?_
  split
  · exact .ite hs.updFlow hs.updFlow.cutFrame
  · exact hs.updFlow.cutFrame

theorem cutControl {f : Nat} (hs : Sound s) : Sound (s.cutControl f) := by
  unfold State.cutControl
  extract_lets
  split
  · exact hs
  · exact .ite hs hs.updSes.updFlow.setSeq

theorem spendToken {f p : Nat} (hs : Sound s) : Sound (s.spendToken f p) := by
  unfold State.spendToken; exact hs.updFlow

theorem portCount {p : Nat} (hs : Sound s) : Sound (s.portCount p) := by
  unfold State.portCount; exact hs.updPort

theorem putWire {p : Nat} {w : SentFrame} (hs : Sound s) : Sound (s.putWire p w) := by
  unfold State.putWire; exact hs.updPort.withWire.wr

theorem sendFrame {p f : Nat} {fr : TxFrame} (hs : Sound s) : Sound (s.sendFrame p f fr) := by
  unfold State.sendFrame; exact (hs.count.ite (hs.ite hs.spendToken)).portCount.updFlow.putWire

theorem sendAck {p f : Nat} (hs : Sound s) : Sound (s.sendAck p f) := by
  unfold State.sendAck; exact hs.updFlow.putWire

theorem postLog {f : Nat} {fr : TxFrame} (hs : Sound s) : Sound (s.postLog f fr) := by
  unfold State.postLog; exact hs.withTwin

theorem sendData {p : Nat} {e : Nat × TxFrame} (hs : Sound s) : Sound (s.sendData p e) := by
  unfold State.sendData; exact .ite hs.postLog hs.sendFrame

theorem sendNext {p : Nat} (hs : Sound s) : Sound (s.sendNext p) := by
  unfold State.sendNext
  extract_lets
  refine .ite hs ?_
  split
  · exact .ite hs.updPort.sendAck hs.updPort.putWire
  · refine .ite hs ?_
    split
    · exact hs.sendFrame
    · refine .ite hs ?_
      split
      · exact hs.sendData
      · split
        · exact hs.sendData
        · exact hs

theorem transmit {p : Nat} (hs : Sound s) : Sound (s.transmit p) := by
  unfold State.transmit; exact .ite hs hs.sendNext

theorem takeAck {f : Nat} {a : Ack} (hs : Sound s) : Sound (s.takeAck f a) := by
  unfold State.takeAck
  extract_lets _ _ _ _ _ s1
  have h1 : Sound s1 := hs.updFlow.updFlow.reRead
  exact .ite hs.count <| (h1.wr.ite h1).wrAll

theorem askAck {p f : Nat} (hs : Sound s) : Sound (s.askAck p f) := by
  unfold State.askAck; exact hs.updPort.updFlow

theorem takeData {p : Nat} {r : RxFrame} (hs : Sound s) : Sound (s.takeData p r) := by
  unfold State.takeData
  extract_lets _ _ _ _ _ _ _ s1
  have h1 : Sound s1 := .ite hs.updFlow.updFlow.controlOctets hs.updFlow
  exact .ite hs.updFlow.count <| .ite h1 h1.askAck

theorem showFlowFree (hs : Sound s) : Sound s.showFlowFree := by
  unfold State.showFlowFree; exact hs.wr

theorem flowClaim {f : Nat} {r : Req} (hs : Sound s) : Sound (s.flowClaim f r) := by
  unfold State.flowClaim; exact .ite hs.answer <| hs.claim fun _ ht => (ht.ite ht.updFlow.wr).wrAll.showFlowFree

theorem freeFlow {f : Nat} (hs : Sound s) : Sound (s.freeFlow f) := by
  unfold State.freeFlow; exact hs.disown.dropUnit.updFlow.wrAll.showFlowFree

theorem flowRelease {f : Nat} {r : Req} (hs : Sound s) : Sound (s.flowRelease f r) := by
  unfold State.flowRelease; exact .ite hs.answer <| hs.unclaim fun _ ht => .ite ht.freeFlow.answer ht.answer

theorem startFlow {f j : Nat} (hs : Sound s) : Sound (s.startFlow f j) := by
  unfold State.startFlow; exact hs.updFlow.wrAll.showFlow.updFlow.enter

theorem stopFlow {f : Nat} (hs : Sound s) : Sound (s.stopFlow f) := by
  unfold State.stopFlow
  extract_lets s1 _ _ _ s2
  have h1 : Sound s1 := hs.moversLoseFlow
  have h2 : Sound s2 := h1.updFlow.closeSegment
  exact .ite h1.updFlow.wr <| .ite h1.updFlow.wr <| (h2.event.used.ite h2).finalFrame.wr

/-! ### The operations of Machine/Scan.lean -/

theorem layerLeaves {l : Nat} (hs : Sound s) : Sound (s.layerLeaves l) := by
  unfold State.layerLeaves; exact .ite hs hs.moversLoseLayer.wr

theorem showLayer {l : Nat} (hs : Sound s) : Sound (s.showLayer l) := by
  unfold State.showLayer; exact .ite (hs.ite hs.wr) <| (hs.ite hs.wr).wr

theorem latchSwap {w : Swap} (hs : Sound s) : Sound (s.latchSwap w) := by
  unfold State.latchSwap
  refine hs.foldl fun _ _ ht => ?_
  extract_lets _ s1
  have h1 : Sound s1 := (ht.layerLeaves.ite ht).applyChange
  split
  · exact h1.updLoad
  · exact h1

theorem dropLayer {l : Nat} (hs : Sound s) : Sound (s.dropLayer l) := by
  unfold State.dropLayer; exact .ite hs hs.layerLeaves.wrAll.disown.dropUnit.withScan

theorem scanEffects (hs : Sound s) : Sound s.scanEffects := by
  unfold State.scanEffects; exact foldl_fst hs fun _ _ ht => ht.ite ht.wr

theorem latch {edge : Bool} (hs : Sound s) : Sound (State.latch edge s) := by
  unfold State.latch
  extract_lets _ s1
  have h1 : Sound s1 := (hs.foldl fun _ _ ht => ht.latchSwap).foldl fun _ _ ht => ht.dropLayer
  exact ((h1.wr.wr.ite h1).withScan.wrAll.foldl fun _ _ ht => ht.showLayer).scanEffects.scanReader

theorem teAccept (hs : Sound s) : Sound s.teAccept := by
  unfold State.teAccept; exact hs.latch.withScan

theorem underrunEnd (hs : Sound s) : Sound s.underrunEnd := by
  unfold State.underrunEnd
  extract_lets
  split
  · exact hs
  · exact hs.enterAll.withScan

theorem frameSent (hs : Sound s) : Sound s.frameSent := by
  unfold State.frameSent
  extract_lets _ _ _ _ _ s1
  have h1 : Sound s1 := hs.underrunEnd.withScan
  exact .ite h1 <| h1.foldl fun _ _ ht => .ite ht.wr ht

theorem renderInto {h : Harvest} (hs : Sound s) : Sound (s.renderInto h) := by
  unfold State.renderInto
  refine hs.foldl fun _ _ ht => ?_
  refine ht.foldl fun _ _ hu => ?_
  extract_lets
  split
  exact .ite hu.putMem hu.putMem

theorem layerClaim {l : Nat} {r : Req} (hs : Sound s) : Sound (s.layerClaim l r) := by
  unfold State.layerClaim; exact hs.claim fun _ ht => ht.wr

theorem freeLayer {l : Nat} (hs : Sound s) : Sound (s.freeLayer l) := by
  unfold State.freeLayer; exact hs.wrc.wrc.withScan

theorem layerRelease {l : Nat} {r : Req} (hs : Sound s) : Sound (s.layerRelease l r) := by
  unfold State.layerRelease; exact hs.unclaim fun _ ht => (ht.freeLayer.ite ht.freeLayer.dropLayer).answer

/-! ### The operations of Machine/Clock.lean -/

theorem updClk {f : Clk → Clk} (hs : Sound s) : Sound (s.updClk f) := by
  unfold State.updClk; exact hs.withClk

theorem setRatio {hz : Nat} (hs : Sound s) : Sound (s.setRatio hz) := by
  unfold State.setRatio; exact hs.wrAll

theorem showClkOut (hs : Sound s) : Sound s.showClkOut := by
  unfold State.showClkOut; exact hs.wr

theorem lockBit {on : Bool} (hs : Sound s) : Sound (s.lockBit on) := by
  unfold State.lockBit; exact hs.wr

theorem acquire (hs : Sound s) : Sound s.acquire := by
  unfold State.acquire
  refine .ite hs ?_
  split
  · exact .ite hs.updClk hs
  · split
    · exact hs.updClk
    · exact hs

theorem holdover (hs : Sound s) : Sound s.holdover := by
  unfold State.holdover; exact hs.updClk.wrAll.count.event.anchorAll

theorem switchRef {r : Nat} (hs : Sound s) : Sound (s.switchRef r) := by
  unfold State.switchRef; exact hs.updClk.wr.count.anchorAll

theorem refLost (hs : Sound s) : Sound s.refLost := by
  unfold State.refLost; exact .ite hs.switchRef hs.holdover

theorem pullIn (hs : Sound s) : Sound s.pullIn := by
  unfold State.pullIn
  refine .ite hs ?_
  split
  · exact hs.updClk.wr
  · exact hs

theorem refSelCmd {v : Nat} {r : Req} (hs : Sound s) : Sound (s.refSelCmd v r) := by
  unfold State.refSelCmd
  exact .ite hs.wr.markPs.pullIn.answer <| .ite hs.answer <| .ite hs.answer <|
    .ite (hs.wr.markPs.switchRef.answer.ite hs.answer) hs.wr.markPs.pullIn.answer

theorem gate {a : Nat} (hs : Sound s) : Sound (s.gate a) := by
  unfold State.gate; exact (hs.lockBit.updClk.wr.clockWithhold.foldl fun _ _ ht => ht.foldl fun _ _ hu => hu.srcGap).showClkOut

theorem openGate {t : Nat} (hs : Sound s) : Sound (s.openGate t) := by
  unfold State.openGate; exact hs.wrAll.updClk.clockResume.endPinGaps.showClkOut.anchorAll

theorem changeDone {c : ClkChange} (hs : Sound s) : Sound (s.changeDone c) := by
  unfold State.changeDone; exact (hs.wr.wr.ite hs.wr).updClk.finish

theorem startChannels (hs : Sound s) : Sound s.startChannels := by
  unfold State.startChannels; exact .ite hs <| hs.updConv.foldl fun _ _ ht => ht.powerChannel

theorem freeLock (hs : Sound s) : Sound s.freeLock := by
  unfold State.freeLock; exact hs.lockBit.updClk.wrAll.startChannels.showClkOut.anchorAll

theorem masterFails (hs : Sound s) : Sound s.masterFails := by
  unfold State.masterFails; exact hs.wr.wr.updClk.event.event

theorem changeCmd {v : Nat} {r : Req} (hs : Sound s) : Sound (s.changeCmd v r) := by
  unfold State.changeCmd; exact .ite hs.answer <| .ite hs.answer hs.accept.updClk.wr

theorem requalify {c : ClkChange} (hs : Sound s) : Sound (s.requalify c) := by
  unfold State.requalify; exact .ite hs <| (hs.wr.count.ite hs).updClk

theorem syncPeriod {p : Nat} {r : Req} (hs : Sound s) : Sound (s.syncPeriod p r) := by
  unfold State.syncPeriod; exact .ite hs.wr.answer hs.answer

theorem outDiv {v : Nat} {r : Req} (hs : Sound s) : Sound (s.outDiv v r) := by
  unfold State.outDiv; exact hs.wr.markPs.showClkOut.answer

theorem clkTest {v : Nat} {r : Req} (hs : Sound s) : Sound (s.clkTest v r) := by
  unfold State.clkTest; exact .ite hs.answer <| .ite hs.answer hs.updClk.wr.answer

/-! ### The operations of Machine/Plumb.lean -/

theorem updPlumb {f : Plumb → Plumb} (hs : Sound s) : Sound (s.updPlumb f) := by
  unfold State.updPlumb; exact hs.withPlumb

theorem holdStop {p : Stop} (hs : Sound s) : Sound (s.holdStop p) := by
  unfold State.holdStop
  extract_lets _ un
  clear_value un
  split
  · exact .ite hs.updPlumb.updPlumb.count hs.updPlumb
  · exact hs.updPlumb

theorem showHead (hs : Sound s) : Sound s.showHead := by
  unfold State.showHead; exact hs.wrAll.foldl fun _ _ ht => ht.wr.wr

theorem closeMeasure {c : TdcCfg} {a : StartEdge} {later : List StartEdge} (hs : Sound s) : Sound (s.closeMeasure c a later) := by
  unfold State.closeMeasure
  extract_lets _ _ _ _ _ _ _ _ _ _ s1
  have h1 : Sound s1 := hs.updPlumb.countN.countN
  exact .ite h1.count h1.updPlumb.showHead

theorem resNext {v : Nat} {r : Req} (hs : Sound s) : Sound (s.resNext v r) := by
  unfold State.resNext; exact .ite hs.answer <| .ite hs.answer hs.updPlumb.showHead.answer

theorem showPlumb (hs : Sound s) : Sound s.showPlumb := by
  unfold State.showPlumb; exact hs.wr

theorem plumbStop (hs : Sound s) : Sound s.plumbStop := by
  unfold State.plumbStop; exact hs.wrAll.updPlumb.showHead.showPlumb

theorem freePlumb (hs : Sound s) : Sound s.freePlumb := by
  unfold State.freePlumb; exact hs.wrc.wrc.plumbStop.disown.dropUnit.wr

theorem plumbClaim {r : Req} (hs : Sound s) : Sound (s.plumbClaim r) := by
  unfold State.plumbClaim; exact hs.claim fun _ ht => ht.wr

theorem plumbRelease {r : Req} (hs : Sound s) : Sound (s.plumbRelease r) := by
  unfold State.plumbRelease; exact hs.unclaim fun _ ht => ht.freePlumb.answer

theorem timeStartsBelow {j : Nat} (hs : Sound s) : Sound (s.timeStartsBelow j) := by
  unfold State.timeStartsBelow
  extract_lets
  split
  · exact hs
  · exact hs.updPlumb

theorem plumbAfter {j : Nat} (hs : Sound s) : Sound (s.plumbAfter j) := by
  unfold State.plumbAfter; exact hs.updPlumb.wr.showPlumb

theorem beginGate {t : Nat} (hs : Sound s) : Sound (s.beginGate t) := by
  unfold State.beginGate
  extract_lets
  split
  · exact .ite hs.updPlumb hs.updPlumb
  · exact hs.updPlumb

theorem gateFlag {bit : Nat} {on : Bool} (hs : Sound s) : Sound (s.gateFlag bit on) := by
  unfold State.gateFlag; exact .ite hs.updPlumb hs

theorem endGate {g : Gate} (hs : Sound s) : Sound (s.endGate g) := by
  unfold State.endGate
  split
  extract_lets
  split
  exact hs.wrAll.beginGate

theorem beginPiece {pos time : Nat} {rate : Nat × Nat} (hs : Sound s) : Sound (s.beginPiece pos time rate) := by
  unfold State.beginPiece; exact .ite hs hs.updPlumb

theorem timeState {st : Nat} (hs : Sound s) : Sound (s.timeState st) := by
  unfold State.timeState; exact .ite hs hs.wr.anchorAll

theorem timeStep {pos time st : Nat} (hs : Sound s) : Sound (s.timeStep pos time st) := by
  unfold State.timeStep; exact hs.beginPiece.count.wr.anchorAll

theorem ppsAccept {pos k e : Nat} (hs : Sound s) : Sound (s.ppsAccept pos k e) := by
  unfold State.ppsAccept
  extract_lets
  split
  extract_lets _ s1
  have h1 : Sound s1 := hs.beginPiece.updPlumb
  exact (h1.ite h1.count.anchorAll).timeState

theorem timeSource {v : Nat} (hs : Sound s) : Sound (s.timeSource v) := by
  unfold State.timeSource; exact .ite hs.updPlumb.timeState hs.updPlumb

theorem todNext {v : Nat} {r : Req} (hs : Sound s) : Sound (s.todNext v r) := by
  unfold State.todNext; exact hs.updPlumb.answer

theorem ppsOutEnable {v : Nat} (hs : Sound s) : Sound (s.ppsOutEnable v) := by
  unfold State.ppsOutEnable; exact .ite hs hs.updPlumb

theorem convTick {v : Nat} {r : Req} (hs : Sound s) : Sound (s.convTick v r) := by
  unfold State.convTick; exact .ite hs.answer hs.wrAll.answer

/-! ### The operations of Machine/Validate.lean -/

theorem showStagedLoads {w : Swap} (hs : Sound s) : Sound (s.showStagedLoads w) := by
  unfold State.showStagedLoads; exact hs.updSes.wrAll

theorem showVerdict {sess : Nat} {v : Option Refused} (hs : Sound s) : Sound (s.showVerdict sess v) := by
  unfold State.showVerdict
  split
  · exact hs.wrAll
  · exact hs.wrAll

theorem showAdmission {sess : Nat} {v : Option Refused} (hs : Sound s) : Sound (s.showAdmission sess v) := by
  unfold State.showAdmission; exact hs.wrAll

/-! ### The operations of Machine/Commit.lean -/

theorem showBusy {sess : Nat} (hs : Sound s) : Sound (s.showBusy sess) := by
  unfold State.showBusy; exact hs.wr

theorem rebound {w : Swap} (hs : Sound s) : Sound (s.rebound w) := by
  unfold State.rebound; exact hs.withSwaps

theorem putCommitted {w : Swap} (hs : Sound s) : Sound (s.putCommitted w) := by
  unfold State.putCommitted; exact ((hs.foldl fun _ _ ht => ht.wrc).foldl fun _ _ ht => ht.updLoad).showUwin

theorem putSmalls (hs : Sound s) : Sound s.putSmalls := by
  unfold State.putSmalls
  extract_lets
  split
  · exact hs
  · exact hs.withRsv.showPans

theorem showCommitted {units : List (Nat × UnitId)} (hs : Sound s) : Sound (s.showCommitted units) := by
  unfold State.showCommitted; exact hs.showLoads.foldl fun _ _ ht => ht.showWindow

theorem settleOwner {sess : Nat} {u : UnitId} (hs : Sound s) : Sound (s.settleOwner sess u) := by
  unfold State.settleOwner; exact .ite hs <| .ite hs.disown <| .ite hs.own <| .ite hs hs.disown

theorem engineJoint {cause sess req : Nat} {units : List UnitId} (hs : Sound s) : Sound (s.engineJoint cause sess req units) := by
  unfold State.engineJoint; exact hs.putCommitted.showCommitted.withSwapsSwapId.scanEffects

theorem sessionJoint {sess req : Nat} {extra : List UnitId} (hs : Sound s) : Sound (s.sessionJoint sess req extra) := by
  unfold State.sessionJoint; exact .ite hs hs.engineJoint

theorem freeIdleFlows {sess : Nat} (hs : Sound s) : Sound (s.freeIdleFlows sess) := by
  unfold State.freeIdleFlows; exact hs.foldl fun _ _ ht => ht.freeFlow.updFlow

theorem freeNumber {sess : Nat} (hs : Sound s) : Sound (s.freeNumber sess) := by
  unfold State.freeNumber
  extract_lets s1
  have h1 : Sound s1 := hs.freeIdleFlows
  exact .ite h1 h1.updSes.wrAll

theorem resolveEnded {w : Swap} {req : Nat} (hs : Sound s) : Sound (s.resolveEnded w req) := by
  unfold State.resolveEnded; exact .ite hs hs.sessionJoint.freeNumber

theorem takeScan {sess : Nat} (hs : Sound s) : Sound (s.takeScan sess) := by
  unfold State.takeScan; exact (hs.updSes.foldl fun _ _ ht => ht.stagePut).wr

theorem commit {r : Req} (hs : Sound s) : Sound (s.commit r) := by
  unfold State.commit; exact .ite hs.answer <| .ite hs.accept.finish <| (hs.takeScan.ite hs).withSwapsSwapIdCommits.wrAll.accept.showBusy

theorem validateOnly {r : Req} (hs : Sound s) : Sound (s.validateOnly r) := by
  unfold State.validateOnly
  extract_lets _ _ _ s1
  have h1 : Sound s1 := hs.showVerdict.showStagedLoads
  exact .ite hs.answer <| .ite h1.answer h1.answer

theorem discardScope {r : Req} (hs : Sound s) : Sound (s.discardScope r) := by
  unfold State.discardScope; exact .ite hs.answer hs.discard.answer

theorem setSwap {w : Swap} (hs : Sound s) : Sound (s.setSwap w) := by
  unfold State.setSwap; exact hs.withSwaps

theorem dropSwap {w : Swap} (hs : Sound s) : Sound (s.dropSwap w) := by
  unfold State.dropSwap; exact hs.withSwaps

theorem letIn {w : Swap} (hs : Sound s) : Sound (s.letIn w) := by
  unfold State.letIn
  extract_lets _ _ _ s1 _ _ _ _ s2 _ _ s3 s4
  have h1 : Sound s1 := hs.putCommitted
  have h2 : Sound s2 := ((h1.dropStaged.ite h1).foldl fun _ _ ht => ht.settleOwner).putSmalls.showCommitted.setSwap.rebound
  have h3 : Sound s3 := .ite (h2.wrAll.wrAll.ite h2.wrAll).showVerdict.showAdmission.showStagedLoads.updSes h2
  have h4 : Sound s4 := .ite h3.scanEffects h3
  exact (h4.ite h4.finish).resolveEnded

theorem refuse {w : Swap} {v : Refused} (hs : Sound s) : Sound (s.refuse w v) := by
  unfold State.refuse
  extract_lets _ s1
  have h1 : Sound s1 := hs.dropSwap.event
  exact .ite h1.showVerdict.showAdmission.showStagedLoads.wr.finish.enterDeferred.showBusy h1.withOwners.resolveEnded

theorem applyLoose {w : Swap} (hs : Sound s) : Sound (s.applyLoose w) := by
  unfold State.applyLoose; exact hs.foldl fun _ _ ht => ht.applyChange

theorem logJoint {w : Swap} {cause : Nat} (hs : Sound s) : Sound (s.logJoint w cause) := by
  unfold State.logJoint; exact hs.event

theorem engineDone {w : Swap} {cause : Nat} (hs : Sound s) : Sound (s.engineDone w cause) := by
  unfold State.engineDone
  extract_lets _ _ s1
  have h1 : Sound s1 := hs.withOwners.dropSwap.logJoint
  exact .ite hs.dropSwap <| .ite h1.freeNumber h1

theorem swapDone {w : Swap} (hs : Sound s) : Sound (s.swapDone w) := by
  unfold State.swapDone; exact .ite hs.dropSwap hs.dropSwap.wr.enterDeferred.showBusy.notify

/-! ### The operations of Machine/Sessions.lean -/

theorem openSes {i ver role port : Nat} (hs : Sound s) : Sound (s.openSes i ver role port) := by
  unfold State.openSes; exact (hs.withObj (Mem.wf_filter dflt _ s.obj hs.obj_wf)).updSes.wrAll

theorem endFlow {f : Nat} (hs : Sound s) : Sound (s.endFlow f) := by
  unfold State.endFlow; exact .ite hs.freeFlow <| (hs.stopFlow.wr.wrc.showFlow.ite hs).updFlow

theorem endClaims {i : Nat} (hs : Sound s) : Sound (s.endClaims i) := by
  unfold State.endClaims
  extract_lets _ _ _ s1
  have h1 : Sound s1 := ((hs.foldl fun _ _ ht => ht.endFlow).foldl fun _ _ ht => ht.freeMover).foldl fun _ _ ht => ht.freeLayer
  exact .ite h1 h1.freePlumb

theorem dropCerts {i : Nat} (hs : Sound s) : Sound (s.dropCerts i) := by
  unfold State.dropCerts; exact hs.withSec

theorem updDiscard (hs : Sound s) : Sound s.updDiscard := by
  unfold State.updDiscard; exact hs.withUpd.freeSmall.wrc.wrAll

theorem updUnlock (hs : Sound s) : Sound s.updUnlock := by
  unfold State.updUnlock; exact .ite hs.wr hs.wr.withUpd.updDiscard.wr

theorem updRelease {i : Nat} (hs : Sound s) : Sound (s.updRelease i) := by
  unfold State.updRelease; exact .ite hs.updUnlock hs

theorem endSession {i : Nat} (hs : Sound s) : Sound (s.endSession i) := by
  unfold State.endSession
  extract_lets _ _ _ _ _ _ _ s1 s2
  have h1 : Sound s1 := (hs.discard.foldl fun _ _ ht => ht.foldl fun _ _ hu =>
    hu.own).updSes.wr.dropCerts.updRelease.endClaims.wr.withOwners
  have h2 : Sound s2 := .ite h1 h1.updFlow
  exact .ite hs <| .ite h2 h2.sessionJoint.freeNumber

theorem finishClosing (hs : Sound s) : Sound s.finishClosing := by
  unfold State.finishClosing; exact hs.foldl fun _ _ ht => .ite ht.endSession ht

theorem sessEnd {i v : Nat} {r : Req} (hs : Sound s) : Sound (s.sessEnd i v r) := by
  unfold State.sessEnd; exact .ite hs.answer <| .ite hs.answer <| .ite hs.endSession hs.endSession.answer

theorem hello0 {tag vmin vmax : Nat} (hs : Sound s) : Sound (s.hello0 tag vmin vmax) := by
  unfold State.hello0; exact .ite hs.endSession.respond hs.endSession.openSes.respond

theorem updI3c {f : I3c → I3c} (hs : Sound s) : Sound (s.updI3c f) := by
  unfold State.updI3c; exact hs.withI3c

theorem nack (hs : Sound s) : Sound s.nack := by
  unfold State.nack; exact hs.updI3c.count

theorem store {v : Nat} {r : Req} (hs : Sound s) : Sound (s.store v r) := by
  unfold State.store; exact .ite hs.answer <| .ite hs.answer hs.accept.updSes

theorem dropOpen {ip udp : Nat} (hs : Sound s) : Sound (s.dropOpen ip udp) := by
  unfold State.dropOpen; exact hs.withOpens

theorem refuseOpen {o : OpenInfo} {octets : List Nat} (hs : Sound s) : Sound (s.refuseOpen o octets) := by
  unfold State.refuseOpen; exact hs.putWire

theorem sendSegments {o : OpenInfo} {sess : Nat} {payload : List Nat} (hs : Sound s) : Sound (s.sendSegments o sess payload) := by
  unfold State.sendSegments; exact hs.foldl fun _ _ ht => ht.putWire

theorem openRemote {o : OpenInfo} {i : Nat} {payload : List Nat} (hs : Sound s) : Sound (s.openRemote o i payload) := by
  unfold State.openRemote
  extract_lets _ _ _ _ _ _ _ s1
  have h1 : Sound s1 := hs.used.openSes.updSes.updFlow.wrAll.wr.count
  exact (h1.count.ite h1).sendSegments

theorem serveOpen {o : OpenInfo} {payload : List Nat} (hs : Sound s) : Sound (s.serveOpen o payload) := by
  unfold State.serveOpen
  extract_lets
  refine .ite hs.refuseOpen <| .ite hs.refuseOpen ?_
  split
  · exact hs.refuseOpen
  · exact .ite (hs.ite hs.count).refuseOpen hs.openRemote

/-! ### The operations of Machine/Security.lean -/

theorem updSec {f : Sec → Sec} (hs : Sound s) : Sound (s.updSec f) := by
  unfold State.updSec; exact hs.withSec

theorem anchorWrite {v : Nat} {r : Req} (hs : Sound s) : Sound (s.anchorWrite v r) := by
  unfold State.anchorWrite; exact .ite hs.answer hs.updSec.answer

theorem setAnchor {slot role : Nat} {cert : List Nat} (hs : Sound s) : Sound (s.setAnchor slot role cert) := by
  unfold State.setAnchor; exact hs.updSec.wr

theorem recheckTwin (hs : Sound s) : Sound s.recheckTwin := by
  unfold State.recheckTwin; exact .ite hs.wrAll hs

theorem anchorInstall {role slot : Nat} {sound : Bool} {r : Req} (hs : Sound s) : Sound (s.anchorInstall role slot sound r) := by
  unfold State.anchorInstall; exact .ite hs.answer <| .ite hs.answer <| .ite hs.answer hs.setAnchor.updSec.recheckTwin.answer

theorem anchorRemove {slot : Nat} {r : Req} (hs : Sound s) : Sound (s.anchorRemove slot r) := by
  unfold State.anchorRemove; exact .ite hs.answer <| .ite hs.answer <| .ite hs.answer hs.setAnchor.updSec.recheckTwin.answer

theorem provision {v : Nat} {r : Req} (hs : Sound s) : Sound (s.provision v r) := by
  unfold State.provision; exact .ite hs.answer hs.wrAll.recheckTwin.answer

theorem attest {v : Nat} {r : Req} (hs : Sound s) : Sound (s.attest v r) := by
  unfold State.attest; exact .ite hs.answer <| .ite hs.answer hs.accept.updSec.wr

/-! ### The operations of Machine/Resets.lean -/

theorem updStart {f : Start → Start} (hs : Sound s) : Sound (s.updStart f) := by
  unfold State.updStart; exact hs.withStart

theorem updUpd {f : Upd → Upd} (hs : Sound s) : Sound (s.updUpd f) := by
  unfold State.updUpd; exact hs.withUpd

theorem updTwin {f : Twin → Twin} (hs : Sound s) : Sound (s.updTwin f) := by
  unfold State.updTwin; exact hs.withTwin

theorem snapLog (hs : Sound s) : Sound s.snapLog := by
  unfold State.snapLog
  extract_lets new
  clear_value new
  split
  · exact hs.withLog
  · exact hs.withLog.count.wr

/-- The objects that a reset keeps are written into an empty store. -/
theorem objAfter_wf {kind cause : Nat} : Mem.wf dflt (s.objAfter kind cause) = true := by
  unfold State.objAfter
  extract_lets _ m _ m1 m2 m3
  have h : Mem.wf dflt m = true := List.foldlRecOn (motive := fun m => Mem.wf dflt m = true) _ _ rfl fun m hm k _ =>
    Mem.wf_set dflt m k _ hm
  have h1 : Mem.wf dflt m1 = true := by
    unfold m1
    split
    · exact Mem.wf_set _ _ _ _ (Mem.wf_set _ _ _ _ h)
    · exact h
  have h2 : Mem.wf dflt m2 = true := by
    unfold m2
    split
    · exact h1
    · exact Mem.wf_set _ _ _ _ h1
  have h3 : Mem.wf dflt m3 = true := by
    unfold m3
    split
    · split
      · exact Mem.wf_set _ _ _ _ h2
      · exact h2
    · exact h2
  exact Mem.wf_set _ _ _ _ (Mem.wf_set _ _ _ _ h3)

/-- A reset keeps the numbers of sessions and channels; every other list of units is as at a start. -/
theorem restart {kind cause : Nat} (hs : Sound s) : Sound (s.restart kind cause) := by
  unfold State.restart
  refine Sound.wrAll ⟨?_, objAfter_wf, rfl, rfl⟩
  simp only [State.Sized, State.dims, List.length_map, List.length_range, List.length_replicate, hs.sess_length, hs.chans_length]

theorem startRecord (hs : Sound s) : Sound s.startRecord := by
  unfold State.startRecord
  extract_lets _ _ _ s1 _ s2
  have h1 : Sound s1 := hs.updStart.count
  have h2 : Sound s2 := (h1.wr.ite h1).event
  exact .ite h2.event.updStart h2

theorem loadStored (hs : Sound s) : Sound s.loadStored := by
  unfold State.loadStored; exact hs.foldl fun _ _ ht => ht.wr

theorem enterLoader {reason : Nat} (hs : Sound s) : Sound (s.enterLoader reason) := by
  unfold State.enterLoader; exact (hs.ite hs.wr).loadStored.wrAll.startRecord

theorem enterP2 (hs : Sound s) : Sound s.enterP2 := by
  unfold State.enterP2; exact .ite hs.updStart.wr.enterLoader <| .ite hs.updStart.wr.enterLoader hs.updStart.wr

theorem faultMessage {reason : Nat} (hs : Sound s) : Sound (s.faultMessage reason) := by
  unfold State.faultMessage; exact .ite hs.updTwin hs

theorem engineReset {cause : Nat} (hs : Sound s) : Sound (s.engineReset cause) := by
  unfold State.engineReset; exact (hs.snapLog.ite hs).faultMessage.restart.enterP2

theorem diagReset {v : Nat} {r : Req} (hs : Sound s) : Sound (s.diagReset v r) := by
  unfold State.diagReset; exact .ite hs.answer hs.answer.engineReset

theorem watchdog (hs : Sound s) : Sound s.watchdog := by
  unfold State.watchdog; exact .ite hs.event.wr.event.updUpd.engineReset hs.event.engineReset

theorem disableAll {cause : Nat} {units : List UnitId} (hs : Sound s) : Sound (s.disableAll cause units) := by
  unfold State.disableAll; exact hs.foldl fun _ _ ht => ht.engineJoint

theorem becomeStandby (hs : Sound s) : Sound s.becomeStandby := by
  unfold State.becomeStandby; exact hs.disableAll.withOwners.wrAll.updTwin

/-! ### The operations of Machine/Update.lean -/

theorem updWrite {sess tag key : Nat} {v : Option Nat} {take : Bool} {body : Req → State → State} (hs : Sound s)
    (hbody : ∀ x t, Sound t → Sound (body x t)) : Sound (s.updWrite sess tag key v take body) := by
  unfold State.updWrite
  refine hs.arrive fun _ ht => ?_
  extract_lets lock
  clear_value lock
  split
  · exact ht.respond
  · exact ht.respond
  · exact ht.respond
  · exact .ite ht.respond <| hbody _ _ ht.updUpd

theorem updLock {v : Nat} {r : Req} (hs : Sound s) : Sound (s.updLock v r) := by
  unfold State.updLock
  split
  · exact (hs.wr.ite hs).answer
  · exact hs.updUnlock.answer
  · exact hs.answer

theorem updStage (hs : Sound s) (e : s.updStage = some t) : Sound t := by
  revert e
  unfold State.updStage
  split
  · rintro ⟨⟩; exact hs
  · extract_lets
    split
    · rintro ⟨⟩
    · split
      · rintro ⟨⟩
      · rintro ⟨⟩; exact hs.withRsv.showPans

theorem updLength {v : Nat} {r : Req} (hs : Sound s) : Sound (s.updLength v r) := by
  unfold State.updLength
  refine hs.answer.ite (hs.answer.ite ?_)
  split
  · exact hs.answer
  next t eq =>
    have ht : Sound t := hs.updDiscard.updStage eq
    exact (ht.ite ht.wrc).wrAll.answer

theorem updOffset {v : Nat} {r : Req} (hs : Sound s) : Sound (s.updOffset v r) := by
  unfold State.updOffset; exact .ite hs.answer hs.wr.answer

theorem stageBlock {o : Nat} (hs : Sound s) : Sound (s.stageBlock o) := by
  unfold State.stageBlock
  split
  · exact hs.access
  · exact hs

theorem updData {v : Nat} {r : Req} (hs : Sound s) : Sound (s.updData v r) := by
  unfold State.updData; exact .ite hs.answer <| .ite hs.answer hs.stageBlock.updUpd.wrAll.answer

theorem updVerify {v : Nat} {r : Req} (hs : Sound s) : Sound (s.updVerify v r) := by
  unfold State.updVerify; exact .ite hs.answer <| .ite hs.answer hs.accept.updUpd.wr

theorem updFinish {st : Status} (hs : Sound s) : Sound (s.updFinish st) := by
  unfold State.updFinish
  split
  · exact hs.finish.updUpd
  · exact hs

theorem openJournal {i : ImageInfo} {mode source : Nat} (hs : Sound s) : Sound (s.openJournal i mode source) := by
  unfold State.openJournal
  extract_lets _ _ _ s1
  have h1 : Sound s1 := hs.updUpd.wrAll.foldl fun _ _ ht => ht.wr
  exact .ite h1 h1.wr

theorem releaseUpdate (hs : Sound s) : Sound s.releaseUpdate := by
  unfold State.releaseUpdate
  split
  · exact hs.openJournal
  · exact hs

theorem updActivate {v : Nat} {r : Req} (hs : Sound s) : Sound (s.updActivate v r) := by
  unfold State.updActivate
  extract_lets _ s1
  have h1 : Sound s1 := hs.accept.updUpd
  refine .ite hs.answer ?_
  split
  · exact hs.answer
  · exact .ite hs.answer <| .ite hs.answer <| .ite hs.answer <| .ite h1.openJournal <| .ite h1.updUpd.planHandover.wr h1.openJournal

theorem resetGroup {g : Nat} (hs : Sound s) : Sound (s.resetGroup g) := by
  unfold State.resetGroup; exact hs.withMram.foldl fun _ _ ht => .ite ht ht.wr.wr

theorem adoptFormats (hs : Sound s) : Sound s.adoptFormats := by
  unfold State.adoptFormats
  split
  · exact hs
  · exact .ite hs <| (hs.foldl fun _ _ ht => .ite ht ht.resetGroup.updUpd).updUpd

theorem runImage (hs : Sound s) : Sound s.runImage := by
  unfold State.runImage
  split
  · exact hs
  · exact hs.wrAll

theorem failProbation {code : Nat} (hs : Sound s) : Sound (s.failProbation code) := by
  unfold State.failProbation; exact hs.wr.event.updUpd.engineReset

theorem updConfirm {v : Nat} {r : Req} (hs : Sound s) : Sound (s.updConfirm v r) := by
  unfold State.updConfirm
  extract_lets _ s1
  have h1 : Sound s1 := hs.updUpd.wrAll
  exact .ite hs.answer <| .ite hs.answer <| (h1.wr.ite h1).answer

theorem imageNeeded (hs : Sound s) : Sound s.imageNeeded := by
  unfold State.imageNeeded; exact hs.wr.event

/-! ### The operations of Machine/TwinStreams.lean -/

theorem logStub {e : TxLog} (hs : Sound s) : Sound (s.logStub e) := by
  unfold State.logStub; exact hs.updFlow.setSeq

theorem diverge {e : TxLog} (hs : Sound s) : Sound (s.diverge e) := by
  unfold State.diverge; exact (hs.ite hs.updTwin).logStub.updFlow

theorem cutAsLogged {e : TxLog} (hs : Sound s) : Sound (s.cutAsLogged e) := by
  unfold State.cutAsLogged
  extract_lets _ _ _ s1
  have h1 : Sound s1 := hs.cutFrame.updFlow
  exact .ite (h1.ite h1.updTwin) h1.updTwin

theorem takeEntry {e : TxLog} (hs : Sound s) (eq : s.takeEntry e = some t) : Sound t := by
  revert eq
  unfold State.takeEntry
  extract_lets _ _ s1
  split
  · rintro ⟨⟩; exact hs.diverge
  split
  · rintro ⟨⟩; exact hs.logStub
  have h1 : Sound s1 := hs.updFlow
  split
  · split
    · rintro ⟨⟩; exact h1.logStub
    · split
      · rintro ⟨⟩
      · rintro ⟨⟩; exact h1.logStub.updFlow
  · split
    · rintro ⟨⟩; exact h1.diverge
    · split
      · rintro ⟨⟩
      · rintro ⟨⟩; exact h1.setSeq.cutAsLogged

theorem takeEntries {n f : Nat} (hs : Sound s) : Sound (s.takeEntries n f) := by
  induction n generalizing s with
  | zero => exact hs
  | succ n ih =>
    unfold State.takeEntries
    extract_lets
    split
    · exact hs
    · split
      · exact hs
      next eq => exact ih (hs.takeEntry eq).updTwin

theorem beginStream {f seq : Nat} (hs : Sound s) : Sound (s.beginStream f seq) := by
  unfold State.beginStream; exact hs.updTwin.setSeq

theorem settleLog {f : Nat} (hs : Sound s) : Sound (s.settleLog f) := by
  unfold State.settleLog; exact (hs.takeEntries.foldl fun _ _ ht => ht.diverge).updTwin

theorem logItem {e : TxLog} (hs : Sound s) : Sound (s.logItem e) := by
  unfold State.logItem; exact .ite hs <| .ite hs.updFlow <| .ite hs <| (hs.beginStream.ite hs).updTwin.takeEntries

/-! ### The operations of Machine/Twin.lean -/

theorem twinBringUp (hs : Sound s) : Sound s.twinBringUp := by
  unfold State.twinBringUp; exact .ite hs.wr hs

theorem showMatch (hs : Sound s) : Sound s.showMatch := by
  unfold State.showMatch; exact hs.foldl fun _ _ ht => ht.wr

theorem unpair (hs : Sound s) : Sound s.unpair := by
  unfold State.unpair; exact (hs.foldl fun _ _ ht => ht.loseFrame).updTwin.setFloors.wrAll.showMatch

theorem startSync {p : PeerHello} (hs : Sound s) : Sound (s.startSync p) := by
  unfold State.startSync
  extract_lets s1
  have h1 : Sound s1 := by
    unfold s1
    split
    · exact hs.finish
    · exact hs
  split
  · exact hs.wr
  · exact h1.updConv.wrAll

theorem lendSessions (hs : Sound s) : Sound s.lendSessions := by
  unfold State.lendSessions; exact hs.withSess List.length_mapIdx

theorem settleRoles {p : PeerHello} (hs : Sound s) : Sound (s.settleRoles p) := by
  unfold State.settleRoles
  extract_lets _ _ _ s1
  have h1 : Sound s1 := hs.updTwin.wrAll
  exact .ite h1.wr <| (h1.lendSessions.ite h1).becomeStandby.startSync

theorem dropFlow {f : Nat} (hs : Sound s) : Sound (s.dropFlow f) := by
  unfold State.dropFlow; exact hs.moversLoseFlow.freeSmall.updFlow.wr.wrc.showFlow.freeFlow

theorem eraseSession {i : Nat} (hs : Sound s) : Sound (s.eraseSession i) := by
  unfold State.eraseSession; exact .ite hs hs.discard.updSes.dropCerts.updRelease.endClaims.withOwners.updFlow.wr.freeNumber

theorem leavePair (hs : Sound s) : Sound s.leavePair := by
  unfold State.leavePair; exact ((hs.foldl fun _ _ ht => ht.dropFlow).disableAll.foldl fun _ _ ht => ht.eraseSession).updTwin

theorem abandonHandover (hs : Sound s) : Sound s.abandonHandover := by
  unfold State.abandonHandover; exact .ite hs hs.updTwin.wr.event.used.releaseCals.releaseUpdate

theorem detach (hs : Sound s) : Sound s.detach := by
  unfold State.detach
  extract_lets _ s1
  have h1 : Sound s1 := hs.unpair.wrAll.updTwin
  exact .ite h1.leavePair h1.abandonHandover

theorem linkLost (hs : Sound s) : Sound s.linkLost := by
  unfold State.linkLost; exact hs.event

theorem declare {cause reason : Nat} (hs : Sound s) : Sound (s.declare cause reason) := by
  unfold State.declare
  extract_lets _ s1
  have h1 : Sound s1 := hs.unpair.wrAll
  exact .ite h1.wr <| .ite (h1.updTwin.ite h1.updTwin) h1.linkLost.wrAll.leavePair.twinBringUp

theorem yield (hs : Sound s) : Sound s.yield := by
  unfold State.yield; exact hs.unpair.wr.count.event.linkLost

theorem peerIs {ready : Bool} (hs : Sound s) : Sound (s.peerIs ready) := by
  unfold State.peerIs; exact .ite (hs.wrAll.planHandover.ite hs.wrAll).showMatch <| .ite hs.wrAll.showMatch hs

theorem uncut {f : Nat} (hs : Sound s) : Sound (s.uncut f) := by
  unfold State.uncut
  extract_lets _ fresh
  clear_value fresh
  split
  · exact hs
  · exact hs.updFlow.setSeq

theorem takeFlow {reason prev f : Nat} (hs : Sound s) : Sound (s.takeFlow reason prev f) := by
  unfold State.takeFlow
  extract_lets _ _ _ _ _ _ _ s1 _ _ _ _ _ _ s2
  have h1 : Sound s1 := ((hs.settleLog.ite hs.settleLog.uncut).foldl fun _ _ ht => ht.loseFrame).updFlow.reRead
  have h2 : Sound s2 := h1.updFlow.closeSegment.updFlow
  exact .ite h1 <| .ite h1.updFlow <| .ite h2.flushAll h2

theorem takeSessions (hs : Sound s) : Sound s.takeSessions := by
  unfold State.takeSessions; exact hs.foldl fun _ _ ht => .ite ht <| ht.updSes.updFlow.wr.used.foldl fun _ _ hu => hu.respond

theorem takeOver {reason : Nat} (hs : Sound s) : Sound (s.takeOver reason) := by
  unfold State.takeOver
  exact ((hs.wrAll.foldl fun _ _ ht => ht.takeFlow).foldl fun _ _ ht => ht.updRing.side).takeSessions.updTwin.count.event.showMatch

theorem twinCmd {v : Nat} {r : Req} (hs : Sound s) : Sound (s.twinCmd v r) := by
  unfold State.twinCmd
  extract_lets
  split
  · exact .ite hs.answer <| .ite hs.answer hs.updTwin.answer
  · exact .ite hs.answer <| .ite hs.answer hs.planHandover.answer
  · exact hs.answer

theorem handOver {h : Handover} (hs : Sound s) : Sound (s.handOver h) := by
  unfold State.handOver
  extract_lets s1 s2
  have h1 : Sound s1 := hs.faultMessage.lendSessions.becomeStandby.wr
  have h2 : Sound s2 := by
    unfold s2
    split
    · exact h1.startSync
    · exact h1
  exact h2.releaseCals.releaseUpdate

theorem twinOff {r : Req} (hs : Sound s) : Sound (s.twinOff r) := by
  unfold State.twinOff
  extract_lets s1
  have h1 : Sound s1 := by
    unfold s1
    split
    · exact hs.liveWrite
    · exact hs
  exact (h1.ite h1.detach).answer

theorem takeSnapshot {js : Nat} {vals owners : List (Nat × Nat)} (hs : Sound s) : Sound (s.takeSnapshot js vals owners) := by
  unfold State.takeSnapshot
  extract_lets _ _ _ _ _ s1
  have h1 : Sound s1 := by
    refine (hs.foldl fun _ _ ht => ht.wr).putCommitted.putSmalls.showCommitted.withSwapsSwapId.foldl fun _ _ ht => ?_
    extract_lets
    split
    · exact .ite ht.own.wrAll ht.own
    · exact ht.own
  exact h1.updTwin.showFlowFree.wr

/-! ### The operations of Machine/Power.lean -/

theorem updPwr {f : Pwr → Pwr} (hs : Sound s)
    (hf : ∀ x, (f x).programs.length = x.programs.length := by intro; rfl) : Sound (s.updPwr f) :=
  hs.same (by simp only [State.updPwr, State.dims, hf]) rfl rfl rfl

theorem noteSlack {slice slack mv iinMa : Nat} (hs : Sound s) : Sound (s.noteSlack slice slack mv iinMa) := by
  unfold State.noteSlack; exact hs.withShed

theorem sliceVoltages (hs : Sound s) : Sound s.sliceVoltages := by
  unfold State.sliceVoltages; exact (hs.foldl fun _ _ ht => ht.wr).used

theorem pwrEnd {p : Option PwrReq} {st : Status} {result : Nat} (hs : Sound s) : Sound (s.pwrEnd p st result) := by
  unfold State.pwrEnd
  split
  · exact (hs.wr.ite hs).finish
  · exact hs

theorem showPower {v : Nat} (hs : Sound s) : Sound (s.showPower v) := by
  unfold State.showPower; exact .ite hs.wr.wr hs.wr

theorem startPrograms (hs : Sound s) : Sound s.startPrograms := by
  unfold State.startPrograms; exact hs.same (by simp [State.updPwr, State.dims, hs.programs_length]) rfl rfl rfl

theorem abandonForPower (hs : Sound s) : Sound s.abandonForPower := by
  unfold State.abandonForPower
  extract_lets s1
  have h1 : Sound s1 := hs.foldl fun _ _ ht => ht.abandonAnyCal
  split
  · exact h1.withConv.finish
  · exact h1

theorem ask {target row d : Nat} (hs : Sound s) : Sound (s.ask target row d).1 := by
  unfold State.ask
  extract_lets
  split
  · exact (hs.abandonForPower.ite hs).updPwr
  · exact (hs.planHandover.ite hs).updPwr.count
  · exact hs

theorem powerSwap {cause req : Nat} {vals : List (Nat × Nat)} (hs : Sound s) : Sound (s.powerSwap cause req vals) := by
  unfold State.powerSwap; exact hs.withSwapsSwapId

theorem flushAtX {f : Nat} (hs : Sound s) : Sound (s.flushAtX f) := by
  unfold State.flushAtX; exact .ite hs hs.flushAll

theorem dropPlumb (hs : Sound s) : Sound s.dropPlumb := by
  unfold State.dropPlumb; exact .ite hs.updPlumb.countN hs

theorem suspend (hs : Sound s) : Sound s.suspend := by
  unfold State.suspend
  extract_lets _ _ _ _ _ _ _ _ _ s1
  have h1 : Sound s1 := ((((hs.withSwaps.foldl fun _ _ ht => ht.updFlow).powerSwap.foldl fun _ _ ht => ht.shedTells).foldl fun _ _ ht =>
    ht.flushAtX).foldl fun _ _ ht => .ite ht.wr ht).foldl fun _ _ ht => .ite ht.updReplay.replayEnd ht
  exact (h1.updFinish.updDiscard.wr.ite h1).dropPlumb.unsync.updPwr.wr

theorem loseReservoir (hs : Sound s) : Sound s.loseReservoir := by
  unfold State.loseReservoir
  exact (((hs.foldl fun _ _ ht => .ite ht.discardRing.updRing.wr ht).foldl fun _ _ ht => ht.loseFrames.updFlow).foldl fun _ _ ht =>
    ht.updPlane).withRsv

theorem lowPorts (hs : Sound s) : Sound s.lowPorts := by
  unfold State.lowPorts; exact hs.foldl fun _ _ ht => .ite ht ht.wrAll

theorem reachLow {target : Nat} (hs : Sound s) : Sound (s.reachLow target) := by
  unfold State.reachLow
  extract_lets _ _ _ s1
  have h1 : Sound s1 := hs.updPwr.showPower.wrAll
  split
  · exact h1.wr
  · exact h1.wr.wrAll.lowPorts.startPrograms
  · exact h1.wr.wrAll.lowPorts.loseReservoir.lockBit.updClk.wr.showClkOut

theorem refillCaptures {y : Nat} (hs : Sound s) : Sound (s.refillCaptures y) := by
  unfold State.refillCaptures; exact hs.foldl fun _ _ ht => .ite ht.updCap.wr ht

theorem resume (hs : Sound s) : Sound s.resume := by
  unfold State.resume
  extract_lets _ _ _ _ _ _ _ _ s1
  have h1 : Sound s1 := (((hs.powerSwap.foldl fun _ _ ht => ht.shedTells).foldl fun _ _ ht => ht.updFlow).foldl fun _ _ ht => .ite ht <|
    (ht.updRing.ite ht.stopRing).wr).refillCaptures.updPwr.wr.wr
  exact .ite h1.anchorAll h1

theorem beginReturn (hs : Sound s) : Sound s.beginReturn := by
  unfold State.beginReturn
  extract_lets s1
  have h1 : Sound s1 := hs.updPwr.showPower
  exact .ite h1.wr.wr.acquire h1

theorem setX (hs : Sound s) : Sound s.setX := by
  unfold State.setX; exact hs.updPwr.wr

theorem setY (hs : Sound s) : Sound s.setY := by
  unfold State.setY; exact hs.updPwr.wr.wr

theorem popRequestP (hs : Sound s) : Sound s.popRequestP.1 := by
  unfold State.popRequestP
  extract_lets s1
  have h1 : Sound s1 := hs.updPwr
  split
  · exact h1.updPwr
  · exact h1.updPwr.wr

theorem refuseEntry {row reason : Nat} (hs : Sound s) : Sound (s.refuseEntry row reason) := by
  unfold State.refuseEntry; exact hs.wrAll.count.event.used.pwrEnd.updPwr

theorem askAll {target : Nat} (hs : Sound s) : Sound (s.askAll target).1 := by
  unfold State.askAll
  refine foldl_fst hs fun _ _ ht => ?_
  split
  · exact ht
  · split
    next eq => exact ht.ask.of_eq eq

/-- The next waiting request is begun: it is answered at once, turns a suspension round, or asks for the entry. -/
theorem startNext_succ {n : Nat} : s.startNext (n + 1) =
    match s.popRequestP with
    | (s, none) => s
    | (s, some p) =>
      if p.target = (if s.pwr.suspended then s.pwr.low else 0) then s.pwrEnd (some p) .ok 2
      else
        let s := s.updPwr fun x => { x with cur := some p }
        if s.pwr.suspended then s.beginReturn
        else
          let s := (s.updPwr fun x => { x with step := 1 }).wr Obj.PWR_STATE 1
          match s.askAll p.target with
          | (s, some (row, reason)) => (s.refuseEntry row reason).startNext n
          | (s, none) => if s.pwr.asks.isEmpty then s.setX else s := by
  rfl

theorem startNext {n : Nat} (hs : Sound s) : Sound (s.startNext n) := by
  induction n generalizing s with
  | zero => exact hs
  | succ n ih =>
    rw [startNext_succ]
    split
    next eq => exact hs.popRequestP.of_eq eq
    next t p eq =>
      have ht : Sound t := hs.popRequestP.of_eq eq
      refine ht.pwrEnd.ite ?_
      extract_lets s1 s2
      have h1 : Sound s1 := ht.updPwr
      have h2 : Sound s2 := h1.updPwr.wr
      refine h1.beginReturn.ite ?_
      split
      next eq => exact ih (h2.askAll.of_eq eq).refuseEntry
      next eq => exact (h2.askAll.of_eq eq).setX.ite (h2.askAll.of_eq eq)

theorem abortPoint {turn : State → State} {go : Nat → State → State} (hs : Sound s) (hturn : ∀ t, Sound t → Sound (turn t))
    (hgo : ∀ n t, Sound t → Sound (go n t)) : Sound (s.abortPoint turn go) := by
  unfold State.abortPoint
  extract_lets _ newer s1
  have h1 : Sound s1 := hs.pwrEnd
  clear_value newer
  refine .ite ?_ ?_
  · split
    next t _ eq =>
      have ht : Sound t := by
        refine of_eq ?_ eq
        split
        · split
          · exact h1
          · exact h1.pwrEnd
        · exact h1
      exact hturn _ ht.updPwr
  · split
    · exact hgo _ _ hs
    · exact (hturn _ hs.pwrEnd.updPwr).ite (hgo _ _ hs.pwrEnd.updPwr)

theorem endEntry (hs : Sound s) : Sound s.endEntry := by
  unfold State.endEntry; exact hs.updPwr.wr.pwrEnd.startNext

theorem handshakeEnd (hs : Sound s) : Sound s.handshakeEnd := by
  unfold State.handshakeEnd; exact .ite (hs.abortPoint (fun _ ht => ht.endEntry) fun _ _ ht => ht.setX) hs

theorem beginS4 (hs : Sound s) : Sound s.beginS4 := by
  unfold State.beginS4; exact hs.updPwr

theorem drained (hs : Sound s) : Sound s.drained := by
  unfold State.drained; exact hs.abortPoint (fun _ ht => ht.setY) fun _ _ ht => ht.beginS4

theorem unitsStopped (hs : Sound s) : Sound s.unitsStopped := by
  unfold State.unitsStopped; exact .ite hs.beginS4 <| hs.abortPoint (fun _ ht => ht.setY) fun _ _ ht => .ite ht.updPwr.drained ht.updPwr

theorem pwrRequest {v : Nat} {r : Req} (hs : Sound s) : Sound (s.pwrRequest v r) := by
  unfold State.pwrRequest
  exact .ite hs.answer <| .ite hs.answer <| .ite hs.wr.answer <| .ite hs.accept.wr.updPwr.startNext <|
    .ite (hs.accept.wr.wrAll.count.pwrEnd.ite hs.accept.wr.pwrEnd.updPwr) hs.accept.wr.pwrEnd.updPwr.wr

theorem domainsBack (hs : Sound s) (e : s.domainsBack = some t) : Sound t := by
  revert e
  unfold State.domainsBack
  split
  · split
    · rintro ⟨⟩; exact hs.sliceVoltages
    · rintro ⟨⟩
  · extract_lets
    rintro ⟨⟩
    exact ((hs.foldl fun _ _ ht => ht.updPch).ite hs).wr.sliceVoltages

theorem failOver (hs : Sound s) : Sound s.failOver := by
  unfold State.failOver
  extract_lets _ s1 s2
  have h1 : Sound s1 := hs.faultMessage
  have h2 : Sound s2 := h1.lendSessions.becomeStandby
  refine .ite ?_ h1
  split
  · exact h2.startSync
  · exact h2

theorem logRefusals (hs : Sound s) : Sound s.logRefusals := by
  unfold State.logRefusals
  refine hs.foldl fun _ _ ht => ?_
  split
  · exact ht.event.used
  · exact ht

theorem force (hs : Sound s) : Sound s.force := by
  unfold State.force
  extract_lets s1 _ _ s2
  have h1 : Sound s1 := hs.pwrEnd.pwrEnd.pwrEnd
  have h2 : Sound s2 := (h1.ite h1.logRefusals).abandonForPower.count.wr.updPwr
  exact .ite h2.updPwr <| .ite (h2.wr.ite h2.wr.setX) <| .ite h2.wr h2.wr.beginS4

theorem wakeEvent {bit : Nat} (hs : Sound s) : Sound (s.wakeEvent bit) := by
  unfold State.wakeEvent
  exact .ite hs.count <| .ite hs.wr <| .ite hs.wr.updPwr.startNext <| .ite hs.wr.updPwr <| .ite hs.wr hs.wr.updPwr.wr

theorem wakeTakes {bit : Nat} (hs : Sound s) : Sound (s.wakeTakes bit) := by
  unfold State.wakeTakes; exact .ite hs.wakeEvent hs

theorem updProgram {w : Nat} {f : Program → Program} (hs : Sound s) : Sound (s.updProgram w f) := by
  unfold State.updProgram; exact hs.updPwr fun _ => List.length_modify ..

theorem watchHit {w tick fine : Nat} (hs : Sound s) : Sound (s.watchHit w tick fine) := by
  unfold State.watchHit; exact hs.count.wr.event.used

/-! ### The operations of Machine/Startup.lean -/

theorem enterP1 {addrSel : Nat} (hs : Sound s) : Sound (s.enterP1 addrSel) := by
  unfold State.enterP1; exact hs.withI3c.updStart.wr

theorem supplyReset {cause : Nat} (hs : Sound s) : Sound (s.supplyReset cause) := by
  unfold State.supplyReset; exact hs.restart.updStart

theorem controlReady (hs : Sound s) : Sound s.controlReady := by
  unfold State.controlReady; exact (hs.updStart.wrAll.wr.startRecord.foldl fun _ _ ht => ht.wr).acquire

theorem unitFenced {row i : Nat} (hs : Sound s) : Sound (s.unitFenced row i) := by
  unfold State.unitFenced; exact hs.event

theorem fenceOther {b : Nat} (hs : Sound s) : Sound (s.fenceOther b) := by
  unfold State.fenceOther; exact hs.wr

theorem fenceSlices {l : List Nat} (hs : Sound s) : Sound (s.fenceSlices l) := by
  unfold State.fenceSlices; exact (hs.foldl fun _ _ ht => ht.wr.unitFenced).wrAll

theorem fenceChannel {ch : Nat} (hs : Sound s) : Sound (s.fenceChannel ch) := by
  unfold State.fenceChannel; exact hs.unpowerChannel.wr.wr.wrAll.unitFenced

theorem fencePort {p : Nat} (hs : Sound s) : Sound (s.fencePort p) := by
  unfold State.fencePort; exact hs.wr.wr.unitFenced

theorem loseSram {planes : List Nat} {kib : Nat} (hs : Sound s) : Sound (s.loseSram planes kib) := by
  unfold State.loseSram
  extract_lets _ s1 s2
  have h1 : Sound s1 := hs.fenceOther.unitFenced.used
  have h2 : Sound s2 := .ite (h1.foldl fun _ _ ht => ht.fenceOther.unitFenced.used) h1
  exact .ite hs <| (h2.updStart.ite h2).event

theorem enterP6 (hs : Sound s) : Sound s.enterP6 := by
  unfold State.enterP6
  extract_lets _ s1
  have h1 : Sound s1 := hs.wrAll.updStart.foldl fun _ _ ht => ht.loadSet
  exact ((h1.foldl fun _ _ ht => ht.startCal).ite h1).foldl fun _ _ ht => .ite ht.wr ht

theorem loseGroup {g : Nat} (hs : Sound s) : Sound (s.loseGroup g) := by
  unfold State.loseGroup; exact hs.withMram.event

theorem becomeReady {failedGroups : List Nat} (hs : Sound s) : Sound (s.becomeReady failedGroups) := by
  unfold State.becomeReady
  extract_lets _ _ _ _ _ s1
  have h1 : Sound s1 := (((hs.foldl fun _ _ ht => ht.wr).foldl fun _ _ ht => ht.loseGroup).adoptFormats.loadStored.foldl fun _ _ ht =>
    ht.applyPath).wrAll
  exact (h1.event.ite h1).event.updStart.updUpd.showClkOut.twinBringUp

theorem loseStore (hs : Sound s) : Sound s.loseStore := by
  unfold State.loseStore; exact hs.foldl fun _ _ ht => ht.foldl fun _ _ hu => .ite hu.used hu.used.updDet

theorem failSlice {j : Nat} (hs : Sound s) : Sound (s.failSlice j) := by
  unfold State.failSlice
  extract_lets _ _ s1 s2
  have h1 : Sound s1 := hs.wr.fenceSlices.setFloors.event.loseStore
  have h2 : Sound s2 := .ite h1.shedNow h1
  exact .ite h2.failOver h2

theorem alertAck {v : Nat} {r : Req} (hs : Sound s) : Sound (s.alertAck v r) := by
  unfold State.alertAck; exact .ite hs.answer <| (hs.wr.ite hs).answer

/-! ### The operations of Machine/Dictionary.lean -/

theorem journaled (hs : Sound s) : Sound s.journaled := by
  unfold State.journaled
  extract_lets
  split
  · exact .ite hs.wr.used hs
  · exact hs

theorem takeReading {k : Nat} {t : Ty} (hs : Sound s) : Sound (s.takeReading k t) := by
  unfold State.takeReading; exact .ite hs.wr.used <| .ite hs.countN.used <| .ite hs.journaled <| .ite hs.sampleTj hs

theorem serveRead {sess tag k view : Nat} {row : Row} (hs : Sound s) : Sound (s.serveRead sess tag k view row) := by
  unfold State.serveRead; exact (hs.takeReading.wr.ite hs.takeReading).respond

theorem noCommand {r : Req} (hs : Sound s) : Sound (s.noCommand r) := by
  unfold State.noCommand; exact hs.answer

theorem plainWrite {v : Nat} {r : Req} (hs : Sound s) : Sound (s.plainWrite v r) := by
  unfold State.plainWrite
  split
  · exact hs
  · exact .ite hs.noCommand hs.liveWrite.answer

theorem convWrite {v : Nat} {r : Req} (hs : Sound s) : Sound (s.convWrite v r) := by
  unfold State.convWrite
  exact .ite hs.calAllCmd <| .ite hs.syncModeCmd <| .ite hs.calCmd <| .ite hs.pathDelay <| .ite hs.syncPeriod hs.plainWrite

theorem trigWrite {v : Nat} {r : Req} (hs : Sound s) : Sound (s.trigWrite v r) := by
  unfold State.trigWrite
  exact .ite hs.holdClear <| .ite hs.rearm <| .ite hs.forceSource <| .ite hs.groupCommand <| .ite hs.groupCommand <| .ite hs.writeOutMode <|
    .ite hs.armCapture hs.plainWrite

theorem storeWrite {v : Nat} {r : Req} (hs : Sound s) : Sound (s.storeWrite v r) := by
  unfold State.storeWrite
  exact .ite hs.clearCmd <| .ite hs.harvestCmd <| .ite hs.replayCmd <| .ite hs.used.moveCmd <|
    .ite (hs.moverClaim.ite (hs.moverRelease.ite hs.noCommand)) <| .ite hs.moverDesc hs.plainWrite

theorem edgeWrite {v : Nat} {r : Req} (hs : Sound s) : Sound (s.edgeWrite v r) := by
  unfold State.edgeWrite
  exact .ite (hs.flowClaim.ite (hs.flowRelease.ite hs.noCommand)) <| .ite (hs.layerClaim.ite (hs.layerRelease.ite hs.noCommand)) <|
    .ite hs.refSelCmd <| .ite hs.changeCmd <| .ite hs.outDiv <| .ite hs.clkTest <|
    .ite (hs.plumbClaim.ite (hs.plumbRelease.ite hs.noCommand)) <| .ite hs.resNext <| .ite hs.todNext <| .ite hs.convTick <|
    .ite hs.timeSource.plainWrite <| .ite hs.ppsOutEnable.plainWrite hs.plainWrite

theorem commitWrite {v : Nat} {r : Req} (hs : Sound s) : Sound (s.commitWrite v r) := by
  unfold State.commitWrite
  split
  · exact hs.commit
  · exact hs.validateOnly
  · exact hs.discardScope
  · exact hs.noCommand

theorem anchorCmd {v : Nat} {r : Req} (hs : Sound s) : Sound (s.anchorCmd v r) := by
  unfold State.anchorCmd; exact .ite hs.anchorInstall <| .ite hs.anchorRemove hs.noCommand

theorem twinWrite {v : Nat} {r : Req} (hs : Sound s) : Sound (s.twinWrite v r) := by
  unfold State.twinWrite
  refine .ite hs.twinOff ?_
  split
  · exact hs
  · exact hs.liveWrite.recheckTwin.twinBringUp.answer

theorem controlWrite {v : Nat} {r : Req} (hs : Sound s) : Sound (s.controlWrite v r) := by
  unfold State.controlWrite
  exact .ite hs.commitWrite <| .ite hs.store <| .ite hs.sessEnd <| .ite hs.anchorWrite <| .ite hs.anchorCmd <| .ite hs.provision <|
    .ite hs.attest <| .ite hs.twinWrite <| .ite hs.twinCmd <| .ite hs.pwrRequest <| .ite hs.updConfirm <| .ite hs.diagReset <|
    .ite hs.alertAck hs.plainWrite

theorem updBody {v : Nat} {r : Req} (hs : Sound s) : Sound (s.updBody v r) := by
  unfold State.updBody
  exact .ite hs.updLock <| .ite hs.updLength <| .ite hs.updOffset <| .ite hs.updData <| .ite hs.updVerify <|
    .ite (hs.updActivate.ite hs.noCommand) hs.plainWrite

theorem writeBody {v : Nat} {r : Req} (hs : Sound s) : Sound (s.writeBody v r) := by
  unfold State.writeBody
  extract_lets
  split
  · exact hs
  · exact .ite hs.stage <| .ite hs.portWrite <| .ite hs.controlWrite <| .ite hs.convWrite <| .ite hs.trigWrite <|
      .ite hs.storeWrite hs.edgeWrite

theorem serveWrite {sess tag k : Nat} {v : Option Nat} (hs : Sound s) : Sound (s.serveWrite sess tag k v) := by
  unfold State.serveWrite
  exact .ite (hs.arrive fun _ ht => ht.respond) <| .ite (hs.updWrite fun _ _ ht => ht.updBody) <| hs.command fun _ _ ht => ht.writeBody

/-! ### The operations of Machine/Mirror.lean -/

theorem quiet {sess : Nat} (ht : Sound t) : Sound (s.quiet t sess) := by
  unfold State.quiet; exact ht.updSes

theorem mirrorWrite {at_ sess k v : Nat} (hs : Sound s) : Sound (s.mirrorWrite at_ sess k v) := by
  unfold State.mirrorWrite; exact hs.withTick.writeBody.withTick.quiet

theorem mirrorCommit {at_ sess tag scope req cseq : Nat} {vals : List (Nat × Nat)} (hs : Sound s) :
    Sound (s.mirrorCommit at_ sess tag scope req cseq vals) := by
  unfold State.mirrorCommit
  extract_lets _ _ _ _ _ _ _ _ s1
  have h1 : Sound s1 := (hs.putCommitted.dropStaged.foldl fun _ _ ht => ht.settleOwner).putSmalls.showCommitted.withSwapsSwapIdCommits
  exact .ite h1 h1.wrAll

theorem mirrorOpen {sess role dict secret port mac ip udp : Nat} (hs : Sound s) :
    Sound (s.mirrorOpen sess role dict secret port mac ip udp) := by
  unfold State.mirrorOpen; exact .ite hs hs.openSes.updSes.updFlow.wrAll

theorem mirrorEnd {at_ sess : Nat} (hs : Sound s) : Sound (s.mirrorEnd at_ sess) := by
  unfold State.mirrorEnd; exact .ite hs hs.withTick.endSession.withTick

theorem mirrorRecord {f p : Nat} {r : Record} (hs : Sound s) : Sound (s.mirrorRecord f p r) := by
  unfold State.mirrorRecord; exact hs.updTwin.enterMirrored

theorem mirrorShed {event : Nat} {u : ShedUnit} (hs : Sound s) : Sound (s.mirrorShed event u) := by
  unfold State.mirrorShed
  extract_lets here
  clear_value here
  split
  · exact hs.shedOne
  · exact hs.resumeOne
  · exact hs

theorem mirrorManifest {f hash : Nat} (hs : Sound s) : Sound (s.mirrorManifest f hash) := by
  unfold State.mirrorManifest; exact hs.updFlow.wr

theorem applyItem {at_ : Nat} {late : Bool} {b : MirrorBody} (hs : Sound s) : Sound (s.applyItem at_ late b) := by
  unfold State.applyItem
  split
  · exact .ite hs.mirrorCommit hs
  · exact hs.mirrorWrite
  · exact hs.mirrorOpen
  · exact hs.mirrorEnd
  · exact .ite hs hs.logItem
  · exact .ite hs hs.takeAck.takeEntries
  · exact .ite hs hs.mirrorRecord
  · exact hs.mirrorShed
  · exact hs.updPlumb
  · exact .ite hs hs.updFlow.updTwin
  · exact .ite hs hs.mirrorManifest

theorem notOffered {b : MirrorBody} (hs : Sound s) : Sound (s.notOffered b) := by
  unfold State.notOffered; exact hs.updTwin.wrAll

/-! ### The operations of Machine/Idle.lean -/

theorem fabricTakes {ch : Nat} (hs : Sound s) : Sound (s.fabricTakes ch) := by
  unfold State.fabricTakes; exact .ite hs <| .ite hs.used.updChan hs.used

theorem idle (hs : Sound s) : Sound s.idle := by
  unfold State.idle; exact (hs.noteTrouble.foldl fun _ _ ht => ht.fabricTakes).withTickWall

end Sound

namespace Answered

variable {s t : State}

theorem done (h : Sound s → Sound t) : Answered s (Machine.done s t) := ⟨t, h, rfl⟩

theorem ite {c : Prop} [Decidable c] {a b : Host.Outcome State Fault Refusal} (ha : Answered s a) (hb : Answered s b) :
    Answered s (if c then a else b) := by
  split
  · exact ha
  · exact hb

/-! ### The commands of Machine/Reservoir.lean -/

theorem histLineWrite {h : Nat} : Answered s (execHistLineWrite h s) := by
  unfold execHistLineWrite
  refine .done fun hs => ?_
  refine .ite ?_ hs
  split
  · exact hs
  · exact .ite hs.writeLine hs

theorem reservoirRequestServe {k bank row addr corrected uncorrectable : Nat} :
    Answered s (execReservoirRequestServe k bank row addr corrected uncorrectable s) := by
  unfold execReservoirRequestServe
  extract_lets
  refine .done fun hs => ?_
  refine .ite hs ?_
  split
  · exact hs.promote
  · exact hs.promote.serveRq

theorem refreshDue {stack : Nat} {tempQ8 : Int} : Answered s (execRefreshDue stack tempQ8 s) := by
  unfold execRefreshDue; exact .done fun hs => .ite ((hs.wrI.wr.foldl fun _ _ ht => ht.updPch).ite hs.wrI.wr.newWindow.withRsv) hs

theorem pchPowerDown {k : Nat} : Answered s (execPchPowerDown k s) := by
  unfold execPchPowerDown; exact .done fun hs => .ite hs.updPch hs

theorem pchRetrain {k : Nat} {ok fullOk : Bool} : Answered s (execPchRetrain k ok fullOk s) := by
  unfold execPchRetrain; exact .done fun hs => .ite hs <| .ite (hs.ite hs.updPch.count) <| .ite hs <| .ite hs.updPch hs.updPch.failPch

theorem scrub {k addr corrected uncorrectable : Nat} : Answered s (execScrub k addr corrected uncorrectable s) := by
  unfold execScrub; exact .done fun hs => .ite hs hs.withRsv.ecc

theorem reservoirTrainingDone {failed : List Nat} : Answered s (execReservoirTrainingDone failed s) := by
  unfold execReservoirTrainingDone
  exact .done fun hs => .ite (hs.trainAll.wr.foldl fun _ _ ht => ht.failPch) <|
    .ite ((hs.trainAll.foldl fun _ _ ht => ht.fencePch).withRsv.foldl fun _ _ ht => ht.wr).wrAll.showPans.setFloors hs

theorem rsvRplStart {sess tag x : Nat} : Answered s (execRsvRplStart sess tag x s) := by
  unfold execRsvRplStart; exact .done fun hs => hs.direct fun _ _ ht => ht.replayCmd

theorem rsvRplAbort {sess tag x : Nat} : Answered s (execRsvRplAbort sess tag x s) := by
  unfold execRsvRplAbort; exact .done fun hs => hs.direct fun _ _ ht => ht.replayCmd

theorem replayRead {x : Nat} {uncorrectable : Bool} : Answered s (execReplayRead x uncorrectable s) := by
  unfold execReplayRead
  extract_lets _ _ _ _ _ s1
  have h1 : Sound s → Sound s1 := fun hs => (hs.enterReplay.ite hs).replayLine.wr.updReplay
  exact .done fun hs => .ite hs <| .ite hs.replayEnd <| .ite hs <| .ite hs <| .ite (h1 hs).replayEnd (h1 hs)

theorem histRingJoint {h : Nat} : Answered s (execHistRingJoint h s) := by
  unfold execHistRingJoint
  exact .done fun hs => .ite (hs.joint (fun _ _ _ ht => ht) fun _ _ _ ht => ht.ringAfter) <|
    hs.joint (fun _ _ _ ht => ht) fun _ _ _ ht => ht.wr.wr

/-! ### The commands of Machine/Sources.lean -/

theorem trigInEdge {pin : Nat} {rising : Bool} {sixteenths : Nat} : Answered s (execTrigInEdge pin rising sixteenths s) := by
  unfold execTrigInEdge
  extract_lets
  refine .done fun hs => ?_
  refine .ite hs <| .ite (hs.foldl fun _ _ ht => ht.srcGap) <| hs.withTrig.foldl fun _ _ ht => ?_
  split
  extract_lets s1
  have h1 : Sound s1 := ht.updSrc.pinLevel
  exact .ite h1.updSrc.issue h1

theorem trigTimeEvent {k : Nat} : Answered s (execTrigTimeEvent k s) := by
  unfold execTrigTimeEvent
  refine .done fun hs => ?_
  split
  · exact .ite hs.timeEvent hs
  · exact hs

theorem twinMarkReceive {q posTick posFine : Nat} : Answered s (execTwinMarkReceive q posTick posFine s) := by
  unfold execTwinMarkReceive; exact .done fun hs => .ite hs <| hs.foldl fun _ _ ht => .ite ht.issue ht.count

theorem trigSrcForce {sess tag k v : Nat} : Answered s (execTrigSrcForce sess tag k v s) := by
  unfold execTrigSrcForce; exact .done fun hs => hs.direct fun _ _ ht => ht.forceSource

/-! ### The commands of Machine/Sequencers.lean -/

theorem trigOutLaunch {n : Nat} : Answered s (execTrigOutLaunch n s) := by
  unfold execTrigOutLaunch
  refine .done fun hs => ?_
  split
  · exact hs
  · exact .ite hs <| (hs.ite hs.count).updOut

theorem trigOutPulseEnd {n : Nat} : Answered s (execTrigOutPulseEnd n s) := by
  unfold execTrigOutPulseEnd; exact .done fun hs => .ite hs.updOut hs

theorem trigOutModeWrite {sess tag n v : Nat} : Answered s (execTrigOutModeWrite sess tag n v s) := by
  unfold execTrigOutModeWrite; exact .done fun hs => hs.direct fun _ _ ht => ht.writeOutMode

theorem seqPosition {q : Nat} : Answered s (execSeqPosition q s) := by
  unfold execSeqPosition
  extract_lets s1
  have h1 : Sound s → Sound s1 := fun hs => hs.releaseForced
  refine .done fun hs => ?_
  refine .ite (h1 hs) ?_
  split
  · exact (h1 hs)
  · exact .ite (h1 hs).seqAt (h1 hs)

theorem trigTimerExpiry {q j : Nat} : Answered s (execTrigTimerExpiry q j s) := by
  unfold execTrigTimerExpiry
  refine .done fun hs => ?_
  split
  · exact hs
  · exact .ite hs hs.updSeqr.wr

theorem trigSeqRearm {sess tag q v : Nat} : Answered s (execTrigSeqRearm sess tag q v s) := by
  unfold execTrigSeqRearm; exact .done fun hs => hs.direct fun _ _ ht => ht.rearm

theorem groupResolve {g : Nat} : Answered s (execGroupResolve g s) := by
  unfold execGroupResolve
  refine .done fun hs => ?_
  split
  · exact hs
  · extract_lets _ _ _ cands _ s1
    have h1 : Sound s1 := by
      unfold s1
      clear_value cands
      split
      · exact hs.updGrp
      · exact .ite hs.updGrp.fire hs.updGrp.countN
    exact .ite hs h1.showGrp

theorem trigGrpArm {sess tag g v : Nat} : Answered s (execTrigGrpArm sess tag g v s) := by
  unfold execTrigGrpArm; exact .done fun hs => hs.direct fun _ _ ht => ht.groupCommand

theorem trigGrpDisarm {sess tag g v : Nat} : Answered s (execTrigGrpDisarm sess tag g v s) := by
  unfold execTrigGrpDisarm; exact .done fun hs => hs.direct fun _ _ ht => ht.groupCommand

theorem trigMaskSegsWrite {sess tag m v : Nat} : Answered s (execTrigMaskSegsWrite sess tag m v s) := by
  unfold execTrigMaskSegsWrite; exact .done fun hs => hs.stageWrite

theorem trigMaskWrite {sess tag m v : Nat} : Answered s (execTrigMaskWrite sess tag m v s) := by
  unfold execTrigMaskWrite; exact .done fun hs => hs.stageWrite

theorem trigCapArm {sess tag u v : Nat} : Answered s (execTrigCapArm sess tag u v s) := by
  unfold execTrigCapArm; exact .done fun hs => hs.direct fun _ _ ht => ht.armCapture

theorem captureFillEnd {u : Nat} : Answered s (execCaptureFillEnd u s) := by
  unfold execCaptureFillEnd; exact .done fun hs => .ite hs.wr hs

theorem captureSegmentRead {u : Nat} {bad : List Nat} : Answered s (execCaptureSegmentRead u bad s) := by
  unfold execCaptureSegmentRead
  extract_lets
  refine .done fun hs => ?_
  split
  · exact hs
  · extract_lets _ _ _ _ s1 _ _ _ _ _ s2
    have h1 : Sound s1 := hs.updCap.enterAll
    have h2 : Sound s2 := (h1.count.enterAll.ite ((h1.foldl fun _ _ ht => ht.access).foldl fun _ _ ht => ht.badLine).deliverSegment).wr.wr
    exact .ite hs <| .ite h2.wr h2

theorem triggerJoint {sess : Nat} : Answered s (execTriggerJoint sess s) := by
  unfold execTriggerJoint
  refine .done fun hs => ?_
  refine hs.foldl fun _ _ ht => ?_
  split
  · exact ht
  · exact .ite (ht.joint (fun _ _ _ hu => hu) fun _ _ _ hu => hu.trigAfter) ht

/-! ### The commands of Machine/Crystallizer.lean -/

theorem columnSetApply {p : Nat} : Answered s (execColumnSetApply p s) := by
  unfold execColumnSetApply
  extract_lets
  refine .done fun hs => ?_
  split
  · exact hs
  · exact .ite (hs.updPlane.applySet.ite hs.updPlane) hs

theorem harvestReadDone {p : Nat} : Answered s (execHarvestReadDone p s) := by
  unfold execHarvestReadDone
  extract_lets
  refine .done fun hs => ?_
  split
  · exact hs
  · exact (hs.foldl fun _ _ ht => ht.enterAll).updPlane

theorem crysClear {sess tag p v : Nat} : Answered s (execCrysClear sess tag p v s) := by
  unfold execCrysClear; exact .done fun hs => hs.direct fun _ _ ht => ht.clearCmd

theorem crysHarvCmd {sess tag p v : Nat} : Answered s (execCrysHarvCmd sess tag p v s) := by
  unfold execCrysHarvCmd; exact .done fun hs => hs.direct fun _ _ ht => ht.harvestCmd

/-! ### The commands of Machine/Detectors.lean -/

theorem detectorJoint {c : Nat} : Answered s (execDetectorJoint c s) := by
  unfold execDetectorJoint; exact .done fun hs => hs.detectorJoint

theorem productPeriodRelease {c : Nat} : Answered s (execProductPeriodRelease c s) := by
  unfold execProductPeriodRelease
  refine .done fun hs => hs.updDet.foldl fun _ i ht => ?_
  cases i with
  | explain => exact ht.foldl fun _ _ hu => hu.foldl fun _ _ hv => hv.enterAll
  | period => exact (ht.foldl fun _ _ hu => hu.enterAll).updDet.foldl fun _ _ hu => hu.wr.wr

theorem detHoldClear {sess tag c v : Nat} : Answered s (execDetHoldClear sess tag c v s) := by
  unfold execDetHoldClear; exact .done fun hs => hs.direct fun _ _ ht => ht.holdClear

theorem planeBoundary {p : Nat} : Answered s (execPlaneBoundary p s) := by
  unfold execPlaneBoundary
  extract_lets s1
  have h1 : Sound s → Sound s1 := fun hs => hs.foldl fun _ _ ht => ht.coverShed
  refine .done fun hs => ?_
  refine .ite hs ?_
  split
  · exact hs
  · exact .ite (h1 hs) (h1 hs).takeBoundary

/-! ### The commands of Machine/Lattice.lean -/

theorem contextJoint {c : Nat} : Answered s (execContextJoint c s) := by
  unfold execContextJoint; exact .done fun hs => hs.contextJoint

theorem xfmUwinWrite {sess tag c v : Nat} : Answered s (execXfmUwinWrite sess tag c v s) := by
  unfold execXfmUwinWrite; exact .done fun hs => hs.stageWrite

theorem frameRelease {c : Nat} : Answered s (execFrameRelease c s) := by
  unfold execFrameRelease
  extract_lets
  refine .done fun hs => ?_
  split
  · extract_lets s1 _ s2 _ _ _ _ _ s3
    have h1 : Sound s1 := hs.flushGaps.updCtx
    have h2 : Sound s2 := by
      refine .ite ?_ h1
      split
      exact h1.enterAll.countN.updCtx
    have h3 : Sound s3 := h2.detFrame.frameInputs.wr
    exact .ite hs.flushGaps <| (h3.wr.ite h3).flushGaps.showSlots
  · exact hs.flushGaps

theorem frameDispatch {c : Nat} : Answered s (execFrameDispatch c s) := by
  unfold execFrameDispatch
  extract_lets
  refine .done fun hs => ?_
  split
  · exact hs
  · exact .ite hs hs.endStagingRun.updCtx.showSlots

theorem frameStagingSkip {c : Nat} : Answered s (execFrameStagingSkip c s) := by
  unfold execFrameStagingSkip
  refine .done fun hs => ?_
  split
  · exact hs
  · extract_lets _ s1 _ s2
    have h1 : Sound s1 := by
      unfold s1
      split
      · exact .ite hs hs.endStagingRun
      · exact hs
    have h2 : Sound s2 := h1.updCtx.count
    exact .ite hs <| .ite h2 h2.endStagingRun

/-! ### The commands of Machine/Tuners.lean -/

theorem tunerJoint {t : Nat} : Answered s (execTunerJoint t s) := by
  unfold execTunerJoint; exact .done fun hs => .ite hs hs.tunerRetune

theorem tunerEnableJoint {t : Nat} : Answered s (execTunerEnableJoint t s) := by
  unfold execTunerEnableJoint; exact .done fun hs => .ite hs.tunerSwitch hs

theorem tunerSampleRelease {t : Nat} : Answered s (execTunerSampleRelease t s) := by
  unfold execTunerSampleRelease
  extract_lets
  refine .done fun hs => ?_
  split
  · split
    · exact hs.tunerUpTo
    · exact hs.tunerUpTo.updTuner
  · extract_lets
    refine .ite hs.tunerUpTo ?_
    split
    extract_lets _ _ s1
    have h1 : Sound s1 := hs.tunerUpTo.ringGrid.closeGaps.updTuner.countN
    exact (h1.wr.ite h1).ringPut.magnitudeInputs.formFrames

/-! ### The commands of Machine/Shed.lean -/

theorem shedStep : Answered s (execShedStep s) := by
  unfold execShedStep
  refine .done fun hs => ?_
  split
  · exact hs
  · exact .ite hs.shedNow hs.noteTrouble

theorem shedRestore : Answered s (execShedRestore s) := by
  unfold execShedRestore
  extract_lets
  refine .done fun hs => ?_
  split
  · exact hs.noteTrouble
  · exact .ite hs.noteTrouble.resumeOne.withShed hs.noteTrouble

theorem floorScaleUpdate {pvinMv : Nat} : Answered s (execFloorScaleUpdate pvinMv s) := by
  unfold execFloorScaleUpdate
  extract_lets _ _ _ s1 s2
  have h1 : Sound s → Sound s1 := fun hs => hs.noteTrouble.wr.wr.setFloors
  have h2 : Sound s → Sound s2 := fun hs => .ite (h1 hs).event (h1 hs)
  exact .done fun hs => .ite (h2 hs).shedNow (h2 hs)

/-! ### The commands of Machine/Converters.lean -/

theorem converterBlockEntry {ch : Nat} {prev : Int} {raw : List Int} {next : Int} :
    Answered s (execConverterBlockEntry ch prev raw next s) := by
  unfold execConverterBlockEntry
  extract_lets
  refine .done fun hs => ?_
  split
  · exact hs
  · extract_lets s1
    have h1 : Sound s1 := by
      unfold s1
      split
      · exact hs.countN.wr
      · exact hs
    exact .ite hs <| .ite h1.updChan.dropBlock h1.updChan.enterBlock

theorem convJoint {ch : Nat} : Answered s (execConvJoint ch s) := by
  unfold execConvJoint
  exact .done fun hs => hs.joint (fun _ _ _ ht => ht) fun _ _ _ ht => .ite ht <| .ite ht.powerChannel ht.unpowerChannel

theorem convCalCmd {sess tag ch v : Nat} : Answered s (execConvCalCmd sess tag ch v s) := by
  unfold execConvCalCmd; exact .done fun hs => hs.when fun _ ht => ht.direct fun _ _ hu => hu.calCmd

theorem convCalAll {sess tag : Nat} : Answered s (execConvCalAll sess tag s) := by
  unfold execConvCalAll; exact .done fun hs => hs.direct fun _ _ ht => ht.calAllCmd

theorem calIntervalEnd {ch : Nat} {off gain skew bw : List Int} {sourceOk : Bool} {tj : Int} :
    Answered s (execCalIntervalEnd ch off gain skew bw sourceOk tj s) := by
  unfold execCalIntervalEnd
  extract_lets
  refine .done fun hs => ?_
  split
  · exact hs
  · extract_lets _ _ s1
    have h1 : Sound s1 := hs.endCal.calFail
    exact .ite hs <| .ite (hs.endCal.wr.ite hs.endCal) <| .ite hs.endCal.updChan.putFactors.wr <| .ite h1.wr h1

theorem calSetStored {ch : Nat} {readBackOk : Bool} : Answered s (execCalSetStored ch readBackOk s) := by
  unfold execCalSetStored
  extract_lets
  refine .done fun hs => ?_
  split
  · exact hs
  · extract_lets _ s1
    have h1 : Sound s1 := .ite hs.updChan.wr hs.updChan
    exact .ite hs <| .ite h1.showSet.wr.advise.calDone h1.putFactors.calFail

theorem trackingUpdate {ch kind : Nat} {target : List Int} {bandOk : Bool} : Answered s (execTrackingUpdate ch kind target bandOk s) := by
  unfold execTrackingUpdate; exact .done fun hs => .ite hs <| .ite hs.updChan (hs.updChan.foldl fun _ _ ht => ht.wrI).updChan.wrI.advise

theorem syncAlignCmd {sess tag : Nat} : Answered s (execSyncAlignCmd sess tag s) := by
  unfold execSyncAlignCmd; exact .done fun hs => hs.direct fun _ _ ht => ht.syncModeCmd

theorem syncAlignEdge : Answered s (execSyncAlignEdge s) := by
  unfold execSyncAlignEdge
  extract_lets
  refine .done fun hs => ?_
  split
  · exact hs
  · exact .ite hs hs.renumber.withClk.updConv.wr.finish

theorem syncAlignTimeout : Answered s (execSyncAlignTimeout s) := by
  unfold execSyncAlignTimeout
  extract_lets s1
  have h1 : Sound s → Sound s1 := fun hs => by
    unfold s1
    split
    · exact hs.updConv
    · exact hs
  refine .done fun hs => ?_
  split
  · exact hs
  · exact .ite hs (h1 hs).updConv.wrAll.finish

theorem syncModeOff {sess tag : Nat} : Answered s (execSyncModeOff sess tag s) := by
  unfold execSyncModeOff; exact .done fun hs => hs.direct fun _ _ ht => ht.syncModeCmd

theorem syncModeCheck {sess tag : Nat} : Answered s (execSyncModeCheck sess tag s) := by
  unfold execSyncModeCheck; exact .done fun hs => hs.direct fun _ _ ht => ht.syncModeCmd

theorem syncCheckBoundary {edges : List Int} : Answered s (execSyncCheckBoundary edges s) := by
  unfold execSyncCheckBoundary
  extract_lets
  refine .done fun hs => ?_
  split
  · exact hs
  · extract_lets s1
    have h1 : Sound s1 := hs.withClk.updConv
    exact .ite hs <| .ite h1.wr <| h1.foldl fun _ _ ht => ht.boundaryFails

theorem syncOutPulse : Answered s (execSyncOutPulse s) := by
  unfold execSyncOutPulse
  extract_lets
  refine .done fun hs => ?_
  split
  · exact hs
  · exact .ite hs <| .ite hs.updConv.updConv hs.updConv

theorem convPathDelayWrite {sess tag ch v : Nat} : Answered s (execConvPathDelayWrite sess tag ch v s) := by
  unfold execConvPathDelayWrite; exact .done fun hs => hs.when fun _ ht => ht.direct fun _ _ hu => hu.pathDelay

theorem boardPathSkewCmd {sess tag : Nat} : Answered s (execBoardPathSkewCmd sess tag s) := by
  unfold execBoardPathSkewCmd; exact .done fun hs => hs.direct fun _ _ ht => ht.calAllCmd

theorem boardPathSkewDone {arrivals : List Nat} {combOk : Bool} : Answered s (execBoardPathSkewDone arrivals combOk s) := by
  unfold execBoardPathSkewDone
  extract_lets
  refine .done fun hs => ?_
  split
  · exact hs
  · exact .ite hs <| .ite hs.updConv.finish <| (hs.updConv.foldl fun _ _ ht => ht.wr.applyPath.markPs).finish

/-! ### The commands of Machine/Movers.lean -/

theorem descriptorComplete {m : Nat} : Answered s (execDescriptorComplete m s) := by
  unfold execDescriptorComplete
  extract_lets
  refine .done fun hs => ?_
  refine .ite hs ?_
  split
  · exact hs.failed
  · split
    · exact hs.halted
    · exact hs.advance.completeIf

theorem beatError {m beat code dir : Nat} : Answered s (execBeatError m beat code dir s) := by
  unfold execBeatError; exact .done fun hs => .ite hs <| .ite hs.count <| .ite hs hs.failed

theorem moveStart {sess tag m : Nat} : Answered s (execMoveStart sess tag m s) := by
  unfold execMoveStart; exact .done fun hs => hs.moveCommand

theorem moveHalt {sess tag m beats : Nat} : Answered s (execMoveHalt sess tag m beats s) := by
  unfold execMoveHalt; exact .done fun hs => hs.moveCommand

theorem moveRetry {sess tag m : Nat} : Answered s (execMoveRetry sess tag m s) := by
  unfold execMoveRetry; exact .done fun hs => hs.moveCommand

theorem moveSkip {sess tag m : Nat} : Answered s (execMoveSkip sess tag m s) := by
  unfold execMoveSkip; exact .done fun hs => hs.moveCommand

theorem moveAbort {sess tag m beats : Nat} : Answered s (execMoveAbort sess tag m beats s) := by
  unfold execMoveAbort; exact .done fun hs => hs.moveCommand

theorem moveResume {sess tag m : Nat} : Answered s (execMoveResume sess tag m s) := by
  unfold execMoveResume; exact .done fun hs => hs.moveCommand

theorem moveClaim {sess tag m : Nat} : Answered s (execMoveClaim sess tag m s) := by
  unfold execMoveClaim; exact .done fun hs => hs.when fun _ ht => ht.direct fun _ _ hu => hu.moverClaim

theorem moveRelease {sess tag m : Nat} : Answered s (execMoveRelease sess tag m s) := by
  unfold execMoveRelease; exact .done fun hs => hs.when fun _ ht => ht.direct fun _ _ hu => hu.moverRelease

theorem moveDescWrite {sess tag m v : Nat} : Answered s (execMoveDescWrite sess tag m v s) := by
  unfold execMoveDescWrite
  exact .done fun hs => .ite (hs.when fun _ ht => ht.moverDesc) <| hs.when fun _ ht => ht.direct fun _ _ hu => hu.moverDesc

theorem moveBufferJoint {m : Nat} : Answered s (execMoveBufferJoint m s) := by
  unfold execMoveBufferJoint
  extract_lets
  refine .done fun hs => ?_
  refine hs.joint (fun _ _ _ ht => ht) fun _ _ _ ht => ?_
  extract_lets _ s1
  have h1 : Sound s1 := .ite ht.wr.wrc ht
  exact .ite h1 h1.freeSmall.wr.loseUse

/-! ### The commands of Machine/Custody.lean -/

theorem custodySegmentClose {f : Nat} : Answered s (execCustodySegmentClose f s) := by
  unfold execCustodySegmentClose
  refine .done fun hs => hs.ite ?_
  have signed {b : Bool} {t : State} (eq : s.signs = (b, t)) : Sound t := by simpa [eq] using hs.signs
  split
  next eq => exact (signed eq).closeSegment
  next eq => exact (signed eq).ite (signed eq).updFlow.count

/-! ### The commands of Machine/Ports.lean -/

theorem portConfigWrite {sess tag k v : Nat} : Answered s (execPortConfigWrite sess tag k v s) := by
  unfold execPortConfigWrite; exact .done fun hs => hs.when fun _ ht => ht.direct fun _ _ hu => hu.portWrite

theorem portLinkUp {p media : Nat} : Answered s (execPortLinkUp p media s) := by
  unfold execPortLinkUp; exact .done fun hs => .ite hs hs.wrAll

theorem portLinkDown {p : Nat} : Answered s (execPortLinkDown p s) := by
  unfold execPortLinkDown; exact .done fun hs => .ite hs hs.wrAll.count.event

theorem arpRequest {p ip mac : Nat} : Answered s (execArpRequest p ip mac s) := by
  unfold execArpRequest; exact .done fun hs => .ite hs hs.updPort

theorem ndSolicitation {p ip mac : Nat} : Answered s (execNdSolicitation p ip mac s) := by
  unfold execNdSolicitation; exact .done fun hs => .ite hs hs.updPort

theorem frameReceive {p : Nat} {f : RxFrame} : Answered s (execFrameReceive p f s) := by
  unfold execFrameReceive
  extract_lets _ _ s1
  have h1 : Sound s → Sound s1 := fun hs => hs.wr.updPort.wr
  exact .done fun hs => .ite hs <| .ite hs.wr.count <| .ite hs.wr.count <| .ite hs.wr.updPort <| .ite (h1 hs).updSes.wr (h1 hs)

theorem timeAnchorEmit : Answered s (execTimeAnchorEmit s) := by
  unfold execTimeAnchorEmit
  extract_lets _ s1
  have h1 : Sound s → Sound s1 := fun hs => hs.foldl fun _ _ ht => ht.enter.updFlow
  exact .done fun hs => .ite ((h1 hs).foldl fun _ _ ht => ht.side).withAnchorAt (h1 hs)

theorem statusEmit : Answered s (execStatusEmit s) := by
  unfold execStatusEmit; exact .done fun hs => (hs.ite hs.sampleTj).foldl fun _ _ ht => ht.enter.updFlow

/-! ### The commands of Machine/Flows.lean -/

theorem frameClose {f : Nat} : Answered s (execFrameClose f s) := by
  unfold execFrameClose; exact .done fun hs => .ite hs.cutControl <| .ite hs.cutFrame hs

theorem flowFlushTimer {f : Nat} : Answered s (execFlowFlushTimer f s) := by
  unfold execFlowFlushTimer; exact .done fun hs => .ite hs hs.flushAll

theorem ackReceive {p : Nat} : Answered s (execAckReceive p s) := by
  unfold execAckReceive
  extract_lets
  refine .done fun hs => ?_
  split
  · exact hs
  · exact .ite hs.rxPop.takeAck hs.rxPop.count

theorem forwardedAckReceive {f : Nat} {a : Ack} : Answered s (execForwardedAckReceive f a s) := by
  unfold execForwardedAckReceive; exact .done fun hs => .ite hs.takeAck hs

theorem flowStall {f : Nat} : Answered s (execFlowStall f s) := by
  unfold execFlowStall; exact .done fun hs => .ite hs hs.wr.event

theorem receiveFlowData {p : Nat} : Answered s (execReceiveFlowData p s) := by
  unfold execReceiveFlowData
  extract_lets
  refine .done fun hs => ?_
  split
  · exact hs
  · exact .ite hs.rxPop.takeData hs.rxPop.count

theorem receiveFlowAckTimer {f : Nat} : Answered s (execReceiveFlowAckTimer f s) := by
  unfold execReceiveFlowAckTimer
  refine .done fun hs => ?_
  split
  · exact hs
  · exact .ite hs hs.askAck

theorem flowClaim {sess tag f : Nat} : Answered s (execFlowClaim sess tag f s) := by
  unfold execFlowClaim; exact .done fun hs => hs.when fun _ ht => ht.direct fun _ _ hu => hu.flowClaim

theorem flowRelease {sess tag f : Nat} : Answered s (execFlowRelease sess tag f s) := by
  unfold execFlowRelease; exact .done fun hs => hs.when fun _ ht => ht.direct fun _ _ hu => hu.flowRelease

theorem flowEnableJoint {f : Nat} : Answered s (execFlowEnableJoint f s) := by
  unfold execFlowEnableJoint
  exact .done fun hs => .ite hs <| hs.joint (fun _ _ _ ht => ht) fun _ _ _ ht => .ite ht.wr.showFlow ht.wr.startFlow

theorem flowDisableJoint {f : Nat} : Answered s (execFlowDisableJoint f s) := by
  unfold execFlowDisableJoint
  exact .done fun hs => .ite hs <| hs.joint (fun _ _ _ ht => .ite ht.stopFlow ht) fun _ _ _ ht => ht.wr.showFlow

theorem flowDrainEnd {f : Nat} : Answered s (execFlowDrainEnd f s) := by
  unfold execFlowDrainEnd
  extract_lets _ _ _ _ s1
  have h1 : Sound s → Sound s1 := fun hs => hs.updFlow.freeSmall.wr
  exact .done fun hs => .ite hs <| .ite (h1 hs).freeFlow.updFlow (h1 hs)

/-! ### The commands of Machine/Scan.lean -/

theorem scanLatch : Answered s (execScanLatch s) := by
  unfold execScanLatch; exact .done fun hs => .ite hs <| .ite hs.latch <| hs.when fun _ ht => ht.latch

theorem teInEdge : Answered s (execTeInEdge s) := by
  unfold execTeInEdge; exact .done fun hs => hs.when fun _ ht => .ite ht.teAccept ht.count

theorem scanTeTimeout : Answered s (execScanTeTimeout s) := by
  unfold execScanTeTimeout; exact .done fun hs => hs.when fun _ ht => ht.count.teAccept

theorem scanLineSend {y : Nat} {missing : List Nat} : Answered s (execScanLineSend y missing s) := by
  unfold execScanLineSend
  extract_lets _ _ _ _ _ _ s1 _ _ s2 s3
  have h1 : Sound s → Sound s1 := fun hs => hs.used.withScan
  have h2 : Sound s → Sound s2 := fun hs => .ite (h1 hs).underrunEnd <| (h1 hs).count.withScan
  have h3 : Sound s → Sound s3 := fun hs => .ite (h2 hs).wr (h2 hs)
  exact .done fun hs => .ite hs <| ((h3 hs).frameSent.ite (h3 hs)).scanReader

theorem scanCrcCheck {pad : Nat} : Answered s (execScanCrcCheck pad s) := by
  unfold execScanCrcCheck
  extract_lets
  refine .done fun hs => ?_
  split
  · exact hs
  · extract_lets s1
    have h1 : Sound s1 := hs.withScan.wrAll
    exact .ite hs <| .ite h1 h1.count.wr.event

theorem densityRenderDone : Answered s (execDensityRenderDone s) := by
  unfold execDensityRenderDone
  refine .done fun hs => ?_
  split
  · exact hs
  · exact .ite hs hs.renderInto.withScan

theorem layerBufferRelease {l : Nat} : Answered s (execLayerBufferRelease l s) := by
  unfold execLayerBufferRelease; exact .done fun hs => hs.when fun _ ht => ht.freeSmall.wr.showLayer

theorem scanLClaim {sess tag l : Nat} : Answered s (execScanLClaim sess tag l s) := by
  unfold execScanLClaim; exact .done fun hs => hs.when fun _ ht => ht.direct fun _ _ hu => hu.layerClaim

theorem scanLRelease {sess tag l : Nat} : Answered s (execScanLRelease sess tag l s) := by
  unfold execScanLRelease; exact .done fun hs => hs.when fun _ ht => ht.direct fun _ _ hu => hu.layerRelease

theorem scanLPalWrite {sess tag l v : Nat} : Answered s (execScanLPalWrite sess tag l v s) := by
  unfold execScanLPalWrite; exact .done fun hs => hs.when fun _ ht => ht.stageWrite

/-! ### The commands of Machine/Clock.lean -/

theorem refPresenceChange {r st : Nat} {ppb : Int} : Answered s (execRefPresenceChange r st ppb s) := by
  unfold execRefPresenceChange
  extract_lets
  refine .done fun hs => ?_
  refine hs.when fun _ ht => ?_
  extract_lets _ s1 s2 s3
  have h1 : Sound s1 := .ite ht.wr ht.wr.wrI
  have h2 : Sound s2 := .ite h1.count h1
  have h3 : Sound s3 := .ite h2 h2.updClk
  split
  · exact h3.acquire
  · exact .ite h3.refLost h3
  · exact h3.pullIn
  · exact .ite h3.wr h3
  · exact .ite h3.acquire <| .ite h3.updClk h3
  · exact h3.pullIn
  · exact h3

theorem refEdgeMiss : Answered s (execRefEdgeMiss s) := by
  unfold execRefEdgeMiss; exact .done fun hs => hs.when fun _ ht => .ite ht.holdover ht.updClk

theorem holdoverTrim {tj : Int} : Answered s (execHoldoverTrim tj s) := by
  unfold execHoldoverTrim; exact .done fun hs => hs.when fun _ ht => ht.updClk.used

theorem clkHoldLong : Answered s (execClkHoldLong s) := by
  unfold execClkHoldLong; exact .done fun hs => hs.when fun _ ht => ht.updClk.event

theorem pullInDone : Answered s (execPullInDone s) := by
  unfold execPullInDone; exact .done fun hs => hs.when fun _ ht => ht.setRatio.wrAll.anchorAll

theorem refRevert : Answered s (execRefRevert s) := by
  unfold execRefRevert; exact .done fun hs => hs.when fun _ ht => ht.switchRef

theorem clkRefSelWrite {sess tag v : Nat} : Answered s (execClkRefSelWrite sess tag v s) := by
  unfold execClkRefSelWrite; exact .done fun hs => hs.direct fun _ _ ht => ht.refSelCmd

theorem masterLock : Answered s (execMasterLock s) := by
  unfold execMasterLock
  extract_lets
  refine .done fun hs => ?_
  split
  · exact .ite hs.freeLock hs
  · refine .ite hs ?_
    split
    · exact hs.setRatio.lockBit.updClk.updClk.wrAll.startChannels.showClkOut.anchorAll
    · split
      · exact hs.setRatio.lockBit.updClk.openGate
      · extract_lets s1
        have h1 : Sound s1 := hs.setRatio.lockBit.updClk
        exact .ite h1.openGate.changeDone h1.updClk
    · exact hs

theorem lockTimeout : Answered s (execLockTimeout s) := by
  unfold execLockTimeout
  refine .done fun hs => ?_
  split
  · exact hs
  · refine .ite hs ?_
    split
    · exact hs.masterFails
    · exact hs.updClk.event
    · exact hs

theorem masterUnlock : Answered s (execMasterUnlock s) := by
  unfold execMasterUnlock; exact .done fun hs => hs.when fun _ ht => ht.gate.count.event.acquire

theorem clkChangeCmd {sess tag v : Nat} : Answered s (execClkChangeCmd sess tag v s) := by
  unfold execClkChangeCmd; exact .done fun hs => hs.direct fun _ _ ht => ht.changeCmd

theorem clkChangeGate : Answered s (execClkChangeGate s) := by
  unfold execClkChangeGate
  refine .done fun hs => ?_
  split
  · exact hs
  · exact hs.when fun _ ht => ht.gate.requalify.wr.acquire

theorem clkChangeResume {syncEdge : Bool} : Answered s (execClkChangeResume syncEdge s) := by
  unfold execClkChangeResume
  refine .done fun hs => ?_
  split
  · exact hs
  · refine hs.when fun _ ht => ?_
    extract_lets _ s2
    have h2 : Sound s2 := ht.openGate.changeDone.wr
    refine .ite ?_ ht.wr.event
    split
    · extract_lets s1
      have h1 : Sound s1 := h2.updConv
      exact .ite (h1.ite h1.boundaryFails) h2
    · exact h2

theorem clkOutDivWrite {sess tag v : Nat} : Answered s (execClkOutDivWrite sess tag v s) := by
  unfold execClkOutDivWrite; exact .done fun hs => hs.direct fun _ _ ht => ht.outDiv

theorem clkTest {sess tag v : Nat} : Answered s (execClkTest sess tag v s) := by
  unfold execClkTest; exact .done fun hs => hs.direct fun _ _ ht => ht.clkTest

theorem clkTestDone {fs : Nat} : Answered s (execClkTestDone fs s) := by
  unfold execClkTestDone
  refine .done fun hs => ?_
  split
  · exact hs
  · exact hs.when fun _ ht => ht.updClk.wrAll

/-! ### The commands of Machine/Plumb.lean -/

theorem plmbEdge {input : Nat} {rising : Bool} {tick fine : Nat} : Answered s (execPlmbEdge input rising tick fine s) := by
  unfold execPlmbEdge
  refine .done fun hs => ?_
  refine hs.when fun _ ht => ?_
  extract_lets _ _ _ _ _ _ s1
  have h1 : Sound s1 := .ite ht.updPlumb.updPlumb ht.updPlumb
  exact .ite ht <| .ite ht.updPlumb.count <| .ite h1.holdStop h1

theorem plmbTimeStart : Answered s (execPlmbTimeStart s) := by
  unfold execPlmbTimeStart
  refine .done fun hs => ?_
  split
  · exact hs
  · exact hs.when fun _ ht => ht.updPlumb

theorem plmbMeasureClose : Answered s (execPlmbMeasureClose s) := by
  unfold execPlmbMeasureClose
  refine .done fun hs => ?_
  split
  · exact hs
  · split
    · exact hs.updPlumb
    · exact hs.when fun _ ht => ht.closeMeasure

theorem plmbStopUnmatched : Answered s (execPlmbStopUnmatched s) := by
  unfold execPlmbStopUnmatched
  refine .done fun hs => ?_
  split
  · exact hs
  · exact hs.when fun _ ht => ht.updPlumb.count

theorem plmbResNext {sess tag v : Nat} : Answered s (execPlmbResNext sess tag v s) := by
  unfold execPlmbResNext; exact .done fun hs => hs.direct fun _ _ ht => ht.resNext

theorem plmbClaim {sess tag : Nat} : Answered s (execPlmbClaim sess tag s) := by
  unfold execPlmbClaim; exact .done fun hs => hs.direct fun _ _ ht => ht.plumbClaim

theorem plmbRelease {sess tag : Nat} : Answered s (execPlmbRelease sess tag s) := by
  unfold execPlmbRelease; exact .done fun hs => hs.direct fun _ _ ht => ht.plumbRelease

theorem plumbJoint : Answered s (execPlumbJoint s) := by
  unfold execPlumbJoint; exact .done fun hs => hs.joint (fun _ _ _ ht => ht.timeStartsBelow) fun _ _ _ ht => ht.plumbAfter

theorem cntGateEnd : Answered s (execCntGateEnd s) := by
  unfold execCntGateEnd
  refine .done fun hs => ?_
  split
  · exact hs
  · exact hs.when fun _ ht => ht.endGate

theorem cntPoint {n tick fine : Nat} {outOfRange : Bool} : Answered s (execCntPoint n tick fine outOfRange s) := by
  unfold execCntPoint
  refine .done fun hs => ?_
  refine hs.when fun _ ht => ?_
  extract_lets _ _ _ _ s1 s2
  have h1 : Sound s1 := by
    unfold s1
    split
    · exact .ite ht.wr.updPlumb.beginGate ht.wr.updPlumb
    · exact ht.wr.updPlumb
  have h2 : Sound s2 := by
    unfold s2
    split
    · exact .ite h1.endGate h1
    · exact h1
  exact .ite ht.wr.updPlumb h2.gateFlag.gateFlag.gateFlag.gateFlag.updPlumb

theorem cntAbsent : Answered s (execCntAbsent s) := by
  unfold execCntAbsent; exact .done fun hs => hs.when fun _ ht => ht.wr.gateFlag

theorem ppsInEdge {tick fine : Nat} : Answered s (execPpsInEdge tick fine s) := by
  unfold execPpsInEdge
  refine .done fun hs => ?_
  refine hs.when fun _ ht => ?_
  extract_lets _ _ k
  refine .ite ht.ppsAccept ?_
  clear_value k
  split
  · exact .ite ht.count.updPlumb.timeStep ht.count.updPlumb
  · exact ht.count.updPlumb

theorem ppsMiss : Answered s (execPpsMiss s) := by
  unfold execPpsMiss
  extract_lets
  refine .done fun hs => ?_
  refine hs.when fun _ ht => ?_
  extract_lets s1
  have h1 : Sound s1 := ht.count.updPlumb
  exact .ite h1.timeState h1

theorem plmbTodNext {sess tag v : Nat} : Answered s (execPlmbTodNext sess tag v s) := by
  unfold execPlmbTodNext; exact .done fun hs => hs.direct fun _ _ ht => ht.todNext

theorem ptpMessageReceive {offset : Int} {rtt : Nat} {utc : Int} : Answered s (execPtpMessageReceive offset rtt utc s) := by
  unfold execPtpMessageReceive
  refine .done fun hs => ?_
  refine hs.when fun _ ht => ?_
  extract_lets _ s1
  have h1 : Sound s1 := ht.wrI.updPlumb
  exact .ite h1 <| .ite h1.beginPiece.updPlumb.timeState <| .ite h1.updPlumb.updPlumb.timeStep h1.updPlumb

theorem ppsOutRise : Answered s (execPpsOutRise s) := by
  unfold execPpsOutRise; exact .done fun hs => hs.when fun _ ht => ht.updPlumb

theorem ppsOutFall : Answered s (execPpsOutFall s) := by
  unfold execPpsOutFall
  refine .done fun hs => ?_
  split
  · exact hs
  · exact hs.when fun _ ht => ht.updPlumb

theorem plmbConvTickWrite {sess tag v : Nat} : Answered s (execPlmbConvTickWrite sess tag v s) := by
  unfold execPlmbConvTickWrite; exact .done fun hs => hs.direct fun _ _ ht => ht.convTick

/-! ### The commands of Machine/Commit.lean -/

theorem devCommit {sess tag : Nat} : Answered s (execDevCommit sess tag s) := by
  unfold execDevCommit; exact .done fun hs => hs.direct fun _ _ ht => ht.commit

theorem devCommitValidate {sess tag : Nat} : Answered s (execDevCommitValidate sess tag s) := by
  unfold execDevCommitValidate; exact .done fun hs => hs.direct fun _ _ ht => ht.validateOnly

theorem devCommitDiscard {sess tag : Nat} : Answered s (execDevCommitDiscard sess tag s) := by
  unfold execDevCommitDiscard; exact .done fun hs => hs.direct fun _ _ ht => ht.discardScope

theorem commitValidated {sess : Nat} : Answered s (execCommitValidated sess s) := by
  unfold execCommitValidated
  refine .done fun hs => ?_
  split
  · exact hs
  · refine .ite hs ?_
    split
    · exact hs.letIn
    · exact hs.refuse

theorem swapComplete {sess : Nat} : Answered s (execSwapComplete sess s) := by
  unfold execSwapComplete
  extract_lets _ s1
  have h1 : Sound s → Sound s1 := fun hs => hs.foldl fun _ _ ht => ht.applyLoose
  refine .done fun hs => ?_
  split
  · exact (h1 hs)
  · split
    · exact (h1 hs).engineDone
    · exact (h1 hs).swapDone

theorem sessionEndJoint {sess : Nat} : Answered s (execSessionEndJoint sess s) := by
  unfold execSessionEndJoint
  refine .done fun hs => ?_
  split
  · exact hs
  · extract_lets
    split
    · exact hs.applyLoose
    · exact hs.applyLoose.engineDone

theorem snapshotReceipt {sess : Nat} : Answered s (execSnapshotReceipt sess s) := by
  unfold execSnapshotReceipt
  refine .done fun hs => ?_
  split
  · exact hs
  · exact hs.setSwap.finish

theorem snapshotReceiptTimeout {sess : Nat} : Answered s (execSnapshotReceiptTimeout sess s) := by
  unfold execSnapshotReceiptTimeout
  refine .done fun hs => ?_
  split
  · exact hs
  · extract_lets _ _ s1
    have h1 : Sound s1 := hs.setSwap.finish.withTwin
    split
    · exact .ite hs <| .ite h1.wr h1
    · exact hs

/-! ### The commands of Machine/Sessions.lean -/

theorem frameTransmit {p : Nat} : Answered s (execFrameTransmit p s) := by
  unfold execFrameTransmit; exact .done fun hs => hs.transmit.finishClosing

theorem sessionIdleTimeout {i : Nat} : Answered s (execSessionIdleTimeout i s) := by
  unfold execSessionIdleTimeout; exact .done fun hs => .ite hs <| .ite hs.endSession.putWire hs.endSession

theorem closeFrame {p : Nat} : Answered s (execCloseFrame p s) := by
  unfold execCloseFrame
  refine .done fun hs => ?_
  split
  · exact hs
  · exact hs.rxPop.endSession

theorem devSessEnd {sess tag i v : Nat} : Answered s (execDevSessEnd sess tag i v s) := by
  unfold execDevSessEnd; exact .done fun hs => hs.when fun _ ht => ht.direct fun _ _ hu => hu.sessEnd

theorem hello {sess tag vmin vmax : Nat} {wellFormed : Bool} : Answered s (execHello sess tag vmin vmax wellFormed s) := by
  unfold execHello
  exact .done fun hs => .ite hs.popRequest <| .ite (hs.popRequest.ite (hs.popRequest.hello0.ite hs.popRequest.respond)) <|
    hs.popRequest.arrive fun _ ht => .ite ht.respond ht.respond

theorem close {sess tag : Nat} {wellFormed : Bool} : Answered s (execClose sess tag wellFormed s) := by
  unfold execClose; exact .done fun hs => hs.popRequest.arrive fun _ ht => .ite ht.respond.updSes ht.respond

theorem i3cDynamicAddress {cmd addr : Nat} : Answered s (execI3cDynamicAddress cmd addr s) := by
  unfold execI3cDynamicAddress; exact .done fun hs => .ite hs <| .ite hs.wr hs

theorem rstdaa : Answered s (execRstdaa s) := by
  unfold execRstdaa; exact .done fun hs => .ite hs hs.endSession.wr

theorem rstactInterface : Answered s (execRstactInterface s) := by
  unfold execRstactInterface; exact .done fun hs => .ite hs hs.endSession.updSes.updI3c.wrAll

theorem i3cCommonCommand {code arg : Nat} : Answered s (execI3cCommonCommand code arg s) := by
  unfold execI3cCommonCommand; exact .done fun hs => .ite hs <| .ite hs.nack hs.updI3c.used

theorem i3cPrivateWrite {ddr : Bool} {code : Nat} {octets : List Nat} : Answered s (execI3cPrivateWrite ddr code octets s) := by
  unfold execI3cPrivateWrite
  exact .done fun hs => .ite hs.updI3c.count <| .ite hs.nack <| .ite hs.updI3c.count <| .ite hs.updI3c.takeRequest hs.updI3c.count

theorem i3cPrivateRead {ddr : Bool} {code got : Nat} : Answered s (execI3cPrivateRead ddr code got s) := by
  unfold execI3cPrivateRead
  refine .done fun hs => ?_
  refine .ite hs.updI3c.count ?_
  split
  · exact hs.nack
  · exact .ite hs.nack <| .ite hs.updI3c.count <| .ite hs.updI3c.updSes.finishClosing hs.updI3c

theorem ibiRequest : Answered s (execIbiRequest s) := by
  unfold execIbiRequest; exact .done fun hs => .ite hs hs.updI3c

theorem devStore {sess tag : Nat} : Answered s (execDevStore sess tag s) := by
  unfold execDevStore; exact .done fun hs => hs.direct fun _ _ ht => ht.store

theorem storeRun {sess : Nat} : Answered s (execStoreRun sess s) := by
  unfold execStoreRun
  extract_lets
  refine .done fun hs => ?_
  split
  · exact hs
  · exact .ite hs <| hs.withMram.updSes.foldl fun _ _ ht => ht.finish

theorem openSegmentReceive {p : Nat} : Answered s (execOpenSegmentReceive p s) := by
  unfold execOpenSegmentReceive
  extract_lets
  refine .done fun hs => ?_
  split
  · exact hs
  · extract_lets _ _ s1
    have h1 : Sound s1 := hs.rxPop.dropOpen
    exact .ite h1.count h1.withOpens

theorem openReassemblyTimeout {srcIp srcUdp : Nat} : Answered s (execOpenReassemblyTimeout srcIp srcUdp s) := by
  unfold execOpenReassemblyTimeout
  refine .done fun hs => ?_
  split
  · exact hs
  · exact .ite hs hs.dropOpen.count

theorem openSession {o : OpenInfo} : Answered s (execOpenSession o s) := by
  unfold execOpenSession
  extract_lets
  refine .done fun hs => ?_
  split
  · exact hs
  · exact .ite hs <| .ite hs.dropOpen.withOpenTimes.count hs.dropOpen.withOpenTimes.serveOpen

theorem rtoExpiry {f seq : Nat} : Answered s (execRtoExpiry f seq s) := by
  unfold execRtoExpiry
  refine .done fun hs => ?_
  split
  · exact hs
  · exact .ite hs <| .ite (hs.endSession.ite hs.loseFrame) hs.updFlow.reRead

/-! ### The commands of Machine/Security.lean -/

theorem secAnchorWrite {sess tag v : Nat} : Answered s (execSecAnchorWrite sess tag v s) := by
  unfold execSecAnchorWrite; exact .done fun hs => hs.direct fun _ _ ht => ht.anchorWrite

theorem secAnchorInstall {sess tag role slot : Nat} {parses p384 ca selfSigned : Bool} :
    Answered s (execSecAnchorInstall sess tag role slot parses p384 ca selfSigned s) := by
  unfold execSecAnchorInstall; exact .done fun hs => hs.direct fun _ _ ht => ht.anchorInstall

theorem secAnchorRemove {sess tag slot : Nat} : Answered s (execSecAnchorRemove sess tag slot s) := by
  unfold execSecAnchorRemove; exact .done fun hs => hs.direct fun _ _ ht => ht.anchorRemove

theorem secProvision {sess tag v : Nat} : Answered s (execSecProvision sess tag v s) := by
  unfold execSecProvision; exact .done fun hs => .ite (hs.direct fun _ _ ht => ht.provision) <| hs.arrive fun _ ht => ht.respond

theorem secAttestCmd {sess tag v : Nat} : Answered s (execSecAttestCmd sess tag v s) := by
  unfold execSecAttestCmd; exact .done fun hs => hs.direct fun _ _ ht => ht.attest

theorem attestDone {sess : Nat} : Answered s (execAttestDone sess s) := by
  unfold execAttestDone
  extract_lets
  refine .done fun hs => ?_
  split
  · exact hs
  · exact (hs.updSec.foldl fun _ _ ht => ht.wr).wr.finish

/-! ### The commands of Machine/Resets.lean -/

theorem logSnapshot : Answered s (execLogSnapshot s) := by
  unfold execLogSnapshot; exact .done fun hs => hs.when fun _ ht => ht.snapLog

theorem rstactEngine : Answered s (execRstactEngine s) := by
  unfold execRstactEngine; exact .done fun hs => .ite hs hs.engineReset

theorem diagReset {sess tag v : Nat} : Answered s (execDiagReset sess tag v s) := by
  unfold execDiagReset; exact .done fun hs => hs.direct fun _ _ ht => ht.diagReset

theorem watchdog : Answered s (execWatchdog s) := by
  unfold execWatchdog; exact .done fun hs => .ite hs.watchdog hs

/-! ### The commands of Machine/Update.lean -/

theorem updLockTake {sess tag : Nat} : Answered s (execUpdLockTake sess tag s) := by
  unfold execUpdLockTake; exact .done fun hs => hs.updWrite fun _ _ ht => ht.updLock

theorem updLockRelease {sess tag : Nat} : Answered s (execUpdLockRelease sess tag s) := by
  unfold execUpdLockRelease; exact .done fun hs => hs.updWrite fun _ _ ht => ht.updLock

theorem updLockIdleTimeout : Answered s (execUpdLockIdleTimeout s) := by
  unfold execUpdLockIdleTimeout; exact .done fun hs => hs.when fun _ ht => ht.updUnlock

theorem updLength {sess tag v : Nat} : Answered s (execUpdLength sess tag v s) := by
  unfold execUpdLength; exact .done fun hs => hs.updWrite fun _ _ ht => ht.updLength

theorem updOffsetWrite {sess tag v : Nat} : Answered s (execUpdOffsetWrite sess tag v s) := by
  unfold execUpdOffsetWrite; exact .done fun hs => hs.updWrite fun _ _ ht => ht.updOffset

theorem updData {sess tag v : Nat} : Answered s (execUpdData sess tag v s) := by
  unfold execUpdData; exact .done fun hs => hs.updWrite fun _ _ ht => ht.updData

theorem updVerify {sess tag v : Nat} : Answered s (execUpdVerify sess tag v s) := by
  unfold execUpdVerify; exact .done fun hs => hs.updWrite fun _ _ ht => ht.updVerify

theorem updVerifyDone {signatureOk : Bool} : Answered s (execUpdVerifyDone signatureOk s) := by
  unfold execUpdVerifyDone; exact .done fun hs => .ite hs <| .ite hs.updUpd.wrAll.updFinish hs.wrAll.updFinish

theorem updActivateHandover {sess tag : Nat} : Answered s (execUpdActivateHandover sess tag s) := by
  unfold execUpdActivateHandover; exact .done fun hs => hs.updWrite fun _ _ ht => ht.updActivate

theorem updActivateRestart {sess tag : Nat} : Answered s (execUpdActivateRestart sess tag s) := by
  unfold execUpdActivateRestart; exact .done fun hs => hs.updWrite fun _ _ ht => ht.updActivate

theorem journalClose : Answered s (execJournalClose s) := by
  unfold execJournalClose
  refine .done fun hs => ?_
  split
  · exact hs
  · extract_lets _ _ s1
    have h1 : Sound s1 := hs.updUpd.count.wrAll
    exact .ite hs <| .ite h1.updUpd.wr h1.engineReset

theorem updMramFail {page : Nat} : Answered s (execUpdMramFail page s) := by
  unfold execUpdMramFail
  exact .done fun hs => .ite hs <|
    .ite hs.event.wr.updFinish.updUnlock.wrAll (hs.event.wr.snapLog.ite hs.event.wr).faultMessage.restart.updStart.enterLoader

theorem stateHandoverComplete {ms : Nat} {checksOk : Bool} : Answered s (execStateHandoverComplete ms checksOk s) := by
  unfold execStateHandoverComplete
  exact .done fun hs => .ite hs <| .ite hs.wr.failProbation hs.updUpd.runImage.adoptFormats.wrAll.updDiscard.updFinish

theorem updConfirm {sess tag v : Nat} : Answered s (execUpdConfirm sess tag v s) := by
  unfold execUpdConfirm; exact .done fun hs => hs.direct fun _ _ ht => ht.updConfirm

theorem probationFail {code : Nat} : Answered s (execProbationFail code s) := by
  unfold execProbationFail; exact .done fun hs => hs.when fun _ ht => ht.failProbation

theorem loaderTwinFetch {linkUp twinSends : Bool} {i : ImageInfo} : Answered s (execLoaderTwinFetch linkUp twinSends i s) := by
  unfold execLoaderTwinFetch; exact .done fun hs => .ite hs <| .ite hs.imageNeeded <| .ite hs.wr.imageNeeded hs.wr.openJournal

theorem twinImageRequest : Answered s (execTwinImageRequest s) := by
  unfold execTwinImageRequest; exact .done fun hs => .ite hs hs.updTwin

/-! ### The commands of Machine/Twin.lean -/

theorem twinSenseRise : Answered s (execTwinSenseRise s) := by
  unfold execTwinSenseRise; exact .done fun hs => hs.wr.twinBringUp

theorem tenonLaneTrained {lane : Nat} : Answered s (execTenonLaneTrained lane s) := by
  unfold execTenonLaneTrained; exact .done fun hs => .ite hs hs.wr

theorem tenonLaneDrop {lane : Nat} : Answered s (execTenonLaneDrop lane s) := by
  unfold execTenonLaneDrop; exact .done fun hs => .ite hs hs.wr

theorem tenonHello {p : PeerHello} : Answered s (execTenonHello p s) := by
  unfold execTenonHello; exact .done fun hs => .ite hs <| .ite hs.settleRoles hs.wrAll

theorem heartbeatLoss : Answered s (execHeartbeatLoss s) := by
  unfold execHeartbeatLoss; exact .done fun hs => .ite hs <| .ite hs.wrAll.yield hs.declare

theorem twinYield : Answered s (execTwinYield s) := by
  unfold execTwinYield; exact .done fun hs => .ite hs.yield hs

theorem twinFaultMessage {cause : Nat} : Answered s (execTwinFaultMessage cause s) := by
  unfold execTwinFaultMessage; exact .done fun hs => .ite hs <| .ite hs.declare hs.declare

theorem twinSenseFall : Answered s (execTwinSenseFall s) := by
  unfold execTwinSenseFall; exact .done fun hs => .ite hs.wrAll.declare <| .ite hs.wrAll.updTwin <| .ite hs.wrAll.wrAll hs.wrAll

theorem takeoverGuardEnd : Answered s (execTakeoverGuardEnd s) := by
  unfold execTakeoverGuardEnd
  refine .done fun hs => ?_
  split
  · exact .ite hs hs.updTwin
  · exact hs

theorem heartbeatSend : Answered s (execHeartbeatSend s) := by
  unfold execHeartbeatSend; exact .done fun hs => .ite hs hs.updTwin

theorem heartbeatReceive {ready : Bool} {cseq : Nat} {sense : Bool} {sinceNs peerState : Nat} {floors : List Nat} :
    Answered s (execHeartbeatReceive ready cseq sense sinceNs peerState floors s) := by
  unfold execHeartbeatReceive
  extract_lets _ _ _ s1
  have h1 : Sound s → Sound s1 := fun hs => hs.updTwin.wrAll.setFloors
  exact .done fun hs => .ite hs <| .ite (h1 hs).peerIs (h1 hs)

theorem logEntryAck {f seq tries : Nat} : Answered s (execLogEntryAck f seq tries s) := by
  unfold execLogEntryAck
  refine .done fun hs => ?_
  split
  · exact hs
  · exact hs.updTwin.updFlow.wr

theorem logAckTimeout : Answered s (execLogAckTimeout s) := by
  unfold execLogAckTimeout; exact .done fun hs => .ite hs.declare hs

theorem takeover : Answered s (execTakeover s) := by
  unfold execTakeover
  refine .done fun hs => ?_
  split
  · exact hs.takeOver
  · exact hs

theorem substRetx {f seq : Nat} : Answered s (execSubstRetx f seq s) := by
  unfold execSubstRetx
  refine .done fun hs => ?_
  refine .ite ?_ hs.updTwin
  split
  · exact hs
  · split
    · exact hs
    · exact .ite hs hs.sendFrame.count

theorem twinHandoverCmd {sess tag : Nat} : Answered s (execTwinHandoverCmd sess tag s) := by
  unfold execTwinHandoverCmd; exact .done fun hs => hs.direct fun _ _ ht => ht.twinCmd

theorem twinDetachCmd {sess tag : Nat} : Answered s (execTwinDetachCmd sess tag s) := by
  unfold execTwinDetachCmd; exact .done fun hs => hs.direct fun _ _ ht => ht.twinCmd

theorem twinHandoverAt : Answered s (execTwinHandoverAt s) := by
  unfold execTwinHandoverAt
  refine .done fun hs => ?_
  split
  · exact hs
  · exact .ite hs <| .ite hs.handOver hs.abandonHandover

theorem twinDetachAt : Answered s (execTwinDetachAt s) := by
  unfold execTwinDetachAt
  refine .done fun hs => ?_
  split
  · exact .ite hs hs.detach
  · exact .ite hs.detach hs

theorem twinEnableFalse {sess tag : Nat} : Answered s (execTwinEnableFalse sess tag s) := by
  unfold execTwinEnableFalse; exact .done fun hs => hs.direct fun _ _ ht => ht.twinOff

theorem standbySnapshotApply {js : Nat} {vals owners : List (Nat × Nat)} {clockEqual : Bool} :
    Answered s (execStandbySnapshotApply js vals owners clockEqual s) := by
  unfold execStandbySnapshotApply
  exact .done fun hs => .ite (hs.updTwin.ite hs) <| .ite hs <| .ite hs.wr <| .ite hs.wr <| .ite hs.wr hs.takeSnapshot

theorem standbyReady : Answered s (execStandbyReady s) := by
  unfold execStandbyReady; exact .done fun hs => .ite hs.peerIs <| .ite hs hs.wrAll.updTwin.showMatch

/-! ### The commands of Machine/Power.lean -/

theorem coreVoltageAdjust {slice slack : Nat} {above8For20us : Bool} {iinMa : Nat} :
    Answered s (execCoreVoltageAdjust slice slack above8For20us iinMa s) := by
  unfold execCoreVoltageAdjust; exact .done fun hs => .ite hs hs.wr.wr.noteSlack.noteTrouble

theorem thermEmergBegin {sensor : Nat} {temp : Int} : Answered s (execThermEmergBegin sensor temp s) := by
  unfold execThermEmergBegin; exact .done fun hs => .ite hs hs.wrI.showTj.wr.updPwr.count.event.noteTrouble

theorem thermEmergClear {temps : List Int} : Answered s (execThermEmergClear temps s) := by
  unfold execThermEmergClear; exact .done fun hs => .ite hs (hs.noteTrouble.foldl fun _ _ ht => ht.wrI).showTj.wr.updPwr

theorem pwrReqService {sess tag : Nat} : Answered s (execPwrReqService sess tag s) := by
  unfold execPwrReqService; exact .done fun hs => hs.direct fun _ _ ht => ht.pwrRequest

theorem pwrReqHold {sess tag : Nat} : Answered s (execPwrReqHold sess tag s) := by
  unfold execPwrReqHold; exact .done fun hs => hs.direct fun _ _ ht => ht.pwrRequest

theorem pwrReqWatch {sess tag : Nat} : Answered s (execPwrReqWatch sess tag s) := by
  unfold execPwrReqWatch; exact .done fun hs => hs.direct fun _ _ ht => ht.pwrRequest

theorem pwrReqDormant {sess tag : Nat} : Answered s (execPwrReqDormant sess tag s) := by
  unfold execPwrReqDormant; exact .done fun hs => hs.direct fun _ _ ht => ht.pwrRequest

theorem handshakeDeferExpiry {row : Nat} : Answered s (execHandshakeDeferExpiry row s) := by
  unfold execHandshakeDeferExpiry
  refine .done fun hs => ?_
  split
  · exact hs
  · refine hs.ite ?_
    split
    next eq => exact (hs.ask.of_eq eq).handshakeEnd
    next eq => exact (hs.ask.of_eq eq).refuseEntry.startNext

theorem pwrSuspend : Answered s (execPwrSuspend s) := by
  unfold execPwrSuspend; exact .done fun hs => .ite hs.suspend hs

theorem pwrDrainEnd : Answered s (execPwrDrainEnd s) := by
  unfold execPwrDrainEnd; exact .done fun hs => .ite hs.unitsStopped <| .ite hs.drained hs

theorem pwrDomainsDone : Answered s (execPwrDomainsDone s) := by
  unfold execPwrDomainsDone
  refine .done fun hs => hs.reachLow.updPwr.pwrEnd.startNext.ite (.ite ?_ hs)
  split
  · exact hs
  next t eq =>
    have ht : Sound t := hs.domainsBack eq
    split
    · exact ht.setY
    · exact ht.pwrEnd.updPwr.setY.ite ht.pwrEnd.updPwr.beginS4.wr

theorem pwrResume : Answered s (execPwrResume s) := by
  unfold execPwrResume; exact .done fun hs => .ite hs <| .ite hs.resume.pwrEnd.startNext hs.resume.updPwr.startNext

theorem forcedDormant {cause arg : Nat} : Answered s (execForcedDormant cause arg s) := by
  unfold execForcedDormant; exact .done fun hs => .ite hs <| .ite hs.event.force hs.event.failOver.force

theorem wakeN : Answered s (execWakeN s) := by
  unfold execWakeN; exact .done fun hs => hs.wakeTakes

theorem wakeTimer : Answered s (execWakeTimer s) := by
  unfold execWakeTimer; exact .done fun hs => .ite hs hs.updPwr.wakeTakes

theorem wakeTrigIn {pin : Nat} : Answered s (execWakeTrigIn pin s) := by
  unfold execWakeTrigIn; exact .done fun hs => .ite hs hs.wakeTakes

theorem watchBurstStart {w : Nat} : Answered s (execWatchBurstStart w s) := by
  unfold execWatchBurstStart; exact .done fun hs => .ite hs <| .ite hs.updProgram.count hs.updProgram.updProgram.wr

theorem watchBurstEnd {w : Nat} {hit : Option (Nat × Nat)} : Answered s (execWatchBurstEnd w hit s) := by
  unfold execWatchBurstEnd
  extract_lets
  refine .done fun hs => ?_
  split
  · exact hs
  · extract_lets s1
    have h1 : Sound s1 := by
      unfold s1
      split
      · exact hs.updProgram.watchHit.updPwr
      · exact hs.updProgram
    exact .ite hs <| .ite h1.updPwr.wakeTakes h1

/-! ### The commands of Machine/Startup.lean -/

theorem vauxValid : Answered s (execVauxValid s) := by
  unfold execVauxValid; exact .done fun hs => .ite hs hs.updStart.wrAll

theorem pvinValid {addrSel : Nat} {tj : Int} : Answered s (execPvinValid addrSel tj s) := by
  unfold execPvinValid; exact .done fun hs => .ite hs <| .ite hs.updStart.wr hs.updStart.enterP1

theorem railsInRegulation : Answered s (execRailsInRegulation s) := by
  unfold execRailsInRegulation; exact .done fun hs => .ite hs hs.sliceVoltages.enterP2

theorem resetNFall : Answered s (execResetNFall s) := by
  unfold execResetNFall; exact .done fun hs => .ite hs <| .ite hs.updStart (hs.snapLog.ite hs).faultMessage.restart.updStart

theorem resetNRise {addrSel : Nat} : Answered s (execResetNRise addrSel s) := by
  unfold execResetNRise
  exact .done fun hs => .ite hs <| .ite hs.updStart.enterP1.sliceVoltages.enterP2 <| .ite hs.updStart.enterP1 hs.updStart

theorem vauxLoss : Answered s (execVauxLoss s) := by
  unfold execVauxLoss; exact .done fun hs => .ite hs hs.restart.updStart

theorem undervoltageShutdown : Answered s (execUndervoltageShutdown s) := by
  unfold execUndervoltageShutdown; exact .done fun hs => .ite hs hs.faultMessage.supplyReset.updStart

theorem thermalTrip : Answered s (execThermalTrip s) := by
  unfold execThermalTrip; exact .done fun hs => .ite hs.supplyReset hs

theorem imageLoaded {hashOk : Bool} : Answered s (execImageLoaded hashOk s) := by
  unfold execImageLoaded; exact .done fun hs => .ite hs <| .ite hs.enterLoader hs.runImage.updStart.wr

theorem controlSetReady {passed : Bool} : Answered s (execControlSetReady passed s) := by
  unfold execControlSetReady; exact .done fun hs => .ite hs <| .ite hs.controlReady hs.updStart.wr

theorem selfTestEnd {slices channels ports lanes : List Nat} {master stopBank dsi : Bool} {planes : List Nat} {remapKib lostKib : Nat} :
    Answered s (execSelfTestEnd slices channels ports lanes master stopBank dsi planes remapKib lostKib s) := by
  unfold execSelfTestEnd
  extract_lets _ _ _ _ s1 s2 s3
  have h1 : Sound s → Sound s1 := fun hs => ((hs.fenceSlices.foldl fun _ _ ht => ht.fenceChannel).foldl
    fun _ _ ht => ht.fencePort).wr.foldl fun _ _ ht => ht.fenceOther.wr.unitFenced
  have h2 : Sound s → Sound s2 := fun hs => .ite (h1 hs).masterFails (h1 hs)
  have h3 : Sound s → Sound s3 := fun hs => .ite (h2 hs).fenceOther.showPlumb.unitFenced (h2 hs)
  exact .done fun hs => .ite hs ((h3 hs).fenceOther.unitFenced.ite (h3 hs)).wr.loseSram.setFloors.enterP6

theorem ready {failedGroups : List Nat} : Answered s (execReady failedGroups s) := by
  unfold execReady; exact .done fun hs => .ite hs hs.becomeReady

theorem startSlow : Answered s (execStartSlow s) := by
  unfold execStartSlow; exact .done fun hs => .ite hs hs.updStart.event

theorem tokenCheckFailure {slice src seq : Nat} : Answered s (execTokenCheckFailure slice src seq s) := by
  unfold execTokenCheckFailure; exact .done fun hs => .ite hs hs.updStart.event

theorem sliceFail {slice : Nat} {noHandshake : Bool} : Answered s (execSliceFail slice noHandshake s) := by
  unfold execSliceFail; exact .done fun hs => .ite hs hs.failSlice

theorem diagAlertAck {sess tag v : Nat} : Answered s (execDiagAlertAck sess tag v s) := by
  unfold execDiagAlertAck; exact .done fun hs => hs.direct fun _ _ ht => ht.alertAck

theorem tickLimitJoint : Answered s (execTickLimitJoint s) := by
  unfold execTickLimitJoint; exact .done fun hs => .ite hs hs.disableAll

/-! ### The commands of Machine/Dictionary.lean -/

theorem dictRead {sess tag idx sub view nwords : Nat} : Answered s (execDictRead sess tag idx sub view nwords s) := by
  unfold execDictRead
  extract_lets
  refine .done fun hs => ?_
  refine hs.popRequest.arrive fun _ ht => ?_
  split
  · exact ht.respond
  · exact ht.serveRead

theorem dictWrite {sess tag idx sub : Nat} {words : List Nat} : Answered s (execDictWrite sess tag idx sub words s) := by
  unfold execDictWrite; exact .done fun hs => hs.popRequest.serveWrite

/-! ### The commands of Machine/Mirror.lean -/

theorem mirrorItem {m : MirrorItem} : Answered s (execMirrorItem m s) := by
  unfold execMirrorItem; exact .done fun hs => .ite hs <| .ite hs.notOffered.showMatch (hs.count.ite hs).applyItem.showMatch

end Answered

/-- Every command is answered by `done`, and keeps the invariant. -/
theorem exec_answered (i : Instr) (s : State) : Answered s (exec i s) := by
  cases i <;> dsimp only [exec]
  case converterBlockEntry => exact .converterBlockEntry
  case floorScaleUpdate => exact .floorScaleUpdate
  case convCalCmd => exact .convCalCmd
  case convCalAll => exact .convCalAll
  case boardPathSkewCmd => exact .boardPathSkewCmd
  case boardPathSkewDone => exact .boardPathSkewDone
  case calIntervalEnd => exact .calIntervalEnd
  case calSetStored => exact .calSetStored
  case trackingUpdate => exact .trackingUpdate
  case syncAlignCmd => exact .syncAlignCmd
  case syncModeOff => exact .syncModeOff
  case syncModeCheck => exact .syncModeCheck
  case syncCheckBoundary => exact .syncCheckBoundary
  case convPathDelayWrite => exact .convPathDelayWrite
  case tunerSampleRelease => exact .tunerSampleRelease
  case tunerJoint => exact .tunerJoint
  case tunerEnableJoint => exact .tunerEnableJoint
  case frameDispatch => exact .frameDispatch
  case frameRelease => exact .frameRelease
  case frameStagingSkip => exact .frameStagingSkip
  case contextJoint => exact .contextJoint
  case xfmUwinWrite => exact .xfmUwinWrite
  case productPeriodRelease => exact .productPeriodRelease
  case detHoldClear => exact .detHoldClear
  case detectorJoint => exact .detectorJoint
  case trigInEdge => exact .trigInEdge
  case trigTimeEvent => exact .trigTimeEvent
  case twinMarkReceive => exact .twinMarkReceive
  case trigSrcForce => exact .trigSrcForce
  case seqPosition => exact .seqPosition
  case trigTimerExpiry => exact .trigTimerExpiry
  case trigSeqRearm => exact .trigSeqRearm
  case triggerJoint => exact .triggerJoint
  case groupResolve => exact .groupResolve
  case trigGrpArm => exact .trigGrpArm
  case trigGrpDisarm => exact .trigGrpDisarm
  case trigOutLaunch => exact .trigOutLaunch
  case trigOutPulseEnd => exact .trigOutPulseEnd
  case trigOutModeWrite => exact .trigOutModeWrite
  case trigMaskSegsWrite => exact .trigMaskSegsWrite
  case trigMaskWrite => exact .trigMaskWrite
  case trigCapArm => exact .trigCapArm
  case captureFillEnd => exact .captureFillEnd
  case captureSegmentRead => exact .captureSegmentRead
  case columnSetApply => exact .columnSetApply
  case planeBoundary => exact .planeBoundary
  case harvestReadDone => exact .harvestReadDone
  case crysClear => exact .crysClear
  case crysHarvCmd => exact .crysHarvCmd
  case histLineWrite => exact .histLineWrite
  case histRingJoint => exact .histRingJoint
  case reservoirRequestServe => exact .reservoirRequestServe
  case refreshDue => exact .refreshDue
  case pchPowerDown => exact .pchPowerDown
  case pchRetrain => exact .pchRetrain
  case scrub => exact .scrub
  case reservoirTrainingDone => exact .reservoirTrainingDone
  case rsvRplStart => exact .rsvRplStart
  case rsvRplAbort => exact .rsvRplAbort
  case replayRead => exact .replayRead
  case moveClaim => exact .moveClaim
  case moveRelease => exact .moveRelease
  case moveDescWrite => exact .moveDescWrite
  case moveStart => exact .moveStart
  case moveHalt => exact .moveHalt
  case moveRetry => exact .moveRetry
  case moveSkip => exact .moveSkip
  case moveAbort => exact .moveAbort
  case moveResume => exact .moveResume
  case descriptorComplete => exact .descriptorComplete
  case beatError => exact .beatError
  case portConfigWrite => exact .portConfigWrite
  case portLinkUp => exact .portLinkUp
  case portLinkDown => exact .portLinkDown
  case arpRequest => exact .arpRequest
  case ndSolicitation => exact .ndSolicitation
  case frameReceive => exact .frameReceive
  case frameClose => exact .frameClose
  case flowFlushTimer => exact .flowFlushTimer
  case frameTransmit => exact .frameTransmit
  case ackReceive => exact .ackReceive
  case rtoExpiry => exact .rtoExpiry
  case flowStall => exact .flowStall
  case receiveFlowData => exact .receiveFlowData
  case receiveFlowAckTimer => exact .receiveFlowAckTimer
  case flowClaim => exact .flowClaim
  case flowRelease => exact .flowRelease
  case flowEnableJoint => exact .flowEnableJoint
  case flowDisableJoint => exact .flowDisableJoint
  case flowDrainEnd => exact .flowDrainEnd
  case openSegmentReceive => exact .openSegmentReceive
  case openReassemblyTimeout => exact .openReassemblyTimeout
  case openSession => exact .openSession
  case closeFrame => exact .closeFrame
  case scanLineSend => exact .scanLineSend
  case scanCrcCheck => exact .scanCrcCheck
  case layerBufferRelease => exact .layerBufferRelease
  case scanLClaim => exact .scanLClaim
  case scanLRelease => exact .scanLRelease
  case scanLPalWrite => exact .scanLPalWrite
  case refPresenceChange => exact .refPresenceChange
  case holdoverTrim => exact .holdoverTrim
  case clkRefSelWrite => exact .clkRefSelWrite
  case clkChangeCmd => exact .clkChangeCmd
  case clkChangeResume => exact .clkChangeResume
  case clkOutDivWrite => exact .clkOutDivWrite
  case clkTest => exact .clkTest
  case clkTestDone => exact .clkTestDone
  case plmbClaim => exact .plmbClaim
  case plmbRelease => exact .plmbRelease
  case plmbEdge => exact .plmbEdge
  case plmbResNext => exact .plmbResNext
  case cntPoint => exact .cntPoint
  case ppsInEdge => exact .ppsInEdge
  case plmbTodNext => exact .plmbTodNext
  case ptpMessageReceive => exact .ptpMessageReceive
  case plmbConvTickWrite => exact .plmbConvTickWrite
  case i3cDynamicAddress => exact .i3cDynamicAddress
  case i3cCommonCommand => exact .i3cCommonCommand
  case i3cPrivateWrite => exact .i3cPrivateWrite
  case i3cPrivateRead => exact .i3cPrivateRead
  case hello => exact .hello
  case dictRead => exact .dictRead
  case dictWrite => exact .dictWrite
  case close => exact .close
  case sessionIdleTimeout => exact .sessionIdleTimeout
  case devSessEnd => exact .devSessEnd
  case sessionEndJoint => exact .sessionEndJoint
  case devCommit => exact .devCommit
  case commitValidated => exact .commitValidated
  case devCommitValidate => exact .devCommitValidate
  case devCommitDiscard => exact .devCommitDiscard
  case swapComplete => exact .swapComplete
  case devStore => exact .devStore
  case storeRun => exact .storeRun
  case secAnchorWrite => exact .secAnchorWrite
  case secAnchorInstall => exact .secAnchorInstall
  case secAnchorRemove => exact .secAnchorRemove
  case secProvision => exact .secProvision
  case secAttestCmd => exact .secAttestCmd
  case attestDone => exact .attestDone
  case custodySegmentClose => exact .custodySegmentClose
  case tenonLaneTrained => exact .tenonLaneTrained
  case tenonHello => exact .tenonHello
  case tenonLaneDrop => exact .tenonLaneDrop
  case mirrorItem => exact .mirrorItem
  case logEntryAck => exact .logEntryAck
  case heartbeatReceive => exact .heartbeatReceive
  case twinFaultMessage => exact .twinFaultMessage
  case substRetx => exact .substRetx
  case twinHandoverCmd => exact .twinHandoverCmd
  case twinDetachCmd => exact .twinDetachCmd
  case twinEnableFalse => exact .twinEnableFalse
  case standbySnapshotApply => exact .standbySnapshotApply
  case updLockTake => exact .updLockTake
  case updLockRelease => exact .updLockRelease
  case updLength => exact .updLength
  case updOffsetWrite => exact .updOffsetWrite
  case updData => exact .updData
  case updVerify => exact .updVerify
  case updVerifyDone => exact .updVerifyDone
  case updActivateHandover => exact .updActivateHandover
  case updActivateRestart => exact .updActivateRestart
  case updMramFail => exact .updMramFail
  case stateHandoverComplete => exact .stateHandoverComplete
  case updConfirm => exact .updConfirm
  case probationFail => exact .probationFail
  case loaderTwinFetch => exact .loaderTwinFetch
  case pwrReqService => exact .pwrReqService
  case pwrReqHold => exact .pwrReqHold
  case pwrReqWatch => exact .pwrReqWatch
  case pwrReqDormant => exact .pwrReqDormant
  case handshakeDeferExpiry => exact .handshakeDeferExpiry
  case forcedDormant => exact .forcedDormant
  case coreVoltageAdjust => exact .coreVoltageAdjust
  case thermEmergBegin => exact .thermEmergBegin
  case thermEmergClear => exact .thermEmergClear
  case wakeTrigIn => exact .wakeTrigIn
  case watchBurstStart => exact .watchBurstStart
  case watchBurstEnd => exact .watchBurstEnd
  case pvinValid => exact .pvinValid
  case imageLoaded => exact .imageLoaded
  case controlSetReady => exact .controlSetReady
  case selfTestEnd => exact .selfTestEnd
  case ready => exact .ready
  case resetNRise => exact .resetNRise
  case diagReset => exact .diagReset
  case sliceFail => exact .sliceFail
  case diagAlertAck => exact .diagAlertAck
  case convJoint => exact .convJoint
  case moveBufferJoint => exact .moveBufferJoint
  case tokenCheckFailure => exact .tokenCheckFailure
  case snapshotReceipt => exact .snapshotReceipt
  case snapshotReceiptTimeout => exact .snapshotReceiptTimeout
  case forwardedAckReceive => exact .forwardedAckReceive
  case shedStep => exact .shedStep
  case shedRestore => exact .shedRestore
  case syncAlignEdge => exact .syncAlignEdge
  case syncAlignTimeout => exact .syncAlignTimeout
  case syncOutPulse => exact .syncOutPulse
  case timeAnchorEmit => exact .timeAnchorEmit
  case statusEmit => exact .statusEmit
  case scanLatch => exact .scanLatch
  case teInEdge => exact .teInEdge
  case scanTeTimeout => exact .scanTeTimeout
  case densityRenderDone => exact .densityRenderDone
  case refEdgeMiss => exact .refEdgeMiss
  case clkHoldLong => exact .clkHoldLong
  case pullInDone => exact .pullInDone
  case refRevert => exact .refRevert
  case masterLock => exact .masterLock
  case lockTimeout => exact .lockTimeout
  case masterUnlock => exact .masterUnlock
  case clkChangeGate => exact .clkChangeGate
  case plmbTimeStart => exact .plmbTimeStart
  case plmbMeasureClose => exact .plmbMeasureClose
  case plmbStopUnmatched => exact .plmbStopUnmatched
  case plumbJoint => exact .plumbJoint
  case cntGateEnd => exact .cntGateEnd
  case cntAbsent => exact .cntAbsent
  case ppsMiss => exact .ppsMiss
  case ppsOutRise => exact .ppsOutRise
  case ppsOutFall => exact .ppsOutFall
  case rstdaa => exact .rstdaa
  case rstactInterface => exact .rstactInterface
  case rstactEngine => exact .rstactEngine
  case ibiRequest => exact .ibiRequest
  case twinSenseRise => exact .twinSenseRise
  case twinSenseFall => exact .twinSenseFall
  case heartbeatLoss => exact .heartbeatLoss
  case logAckTimeout => exact .logAckTimeout
  case twinYield => exact .twinYield
  case takeoverGuardEnd => exact .takeoverGuardEnd
  case takeover => exact .takeover
  case twinHandoverAt => exact .twinHandoverAt
  case twinDetachAt => exact .twinDetachAt
  case standbyReady => exact .standbyReady
  case updLockIdleTimeout => exact .updLockIdleTimeout
  case journalClose => exact .journalClose
  case twinImageRequest => exact .twinImageRequest
  case pwrSuspend => exact .pwrSuspend
  case pwrDrainEnd => exact .pwrDrainEnd
  case pwrDomainsDone => exact .pwrDomainsDone
  case pwrResume => exact .pwrResume
  case undervoltageShutdown => exact .undervoltageShutdown
  case thermalTrip => exact .thermalTrip
  case wakeN => exact .wakeN
  case wakeTimer => exact .wakeTimer
  case vauxValid => exact .vauxValid
  case railsInRegulation => exact .railsInRegulation
  case startSlow => exact .startSlow
  case resetNFall => exact .resetNFall
  case vauxLoss => exact .vauxLoss
  case watchdog => exact .watchdog
  case logSnapshot => exact .logSnapshot
  case tickLimitJoint => exact .tickLimitJoint
  case heartbeatSend => exact .heartbeatSend

/-- A command keeps the invariant. -/
theorem exec_sound {i : Instr} {s t : State} (hs : Sound s) (h : exec i s = .next t) : Sound t := by
  obtain ⟨u, hu, e⟩ := exec_answered i s
  rw [e] at h
  obtain rfl := Host.Outcome.next.inj h
  exact (hu hs).withWallPending

/-- A command leaves the queue of waiting commands as it is. -/
theorem exec_pending {i : Instr} {s t : State} (h : exec i s = .next t) : t.pending = s.pending := by
  obtain ⟨u, _, e⟩ := exec_answered i s
  rw [e] at h
  obtain rfl := Host.Outcome.next.inj h
  rfl

/-- A step keeps the invariant: a command does, and so does a converter period that passes on an empty queue. -/
theorem step_sound {s t : State} (hs : Sound s) (h : step s = .next t) : Sound t := by
  unfold step at h
  split at h
  · obtain rfl := Host.Outcome.next.inj h
    exact hs.idle
  next rest _ => exact exec_sound (hs.withPending (x := rest)) h

theorem fabricTakes_pending (s : State) (ch : Nat) : (s.fabricTakes ch).pending = s.pending := by
  unfold State.fabricTakes
  split
  · rfl
  · dsimp only
    split <;> rfl

theorem noteTrouble_pending (s : State) : s.noteTrouble.pending = s.pending := by
  unfold State.noteTrouble
  split <;> rfl

theorem idle_pending (s : State) : s.idle.pending = s.pending := by
  unfold State.idle
  dsimp only
  rw [State.foldl_same State.pending State.fabricTakes fabricTakes_pending, noteTrouble_pending]

/-- The queue after a step is what waited behind its front. -/
theorem step_pending {s t : State} (h : step s = .next t) : t.pending = s.pending.tail := by
  unfold step at h
  split at h
  next e =>
    obtain rfl := Host.Outcome.next.inj h
    rw [idle_pending, e]
    rfl
  next e => rw [exec_pending h, e]; rfl

/-- Settles O60: a step keeps the units and the stores, and takes commands from the queue only. -/
theorem stepKeepsInvariant : Obligations.StepKeepsInvariant := by
  intro s t hd hst hp h
  obtain ⟨htd, htst⟩ := step_sound ⟨hd, hst⟩ h
  refine ⟨htd, htst, fun c hc => hp c ?_⟩
  rw [step_pending h] at hc
  exact List.mem_of_mem_tail hc

/-! ## Reset -/

/-- At reset no value is listed: every object reads its default. -/
theorem reset_rd (k : Nat) : State.reset.rd k = dflt k := rfl

/-- The default of an object that is no identity value is its table's. -/
theorem dflt_of_row {k : Nat} {r : Row} (hr : keyRow k = some r) (hi : identityDefault (k % 2 ^ 24 / 256) (k % 256) = none) :
    dflt k = r.dflt := by
  unfold dflt
  rw [hi, hr]

theorem reset_ses {i : Nat} (h : i < 8) : State.reset.ses i = {} := by
  show (List.replicate 8 ({} : Sess)).getD i default = {}
  rw [List.getD_replicate _ h]

/-- Settles O58: the stores are empty at reset, so everything read is a default of the tables. -/
theorem resetValues : Obligations.ResetValues := by
  unfold Obligations.ResetValues
  refine ⟨fun k _ hr hi => (reset_rd k).trans (dflt_of_row hr hi), fun _ => rfl, fun _ _ => rfl, fun i hi => ?_, rfl, rfl, rfl, rfl, ?_⟩
  · rw [reset_ses hi]
    exact ⟨rfl, rfl, rfl⟩
  · decide

/-- Settles O59: the lists of a state at reset have their full lengths and its stores and its queue are empty. -/
theorem resetInvariant : Obligations.ResetInvariant := by
  refine ⟨?_, ⟨rfl, rfl, rfl⟩, fun _ hc => absurd hc List.not_mem_nil⟩
  simp only [State.Sized, State.dims, State.reset, List.length_replicate, List.length_map, List.length_range]

end Sys2Proof.Machine

/-! ## What commits and shedding share

One lemma per operation says what it leaves unchanged and what the objects it writes read; the proofs of O49, O50 and O27
cite these. -/

namespace Sys2Proof.Machine

/- The row is compiled as one text under a fixed memory limit, and each declaration elaborated beside others takes a thread with a
stack of its own: those below are elaborated one after another. -/
set_option Elab.async false

/-- A command whose effect leaves the clock and the queue alone answers that effect. -/
theorem done_eq {s t : State} (hw : t.wall = s.wall) (hp : t.pending = s.pending) : done s t = .next t := by
  unfold done; rw [← hw, ← hp]

theorem sk_inj {i a b : Nat} : sk i a = sk i b ↔ a = b := by unfold sk; omega

/-- A session's copies of different objects are different objects. -/
theorem sk_mem_map {i a : Nat} {l : List Nat} : sk i a ∈ l.map (sk i) ↔ a ∈ l :=
  List.mem_map_of_injective fun _ _ => sk_inj.mp

namespace State

variable (s : State)

theorem rd_wrAll_other {l : List (Nat × Nat)} {q : Nat} (h : q ∉ l.map Prod.fst) : (s.wrAll l).rd q = s.rd q := by
  have hn : (l.reverse.find? fun p => p.1 == q) = none := by
    simp only [List.find?_eq_none, List.mem_reverse, beq_iff_eq]
    exact fun p hp e => h (e ▸ List.mem_map_of_mem hp)
  rw [rd_wrAll, hn]; rfl

/-! ### Sessions' records -/

theorem ses_of_sess {s t : State} (h : t.sess = s.sess) (j : Nat) : t.ses j = s.ses j := by unfold ses; rw [h]

/-- A change that gives a session's record back is none. -/
theorem updSes_self {i : Nat} {f : Sess → Sess} (h : f (s.ses i) = s.ses i) : s.updSes i f = s := by
  have hl : s.sess.modify i f = s.sess := by
    refine List.ext_getElem? fun j => ?_
    rw [List.getElem?_modify]
    by_cases e : i = j
    · subst e
      cases hj : s.sess[i]? with
      | none => rfl
      | some x =>
        have hx : s.ses i = x := by unfold ses at'; rw [List.getD_eq_getElem?_getD, hj]; rfl
        simp [← hx, h]
    · simp [e]
  unfold updSes; rw [hl]

/-- The final answer of a request that is outstanding: one frame more, its tag free, and no other session's record changed. -/
theorem finish_ses {s : State} {r : Req} (st : Status) (d : Nat) (h : s.live r = true) (j : Nat) :
    (s.finish r st d).ses j = if j = r.sess then
      { s.ses j with
        txq := if (s.ses j).mirror then (s.ses j).txq else (s.ses j).txq ++ [reply r.tag r.key st d], tags := (s.ses j).tags.erase r.tag }
    else s.ses j := by
  have hl : r.sess < s.sess.length := by
    simp only [live, Bool.and_eq_true] at h
    exact ses_lt h.1.1
  unfold finish answer respond queue
  rw [if_pos h]
  by_cases hm : (s.ses r.sess).mirror = true
  · rw [if_pos hm, ses_updSes]
    by_cases hj : j = r.sess
    · subst hj; simp [hl, hm]
    · simp [hj]
  · rw [if_neg hm, ses_updSes, ses_updSes, ses_updSes]
    by_cases hj : j = r.sess
    · subst hj; simp [hl, hm, reply]
    · simp [hj]

theorem finish_dead {s : State} {r : Req} (st : Status) (d : Nat) (h : s.live r = false) : s.finish r st d = s := by
  unfold finish; rw [h]; rfl

/-- What `finish` leaves of a session's record. -/
theorem finish_ses_fields (r : Req) (st : Status) (d j : Nat) :
    ((s.finish r st d).ses j).isOpen = (s.ses j).isOpen ∧ ((s.finish r st d).ses j).inc = (s.ses j).inc ∧
      ((s.finish r st d).ses j).deferred = (s.ses j).deferred := by
  cases h : s.live r with
  | false => rw [finish_dead st d h]; exact ⟨rfl, rfl, rfl⟩
  | true => rw [finish_ses st d h]; split <;> exact ⟨rfl, rfl, rfl⟩

/-! ### Events that are no alert -/

theorem event_sess {c : Nat} (hc : c < 2) (i e a b d : Nat) : (s.event c i e a b d).sess = s.sess := by
  unfold event
  extract_lets r recent d' l t
  have ht : t.sess = s.sess := by unfold t; split <;> rfl
  rw [if_pos hc, ht]

theorem event_alerts {c : Nat} (hc : c < 2) (i e a b d : Nat) : (s.event c i e a b d).log.alerts = s.log.alerts := by
  unfold event
  extract_lets r recent d' l t
  have ht : t.log.alerts = s.log.alerts := by unfold t; split <;> rfl
  rw [if_pos hc, ht]

end State

/-! ## What a validation reports (R22, R29, R354) -/

/-- A session's objects that show the verdict on its commit. -/
def verdictKeys : List Nat := [Obj.DEV_COMMIT_REASON, Obj.DEV_COMMIT_OBJECT, Obj.DEV_COMMIT_QUOTA]

/-- Those that show the admission's result (R22). -/
def admissionKeys : List Nat :=
  [Obj.DEV_ADMIT_RESULT, Obj.DEV_ADMIT_RESOURCE, Obj.DEV_ADMIT_OBJECT, Obj.DEV_ADMIT_EXCESS, Obj.DEV_ADMIT_PORT]

/-- Those that show the loads with its staged values in place (R29). -/
def stagedLoadKeys : List Nat :=
  [Obj.DET_STORE_USED, Obj.DEV_LOAD_STG_BFLY, Obj.DEV_LOAD_STG_CELL, Obj.DEV_LOAD_STG_RSV, Obj.DEV_LOAD_STG_PORT, Obj.DEV_LOAD_STG_POOL]

namespace State

variable (s : State) (i : Nat) (v : Option Refused) (w : Swap)

theorem showVerdict_eq : s.showVerdict i v = s.wrAll [(sk i Obj.DEV_COMMIT_REASON, (v.map Refused.reason).getD 0),
    (sk i Obj.DEV_COMMIT_OBJECT, (v.map Refused.obj).getD 0), (sk i Obj.DEV_COMMIT_QUOTA, (v.map Refused.quota).getD 0)] := by
  cases v <;> rfl

@[simp] theorem showVerdict_rest : (s.showVerdict i v).rest = s.rest := by rw [showVerdict_eq, wrAll_rest]
@[simp] theorem showVerdict_log : (s.showVerdict i v).log = s.log := by rw [showVerdict_eq, wrAll_log]
@[simp] theorem showVerdict_sess : (s.showVerdict i v).sess = s.sess := by rw [showVerdict_eq, wrAll_sess]

theorem showVerdict_reason : (s.showVerdict i v).rd (sk i Obj.DEV_COMMIT_REASON) = (v.map Refused.reason).getD 0 := by
  rw [showVerdict_eq, rd_wrAll]; simp [sk_inj, Obj.DEV_COMMIT_REASON, Obj.DEV_COMMIT_OBJECT, Obj.DEV_COMMIT_QUOTA, key]

theorem showVerdict_object : (s.showVerdict i v).rd (sk i Obj.DEV_COMMIT_OBJECT) = (v.map Refused.obj).getD 0 := by
  rw [showVerdict_eq, rd_wrAll]; simp [sk_inj, Obj.DEV_COMMIT_OBJECT, Obj.DEV_COMMIT_QUOTA, key]

theorem showVerdict_rd {q : Nat} (h : q ∉ verdictKeys.map (sk i)) : (s.showVerdict i v).rd q = s.rd q := by
  rw [showVerdict_eq]; exact rd_wrAll_other s h

theorem showAdmission_eq : ∃ r o e p, s.showAdmission i v = s.wrAll [(sk i Obj.DEV_ADMIT_RESULT, if v.isNone then 1 else 2),
    (sk i Obj.DEV_ADMIT_RESOURCE, r), (sk i Obj.DEV_ADMIT_OBJECT, o), (sk i Obj.DEV_ADMIT_EXCESS, e), (sk i Obj.DEV_ADMIT_PORT, p)] :=
  ⟨_, _, _, _, rfl⟩

@[simp] theorem showAdmission_rest : (s.showAdmission i v).rest = s.rest := wrAll_rest ..
@[simp] theorem showAdmission_log : (s.showAdmission i v).log = s.log := wrAll_log ..
@[simp] theorem showAdmission_sess : (s.showAdmission i v).sess = s.sess := wrAll_sess ..

theorem showAdmission_result : (s.showAdmission i v).rd (sk i Obj.DEV_ADMIT_RESULT) = if v.isNone then 1 else 2 := by
  obtain ⟨r, o, e, p, h⟩ := showAdmission_eq s i v
  rw [h, rd_wrAll]
  simp [sk_inj, Obj.DEV_ADMIT_RESULT, Obj.DEV_ADMIT_RESOURCE, Obj.DEV_ADMIT_OBJECT, Obj.DEV_ADMIT_EXCESS, Obj.DEV_ADMIT_PORT, key]

theorem showAdmission_rd {q : Nat} (h : q ∉ admissionKeys.map (sk i)) : (s.showAdmission i v).rd q = s.rd q := by
  obtain ⟨r, o, e, p, hs⟩ := showAdmission_eq s i v
  rw [hs]; exact rd_wrAll_other s h

theorem showStagedLoads_eq : ∃ l, s.showStagedLoads w = (s.updSes w.sess fun x => { x with checked := w.vals }).wrAll l ∧
    l.map Prod.fst = stagedLoadKeys.map (sk w.sess) :=
  ⟨_, rfl, rfl⟩

@[simp] theorem showStagedLoads_rest : (s.showStagedLoads w).rest = s.rest := wrAll_rest ..
@[simp] theorem showStagedLoads_log : (s.showStagedLoads w).log = s.log := wrAll_log ..
theorem showStagedLoads_sess : (s.showStagedLoads w).sess = (s.updSes w.sess fun x => { x with checked := w.vals }).sess := wrAll_sess ..

theorem showStagedLoads_ses (j : Nat) :
    (s.showStagedLoads w).ses j = if j = w.sess ∧ w.sess < s.sess.length then { s.ses w.sess with checked := w.vals } else s.ses j := by
  rw [ses_of_sess (showStagedLoads_sess s w), ses_updSes]

theorem showStagedLoads_rd {q : Nat} (h : q ∉ stagedLoadKeys.map (sk w.sess)) : (s.showStagedLoads w).rd q = s.rd q := by
  obtain ⟨l, hs, hk⟩ := showStagedLoads_eq s w
  rw [hs, rd_wrAll_other _ (hk ▸ h)]; rfl

end State

/-! ## Swaps -/

/-- The committing session is still the one that asked. -/
theorem Swap.owner_open {s : State} {w : Swap} (ho : (s.ses w.sess).isOpen = true) (hi : (s.ses w.sess).inc = w.req.inc) :
    w.owner s = w.sess := by
  unfold Swap.owner; simp [ho, hi]

/-- An outstanding request's session is open, of the request's incarnation, and holds its tag. -/
theorem State.live_iff {s : State} {r : Req} :
    s.live r = true ↔ (s.ses r.sess).isOpen = true ∧ (s.ses r.sess).inc = r.inc ∧ r.tag ∈ (s.ses r.sess).tags := by
  simp [State.live, and_assoc]

theorem State.dropSwap_only {s : State} {w : Swap} (h : s.swaps = [w]) : (s.dropSwap w).swaps = [] := by simp [State.dropSwap, h]

/-- With no swap no group is busy. -/
theorem State.busyGroups_nil {s : State} (h : s.swaps = []) (i : Nat) : s.busyGroups i = 0 := by
  simp [State.busyGroups, State.swapHolds, h]

/-- With nothing held, the end of a swap only shows that nothing is (R353). -/
theorem State.enterDeferred_nil {s : State} {i : Nat} (h : (s.ses i).deferred = []) :
    s.enterDeferred i = s.wr (sk i Obj.DEV_DEFERRED) 0 := by
  have hu : (s.updSes i fun x => { x with deferred := [] }) = s := s.updSes_self (by rw [← h])
  unfold State.enterDeferred
  simp [h, hu]

/-! ## A refused commit (R24, R354, R450) -/

namespace State

/-- The session's objects that a refusal writes. -/
def refusedKeys : List Nat :=
  [Obj.DEV_COMMIT_STATE, Obj.DEV_COMMIT_REASON, Obj.DEV_COMMIT_OBJECT, Obj.DEV_COMMIT_QUOTA, Obj.DEV_LOAD_STG_BFLY, Obj.DEV_LOAD_STG_CELL,
    Obj.DEV_LOAD_STG_RSV, Obj.DEV_LOAD_STG_PORT, Obj.DEV_LOAD_STG_POOL, Obj.DET_STORE_USED, Obj.DEV_ADMIT_RESULT, Obj.DEV_ADMIT_RESOURCE,
    Obj.DEV_ADMIT_OBJECT, Obj.DEV_ADMIT_EXCESS, Obj.DEV_ADMIT_PORT, Obj.DEV_SCOPE_BUSY, Obj.DEV_DEFERRED]

/-- The report of a refusal: the verdict, the admission's result and the staged loads, after the entry in the event log. -/
def refusalReport (s : State) (w : Swap) (v : Refused) : State :=
  ((((s.dropSwap w).event 0 w.sess 0x0B00 w.sess v.reason v.obj).showVerdict w.sess (some v)).showAdmission w.sess (some v)).showStagedLoads w

variable {s : State} {w : Swap} {v : Refused}

theorem refusalReport_rest : (s.refusalReport w v).rest = { s.rest with swaps := (s.dropSwap w).swaps } := by
  unfold refusalReport; simp [dropSwap_rest]

theorem refusalReport_ses (j : Nat) :
    (s.refusalReport w v).ses j = if j = w.sess ∧ w.sess < s.sess.length then { s.ses w.sess with checked := w.vals } else s.ses j := by
  have hs : (((((s.dropSwap w).event 0 w.sess 0x0B00 w.sess v.reason v.obj).showVerdict w.sess (some v)).showAdmission w.sess (some v))).sess
      = s.sess := by
    rw [showAdmission_sess, showVerdict_sess, event_sess _ (by decide), dropSwap_sess]
  unfold refusalReport
  rw [showStagedLoads_ses, hs, ses_of_sess hs, ses_of_sess hs]

/-- Where a refused commit's session is still there and holds no writes, the refusal is its report, the answer and a free scope. -/
theorem refuse_eq (ho : w.owner s = w.sess) (hd : (s.ses w.sess).deferred = []) :
    s.refuse w v = ((((s.refusalReport w v).wr (sk w.sess Obj.DEV_COMMIT_STATE) 4).finish w.req .refusedCommit).wr
      (sk w.sess Obj.DEV_DEFERRED) 0).showBusy w.sess := by
  have hd' : ((((s.refusalReport w v).wr (sk w.sess Obj.DEV_COMMIT_STATE) 4).finish w.req .refusedCommit).ses w.sess).deferred = [] := by
    rw [(finish_ses_fields _ _ _ _ _).2.2, wr_ses, refusalReport_ses]
    split <;> exact hd
  rw [← enterDeferred_nil hd']
  unfold refuse refusalReport
  simp [ho]

/-- Objects outside `refusedKeys` and the event log's read as before. -/
theorem refusalReport_rd {q : Nat} (h : q ∉ refusedKeys.map (sk w.sess)) (he : eventKey q = false) : (s.refusalReport w v).rd q = s.rd q := by
  have sub {l : List Nat} (hl : l ⊆ refusedKeys) : q ∉ l.map (sk w.sess) := fun hq => h (List.map_subset _ hl hq)
  unfold refusalReport
  rw [showStagedLoads_rd _ _ (sub (by decide)), showAdmission_rd _ _ _ (sub (by decide)), showVerdict_rd _ _ _ (sub (by decide)),
    event_rd _ _ _ _ _ _ _ _ he]
  rfl

/-- The verdict's and the admission's objects after the report. -/
theorem refusalReport_values : (s.refusalReport w v).rd (sk w.sess Obj.DEV_COMMIT_REASON) = v.reason ∧
    (s.refusalReport w v).rd (sk w.sess Obj.DEV_COMMIT_OBJECT) = v.obj ∧ (s.refusalReport w v).rd (sk w.sess Obj.DEV_ADMIT_RESULT) = 2 := by
  have hne {k : Nat} {l : List Nat} (h : k ∉ l) : sk w.sess k ∉ l.map (sk w.sess) := fun hk => h (sk_mem_map.mp hk)
  unfold refusalReport
  refine ⟨?_, ?_, ?_⟩
  · rw [showStagedLoads_rd _ _ (hne (by decide)), showAdmission_rd _ _ _ (hne (by decide)), showVerdict_reason]; rfl
  · rw [showStagedLoads_rd _ _ (hne (by decide)), showAdmission_rd _ _ _ (hne (by decide)), showVerdict_object]; rfl
  · rw [showStagedLoads_rd _ _ (hne (by decide)), showAdmission_result]; rfl

end State

/-- COMMIT_VALIDATED of the only swap, which its session's validation is (R23): it is refused by the first check that fails, or let in. -/
theorem exec_commitValidated_some {s : State} {w : Swap} {v : Refused} (hw : s.swaps = [w]) (hv : w.validating = true)
    (h : s.verdict w = some v) : exec (.commitValidated w.sess) s = done s (s.refuse w v) := by
  show execCommitValidated w.sess s = _
  unfold execCommitValidated
  simp [hw, hv, h]

theorem exec_commitValidated_none {s : State} {w : Swap} (hw : s.swaps = [w]) (hv : w.validating = true)
    (h : s.verdict w = none) : exec (.commitValidated w.sess) s = done s (s.letIn w) := by
  show execCommitValidated w.sess s = _
  unfold execCommitValidated
  simp [hw, hv, h]

/-- Settles O49: the refusal is `refuse_eq`, whose parts are the report, the answer and the free scope; none of them touches a
committed or a staged value. -/
theorem refusedCommits : Obligations.RefusedCommits := by
  unfold Obligations.RefusedCommits
  intro s w v hsz hw hlive hsess h8 hval hverdict hdef hmir
  obtain ⟨hopen, hinc, -⟩ := State.live_iff.mp hlive
  rw [hsess] at hopen hinc
  have heq := State.refuse_eq (v := v) (Swap.owner_open hopen hinc) hdef
  have hrest : (s.refuse w v).rest = { s.rest with swaps := [] } := by
    rw [heq]
    unfold State.showBusy
    rw [State.wr_rest, State.wr_rest, State.finish_rest, State.wr_rest, State.refusalReport_rest, State.dropSwap_only hw]
  have hlive' : ((s.refusalReport w v).wr (sk w.sess Obj.DEV_COMMIT_STATE) 4).live w.req = true := by
    rw [State.live_iff] at hlive ⊢
    rw [State.wr_ses, State.refusalReport_ses]
    split
    next e => rw [← e.1]; exact hlive
    next => exact hlive
  have hrd (q : Nat) (hq : q ≠ sk w.sess Obj.DEV_SCOPE_BUSY) (hq' : q ≠ sk w.sess Obj.DEV_DEFERRED) :
      (s.refuse w v).rd q = ((s.refusalReport w v).wr (sk w.sess Obj.DEV_COMMIT_STATE) 4).rd q := by
    rw [heq]; unfold State.showBusy
    rw [State.rd_wr_other _ _ _ _ hq, State.rd_wr_other _ _ _ _ hq', State.finish_rd]
  have hk {a b : Nat} (h : a ≠ b) : sk w.sess a ≠ sk w.sess b := fun e => h (sk_inj.mp e)
  obtain ⟨hreason, hobj, hadm⟩ := State.refusalReport_values (s := s) (w := w) (v := v)
  refine ⟨s.refuse w v, ?_, ?_, ?_, ?_, ?_, ?_, (congrArg State.swaps hrest :),
    (congrArg State.com hrest :), (congrArg State.staged hrest :), hrest, ?_⟩
  · rw [exec_commitValidated_some hw hval hverdict]
    exact done_eq (congrArg State.wall hrest :) (congrArg State.pending hrest :)
  · rw [hrd _ (hk (by decide)) (hk (by decide)), State.rd_wr_same]
  · rw [hrd _ (hk (by decide)) (hk (by decide)), State.rd_wr_other _ _ _ _ (hk (by decide)), hreason]
  · rw [hrd _ (hk (by decide)) (hk (by decide)), State.rd_wr_other _ _ _ _ (hk (by decide)), hobj]
  · rw [hrd _ (hk (by decide)) (hk (by decide)), State.rd_wr_other _ _ _ _ (hk (by decide)), hadm]
  · rw [heq]
    unfold State.showBusy
    rw [State.wr_ses, State.wr_ses, State.finish_ses _ _ hlive', if_pos hsess.symm, State.wr_ses, State.refusalReport_ses]
    split <;> simp [hmir]
  · intro q hq he
    have hq' : q ∉ State.refusedKeys.map (sk w.sess) := hq
    have hn {k : Nat} (h : k ∈ State.refusedKeys) : q ≠ sk w.sess k := fun e => hq' (e ▸ List.mem_map_of_mem h)
    rw [hrd q (hn (by decide)) (hn (by decide)), State.rd_wr_other _ _ _ _ (hn (by decide)), State.refusalReport_rd hq' he]

/-! ## Commits (R23, R349 to R355, R386): O50 -/

/-! ### Staged values -/

theorem Mem.erase_eq_filter (m : Mem) (k : Nat) : m.erase k = m.filter fun p => p.1 != k := by
  induction m with
  | nil => rfl
  | cons p m ih =>
    obtain ⟨a, v⟩ := p
    by_cases h : a = k <;> simp [Mem.erase, h, ih]

namespace State

/-- Clearing a session's keys one by one leaves the entries of every other key. -/
theorem foldl_clear (i : Nat) (p : Nat → Bool) (l : List (Nat × Nat)) (m : Mem) :
    l.foldl (fun (m : Mem) kv => if p kv.1 then m.set zeroDflt (sk i kv.1) 0 else m) m =
      m.filter fun e => !(l.any fun kv => p kv.1 && e.1 == sk i kv.1) := by
  induction l generalizing m with
  | nil => simp
  | cons a l ih =>
    rw [List.foldl_cons, ih]
    cases hp : p a.1 with
    | false => simp [hp]
    | true =>
      have hs : m.set zeroDflt (sk i a.1) 0 = m.filter fun e => e.1 != sk i a.1 := Mem.erase_eq_filter m _
      rw [if_pos rfl, hs, List.filter_filter]
      refine List.filter_congr fun e _ => ?_
      simp [hp, Bool.and_comm, bne]

/-- Dropping staged values removes the session's entries that the test names. -/
theorem dropStaged_staged (s : State) (i : Nat) (p : Nat → Bool) :
    (s.dropStaged i p).staged = s.staged.filter fun e => !(e.1 / 2 ^ 24 == i && p (e.1 % 2 ^ 24)) := by
  unfold dropStaged
  rw [foldl_clear]
  refine List.filter_congr fun e he => congrArg _ ?_
  rw [Bool.eq_iff_iff]
  simp only [List.any_eq_true, Bool.and_eq_true, beq_iff_eq, stagedOf, List.mem_map, List.mem_filter, sk]
  constructor
  · rintro ⟨kv, ⟨x, ⟨-, -⟩, rfl⟩, hp, hk⟩
    have hd : e.1 / 2 ^ 24 = i := by omega
    have hm : e.1 % 2 ^ 24 = x.1 % 2 ^ 24 := by omega
    exact ⟨hd, by rw [hm]; exact hp⟩
  · rintro ⟨hd, hp⟩
    exact ⟨(e.1 % 2 ^ 24, e.2 - 1), ⟨e, ⟨he, hd⟩, rfl⟩, hp, by dsimp only; omega⟩

/-- The session's staged values after a drop are those that the test does not name. -/
theorem dropStaged_stagedOf (s : State) (i : Nat) (p : Nat → Bool) :
    (s.dropStaged i p).stagedOf i = (s.stagedOf i).filter fun q => !p q.1 := by
  unfold stagedOf
  rw [dropStaged_staged, List.filter_filter, List.filter_map, List.filter_filter]
  congr 1
  refine List.filter_congr fun e _ => ?_
  show ((e.1 / 2 ^ 24 == i) && !((e.1 / 2 ^ 24 == i) && p (e.1 % 2 ^ 24))) = (!p (e.1 % 2 ^ 24) && (e.1 / 2 ^ 24 == i))
  cases e.1 / 2 ^ 24 == i <;> cases p (e.1 % 2 ^ 24) <;> rfl

theorem stagedOf_congr {s t : State} (h : t.staged = s.staged) (i : Nat) : t.stagedOf i = s.stagedOf i := by unfold stagedOf; rw [h]

/-- Of everything but the dictionary, a change of a table's staged entries changes tables alone. -/
theorem stageLoad_frame (s : State) (i : Nat) (f : Mem → Mem) :
    (s.stageLoad i f).rest = { s.rest with loads := (s.stageLoad i f).loads } ∧ (s.stageLoad i f).sess = s.sess ∧
      (s.stageLoad i f).log = s.log := by
  unfold stageLoad showLoad showUwin
  split
  · exact ⟨rfl, rfl, rfl⟩
  · split <;> exact ⟨rfl, rfl, rfl⟩

theorem unstageLoads_frame (s : State) (p : UnitId → Bool) :
    ∃ l, (s.unstageLoads p).rest = { s.rest with loads := l } ∧ (s.unstageLoads p).sess = s.sess ∧ (s.unstageLoads p).log = s.log := by
  refine List.foldlRecOn (motive := fun t : State => ∃ l, t.rest = { s.rest with loads := l } ∧ t.sess = s.sess ∧ t.log = s.log) _ _
    ⟨s.loads, rfl, rfl, rfl⟩ fun t ⟨l, hr, hs, hl⟩ i _ => ?_
  extract_lets u
  split
  · obtain ⟨hr', hs', hl'⟩ := stageLoad_frame t i fun _ => (t.load i).com
    exact ⟨_, by rw [hr', hr], hs'.trans hs, hl'.trans hl⟩
  · exact ⟨l, hr, hs, hl⟩

/-- A discard empties the scope of the session's staging (R355) and changes no committed value, no swap and no session. -/
theorem discard_facts (s : State) (i g : Nat) :
    (s.discard i g).stagedOf i = (s.stagedOf i).filter (fun p => !bitOf g (groupOf p.1)) ∧ (s.discard i g).com = s.com ∧
      (s.discard i g).swaps = s.swaps ∧ (s.discard i g).sess = s.sess ∧ (s.discard i g).log = s.log ∧
      (s.discard i g).wall = s.wall ∧ (s.discard i g).pending = s.pending := by
  unfold discard
  extract_lets inScope mine s1 s2
  obtain ⟨l, hrest, hsess, hlog⟩ : ∃ l, s1.rest = { s.rest with loads := l } ∧ s1.sess = s.sess ∧ s1.log = s.log := unstageLoads_frame s _
  refine ⟨?_, (congrArg State.com hrest :), (congrArg State.swaps hrest :), hsess, hlog, (congrArg State.wall hrest :),
    (congrArg State.pending hrest :)⟩
  have hs2 : s2.stagedOf i = (s.stagedOf i).filter fun q => !inScope q.1 := by
    rw [← stagedOf_congr (show s1.staged = s.staged from (congrArg State.staged hrest :))]
    exact dropStaged_stagedOf s1 i inScope
  exact hs2

/-! ### A session that has just been heard -/

theorem hear_fields (s : State) (i j : Nat) :
    ((s.hear i).ses j).inc = (s.ses j).inc ∧ ((s.hear i).ses j).deferred = (s.ses j).deferred := by
  unfold hear; rw [ses_updSes]
  split
  next e => rw [e.1]; exact ⟨rfl, rfl⟩
  next => exact ⟨rfl, rfl⟩

theorem busyGroups_hear (s : State) (i j : Nat) : (s.hear i).busyGroups j = s.busyGroups j := by
  have h (g : Nat) : (s.hear i).swapHolds j g = s.swapHolds j g := by unfold swapHolds; rw [(hear_fields s i j).1]; rfl
  unfold busyGroups; simp only [h]

theorem validating_hear (s : State) (i j : Nat) : (s.hear i).validating j = s.validating j := by
  unfold validating; rw [(hear_fields s i j).1]; rfl

theorem scopeOf_hear (s : State) (i j : Nat) : (s.hear i).scopeOf j = s.scopeOf j := by
  unfold scopeOf; rw [(hear_fields s i j).2]; rfl

/-! ### DEV_COMMIT (R350, R353, R355) -/

theorem replied.told {s t : State} {i g k : Nat} {st : Status} (h : s.replied t i g k st) : s.told t i g k st :=
  ⟨congrArg Sess.txq h.1, h.2⟩

/-- A commit that is open takes a snapshot, reports itself and is accepted (R350). -/
theorem commit_eq {s : State} {r : Req} {g : Nat} (hc : s.commitClosed = false) (hv : s.validating r.sess = false)
    (hg : s.scopeOf r.sess = g) (h9 : bitOf g 9 = false) (hb : Nat.land g (s.busyGroups r.sess) = 0) :
    s.commit r = ((({ s with swaps := s.swaps ++ [s.snapshot r g], swapId := s.swapId + 1, commits := s.commits + 1 } : State).wrAll
      [(sk r.sess Obj.DEV_COMMIT_STATE, 1), (sk r.sess Obj.DEV_COMMIT_SEQ, s.commits % 2 ^ 32), (sk r.sess Obj.DEV_JOINT_SERVED, s.tick)]).accept
        r).showBusy r.sess := by
  unfold commit
  simp only [hc, hv, hg, h9, hb, Bool.or_self, Bool.false_eq_true, ite_false, bne_self_eq_false, Bool.false_and]
  rfl

/-- The clause of R350: a commit takes a snapshot of its scope and is ACCEPTED. -/
theorem devCommit_accepted {s : State} {i tag g : Nat} (hs : s.serves i tag Obj.DEV_COMMIT 1 = true) (hc : s.commitClosed = false)
    (hv : s.validating i = false) (hg : s.scopeOf i = g) (h9 : bitOf g 9 = false) (hb : Nat.land g (s.busyGroups i) = 0) :
    ∃ t, exec (.devCommit i tag) s = .next t ∧ s.pended t i tag Obj.DEV_COMMIT ∧ t.rd (sk i Obj.DEV_COMMIT_STATE) = 1 ∧
      t.rd (sk i Obj.DEV_COMMIT_SEQ) = s.commits % 2 ^ 32 ∧ t.rd (sk i Obj.DEV_JOINT_SERVED) = s.tick ∧
      t.rd (sk i Obj.DEV_SCOPE_BUSY) = t.busyGroups i ∧
      (∃ w, t.swaps = s.swaps ++ [w] ∧ w.req = s.req i tag Obj.DEV_COMMIT ∧ w.sess = i ∧ w.validating = true ∧ w.groups = g ∧
        w.served = s.tick ∧ w.reqTick = s.rd (sk i Obj.DEV_JOINT_AT) ∧ w.seq = s.commits % 2 ^ 32 ∧
        w.vals = (s.stagedOf i).filter fun p => bitOf g (groupOf p.1) && (loadOf p.1).isNone) ∧
      t.rest = { s.rest with swaps := t.swaps, swapId := s.swapId + 1, commits := s.commits + 1 } ∧ t.log = s.log ∧
      s.only t [sk i Obj.DEV_COMMIT_STATE, sk i Obj.DEV_COMMIT_SEQ, sk i Obj.DEV_JOINT_SERVED, sk i Obj.DEV_SCOPE_BUSY] := by
  let r : Req := ⟨i, (s.ses i).inc, tag, Obj.DEV_COMMIT⟩
  let w := (s.hear i).snapshot r g
  let x : State := ({ s.hear i with swaps := s.swaps ++ [w], swapId := s.swapId + 1, commits := s.commits + 1 } : State).wrAll
    [(sk i Obj.DEV_COMMIT_STATE, 1), (sk i Obj.DEV_COMMIT_SEQ, s.commits % 2 ^ 32), (sk i Obj.DEV_JOINT_SERVED, s.tick)]
  have heq : (s.hear i).commit r = (x.accept r).showBusy i :=
    commit_eq hc (by rw [validating_hear]; exact hv) (by rw [scopeOf_hear]; exact hg) h9 (by rw [busyGroups_hear]; exact hb)
  have hx : x.rest = { s.rest with swaps := s.swaps ++ [w], swapId := s.swapId + 1, commits := s.commits + 1 } := wrAll_rest ..
  have hrest : ((x.accept r).showBusy i).rest = { s.rest with swaps := s.swaps ++ [w], swapId := s.swapId + 1, commits := s.commits + 1 } := by
    unfold showBusy; rw [wr_rest, accept_rest, hx]
  have hswaps : ((x.accept r).showBusy i).swaps = s.swaps ++ [w] := (congrArg State.swaps hrest :)
  have hrd (q : Nat) (hq : q ≠ sk i Obj.DEV_SCOPE_BUSY) : ((x.accept r).showBusy i).rd q = x.rd q := by
    unfold showBusy; rw [rd_wr_other _ _ _ _ hq, accept_rd]
  have hk {a b : Nat} (h : a ≠ b) : sk i a ≠ sk i b := fun e => h (sk_inj.mp e)
  refine ⟨(x.accept r).showBusy i, ?_, ?_, ?_, ?_, ?_, ?_, ⟨w, hswaps, rfl, rfl, rfl, rfl, rfl, rfl, rfl, ?_⟩, ?_, ?_, ?_⟩
  · show done s (s.direct i tag Obj.DEV_COMMIT 1 fun r s => s.commit r) = _
    rw [direct_serves _ hs, heq]
    exact done_eq (congrArg State.wall hrest :) (congrArg State.pending hrest :)
  · simp only [serves, Bool.and_eq_true] at hs
    exact pended_accept (t := x) hs.1 _ (wrAll_sess ..)
  · rw [hrd _ (hk (by decide)), rd_wrAll]
    simp [sk_inj, Obj.DEV_COMMIT_STATE, Obj.DEV_COMMIT_SEQ, Obj.DEV_JOINT_SERVED, key]
  · rw [hrd _ (hk (by decide)), rd_wrAll]
    simp [sk_inj, Obj.DEV_COMMIT_SEQ, Obj.DEV_JOINT_SERVED, key]
  · rw [hrd _ (hk (by decide)), rd_wrAll]
    simp
  · exact rd_wr_same ..
  · show ((s.stagedOf i).filter fun p => bitOf g (groupOf p.1)).filter (fun p => (loadOf p.1).isNone) = _
    rw [List.filter_filter]
    exact List.filter_congr fun _ _ => Bool.and_comm ..
  · rw [hswaps]; exact hrest
  · show ((x.accept r).showBusy i).log = _
    unfold showBusy; rw [wr_log, accept_log, wrAll_log]; rfl
  · intro q hq
    simp only [List.mem_cons, List.not_mem_nil, or_false, not_or] at hq
    obtain ⟨h1, h2, h3, h4⟩ := hq
    rw [hrd q h4, rd_wrAll_other _ (by simp [h1, h2, h3])]
    rfl

/-- Outside READY and SERVICE a commit is answered BUSY (R437). -/
theorem devCommit_busy {s : State} {i tag : Nat} (hs : s.serves i tag Obj.DEV_COMMIT 1 = true) (h2 : s.rd Obj.DEV_STATE ≠ 2)
    (h3 : s.rd Obj.DEV_STATE ≠ 3) :
    ∃ t, exec (.devCommit i tag) s = .next t ∧ s.replied t i tag Obj.DEV_COMMIT .busy ∧ s.keeps t [] := by
  have hc : (s.hear i).commitClosed = true := by simp [commitClosed, h2, h3]
  refine ⟨(s.hear i).answer ⟨i, (s.ses i).inc, tag, Obj.DEV_COMMIT⟩ .busy, ?_, ?_, ?_⟩
  · show done s (s.direct i tag Obj.DEV_COMMIT 1 fun r s => s.commit r) = _
    rw [direct_serves _ hs]
    unfold commit
    rw [hc, Bool.true_or, if_pos rfl]
    have hr : ((s.hear i).answer ⟨i, (s.ses i).inc, tag, Obj.DEV_COMMIT⟩ .busy).rest = s.rest := by rw [answer_rest]; rfl
    exact done_eq (congrArg State.wall hr :) (congrArg State.pending hr :)
  · simp only [serves, Bool.and_eq_true] at hs
    exact replied_answer _ hs.1 _ rfl
  · exact ⟨fun q _ => by rw [answer_rd]; rfl, by rw [answer_rest]; rfl, by rw [answer_log]; rfl⟩

/-- What a validation shows of a snapshot: the verdict and the staged loads. -/
def showChecked (s : State) (w : Swap) : State := (s.showVerdict w.sess (s.verdict w)).showStagedLoads w

/-- The session's objects that it writes. -/
def checkedKeys : List Nat :=
  [Obj.DEV_COMMIT_REASON, Obj.DEV_COMMIT_OBJECT, Obj.DEV_COMMIT_QUOTA, Obj.DEV_LOAD_STG_BFLY, Obj.DEV_LOAD_STG_CELL, Obj.DEV_LOAD_STG_RSV,
    Obj.DEV_LOAD_STG_PORT, Obj.DEV_LOAD_STG_POOL, Obj.DET_STORE_USED]

@[simp] theorem showChecked_rest (s : State) (w : Swap) : (s.showChecked w).rest = s.rest := by
  unfold showChecked; rw [showStagedLoads_rest, showVerdict_rest]

@[simp] theorem showChecked_log (s : State) (w : Swap) : (s.showChecked w).log = s.log := by
  unfold showChecked; rw [showStagedLoads_log, showVerdict_log]

theorem showChecked_sess (s : State) (w : Swap) : (s.showChecked w).sess = (s.updSes w.sess fun x => { x with checked := w.vals }).sess := by
  unfold showChecked; rw [showStagedLoads_sess, updSes_sess, showVerdict_sess, updSes_sess]

theorem showChecked_rd (s : State) (w : Swap) {q : Nat} (h : q ∉ checkedKeys.map (sk w.sess)) : (s.showChecked w).rd q = s.rd q := by
  have sub {l : List Nat} (hl : l ⊆ checkedKeys) : q ∉ l.map (sk w.sess) := fun hq => h (List.map_subset _ hl hq)
  unfold showChecked
  rw [showStagedLoads_rd _ _ (sub (by decide)), showVerdict_rd _ _ _ (sub (by decide))]

theorem showChecked_values (s : State) (w : Swap) :
    (s.showChecked w).rd (sk w.sess Obj.DEV_COMMIT_REASON) = ((s.verdict w).map Refused.reason).getD 0 ∧
      (s.showChecked w).rd (sk w.sess Obj.DEV_COMMIT_OBJECT) = ((s.verdict w).map Refused.obj).getD 0 := by
  have hne {k : Nat} {l : List Nat} (h : k ∉ l) : sk w.sess k ∉ l.map (sk w.sess) := fun hk => h (sk_mem_map.mp hk)
  unfold showChecked
  rw [showStagedLoads_rd _ _ (hne (by decide)), showStagedLoads_rd _ _ (hne (by decide)), showVerdict_reason, showVerdict_object]
  exact ⟨rfl, rfl⟩

/-- A validation that is open shows its verdict and answers by it. -/
theorem validateOnly_eq {s : State} {r : Req} (hc : s.commitClosed = false) (hv : s.validating r.sess = false)
    (hb : Nat.land (s.scopeOf r.sess) (s.busyGroups r.sess) = 0) :
    s.validateOnly r = (s.showChecked (s.snapshot r (s.scopeOf r.sess))).answer r
      (if (s.verdict (s.snapshot r (s.scopeOf r.sess))).isSome then .refusedCommit else .ok) := by
  unfold validateOnly showChecked
  simp only [hc, hv, hb, Bool.or_self, bne_self_eq_false, Bool.false_eq_true, ite_false]
  split <;> rfl

/-- A session that is heard, whose snapshot is recorded as checked, and that gets one frame: its record. -/
theorem checked_respond_ses {s x : State} {i tag k : Nat} {st : Status} {vals : List (Nat × Nat)} (ht : s.takes i tag = true)
    (hx : x.sess = ((s.hear i).updSes i fun y => { y with checked := vals }).sess) :
    (x.respond i tag k st).ses i =
        { s.ses i with heard := s.wall, checked := vals, txq := (s.ses i).txq ++ [reply tag k st] } ∧
      ∀ j, j ≠ i → (x.respond i tag k st).ses j = s.ses j := by
  have hl := ses_lt (takes_open ht)
  have hl' : i < (s.hear i).sess.length := by simpa [hear] using hl
  have hxl : i < x.sess.length := by rw [hx]; simpa [hear] using hl
  have hxi : x.ses i = { s.ses i with heard := s.wall, checked := vals } := by
    rw [ses_of_sess hx, ses_updSes, if_pos ⟨rfl, hl'⟩, hear_same hl]
  have hm : (x.ses i).mirror = false := by rw [hxi]; exact takes_mirror ht
  unfold respond
  rw [queue_plain _ _ hm]
  refine ⟨?_, fun j hj => ?_⟩
  · rw [ses_updSes, if_pos ⟨rfl, hxl⟩, hxi]; rfl
  · rw [ses_updSes, if_neg fun e => hj e.1, ses_of_sess hx, ses_updSes, if_neg fun e => hj e.1, hear_other _ hj]

/-- A validation changes nothing but its report (R355). -/
theorem devCommitValidate_reported {s : State} {i tag : Nat} (hs : s.serves i tag Obj.DEV_COMMIT 2 = true) (hc : s.commitClosed = false)
    (hv : s.validating i = false) (hb : Nat.land (s.scopeOf i) (s.busyGroups i) = 0) :
    ∃ t, exec (.devCommitValidate i tag) s = .next t ∧
      (∀ h w v, h = s.updSes i (fun x => { x with heard := s.wall }) → w = h.snapshot (s.req i tag Obj.DEV_COMMIT) (s.scopeOf i) →
        h.verdict w = v →
        t.ses i = { s.ses i with
          heard := s.wall, checked := w.vals
          txq := (s.ses i).txq ++ [reply tag Obj.DEV_COMMIT (if v.isSome then .refusedCommit else .ok)] } ∧
        (∀ j, j ≠ i → t.ses j = s.ses j) ∧
        t.rd (sk i Obj.DEV_COMMIT_REASON) = (v.map Refused.reason).getD 0 ∧ t.rd (sk i Obj.DEV_COMMIT_OBJECT) = (v.map Refused.obj).getD 0) ∧
      s.keeps t (checkedKeys.map (sk i)) := by
  have ht : s.takes i tag = true := by simp only [serves, Bool.and_eq_true] at hs; exact hs.1
  obtain ⟨w, hw⟩ : ∃ w, w = (s.hear i).snapshot (s.req i tag Obj.DEV_COMMIT) (s.scopeOf i) := ⟨_, rfl⟩
  have hwi : w.sess = i := by rw [hw]; rfl
  obtain ⟨st, hst⟩ : ∃ st, st = (if ((s.hear i).verdict w).isSome then Status.refusedCommit else Status.ok) := ⟨_, rfl⟩
  have heq : s.direct i tag Obj.DEV_COMMIT 2 (fun r s => s.validateOnly r) =
      ((s.hear i).showChecked w).respond i tag Obj.DEV_COMMIT st := by
    have hvo := validateOnly_eq (s := s.hear i) (r := s.req i tag Obj.DEV_COMMIT) hc ((validating_hear ..).trans hv)
      ((congrArg₂ _ (scopeOf_hear s i i) (busyGroups_hear s i i)).trans hb)
    rw [show (s.hear i).scopeOf (s.req i tag Obj.DEV_COMMIT).sess = s.scopeOf i from scopeOf_hear .., ← hw, ← hst] at hvo
    exact (direct_serves _ hs).trans hvo
  have hrest : (((s.hear i).showChecked w).respond i tag Obj.DEV_COMMIT st).rest = s.rest := by
    rw [respond_rest, showChecked_rest, hear_rest]
  obtain ⟨hreason, hobj⟩ := showChecked_values (s.hear i) w
  obtain ⟨hself, hother⟩ := checked_respond_ses (k := Obj.DEV_COMMIT) (st := st) (vals := w.vals) ht
    (hwi ▸ showChecked_sess (s.hear i) w)
  refine ⟨((s.hear i).showChecked w).respond i tag Obj.DEV_COMMIT st, ?_, ?_, fun q hq => ?_, hrest, ?_⟩
  · show done s (s.direct i tag Obj.DEV_COMMIT 2 fun r s => s.validateOnly r) = _
    rw [heq]
    exact done_eq (congrArg State.wall hrest :) (congrArg State.pending hrest :)
  · intro h w' v hh hw' hv'
    obtain rfl : h = s.hear i := hh
    obtain rfl : w' = w := hw'.trans hw.symm
    rw [hwi, hv'] at hreason hobj
    rw [hv'] at hst
    rw [respond_rd, respond_rd]
    exact ⟨hst ▸ hself, hother, hreason, hobj⟩
  · rw [respond_rd, showChecked_rd _ _ (hwi ▸ hq), hear_rd]
  · rw [respond_log, showChecked_log]; rfl

/-- A discard empties the scope's staging (R355). -/
theorem devCommitDiscard_emptied {s : State} {i tag : Nat} (hs : s.serves i tag Obj.DEV_COMMIT 3 = true) (hc : s.commitClosed = false)
    (hv : s.validating i = false) (hb : Nat.land (s.scopeOf i) (s.busyGroups i) = 0) :
    ∃ t, exec (.devCommitDiscard i tag) s = .next t ∧ s.told t i tag Obj.DEV_COMMIT .ok ∧
      t.stagedOf i = (s.stagedOf i).filter (fun p => !bitOf (s.scopeOf i) (groupOf p.1)) ∧
      t.com = s.com ∧ t.swaps = s.swaps ∧ t.log = s.log := by
  let r : Req := ⟨i, (s.ses i).inc, tag, Obj.DEV_COMMIT⟩
  let x := (s.hear i).discard i (s.scopeOf i)
  obtain ⟨hstaged, hcom, hswaps, hsess, hlog, hwall, hpend⟩ := discard_facts (s.hear i) i (s.scopeOf i)
  have heq : s.direct i tag Obj.DEV_COMMIT 3 (fun r s => s.discardScope r) = x.answer r .ok := by
    rw [direct_serves _ hs]
    unfold discardScope
    have hc' : (s.hear i).commitClosed = false := hc
    simp only [scopeOf_hear, validating_hear, busyGroups_hear, hc', hv, hb, Bool.or_self, bne_self_eq_false, Bool.false_eq_true, ite_false]
    rfl
  refine ⟨x.answer r .ok, ?_, ?_, ?_, ?_, ?_, ?_⟩
  · show done s (s.direct i tag Obj.DEV_COMMIT 3 fun r s => s.discardScope r) = _
    rw [heq]
    exact done_eq ((answer_wall ..).trans hwall) ((answer_pending ..).trans hpend)
  · simp only [serves, Bool.and_eq_true] at hs
    exact (replied_answer (t := x) .ok hs.1 _ hsess).told
  · exact (stagedOf_congr (answer_staged ..) i).trans hstaged
  · exact (answer_com ..).trans hcom
  · exact (answer_swaps ..).trans hswaps
  · exact (answer_log ..).trans hlog

end State

namespace State

/-! ### What an admitted commit puts in place (R342, R350) -/

theorem putCommitted_one (s : State) {w : Swap} {k v : Nat} (ht : w.tables = []) (hv : w.vals = [(k, v)]) :
    s.putCommitted w = (s.wrc k v).showUwin := by
  unfold putCommitted; rw [ht, hv]; rfl

theorem showUwin_rest (s : State) : s.showUwin.rest = s.rest := wr_rest ..
theorem showUwin_sess (s : State) : s.showUwin.sess = s.sess := wr_sess ..
theorem showUwin_log (s : State) : s.showUwin.log = s.log := wr_log ..
theorem showUwin_rd (s : State) {q : Nat} (h : q ≠ Obj.XFM_UWIN_USED) : s.showUwin.rd q = s.rd q := rd_wr_other _ _ _ _ h

theorem dropStaged_rest (s : State) (i : Nat) (p : Nat → Bool) :
    (s.dropStaged i p).rest = { s.rest with staged := (s.dropStaged i p).staged } := rfl
theorem dropStaged_sess (s : State) (i : Nat) (p : Nat → Bool) : (s.dropStaged i p).sess = s.sess := rfl
theorem dropStaged_log (s : State) (i : Nat) (p : Nat → Bool) : (s.dropStaged i p).log = s.log := rfl
theorem dropStaged_rd (s : State) (i : Nat) (p : Nat → Bool) (q : Nat) : (s.dropStaged i p).rd q = s.rd q := rfl

/-- Ownership is all that it settles. -/
theorem settleOwner_frame (s : State) (i : Nat) (u : UnitId) :
    (s.settleOwner i u).rest = { s.rest with owners := (s.settleOwner i u).owners } ∧ (s.settleOwner i u).obj = s.obj ∧
      (s.settleOwner i u).sess = s.sess ∧ (s.settleOwner i u).log = s.log := by
  unfold settleOwner
  split_ifs <;> exact ⟨rfl, rfl, rfl, rfl⟩

theorem settleOwners_frame (s : State) (w : Swap) (l : List UnitId) :
    ∃ o, (l.foldl (fun s u => s.settleOwner (w.owner s) u) s).rest = { s.rest with owners := o } ∧
      (l.foldl (fun s u => s.settleOwner (w.owner s) u) s).obj = s.obj ∧
      (l.foldl (fun s u => s.settleOwner (w.owner s) u) s).sess = s.sess ∧
      (l.foldl (fun s u => s.settleOwner (w.owner s) u) s).log = s.log := by
  refine List.foldlRecOn (motive := fun t : State => ∃ o, t.rest = { s.rest with owners := o } ∧ t.obj = s.obj ∧ t.sess = s.sess ∧
    t.log = s.log) _ _ ⟨s.owners, rfl, rfl, rfl, rfl⟩ fun t ⟨o, hr, ho, hs, hl⟩ u _ => ?_
  obtain ⟨hr', ho', hs', hl'⟩ := settleOwner_frame t (w.owner t) u
  exact ⟨_, by rw [hr', hr], ho'.trans ho, hs'.trans hs, hl'.trans hl⟩

/-- Small rings are placed: of everything but the dictionary, the Reservoir alone changes; of objects, the free pans. -/
theorem putSmalls_frame (s : State) :
    s.putSmalls.rest = { s.rest with rsv := s.putSmalls.rsv } ∧ s.putSmalls.sess = s.sess ∧ s.putSmalls.log = s.log ∧
      ∀ q, q ≠ Obj.RSV_PANS_FREE → s.putSmalls.rd q = s.rd q := by
  unfold putSmalls
  split
  · exact ⟨rfl, rfl, rfl, fun _ _ => rfl⟩
  · exact ⟨rfl, rfl, rfl, fun q hq => rd_wr_other _ _ _ _ hq⟩

/-- Objects that follow the committed configuration. -/
def loadKeys : List Nat :=
  [Obj.DEV_LOAD_BFLY, Obj.DEV_LOAD_CELL, Obj.DEV_LOAD_RSV, Obj.DEV_LOAD_PORT, Obj.DEV_LOAD_POOL] ++ (List.range 28).map Obj.DEV_PORT_LOAD ++
    (List.range 32).map Obj.XFM_LOAD ++ (List.range 32).map Obj.XFM_POOL ++ (List.range 8).map Obj.CRYS_LOAD ++ [Obj.TRIG_MARK_BUDGET_USED] ++
    (List.range 32).map Obj.DET_STORE_WORDS ++ [Obj.DET_STORE_ACTIVE] ++ (List.range 8).map fun x => sk x Obj.DET_STORE_USED

theorem wrAll_append (s : State) (a b : List (Nat × Nat)) : (s.wrAll a).wrAll b = s.wrAll (a ++ b) := (List.foldl_append ..).symm

/-- `t` is `s` with values written to the objects of a list, in order. -/
def writes (s : State) (ks : List Nat) (t : State) : Prop := ∃ l : List (Nat × Nat), t = s.wrAll l ∧ l.map Prod.fst = ks

theorem writes.wrAll {s t : State} {ks : List Nat} (h : s.writes ks t) (l : List (Nat × Nat)) :
    s.writes (ks ++ l.map Prod.fst) (t.wrAll l) := by
  obtain ⟨a, rfl, rfl⟩ := h
  exact ⟨a ++ l, wrAll_append .., List.map_append⟩

theorem writes.wrAll_range {s t : State} {ks : List Nat} (h : s.writes ks t) (f g : Nat → Nat) (n : Nat) :
    s.writes (ks ++ (List.range n).map f) (t.wrAll ((List.range n).map fun x => (f x, g x))) := by
  have hk : ((List.range n).map fun x => (f x, g x)).map Prod.fst = (List.range n).map f := List.map_map
  exact hk ▸ h.wrAll _

theorem writes.wr {s t : State} {ks : List Nat} (h : s.writes ks t) (k v : Nat) : s.writes (ks ++ [k]) (t.wr k v) := h.wrAll [(k, v)]

theorem writes_loads (s : State) : s.writes loadKeys s.showLoads := by
  unfold showLoads loadKeys
  extract_lets _ s1 s2 s3 s4 s5 s6 s7 s8
  have h1 : s.writes [Obj.DEV_LOAD_BFLY, Obj.DEV_LOAD_CELL, Obj.DEV_LOAD_RSV, Obj.DEV_LOAD_PORT, Obj.DEV_LOAD_POOL] s1 := ⟨_, rfl, rfl⟩
  have h5 : s.writes _ s5 := (((h1.wrAll_range _ _ 28).wrAll_range _ _ 32).wrAll_range _ _ 32).wrAll_range _ _ 8
  exact (((h5.wr _ _).wrAll_range _ _ 32).wr _ _).wrAll_range _ _ 8

/-- None of these objects is of chapters 16 and up. -/
theorem loadKeys_lt {q : Nat} (h : q ∈ loadKeys) : q % 2 ^ 24 < 0x500000 := by
  simp only [loadKeys, List.mem_append, List.mem_map, List.mem_range] at h
  rcases h with (((((((h | ⟨x, hx, rfl⟩) | ⟨x, hx, rfl⟩) | ⟨x, hx, rfl⟩) | ⟨x, hx, rfl⟩) | h) | ⟨x, hx, rfl⟩) | h) | ⟨x, hx, rfl⟩
  · exact (by decide : ∀ q ∈ [Obj.DEV_LOAD_BFLY, Obj.DEV_LOAD_CELL, Obj.DEV_LOAD_RSV, Obj.DEV_LOAD_PORT, Obj.DEV_LOAD_POOL],
      q % 2 ^ 24 < 0x500000) q h
  · unfold Obj.DEV_PORT_LOAD key; omega
  · unfold Obj.XFM_LOAD key; omega
  · unfold Obj.XFM_POOL key; omega
  · unfold Obj.CRYS_LOAD key; omega
  · rw [List.mem_singleton.mp h]; decide
  · unfold Obj.DET_STORE_WORDS key; omega
  · rw [List.mem_singleton.mp h]; decide
  · unfold sk Obj.DET_STORE_USED key; omega

/-- The windows and loads that read from the committed configuration are objects alone. -/
theorem showCommitted_frame (s : State) (units : List (Nat × UnitId)) :
    (s.showCommitted units).rest = s.rest ∧ (s.showCommitted units).sess = s.sess ∧ (s.showCommitted units).log = s.log := by
  obtain ⟨l, hl, -⟩ := writes_loads s
  unfold showCommitted showWindow
  rw [hl]
  exact ⟨(foldl_same rest _ (fun _ _ => wrAll_rest ..) _ _).trans (wrAll_rest ..),
    (foldl_same sess _ (fun _ _ => wrAll_sess ..) _ _).trans (wrAll_sess ..),
    (foldl_same log _ (fun _ _ => wrAll_log ..) _ _).trans (wrAll_log ..)⟩

/-- An object of no context, which follows no load, reads as before. -/
theorem showCommitted_rd (s : State) (units : List (Nat × UnitId)) {q : Nat} (h : q ∉ loadKeys)
    (hw : ∀ c, q ∉ [Obj.XFM_WIN_ENBW c, Obj.XFM_WIN_CGAIN c, Obj.XFM_WIN_SCALLOP c]) : (s.showCommitted units).rd q = s.rd q := by
  obtain ⟨l, hl, hk⟩ := writes_loads s
  have hstep (t : State) (c : Nat) : (t.showWindow c).rd q = t.rd q := by unfold showWindow; exact rd_wrAll_other _ (hw c)
  unfold showCommitted
  rw [hl]
  rw [foldl_same (fun t : State => t.rd q) (fun t (x : Nat × UnitId) => t.showWindow x.2.i) fun t x => hstep t x.2.i]
  exact rd_wrAll_other _ (by rw [hk]; exact h)

/-- Whether a standby is there depends on the twin and two of its objects. -/
theorem hasStandby_congr {s t : State} (hs : t.rd Obj.TWIN_STATE = s.rd Obj.TWIN_STATE) (hl : t.rd Obj.TWIN_LANES = s.rd Obj.TWIN_LANES)
    (ht : t.twin = s.twin) : t.hasStandby = s.hasStandby := by
  unfold hasStandby; rw [hs, hl, ht]

/-- Ownership, small rings and what is shown of the committed configuration: of everything but the dictionary, owners and the Reservoir
alone change, and no object of the twin does. -/
theorem settled_facts (x : State) (w : Swap) (l : List UnitId) (units : List (Nat × UnitId)) :
    ∃ z o r, z = ((l.foldl (fun s u => s.settleOwner (w.owner s) u) x).putSmalls).showCommitted units ∧
      z.rest = { x.rest with owners := o, rsv := r } ∧ z.sess = x.sess ∧ z.log = x.log ∧
      z.rd Obj.TWIN_STATE = x.rd Obj.TWIN_STATE ∧ z.rd Obj.TWIN_LANES = x.rd Obj.TWIN_LANES := by
  obtain ⟨o, hr1, ho1, hs1, hl1⟩ := settleOwners_frame x w l
  generalize l.foldl (fun s u => s.settleOwner (w.owner s) u) x = y at *
  obtain ⟨hr2, hs2, hl2, hrd2⟩ := putSmalls_frame y
  obtain ⟨hr3, hs3, hl3⟩ := showCommitted_frame y.putSmalls units
  have hrd {q : Nat} (hq : q ∉ loadKeys) (hw : ∀ c, q ∉ [Obj.XFM_WIN_ENBW c, Obj.XFM_WIN_CGAIN c, Obj.XFM_WIN_SCALLOP c])
      (hp : q ≠ Obj.RSV_PANS_FREE) : (y.putSmalls.showCommitted units).rd q = x.rd q := by
    rw [showCommitted_rd _ _ hq hw, hrd2 q hp]
    unfold rd; rw [ho1]
  have hstate := hrd (q := Obj.TWIN_STATE) (fun h => absurd (loadKeys_lt h) (by decide))
    (fun c => by
      simp only [List.mem_cons, List.not_mem_nil, or_false, Obj.TWIN_STATE, Obj.XFM_WIN_ENBW, Obj.XFM_WIN_CGAIN, Obj.XFM_WIN_SCALLOP, key]
      omega) (by decide)
  have hlanes := hrd (q := Obj.TWIN_LANES) (fun h => absurd (loadKeys_lt h) (by decide))
    (fun c => by
      simp only [List.mem_cons, List.not_mem_nil, or_false, Obj.TWIN_LANES, Obj.XFM_WIN_ENBW, Obj.XFM_WIN_CGAIN, Obj.XFM_WIN_SCALLOP, key]
      omega) (by decide)
  have hrest : (y.putSmalls.showCommitted units).rest = { x.rest with owners := o, rsv := y.putSmalls.rsv } := by rw [hr3, hr2, hr1]
  exact ⟨_, o, y.putSmalls.rsv, rfl, hrest, hs3.trans (hs2.trans hs1), hl3.trans (hl2.trans hl1), hstate, hlanes⟩

/-- The values of a commit are committed and leave its session's staging. -/
def committed (s : State) (w : Swap) : State :=
  (s.putCommitted w).dropStaged w.sess fun k => (w.vals.any fun p => p.1 == k) || (loadOf k).isSome && bitOf w.groups (groupOf k)

theorem committed_facts (s : State) {w : Swap} {k v : Nat} (ht : w.tables = []) (hv : w.vals = [(k, v)]) :
    (s.committed w).rest = { s.rest with com := s.com.set dflt k v, staged := (s.committed w).staged } ∧ (s.committed w).sess = s.sess ∧
      (s.committed w).log = s.log ∧ (∀ q, q ≠ Obj.XFM_UWIN_USED → (s.committed w).rd q = s.rd q) ∧
      ∀ p ∈ (s.committed w).stagedOf w.sess, p.1 ≠ k := by
  unfold committed
  rw [putCommitted_one s ht hv]
  refine ⟨?_, by rw [dropStaged_sess, showUwin_sess]; rfl, by rw [dropStaged_log, showUwin_log]; rfl, fun q hq => ?_, fun p hp => ?_⟩
  · rw [dropStaged_rest, showUwin_rest]; rfl
  · rw [dropStaged_rd, showUwin_rd _ hq]; rfl
  rw [dropStaged_stagedOf, List.mem_filter, hv] at hp
  intro e
  simp [e] at hp

/-- The state that an admitted commit of a live session leaves before its swap is set to wait: its units are owned and what follows from
them is shown. -/
def admitted (s : State) (w : Swap) (units : List Change) : State :=
  ((w.unitsNamed.foldl (fun s u => s.settleOwner (w.owner s) u) (s.committed w)).putSmalls).showCommitted
    (units.map fun c => (c.group, c.unit))

theorem admitted_facts (s : State) {w : Swap} (units : List Change) {k v : Nat} (ht : w.tables = []) (hv : w.vals = [(k, v)]) :
    ∃ m o r, (s.admitted w units).rest = { s.rest with com := s.com.set dflt k v, staged := m, owners := o, rsv := r } ∧
      (s.admitted w units).sess = s.sess ∧ (s.admitted w units).log = s.log ∧ (s.admitted w units).hasStandby = s.hasStandby ∧
      ∀ p ∈ (s.admitted w units).stagedOf w.sess, p.1 ≠ k := by
  obtain ⟨hr1, hs1, hl1, hrd1, hg1⟩ := committed_facts s ht hv
  unfold admitted
  generalize s.committed w = x at *
  obtain ⟨z, o, r, hz, hr2, hs2, hl2, hstate, hlanes⟩ := settled_facts x w w.unitsNamed (units.map fun c => (c.group, c.unit))
  rw [← hz]
  have hst : z.staged = x.staged := (congrArg State.staged hr2 :)
  have htw : z.twin = s.twin := ((congrArg State.twin hr2 :) : z.twin = x.twin).trans (congrArg State.twin hr1 :)
  refine ⟨x.staged, o, r, by rw [hr2, hr1], hs2.trans hs1, hl2.trans hl1, hasStandby_congr ?_ ?_ htw, ?_⟩
  · rw [hstate, hrd1 _ (by decide)]
  · rw [hlanes, hrd1 _ (by decide)]
  · rw [stagedOf_congr hst]; exact hg1

/-- Where the session of a swap goes on, its end follows no earlier end (R344). -/
theorem resolveEnded_open {s : State} {w : Swap} (ho : (s.ses w.sess).isOpen = true) (hi : (s.ses w.sess).inc = w.req.inc) (q : Nat) :
    s.resolveEnded w q = s := by
  unfold resolveEnded; simp [ho, hi]

/-- The requested tick in force of a commit: its own, or 100 µs ahead (R351). -/
def reqInForce (s : State) (w : Swap) : Nat := max w.reqTick (s.tick + 3200000)

/-- The changes that then wait for their boundaries. -/
def pendingChanges (s : State) (w : Swap) : List Change := if s.pwr.suspended then [] else s.changesOf w (s.reqInForce w)

/-- The swap of an admitted commit waits to apply. -/
def admittedSwap (s : State) (w : Swap) : State :=
  ((s.admitted w (s.pendingChanges w)).setSwap
    { w with validating := false, reqTick := s.reqInForce w, units := s.pendingChanges w, receipt := none }).rebound
      { w with units := s.pendingChanges w }

/-- What an admitted commit shows to its session. -/
def showAdmitted (s : State) (w : Swap) (req : Nat) (units : List Change) : State :=
  let s := s.wrAll [(sk w.sess Obj.DEV_COMMIT_STATE, 2), (sk w.sess Obj.DEV_JOINT_REQ, req)]
  let s := if units.isEmpty then s.wrAll [(sk w.sess Obj.DEV_JOINT_FIRST, req), (sk w.sess Obj.DEV_JOINT_LAST, req)] else s
  (((s.showVerdict w.sess none).showAdmission w.sess none).showStagedLoads w).updSes w.sess fun x => { x with checked := [] }

/-- An admitted commit of a session that goes on, without the scan-out and without a standby to wait for. -/
theorem letIn_eq {s : State} {w : Swap} (ho : (s.ses w.sess).isOpen = true) (hi : (s.ses w.sess).inc = w.req.inc)
    (h9 : bitOf w.groups 9 = false) (hst : (s.admitted w (s.pendingChanges w)).hasStandby = false) :
    s.letIn w = (((s.admittedSwap w).showAdmitted w (s.reqInForce w) (s.pendingChanges w)).finish w.req .ok).resolveEnded w (s.reqInForce w) := by
  have hown := Swap.owner_open ho hi
  unfold letIn
  simp only [hown, beq_self_eq_true, ite_true, h9, Bool.false_eq_true, ite_false, Bool.true_and]
  unfold admitted committed pendingChanges reqInForce at hst
  simp only [hst, Bool.false_eq_true, ite_false]
  rfl

end State

namespace State

/-! ### The answer to an admitted commit -/

theorem finished_of_checked {s y : State} {r : Req} {st : Status} {c : List (Nat × Nat)} (hl : s.live r = true)
    (h : ∀ j, y.ses j = if j = r.sess then { s.ses j with checked := c } else s.ses j) : finished s (y.finish r st) r st := by
  have hr : y.ses r.sess = { s.ses r.sess with checked := c } := by rw [h, if_pos rfl]
  have hl' : y.live r = true := by rw [live_iff] at hl ⊢; rw [hr]; exact hl
  refine ⟨fun _ => ?_, fun hn => (Bool.eq_false_iff.mp hn hl).elim, fun j hj => ?_⟩
  · rw [finish_ses st 0 hl', if_pos rfl, hr]; exact ⟨rfl, rfl⟩
  · rw [finish_ses st 0 hl', if_neg hj, h, if_neg hj]

theorem finished_of_sess {s y : State} (r : Req) (st : Status) (h : y.sess = s.sess) : finished s (y.finish r st) r st := by
  have hs := ses_of_sess h
  have hlive : y.live r = s.live r := by unfold live; rw [hs]
  cases hl : s.live r with
  | true => exact finished_of_checked (c := (s.ses r.sess).checked) hl fun j => by rw [hs]; split <;> simp_all
  | false =>
    rw [finish_dead st 0 (hlive.trans hl)]
    exact ⟨fun ht => (Bool.eq_false_iff.mp hl ht).elim, fun _ => hs _, fun j _ => hs j⟩

theorem showAdmitted_rest (s : State) (w : Swap) (req : Nat) (units : List Change) : (s.showAdmitted w req units).rest = s.rest := by
  unfold showAdmitted
  rw [updSes_rest, showStagedLoads_rest, showAdmission_rest, showVerdict_rest]
  split <;> simp

theorem showAdmitted_log (s : State) (w : Swap) (req : Nat) (units : List Change) : (s.showAdmitted w req units).log = s.log := by
  unfold showAdmitted
  rw [updSes_log, showStagedLoads_log, showAdmission_log, showVerdict_log]
  split <;> simp

theorem showAdmitted_ses (s : State) {w : Swap} (req : Nat) (units : List Change) (hw : w.sess < s.sess.length) (j : Nat) :
    (s.showAdmitted w req units).ses j = if j = w.sess then { s.ses j with checked := [] } else s.ses j := by
  unfold showAdmitted
  extract_lets x y
  have hy : ((y.showVerdict w.sess none).showAdmission w.sess none).sess = s.sess := by
    rw [showAdmission_sess, showVerdict_sess]; unfold y x; split <;> simp
  have hl : (((y.showVerdict w.sess none).showAdmission w.sess none).showStagedLoads w).sess.length = s.sess.length := by
    rw [showStagedLoads_sess, updSes_sess, List.length_modify, hy]
  rw [ses_updSes, hl, showStagedLoads_ses, showStagedLoads_ses, hy, ses_of_sess hy, ses_of_sess hy]
  by_cases hj : j = w.sess
  · subst hj; rw [if_pos ⟨rfl, hw⟩, if_pos ⟨rfl, hw⟩, if_pos rfl]
  · rw [if_neg fun e => hj e.1, if_neg fun e => hj e.1, if_neg hj]

theorem showAdmitted_values (s : State) (w : Swap) (req : Nat) (units : List Change) :
    (s.showAdmitted w req units).rd (sk w.sess Obj.DEV_COMMIT_STATE) = 2 ∧
      (s.showAdmitted w req units).rd (sk w.sess Obj.DEV_JOINT_REQ) = req ∧
      (s.showAdmitted w req units).rd (sk w.sess Obj.DEV_COMMIT_REASON) = 0 ∧
      (s.showAdmitted w req units).rd (sk w.sess Obj.DEV_ADMIT_RESULT) = 1 := by
  have hne {k : Nat} {l : List Nat} (h : k ∉ l) : sk w.sess k ∉ l.map (sk w.sess) := fun hk => h (sk_mem_map.mp hk)
  unfold showAdmitted
  extract_lets x y
  have hx : x.rd (sk w.sess Obj.DEV_COMMIT_STATE) = 2 ∧ x.rd (sk w.sess Obj.DEV_JOINT_REQ) = req := by
    unfold x
    rw [rd_wrAll, rd_wrAll]
    simp [sk_inj, Obj.DEV_COMMIT_STATE, Obj.DEV_JOINT_REQ, key]
  have hy {k : Nat} (h : k ∉ [Obj.DEV_JOINT_FIRST, Obj.DEV_JOINT_LAST]) : y.rd (sk w.sess k) = x.rd (sk w.sess k) := by
    unfold y
    split
    · exact rd_wrAll_other x (hne h)
    · rfl
  have hz {k : Nat} (hv : k ∉ verdictKeys) (ha : k ∉ admissionKeys) (hs : k ∉ stagedLoadKeys) :
      ((((y.showVerdict w.sess none).showAdmission w.sess none).showStagedLoads w).updSes w.sess
        fun x => { x with checked := [] }).rd (sk w.sess k) = y.rd (sk w.sess k) := by
    rw [updSes_rd, showStagedLoads_rd _ _ (hne hs), showAdmission_rd _ _ _ (hne ha), showVerdict_rd _ _ _ (hne hv)]
  refine ⟨?_, ?_, ?_, ?_⟩
  · rw [hz (by decide) (by decide) (by decide), hy (by decide), hx.1]
  · rw [hz (by decide) (by decide) (by decide), hy (by decide), hx.2]
  · rw [updSes_rd, showStagedLoads_rd _ _ (hne (by decide)), showAdmission_rd _ _ _ (hne (by decide)), showVerdict_reason]; rfl
  · rw [updSes_rd, showStagedLoads_rd _ _ (hne (by decide)), showAdmission_result]; rfl

/-- The only swap, once admitted, waits to apply with its values and no receipt to come. -/
theorem admittedSwap_swaps {s : State} {w : Swap} (h : (s.admitted w (s.pendingChanges w)).swaps = [w]) :
    (s.admittedSwap w).swaps =
      [{ w with validating := false, reqTick := s.reqInForce w, units := s.pendingChanges w, receipt := none }] := by
  unfold admittedSwap rebound
  simp [h]

/-- The clause of R23 and R350: a commit that every check passes is committed, leaves staging and is answered OK. -/
theorem commitValidated_admitted {s : State} {w : Swap} {k v : Nat} (hw : s.swaps = [w]) (hlive : s.live w.req = true)
    (hsess : w.req.sess = w.sess) (hval : w.validating = true) (ht : w.tables = []) (hv : w.vals = [(k, v)])
    (h9 : bitOf w.groups 9 = false) (hst : s.hasStandby = false) (hverdict : s.verdict w = none) :
    ∃ t, exec (.commitValidated w.sess) s = .next t ∧ finished s t w.req .ok ∧ t.rdc k = v ∧ (∀ j, j ≠ k → t.rdc j = s.rdc j) ∧
      (t.stagedOf w.sess).all (fun p => p.1 != k) = true ∧ t.rd (sk w.sess Obj.DEV_COMMIT_STATE) = 2 ∧
      t.rd (sk w.sess Obj.DEV_JOINT_REQ) = max w.reqTick (s.tick + 3200000) ∧ t.rd (sk w.sess Obj.DEV_COMMIT_REASON) = 0 ∧
      t.rd (sk w.sess Obj.DEV_ADMIT_RESULT) = 1 ∧
      (∃ x, t.swaps = [x] ∧ x.validating = false ∧ x.reqTick = max w.reqTick (s.tick + 3200000) ∧ x.vals = w.vals ∧ x.receipt = none) ∧
      t.log = s.log := by
  obtain ⟨hopen, hinc, -⟩ := live_iff.mp hlive
  rw [hsess] at hopen hinc
  obtain ⟨m, o, r, hrest, hs, hlog, hstand, hstaged⟩ := admitted_facts s (s.pendingChanges w) ht hv
  have heq := letIn_eq hopen hinc h9 (hstand.trans hst)
  have hswaps := admittedSwap_swaps (s := s) (w := w) ((congrArg State.swaps hrest :).trans hw)
  have hcom : (s.admittedSwap w).com = s.com.set dflt k v := (congrArg State.com hrest :)
  have hstg : (s.admittedSwap w).staged = (s.admitted w (s.pendingChanges w)).staged := rfl
  have hws : (s.admittedSwap w).wall = s.wall := (congrArg State.wall hrest :)
  have hps : (s.admittedSwap w).pending = s.pending := (congrArg State.pending hrest :)
  have hxs : (s.admittedSwap w).sess = s.sess := hs
  have hxl : (s.admittedSwap w).log = s.log := hlog
  generalize s.admittedSwap w = x at *
  obtain ⟨hstate, hreq, hreason, hadm⟩ := showAdmitted_values x w (s.reqInForce w) (s.pendingChanges w)
  have hyr := showAdmitted_rest x w (s.reqInForce w) (s.pendingChanges w)
  have hyl := (showAdmitted_log x w (s.reqInForce w) (s.pendingChanges w)).trans hxl
  have hys : ∀ j, (x.showAdmitted w (s.reqInForce w) (s.pendingChanges w)).ses j =
      if j = w.sess then { s.ses j with checked := [] } else s.ses j := fun j => by
    rw [showAdmitted_ses x _ _ (by rw [hxs]; exact ses_lt hopen), ses_of_sess hxs]
  generalize x.showAdmitted w (s.reqInForce w) (s.pendingChanges w) = y at *
  have hfin : finished s (y.finish w.req .ok) w.req .ok := finished_of_checked hlive fun j => by rw [hys, hsess]
  obtain ⟨hfo, hfi, -⟩ := finish_ses_fields y w.req .ok 0 w.sess
  rw [hys, if_pos rfl] at hfo hfi
  rw [resolveEnded_open (hfo.trans hopen) (hfi.trans hinc)] at heq
  have hfr : (y.finish w.req .ok).rest = x.rest := (finish_rest ..).trans hyr
  have hfs : (y.finish w.req .ok).staged = (s.admitted w (s.pendingChanges w)).staged :=
    ((congrArg State.staged hfr :) : _ = x.staged).trans hstg
  have hfc : (y.finish w.req .ok).com = s.com.set dflt k v := ((congrArg State.com hfr :) : _ = x.com).trans hcom
  have hrdc (j : Nat) : (y.finish w.req .ok).rdc j = if j = k then v else s.rdc j := by
    unfold rdc; rw [hfc, Mem.get_set]
  refine ⟨y.finish w.req .ok, ?_, hfin, ?_, ?_, ?_, ?_, ?_, ?_, ?_, ?_, ?_⟩
  · rw [exec_commitValidated_none hw hval hverdict, heq]
    exact done_eq (((congrArg State.wall hfr :) : _ = x.wall).trans hws) (((congrArg State.pending hfr :) : _ = x.pending).trans hps)
  · rw [hrdc, if_pos rfl]
  · exact fun j hj => by rw [hrdc, if_neg hj]
  · rw [stagedOf_congr hfs, List.all_eq_true]
    exact fun p hp => bne_iff_ne.mpr (hstaged p hp)
  · rw [finish_rd, hstate]
  · rw [finish_rd, hreq]; rfl
  · rw [finish_rd, hreason]
  · rw [finish_rd, hadm]
  · exact ⟨_, ((congrArg State.swaps hfr :) : _ = x.swaps).trans hswaps, rfl, rfl, rfl, rfl⟩
  · rw [finish_log, hyl]

/-! ### The end of a swap (R352, R353, R344) -/

/-- A swap without changes has none that no family's Joint applies. -/
theorem applyLoose_nil {s : State} {w : Swap} (h : w.units = []) : s.applyLoose w = s := by
  unfold applyLoose looseChanges; rw [h]; rfl

theorem showBusy_nil {s : State} (h : s.swaps = []) (i : Nat) : s.showBusy i = s.wr (sk i Obj.DEV_SCOPE_BUSY) 0 := by
  unfold showBusy; rw [busyGroups_nil h]

/-- SWAP_COMPLETE of the only swap, a commit's that has nothing left to apply. -/
theorem exec_swapComplete_only {s : State} {w : Swap} (hw : s.swaps = [w]) (h8 : w.sess < 8) (hval : w.validating = false)
    (hu : w.units = []) (hc : w.cause = none) (hr : w.receipt = none) :
    exec (.swapComplete w.sess) s = done s (s.swapDone w) := by
  show execSwapComplete w.sess s = _
  have h254 : w.sess ≠ 254 := by omega
  have happ : w.applied s = true := by unfold Swap.applied; simp [hval, hr, hu, hc]
  unfold execSwapComplete
  simp [h254, hw, hc, applyLoose_nil hu, happ]

/-- What the end of the only swap leaves to its session, before JOINT_DONE: its state is complete, no write is held, no group is busy. -/
def swapEnded (s : State) (w : Swap) : State :=
  (((s.dropSwap w).wr (sk w.sess Obj.DEV_COMMIT_STATE) 3).wr (sk w.sess Obj.DEV_DEFERRED) 0).wr (sk w.sess Obj.DEV_SCOPE_BUSY) 0

theorem swapDone_eq {s : State} {w : Swap} (hw : s.swaps = [w]) (hopen : (s.ses w.sess).isOpen = true)
    (hinc : (s.ses w.sess).inc = w.req.inc) (hd : (s.ses w.sess).deferred = []) :
    ∃ ws, s.swapDone w = (s.swapEnded w).notify w.sess 3 0 ws := by
  have hdrop := dropSwap_only hw
  have hown : w.owner (s.dropSwap w) = w.sess := Swap.owner_open (by rw [dropSwap_ses]; exact hopen) (by rw [dropSwap_ses]; exact hinc)
  have hv : (s.dropSwap w).validating w.sess = false := by unfold validating; rw [hdrop]; rfl
  unfold swapDone swapEnded
  rw [if_neg (by simp [hown]), hv, if_neg Bool.false_ne_true, enterDeferred_nil (by rw [wr_ses, dropSwap_ses]; exact hd)]
  dsimp only
  rw [showBusy_nil (by rw [wr_swaps, wr_swaps]; exact hdrop)]
  exact ⟨_, rfl⟩

/-- The clause of R353: a swap whose every change has applied is complete. -/
theorem swapComplete_done {s : State} {w : Swap} (hw : s.swaps = [w]) (h8 : w.sess < 8) (hopen : (s.ses w.sess).isOpen = true)
    (hinc : (s.ses w.sess).inc = w.req.inc) (hval : w.validating = false) (hu : w.units = []) (hc : w.cause = none)
    (hr : w.receipt = none) (hd : (s.ses w.sess).deferred = []) :
    ∃ t, exec (.swapComplete w.sess) s = .next t ∧ t.rd (sk w.sess Obj.DEV_COMMIT_STATE) = 3 ∧ t.rd (sk w.sess Obj.DEV_SCOPE_BUSY) = 0 ∧
      t.swaps = [] ∧ t.rest = { s.rest with swaps := [] } ∧ t.log = s.log ∧
      s.only t [sk w.sess Obj.DEV_COMMIT_STATE, sk w.sess Obj.DEV_SCOPE_BUSY, sk w.sess Obj.DEV_DEFERRED, sk w.sess Obj.DEV_NOTIFY_LOST] := by
  obtain ⟨ws, hdone⟩ := swapDone_eq hw hopen hinc hd
  have hrest : ((s.swapEnded w).notify w.sess 3 0 ws).rest = { s.rest with swaps := [] } := by
    unfold swapEnded; rw [notify_rest, wr_rest, wr_rest, wr_rest, dropSwap_rest, dropSwap_only hw]
  have hrd {q : Nat} (h : q ≠ sk w.sess Obj.DEV_NOTIFY_LOST) : ((s.swapEnded w).notify w.sess 3 0 ws).rd q = (s.swapEnded w).rd q :=
    notify_rd _ _ _ _ _ _ h
  have hk {a b : Nat} (h : a ≠ b) : sk w.sess a ≠ sk w.sess b := fun e => h (sk_inj.mp e)
  refine ⟨(s.swapEnded w).notify w.sess 3 0 ws, ?_, ?_, ?_, (congrArg State.swaps hrest :), hrest, ?_, fun q hq => ?_⟩
  · rw [exec_swapComplete_only hw h8 hval hu hc hr, hdone]
    exact done_eq (congrArg State.wall hrest :) (congrArg State.pending hrest :)
  · rw [hrd (hk (by decide))]
    unfold swapEnded
    rw [rd_wr_other _ _ _ _ (hk (by decide)), rd_wr_other _ _ _ _ (hk (by decide)), rd_wr_same]
  · rw [hrd (hk (by decide))]
    unfold swapEnded
    rw [rd_wr_same]
  · unfold swapEnded; rw [notify_log, wr_log, wr_log, wr_log, dropSwap_log]
  · simp only [List.mem_cons, List.not_mem_nil, or_false, not_or] at hq
    obtain ⟨h1, h2, h3, h4⟩ := hq
    rw [hrd h4]
    unfold swapEnded
    rw [rd_wr_other _ _ _ _ h2, rd_wr_other _ _ _ _ h3, rd_wr_other _ _ _ _ h1]
    rfl

/-- Ownership that ends with an engine Joint gives no ended session a unit that it did not hold. -/
theorem holder_filter_gone {l : List Owner} {gone : List UnitId} {u : UnitId} {n : Nat} (hn : 8 ≤ n)
    (h : (l.find? fun o => o.unit == u).map Owner.sess ≠ some n) :
    ((l.filter fun o => !(Nat.ble 8 o.sess && gone.contains o.unit)).find? fun o => o.unit == u).map Owner.sess ≠ some n := by
  by_cases hg : gone.contains u = true
  · intro e
    obtain ⟨o, ho, rfl⟩ := Option.map_eq_some_iff.mp e
    have hu : o.unit = u := by simpa using List.find?_some ho
    have hp := (List.mem_filter.mp (List.mem_of_find?_eq_some ho)).2
    rw [hu, hg, Nat.ble_eq.mpr hn] at hp
    exact absurd hp (by decide)
  · have hsame : (fun o : Owner => decide ((!(Nat.ble 8 o.sess && gone.contains o.unit)) = true ∧ (o.unit == u) = true)) =
        fun o : Owner => o.unit == u := by
      funext o
      by_cases ho : o.unit = u
      · have hn : u ∉ gone := by simpa using hg
        simp [ho, hn]
      · simp [ho]
    rw [List.find?_filter, hsame]
    exact h

/-- Where the ended session holds no flow, none is freed. -/
theorem freeIdleFlows_none {s : State} {i : Nat} (h : ∀ f, f < 249 → s.holder ⟨.flow, f⟩ ≠ some (i + 8)) : s.freeIdleFlows i = s := by
  unfold freeIdleFlows
  have hnil : ((List.range 249).filter fun f => s.holder ⟨.flow, f⟩ == some (i + 8) && s.rd (Obj.FLOW_STATE f) == 1 &&
      !(s.swaps.any fun w => (w.change 8 ⟨.flow, f⟩).isSome)) = [] := by
    refine List.filter_eq_nil_iff.mpr fun f hf => ?_
    simp [h f (List.mem_range.mp hf)]
  rw [hnil]; rfl

/-- With no swap and no flow left, a closed session's number is free (Table 15.7). -/
theorem freeNumber_eq {s : State} {i : Nat} (hf : ∀ f, f < 249 → s.holder ⟨.flow, f⟩ ≠ some (i + 8)) (ho : (s.ses i).isOpen = false)
    (hs : s.swaps = []) :
    s.freeNumber i = (s.updSes i fun x => { x with ending := false }).wrAll
      [(Obj.DEV_SESS_STATE i, 0), (Obj.DEV_SESS_ROLE i, 0), (Obj.DEV_SESS_PORT i, 255)] := by
  unfold freeNumber
  simp [freeIdleFlows_none hf, ho, hs]

/-- The clause of R344: once the engine Joint of a session's end has applied, its number is free. -/
theorem sessionEndJoint_done {s : State} {w : Swap} (hsz : s.Sized) (hw : s.swaps = [w]) (h8 : w.sess < 8)
    (hclosed : (s.ses w.sess).isOpen = false) (hval : w.validating = false) (hu : w.units = []) (hc : w.cause = some 0)
    (hr : w.receipt = none) (htick : w.reqTick ≤ s.tick) (hf : ∀ f, f < 249 → s.holder ⟨.flow, f⟩ ≠ some (w.sess + 8)) :
    ∃ t, exec (.sessionEndJoint w.sess) s = .next t ∧ t.rd (Obj.DEV_SESS_STATE w.sess) = 0 ∧ t.rd (Obj.DEV_SESS_ROLE w.sess) = 0 ∧
      t.rd (Obj.DEV_SESS_PORT w.sess) = 255 ∧ t.swaps = [] ∧ (t.ses w.sess).ending = false ∧
      t.rest = { s.rest with swaps := [], owners := t.owners } ∧ t.log.alerts = s.log.alerts ∧
      s.onlyE t [Obj.DEV_SESS_STATE w.sess, Obj.DEV_SESS_ROLE w.sess, Obj.DEV_SESS_PORT w.sess] := by
  have hlen : s.sess.length = 8 := (List.cons.inj hsz).1
  obtain ⟨gone, hgone⟩ : ∃ gone, gone = (w.units.map Change.unit) ++ (w.vals.map fun p => ownId p.1) := ⟨_, rfl⟩
  obtain ⟨a, ha⟩ : ∃ a : State, a = { s with owners := s.owners.filter fun o => !(Nat.ble 8 o.sess && gone.contains o.unit) } := ⟨_, rfl⟩
  obtain ⟨b, hb⟩ : ∃ b, b = (a.dropSwap w).logJoint w 0 := ⟨_, rfl⟩
  have hadrop : (a.dropSwap w).swaps = [] := dropSwap_only (by rw [ha]; exact hw)
  have hbr : b.rest = { s.rest with swaps := [], owners := a.owners } := by
    rw [hb]; unfold logJoint; rw [event_rest, dropSwap_rest, hadrop, ha]; rfl
  have hbs : b.sess = s.sess := by rw [hb]; unfold logJoint; rw [event_sess _ (by decide), dropSwap_sess, ha]
  have hba : b.log.alerts = s.log.alerts := by rw [hb]; unfold logJoint; rw [event_alerts _ (by decide), dropSwap_log, ha]
  have hbrd {q : Nat} (he : eventKey q = false) : b.rd q = s.rd q := by
    rw [hb]; unfold logJoint; rw [event_rd _ _ _ _ _ _ _ _ he, ha]; rfl
  have hbf : ∀ f, f < 249 → b.holder ⟨.flow, f⟩ ≠ some (w.sess + 8) := fun f hf' => by
    have ho : b.owners = s.owners.filter fun o => !(Nat.ble 8 o.sess && gone.contains o.unit) :=
      ((congrArg State.owners hbr :) : b.owners = a.owners).trans (by rw [ha])
    unfold holder
    rw [ho]
    exact holder_filter_gone (by omega) (hf f hf')
  have hfree := freeNumber_eq hbf ((congrArg Sess.isOpen (ses_of_sess hbs w.sess)).trans hclosed) (congrArg State.swaps hbr :)
  have hexec : exec (.sessionEndJoint w.sess) s = done s (b.freeNumber w.sess) := by
    show execSessionEndJoint w.sess s = _
    have happ : w.applied s = true := by unfold Swap.applied; simp [hval, hr, hu, htick]
    unfold execSessionEndJoint
    simp only [hw, hc, List.find?_cons, beq_self_eq_true, Bool.and_self, applyLoose_nil hu, happ]
    unfold engineDone
    rw [if_neg (by decide)]
    simp only [h8, Nat.blt_eq, ite_true]
    rw [hb, ha, hgone]
  have hrest : (b.freeNumber w.sess).rest = { s.rest with swaps := [], owners := (b.freeNumber w.sess).owners } := by
    have hr' : (b.freeNumber w.sess).rest = b.rest := by rw [hfree, wrAll_rest, updSes_rest]
    have ho : (b.freeNumber w.sess).owners = a.owners := (congrArg State.owners (hr'.trans hbr) :)
    rw [hr', hbr, ho]
  refine ⟨b.freeNumber w.sess, ?_, ?_, ?_, ?_, (congrArg State.swaps hrest :), ?_, hrest, ?_, fun q hq he => ?_⟩
  · rw [hexec]
    exact done_eq (congrArg State.wall hrest :) (congrArg State.pending hrest :)
  · rw [hfree, rd_wrAll]; simp [Obj.DEV_SESS_STATE, Obj.DEV_SESS_ROLE, Obj.DEV_SESS_PORT, key]
  · rw [hfree, rd_wrAll]; simp [Obj.DEV_SESS_ROLE, Obj.DEV_SESS_PORT, key]
  · rw [hfree, rd_wrAll]; simp
  · rw [hfree, wrAll_ses, ses_updSes, if_pos ⟨rfl, by rw [hbs, hlen]; exact h8⟩]
  · rw [hfree, wrAll_log, updSes_log, hba]
  · rw [hfree, rd_wrAll_other _ hq, updSes_rd, hbrd he]

/-! ### Receipts (R386) -/

theorem setSwap_only {s : State} {w x : Swap} (hw : s.swaps = [w]) (h : x.id = w.id) : (s.setSwap x).swaps = [x] := by
  simp [setSwap, hw, h]

theorem receiptSwap_only {s : State} {w : Swap} (hw : s.swaps = [w]) (hr : w.receipt ≠ none) : s.receiptSwap w.sess = some w := by
  unfold receiptSwap
  simp [hw, Option.isSome_iff_ne_none.mpr hr]

/-- The clause of R386: the receipt lets the final OK leave. -/
theorem snapshotReceipt_ok {s : State} {w : Swap} (hw : s.swaps = [w]) (hr : w.receipt ≠ none) :
    ∃ t, exec (.snapshotReceipt w.sess) s = .next t ∧ finished s t w.req .ok ∧ t.swaps = [{ w with receipt := none }] ∧
      t.rest = { s.rest with swaps := t.swaps } ∧ t.obj = s.obj ∧ t.log = s.log := by
  let x := s.setSwap { w with receipt := none }
  have hrest : (x.finish w.req .ok).rest = { s.rest with swaps := [{ w with receipt := none }] } := by
    rw [finish_rest]; unfold x; rw [setSwap_rest, setSwap_only (x := { w with receipt := none }) hw rfl]
  have hswaps : (x.finish w.req .ok).swaps = [{ w with receipt := none }] := (congrArg State.swaps hrest :)
  refine ⟨x.finish w.req .ok, ?_, finished_of_sess _ _ rfl, hswaps, hswaps ▸ hrest, finish_obj .., finish_log ..⟩
  show execSnapshotReceipt w.sess s = _
  unfold execSnapshotReceipt
  rw [receiptSwap_only hw hr]
  exact done_eq (congrArg State.wall hrest :) (congrArg State.pending hrest :)

/-- The clause of R386: 1 ms without a receipt, the final OK leaves and the standby is not ready. -/
theorem snapshotReceiptTimeout_ok {s : State} {w : Swap} {a : Nat} (hw : s.swaps = [w]) (hr : w.receipt = some a) (ha : a + tpms ≤ s.wall) :
    ∃ t, exec (.snapshotReceiptTimeout w.sess) s = .next t ∧ finished s t w.req .ok ∧ t.swaps = [{ w with receipt := none }] ∧
      t.rd Obj.TWIN_STATE = (if s.rd Obj.TWIN_STATE = 3 then 2 else s.rd Obj.TWIN_STATE) ∧ t.twin = { s.twin with peerReady := false } ∧
      t.rest = { s.rest with swaps := t.swaps, twin := t.twin } ∧ t.log = s.log ∧ s.only t [Obj.TWIN_STATE] := by
  let x := (s.setSwap { w with receipt := none }).finish w.req .ok
  let y : State := { x with twin := { x.twin with peerReady := false } }
  let z : State := if y.rd Obj.TWIN_STATE = 3 then y.wr Obj.TWIN_STATE 2 else y
  have hxr : x.rest = { s.rest with swaps := [{ w with receipt := none }] } := by
    unfold x; rw [finish_rest, setSwap_rest, setSwap_only (x := { w with receipt := none }) hw rfl]
  have hxt : x.twin = s.twin := (congrArg State.twin hxr :)
  have hyr : y.rest = { s.rest with swaps := [{ w with receipt := none }], twin := { s.twin with peerReady := false } } := by
    show { x.rest with twin := { x.twin with peerReady := false } } = _
    rw [hxr, hxt]
  have hyrd (q : Nat) : y.rd q = s.rd q := finish_rd ..
  have hzr : z.rest = { s.rest with swaps := [{ w with receipt := none }], twin := { s.twin with peerReady := false } } := by
    rw [← hyr]; unfold z; split <;> rfl
  have hzs : z.sess = x.sess := by unfold z; split <;> rfl
  have hzl : z.log = s.log := by
    have : z.log = x.log := by unfold z; split <;> rfl
    rw [this]; exact finish_log ..
  have hzf : finished s z w.req .ok := by
    have hz := ses_of_sess hzs
    have hx : finished s x w.req .ok := finished_of_sess _ _ rfl
    unfold finished at hx ⊢
    simpa only [hz] using hx
  have hswaps : z.swaps = [{ w with receipt := none }] := (congrArg State.swaps hzr :)
  have htwin : z.twin = { s.twin with peerReady := false } := (congrArg State.twin hzr :)
  have hexec : exec (.snapshotReceiptTimeout w.sess) s = done s z := by
    show execSnapshotReceiptTimeout w.sess s = _
    have hb : Nat.blt s.wall (a + tpms) = false := by rw [Bool.eq_false_iff, Ne, Nat.blt_eq]; omega
    unfold execSnapshotReceiptTimeout
    rw [receiptSwap_only hw (by rw [hr]; exact Option.some_ne_none a)]
    simp only [hr, hb, Bool.false_eq_true, ite_false]
    rfl
  refine ⟨z, ?_, hzf, hswaps, ?_, htwin, by rw [hswaps, htwin]; exact hzr, hzl, fun q hq => ?_⟩
  · rw [hexec]
    exact done_eq (congrArg State.wall hzr :) (congrArg State.pending hzr :)
  · unfold z
    rw [hyrd]
    split
    · exact rd_wr_same ..
    · exact hyrd _
  · unfold z
    split
    · rw [rd_wr_other _ _ _ _ (by simpa using hq), hyrd]
    · exact hyrd q

end State

/-- Settles O50: each clause is the lemma of its command. -/
theorem commits : Obligations.Commits := by
  unfold Obligations.Commits
  refine ⟨?_, ?_, ?_, ?_, ?_, ?_, ?_, ?_, ?_⟩
  · exact fun s i tag g hs hc hv hg h9 hb => State.devCommit_accepted hs hc hv hg h9 hb
  · exact fun s i tag hs h2 h3 => State.devCommit_busy hs h2 h3
  · exact fun s w k v _ hw hlive hsess _ hval _ ht hv h9 hst hverdict =>
      State.commitValidated_admitted hw hlive hsess hval ht hv h9 hst hverdict
  · exact fun s i tag hs hc hv hb => State.devCommitValidate_reported hs hc hv hb
  · exact fun s i tag hs hc hv hb => State.devCommitDiscard_emptied hs hc hv hb
  · exact fun s w _ hw h8 hopen hinc hval hu hc hr hd => State.swapComplete_done hw h8 hopen hinc hval hu hc hr hd
  · exact fun s w hsz hw h8 hclosed hval hu hc hr ht hf => State.sessionEndJoint_done hsz hw h8 hclosed hval hu hc hr ht hf
  · exact fun s w hw hr => State.snapshotReceipt_ok hw hr
  · exact fun s w a hw hr ha => State.snapshotReceiptTimeout_ok hw hr ha

/-! ## Shedding and restoration (R17, R18, R25 to R27): O27

`DataPath` collects what the stopping and resuming of units leaves alone; one lemma per operation says that it keeps to the data path,
each following the operation's own text. -/

/-- The class counters of R26 and DEV_SHED_ACTIVE lie in this range of the dictionary. -/
def shedKey (q : Nat) : Prop := Obj.DEV_SHED_COUNT_CRYS ≤ q ∧ q ≤ Obj.DEV_SHED_ACTIVE

/-- Every unit's objects lie above it. -/
theorem key_above {i b : Nat} (h : 0x2212 ≤ i) : Obj.DEV_SHED_ACTIVE < key i b := by
  unfold Obj.DEV_SHED_ACTIVE key; omega

/-- The objects that an event writes, by number: the device's own six, and in each session's copy of the dictionary 2022h. -/
theorem eventKey_eq_false {q : Nat} (hd : q ≠ 0x201001 ∧ q ≠ 0x201003 ∧ q ≠ 0x7F0B00 ∧ q ≠ 0x200101 ∧ q ≠ 0x200102 ∧ q ≠ 0x7F0A00)
    (hs : ∀ i, q ≠ i * 2 ^ 24 + 0x202200) : eventKey q = false := by
  simp only [eventKey, Bool.or_eq_false_iff, beq_eq_false_iff_ne, List.any_eq_false, List.mem_range, beq_iff_eq, sk, key, Obj.DEV_LOG_NEWEST,
    Obj.DEV_LOG_OLDEST, Obj.DIAG_ALERT_MERGED, Obj.DEV_ALERT_COUNT, Obj.DEV_ALERT_LAST, Obj.DIAG_ALERT_PENDING, Obj.DEV_NOTIFY_LOST]
  exact ⟨by omega, fun i _ => hs i⟩

theorem eventKey_of_shedKey {q : Nat} (h : shedKey q) : eventKey q = false := by
  unfold shedKey Obj.DEV_SHED_COUNT_CRYS Obj.DEV_SHED_ACTIVE key at h
  exact eventKey_eq_false (by omega) fun i => by omega

/-- `t` differs from `s` in the data path, the sessions' frames, the log and objects alone, and keeps what shedding has done. -/
def DataPath (s t : State) : Prop := t.control = s.control ∧ t.shed = s.shed ∧ ∀ q, shedKey q → t.rd q = s.rd q

namespace DataPath

variable {s0 s t : State}

theorem refl (s : State) : DataPath s s := ⟨rfl, rfl, fun _ _ => rfl⟩

theorem same (hs : DataPath s0 s) (hc : t.control = s.control) (hd : t.shed = s.shed) (ho : t.obj = s.obj) : DataPath s0 t := by
  obtain ⟨hc0, hd0, ho0⟩ := hs
  exact ⟨hc.trans hc0, hd.trans hd0, fun q hq => (by unfold State.rd; rw [ho] : t.rd q = s.rd q).trans (ho0 q hq)⟩

theorem ofRest (hs : DataPath s0 s) (hr : t.rest = s.rest) (ho : ∀ q, shedKey q → t.rd q = s.rd q) : DataPath s0 t := by
  obtain ⟨hc0, hd0, ho0⟩ := hs
  have hc : t.rest.control = s.rest.control := by rw [hr]
  exact ⟨(show t.control = s.control from hc).trans hc0, ((congrArg State.shed hr :) : t.shed = s.shed).trans hd0,
    fun q hq => (ho q hq).trans (ho0 q hq)⟩

theorem ite {c : Prop} [Decidable c] (hs : DataPath s0 s) (ht : DataPath s0 t) : DataPath s0 (if c then s else t) := by
  split
  · exact hs
  · exact ht

theorem foldl {α : Type} {f : State → α → State} {l : List α} (hs : DataPath s0 s) (hf : ∀ t a, DataPath s0 t → DataPath s0 (f t a)) :
    DataPath s0 (l.foldl f s) :=
  List.foldlRecOn l f hs fun t ht a _ => hf t a ht

/-! ### Objects and events -/

theorem wr {k v : Nat} (hs : DataPath s0 s) (hk : Obj.DEV_SHED_ACTIVE < k) : DataPath s0 (s.wr k v) :=
  hs.ofRest (State.wr_rest ..) fun q hq => State.rd_wr_other _ _ _ _ (by have := hq.2; omega)

theorem wrAll {l : List (Nat × Nat)} (hs : DataPath s0 s) (hl : ∀ p ∈ l, Obj.DEV_SHED_ACTIVE < p.1) : DataPath s0 (s.wrAll l) := by
  refine hs.ofRest (State.wrAll_rest ..) fun q hq => State.rd_wrAll_other _ fun hm => ?_
  obtain ⟨p, hp, rfl⟩ := List.mem_map.mp hm
  have h1 := hl p hp
  have h2 := hq.2
  omega

theorem countN {k n : Nat} (hs : DataPath s0 s) (hk : Obj.DEV_SHED_ACTIVE < k) : DataPath s0 (s.countN k n) := hs.wr hk

theorem event {c i e a b d : Nat} (hs : DataPath s0 s) : DataPath s0 (s.event c i e a b d) :=
  hs.ofRest (State.event_rest ..) fun _ hq => State.event_rd _ _ _ _ _ _ _ _ (eventKey_of_shedKey hq)

/-! ### Units -/

theorem updFlow {f : Nat} {g : Flow → Flow} (hs : DataPath s0 s) : DataPath s0 (s.updFlow f g) := hs.same rfl rfl rfl
theorem updRing {h : Nat} {g : Ring → Ring} (hs : DataPath s0 s) : DataPath s0 (s.updRing h g) := hs.same rfl rfl rfl
theorem updSrc {k : Nat} {g : Source → Source} (hs : DataPath s0 s) : DataPath s0 (s.updSrc k g) := hs.same rfl rfl rfl
theorem updSeqr {q : Nat} {g : Seqr → Seqr} (hs : DataPath s0 s) : DataPath s0 (s.updSeqr q g) := hs.same rfl rfl rfl
theorem updPlane {p : Nat} {g : Plane → Plane} (hs : DataPath s0 s) : DataPath s0 (s.updPlane p g) := hs.same rfl rfl rfl
theorem updDet {c : Nat} {g : Det → Det} (hs : DataPath s0 s) : DataPath s0 (s.updDet c g) := hs.same rfl rfl rfl
theorem updCtx {c : Nat} {g : Ctx → Ctx} (hs : DataPath s0 s) : DataPath s0 (s.updCtx c g) := hs.same rfl rfl rfl
theorem updChan {ch : Nat} {g : Chan → Chan} (hs : DataPath s0 s) : DataPath s0 (s.updChan ch g) := hs.same rfl rfl rfl

/-! ### Records entered into flows and rings -/

theorem enterMirrored {f : Nat} (hs : DataPath s0 s) : DataPath s0 (s.enterMirrored f) := by
  have hf {l : List (Nat × Nat × Record)} : DataPath s0 (l.foldl (fun s e => s.updFlow f fun x => x.offer s.wall e.2.2) s) :=
    hs.foldl fun _ _ ht => ht.updFlow
  unfold State.enterMirrored; exact .ite hs (hf.same rfl rfl rfl)

theorem enter {f : Nat} {r : Record} (hs : DataPath s0 s) : DataPath s0 (s.enter f r) := by
  unfold State.enter
  exact .ite hs.enterMirrored <| .ite hs.enterMirrored.updFlow hs.enterMirrored

theorem enterAll {fs : List Nat} {r : Record} (hs : DataPath s0 s) : DataPath s0 (s.enterAll fs r) := by
  unfold State.enterAll; exact hs.foldl fun _ _ ht => ht.enter

theorem side {h : Nat} {r : Record} (hs : DataPath s0 s) : DataPath s0 (s.side h r) := by
  unfold State.side; exact .ite (hs.updRing.wr (key_above (by omega))) hs

theorem explain {f last : Nat} {r : Record} (hs : DataPath s0 s) : DataPath s0 (s.explain f last r) := by
  unfold State.explain; exact .ite (hs.updFlow.ite hs) <| .ite hs.enter hs

/-! ### A ring that stops -/

theorem setPanic {h : Nat} (hs : DataPath s0 s) : DataPath s0 (s.setPanic h) := by
  unfold State.setPanic; exact .ite (hs.updRing.countN (key_above (by omega))) hs.updRing

theorem pushLine {h : Nat} {l : Line} (hs : DataPath s0 s) : DataPath s0 (s.pushLine h l) := by
  unfold State.pushLine
  exact .ite hs.updRing.setPanic <| ((hs.countN (key_above (by omega))).side.foldl fun _ _ ht => ht.explain).event

theorem finishLine {h : Nat} (hs : DataPath s0 s) : DataPath s0 (s.finishLine h) := by
  unfold State.finishLine
  extract_lets
  split
  · exact hs
  · exact hs.updRing.pushLine

theorem ringPut {h i : Nat} {v : Samp} (hs : DataPath s0 s) : DataPath s0 (s.ringPut h i v) := by
  unfold State.ringPut
  extract_lets _ s1 s2
  have h1 : DataPath s0 s1 := .ite hs hs.finishLine
  have h2 : DataPath s0 s2 := by
    unfold s2
    split
    · exact h1
    · exact .ite h1.pushLine h1
  exact .ite hs <| .ite h2.updRing.finishLine h2.updRing

theorem finishRaw {h : Nat} (hs : DataPath s0 s) : DataPath s0 (s.finishRaw h) := by
  unfold State.finishRaw
  extract_lets
  split
  · exact hs
  · exact hs.updRing.ringPut

theorem stopRing {h : Nat} (hs : DataPath s0 s) : DataPath s0 (s.stopRing h) := by
  unfold State.stopRing; exact hs.finishRaw.finishLine.updRing

/-! ### A context that stops or restarts -/

theorem showSrc {k : Nat} (hs : DataPath s0 s) : DataPath s0 (s.showSrc k) := by
  unfold State.showSrc; exact hs.wr (key_above (by omega))

theorem srcLevel {k p : Nat} {b : Bool} (hs : DataPath s0 s) : DataPath s0 (s.srcLevel k p b) := by
  unfold State.srcLevel; exact hs.updSrc.showSrc

theorem retireAll {p : SrcCfg → Bool} {label : Nat} (hs : DataPath s0 s) : DataPath s0 (s.retireAll p label) := by
  unfold State.retireAll; exact hs.foldl fun _ _ ht => ht.updSrc

theorem countGap {k : Nat} (hs : DataPath s0 s) : DataPath s0 (s.countGap k) := by
  unfold State.countGap; exact hs.foldl fun _ _ ht => .ite (ht.countN (key_above (by omega))).updSeqr ht

theorem srcGap {k : Nat} {c : SrcCfg} {a b : Nat} (hs : DataPath s0 s) : DataPath s0 (s.srcGap k c a b) := by
  unfold State.srcGap
  extract_lets _ _ s1
  have h1 : DataPath s0 s1 := (hs.srcLevel.ite hs).updSrc
  exact (h1.countGap.ite h1).showSrc

theorem gapFor {kind a b p q : Nat} {test : Nat → Bool} {reads : SrcCfg → Bool} (hs : DataPath s0 s) :
    DataPath s0 (s.gapFor kind a b p q test reads) := by
  unfold State.gapFor; exact (hs.foldl fun _ _ ht => ht.srcGap).retireAll.foldl fun _ _ ht => ht.srcGap

theorem frameGap {c a b n h d : Nat} (hs : DataPath s0 s) : DataPath s0 (s.frameGap c a b n h d) := by
  unfold State.frameGap; exact hs.gapFor.gapFor

theorem endStagingRun {c : Nat} (hs : DataPath s0 s) : DataPath s0 (s.endStagingRun c) := by
  unfold State.endStagingRun
  split
  · exact hs
  · exact hs.updCtx

theorem showSlots (hs : DataPath s0 s) : DataPath s0 s.showSlots := by
  unfold State.showSlots State.peak; exact (hs.wr (key_above (by omega))).wr (key_above (by omega))

theorem shedContext {c : Nat} (hs : DataPath s0 s) : DataPath s0 (s.shedContext c) := by
  unfold State.shedContext; exact (hs.endStagingRun.updCtx.wr (key_above (by omega))).showSlots

theorem restoreContext {c : Nat} (hs : DataPath s0 s) : DataPath s0 (s.restoreContext c) := by
  unfold State.restoreContext; exact .ite (hs.updCtx.wr (key_above (by omega))) hs.updCtx

theorem settleContexts (hs : DataPath s0 s) : DataPath s0 s.settleContexts := by
  unfold State.settleContexts
  exact hs.foldl fun _ _ ht => .ite (ht.ite ht.shedContext.frameGap) <| .ite ht.restoreContext ht

/-! ### What a shed unit's own kind stops or resumes -/

theorem shedTells {u : ShedUnit} {ev tick : Nat} (hs : DataPath s0 s) : DataPath s0 (s.shedTells u ev tick) := by
  unfold State.shedTells
  extract_lets
  split
  · split
    · exact hs.enterAll.enterAll
    · exact hs.enterAll
  · exact hs.enterAll
  · exact hs.enterAll
  · exact (hs.foldl fun _ _ ht => ht.side).foldl fun _ _ ht => ht.enter
  · exact hs

theorem ringStates {l : List Nat} {v : Nat} (hs : DataPath s0 s) : DataPath s0 (s.wrAll (l.map fun h => (Obj.RSV_HIST_STATE h, v))) := by
  refine hs.wrAll fun p hp => ?_
  obtain ⟨h, -, rfl⟩ := List.mem_map.mp hp
  exact key_above (by omega)

theorem dropPlaneColumns {p : Nat} (hs : DataPath s0 s) : DataPath s0 (s.dropPlaneColumns p) := hs.same rfl rfl rfl

theorem showPlane {p : Nat} (hs : DataPath s0 s) : DataPath s0 (s.showPlane p) := by
  unfold State.showPlane; exact hs.wr (key_above (by omega))

theorem showDet {c : Nat} {gap : Bool} (hs : DataPath s0 s) : DataPath s0 (s.showDet c gap) := by
  unfold State.showDet; exact hs.wr (key_above (by omega))

end DataPath

/-! ### A unit that stops, and one that resumes -/

theorem bitOf_setBit (m i : Nat) : bitOf (setBit m i true) i = true := by
  unfold setBit
  split
  next h => exact beq_iff_eq.mp h
  next h =>
    have hm : m / 2 ^ i % 2 ≠ 1 := by simpa [bitOf] using h
    have hp : 0 < 2 ^ i := Nat.two_pow_pos i
    simp only [bitOf, ite_true, beq_iff_eq, Nat.add_div_right m hp]
    omega

/-- A shed class's counter is no other of the shedding's objects. -/
theorem shedCount_key {c : Nat} (h : c ≤ 5) :
    shedKey (Obj.DEV_SHED_COUNT_CRYS + (c - 1)) ∧ Obj.DEV_SHED_COUNT_CRYS + (c - 1) ≠ Obj.DEV_SHED_ACTIVE := by
  unfold shedKey Obj.DEV_SHED_COUNT_CRYS Obj.DEV_SHED_ACTIVE key; omega

theorem shedActive_key : shedKey Obj.DEV_SHED_ACTIVE := by unfold shedKey; decide

namespace State

theorem event_control (s : State) (c i e a b d : Nat) : (s.event c i e a b d).control = s.control :=
  (congrArg State.control (event_rest s c i e a b d) :)

/-- The counting and telling of a shed unit: objects and the log alone change, and of the shedding's objects the class's two. -/
theorem shedTold_facts (s : State) {c : Nat} (h5 : c ≤ 5) (cause unit : Nat) :
    ((((s.count (Obj.DEV_SHED_COUNT_CRYS + (c - 1))).shedBit c true).event 2 254 0x0700 c cause unit).control = s.control ∧
      (((s.count (Obj.DEV_SHED_COUNT_CRYS + (c - 1))).shedBit c true).event 2 254 0x0700 c cause unit).shed = s.shed) ∧
      (((s.count (Obj.DEV_SHED_COUNT_CRYS + (c - 1))).shedBit c true).event 2 254 0x0700 c cause unit).rd Obj.DEV_SHED_ACTIVE =
        setBit (s.rd Obj.DEV_SHED_ACTIVE) (c - 1) true ∧
      (((s.count (Obj.DEV_SHED_COUNT_CRYS + (c - 1))).shedBit c true).event 2 254 0x0700 c cause unit).rd
        (Obj.DEV_SHED_COUNT_CRYS + (c - 1)) = min (2 ^ 32 - 1) (s.rd (Obj.DEV_SHED_COUNT_CRYS + (c - 1)) + 1) := by
  obtain ⟨hck, hcn⟩ := shedCount_key h5
  unfold shedBit
  refine ⟨⟨?_, ?_⟩, ?_, ?_⟩
  · rw [event_control]; rfl
  · rw [event_shed]; rfl
  · rw [event_rd _ _ _ _ _ _ _ _ (eventKey_of_shedKey shedActive_key), rd_wr_same, rd_count, if_neg hcn.symm]
  · rw [event_rd _ _ _ _ _ _ _ _ (eventKey_of_shedKey hck), rd_wr_other _ _ _ _ hcn, rd_count, if_pos rfl]

/-- One unit stops (R26): it heads the list of those shed, its class is counted and its bit set; beyond the data path nothing changes. -/
theorem shedOne_facts (s : State) {u : ShedUnit} (h5 : u.cls ≤ 5) :
    (s.shedOne u true).control = s.control ∧ (s.shedOne u true).shed = { s.shed with units := u :: s.shed.units } ∧
      (s.shedOne u true).rd Obj.DEV_SHED_ACTIVE = setBit (s.rd Obj.DEV_SHED_ACTIVE) (u.cls - 1) true ∧
      (s.shedOne u true).rd (Obj.DEV_SHED_COUNT_CRYS + (u.cls - 1)) = min (2 ^ 32 - 1) (s.rd (Obj.DEV_SHED_COUNT_CRYS + (u.cls - 1)) + 1) := by
  have hck := (shedCount_key h5).1
  unfold shedOne
  extract_lets _ a _ _ b _ c e
  have hb : DataPath s b := by
    have ha : DataPath s a := (DataPath.refl s).shedTells
    unfold b
    split
    · exact ha.dropPlaneColumns.updPlane.wr (key_above (by omega))
    · exact ha.updDet.showDet
    · exact ha.updFlow
    · exact (ha.updChan.foldl fun _ _ ht => ht.stopRing).ringStates
    · exact ha
  obtain ⟨hbc, hbs, hbo⟩ := hb
  have hcs : c.shed = { s.shed with units := u :: s.shed.units } := by
    show { b.shed with units := u :: b.shed.units } = _
    rw [hbs]
  obtain ⟨hec, hes, heo⟩ : DataPath c e := ((DataPath.refl c).wr (key_above (by omega))).settleContexts
  have herd {q : Nat} (hq : shedKey q) : e.rd q = s.rd q := (heo q hq).trans (hbo q hq)
  have hctl : e.control = s.control := hec.trans hbc
  have hshed := hes.trans hcs
  clear_value e
  rw [if_pos rfl]
  obtain ⟨⟨hc, hd⟩, hact, hcnt⟩ := shedTold_facts e h5 u.cause u.unit
  exact ⟨hc.trans hctl, hd.trans hshed, by rw [hact, herd shedActive_key], by rw [hcnt, herd hck]⟩

/-- A unit resumes (R27): it leaves the list, and its class's bit is cleared with the last of its class. -/
theorem resumeOne_facts (s : State) (u : ShedUnit) :
    (s.resumeOne u).control = s.control ∧ (s.resumeOne u).shed = { s.shed with units := s.shed.units.erase u } ∧
      (s.resumeOne u).rd Obj.DEV_SHED_ACTIVE =
        if (s.shed.units.erase u).any (fun v => v.cls == u.cls) then s.rd Obj.DEV_SHED_ACTIVE
        else setBit (s.rd Obj.DEV_SHED_ACTIVE) (u.cls - 1) false := by
  unfold resumeOne
  extract_lets _ c _ _ b d e
  have hb : DataPath c b := by
    have hc := DataPath.refl c
    unfold b
    split
    · exact hc.updPlane.showPlane
    · exact hc.updDet
    · exact hc.updFlow
    · exact hc.updChan.ringStates
    · exact hc
  have he : DataPath c e := ((hb.ite hb.shedTells).wr (key_above (by omega))).settleContexts
  obtain ⟨hec, hes, heo⟩ := he
  rw [hes]
  show (if (s.shed.units.erase u).any (fun v => v.cls == u.cls) then e else e.shedBit u.cls false).control = _ ∧ _
  split
  · exact ⟨hec, hes, heo _ shedActive_key⟩
  · refine ⟨hec, hes, ?_⟩
    unfold shedBit
    rw [rd_wr_same, heo _ shedActive_key]
    rfl

/-! ### Candidates (R25) -/

/-- Candidates picked from a list are those the picking function makes. -/
theorem candidates_cls {α : Type} {l : List α} {p : α → Bool} {g : α → ShedUnit × Nat} {c : Nat} {e : ShedUnit × Nat}
    (he : e ∈ l.filterMap fun a => if p a then some (g a) else none) (hg : ∀ a, (g a).1.cls = c) : e.1.cls = c := by
  obtain ⟨a, -, ha⟩ := List.mem_filterMap.mp he
  obtain ⟨-, ha⟩ := Option.ite_none_right_eq_some.mp ha
  rw [← Option.some.inj ha, hg a]

theorem shedUnits_cls {s : State} {c : Nat} (hc : c ∈ [1, 2, 3, 4, 5]) {e : ShedUnit × Nat} (he : e ∈ s.shedUnits c) : e.1.cls = c := by
  simp only [List.mem_cons, List.not_mem_nil, or_false] at hc
  rcases hc with rfl | rfl | rfl | rfl | rfl <;> simp only [shedUnits] at he
  · exact candidates_cls he fun _ => rfl
  · split at he
    · rw [List.mem_singleton.mp he]
    · exact absurd he List.not_mem_nil
  · obtain ⟨l, hl, hm⟩ := List.mem_flatten.mp he
    obtain ⟨k, -, rfl⟩ := List.mem_map.mp hl
    exact candidates_cls hm fun _ => rfl
  · exact candidates_cls he fun _ => rfl
  · exact candidates_cls he fun _ => rfl

theorem shedClasses_subset {s : State} {cause c : Nat} (h : c ∈ s.shedClasses cause) : c ∈ [1, 2, 3, 4, 5] := by
  unfold shedClasses at h
  split at h
  · obtain rfl := List.mem_singleton.mp h
    decide
  · exact h

theorem shedNext_cls {s : State} {c : Nat} {u : ShedUnit} (h : s.shedNext c = some u) : 1 ≤ u.cls ∧ u.cls ≤ 5 := by
  unfold shedNext at h
  split at h
  · exact absurd h nofun
  next l hl =>
    obtain ⟨k, hk, rfl⟩ := List.mem_map.mp (List.mem_of_find?_eq_some hl)
    have hk5 := shedClasses_subset hk
    obtain ⟨e, he, rfl⟩ := Option.map_eq_some_iff.mp h
    have hmem : e ∈ s.shedUnits k := by
      revert he
      refine List.foldlRecOn (motive := fun b => b = some e → e ∈ s.shedUnits k) _ _ nofun fun b hb a ha => ?_
      split
      · rintro ⟨⟩; exact ha
      · split
        · rintro ⟨⟩; exact ha
        · exact hb
    rw [shedUnits_cls hk5 hmem]
    revert hk5
    simp only [List.mem_cons, List.not_mem_nil, or_false]
    omega

/-! ### The floors (R17, R18) -/

/-- The tests of R26 look at the committed configuration, the shed units, the floors, the store's capacity and the ports' tags. -/
theorem overFloors_congr {s t : State} (hr : t.rest = s.rest) (ht : t.tagged = s.tagged)
    (ho : ∀ k ∈ [Obj.DEV_FLOOR_BFLY, Obj.DEV_FLOOR_CELL, Obj.DEV_FLOOR_RSV, Obj.DEV_FLOOR_PORT, Obj.DET_STORE_CAP], t.rd k = s.rd k) :
    t.overFloors = s.overFloors := by
  have hget : t.rdc = s.rdc := (congrArg State.rdc hr :)
  have hcounts : t.itemCounts = s.itemCounts := (congrArg State.itemCounts hr :)
  have hstore : t.activeStore = s.activeStore := (congrArg State.activeStore hr :)
  simp only [List.forall_mem_cons] at ho
  obtain ⟨hb, hc, hv, hp, hd, -⟩ := ho
  unfold overFloors overLoads overStore
  rw [hget, hcounts, hstore, ht, hb, hc, hv, hp, hd]

/-- No object of the tests of R26 is one an event writes. -/
theorem overFloors_event (s : State) (c i e a b d : Nat) : (s.event c i e a b d).overFloors = s.overFloors := by
  have htag (p : Nat) : eventKey (Obj.PORT_VLAN_EN p) = false := by
    unfold Obj.PORT_VLAN_EN key
    exact eventKey_eq_false (by omega) fun i => by omega
  refine overFloors_congr (event_rest ..) (funext fun p => ?_) fun k hk => event_rd _ _ _ _ _ _ _ _ ?_
  · unfold tagged rdB
    rw [event_rd _ _ _ _ _ _ _ _ (htag p)]
  · revert k
    decide

theorem setFloors_rd_other (s : State) {q : Nat}
    (h : q ∉ [Obj.DEV_FLOOR_BFLY, Obj.DEV_FLOOR_CELL, Obj.DEV_FLOOR_RSV, Obj.DEV_FLOOR_PORT, Obj.DEV_FLOOR_POOL]) :
    s.setFloors.rd q = s.rd q := by
  unfold setFloors; exact rd_wrAll_other _ h

theorem setFloors_rd_fabric (s : State) :
    s.setFloors.rd Obj.DEV_FLOOR_BFLY = (s.fabricFloors (s.rd Obj.DEV_PVIN_SCALE)).1 ∧
      s.setFloors.rd Obj.DEV_FLOOR_CELL = (s.fabricFloors (s.rd Obj.DEV_PVIN_SCALE)).2 := by
  unfold setFloors
  simp only [wrAll_cons, wrAll_nil]
  constructor
  · rw [rd_wr_other _ _ _ _ (by decide), rd_wr_other _ _ _ _ (by decide), rd_wr_other _ _ _ _ (by decide), rd_wr_other _ _ _ _ (by decide),
      rd_wr_same]
  · rw [rd_wr_other _ _ _ _ (by decide), rd_wr_other _ _ _ _ (by decide), rd_wr_other _ _ _ _ (by decide), rd_wr_same]

theorem setFloors_rest (s : State) : s.setFloors.rest = s.rest := by unfold setFloors; exact wrAll_rest ..

theorem setFloors_sess (s : State) : s.setFloors.sess = s.sess := by unfold setFloors; exact wrAll_sess ..

/-- Noting trouble moves the shedding's clock alone. -/
theorem noteTrouble_eq (s : State) : s.noteTrouble = { s with shed := s.noteTrouble.shed } := by
  unfold noteTrouble
  split <;> rfl

/-- The state in which FLOOR_SCALE_UPDATE tests the floors (R18), before its entry in the log. -/
def scaled (s : State) (mv k : Nat) : State := ((s.noteTrouble.wr Obj.PWR_PVIN_MV mv).wr Obj.DEV_PVIN_SCALE k).setFloors

theorem scaled_rest (s : State) (mv k : Nat) : (s.scaled mv k).rest = { s.rest with shed := s.noteTrouble.shed } := by
  unfold scaled
  rw [setFloors_rest, wr_rest, wr_rest, noteTrouble_eq]
  rfl

theorem scaled_sess (s : State) (mv k : Nat) : (s.scaled mv k).sess = s.sess := by
  unfold scaled
  rw [setFloors_sess, wr_sess, wr_sess, noteTrouble_eq]

theorem scaled_rd_other (s : State) (mv k : Nat) {q : Nat}
    (h : q ∉ [Obj.PWR_PVIN_MV, Obj.DEV_PVIN_SCALE, Obj.DEV_FLOOR_BFLY, Obj.DEV_FLOOR_CELL, Obj.DEV_FLOOR_RSV, Obj.DEV_FLOOR_PORT,
      Obj.DEV_FLOOR_POOL]) : (s.scaled mv k).rd q = s.rd q := by
  rw [List.mem_cons, List.mem_cons, not_or, not_or] at h
  obtain ⟨hm, hk, hf⟩ := h
  unfold scaled
  rw [setFloors_rd_other _ hf, rd_wr_other _ _ _ _ hk, rd_wr_other _ _ _ _ hm, noteTrouble_eq]
  rfl

theorem scaled_rd_pvin (s : State) (mv k : Nat) :
    (s.scaled mv k).rd Obj.PWR_PVIN_MV = mv ∧ (s.scaled mv k).rd Obj.DEV_PVIN_SCALE = k := by
  unfold scaled
  constructor
  · rw [setFloors_rd_other _ (by decide), rd_wr_other _ _ _ _ (by decide), rd_wr_same]
  · rw [setFloors_rd_other _ (by decide), rd_wr_same]

theorem scaled_rd_fabric (s : State) (mv k : Nat) :
    (s.scaled mv k).rd Obj.DEV_FLOOR_BFLY = (s.fabricFloors k).1 ∧ (s.scaled mv k).rd Obj.DEV_FLOOR_CELL = (s.fabricFloors k).2 := by
  have hf : ((s.noteTrouble.wr Obj.PWR_PVIN_MV mv).wr Obj.DEV_PVIN_SCALE k).fabricFloors k = s.fabricFloors k := by
    unfold fabricFloors
    rw [rd_wr_other _ _ _ _ (by decide), rd_wr_other _ _ _ _ (by decide), wr_twin, wr_twin, noteTrouble_eq]
    rfl
  obtain ⟨hb, hc⟩ := setFloors_rd_fabric ((s.noteTrouble.wr Obj.PWR_PVIN_MV mv).wr Obj.DEV_PVIN_SCALE k)
  rw [rd_wr_same, hf] at hb hc
  exact ⟨hb, hc⟩

/-- k follows the input voltage and the floors follow k (R17, R18); with the loads inside them nothing is shed. -/
theorem floorScaleUpdate_floors {s : State} {mv : Nat} (h : (s.scaled mv (min 65536 (mv * 65536 / 2500))).overFloors = false) :
    ∃ t, exec (.floorScaleUpdate mv) s = .next t ∧ t.rest = (s.scaled mv (min 65536 (mv * 65536 / 2500))).rest ∧
      t.sess = (s.scaled mv (min 65536 (mv * 65536 / 2500))).sess ∧
      ∀ q, eventKey q = false → t.rd q = (s.scaled mv (min 65536 (mv * 65536 / 2500))).rd q := by
  generalize hk : min 65536 (mv * 65536 / 2500) = k at h ⊢
  have htold : ∃ t, exec (.floorScaleUpdate mv) s = done s t ∧ (t = s.scaled mv k ∨ t = (s.scaled mv k).event 1 254 0x0703 k) := by
    refine ⟨if k < 65536 && s.noteTrouble.rd Obj.DEV_PVIN_SCALE = 65536 then (s.scaled mv k).event 1 254 0x0703 k else s.scaled mv k, ?_, ?_⟩
    · show execFloorScaleUpdate mv s = _
      unfold execFloorScaleUpdate
      rw [hk]
      refine congrArg (done s) (if_neg ?_)
      show ¬ ((if k < 65536 && s.noteTrouble.rd Obj.DEV_PVIN_SCALE = 65536 then (s.scaled mv k).event 1 254 0x0703 k
        else s.scaled mv k).overFloors && _) = true
      split
      · rw [overFloors_event, h]; exact Bool.false_ne_true
      · rw [h]; exact Bool.false_ne_true
    · split
      · exact .inr rfl
      · exact .inl rfl
  obtain ⟨t, hexec, ht⟩ := htold
  have hrest : t.rest = (s.scaled mv k).rest := by
    rcases ht with rfl | rfl
    · rfl
    · exact event_rest ..
  refine ⟨t, ?_, hrest, ?_, fun q hq => ?_⟩
  · rw [hexec]
    have hr := hrest.trans (scaled_rest s mv k)
    exact done_eq (congrArg State.wall hr :) (congrArg State.pending hr :)
  · rcases ht with rfl | rfl
    · rfl
    · exact event_sess _ (by decide) ..
  · rcases ht with rfl | rfl
    · rfl
    · exact event_rd _ _ _ _ _ _ _ _ hq

/-- What a shedding step ends with: the shedding's own times, on a state that keeps everything beyond the data path. -/
theorem done_withShed {s x : State} (h : x.control = s.control) (d : Shedding) : done s { x with shed := d } = .next { x with shed := d } :=
  done_eq (congrArg State.wall h :) (congrArg State.pending h :)

/-- SHED_STEP (R26): the next unit of R25's order is shed, and the step and the trouble are timed. -/
theorem shedStep_sheds {s : State} {c : Nat} {u : ShedUnit} (hc : s.shedCause = some c) (hn : s.shed.nextStep ≤ s.wall)
    (hu : s.shedNext c = some u) :
    exec .shedStep s = done s { s.shedOne { u with cause := c } true with
      shed := { (s.shedOne { u with cause := c } true).shed with
        nextStep := (s.shedOne { u with cause := c } true).wall + 50 * tpus, troubleAt := (s.shedOne { u with cause := c } true).wall } } := by
  show execShedStep s = _
  have hb : Nat.ble s.shed.nextStep s.wall = true := Nat.ble_eq.mpr hn
  unfold execShedStep
  rw [hc]
  simp only [hb, ite_true]
  unfold shedNow
  rw [hu]

/-- SHED_RESTORE (R27): with 100 ms of calm and room for it the unit shed last resumes, and the next waits 100 ms. -/
theorem shedRestore_resumes {s : State} {u : ShedUnit} {rest : List ShedUnit} {h : Nat} (hu : s.shed.units = u :: rest)
    (hc : s.shedCause = none) (ht : s.shed.troubleAt + 100 * tpms ≤ s.wall) (hn : s.shed.nextRestore ≤ s.wall)
    (hh : s.shed.highSince = some h) (hw : h + 100 * tpms ≤ s.wall)
    (hf : ({ s with shed := { s.shed with units := rest } } : State).overFloors = false) :
    exec .shedRestore s = done s { s.resumeOne u with
      shed := { (s.resumeOne u).shed with nextRestore := (s.resumeOne u).wall + 100 * tpms } } := by
  show execShedRestore s = _
  unfold execShedRestore
  refine congrArg (done s) ?_
  extract_lets +onlyGivenNames x
  have hq : s = x := by unfold x noteTrouble; rw [hc]; rfl
  clear_value x
  subst hq
  rw [hu]
  refine if_pos ?_
  rw [hf, hh, hc, Nat.ble_eq.mpr ht, Nat.ble_eq.mpr hn]
  simpa using hw

end State

/-- Settles O27: the floors by FLOOR_SCALE_UPDATE, one unit shed by SHED_STEP, the last one back by SHED_RESTORE. -/
theorem shedding : Obligations.Shedding := by
  unfold Obligations.Shedding
  refine ⟨fun s mv k hk hover => ?_, fun s c u _ hc hn hu => ?_, fun s u rest h _ hu hc ht hn hh hw hf _ => ?_⟩
  · subst hk
    obtain ⟨t, hexec, hrest, hsess, hrd⟩ := State.floorScaleUpdate_floors hover
    obtain ⟨hp, hk⟩ := State.scaled_rd_pvin s mv (min 65536 (mv * 65536 / 2500))
    obtain ⟨hb, hcl⟩ := State.scaled_rd_fabric s mv (min 65536 (mv * 65536 / 2500))
    refine ⟨t, hexec, (hrd _ (by decide)).trans hp, (hrd _ (by decide)).trans hk, (hrd _ (by decide)).trans hb, (hrd _ (by decide)).trans hcl,
      ?_, hsess.trans (State.scaled_sess ..), fun q hq he => (hrd q he).trans (State.scaled_rd_other _ _ _ hq)⟩
    have hr := hrest.trans (State.scaled_rest ..)
    have hs : t.shed = s.noteTrouble.shed := (congrArg State.shed hr :)
    rw [hs]
    exact hr
  · obtain ⟨h1, h5⟩ := State.shedNext_cls hu
    obtain ⟨hctl, hshed, hact, hcnt⟩ := State.shedOne_facts s (u := { u with cause := c }) h5
    have hexec := State.shedStep_sheds hc hn hu
    generalize s.shedOne { u with cause := c } true = x at hexec hctl hshed hact hcnt
    have hwall : x.wall = s.wall := (congrArg State.wall hctl :)
    refine ⟨_, hexec.trans (State.done_withShed hctl _), ?_, ?_, hwall, ?_, hcnt, hctl⟩
    · show x.shed.units = _
      rw [hshed]
    · show x.wall + 50 * tpus = _
      rw [hwall]
    · show bitOf (x.rd Obj.DEV_SHED_ACTIVE) (u.cls - 1) = true
      rw [hact]; exact bitOf_setBit ..
  · obtain ⟨hctl, hshed, hact⟩ := State.resumeOne_facts s u
    have hexec := State.shedRestore_resumes hu hc ht hn hh hw hf
    have herase : s.shed.units.erase u = rest := by rw [hu, List.erase_cons_head]
    rw [herase] at hshed hact
    generalize s.resumeOne u = x at hexec hctl hshed hact
    have hwall : x.wall = s.wall := (congrArg State.wall hctl :)
    refine ⟨_, hexec.trans (State.done_withShed hctl _), ?_, ?_, hact, hctl⟩
    · show x.shed.units = _
      rw [hshed]
    · show x.wall + 100 * tpms = _
      rw [hwall]

end Sys2Proof.Machine

/-! ## The step (R47): O55 -/

namespace Sys2Proof.Machine

set_option Elab.async false

namespace State

/-- A fold whose every operation leaves the state as it was leaves it as it was. -/
theorem foldl_eq_self {α : Type} {f : State → α → State} {l : List α} {s : State} (h : ∀ a ∈ l, f s a = s) : l.foldl f s = s :=
  List.foldlRecOn (motive := fun t => t = s) l f rfl fun _ ht a ha => ht ▸ h a ha

/-- What an operation makes true of its own item, and every operation keeps, holds of each item after the fold. -/
theorem foldl_mem {α β : Type} {f : β → α → β} {I : β → Prop} {P : α → β → Prop} {l : List α} (hI : ∀ b, I b → ∀ a ∈ l, I (f b a))
    (hset : ∀ b, I b → ∀ a ∈ l, P a (f b a)) (hkeep : ∀ b, I b → ∀ a ∈ l, ∀ c, P c b → P c (f b a)) {a : α} (ha : a ∈ l) {b : β} (hb : I b) :
    P a (l.foldl f b) := by
  induction l generalizing b with
  | nil => exact absurd ha List.not_mem_nil
  | cons d l ih =>
    have hd : d ∈ d :: l := List.mem_cons_self
    have sub {c : α} (hc : c ∈ l) : c ∈ d :: l := List.mem_cons_of_mem d hc
    rw [List.foldl_cons]
    rcases List.mem_cons.mp ha with rfl | hl
    · exact (List.foldlRecOn (motive := fun x => I x ∧ P a x) l f ⟨hI b hb a hd, hset b hb a hd⟩ fun x hx c hc =>
        ⟨hI x hx.1 c (sub hc), hkeep x hx.1 c (sub hc) a hx.2⟩).2
    · exact ih (fun x hx c hc => hI x hx c (sub hc)) (fun x hx c hc => hset x hx c (sub hc)) (fun x hx c hc => hkeep x hx c (sub hc)) hl
        (hI b hb d hd)

/-- From an empty queue the fabric takes nothing. -/
theorem fabricTakes_empty {s : State} {ch : Nat} (h : (s.chan ch).fill = 0) : s.fabricTakes ch = s := if_pos h

/-- With every converter queue empty a period passes: the times advance, and trouble is noted. -/
theorem idle_empty {s : State} (h : ∀ ch, ch < 4 → (s.chan ch).fill = 0) :
    s.idle = { s with wall := s.wall + 1, tick := if s.conv.counts then s.tick + 1 else s.tick, shed := s.noteTrouble.shed } := by
  have hf : (List.range 4).foldl fabricTakes s.noteTrouble = s.noteTrouble := by
    rw [noteTrouble_eq]
    exact foldl_eq_self fun ch hch => fabricTakes_empty (h ch (List.mem_range.mp hch))
  unfold idle
  rw [hf, noteTrouble_eq]

end State

/-- Settles O55: the step is taken by the queue's two cases; on an empty one it is `idle_empty`. -/
theorem stepTakesTheFront : Obligations.StepTakesTheFront := by
  unfold Obligations.StepTakesTheFront
  refine ⟨fun c l s h => ?_, fun s _ h hfill => ⟨s.idle, ?_, ?_⟩⟩
  · unfold step; rw [h]
  · unfold step; rw [h]
  · rw [State.idle_empty hfill]
    exact ⟨rfl, rfl, rfl, h, rfl, rfl, rfl⟩

/-! ## What the converters' statements share -/

namespace State

variable (s : State)

/-! ### Channels -/

theorem Sized.chans_length {s : State} (h : s.Sized) : s.chans.length = 4 := congrArg (·.getD 12 0) h

theorem chan_of_chans {s t : State} (h : t.chans = s.chans) (i : Nat) : t.chan i = s.chan i := by unfold chan; rw [h]

theorem chan_updChan (i : Nat) (f : Chan → Chan) (j : Nat) :
    (s.updChan i f).chan j = if j = i ∧ i < s.chans.length then f (s.chan i) else s.chan j := by
  unfold chan at'
  simp only [updChan_chans, List.getD_eq_getElem?_getD, List.getElem?_modify]
  by_cases hj : j = i
  · subst hj
    by_cases hl : j < s.chans.length <;> simp [hl]
  · simp [hj, Ne.symm hj]

theorem chan_updChan_same {s : State} {i : Nat} (f : Chan → Chan) (h : i < s.chans.length) : (s.updChan i f).chan i = f (s.chan i) := by
  rw [chan_updChan, if_pos ⟨rfl, h⟩]

theorem chan_updChan_other {i j : Nat} (f : Chan → Chan) (h : j ≠ i) : (s.updChan i f).chan j = s.chan j := by
  rw [chan_updChan, if_neg fun e => h e.1]

/-! ### A run of writes, each to a key of its own -/

section Writes

variable {α : Type} {f : State → α → State} {k : α → Nat} {g : α → Nat → Nat}

theorem foldl_rd_other (hf : ∀ s a q, (f s a).rd q = if q = k a then g a (s.rd (k a)) else s.rd q) {l : List α} (s : State) {q : Nat}
    (hq : q ∉ l.map k) : (l.foldl f s).rd q = s.rd q := by
  induction l generalizing s with
  | nil => rfl
  | cons a l ih =>
    rw [List.map_cons, List.mem_cons, not_or] at hq
    rw [List.foldl_cons, ih _ hq.2, hf, if_neg hq.1]

/-- Each key reads what its own write made of the value before. -/
theorem foldl_rd_at (hf : ∀ s a q, (f s a).rd q = if q = k a then g a (s.rd (k a)) else s.rd q) {l : List α} (s : State)
    (hl : (l.map k).Nodup) {a : α} (ha : a ∈ l) : (l.foldl f s).rd (k a) = g a (s.rd (k a)) := by
  induction l generalizing s with
  | nil => exact absurd ha List.not_mem_nil
  | cons b l ih =>
    rw [List.map_cons, List.nodup_cons] at hl
    rw [List.foldl_cons]
    rcases List.mem_cons.mp ha with rfl | hal
    · rw [foldl_rd_other hf _ hl.1, hf, if_pos rfl]
    · have hne : k a ≠ k b := fun e => hl.1 (e ▸ List.mem_map_of_mem hal)
      rw [ih _ hl.2 hal, hf, if_neg hne]

end Writes

/-! ### Answers -/

/-- An answer in a session that no standby mirrors is one frame more of that session. -/
theorem answer_ses {s : State} {r : Req} (st : Status) (d : Nat) (hl : r.sess < s.sess.length) (hm : (s.ses r.sess).mirror = false) (j : Nat) :
    (s.answer r st d).ses j = if j = r.sess then { s.ses j with txq := (s.ses j).txq ++ [reply r.tag r.key st d] } else s.ses j := by
  unfold answer respond
  rw [queue_plain _ _ hm, ses_updSes]
  by_cases hj : j = r.sess
  · subst hj; simp [hl, reply]
  · simp [hj]

theorem when_true {p : Bool} (f : State → State) (s : State) (h : p = true) : when p f s = f s := if_pos h

theorem serves_takes {s : State} {i g k v : Nat} (h : s.serves i g k v = true) : s.takes i g = true := by
  simp only [serves, Bool.and_eq_true] at h; exact h.1

end State

/-! ## The board path (R53, R54): O3 -/

theorem convPathDelay_inj {a b : Nat} (h : Obj.CONV_PATH_DELAY a = Obj.CONV_PATH_DELAY b) : a = b := by
  unfold Obj.CONV_PATH_DELAY key at h; omega

namespace State

/-- A path delay is written, takes effect and is marked for its session's next store. -/
def putDelay (s : State) (sess ch v : Nat) : State :=
  ((s.wr (Obj.CONV_PATH_DELAY ch) v).applyPath ch).markPs sess (Obj.CONV_PATH_DELAY ch)

variable (s : State) (sess ch v : Nat)

theorem putDelay_rd (q : Nat) : (s.putDelay sess ch v).rd q = if q = Obj.CONV_PATH_DELAY ch then v else s.rd q := rd_wr ..
theorem putDelay_log : (s.putDelay sess ch v).log = s.log := rfl
theorem putDelay_rest : (s.putDelay sess ch v).rest = { s.rest with chans := (s.putDelay sess ch v).chans } := rfl

theorem putDelay_chans : (s.putDelay sess ch v).chans = s.chans.modify ch fun x => { x with shift := (pathSplit v).1, trim := (pathSplit v).2 } := by
  show s.chans.modify ch (fun x => { x with
    shift := (pathSplit ((s.wr (Obj.CONV_PATH_DELAY ch) v).rd (Obj.CONV_PATH_DELAY ch))).1
    trim := (pathSplit ((s.wr (Obj.CONV_PATH_DELAY ch) v).rd (Obj.CONV_PATH_DELAY ch))).2 }) = _
  rw [rd_wr_same]

theorem putDelay_chan (i : Nat) : (s.putDelay sess ch v).chan i =
    if i = ch ∧ ch < s.chans.length then { s.chan ch with shift := (pathSplit v).1, trim := (pathSplit v).2 } else s.chan i := by
  rw [chan_of_chans (s.putDelay_chans sess ch v |>.trans (s.updChan_chans ch _).symm), chan_updChan]

theorem putDelay_ses (i : Nat) : (s.putDelay sess ch v).ses i = (s.markPs sess (Obj.CONV_PATH_DELAY ch)).ses i := rfl

/-- A marked object is one of those written since the last store. -/
theorem markPs_mem {s : State} {i : Nat} (k : Nat) (h : i < s.sess.length) : k ∈ ((s.markPs i k).ses i).psDirty := by
  unfold markPs
  rw [ses_updSes, if_pos ⟨rfl, h⟩]
  dsimp only
  split
  next hc => exact List.contains_iff_mem.mp hc
  next => exact List.mem_append_right _ (List.mem_singleton.mpr rfl)

/-- Of a session's record only the mark changes. -/
theorem markPs_txq (i k j : Nat) : ((s.markPs i k).ses j).txq = (s.ses j).txq ∧ ((s.markPs i k).ses j).mirror = (s.ses j).mirror := by
  unfold markPs
  rw [ses_updSes]
  split
  next e => rw [e.1]; exact ⟨rfl, rfl⟩
  next => exact ⟨rfl, rfl⟩

theorem markPs_ses_other {i j : Nat} (k : Nat) (h : j ≠ i) : (s.markPs i k).ses j = s.ses j := by
  unfold markPs; rw [ses_updSes, if_neg fun e => h e.1]

/-- The clause of R53: a delay of a channel that feeds nothing is written and answered OK. -/
theorem convPathDelayWrite_ok {s : State} {sess tag ch v : Nat} (hsz : s.Sized) (h4 : ch < 4)
    (hs : s.serves sess tag (Obj.CONV_PATH_DELAY ch) v = true) (hfeeds : s.channelFeeds ch = false) :
    ∃ t, exec (.convPathDelayWrite sess tag ch v) s = .next t ∧ t.rd (Obj.CONV_PATH_DELAY ch) = v ∧
      s.told t sess tag (Obj.CONV_PATH_DELAY ch) .ok ∧ Obj.CONV_PATH_DELAY ch ∈ (t.ses sess).psDirty ∧
      (t.chan ch).shift = (pathSplit v).1 ∧ (t.chan ch).trim = (pathSplit v).2 ∧ (∀ i, i ≠ ch → t.chan i = s.chan i) ∧
      t.rest = { s.rest with chans := t.chans } ∧ t.log = s.log ∧ s.only t [Obj.CONV_PATH_DELAY ch] := by
  have ht := serves_takes hs
  have hl : sess < s.sess.length := ses_lt (takes_open ht)
  have hchan : ch < s.chans.length := by rw [hsz.chans_length]; exact h4
  let r : Req := ⟨sess, (s.ses sess).inc, tag, Obj.CONV_PATH_DELAY ch⟩
  let x := (s.hear sess).putDelay sess ch v
  have hheard : (s.hear sess).sess.length = s.sess.length := List.length_modify ..
  have hxl : r.sess < x.sess.length := by
    show sess < ((s.hear sess).sess.modify sess _).length
    rw [List.length_modify, hheard]; exact hl
  have hxm : (x.ses sess).mirror = false := by
    rw [putDelay_ses, (markPs_txq ..).2, hear_same hl]; exact takes_mirror ht
  have hses := answer_ses (s := x) (r := r) .ok 0 hxl hxm
  have hchans : (x.answer r .ok).chans = x.chans := answer_chans ..
  have hrest : (x.answer r .ok).rest = { s.rest with chans := (x.answer r .ok).chans } := by
    rw [answer_rest, hchans, putDelay_rest]; rfl
  refine ⟨x.answer r .ok, ?_, ?_, ⟨?_, fun j hj => ?_⟩, ?_, ?_, ?_, fun i hi => ?_, hrest, ?_, fun q hq => ?_⟩
  · show done s (when (Nat.blt ch 4) (fun s => s.direct sess tag _ v fun r s => s.pathDelay ch v r) s) = _
    rw [when_true _ _ (Nat.blt_eq.mpr h4), direct_serves _ hs]
    unfold pathDelay
    rw [show (s.hear sess).channelFeeds ch = false from hfeeds, if_neg Bool.false_ne_true]
    exact done_eq (congrArg State.wall hrest :) (congrArg State.pending hrest :)
  · rw [answer_rd, putDelay_rd, if_pos rfl]
  · rw [hses, if_pos rfl, putDelay_ses]
    show ((markPs ..).ses sess).txq ++ _ = _
    rw [(markPs_txq ..).1, hear_same hl]
  · rw [hses, if_neg hj, putDelay_ses, markPs_ses_other _ _ hj, hear_other _ hj]
  · rw [hses, if_pos rfl, putDelay_ses]
    exact markPs_mem _ (hheard.symm ▸ hl)
  · rw [chan_of_chans hchans, putDelay_chan, if_pos ⟨rfl, hchan⟩]
  · rw [chan_of_chans hchans, putDelay_chan, if_pos ⟨rfl, hchan⟩]
  · rw [chan_of_chans hchans, putDelay_chan, if_neg fun e => hi e.1]; rfl
  · rw [answer_log, putDelay_log]; rfl
  · rw [answer_rd, putDelay_rd, if_neg (by simpa using hq)]; rfl

/-- The clause of R54: a measurement is accepted and lasts 20 ms. -/
theorem boardPathSkewCmd_accepted {s : State} {sess tag : Nat} (hs : s.serves sess tag Obj.CONV_CAL_ALL 2 = true)
    (hfeeds : s.anyFeeds = false) (hcal : ∀ ch, ch < 4 → s.calibrating ch = false) (hskew : s.conv.skew = none) :
    ∃ t, exec (.boardPathSkewCmd sess tag) s = .next t ∧ s.pended t sess tag Obj.CONV_CAL_ALL ∧
      t.rest = { s.rest with conv := { s.conv with skew := some (s.req sess tag Obj.CONV_CAL_ALL, s.wall + 640000000) } } ∧
      t.obj = s.obj ∧ t.log = s.log := by
  let r : Req := ⟨sess, (s.ses sess).inc, tag, Obj.CONV_CAL_ALL⟩
  let x := (s.hear sess).accept r
  let t := x.updConv fun c => { c with skew := some (r, s.wall + 20 * tpms) }
  have hxr : x.rest = s.rest := accept_rest ..
  have hxc : x.conv = s.conv := (congrArg State.conv hxr :)
  have hrest : t.rest = { s.rest with conv := { s.conv with skew := some (r, s.wall + 640000000) } } := by
    unfold t
    rw [updConv_rest, updConv_conv, hxr, hxc]; rfl
  have hany : (List.range 4).any (s.hear sess).calibrating = false := by
    rw [List.any_eq_false]
    exact fun ch hch => Bool.eq_false_iff.mp (hcal ch (List.mem_range.mp hch))
  refine ⟨t, ?_, pended_accept (serves_takes hs) _ rfl, hrest, accept_obj .., accept_log ..⟩
  show done s (s.direct sess tag Obj.CONV_CAL_ALL 2 fun r s => s.calAllCmd 2 r) = _
  rw [direct_serves _ hs]
  unfold calAllCmd
  dsimp only
  rw [show (s.hear sess).anyFeeds = false from hfeeds, hany, show (s.hear sess).conv.skew = none from hskew]
  exact done_eq (congrArg State.wall hrest :) (congrArg State.pending hrest :)

/-! ### The end of a measurement -/

/-- The four channels' delays are written. -/
def putDelays (s : State) (sess : Nat) (f : Nat → Nat) : State := (List.range 4).foldl (fun s c => s.putDelay sess c (f c)) s

variable (f : Nat → Nat)

theorem putDelays_rest : (s.putDelays sess f).rest = { s.rest with chans := (s.putDelays sess f).chans } :=
  List.foldlRecOn (motive := fun t : State => t.rest = { s.rest with chans := t.chans }) _ _ rfl fun t ht c _ => by
    rw [putDelay_rest, ht]

theorem putDelays_log : (s.putDelays sess f).log = s.log := foldl_same log (fun s c => s.putDelay sess c (f c)) (fun _ _ => rfl) _ s

theorem putDelays_rd {c : Nat} (h4 : c < 4) : (s.putDelays sess f).rd (Obj.CONV_PATH_DELAY c) = f c := by
  refine foldl_mem (I := fun _ => True) (P := fun c (t : State) => t.rd (Obj.CONV_PATH_DELAY c) = f c) (fun _ _ _ _ => trivial)
    (fun t _ a _ => by rw [putDelay_rd, if_pos rfl]) (fun t _ a _ c h => ?_) (List.mem_range.mpr h4) trivial
  rw [putDelay_rd]
  split
  next e => rw [convPathDelay_inj e]
  next => exact h

theorem putDelays_rd_other {q : Nat} (h : ∀ c, c < 4 → q ≠ Obj.CONV_PATH_DELAY c) : (s.putDelays sess f).rd q = s.rd q :=
  List.foldlRecOn (motive := fun t : State => t.rd q = s.rd q) _ _ rfl fun t ht c hc => by
    rw [putDelay_rd, if_neg (h c (List.mem_range.mp hc)), ht]

theorem putDelays_chan {s : State} (hsz : s.Sized) {c : Nat} (h4 : c < 4) :
    ((s.putDelays sess f).chan c).shift = (pathSplit (f c)).1 ∧ ((s.putDelays sess f).chan c).trim = (pathSplit (f c)).2 := by
  refine foldl_mem (I := fun t : State => t.chans.length = 4)
    (P := fun c (t : State) => (t.chan c).shift = (pathSplit (f c)).1 ∧ (t.chan c).trim = (pathSplit (f c)).2)
    (fun t ht a _ => by rw [putDelay_chans, List.length_modify]; exact ht) (fun t ht a ha => ?_) (fun t _ a _ c h => ?_)
    (List.mem_range.mpr h4) hsz.chans_length
  · rw [putDelay_chan, if_pos ⟨rfl, by rw [ht]; exact List.mem_range.mp ha⟩]
    exact ⟨rfl, rfl⟩
  · rw [putDelay_chan]
    split
    next e => rw [e.1]; exact ⟨rfl, rfl⟩
    next => exact h

/-- The earliest and the latest of four arrivals, as the measurement folds them. -/
theorem arrivals_min (a b c d : Nat) : [a, b, c, d].foldl min a = min a (min b (min c d)) := by
  simp only [List.foldl_cons, List.foldl_nil, min_self, min_assoc]

theorem arrivals_max (a b c d : Nat) : [a, b, c, d].foldl max 0 = max a (max b (max c d)) := by
  simp only [List.foldl_cons, List.foldl_nil, Nat.zero_max, max_assoc]

/-- BOARD_PATH_SKEW_DONE once the 20 ms are over: every delay is written, or none is (R54). -/
theorem exec_boardPathSkewDone {s : State} {r : Req} {u : Nat} (a b c d : Nat) (combOk : Bool) (hskew : s.conv.skew = some (r, u))
    (hu : u ≤ s.wall) : exec (.boardPathSkewDone [a, b, c, d] combOk) s = done s
      (if combOk = true ∧ max a (max b (max c d)) ≤ min a (min b (min c d)) + 8000000 then
        ((s.updConv fun c => { c with skew := none }).putDelays r.sess fun i => [a, b, c, d].getD i 0 - min a (min b (min c d))).finish r .ok
      else (s.updConv fun c => { c with skew := none }).finish r .range) := by
  show execBoardPathSkewDone [a, b, c, d] combOk s = _
  have hb : ¬ Nat.blt s.wall u = true := by rw [Nat.blt_eq]; omega
  unfold execBoardPathSkewDone
  rw [hskew]
  refine congrArg (done s) ((if_neg hb).trans ?_)
  extract_lets l lo hi y
  have hlo : lo = min a (min b (min c d)) := arrivals_min a b c d
  have hhi : hi = max a (max b (max c d)) := arrivals_max a b c d
  rw [← hlo, ← hhi]
  clear_value lo hi
  by_cases h : combOk = true ∧ hi ≤ lo + 8000000
  · have hn : ¬ (!combOk || Nat.blt (lo + 8000000) hi) = true := by
      rw [Bool.or_eq_true, Bool.not_eq_true', Nat.blt_eq, h.1, not_or]
      exact ⟨nofun, Nat.not_lt.mpr h.2⟩
    exact (if_neg hn).trans (if_pos h).symm
  · have hn : (!combOk || Nat.blt (lo + 8000000) hi) = true := by
      rw [Bool.or_eq_true, Bool.not_eq_true', Nat.blt_eq]
      cases combOk
      · exact .inl rfl
      · exact .inr (Nat.lt_of_not_le fun hle => h ⟨rfl, hle⟩)
    exact (if_pos hn).trans (if_neg h).symm

/-- The clause of R54: the end of a measurement writes all delays, or none. -/
theorem boardPathSkewDone_written {s : State} {r : Req} {u : Nat} (a0 a1 a2 a3 : Nat) (combOk : Bool) (hsz : s.Sized)
    (hskew : s.conv.skew = some (r, u)) (hu : u ≤ s.wall) :
    ∃ t, exec (.boardPathSkewDone [a0, a1, a2, a3] combOk) s = .next t ∧
      t.rest = { s.rest with conv := { s.conv with skew := none }, chans := t.chans } ∧ t.log = s.log ∧
      (if combOk = true ∧ max a0 (max a1 (max a2 a3)) ≤ min a0 (min a1 (min a2 a3)) + 8000000 then
        t.rd (Obj.CONV_PATH_DELAY 0) = a0 - min a0 (min a1 (min a2 a3)) ∧
        t.rd (Obj.CONV_PATH_DELAY 1) = a1 - min a0 (min a1 (min a2 a3)) ∧
        t.rd (Obj.CONV_PATH_DELAY 2) = a2 - min a0 (min a1 (min a2 a3)) ∧
        t.rd (Obj.CONV_PATH_DELAY 3) = a3 - min a0 (min a1 (min a2 a3)) ∧
        (∀ ch, ch < 4 → (t.chan ch).shift = (pathSplit (t.rd (Obj.CONV_PATH_DELAY ch))).1 ∧
          (t.chan ch).trim = (pathSplit (t.rd (Obj.CONV_PATH_DELAY ch))).2) ∧
        s.only t [Obj.CONV_PATH_DELAY 0, Obj.CONV_PATH_DELAY 1, Obj.CONV_PATH_DELAY 2, Obj.CONV_PATH_DELAY 3]
      else t.obj = s.obj ∧ t.chans = s.chans) := by
  rw [exec_boardPathSkewDone a0 a1 a2 a3 combOk hskew hu]
  let y := s.updConv fun c => { c with skew := none }
  split
  next hok =>
    generalize min a0 (min a1 (min a2 a3)) = lo
    let f : Nat → Nat := fun i => [a0, a1, a2, a3].getD i 0 - lo
    let x := y.putDelays r.sess f
    have hchans : (x.finish r .ok).chans = x.chans := finish_chans ..
    have hrest : (x.finish r .ok).rest = { s.rest with conv := { s.conv with skew := none }, chans := (x.finish r .ok).chans } := by
      rw [finish_rest, hchans, putDelays_rest]; rfl
    have hrd {c : Nat} (h4 : c < 4) : (x.finish r .ok).rd (Obj.CONV_PATH_DELAY c) = f c := by
      rw [finish_rd]; exact putDelays_rd _ _ f h4
    refine ⟨x.finish r .ok, done_eq (congrArg State.wall hrest :) (congrArg State.pending hrest :), hrest, ?_,
      hrd (by decide), hrd (by decide), hrd (by decide), hrd (by decide), fun ch h4 => ?_, fun q hq => ?_⟩
    · rw [finish_log, putDelays_log]; rfl
    · rw [hrd h4, chan_of_chans hchans]
      exact putDelays_chan (s := y) _ f hsz h4
    · simp only [List.mem_cons, List.not_mem_nil, or_false, not_or] at hq
      obtain ⟨h0, h1, h2, h3⟩ := hq
      rw [finish_rd, putDelays_rd_other]
      · rfl
      · intro c h4
        match c, h4 with
        | 0, _ => exact h0
        | 1, _ => exact h1
        | 2, _ => exact h2
        | 3, _ => exact h3
  next =>
    have hrest : (y.finish r .range).rest = { s.rest with conv := { s.conv with skew := none }, chans := s.chans } := by
      rw [finish_rest]; rfl
    have hchans : (y.finish r .range).chans = s.chans := (congrArg State.chans hrest :)
    exact ⟨y.finish r .range, done_eq (congrArg State.wall hrest :) (congrArg State.pending hrest :), by rw [hchans]; exact hrest,
      finish_log .., finish_obj .., hchans⟩

end State

/-! ### Shift and trim -/

/-- Rounding to the nearest ten is off by five at most; half a tick down goes to the even step above. -/
theorem ten_roundConv (i : Int) :
    i - 5 ≤ 10 * roundConv i 10 ∧ 10 * roundConv i 10 ≤ i + 5 ∧ (-15625 ≤ i → -1562 ≤ roundConv i 10) := by
  unfold roundConv
  dsimp only
  split_ifs <;> omega

theorem magnitude_le {i b : Int} (h1 : -b ≤ i) (h2 : i ≤ b) : magnitude i ≤ b := by
  unfold magnitude; split <;> omega

/-- The clause of R53: whole ticks to the nearest, and the rest in steps of 10 fs. -/
theorem pathSplit_spec (fs : Nat) : (pathSplit fs).2 % 10 = 0 ∧ -15625 ≤ (pathSplit fs).2 ∧ (pathSplit fs).2 ≤ 15624 ∧
    magnitude ((fs : Int) - (31250 * ((pathSplit fs).1 : Int) + (pathSplit fs).2)) ≤ 5 := by
  obtain ⟨n, hn⟩ : ∃ n, n = (fs + 15625) / 31250 := ⟨_, rfl⟩
  obtain ⟨x, hx⟩ : ∃ x, x = roundConv ((fs : Int) - n * 31250) 10 := ⟨_, rfl⟩
  have hp : pathSplit fs = (n, 10 * x) := by rw [hx, hn]; rfl
  have hr := ten_roundConv ((fs : Int) - n * 31250)
  rw [← hx] at hr
  obtain ⟨hlo, hhi, htie⟩ := hr
  rw [hp]
  dsimp only
  exact ⟨by omega, by omega, by omega, magnitude_le (by omega) (by omega)⟩

/-- Settles O3: each clause is the lemma of its command, the last one the arithmetic of the split. -/
theorem boardPaths : Obligations.BoardPaths := by
  unfold Obligations.BoardPaths
  refine ⟨?_, ?_, ?_, pathSplit_spec⟩
  · exact fun s sess tag ch v hsz h4 hs hf => State.convPathDelayWrite_ok hsz h4 hs hf
  · exact fun s sess tag hs hf hcal hskew => State.boardPathSkewCmd_accepted hs hf hcal hskew
  · exact fun s a0 a1 a2 a3 combOk r u hsz hskew hu => State.boardPathSkewDone_written a0 a1 a2 a3 combOk hsz hskew hu

end Sys2Proof.Machine

/-! ## The SYNC grid (R50 to R52): O4 -/

namespace Sys2Proof.Machine

set_option Elab.async false

/-! ### Rounding up -/

theorem le_ceilDiv_mul {b : Nat} (a : Nat) (hb : 0 < b) : a ≤ ceilDiv a b * b := by
  unfold ceilDiv
  have h := Nat.lt_div_mul_add (a := a + b - 1) hb
  omega

theorem le_roundUp {b : Nat} (a : Nat) (hb : 0 < b) : a ≤ roundUp a b := le_ceilDiv_mul a hb

theorem roundUp_mod (a b : Nat) : roundUp a b % b = 0 := Nat.mul_mod_left ..

namespace State

variable (s : State)

/-- The boundary of the grid from a tick on does not lie below it. -/
theorem le_boundaryFrom (e t : Nat) : t ≤ s.boundaryFrom e t := by
  unfold boundaryFrom
  split
  next h => exact Nat.le_of_ble_eq_true h
  next h =>
    have hlt : e < t := Nat.lt_of_not_le fun hle => h (Nat.ble_eq.mpr hle)
    have hp : 0 < s.gridPeriod := Nat.lt_of_lt_of_le Nat.zero_lt_one (Nat.le_max_left ..)
    have := le_ceilDiv_mul (t - e) hp
    omega

/-! ### Writes of CONV_SYNC_MODE -/

theorem syncModeCmd_align {s : State} {r : Req} (ha : s.conv.align = none) (hf : s.anyFeeds = false) :
    s.syncModeCmd 2 r = ((s.accept r).updConv fun c => { c with align := some (r, s.rd Obj.CONV_SYNC_MODE, s.wall + 320000000000) }).wrAll
      [(Obj.CONV_SYNC_MODE, 2), (Obj.CONV_SYNC_STATUS, 1)] := by
  have hten : 10 * tps = 320000000000 := rfl
  rw [← hten]
  have h : ¬ (s.conv.align.isSome || s.anyFeeds) = true := by rw [ha, hf]; exact Bool.false_ne_true
  exact if_neg h

theorem syncModeCmd_off {s : State} {r : Req} (ha : s.conv.align = none) :
    s.syncModeCmd 0 r = ((s.updConv fun c => { c with align := none, grid := none, syncOut := none }).wrAll
      [(Obj.CONV_SYNC_MODE, 0), (Obj.CONV_SYNC_STATUS, 0)]).answer r .ok := by
  unfold syncModeCmd
  rw [ha]
  rfl

theorem syncModeCmd_check {s : State} {r : Req} (ha : s.conv.align = none) (hm : s.rd Obj.CONV_SYNC_MODE = 1) :
    s.syncModeCmd 1 r = s.answer r .ok := by
  have h : ¬ s.conv.align.isSome = true := by rw [ha]; exact Bool.false_ne_true
  exact (if_neg h).trans (if_pos hm)

/-- The two objects of the mode after both are written. -/
theorem syncModes_rd (m x : Nat) :
    (s.wrAll [(Obj.CONV_SYNC_MODE, m), (Obj.CONV_SYNC_STATUS, x)]).rd Obj.CONV_SYNC_MODE = m ∧
      (s.wrAll [(Obj.CONV_SYNC_MODE, m), (Obj.CONV_SYNC_STATUS, x)]).rd Obj.CONV_SYNC_STATUS = x := by
  have hne : Obj.CONV_SYNC_MODE ≠ Obj.CONV_SYNC_STATUS := by decide
  exact ⟨(rd_wr_other _ _ _ _ hne).trans (rd_wr_same ..), rd_wr_same ..⟩

/-- A request stays outstanding over changes that leave the sessions' records alone. -/
theorem pended.of_sess {s t u : State} {i g k : Nat} (h : s.pended t i g k) (hs : u.sess = t.sess) : s.pended u i g k := by
  unfold pended at h ⊢
  simpa only [ses_of_sess hs] using h

/-- The clause of R50: ALIGN is accepted and waits 10 s. -/
theorem syncAlignCmd_accepted {s : State} {sess tag : Nat} (hs : s.serves sess tag Obj.CONV_SYNC_MODE 2 = true) (ha : s.conv.align = none)
    (hf : s.anyFeeds = false) :
    ∃ t, exec (.syncAlignCmd sess tag) s = .next t ∧ s.pended t sess tag Obj.CONV_SYNC_MODE ∧
      t.rd Obj.CONV_SYNC_MODE = 2 ∧ t.rd Obj.CONV_SYNC_STATUS = 1 ∧
      t.conv.align = some (s.req sess tag Obj.CONV_SYNC_MODE, s.rd Obj.CONV_SYNC_MODE, s.wall + 320000000000) ∧
      t.rest = { s.rest with conv := t.conv } ∧ t.log = s.log ∧ s.only t [Obj.CONV_SYNC_MODE, Obj.CONV_SYNC_STATUS] := by
  let r : Req := ⟨sess, (s.ses sess).inc, tag, Obj.CONV_SYNC_MODE⟩
  let x := ((s.hear sess).accept r).updConv fun c => { c with align := some (r, s.rd Obj.CONV_SYNC_MODE, s.wall + 320000000000) }
  let t := x.wrAll [(Obj.CONV_SYNC_MODE, 2), (Obj.CONV_SYNC_STATUS, 1)]
  have hrest : t.rest = { s.rest with conv := t.conv } := by
    unfold t
    rw [wrAll_rest, wrAll_conv]; unfold x
    rw [updConv_rest, accept_rest]; rfl
  obtain ⟨hmode, hstat⟩ := x.syncModes_rd 2 1
  have hp : s.pended ((s.hear sess).accept r) sess tag Obj.CONV_SYNC_MODE := pended_accept (serves_takes hs) _ rfl
  refine ⟨t, ?_, hp.of_sess (wrAll_sess ..), hmode, hstat, rfl, hrest, ?_, fun q hq => ?_⟩
  · show done s (s.direct sess tag Obj.CONV_SYNC_MODE 2 fun r s => s.syncModeCmd 2 r) = _
    rw [direct_serves _ hs, syncModeCmd_align (s := s.hear sess) ha hf]
    exact done_eq (congrArg State.wall hrest :) (congrArg State.pending hrest :)
  · exact (wrAll_log ..).trans (accept_log ..)
  · exact (rd_wrAll_other _ hq).trans (accept_rd ..)

/-- The clause of R52: OFF releases the grid. -/
theorem syncModeOff_ok {s : State} {sess tag : Nat} (hs : s.serves sess tag Obj.CONV_SYNC_MODE 0 = true) (ha : s.conv.align = none) :
    ∃ t, exec (.syncModeOff sess tag) s = .next t ∧ s.replied t sess tag Obj.CONV_SYNC_MODE .ok ∧
      t.rd Obj.CONV_SYNC_MODE = 0 ∧ t.rd Obj.CONV_SYNC_STATUS = 0 ∧
      t.rest = { s.rest with conv := { s.conv with align := none, grid := none, syncOut := none } } ∧ t.log = s.log ∧
      s.only t [Obj.CONV_SYNC_MODE, Obj.CONV_SYNC_STATUS] := by
  let r : Req := ⟨sess, (s.ses sess).inc, tag, Obj.CONV_SYNC_MODE⟩
  let x := (s.hear sess).updConv fun c => { c with align := none, grid := none, syncOut := none }
  let y := x.wrAll [(Obj.CONV_SYNC_MODE, 0), (Obj.CONV_SYNC_STATUS, 0)]
  have hrest : (y.answer r .ok).rest = { s.rest with conv := { s.conv with align := none, grid := none, syncOut := none } } := by
    rw [answer_rest]; unfold y
    rw [wrAll_rest]; rfl
  obtain ⟨hmode, hstat⟩ := x.syncModes_rd 0 0
  refine ⟨y.answer r .ok, ?_, replied_answer _ (serves_takes hs) _ (wrAll_sess ..), (answer_rd ..).trans hmode, (answer_rd ..).trans hstat,
    hrest, ?_, fun q hq => ?_⟩
  · show done s (s.direct sess tag Obj.CONV_SYNC_MODE 0 fun r s => s.syncModeCmd 0 r) = _
    rw [direct_serves _ hs, syncModeCmd_off (s := s.hear sess) ha]
    exact done_eq (congrArg State.wall hrest :) (congrArg State.pending hrest :)
  · exact (answer_log ..).trans (wrAll_log ..)
  · exact (answer_rd ..).trans (rd_wrAll_other _ hq)

/-- The clause of R50: CHECK is kept where it is the mode. -/
theorem syncModeCheck_ok {s : State} {sess tag : Nat} (hs : s.serves sess tag Obj.CONV_SYNC_MODE 1 = true) (ha : s.conv.align = none)
    (hm : s.rd Obj.CONV_SYNC_MODE = 1) :
    ∃ t, exec (.syncModeCheck sess tag) s = .next t ∧ s.replied t sess tag Obj.CONV_SYNC_MODE .ok ∧ s.keeps t [] := by
  let t := (s.hear sess).answer ⟨sess, (s.ses sess).inc, tag, Obj.CONV_SYNC_MODE⟩ .ok
  have hrest : t.rest = s.rest := answer_rest ..
  refine ⟨t, ?_, replied_answer _ (serves_takes hs) _ rfl, fun q _ => answer_rd .., hrest, answer_log ..⟩
  show done s (s.direct sess tag Obj.CONV_SYNC_MODE 1 fun r s => s.syncModeCmd 1 r) = _
  rw [direct_serves _ hs, syncModeCmd_check (s := s.hear sess) ha hm]
  exact done_eq (congrArg State.wall hrest :) (congrArg State.pending hrest :)

/-! ### The awaited edge does not come -/

/-- A grid that is kept is predicted again from the present tick on. -/
def repredicted (s : State) : State :=
  match s.conv.grid with
  | some e => s.updConv fun c => { c with nextCheck := s.boundaryFrom e s.tick, nextOut := s.boundaryFrom e s.tick }
  | none => s

theorem repredicted_frame : s.repredicted.rest = { s.rest with conv := s.repredicted.conv } ∧ s.repredicted.log = s.log ∧
    s.repredicted.obj = s.obj ∧ s.repredicted.conv.grid = s.conv.grid := by
  unfold repredicted
  split
  next h => exact ⟨rfl, rfl, rfl, rfl⟩
  next => exact ⟨rfl, rfl, rfl, rfl⟩

theorem repredicted_ahead {e : Nat} (h : s.conv.grid = some e) :
    s.tick ≤ s.repredicted.conv.nextCheck ∧ s.tick ≤ s.repredicted.conv.nextOut := by
  unfold repredicted
  rw [h]
  exact ⟨s.le_boundaryFrom e s.tick, s.le_boundaryFrom e s.tick⟩

/-- The clause of R50: no edge within 10 s gives the mode back. -/
theorem syncAlignTimeout_busy {s : State} {r : Req} {mode dl : Nat} (ha : s.conv.align = some (r, mode, dl)) (hdl : dl ≤ s.wall) :
    ∃ t, exec .syncAlignTimeout s = .next t ∧ t.rd Obj.CONV_SYNC_MODE = mode ∧ t.rd Obj.CONV_SYNC_STATUS = 4 ∧
      t.conv.align = none ∧ t.conv.grid = s.conv.grid ∧ (∀ e, s.conv.grid = some e → s.tick ≤ t.conv.nextCheck ∧ s.tick ≤ t.conv.nextOut) ∧
      t.rest = { s.rest with conv := t.conv } ∧ t.log = s.log ∧ s.only t [Obj.CONV_SYNC_MODE, Obj.CONV_SYNC_STATUS] := by
  let x := s.repredicted.updConv fun c => { c with align := none }
  let y := x.wrAll [(Obj.CONV_SYNC_MODE, mode), (Obj.CONV_SYNC_STATUS, 4)]
  obtain ⟨hpr, hpl, hpo, hpg⟩ := s.repredicted_frame
  have hconv : (y.finish r .busy).conv = x.conv := (finish_conv ..).trans (wrAll_conv ..)
  have hrest : (y.finish r .busy).rest = { s.rest with conv := (y.finish r .busy).conv } := by
    rw [hconv, finish_rest]; unfold y x
    rw [wrAll_rest, updConv_rest, hpr]
  obtain ⟨hmode, hstat⟩ := x.syncModes_rd mode 4
  refine ⟨y.finish r .busy, ?_, (finish_rd ..).trans hmode, (finish_rd ..).trans hstat, by rw [hconv]; rfl, by rw [hconv]; exact hpg,
    fun e he => by rw [hconv]; exact s.repredicted_ahead he, hrest, ?_, fun q hq => ?_⟩
  · have hb : ¬ Nat.blt s.wall dl = true := by rw [Nat.blt_eq]; omega
    show execSyncAlignTimeout s = _
    unfold execSyncAlignTimeout
    rw [ha]
    exact (congrArg (done s) (if_neg hb)).trans (done_eq (congrArg State.wall hrest :) (congrArg State.pending hrest :))
  · rw [finish_log, wrAll_log]; exact hpl
  · rw [finish_rd, rd_wrAll_other _ hq]
    show s.repredicted.obj.get dflt q = _
    rw [hpo]; rfl

/-! ### Rings whose content no flow holds -/

/-- A ring's objects that its restart writes. -/
def restartKeys (h : Nat) : List Nat := [Obj.RSV_HIST_ALLOC h, Obj.RSV_HIST_NEWEST h, Obj.RSV_HIST_OLDEST h]

/-- Those of all rings. -/
def ringRestartKeys : List Nat := (List.range 20).flatMap restartKeys

theorem mem_ringRestartKeys {q : Nat} : q ∈ ringRestartKeys ↔ ∃ h, h < 20 ∧ q ∈ restartKeys h := by
  simp [ringRestartKeys]

/-- An object that is none of the three of a ring. -/
theorem rd_of_noRestart {s t : State} (hrd : ∀ q, q ∉ ringRestartKeys → t.rd q = s.rd q) {i b : Nat} (hi : i % 16 ≠ 4 ∧ i % 16 ≠ 6 ∨ 0x5300 ≤ i)
    (hb : b < 256) : t.rd (key i b) = s.rd (key i b) := by
  refine hrd _ fun hm => ?_
  obtain ⟨h, h20, hm⟩ := mem_ringRestartKeys.mp hm
  simp only [restartKeys, List.mem_cons, List.not_mem_nil, or_false, Obj.RSV_HIST_ALLOC, Obj.RSV_HIST_NEWEST, Obj.RSV_HIST_OLDEST, key] at hm
  omega

/-- The flows of a ring follow from objects that no restart writes. -/
theorem refFlows_congr {s t : State} (hrd : ∀ q, q ∉ ringRestartKeys → t.rd q = s.rd q) (h : Nat) : t.refFlows h = s.refFlows h := by
  have hstate (f : Nat) : t.rd (Obj.FLOW_STATE f) = s.rd (Obj.FLOW_STATE f) := rd_of_noRestart hrd (by omega) (by decide)
  have hdir (f : Nat) : t.rd (Obj.FLOW_DIR f) = s.rd (Obj.FLOW_DIR f) := rd_of_noRestart hrd (by omega) (by decide)
  have hsrc (f : Nat) : t.rd (Obj.FLOW_SRC f) = s.rd (Obj.FLOW_SRC f) := rd_of_noRestart hrd (by omega) (by decide)
  have hindex (f : Nat) : t.rd (Obj.FLOW_SRC_INDEX f) = s.rd (Obj.FLOW_SRC_INDEX f) := rd_of_noRestart hrd (by omega) (by decide)
  have hcap (i : Nat) : t.rd (Obj.TRIG_CAP_TUNER i) = s.rd (Obj.TRIG_CAP_TUNER i) := rd_of_noRestart hrd (by omega) (by decide)
  have hrpl (i : Nat) : t.rd (Obj.RSV_RPL_RING i) = s.rd (Obj.RSV_RPL_RING i) := rd_of_noRestart hrd (by omega) (by decide)
  have hring (f : Nat) : t.flowRing f = s.flowRing f := by
    unfold flowRing
    simp only [hsrc, hindex, hcap, hrpl]
  unfold refFlows
  simp only [hstate, hdir, hring]

/-- With no frame held by the ring's flows none is lost. -/
theorem loseRef_none {s : State} {h : Nat} (hn : ∀ f ∈ s.refFlows h, (s.flow f).frames = []) : s.loseRef h = s :=
  foldl_eq_self fun f hf => by unfold missFrames; rw [hn f hf]; rfl

/-- A ring that restarts while no flow holds its content: the Reservoir and the ring's three objects change. -/
theorem discardRing_frame {s : State} {h : Nat} (hn : ∀ f ∈ s.refFlows h, (s.flow f).frames = []) :
    (s.discardRing h).rest = { s.rest with rsv := (s.discardRing h).rsv } ∧ (s.discardRing h).log = s.log ∧
      ∀ q, q ∉ restartKeys h → (s.discardRing h).rd q = s.rd q := by
  unfold discardRing
  rw [loseRef_none hn]
  refine ⟨rfl, rfl, fun q hq => ?_⟩
  simp only [restartKeys, List.mem_cons, List.not_mem_nil, or_false, not_or] at hq
  obtain ⟨ha, hw, ho⟩ := hq
  rw [rd_wr_other _ _ _ _ ho, rd_wr_other _ _ _ _ hw, rd_wr_other _ _ _ _ ha]
  rfl

/-- Every ring restarts while no flow holds a ring's content. -/
theorem discardRings_frame {s : State} (hn : ∀ h, h < 20 → ∀ f ∈ s.refFlows h, (s.flow f).frames = []) :
    ((List.range 20).foldl discardRing s).rest = { s.rest with rsv := ((List.range 20).foldl discardRing s).rsv } ∧
      ((List.range 20).foldl discardRing s).log = s.log ∧
      ∀ q, q ∉ ringRestartKeys → ((List.range 20).foldl discardRing s).rd q = s.rd q := by
  refine List.foldlRecOn (motive := fun t : State => t.rest = { s.rest with rsv := t.rsv } ∧ t.log = s.log ∧
    ∀ q, q ∉ ringRestartKeys → t.rd q = s.rd q) _ _ ⟨rfl, rfl, fun _ _ => rfl⟩ fun t ht h hh => ?_
  obtain ⟨hr, hl, hrd⟩ := ht
  have h20 := List.mem_range.mp hh
  have hflows : t.flows = s.flows := (congrArg State.flows hr :)
  obtain ⟨hr', hl', hrd'⟩ := discardRing_frame (s := t) (h := h) fun f hf => by
    unfold flow
    rw [hflows]
    exact hn h h20 f (refFlows_congr hrd h ▸ hf)
  refine ⟨by rw [hr', hr], hl'.trans hl, fun q hq => (hrd' q fun hm => ?_).trans (hrd q hq)⟩
  exact hq (mem_ringRestartKeys.mpr ⟨h, h20, hm⟩)

end State

namespace DataPath

variable {s0 s : State}

/-! ### A ring that restarts, whatever its flows hold -/

theorem loseFrame {f : Nat} {fr : TxFrame} (hs : DataPath s0 s) : DataPath s0 (s.loseFrame f fr) := by
  unfold State.loseFrame
  extract_lets _ _ _ _ _ _ s1
  have h1 : DataPath s0 s1 := ((hs.updFlow.countN (key_above (by omega))).countN (key_above (by omega))).wr (key_above (by omega))
  exact .ite h1.event h1

theorem missFrame {f : Nat} {fr : TxFrame} (hs : DataPath s0 s) : DataPath s0 (s.missFrame f fr) := by
  unfold State.missFrame
  exact .ite (hs.updFlow.enter.same rfl rfl rfl) hs.loseFrame

theorem missFrames {f : Nat} {p : TxFrame → Bool} (hs : DataPath s0 s) : DataPath s0 (s.missFrames f p) := by
  unfold State.missFrames; exact hs.foldl fun _ _ ht => ht.missFrame

theorem discardRing {h : Nat} (hs : DataPath s0 s) : DataPath s0 (s.discardRing h) := by
  have hl : DataPath s0 (s.loseRef h) := by unfold State.loseRef; exact hs.foldl fun _ _ ht => ht.missFrames
  unfold State.discardRing
  exact ((hl.updRing.wr (key_above (by omega))).wr (key_above (by omega))).wr (key_above (by omega))

end DataPath

/-! ### The edge -/

namespace State

/-- The state in which the rings restart: the tick index has its new value, channels and device time go on from it, and every tuner is
cleared. -/
def renumberedUnits (s : State) (t : Nat) : State :=
  (List.range 16).foldl (fun s i => s.updTuner i fun _ => {})
    ((List.range 4).foldl (fun x ch => x.updChan ch fun c => c.renumber s.tick t)
      { s with plumb := s.plumb.renumber s.tick t (s.rd Obj.PLMB_TIME_STATE), tick := t })

theorem renumber_eq (s : State) (t : Nat) : s.renumber t = (List.range 20).foldl discardRing (s.renumberedUnits t) := rfl

theorem renumberedUnits_frame (s : State) (t : Nat) :
    (s.renumberedUnits t).rest = { s.rest with
      tick := t, plumb := (s.renumberedUnits t).plumb, chans := (s.renumberedUnits t).chans, tuners := (s.renumberedUnits t).tuners } ∧
      (s.renumberedUnits t).log = s.log ∧ (s.renumberedUnits t).obj = s.obj := by
  unfold renumberedUnits
  refine List.foldlRecOn (motive := fun x : State => x.rest = { s.rest with tick := t, plumb := x.plumb, chans := x.chans, tuners := x.tuners } ∧
    x.log = s.log ∧ x.obj = s.obj) _ _ ?_ fun x ⟨hr, hl, ho⟩ i _ => ⟨by rw [updTuner_rest, hr]; rfl, hl, ho⟩
  exact List.foldlRecOn (motive := fun x : State => x.rest = { s.rest with tick := t, plumb := x.plumb, chans := x.chans, tuners := x.tuners } ∧
    x.log = s.log ∧ x.obj = s.obj) _ _ ⟨rfl, rfl, rfl⟩ fun x ⟨hr, hl, ho⟩ i _ => ⟨by rw [updChan_rest, hr]; rfl, hl, ho⟩

/-- Whatever the flows hold, the tick index has its value, and wall time and queue are as they were. -/
theorem renumber_time (s : State) (t : Nat) :
    (s.renumber t).tick = t ∧ (s.renumber t).wall = s.wall ∧ (s.renumber t).pending = s.pending := by
  obtain ⟨hr, -, -⟩ := s.renumberedUnits_frame t
  rw [renumber_eq]
  generalize s.renumberedUnits t = x at hr ⊢
  have hd : DataPath x ((List.range 20).foldl discardRing x) := (DataPath.refl x).foldl fun _ _ h => h.discardRing
  obtain ⟨hc, -, -⟩ := hd
  generalize (List.range 20).foldl discardRing x = y at hc ⊢
  exact ⟨((congrArg State.tick hc :) : y.tick = x.tick).trans (congrArg State.tick hr :),
    ((congrArg State.wall hc :) : y.wall = x.wall).trans (congrArg State.wall hr :),
    ((congrArg State.pending hc :) : y.pending = x.pending).trans (congrArg State.pending hr :)⟩

/-- A new tick index where no flow holds a ring's content: tick index, device time, channels, tuners and the Reservoir change, and of the
objects the rings'. -/
theorem renumber_frame {s : State} (t : Nat) (hn : ∀ h, h < 20 → ∀ f ∈ s.refFlows h, (s.flow f).frames = []) :
    (s.renumber t).rest = { s.rest with
      tick := t, plumb := (s.renumber t).plumb, chans := (s.renumber t).chans, tuners := (s.renumber t).tuners, rsv := (s.renumber t).rsv } ∧
      (s.renumber t).log = s.log ∧ ∀ q, q ∉ ringRestartKeys → (s.renumber t).rd q = s.rd q := by
  obtain ⟨hr, hl, ho⟩ := s.renumberedUnits_frame t
  rw [renumber_eq]
  generalize s.renumberedUnits t = x at hr hl ho ⊢
  have hflows : x.flows = s.flows := (congrArg State.flows hr :)
  have hrd (q : Nat) : x.rd q = s.rd q := by unfold rd; rw [ho]
  obtain ⟨hr', hl', hrd'⟩ := discardRings_frame (s := x) fun h h20 f hf => by
    unfold flow
    rw [hflows]
    exact hn h h20 f (refFlows_congr (fun q _ => hrd q) h ▸ hf)
  generalize (List.range 20).foldl discardRing x = y at hr' hl' hrd' ⊢
  have hplumb : y.plumb = x.plumb := (congrArg State.plumb hr' :)
  have hchans : y.chans = x.chans := (congrArg State.chans hr' :)
  have htuners : y.tuners = x.tuners := (congrArg State.tuners hr' :)
  exact ⟨by rw [hplumb, hchans, htuners, hr', hr], hl'.trans hl, fun q hq => (hrd' q hq).trans (hrd q)⟩

/-- What the edge leaves of a state renumbered to the loaded tick index: the grid is held from there on and the mode is CHECK. -/
def holdGrid (s : State) (load : Nat) : State :=
  ((s.updClk fun c => { c with seededAt := load }).updConv fun c =>
    { c with align := none, grid := some load, nextCheck := load + s.gridPeriod, nextOut := load }).wr Obj.CONV_SYNC_MODE 1

theorem exec_syncAlignEdge {s : State} {r : Req} {mode dl : Nat} (ha : s.conv.align = some (r, mode, dl)) (hdl : s.wall < dl)
    (hlock : s.masterLocked = true) (hr : r.sess ≠ 254) :
    exec .syncAlignEdge s = done s (((s.renumber (s.rd Obj.CONV_SYNC_LOAD)).holdGrid (s.rd Obj.CONV_SYNC_LOAD)).finish r .ok) := by
  show execSyncAlignEdge s = _
  have hb : ¬ (Nat.ble dl s.wall || !s.masterLocked || (r.sess == 254 && s.anyFeeds)) = true := by
    have hble : Nat.ble dl s.wall = false := by rw [Bool.eq_false_iff, Ne, Nat.ble_eq]; omega
    simp [hble, hlock, hr]
  unfold execSyncAlignEdge
  rw [ha]
  exact congrArg (done s) (if_neg hb)

/-- The clause of R50: the edge loads the tick index and enters CHECK. -/
theorem syncAlignEdge_checks {s : State} {r : Req} {mode dl : Nat} (ha : s.conv.align = some (r, mode, dl)) (hdl : s.wall < dl)
    (hlock : s.masterLocked = true) (hr : r.sess ≠ 254) :
    ∃ t, exec .syncAlignEdge s = .next t ∧ t.tick = s.rd Obj.CONV_SYNC_LOAD ∧ t.rd Obj.CONV_SYNC_MODE = 1 ∧
      t.conv.align = none ∧ t.conv.grid = some (s.rd Obj.CONV_SYNC_LOAD) ∧ t.clk.seededAt = s.rd Obj.CONV_SYNC_LOAD ∧
      ((∀ h, h < 20 → ∀ f ∈ s.refFlows h, (s.flow f).frames = []) →
        t.rest = { s.rest with tick := t.tick, plumb := t.plumb, chans := t.chans, tuners := t.tuners, rsv := t.rsv, clk := t.clk, conv := t.conv } ∧
        t.log = s.log ∧ s.only t (Obj.CONV_SYNC_MODE :: (List.range 20).flatMap fun h =>
          [Obj.RSV_HIST_ALLOC h, Obj.RSV_HIST_NEWEST h, Obj.RSV_HIST_OLDEST h])) := by
  rw [exec_syncAlignEdge ha hdl hlock hr]
  generalize s.rd Obj.CONV_SYNC_LOAD = load
  obtain ⟨htick, hwall, hpend⟩ := s.renumber_time load
  have hframe := s.renumber_frame load
  generalize s.renumber load = x at htick hwall hpend hframe ⊢
  have hrest : ((x.holdGrid load).finish r .ok).rest = (x.holdGrid load).rest := finish_rest ..
  have hlog : ((x.holdGrid load).finish r .ok).log = x.log := finish_log ..
  have hrd (q : Nat) : ((x.holdGrid load).finish r .ok).rd q = (x.holdGrid load).rd q := finish_rd ..
  generalize (x.holdGrid load).finish r .ok = t at hrest hlog hrd ⊢
  have htt : t.tick = x.tick := (congrArg State.tick hrest :)
  have hconv : t.conv = (x.holdGrid load).conv := (congrArg State.conv hrest :)
  have hclk : t.clk = (x.holdGrid load).clk := (congrArg State.clk hrest :)
  have hx : t.rest = { x.rest with clk := t.clk, conv := t.conv } := by rw [hconv, hclk, hrest]; rfl
  refine ⟨t, done_eq ((congrArg State.wall hx :) |>.trans hwall) ((congrArg State.pending hx :) |>.trans hpend), htt.trans htick, ?_, ?_, ?_, ?_,
    fun hn => ?_⟩
  · rw [hrd]; exact rd_wr_same ..
  · rw [hconv]; rfl
  · rw [hconv]; rfl
  · rw [hclk]; rfl
  · obtain ⟨hxr, hxl, hxrd⟩ := hframe hn
    have hplumb : t.plumb = x.plumb := (congrArg State.plumb hx :)
    have hchans : t.chans = x.chans := (congrArg State.chans hx :)
    have htuners : t.tuners = x.tuners := (congrArg State.tuners hx :)
    have hrsv : t.rsv = x.rsv := (congrArg State.rsv hx :)
    refine ⟨by rw [htt, htick, hplumb, hchans, htuners, hrsv, hx, hxr], hlog.trans hxl, fun q hq => ?_⟩
    rw [List.mem_cons, not_or] at hq
    obtain ⟨hm, hq⟩ := hq
    rw [hrd]
    exact (rd_wr_other _ _ _ _ hm).trans (hxrd q hq)

/-! ### Predicted boundaries -/

/-- A failed check: every channel notes the boundary, the failure shows, is counted and reported. -/
theorem boundaryFails_frame (s : State) (b : Nat) :
    (s.boundaryFails b).rest = { s.rest with chans := (s.boundaryFails b).chans } ∧
      (s.boundaryFails b).rd Obj.CONV_SYNC_STATUS = 3 ∧
      (s.boundaryFails b).rd Obj.CONV_SYNC_ERR = min (2 ^ 32 - 1) (s.rd Obj.CONV_SYNC_ERR + 1) ∧
      s.onlyE (s.boundaryFails b) [Obj.CONV_SYNC_STATUS, Obj.CONV_SYNC_ERR] := by
  have hne : Obj.CONV_SYNC_STATUS ≠ Obj.CONV_SYNC_ERR := by decide
  obtain ⟨x, hx⟩ : ∃ x, x = (List.range 4).foldl (fun s ch => s.updChan ch fun x => { x with slips := b :: x.slips }) s := ⟨_, rfl⟩
  have hxf : x.rest = { s.rest with chans := x.chans } ∧ x.obj = s.obj := by
    rw [hx]
    exact List.foldlRecOn (motive := fun x : State => x.rest = { s.rest with chans := x.chans } ∧ x.obj = s.obj) _ _ ⟨rfl, rfl⟩
      fun x ⟨hr, ho⟩ ch _ => ⟨by rw [updChan_rest, hr], ho⟩
  obtain ⟨hr, ho⟩ := hxf
  have hrd (q : Nat) : x.rd q = s.rd q := by unfold rd; rw [ho]
  have heq : s.boundaryFails b =
      ((x.wr Obj.CONV_SYNC_STATUS 3).count Obj.CONV_SYNC_ERR).event 2 254 0x0102 (b / 2 ^ 36) (b % 2 ^ 36) := by rw [hx]; rfl
  rw [heq]
  refine ⟨?_, ?_, ?_, fun q hq he => ?_⟩
  · rw [event_chans, event_rest, count_rest, wr_rest, hr]; rfl
  · rw [event_rd _ _ _ _ _ _ _ _ (by decide), rd_count, if_neg hne, rd_wr_same]
  · rw [event_rd _ _ _ _ _ _ _ _ (by decide), rd_count, if_pos rfl, rd_wr_other _ _ _ _ hne.symm, hrd]
  · simp only [List.mem_cons, List.not_mem_nil, or_false, not_or] at hq
    rw [event_rd _ _ _ _ _ _ _ _ he, rd_count, if_neg hq.2, rd_wr_other _ _ _ _ hq.1, hrd]

/-- n failed checks of one boundary: the counter saturates. -/
theorem boundaryFails_times (s : State) (b n : Nat) :
    ((List.range n).foldl (fun s _ => s.boundaryFails b) s).rest =
        { s.rest with chans := ((List.range n).foldl (fun s _ => s.boundaryFails b) s).chans } ∧
      min (2 ^ 32 - 1) (((List.range n).foldl (fun s _ => s.boundaryFails b) s).rd Obj.CONV_SYNC_ERR) =
        min (2 ^ 32 - 1) (s.rd Obj.CONV_SYNC_ERR + n) ∧
      (n ≠ 0 → ((List.range n).foldl (fun s _ => s.boundaryFails b) s).rd Obj.CONV_SYNC_STATUS = 3 ∧
        ((List.range n).foldl (fun s _ => s.boundaryFails b) s).rd Obj.CONV_SYNC_ERR ≤ 2 ^ 32 - 1) ∧
      s.onlyE ((List.range n).foldl (fun s _ => s.boundaryFails b) s) [Obj.CONV_SYNC_STATUS, Obj.CONV_SYNC_ERR] := by
  induction n with
  | zero => exact ⟨rfl, rfl, fun h => absurd rfl h, fun _ _ _ => rfl⟩
  | succ n ih =>
    rw [List.range_succ, List.foldl_append, List.foldl_cons, List.foldl_nil]
    generalize (List.range n).foldl (fun s _ => s.boundaryFails b) s = x at ih ⊢
    obtain ⟨hr, hv, -, ho⟩ := ih
    obtain ⟨hr', hstat, herr, ho'⟩ := x.boundaryFails_frame b
    exact ⟨by rw [hr', hr], by omega, fun _ => ⟨hstat, by omega⟩, fun q hq he => (ho' q hq he).trans (ho q hq he)⟩

/-- The modulator restarts at the boundary, and the next one is predicted. -/
def boundaryPassed (s : State) (e : Nat) : State :=
  (s.updClk fun c => { c with seededAt := s.conv.nextCheck }).updConv fun c => { c with nextCheck := s.boundaryFrom e (s.conv.nextCheck + 1) }

theorem exec_syncCheckBoundary {s : State} {e : Nat} (edges : List Int) (hg : s.conv.grid = some e) (hm : s.rd Obj.CONV_SYNC_MODE = 1)
    (hn : s.conv.nextCheck ≤ s.tick) :
    exec (.syncCheckBoundary edges) s = done s (if edgeFailures edges = 0 then (s.boundaryPassed e).wr Obj.CONV_SYNC_STATUS 2
      else (List.range (edgeFailures edges)).foldl (fun x _ => x.boundaryFails s.conv.nextCheck) (s.boundaryPassed e)) := by
  show execSyncCheckBoundary edges s = _
  have hb : ¬ (s.rd Obj.CONV_SYNC_MODE != 1 || Nat.blt s.tick s.conv.nextCheck) = true := by
    rw [Bool.or_eq_true, bne_iff_ne, Nat.blt_eq]; omega
  unfold execSyncCheckBoundary
  rw [hg]
  exact congrArg (done s) (if_neg hb)

/-- The clause of R51: a predicted boundary is checked, and the next one lies after it. -/
theorem syncCheckBoundary_checked {s : State} {e : Nat} (edges : List Int) (hg : s.conv.grid = some e) (hm : s.rd Obj.CONV_SYNC_MODE = 1)
    (hn : s.conv.nextCheck ≤ s.tick) :
    ∃ t, exec (.syncCheckBoundary edges) s = .next t ∧ s.conv.nextCheck < t.conv.nextCheck ∧
      t.clk = { s.clk with seededAt := s.conv.nextCheck } ∧
      t.rest = { s.rest with conv := t.conv, clk := t.clk, chans := t.chans } ∧
      (edges = [0] → t.rd Obj.CONV_SYNC_STATUS = 2 ∧ t.chans = s.chans ∧ t.log = s.log ∧ s.only t [Obj.CONV_SYNC_STATUS]) ∧
      (edgeFailures edges ≠ 0 → t.rd Obj.CONV_SYNC_STATUS = 3 ∧
        t.rd Obj.CONV_SYNC_ERR = min (2 ^ 32 - 1) (s.rd Obj.CONV_SYNC_ERR + edgeFailures edges) ∧
        s.onlyE t [Obj.CONV_SYNC_STATUS, Obj.CONV_SYNC_ERR]) := by
  have hahead : s.conv.nextCheck < (s.boundaryPassed e).conv.nextCheck := s.le_boundaryFrom e (s.conv.nextCheck + 1)
  have hxc : (s.boundaryPassed e).clk = { s.clk with seededAt := s.conv.nextCheck } := rfl
  have hxr : (s.boundaryPassed e).rest = { s.rest with conv := (s.boundaryPassed e).conv, clk := (s.boundaryPassed e).clk } := rfl
  have hxl : (s.boundaryPassed e).log = s.log := rfl
  have hxh : (s.boundaryPassed e).chans = s.chans := rfl
  have hxrd (q : Nat) : (s.boundaryPassed e).rd q = s.rd q := rfl
  rw [exec_syncCheckBoundary edges hg hm hn]
  generalize s.boundaryPassed e = x at *
  split
  next h0 =>
    have hrest : (x.wr Obj.CONV_SYNC_STATUS 2).rest = { s.rest with conv := x.conv, clk := x.clk, chans := x.chans } := by
      rw [wr_rest, hxr, hxh]; rfl
    exact ⟨x.wr Obj.CONV_SYNC_STATUS 2, done_eq (congrArg State.wall hrest :) (congrArg State.pending hrest :), hahead, hxc, hrest,
      fun _ => ⟨rd_wr_same .., hxh, hxl, fun q hq => (rd_wr_other _ _ _ _ (by simpa using hq)).trans (hxrd q)⟩, fun hf => absurd h0 hf⟩
  next h0 =>
    obtain ⟨hr, herr, hstat, ho⟩ := x.boundaryFails_times s.conv.nextCheck (edgeFailures edges)
    generalize (List.range (edgeFailures edges)).foldl (fun x _ => x.boundaryFails s.conv.nextCheck) x = t at hr herr hstat ho ⊢
    have hconv : t.conv = x.conv := (congrArg State.conv hr :)
    have hclk : t.clk = x.clk := (congrArg State.clk hr :)
    have hrest : t.rest = { s.rest with conv := t.conv, clk := t.clk, chans := t.chans } := by rw [hconv, hclk, hr, hxr]
    refine ⟨t, done_eq (congrArg State.wall hrest :) (congrArg State.pending hrest :), by rw [hconv]; exact hahead, hclk.trans hxc, hrest,
      fun h => ?_, fun hf => ⟨(hstat hf).1, ?_, fun q hq he => (ho q hq he).trans (hxrd q)⟩⟩
    · subst h; exact absurd (by decide) h0
    · have hle := (hstat hf).2
      rw [hxrd] at herr
      rw [← herr]; exact (Nat.min_eq_right hle).symm

/-- The clause of R52: SYNC_OUT pulses after a boundary that has passed by 4,096 ticks. -/
theorem syncOutPulse_pulses {s : State} {e : Nat} (hg : s.conv.grid = some e) (hm : s.rd Obj.CONV_SYNC_MODE = 1)
    (hn : s.conv.nextOut + 4096 ≤ s.tick) :
    ∃ t, exec .syncOutPulse s = .next t ∧ s.conv.nextOut < t.conv.nextOut ∧
      t.conv.syncOut = (if s.rdB Obj.CONV_SYNC_OUT_EN = true then some (s.conv.nextOut + 4096, s.conv.nextOut + 4160)
        else s.conv.syncOut) ∧ t.rest = { s.rest with conv := t.conv } ∧ t.obj = s.obj ∧ t.sess = s.sess ∧ t.log = s.log := by
  let x := s.updConv fun c => { c with nextOut := s.boundaryFrom e (s.conv.nextOut + 1) }
  let y := x.updConv fun c => { c with syncOut := some (s.conv.nextOut + 4096, s.conv.nextOut + 4160) }
  have hb : ¬ (s.rd Obj.CONV_SYNC_MODE != 1 || Nat.blt s.tick (s.conv.nextOut + 4096)) = true := by
    rw [Bool.or_eq_true, bne_iff_ne, Nat.blt_eq]; omega
  have hexec : exec .syncOutPulse s = done s (if s.rdB Obj.CONV_SYNC_OUT_EN then y else x) := by
    show execSyncOutPulse s = _
    unfold execSyncOutPulse
    rw [hg]
    exact congrArg (done s) (if_neg hb)
  have hahead : s.conv.nextOut < x.conv.nextOut := s.le_boundaryFrom e (s.conv.nextOut + 1)
  rw [hexec]
  cases s.rdB Obj.CONV_SYNC_OUT_EN with
  | true => exact ⟨y, rfl, hahead, rfl, rfl, rfl, rfl, rfl⟩
  | false => exact ⟨x, rfl, hahead, rfl, rfl, rfl, rfl, rfl⟩

end State

/-- Settles O4: each clause is the lemma of its command. -/
theorem syncGrid : Obligations.SyncGrid := by
  unfold Obligations.SyncGrid
  refine ⟨?_, ?_, ?_, ?_, ?_, ?_, ?_⟩
  · exact fun s sess tag hs ha hf => State.syncAlignCmd_accepted hs ha hf
  · exact fun s r mode dl ha hdl hlock hr => State.syncAlignEdge_checks ha hdl hlock hr
  · exact fun s r mode dl ha hdl => State.syncAlignTimeout_busy ha hdl
  · exact fun s sess tag hs ha => State.syncModeOff_ok hs ha
  · exact fun s sess tag hs ha hm => State.syncModeCheck_ok hs ha hm
  · exact fun s edges e hg hm hn => State.syncCheckBoundary_checked edges hg hm hn
  · exact fun s e hg hm hn => State.syncOutPulse_pulses hg hm hn

end Sys2Proof.Machine

/-! ## Converter blocks and a channel's Joint (R13, R33, R34, R36, R352): O1 -/

namespace Sys2Proof.Machine

set_option Elab.async false

/-- Between `s` and `t` no more differs than channel `ch`, the tuners and the objects named. -/
structure ChannelFrame (ch : Nat) (keys : List Nat) (s t : State) : Prop where
  rest : t.rest = { s.rest with chans := t.chans, tuners := t.tuners }
  length : t.chans.length = s.chans.length
  sess : t.sess = s.sess
  log : t.log = s.log
  chan : ∀ i, i ≠ ch → t.chan i = s.chan i
  only : s.only t keys

namespace ChannelFrame

variable {ch : Nat} {keys : List Nat} {s t u : State}

theorem refl (ch : Nat) (keys : List Nat) (s : State) : ChannelFrame ch keys s s := ⟨rfl, rfl, rfl, rfl, fun _ _ => rfl, fun _ _ => rfl⟩

theorem trans (h : ChannelFrame ch keys s t) (h' : ChannelFrame ch keys t u) : ChannelFrame ch keys s u where
  rest := by rw [h'.rest, h.rest]
  length := h'.length.trans h.length
  sess := h'.sess.trans h.sess
  log := h'.log.trans h.log
  chan i hi := (h'.chan i hi).trans (h.chan i hi)
  only q hq := (h'.only q hq).trans (h.only q hq)

/-- More objects may be named. -/
theorem mono {keys' : List Nat} (h : ChannelFrame ch keys s t) (hk : keys ⊆ keys') : ChannelFrame ch keys' s t :=
  { h with only := fun q hq => h.only q fun hm => hq (hk hm) }

theorem wr {k : Nat} (v : Nat) (h : ChannelFrame ch keys s t) (hk : k ∈ keys) : ChannelFrame ch keys s (t.wr k v) :=
  { h with
    rest := h.rest
    chan := h.chan
    only := fun q hq => (State.rd_wr_other _ _ _ _ (ne_of_mem_of_not_mem hk hq).symm).trans (h.only q hq) }

theorem updChan (f : Chan → Chan) (h : ChannelFrame ch keys s t) : ChannelFrame ch keys s (t.updChan ch f) where
  rest := by rw [State.updChan_rest, h.rest]; rfl
  length := (List.length_modify ..).trans h.length
  sess := h.sess
  log := h.log
  chan i hi := (State.chan_updChan_other t f hi).trans (h.chan i hi)
  only := h.only

theorem updTuner (i : Nat) (f : Tuner → Tuner) (h : ChannelFrame ch keys s t) : ChannelFrame ch keys s (t.updTuner i f) where
  rest := by rw [State.updTuner_rest, h.rest]; rfl
  length := h.length
  sess := h.sess
  log := h.log
  chan := h.chan
  only := h.only

theorem foldl {α : Type} {f : State → α → State} {l : List α} (h : ChannelFrame ch keys s t)
    (hf : ∀ a ∈ l, ∀ x, ChannelFrame ch keys s x → ChannelFrame ch keys s (f x a)) : ChannelFrame ch keys s (l.foldl f t) :=
  List.foldlRecOn l f h fun x hx a ha => hf a ha x hx

theorem ite {c : Prop} [Decidable c] (h : ChannelFrame ch keys s t) (h' : ChannelFrame ch keys s u) :
    ChannelFrame ch keys s (if c then t else u) := by
  split
  · exact h
  · exact h'

/-- Where the tuners too are as they were, beyond the dictionary only the channel has changed. -/
theorem rest_chans (h : ChannelFrame ch keys s t) (ht : t.tuners = s.tuners) : t.rest = { s.rest with chans := t.chans } := by
  rw [h.rest, ht]; rfl

theorem done (h : ChannelFrame ch keys s t) : done s t = .next t :=
  done_eq (congrArg State.wall h.rest :) (congrArg State.pending h.rest :)

end ChannelFrame

namespace State

/-! ### A block that is converted -/

/-- With no run of dropped blocks there is none to name. -/
theorem endDrops_none {s : State} {ch : Nat} (h : (s.chan ch).drops = none) : s.endDrops ch = s := by
  unfold endDrops; rw [h]

/-- The corrected values of a block, times 2^76. -/
def corrected (s : State) (ch : Nat) (prev : Int) (raw : List Int) (next : Int) : List Int :=
  correctedBlock (s.factors ch 0) (s.factors ch 1) (s.factors ch 2) (s.factors ch 3) prev raw next

/-- The samples of a block that saturate. -/
def outsideOf (y : List Int) : List Nat := (List.range 64).filter fun k => overflows12 (y.getD k 0)

/-- Saturated samples are counted, and the channel notes the block that was converted (R31, R33). -/
def converted (s : State) (ch n : Nat) (raw : List Int) (next : Int) (y : List Int) : State :=
  (match (outsideOf y).getLast? with
  | some k => (s.countN (Obj.CONV_OVR_COUNT ch) (outsideOf y).length).wr (Obj.CONV_OVR_LAST ch) (64 * n + k)
  | none => s).updChan ch fun x => { x.seen (y.map code12) (!(outsideOf y).isEmpty) with lastRaw := some (n, raw.getD 63 0, next) }

/-- Block n of a channel that converts is due, whole, and joins the block converted before (R33, R34). -/
structure BlockDue (s : State) (ch n : Nat) (prev : Int) (raw : List Int) : Prop where
  unit : ch < 4
  enabled : s.rdB (Obj.CONV_ENABLE ch) = true
  unfenced : s.convFenced ch = false
  counts : s.conv.counts = true
  whole : raw.length = 64
  due : (s.chan ch).dueBlock = some n
  passed : 64 * (n + 1) ≤ s.tick
  joins : (s.chan ch).joins n prev (raw.headD 0) = true

variable {s : State} {ch n : Nat} {prev next : Int} {raw y : List Int}

theorem converted_frame : ChannelFrame ch [Obj.CONV_OVR_COUNT ch, Obj.CONV_OVR_LAST ch] s (s.converted ch n raw next y) := by
  have h := ChannelFrame.refl ch [Obj.CONV_OVR_COUNT ch, Obj.CONV_OVR_LAST ch] s
  unfold converted
  split
  · exact ((h.wr _ (by simp)).wr _ (by simp)).updChan _
  · exact h.updChan _

theorem converted_tuners : (s.converted ch n raw next y).tuners = s.tuners := by
  unfold converted; split <;> rfl

/-- Of the channel what tracking has seen and the latest raw codes change; the queue does not. -/
theorem converted_chan (hl : ch < s.chans.length) : ((s.converted ch n raw next y).chan ch).fill = (s.chan ch).fill ∧
    ((s.converted ch n raw next y).chan ch).hist = (s.chan ch).hist ∧ ((s.converted ch n raw next y).chan ch).drops = (s.chan ch).drops ∧
    ((s.converted ch n raw next y).chan ch).withheld = (s.chan ch).withheld := by
  have hc : (s.converted ch n raw next y).chan ch =
      { (s.chan ch).seen (y.map code12) (!(outsideOf y).isEmpty) with lastRaw := some (n, raw.getD 63 0, next) } := by
    unfold converted
    split <;> exact chan_updChan_same _ hl
  rw [hc]
  unfold Chan.seen
  split <;> exact ⟨rfl, rfl, rfl, rfl⟩

/-- A block that is due and joins the one before it enters, or finds the queue full. -/
theorem exec_converterBlockEntry (hd : BlockDue s ch n prev raw) (hy : y = s.corrected ch prev raw next) :
    exec (.converterBlockEntry ch prev raw next) s = done s
      (if Nat.ble 1024 ((s.converted ch n raw next y).chan ch).fill then (s.converted ch n raw next y).dropBlock ch n
      else (s.converted ch n raw next y).enterBlock ch n (b2n (!(outsideOf y).isEmpty)) (y.map code12)) := by
  obtain ⟨h4, hon, hfence, hcounts, hraw, hdue, htick, hjoin⟩ := hd
  have hguard : ¬ (Nat.ble 4 ch || !s.rdB (Obj.CONV_ENABLE ch) || s.convFenced ch || raw.length != 64 || !s.conv.counts ||
      Nat.blt s.tick (64 * (n + 1)) || !(s.chan ch).joins n prev (raw.headD 0)) = true := by
    have hble : Nat.ble 4 ch = false := by rw [Bool.eq_false_iff, Ne, Nat.ble_eq]; omega
    have hblt : Nat.blt s.tick (64 * (n + 1)) = false := by rw [Bool.eq_false_iff, Ne, Nat.blt_eq]; omega
    rw [hble, hblt, hon, hfence, hcounts, hjoin, hraw]; decide
  subst hy
  show execConverterBlockEntry ch prev raw next s = _
  unfold execConverterBlockEntry
  rw [hdue]
  exact congrArg (done s) (if_neg hguard)

/-! ### The block enters -/

/-- Block n enters a channel that has neither dropped nor withheld any: the token heads its history, and its state and the queue's peak
follow. -/
theorem enterBlock_plain {st : Nat} {codes : List Int} (hdrops : (s.chan ch).drops = none) (hheld : (s.chan ch).withheld = none)
    (hfill : (s.chan ch).fill < 512) (hraw : s.rdB (Obj.RSV_HIST_ENABLE (16 + ch)) = false) :
    ∃ (f : Chan → Chan) (v w status : Nat),
      s.enterBlock ch n st codes = ((s.updChan ch f).wr (Obj.CONV_STATE ch) v).wr (Obj.DEV_CONVQ_PEAK ch) w ∧
      ∀ x, (f x).fill = x.fill + 1 ∧ (f x).nextBlock = n + 1 ∧ (f x).entered = 64 * (n + 1) ∧
        (f x).hist.head? = some (s.blockToken ch n status codes) := by
  unfold enterBlock
  extract_lets s0 resumed s1 x slip status s2 s3 h s4
  have hs1 : s1 = s := by
    unfold s1 s0
    rw [endDrops_none hdrops, hheld]
  have hs4 : s4 = s3 := by
    have hb : s3.rdB (Obj.RSV_HIST_ENABLE h) = false := by
      unfold s3 s2 peak rdB h
      rw [rd_wr_other _ _ _ _ (by unfold Obj.RSV_HIST_ENABLE Obj.DEV_CONVQ_PEAK key; omega),
        rd_wr_other _ _ _ _ (by unfold Obj.RSV_HIST_ENABLE Obj.CONV_STATE key; omega), updChan_rd, hs1]
      exact hraw
    unfold s4
    rw [hb, Bool.false_and]
    exact if_neg Bool.false_ne_true
  have hx : x.fill ≠ 512 := by unfold x; rw [hs1]; omega
  rw [if_neg hx, hs4, ← hs1]
  exact ⟨_, _, _, status, rfl, fun y => ⟨rfl, rfl, rfl, rfl⟩⟩

theorem blockToken_congr {s t : State} (h : t.gens = s.gens) (ch n st : Nat) (codes : List Int) :
    t.blockToken ch n st codes = s.blockToken ch n st codes := by
  unfold blockToken gen; rw [h]

/-- The clause of R34: the block enters the queue. -/
theorem converterBlockEntry_enters (hsz : s.Sized) (hd : BlockDue s ch n prev raw) (hfill : (s.chan ch).fill < 512)
    (hdrops : (s.chan ch).drops = none) (hheld : (s.chan ch).withheld = none) (hring : s.rdB (Obj.RSV_HIST_ENABLE (16 + ch)) = false) :
    ∃ t, exec (.converterBlockEntry ch prev raw next) s = .next t ∧
      (t.chan ch).fill = (s.chan ch).fill + 1 ∧ (t.chan ch).nextBlock = n + 1 ∧
      (∃ st, (t.chan ch).hist.head? = some (s.blockToken ch n st
        ((correctedBlock (s.factors ch 0) (s.factors ch 1) (s.factors ch 2) (s.factors ch 3) prev raw next).map code12))) ∧
      (t.chan ch).entered = 64 * (n + 1) ∧
      (∀ c, c ≠ ch → t.chan c = s.chan c) ∧ t.rest = { s.rest with chans := t.chans } ∧ t.sess = s.sess ∧ t.log = s.log ∧
      s.only t [Obj.CONV_OVR_COUNT ch, Obj.CONV_OVR_LAST ch, Obj.CONV_STATE ch, Obj.DEV_CONVQ_PEAK ch] := by
  obtain ⟨y, hy⟩ : ∃ y, y = s.corrected ch prev raw next := ⟨_, rfl⟩
  have hl : ch < s.chans.length := by rw [hsz.chans_length]; exact hd.unit
  have hframe : ChannelFrame ch _ s (s.converted ch n raw next y) := converted_frame
  have htuners : (s.converted ch n raw next y).tuners = s.tuners := converted_tuners
  obtain ⟨hxf, -, hxd, hxw⟩ := converted_chan (n := n) (raw := raw) (next := next) (y := y) hl
  rw [exec_converterBlockEntry hd hy]
  generalize s.converted ch n raw next y = x at hframe htuners hxf hxd hxw ⊢
  have hring' : x.rdB (Obj.RSV_HIST_ENABLE (16 + ch)) = false := by
    unfold rdB
    rw [hframe.only _ (by
      simp only [List.mem_cons, List.not_mem_nil, or_false, Obj.RSV_HIST_ENABLE, Obj.CONV_OVR_COUNT, Obj.CONV_OVR_LAST, key]; omega)]
    exact hring
  have hble : ¬ Nat.ble 1024 (x.chan ch).fill = true := by rw [Nat.ble_eq]; omega
  obtain ⟨f, v, w, st, heq, hf⟩ := enterBlock_plain (s := x) (n := n) (st := b2n (!(outsideOf y).isEmpty)) (codes := y.map code12)
    (hxd.trans hdrops) (hxw.trans hheld) (by omega) hring'
  obtain ⟨hff, hfn, hfe, hfh⟩ := hf (x.chan ch)
  rw [if_neg hble, heq]
  have ht : ChannelFrame ch [Obj.CONV_OVR_COUNT ch, Obj.CONV_OVR_LAST ch, Obj.CONV_STATE ch, Obj.DEV_CONVQ_PEAK ch] s
      (((x.updChan ch f).wr (Obj.CONV_STATE ch) v).wr (Obj.DEV_CONVQ_PEAK ch) w) :=
    (((hframe.mono (by simp)).updChan f).wr v (by simp)).wr w (by simp)
  have htc : (((x.updChan ch f).wr (Obj.CONV_STATE ch) v).wr (Obj.DEV_CONVQ_PEAK ch) w).chan ch = f (x.chan ch) :=
    chan_updChan_same f (hframe.length.symm ▸ hl)
  have hgens : x.gens = s.gens := (congrArg State.gens hframe.rest :)
  refine ⟨_, ht.done, ?_, ?_, ⟨st, ?_⟩, ?_, ht.chan, ht.rest_chans htuners, ht.sess, ht.log, ht.only⟩
  · rw [htc, hff, hxf]
  · rw [htc, hfn]
  · rw [htc, hfh, blockToken_congr hgens, hy]; rfl
  · rw [htc, hfe]

/-! ### The block is dropped -/

/-- A dropped block: it is counted and reported, and the next one is due. -/
theorem dropBlock_eq : ∃ (f : Chan → Chan) (k : Nat), s.dropBlock ch n = ((s.updChan ch f).count (Obj.DEV_CONVQ_DROP ch)).event 2 254 0x0103 ch k ∧
    ∀ x, (f x).fill = x.fill ∧ (f x).hist = x.hist ∧ (f x).nextBlock = n + 1 :=
  ⟨_, _, rfl, fun _ => ⟨rfl, rfl, rfl⟩⟩

theorem eventKey_convqDrop (h4 : ch < 4) : eventKey (Obj.DEV_CONVQ_DROP ch) = false := by
  unfold Obj.DEV_CONVQ_DROP key
  exact eventKey_eq_false (by omega) fun i => by omega

/-- The clause of R13: a full queue drops the block and counts it. -/
theorem converterBlockEntry_drops (hsz : s.Sized) (hd : BlockDue s ch n prev raw) (hfill : 1024 ≤ (s.chan ch).fill) :
    ∃ t, exec (.converterBlockEntry ch prev raw next) s = .next t ∧
      (t.chan ch).fill = (s.chan ch).fill ∧ (t.chan ch).hist = (s.chan ch).hist ∧ (t.chan ch).nextBlock = n + 1 ∧
      t.rd (Obj.DEV_CONVQ_DROP ch) = min (2 ^ 32 - 1) (s.rd (Obj.DEV_CONVQ_DROP ch) + 1) ∧
      (∀ c, c ≠ ch → t.chan c = s.chan c) ∧ t.rest = { s.rest with chans := t.chans } ∧
      s.onlyE t [Obj.CONV_OVR_COUNT ch, Obj.CONV_OVR_LAST ch, Obj.DEV_CONVQ_DROP ch] := by
  obtain ⟨y, hy⟩ : ∃ y, y = s.corrected ch prev raw next := ⟨_, rfl⟩
  have hl : ch < s.chans.length := by rw [hsz.chans_length]; exact hd.unit
  have hframe : ChannelFrame ch _ s (s.converted ch n raw next y) := converted_frame
  have htuners : (s.converted ch n raw next y).tuners = s.tuners := converted_tuners
  obtain ⟨hxf, hxh, -, -⟩ := converted_chan (n := n) (raw := raw) (next := next) (y := y) hl
  rw [exec_converterBlockEntry hd hy]
  generalize s.converted ch n raw next y = x at hframe htuners hxf hxh ⊢
  have hble : Nat.ble 1024 (x.chan ch).fill = true := by rw [Nat.ble_eq, hxf]; exact hfill
  obtain ⟨f, k, heq, hf⟩ := dropBlock_eq (s := x) (ch := ch) (n := n)
  obtain ⟨hff, hfh, hfn⟩ := hf (x.chan ch)
  rw [if_pos hble, heq]
  have hu : ChannelFrame ch _ s (x.updChan ch f) := hframe.updChan f
  have huc : (x.updChan ch f).chan ch = f (x.chan ch) := chan_updChan_same f (hframe.length.symm ▸ hl)
  have hut : (x.updChan ch f).tuners = s.tuners := htuners
  generalize x.updChan ch f = u at hu huc hut ⊢
  have hchans : ((u.count (Obj.DEV_CONVQ_DROP ch)).event 2 254 0x0103 ch k).chans = u.chans := event_chans ..
  have hrest : ((u.count (Obj.DEV_CONVQ_DROP ch)).event 2 254 0x0103 ch k).rest = u.rest := event_rest ..
  have hrd {q : Nat} (he : eventKey q = false) :
      ((u.count (Obj.DEV_CONVQ_DROP ch)).event 2 254 0x0103 ch k).rd q = (u.count (Obj.DEV_CONVQ_DROP ch)).rd q := event_rd _ _ _ _ _ _ _ _ he
  generalize (u.count (Obj.DEV_CONVQ_DROP ch)).event 2 254 0x0103 ch k = t at hchans hrest hrd ⊢
  have htr : t.rest = { s.rest with chans := t.chans } := by rw [hchans, hrest]; exact hu.rest_chans hut
  refine ⟨t, done_eq (congrArg State.wall htr :) (congrArg State.pending htr :), ?_, ?_, ?_, ?_, fun c hc => ?_, htr, fun q hq he => ?_⟩
  · rw [chan_of_chans hchans, huc, hff, hxf]
  · rw [chan_of_chans hchans, huc, hfh, hxh]
  · rw [chan_of_chans hchans, huc, hfn]
  · rw [hrd (eventKey_convqDrop hd.unit), rd_count, if_pos rfl, hu.only _ (by
      simp only [List.mem_cons, List.not_mem_nil, or_false, Obj.DEV_CONVQ_DROP, Obj.CONV_OVR_COUNT, Obj.CONV_OVR_LAST, key]; omega)]
  · rw [chan_of_chans hchans, hu.chan c hc]
  · simp only [List.mem_cons, List.not_mem_nil, or_false, not_or] at hq
    obtain ⟨h1, h2, h3⟩ := hq
    rw [hrd he, rd_count, if_neg h3, hu.only q (by simp [h1, h2])]

/-! ### The application of a change of one object -/

/-- Objects that a unit's Joint writes beside those of its swap. -/
def jointKeys (sess : Nat) : List Nat := [Obj.DEV_STATE, sk sess Obj.DEV_JOINT_FIRST, sk sess Obj.DEV_JOINT_LAST]

theorem serviceState_frame (s : State) : s.serviceState.rest = s.rest ∧ s.serviceState.sess = s.sess ∧ s.serviceState.log = s.log ∧
    s.only s.serviceState [Obj.DEV_STATE] := by
  have h (v : Nat) : s.only (s.wr Obj.DEV_STATE v) [Obj.DEV_STATE] := fun q hq => rd_wr_other _ _ _ _ (by simpa using hq)
  unfold serviceState
  split_ifs
  · exact ⟨rfl, rfl, rfl, h 3⟩
  · exact ⟨rfl, rfl, rfl, h 2⟩
  · exact ⟨rfl, rfl, rfl, fun _ _ => rfl⟩

/-- A swap of one object's value applies at its unit's boundary: the value is in force, the unit's generation advances, and beside the swap
and ownership nothing changes. -/
theorem applyChange_one (s : State) {w : Swap} {g : Nat} {u : UnitId} {k v : Nat} (b : Nat) (hv : w.vals = [(k, v)]) (hg : groupOf k = g)
    (hu : ownId k = u) (hk : k ∉ jointKeys w.sess) :
    ∃ x y, (s.applyChange w g u b).rest = { s.rest with gens := nextGen u s.gens, swaps := x, owners := y } ∧
      (s.applyChange w g u b).sess = s.sess ∧ (s.applyChange w g u b).log = s.log ∧ (s.applyChange w g u b).rd k = v ∧
      s.only (s.applyChange w g u b) (k :: jointKeys w.sess) := by
  have hmine : (w.vals.filter fun p => groupOf p.1 == g && ownId p.1 == u) = [(k, v)] := by simp [hv, hg, hu]
  unfold applyChange
  extract_lets mine s1 s2 s3 f s4 s5
  have h1 : s1 = s.wr k v := by unfold s1 mine; rw [hmine]; rfl
  have h3r : s3.rest = { s.rest with gens := nextGen u s.gens, swaps := s3.swaps } := by unfold s3 s2; rw [h1]; rfl
  have h3s : s3.sess = s.sess := by unfold s3 s2; rw [h1]; rfl
  have h3l : s3.log = s.log := by unfold s3 s2; rw [h1]; rfl
  have h3o (q : Nat) : s3.rd q = (s.wr k v).rd q := by unfold s3 s2; rw [h1]; rfl
  have h4 : s4.rest = s3.rest ∧ s4.sess = s3.sess ∧ s4.log = s3.log ∧ s3.only s4 (jointKeys w.sess) := by
    unfold s4
    split
    · refine ⟨rfl, rfl, rfl, fun q hq => ?_⟩
      simp only [jointKeys, List.mem_cons, List.not_mem_nil, or_false, not_or] at hq
      rw [rd_wr_other _ _ _ _ hq.2.2, rd_wr_other _ _ _ _ hq.2.1]
    · exact ⟨rfl, rfl, rfl, fun _ _ => rfl⟩
  have h5 : s5.rest = { s4.rest with owners := s5.owners } ∧ s5.sess = s4.sess ∧ s5.log = s4.log ∧ s5.obj = s4.obj := by
    unfold s5
    split <;> exact ⟨rfl, rfl, rfl, rfl⟩
  clear_value s3 s4 s5
  obtain ⟨h4r, h4s, h4l, h4o⟩ := h4
  obtain ⟨h5r, h5s, h5l, h5o⟩ := h5
  obtain ⟨h6r, h6s, h6l, h6o⟩ := s5.serviceState_frame
  have hrd {q : Nat} (hq : q ∉ jointKeys w.sess) : s5.serviceState.rd q = (s.wr k v).rd q := by
    rw [h6o q fun hm => hq (List.mem_cons.mpr (.inl (List.mem_singleton.mp hm))), ← h3o, ← h4o q hq]
    unfold rd; rw [h5o]
  refine ⟨s3.swaps, s5.owners, by rw [h6r, h5r, h4r, h3r], h6s.trans (h5s.trans (h4s.trans h3s)), h6l.trans (h5l.trans (h4l.trans h3l)), ?_,
    fun q hq => ?_⟩
  · rw [hrd hk, rd_wr_same]
  · rw [List.mem_cons, not_or] at hq
    rw [hrd hq.2, rd_wr_other _ _ _ _ hq.1]

/-- A unit's Joint whose swap is due. -/
theorem joint_due {s : State} {g b : Nat} {u : UnitId} {w : Swap} {before after : Swap → Nat → State → State}
    (h : s.due g u = some (w, b)) : s.joint g u before after = after w b ((before w b s).applyChange w g u b) := by
  unfold joint; rw [h]

/-! ### The channel's switch (R36) -/

theorem foldl_updTuner_chan (f : State → Nat → Tuner → Tuner) (l : List Nat) (s : State) (i : Nat) :
    (l.foldl (fun s t => s.updTuner t (f s t)) s).chan i = s.chan i :=
  foldl_same (fun s : State => s.chan i) (fun s t => s.updTuner t (f s t)) (fun _ _ => rfl) l s

/-- A channel that nothing withholds powers up: it settles, and takes no block before. -/
theorem powerChannel_on {s : State} {ch first : Nat} (hl : ch < s.chans.length) (hdrops : (s.chan ch).drops = none)
    (hcal : (s.chan ch).cal = none) (hlock : bitOf (s.rd Obj.CLK_LOCKED_MASK) 0 = true) (hgate : s.clk.gatedAt = none) :
    ChannelFrame ch [Obj.CONV_STATE ch] s (s.powerChannel ch first) ∧ (s.powerChannel ch first).rd (Obj.CONV_STATE ch) = 1 ∧
      ((s.powerChannel ch first).chan ch).fill = 0 ∧ ((s.powerChannel ch first).chan ch).started = false ∧
      first ≤ 64 * ((s.powerChannel ch first).chan ch).nextBlock := by
  unfold powerChannel
  extract_lets s0 m s1 s2 s3
  have h0 : s0 = s := endDrops_none hdrops
  have h1 : ChannelFrame ch [Obj.CONV_STATE ch] s s1 := by
    unfold s1; rw [h0]; exact (ChannelFrame.refl ..).updChan _
  have h2 : ChannelFrame ch [Obj.CONV_STATE ch] s s2 := h1.foldl fun i _ x hx => hx.updTuner ..
  have hc1 : s1.chan ch = _ := chan_updChan_same _ (h0.symm ▸ hl)
  have hc2 : s2.chan ch = s1.chan ch := foldl_updTuner_chan (fun _ _ x => { x with on := false, stopAt := none }) _ s1 ch
  have hhold : (s2.chan ch).clockHold = false := by rw [hc2, hc1, h0, hlock, hgate]; rfl
  have hnone : (s2.chan ch).cal = none := by rw [hc2, hc1, h0, hcal]; rfl
  have hs3 : s3 = s2 := by unfold s3; rw [hnone]
  have hle : first ≤ ceilDiv m 64 * 64 := Nat.le_trans (Nat.le_max_left ..) (le_ceilDiv_mul m (by decide))
  have hval : (if (s3.chan ch).cal.isSome = true then 3 else if (s3.chan ch).clockHold = true then 4 else 1) = 1 := by
    rw [hs3, hnone, hhold]; rfl
  rw [hval, hs3]
  refine ⟨h2.wr 1 (List.mem_singleton.mpr rfl), rd_wr_same .., ?_, ?_, ?_⟩
  · show (s2.chan ch).fill = 0
    rw [hc2, hc1]
  · show (s2.chan ch).started = false
    rw [hc2, hc1]
  · show first ≤ 64 * (s2.chan ch).nextBlock
    rw [hc2, hc1]
    show first ≤ 64 * ceilDiv m 64
    omega

/-- A channel that withholds nothing powers down. -/
theorem unpowerChannel_off {s : State} {ch j : Nat} (hl : ch < s.chans.length) (hdrops : (s.chan ch).drops = none)
    (hheld : (s.chan ch).withheld = none) :
    ChannelFrame ch [Obj.CONV_STATE ch] s (s.unpowerChannel ch j) ∧ (s.unpowerChannel ch j).rd (Obj.CONV_STATE ch) = 0 ∧
      ((s.unpowerChannel ch j).chan ch).fill = 0 ∧ ((s.unpowerChannel ch j).chan ch).started = false := by
  unfold unpowerChannel
  extract_lets s0 s1 s2 s3
  have h1 : s1 = s := by unfold s1 s0; rw [endDrops_none hdrops, hheld]
  have h2 : ChannelFrame ch [Obj.CONV_STATE ch] s s2 := by
    unfold s2; rw [h1]; exact (ChannelFrame.refl ..).updChan _
  have h3 : ChannelFrame ch [Obj.CONV_STATE ch] s s3 := h2.foldl fun i _ x hx => hx.updTuner ..
  have hc2 : s2.chan ch = _ := chan_updChan_same _ (h1.symm ▸ hl)
  have hc3 : s3.chan ch = s2.chan ch := foldl_updTuner_chan (fun s _ x => x.endAt (s.chan ch).entered) _ s2 ch
  have hc : (s3.wr (Obj.CONV_STATE ch) 0).chan ch = s2.chan ch := hc3
  exact ⟨h3.wr 0 (List.mem_singleton.mpr rfl), rd_wr_same .., by rw [hc, hc2], by rw [hc, hc2]⟩

/-! ### The Joint (R36, R352) -/

theorem convEnable_unit {ch : Nat} (h4 : ch < 4) :
    groupOf (Obj.CONV_ENABLE ch) = 0 ∧ ownId (Obj.CONV_ENABLE ch) = ⟨.converter, ch⟩ :=
  (by decide : ∀ ch, ch < 4 → groupOf (Obj.CONV_ENABLE ch) = 0 ∧ ownId (Obj.CONV_ENABLE ch) = ⟨.converter, ch⟩) ch h4

/-- No object of a channel is one that a Joint writes beside its swap's. -/
theorem conv_notMem_jointKeys {ch b sess : Nat} (h4 : ch < 4) (hb : b < 0x100) :
    key (0x3000 + 0x100 * ch + b) 0 ∉ jointKeys sess := by
  simp only [jointKeys, sk, Obj.DEV_STATE, Obj.DEV_JOINT_FIRST, Obj.DEV_JOINT_LAST, key, List.mem_cons, List.not_mem_nil, or_false]
  omega

/-- A swap that changes the channel's CONV_ENABLE has applied at its boundary. -/
structure EnableApplied (s x : State) (ch : Nat) (w : Swap) (v : Nat) : Prop where
  rest : x.rest = { s.rest with gens := nextGen ⟨.converter, ch⟩ s.gens, swaps := x.swaps, owners := x.owners }
  sess : x.sess = s.sess
  log : x.log = s.log
  value : x.rd (Obj.CONV_ENABLE ch) = v
  only : s.only x (Obj.CONV_ENABLE ch :: jointKeys w.sess)

theorem enableApplied (s : State) {ch b v : Nat} {w : Swap} (h4 : ch < 4) (hv : w.vals = [(Obj.CONV_ENABLE ch, v)]) :
    EnableApplied s (s.applyChange w 0 ⟨.converter, ch⟩ b) ch w v := by
  obtain ⟨hg, hu⟩ := convEnable_unit h4
  have hk : Obj.CONV_ENABLE ch ∉ jointKeys w.sess := by
    have := conv_notMem_jointKeys (b := 1) (sess := w.sess) h4 (by decide)
    unfold Obj.CONV_ENABLE
    rwa [show 0x3001 + 0x100 * ch = 0x3000 + 0x100 * ch + 1 by omega]
  obtain ⟨x, y, hr, hs, hl, hval, ho⟩ := s.applyChange_one b hv hg hu hk
  have hx : (s.applyChange w 0 ⟨.converter, ch⟩ b).swaps = x := (congrArg State.swaps hr :)
  have hy : (s.applyChange w 0 ⟨.converter, ch⟩ b).owners = y := (congrArg State.owners hr :)
  exact ⟨by rw [hx, hy, hr], hs, hl, hval, ho⟩

namespace EnableApplied

variable {s x t : State} {ch v : Nat} {w : Swap}

theorem chan (hx : EnableApplied s x ch w v) (i : Nat) : x.chan i = s.chan i := chan_of_chans (congrArg State.chans hx.rest :) i

theorem rd_state (hx : EnableApplied s x ch w v) (h4 : ch < 4) : x.rd (Obj.CONV_STATE ch) = s.rd (Obj.CONV_STATE ch) := by
  refine hx.only _ fun hm => ?_
  rcases List.mem_cons.mp hm with he | hm
  · unfold Obj.CONV_STATE Obj.CONV_ENABLE key at he; omega
  · exact conv_notMem_jointKeys (b := 0) h4 (by decide) hm

theorem rd_locked (hx : EnableApplied s x ch w v) (h4 : ch < 4) : x.rd Obj.CLK_LOCKED_MASK = s.rd Obj.CLK_LOCKED_MASK := by
  refine hx.only _ ?_
  simp only [jointKeys, sk, Obj.CLK_LOCKED_MASK, Obj.CONV_ENABLE, Obj.DEV_STATE, Obj.DEV_JOINT_FIRST, Obj.DEV_JOINT_LAST, key, List.mem_cons,
    List.not_mem_nil, or_false]
  omega

/-- What the Joint leaves as it was, once the channel has been switched. -/
theorem switched (hx : EnableApplied s x ch w v) (ht : ChannelFrame ch [Obj.CONV_STATE ch] x t) :
    t.gens = nextGen ⟨.converter, ch⟩ s.gens ∧ (∀ i, i ≠ ch → t.chan i = s.chan i) ∧
      t.rest = { s.rest with chans := t.chans, tuners := t.tuners, gens := t.gens, swaps := t.swaps, owners := t.owners } ∧ t.sess = s.sess ∧
      t.log = s.log ∧
      s.only t [Obj.CONV_ENABLE ch, Obj.CONV_STATE ch, Obj.DEV_STATE, sk w.sess Obj.DEV_JOINT_FIRST, sk w.sess Obj.DEV_JOINT_LAST] := by
  have hgens : t.gens = x.gens := (congrArg State.gens ht.rest :)
  have hswaps : t.swaps = x.swaps := (congrArg State.swaps ht.rest :)
  have howners : t.owners = x.owners := (congrArg State.owners ht.rest :)
  have hxg : x.gens = nextGen ⟨.converter, ch⟩ s.gens := (congrArg State.gens hx.rest :)
  refine ⟨hgens.trans hxg, fun i hi => (ht.chan i hi).trans (hx.chan i), ?_, ht.sess.trans hx.sess, ht.log.trans hx.log, fun q hq => ?_⟩
  · rw [hgens, hswaps, howners, hxg, ht.rest, hx.rest]
  · simp only [List.mem_cons, List.not_mem_nil, or_false, not_or] at hq
    obtain ⟨h1, h2, h3, h4, h5⟩ := hq
    rw [ht.only q (by simpa using h2), hx.only q (by simp [jointKeys, h1, h3, h4, h5])]

end EnableApplied

/-- CONV_JOINT with a change that is due: an unfenced channel whose enable changes is switched. -/
theorem exec_convJoint {s : State} {ch b : Nat} {w : Swap} (hdue : s.due 0 ⟨.converter, ch⟩ = some (w, b)) :
    exec (.convJoint ch) s = done s
      (if s.rdB (Obj.CONV_ENABLE ch) == (s.applyChange w 0 ⟨.converter, ch⟩ b).rdB (Obj.CONV_ENABLE ch) ||
          (s.applyChange w 0 ⟨.converter, ch⟩ b).convFenced ch then s.applyChange w 0 ⟨.converter, ch⟩ b
      else if (s.applyChange w 0 ⟨.converter, ch⟩ b).rdB (Obj.CONV_ENABLE ch) then
        (s.applyChange w 0 ⟨.converter, ch⟩ b).powerChannel ch (b + 320000)
      else (s.applyChange w 0 ⟨.converter, ch⟩ b).unpowerChannel ch b) := by
  show execConvJoint ch s = _
  unfold execConvJoint
  exact congrArg (done s) (joint_due hdue)

/-- The clause of R36: a channel that is enabled powers up. -/
theorem convJoint_enables {s : State} {ch b : Nat} {w : Swap} (hsz : s.Sized) (h4 : ch < 4)
    (hdue : s.due 0 ⟨.converter, ch⟩ = some (w, b)) (hv : w.vals = [(Obj.CONV_ENABLE ch, 1)]) (hoff : s.rdB (Obj.CONV_ENABLE ch) = false)
    (hfence : s.convFenced ch = false) (hcal : (s.chan ch).cal = none) (hdrops : (s.chan ch).drops = none)
    (hlock : bitOf (s.rd Obj.CLK_LOCKED_MASK) 0 = true) (hgate : s.clk.gatedAt = none) :
    ∃ t, exec (.convJoint ch) s = .next t ∧ t.rdB (Obj.CONV_ENABLE ch) = true ∧ t.rd (Obj.CONV_STATE ch) = 1 ∧
      (t.chan ch).fill = 0 ∧ (t.chan ch).started = false ∧ b + 320000 ≤ 64 * (t.chan ch).nextBlock ∧
      t.gens = nextGen ⟨.converter, ch⟩ s.gens ∧ (∀ i, i ≠ ch → t.chan i = s.chan i) ∧
      t.rest = { s.rest with chans := t.chans, tuners := t.tuners, gens := t.gens, swaps := t.swaps, owners := t.owners } ∧ t.sess = s.sess ∧
      t.log = s.log ∧
      s.only t [Obj.CONV_ENABLE ch, Obj.CONV_STATE ch, Obj.DEV_STATE, sk w.sess Obj.DEV_JOINT_FIRST, sk w.sess Obj.DEV_JOINT_LAST] := by
  have hx := s.enableApplied (b := b) h4 hv
  rw [exec_convJoint hdue]
  generalize s.applyChange w 0 ⟨.converter, ch⟩ b = x at hx ⊢
  have hon : x.rdB (Obj.CONV_ENABLE ch) = true := by unfold rdB; rw [hx.value]; rfl
  have hxf : x.convFenced ch = false := by unfold convFenced at hfence ⊢; rw [hx.rd_state h4]; exact hfence
  have hclk : x.clk = s.clk := (congrArg State.clk hx.rest :)
  have hchans : x.chans = s.chans := (congrArg State.chans hx.rest :)
  obtain ⟨ht, hstate, hfill, hstart, hfirst⟩ := powerChannel_on (s := x) (ch := ch) (first := b + 320000)
    (by rw [hchans, hsz.chans_length]; exact h4) ((hx.chan ch).symm ▸ hdrops) ((hx.chan ch).symm ▸ hcal) (by rw [hx.rd_locked h4]; exact hlock)
    (by rw [hclk]; exact hgate)
  rw [hoff, hon, hxf, if_neg (by decide), if_pos rfl]
  obtain ⟨hg, hc, hr, hs, hl, ho⟩ := hx.switched ht
  refine ⟨_, done_eq (congrArg State.wall hr :) (congrArg State.pending hr :), ?_, hstate, hfill, hstart, hfirst, hg, hc, hr, hs, hl, ho⟩
  unfold rdB
  rw [ht.only _ (by simp only [List.mem_singleton, Obj.CONV_ENABLE, Obj.CONV_STATE, key]; omega), hx.value]
  rfl

/-- The clause of R36: a channel that is disabled is off. -/
theorem convJoint_disables {s : State} {ch b : Nat} {w : Swap} (hsz : s.Sized) (h4 : ch < 4)
    (hdue : s.due 0 ⟨.converter, ch⟩ = some (w, b)) (hv : w.vals = [(Obj.CONV_ENABLE ch, 0)]) (hon : s.rdB (Obj.CONV_ENABLE ch) = true)
    (hfence : s.convFenced ch = false) (hdrops : (s.chan ch).drops = none) (hheld : (s.chan ch).withheld = none) :
    ∃ t, exec (.convJoint ch) s = .next t ∧ t.rd (Obj.CONV_ENABLE ch) = 0 ∧ t.rd (Obj.CONV_STATE ch) = 0 ∧ (t.chan ch).fill = 0 ∧
      (t.chan ch).started = false ∧ t.gens = nextGen ⟨.converter, ch⟩ s.gens ∧ (∀ i, i ≠ ch → t.chan i = s.chan i) ∧
      t.rest = { s.rest with chans := t.chans, tuners := t.tuners, gens := t.gens, swaps := t.swaps, owners := t.owners } ∧ t.sess = s.sess ∧
      t.log = s.log ∧
      s.only t [Obj.CONV_ENABLE ch, Obj.CONV_STATE ch, Obj.DEV_STATE, sk w.sess Obj.DEV_JOINT_FIRST, sk w.sess Obj.DEV_JOINT_LAST] := by
  have hx := s.enableApplied (b := b) h4 hv
  rw [exec_convJoint hdue]
  generalize s.applyChange w 0 ⟨.converter, ch⟩ b = x at hx ⊢
  have hoff : x.rdB (Obj.CONV_ENABLE ch) = false := by unfold rdB; rw [hx.value]; rfl
  have hxf : x.convFenced ch = false := by unfold convFenced at hfence ⊢; rw [hx.rd_state h4]; exact hfence
  have hchans : x.chans = s.chans := (congrArg State.chans hx.rest :)
  obtain ⟨ht, hstate, hfill, hstart⟩ := unpowerChannel_off (s := x) (ch := ch) (j := b)
    (by rw [hchans, hsz.chans_length]; exact h4) ((hx.chan ch).symm ▸ hdrops) ((hx.chan ch).symm ▸ hheld)
  rw [hon, hoff, hxf, if_neg (by decide), if_neg (by decide)]
  obtain ⟨hg, hc, hr, hs, hl, ho⟩ := hx.switched ht
  refine ⟨_, done_eq (congrArg State.wall hr :) (congrArg State.pending hr :), ?_, hstate, hfill, hstart, hg, hc, hr, hs, hl, ho⟩
  rw [ht.only _ (by simp only [List.mem_singleton, Obj.CONV_ENABLE, Obj.CONV_STATE, key]; omega), hx.value]

end State

/-- Settles O1: the two outcomes of a block that is due, and the two of a change of CONV_ENABLE. -/
theorem converterBlocks : Obligations.ConverterBlocks := by
  unfold Obligations.ConverterBlocks
  refine ⟨?_, ?_, ?_, ?_⟩
  · exact fun s ch n prev raw next hsz h4 hon hf hc hr hd ht hj hfill hdrops hheld hring =>
      State.converterBlockEntry_enters hsz ⟨h4, hon, hf, hc, hr, hd, ht, hj⟩ hfill hdrops hheld hring
  · exact fun s ch n prev raw next hsz h4 hon hf hc hr hd ht hj hfill =>
      State.converterBlockEntry_drops hsz ⟨h4, hon, hf, hc, hr, hd, ht, hj⟩ hfill
  · exact fun s ch b w hsz h4 hdue hv hoff hf hcal hdrops hlock hgate =>
      State.convJoint_enables hsz h4 hdue hv hoff hf hcal hdrops hlock hgate
  · exact fun s ch b w hsz h4 hdue hv hon hf hdrops hheld => State.convJoint_disables hsz h4 hdue hv hon hf hdrops hheld

end Sys2Proof.Machine

/-! ## Foreground calibration begins, and the tone meanwhile (R37, R55): O2 -/

namespace Sys2Proof.Machine

set_option Elab.async false

namespace State

variable (s : State) (ch : Nat)

/-! ### The tone (R55) -/

/-- No tone before READY, and none while a channel calibrates. -/
theorem tone_muted {s : State}
    (h : s.rd Obj.DEV_STATE < 2 ∨ (s.conv.skew = none ∧ ∃ ch, ch < 4 ∧ (s.chan ch).calRuns = true)) : s.tone = 0 := by
  unfold tone
  rcases h with hd | ⟨hskew, ch, h4, hr⟩
  · exact if_pos (Nat.blt_eq.mpr hd)
  · have hany : (List.range 4).any (fun ch => (s.chan ch).calRuns) = true := List.any_eq_true.mpr ⟨ch, List.mem_range.mpr h4, hr⟩
    rw [hskew, hany]
    exact ite_self _

/-- Else the tone is what CONV_TONE_MODE asks for. -/
theorem tone_mode {s : State} (hd : 2 ≤ s.rd Obj.DEV_STATE) (hskew : s.conv.skew = none) (hr : ∀ ch, ch < 4 → (s.chan ch).calRuns = false) :
    s.tone = s.rd Obj.CONV_TONE_MODE := by
  have hany : (List.range 4).any (fun ch => (s.chan ch).calRuns) = false :=
    List.any_eq_false.mpr fun ch h => Bool.eq_false_iff.mp (hr ch (List.mem_range.mp h))
  unfold tone
  rw [hskew, hany, if_neg (by rw [Nat.blt_eq]; omega)]
  rfl

/-! ### A channel's calibration begins -/

/-- The objects that the start of a channel's calibration writes. -/
def calKeys (ch : Nat) : List Nat :=
  [Obj.CONV_CAL_STATUS ch, Obj.CONV_CAL_REASON ch, Obj.CONV_STATE ch] ++ (channelTuners ch).map Obj.TUNE_STATE

/-- A calibration that begins now: from a block boundary ahead, for 7,680,000,000 ticks (R37). -/
def beginsCal (s : State) (ch : Nat) (c : Cal) : Prop :=
  s.tick < c.start ∧ c.start % 64 = 0 ∧ c.end_ = c.start + 7680000000 ∧ c.powered = !s.rdB (Obj.CONV_ENABLE ch)

theorem tunersRead_frame (v : Nat) : ChannelFrame ch ((channelTuners ch).map Obj.TUNE_STATE) s (s.tunersRead ch v) :=
  (ChannelFrame.refl ..).foldl fun _ ht _ hx => (hx.wr _ (List.mem_map_of_mem ht)).ite hx

theorem tunersRead_chans (v : Nat) : (s.tunersRead ch v).chans = s.chans :=
  foldl_same chans (fun s t => if s.rdB (Obj.TUNE_ENABLE t) && s.rd (Obj.TUNE_STATE t) != 4 then s.wr (Obj.TUNE_STATE t) v else s)
    (fun s t => by split <;> rfl) (channelTuners ch) s

theorem delayFirst_frame (at_ : Nat) : ChannelFrame ch [] s (s.delayFirst ch at_) :=
  ((ChannelFrame.refl ch [] s).updChan _).foldl fun _ _ _ hx => hx.updTuner ..

/-- The delay of the first block leaves the calibration as it is. -/
theorem delayFirst_cal (at_ : Nat) : ((s.delayFirst ch at_).chan ch).cal = (s.chan ch).cal := by
  unfold delayFirst
  extract_lets s1
  refine (foldl_same (fun t : State => (t.chan ch).cal) _ (fun _ _ => ?_) (channelTuners ch) s1).trans ?_
  · rfl
  · unfold s1
    rw [chan_updChan]
    split <;> rfl

/-- An engine that is no standby has nothing to sync. -/
theorem unsync_alone {s : State} (reason : Nat) (h : s.rd Obj.TWIN_STATE = 0) : s.unsync reason = s := by
  unfold unsync isStandby
  rw [h]; rfl

/-- The calibration of the channel has begun. -/
structure CalStarted (s t : State) (ch : Nat) : Prop where
  frame : ChannelFrame ch (calKeys ch) s t
  status : t.rd (Obj.CONV_CAL_STATUS ch) = 1
  reason : t.rd (Obj.CONV_CAL_REASON ch) = 0
  state : t.rd (Obj.CONV_STATE ch) = 3
  cal : ∃ c, (t.chan ch).cal = some c ∧ s.beginsCal ch c

/-- The three objects of a calibration that has begun. -/
theorem calObjects_rd : (s.wrAll [(Obj.CONV_CAL_STATUS ch, 1), (Obj.CONV_CAL_REASON ch, 0), (Obj.CONV_STATE ch, 3)]).rd (Obj.CONV_CAL_STATUS ch) = 1 ∧
    (s.wrAll [(Obj.CONV_CAL_STATUS ch, 1), (Obj.CONV_CAL_REASON ch, 0), (Obj.CONV_STATE ch, 3)]).rd (Obj.CONV_CAL_REASON ch) = 0 ∧
    (s.wrAll [(Obj.CONV_CAL_STATUS ch, 1), (Obj.CONV_CAL_REASON ch, 0), (Obj.CONV_STATE ch, 3)]).rd (Obj.CONV_STATE ch) = 3 := by
  have h1 : Obj.CONV_CAL_STATUS ch ≠ Obj.CONV_CAL_REASON ch := by unfold Obj.CONV_CAL_STATUS Obj.CONV_CAL_REASON key; omega
  have h2 : Obj.CONV_CAL_STATUS ch ≠ Obj.CONV_STATE ch := by unfold Obj.CONV_CAL_STATUS Obj.CONV_STATE key; omega
  have h3 : Obj.CONV_CAL_REASON ch ≠ Obj.CONV_STATE ch := by unfold Obj.CONV_CAL_REASON Obj.CONV_STATE key; omega
  exact ⟨(rd_wr_other _ _ _ _ h2).trans ((rd_wr_other _ _ _ _ h1).trans (rd_wr_same ..)), (rd_wr_other _ _ _ _ h3).trans (rd_wr_same ..),
    rd_wr_same ..⟩

/-- None of the three is a tuner's. -/
theorem calObject_notMem_tuneStates {q : Nat} (h4 : ch < 4)
    (h : q = Obj.CONV_CAL_STATUS ch ∨ q = Obj.CONV_CAL_REASON ch ∨ q = Obj.CONV_STATE ch) : q ∉ (channelTuners ch).map Obj.TUNE_STATE := by
  simp only [List.mem_map, Obj.TUNE_STATE, key, not_exists, not_and]
  unfold Obj.CONV_CAL_STATUS Obj.CONV_CAL_REASON Obj.CONV_STATE key at h
  omega

/-- The start lies on a block boundary, ahead of the tick. -/
theorem calStart_ahead (powered : Bool) (tick : Nat) :
    tick < (if powered then roundUp (tick + 320000) 64 else (tick / 64 + 1) * 64) ∧
      (if powered then roundUp (tick + 320000) 64 else (tick / 64 + 1) * 64) % 64 = 0 := by
  cases powered
  · rw [if_neg Bool.false_ne_true]; omega
  · have h := le_roundUp (tick + 320000) (b := 64) (by decide)
    rw [if_pos rfl]
    exact ⟨by omega, roundUp_mod ..⟩

theorem startCal_started {s : State} {ch : Nat} (h4 : ch < 4) (hl : s.chans.length = 4) (htwin : s.rd Obj.TWIN_STATE = 0) :
    CalStarted s (s.startCal ch) ch := by
  unfold startCal
  extract_lets powered start stop x s1 s2 s3
  obtain ⟨hahead, hmod⟩ : s.tick < start ∧ start % 64 = 0 := calStart_ahead powered s.tick
  have hs2 : s2 = s1.wrAll [(Obj.CONV_CAL_STATUS ch, 1), (Obj.CONV_CAL_REASON ch, 0), (Obj.CONV_STATE ch, 3)] := by
    unfold s2; rw [unsync_alone (s := s1) 6 htwin]
  have hcal : (s1.chan ch).cal = some { start := start, end_ := stop, powered := powered } :=
    congrArg Chan.cal (chan_updChan_same _ (hl.symm ▸ h4))
  have f1 : ChannelFrame ch (calKeys ch) s s1 := (ChannelFrame.refl ..).updChan _
  have hstop : stop = start + 7680000000 := rfl
  have hpow : powered = !s.rdB (Obj.CONV_ENABLE ch) := rfl
  clear_value start stop powered s1 s2
  obtain ⟨hst, hre, hcs⟩ := s1.calObjects_rd ch
  rw [← hs2] at hst hre hcs
  have f2 : ChannelFrame ch (calKeys ch) s s2 := by
    rw [hs2]
    exact ((f1.wr 1 (by simp [calKeys])).wr 0 (by simp [calKeys])).wr 3 (by simp [calKeys])
  have f23 : ChannelFrame ch ((channelTuners ch).map Obj.TUNE_STATE) s2 s3 := s2.tunersRead_frame ch 3
  have hc3 : (s3.chan ch).cal = (s1.chan ch).cal := by
    rw [chan_of_chans (s2.tunersRead_chans ch 3), hs2]; rfl
  clear_value s3
  have hend {u : State} (fu : ChannelFrame ch [] s3 u) (hu : (u.chan ch).cal = (s3.chan ch).cal) : CalStarted s u ch := by
    have hrd {q : Nat} (hq : q = Obj.CONV_CAL_STATUS ch ∨ q = Obj.CONV_CAL_REASON ch ∨ q = Obj.CONV_STATE ch) : u.rd q = s2.rd q :=
      (fu.only _ List.not_mem_nil).trans (f23.only _ (calObject_notMem_tuneStates ch h4 hq))
    exact {
      frame := (f2.trans (f23.mono (List.subset_append_right ..))).trans (fu.mono (List.nil_subset _))
      status := (hrd (.inl rfl)).trans hst
      reason := (hrd (.inr (.inl rfl))).trans hre
      state := (hrd (.inr (.inr rfl))).trans hcs
      cal := ⟨_, (hu.trans hc3).trans hcal, hahead, hmod, hstop, hpow⟩ }
  split
  · exact hend (s3.delayFirst_frame ch stop) (s3.delayFirst_cal ch stop)
  · exact hend (.refl ..) rfl

/-! ### CONV_CAL_CMD -/

/-- On an engine without a standby accepted calibrations begin at once. -/
theorem requestCals_begin {s : State} {r : Req} {chs : List Nat} {all : Bool} (h : s.rd Obj.TWIN_STATE = 0) :
    s.requestCals r chs all = (s.accept r).beginCals r chs all :=
  if_neg (by rw [accept_rd, h]; decide)

theorem calCmd_begins {s : State} {ch : Nat} {r : Req} (hf : s.convFenced ch = false) (hc : s.calibrating ch = false)
    (hlock : s.masterLocked = true) (hskew : s.conv.skew = none) (hupd : s.upd.closed = false) (htwin : s.rd Obj.TWIN_STATE = 0) :
    s.calCmd ch 1 r = ((s.accept r).updChan ch fun x => { x with calReqs := [r] }).startCal ch := by
  unfold calCmd
  rw [hf, hc, hlock, hskew, hupd, if_neg (by decide), if_neg (by decide), requestCals_begin htwin]
  rfl

/-- The clause of R37: a channel's calibration begins. -/
theorem convCalCmd_begins {s : State} {sess tag ch : Nat} (hsz : s.Sized) (h4 : ch < 4)
    (hs : s.serves sess tag (Obj.CONV_CAL_CMD ch) 1 = true) (hf : s.convFenced ch = false) (hc : s.calibrating ch = false)
    (hlock : s.masterLocked = true) (hskew : s.conv.skew = none) (hupd : s.upd.closed = false) (htwin : s.rd Obj.TWIN_STATE = 0) :
    ∃ t, exec (.convCalCmd sess tag ch 1) s = .next t ∧ s.pended t sess tag (Obj.CONV_CAL_CMD ch) ∧
      t.rd (Obj.CONV_CAL_STATUS ch) = 1 ∧ t.rd (Obj.CONV_CAL_REASON ch) = 0 ∧ t.rd (Obj.CONV_STATE ch) = 3 ∧
      (∃ c, (t.chan ch).cal = some c ∧ s.beginsCal ch c) ∧
      (∀ i, i ≠ ch → t.chan i = s.chan i) ∧ t.rest = { s.rest with chans := t.chans, tuners := t.tuners } ∧ t.log = s.log ∧
      s.only t (calKeys ch) := by
  let r : Req := ⟨sess, (s.ses sess).inc, tag, Obj.CONV_CAL_CMD ch⟩
  let a := (s.hear sess).accept r
  let t := (a.updChan ch fun x => { x with calReqs := [r] }).startCal ch
  have har : a.rest = s.rest := accept_rest ..
  have hac : a.chans = s.chans := (congrArg State.chans har :)
  have hrd (q : Nat) : a.rd q = s.rd q := accept_rd ..
  have hal : (a.updChan ch fun x => { x with calReqs := [r] }).chans.length = 4 := by
    rw [updChan_chans, List.length_modify, hac, hsz.chans_length]
  obtain ⟨hframe, hst, hre, hcs, c, hcal, hbegin⟩ :=
    startCal_started (s := a.updChan ch fun x => { x with calReqs := [r] }) h4 hal ((hrd _).trans htwin)
  have hframe : ChannelFrame ch (calKeys ch) a t := ((ChannelFrame.refl ..).updChan _).trans hframe
  have hrest : t.rest = { s.rest with chans := t.chans, tuners := t.tuners } := by rw [hframe.rest, har]
  have htick : a.tick = s.tick := (congrArg State.tick har :)
  have hpend : s.pended a sess tag (Obj.CONV_CAL_CMD ch) := pended_accept (serves_takes hs) _ rfl
  refine ⟨t, ?_, hpend.of_sess hframe.sess, hst, hre, hcs, ⟨c, hcal, ?_⟩, fun i hi => ?_, hrest, ?_, fun q hq => ?_⟩
  · show done s (when (Nat.blt ch 4) (fun s => s.direct sess tag _ 1 fun r s => s.calCmd ch 1 r) s) = _
    rw [when_true _ _ (Nat.blt_eq.mpr h4), direct_serves _ hs, calCmd_begins (s := s.hear sess) hf hc hlock hskew hupd htwin]
    exact done_eq (congrArg State.wall hrest :) (congrArg State.pending hrest :)
  · unfold beginsCal rdB at hbegin ⊢
    rwa [updChan_tick, updChan_rd, hrd, htick] at hbegin
  · exact (hframe.chan i hi).trans (chan_of_chans hac i)
  · exact hframe.log.trans (accept_log ..)
  · exact (hframe.only q hq).trans (hrd q)

/-! ### CONV_CAL_ALL -/

/-- Between `s` and `t` calibrations of the channels named have begun, and nothing else. -/
structure CalsFrame (chs : List Nat) (s t : State) : Prop where
  rest : t.rest = { s.rest with chans := t.chans, tuners := t.tuners }
  length : t.chans.length = s.chans.length
  sess : t.sess = s.sess
  log : t.log = s.log
  twin : t.rd Obj.TWIN_STATE = s.rd Obj.TWIN_STATE
  others : ∀ ch, ch ∉ chs → t.chan ch = s.chan ch ∧ t.rd (Obj.CONV_CAL_STATUS ch) = s.rd (Obj.CONV_CAL_STATUS ch)

theorem calStatus_notMem_calKeys {c ch : Nat} (h : c ≠ ch) : Obj.CONV_CAL_STATUS c ∉ calKeys ch := by
  simp only [calKeys, List.mem_append, List.mem_cons, List.not_mem_nil, or_false, List.mem_map, Obj.CONV_CAL_STATUS, Obj.CONV_CAL_REASON,
    Obj.CONV_STATE, Obj.TUNE_STATE, key]
  omega

theorem twinState_notMem_calKeys {ch : Nat} (h4 : ch < 4) : Obj.TWIN_STATE ∉ calKeys ch := by
  simp only [calKeys, List.mem_append, List.mem_cons, List.not_mem_nil, or_false, List.mem_map, Obj.CONV_CAL_STATUS, Obj.CONV_CAL_REASON,
    Obj.CONV_STATE, Obj.TUNE_STATE, Obj.TWIN_STATE, key]
  omega

theorem CalsFrame.startCal {chs : List Nat} {s t : State} {ch : Nat} (h : CalsFrame chs s t) (hm : ch ∈ chs) (h4 : ch < 4)
    (hl : s.chans.length = 4) (htwin : s.rd Obj.TWIN_STATE = 0) : CalsFrame chs s (t.startCal ch) := by
  have f := (startCal_started h4 (h.length.trans hl) (h.twin.trans htwin)).frame
  exact {
    rest := by rw [f.rest, h.rest]
    length := f.length.trans h.length
    sess := f.sess.trans h.sess
    log := f.log.trans h.log
    twin := (f.only _ (twinState_notMem_calKeys h4)).trans h.twin
    others := fun c hc => by
      have hne : c ≠ ch := fun e => hc (e ▸ hm)
      rw [f.chan c hne, f.only _ (calStatus_notMem_calKeys hne)]
      exact h.others c hc }

/-- Each channel's calibration begins in turn. -/
theorem startCals {chs : List Nat} {s : State} (hchs : ∀ ch ∈ chs, ch < 4) (hl : s.chans.length = 4) (htwin : s.rd Obj.TWIN_STATE = 0) :
    CalsFrame chs s (chs.foldl State.startCal s) ∧
      ∀ ch ∈ chs, (chs.foldl State.startCal s).rd (Obj.CONV_CAL_STATUS ch) = 1 ∧ ((chs.foldl State.startCal s).chan ch).cal.isSome = true := by
  have hrefl : CalsFrame chs s s := ⟨rfl, rfl, rfl, rfl, rfl, fun _ _ => ⟨rfl, rfl⟩⟩
  have hstep (t : State) (h : CalsFrame chs s t) (ch : Nat) (hm : ch ∈ chs) : CalsFrame chs s (t.startCal ch) :=
    h.startCal hm (hchs ch hm) hl htwin
  have hstarted (t : State) (h : CalsFrame chs s t) (ch : Nat) (hm : ch ∈ chs) : CalStarted t (t.startCal ch) ch :=
    startCal_started (hchs ch hm) (h.length.trans hl) (h.twin.trans htwin)
  have hset (t : State) (h : CalsFrame chs s t) (ch : Nat) (hm : ch ∈ chs) :
      (t.startCal ch).rd (Obj.CONV_CAL_STATUS ch) = 1 ∧ ((t.startCal ch).chan ch).cal.isSome = true := by
    obtain ⟨-, hst, -, -, c, hc, -⟩ := hstarted t h ch hm
    exact ⟨hst, by rw [hc]; rfl⟩
  refine ⟨List.foldlRecOn (motive := CalsFrame chs s) _ _ hrefl hstep, fun ch hm =>
    foldl_mem (I := CalsFrame chs s)
      (P := fun c (t : State) => t.rd (Obj.CONV_CAL_STATUS c) = 1 ∧ (t.chan c).cal.isSome = true) hstep hset ?_ hm hrefl⟩
  intro t h a ha c hc
  by_cases hca : c = a
  · subst hca; exact hset t h c ha
  · have f := (hstarted t h a ha).frame
    rwa [f.chan c hca, f.only _ (calStatus_notMem_calKeys hca)]

theorem calAllCmd_begins {s : State} {r : Req} (hne : s.calChannels ≠ []) (hc : ∀ ch, ch < 4 → s.calibrating ch = false)
    (hlock : s.masterLocked = true) (hskew : s.conv.skew = none) (hupd : s.upd.closed = false) (htwin : s.rd Obj.TWIN_STATE = 0) :
    s.calAllCmd 1 r = s.calChannels.foldl startCal
      ((s.accept r).updConv fun c => { c with all := some (r, s.calChannels, false) }) := by
  have hany : (List.range 4).any s.calibrating = false :=
    List.any_eq_false.mpr fun ch h => Bool.eq_false_iff.mp (hc ch (List.mem_range.mp h))
  unfold calAllCmd
  dsimp only
  rw [hany, hlock, hskew, hupd, if_neg (by rwa [List.isEmpty_iff]), if_neg (by decide), requestCals_begin htwin]
  rfl

/-- The clause of R37 for CONV_CAL_ALL: the calibration of every enabled channel that is not fenced begins. -/
theorem convCalAll_begins {s : State} {sess tag : Nat} (hsz : s.Sized) (hs : s.serves sess tag Obj.CONV_CAL_ALL 1 = true)
    (hne : s.calChannels ≠ []) (hc : ∀ ch, ch < 4 → s.calibrating ch = false) (hlock : s.masterLocked = true) (hskew : s.conv.skew = none)
    (hupd : s.upd.closed = false) (htwin : s.rd Obj.TWIN_STATE = 0) :
    ∃ t, exec (.convCalAll sess tag) s = .next t ∧ s.pended t sess tag Obj.CONV_CAL_ALL ∧
      t.conv = { s.conv with all := some (s.req sess tag Obj.CONV_CAL_ALL, s.calChannels, false) } ∧
      (∀ ch ∈ s.calChannels, t.rd (Obj.CONV_CAL_STATUS ch) = 1 ∧ (t.chan ch).cal.isSome = true) ∧
      (∀ ch, ch ∉ s.calChannels → t.chan ch = s.chan ch ∧ t.rd (Obj.CONV_CAL_STATUS ch) = s.rd (Obj.CONV_CAL_STATUS ch)) ∧
      t.rest = { s.rest with chans := t.chans, tuners := t.tuners, conv := t.conv } ∧ t.log = s.log := by
  let r : Req := ⟨sess, (s.ses sess).inc, tag, Obj.CONV_CAL_ALL⟩
  let a := (s.hear sess).accept r
  let b := a.updConv fun c => { c with all := some (r, s.calChannels, false) }
  have har : a.rest = s.rest := accept_rest ..
  have hac : a.chans = s.chans := (congrArg State.chans har :)
  have hav : a.conv = s.conv := (congrArg State.conv har :)
  have hrd (q : Nat) : b.rd q = s.rd q := accept_rd ..
  have hbr : b.rest = { s.rest with conv := b.conv } := by unfold b; rw [updConv_rest, har]
  have hbv : b.conv = { s.conv with all := some (r, s.calChannels, false) } := by unfold b; rw [updConv_conv, hav]
  have hchs : ∀ ch ∈ s.calChannels, ch < 4 := fun ch h => List.mem_range.mp (List.mem_of_mem_filter h)
  obtain ⟨f, hcals⟩ := startCals (s := b) hchs ((congrArg List.length hac).trans hsz.chans_length) ((hrd _).trans htwin)
  have hexec : (s.hear sess).calAllCmd 1 r = s.calChannels.foldl startCal b :=
    calAllCmd_begins (s := s.hear sess) hne hc hlock hskew hupd htwin
  have hpend : s.pended a sess tag Obj.CONV_CAL_ALL := pended_accept (serves_takes hs) _ rfl
  generalize s.calChannels.foldl startCal b = t at f hcals hexec
  have htv : t.conv = b.conv := (congrArg State.conv f.rest :)
  have hrest : t.rest = { s.rest with chans := t.chans, tuners := t.tuners, conv := t.conv } := by rw [f.rest, htv, hbr]
  refine ⟨t, ?_, hpend.of_sess f.sess, htv.trans hbv, hcals, fun ch h => ?_, hrest, f.log.trans (accept_log ..)⟩
  · show done s (s.direct sess tag Obj.CONV_CAL_ALL 1 fun r s => s.calAllCmd 1 r) = _
    rw [direct_serves _ hs, hexec]
    exact done_eq (congrArg State.wall hrest :) (congrArg State.pending hrest :)
  · obtain ⟨h1, h2⟩ := f.others ch h
    exact ⟨h1.trans (chan_of_chans hac ch), h2.trans (hrd _)⟩

end State

end Sys2Proof.Machine

/-! ## A calibration's end, its stored set, and tracking (R38, R39, R45): O2 -/

namespace Sys2Proof.Machine

set_option Elab.async false

/-! ### Factors and their bounds (Tables 2.4 and 2.5) -/

/-- A number that 36 bits hold is read back as it was written. -/
theorem toI_ofI {i b : Int} (h : magnitude i ≤ b) (hb : b < 2 ^ 35) : toI 36 (ofI 36 i) = i := by
  have hi : -(2 ^ 35) ≤ i ∧ i < 2 ^ 35 := by
    unfold magnitude at h
    split at h <;> omega
  unfold toI ofI
  norm_num at hi ⊢
  split <;> omega

/-- Every factor of a list lies within a bound. -/
def factorsWithin (l : List Int) (b : Int) : Prop := ∀ j, j < 64 → magnitude (l.getD j 0) ≤ b

theorem factorsWithin_of_all {l : List Int} {b : Int} (h : ¬ (!(List.range 64).all fun j => decide (magnitude (l.getD j 0) ≤ b)) = true) :
    factorsWithin l b := fun j hj => by
  rw [Bool.not_eq_true', Bool.not_eq_false, List.all_eq_true] at h
  exact of_decide_eq_true (h j (List.mem_range.mpr hj))

/-- Every verification passes only where all factors lie within their bounds. -/
theorem calReason_zero {off gain skew bw : List Int} {sourceOk : Bool} (h : calReason off gain skew bw sourceOk = 0) :
    factorsWithin off 1572864 ∧ factorsWithin gain 42949672 ∧ factorsWithin skew 34359 ∧ factorsWithin bw 85899345 := by
  unfold calReason at h
  extract_lets within at h
  split at h
  next => exact absurd h (by decide)
  next h1 =>
    split at h
    next => exact absurd h (by decide)
    next h2 =>
      split at h
      next => exact absurd h (by decide)
      next h3 =>
        split at h
        next => exact absurd h (by decide)
        next h4 => exact ⟨factorsWithin_of_all h1, factorsWithin_of_all h2, factorsWithin_of_all h3, factorsWithin_of_all h4⟩

theorem factorKey_eq (ch : Nat) {kind : Nat} (j : Nat) (h : kind < 4) : factorKey ch kind j = key (0x3010 + 0x100 * ch + kind) (0x01 + j) := by
  match kind, h with
  | 0, _ => rfl
  | 1, _ => show key _ _ = _; congr 1; omega
  | 2, _ => show key _ _ = _; congr 1; omega
  | 3, _ => show key _ _ = _; congr 1; omega

/-- The 64 factors of a kind are 64 objects. -/
theorem factorKeys_nodup (ch : Nat) {kind : Nat} (h : kind < 4) : ((List.range 64).map (factorKey ch kind)).Nodup := by
  refine List.Nodup.map (fun a b hab => ?_) List.nodup_range
  rw [factorKey_eq ch a h, factorKey_eq ch b h] at hab
  unfold key at hab; omega

/-- Factors of different kinds are different objects. -/
theorem factorKey_notMem {ch kind kind' j : Nat} (h : kind < 4) (h' : kind' < 4) (hne : kind' ≠ kind) (hj : j < 64) :
    factorKey ch kind' j ∉ (List.range 64).map (factorKey ch kind) := by
  simp only [List.mem_map, List.mem_range, not_exists, not_and]
  intro i hi he
  rw [factorKey_eq ch i h, factorKey_eq ch j h'] at he
  unfold key at he; omega

theorem eventKey_factorKey {ch kind j : Nat} (h4 : ch < 4) (h : kind < 4) (hj : j < 64) : eventKey (factorKey ch kind j) = false := by
  rw [factorKey_eq ch j h]
  unfold key
  exact eventKey_eq_false (by omega) fun i => by omega

/-- No factor is an object of the calibration's status or of tracking. -/
theorem factorKey_ne {ch kind j i b : Nat} (h : kind < 4) (hj : j < 64) (hi : 0x3014 ≤ i) (hi' : i < 0x3100) (hb : b < 256) :
    factorKey ch kind j ≠ key (i + 0x100 * ch) b := by
  rw [factorKey_eq ch j h]
  unfold key; omega

namespace State

variable (s : State) (ch : Nat)

theorem chans_of_rest {s t : State} (h : t.rest = s.rest) : t.chans = s.chans := (congrArg State.chans h :)

/-! ### Factors put in force -/

/-- What single writes leave alone, putting a set's factors in force leaves alone. -/
theorem putFactors_same {β : Type} (F : State → β) (h : ∀ s k v, F (State.wr s k v) = F s) (f : FactorSet) : F (s.putFactors ch f) = F s := by
  unfold putFactors
  extract_lets s1
  refine (foldl_same F (fun s k => s.wr (Obj.CONV_TRACK_DRIFT ch k) 0) (fun s _ => h ..) [0, 1, 2] s1).trans ?_
  exact foldl_same F (fun s kind => (List.range 64).foldl (fun s j => s.wrI (factorKey ch kind j) (f.factor kind j)) s)
    (fun s kind => foldl_same F (fun s j => s.wrI (factorKey ch kind j) (f.factor kind j)) (fun s _ => h ..) _ s) [0, 1, 2, 3] s

theorem putFactors_rest (f : FactorSet) : (s.putFactors ch f).rest = s.rest := putFactors_same s ch rest (fun _ _ _ => rfl) f
theorem putFactors_sess (f : FactorSet) : (s.putFactors ch f).sess = s.sess := putFactors_same s ch sess (fun _ _ _ => rfl) f
theorem putFactors_log (f : FactorSet) : (s.putFactors ch f).log = s.log := putFactors_same s ch log (fun _ _ _ => rfl) f

/-- The 64 factors of a kind after all are written, and every other object. -/
theorem writeFactors_rd (kind : Nat) (g : Nat → Nat → Int) (s : State) :
    (∀ j, kind < 4 → j < 64 → ((List.range 64).foldl (fun s j => s.wrI (factorKey ch kind j) (g j (s.rd (factorKey ch kind j)))) s).rd
      (factorKey ch kind j) = ofI 36 (g j (s.rd (factorKey ch kind j)))) ∧
    s.only ((List.range 64).foldl (fun s j => s.wrI (factorKey ch kind j) (g j (s.rd (factorKey ch kind j)))) s)
      ((List.range 64).map (factorKey ch kind)) := by
  have hf (s : State) (j q : Nat) : (s.wrI (factorKey ch kind j) (g j (s.rd (factorKey ch kind j)))).rd q =
      if q = factorKey ch kind j then ofI 36 (g j (s.rd (factorKey ch kind j))) else s.rd q := rd_wrI ..
  exact ⟨fun j hk hj => foldl_rd_at (g := fun j x => ofI 36 (g j x)) hf s (factorKeys_nodup ch hk) (List.mem_range.mpr hj),
    fun q hq => foldl_rd_other (g := fun j x => ofI 36 (g j x)) hf s hq⟩

theorem putFactors_rd (f : FactorSet) {kind j : Nat} (hk : kind < 4) (hj : j < 64) :
    (s.putFactors ch f).rd (factorKey ch kind j) = ofI 36 (f.factor kind j) := by
  unfold putFactors
  extract_lets s1
  have hdrift : factorKey ch kind j ∉ [0, 1, 2].map (Obj.CONV_TRACK_DRIFT ch) := by
    simp only [List.mem_map, not_exists, not_and]
    intro i hi he
    have h3 : i < 3 := by simp only [List.mem_cons, List.not_mem_nil, or_false] at hi; omega
    exact factorKey_ne (b := 0x01 + i) (i := 0x3023) hk hj (by decide) (by decide) (by omega) he.symm
  rw [foldl_rd_other (f := fun s k => s.wr (Obj.CONV_TRACK_DRIFT ch k) 0) (g := fun _ _ => 0) (fun _ _ _ => rd_wr ..) s1 hdrift]
  have hset (s : State) (kind : Nat) := s.writeFactors_rd ch kind fun j _ => f.factor kind j
  have hmem : kind ∈ [0, 1, 2, 3] := by simp only [List.mem_cons, List.not_mem_nil, or_false]; omega
  refine foldl_mem (I := fun _ => True)
    (P := fun kind (t : State) => kind < 4 → ∀ j, j < 64 → t.rd (factorKey ch kind j) = ofI 36 (f.factor kind j))
    (fun _ _ _ _ => trivial) (fun t _ a _ ha j hj => (hset t a).1 j ha hj) (fun t _ a ha c hc hc4 j hj => ?_) hmem trivial hk j hj
  by_cases hca : c = a
  · subst hca; exact (hset t c).1 j hc4 hj
  · have ha4 : a < 4 := by simp only [List.mem_cons, List.not_mem_nil, or_false] at ha; omega
    exact ((hset t a).2 _ (factorKey_notMem ha4 hc4 hca hj)).trans (hc hc4 j hj)

/-- A list's first 64 numbers, missing ones zero. -/
theorem getD_range64 (l : List Int) {j : Nat} (h : j < 64) : ((List.range 64).map fun j => l.getD j 0).getD j 0 = l.getD j 0 := by
  rw [List.getD_eq_getElem?_getD, List.getElem?_map, List.getElem?_range h]; rfl

/-! ### The end of a calibration -/

/-- The set that a calibration which has passed makes, and stores (R38, R39). -/
def madeSet (s : State) (ch : Nat) (off gain skew bw : List Int) (tj : Int) : FactorSet :=
  let take (l : List Int) := (List.range 64).map fun j => l.getD j 0
  FactorSet.seal { seq := (s.chan ch).nextSet, time := s.timeNow, tj := tj, fw := s.rd Obj.DEV_FW_VERSION
                   off := take off, gain := take gain, skew := take skew, bw := take bw }

theorem madeSet_factor {off gain skew bw : List Int} {tj : Int} {j : Nat} (hj : j < 64) :
    (s.madeSet ch off gain skew bw tj).factor 0 j = off.getD j 0 ∧ (s.madeSet ch off gain skew bw tj).factor 1 j = gain.getD j 0 ∧
      (s.madeSet ch off gain skew bw tj).factor 2 j = skew.getD j 0 ∧ (s.madeSet ch off gain skew bw tj).factor 3 j = bw.getD j 0 :=
  ⟨getD_range64 off hj, getD_range64 gain hj, getD_range64 skew hj, getD_range64 bw hj⟩

/-- The set is being stored, and in force. -/
def putMade (s : State) (ch : Nat) (f : FactorSet) : State :=
  ((s.updChan ch fun x => { x with storing := some f }).putFactors ch f).wr (Obj.CONV_CAL_STATUS ch) 2

theorem putMade_frame (f : FactorSet) : (s.putMade ch f).rest = { s.rest with chans := (s.putMade ch f).chans } ∧
    (s.putMade ch f).chans = s.chans.modify ch (fun x => { x with storing := some f }) ∧ (s.putMade ch f).sess = s.sess ∧
    (s.putMade ch f).log = s.log := by
  have hrest : (s.putMade ch f).rest = (s.updChan ch fun x => { x with storing := some f }).rest :=
    (wr_rest ..).trans (putFactors_rest ..)
  have hsess : (s.putMade ch f).sess = s.sess := (wr_sess ..).trans (putFactors_sess ..)
  have hlog : (s.putMade ch f).log = s.log := (wr_log ..).trans (putFactors_log ..)
  generalize s.putMade ch f = t at hrest hsess hlog ⊢
  have hchans : t.chans = s.chans.modify ch (fun x => { x with storing := some f }) := (congrArg State.chans hrest :)
  exact ⟨by rw [hrest, hchans]; rfl, hchans, hsess, hlog⟩

/-- A factor of the set is in force, where 36 bits hold it. -/
theorem putMade_rdI (f : FactorSet) {kind j : Nat} {b : Int} (hk : kind < 4) (hj : j < 64) (h : magnitude (f.factor kind j) ≤ b)
    (hb : b < 2 ^ 35) : (s.putMade ch f).rdI (factorKey ch kind j) = f.factor kind j := by
  have hne : factorKey ch kind j ≠ Obj.CONV_CAL_STATUS ch := factorKey_ne hk hj (by decide) (by decide) (by decide)
  unfold rdI putMade
  rw [rd_wr_other _ _ _ _ hne, putFactors_rd _ _ _ hk hj, toI_ofI h hb]

/-- A calibration that passes puts its factors in force and begins to store them. -/
theorem exec_calIntervalEnd_passed {s : State} {ch : Nat} {off gain skew bw : List Int} {sourceOk : Bool} {tj : Int} {c : Cal} (h4 : ch < 4)
    (hcal : (s.chan ch).cal = some c) (hend : c.end_ ≤ s.tick) (hkeep : c.abandoned = false)
    (hreason : calReason off gain skew bw sourceOk = 0) :
    exec (.calIntervalEnd ch off gain skew bw sourceOk tj) s =
      done s ((s.endCal ch c).putMade ch ((s.endCal ch c).madeSet ch off gain skew bw tj)) := by
  have hguard : ¬ (Nat.blt s.tick c.end_ || Nat.ble 4 ch) = true := by
    rw [Bool.or_eq_true, Nat.blt_eq, Nat.ble_eq]; omega
  have hab : ¬ c.abandoned = true := by rw [hkeep]; decide
  show execCalIntervalEnd ch off gain skew bw sourceOk tj s = _
  unfold execCalIntervalEnd
  rw [hcal]
  exact congrArg (done s) ((if_neg hguard).trans ((if_neg hab).trans (if_pos hreason)))

/-- The clause of R38: a calibration that passes every verification. -/
theorem calIntervalEnd_passes {s : State} {ch : Nat} {off gain skew bw : List Int} {sourceOk : Bool} {tj : Int} {c : Cal} (hsz : s.Sized)
    (h4 : ch < 4) (hcal : (s.chan ch).cal = some c) (hend : c.end_ ≤ s.tick) (hkeep : c.abandoned = false)
    (hreason : calReason off gain skew bw sourceOk = 0) :
    ∃ t, exec (.calIntervalEnd ch off gain skew bw sourceOk tj) s = .next t ∧ t.rd (Obj.CONV_CAL_STATUS ch) = 2 ∧
      (t.chan ch).cal = none ∧ (t.chan ch).storing.isSome = true ∧
      (∀ j, j < 64 → t.rdI (Obj.CONV_F_OFFSET ch j) = off.getD j 0 ∧ t.rdI (Obj.CONV_F_GAIN ch j) = gain.getD j 0 ∧
        t.rdI (Obj.CONV_F_SKEW ch j) = skew.getD j 0 ∧ t.rdI (Obj.CONV_F_BW ch j) = bw.getD j 0) ∧
      (∀ i, i ≠ ch → t.chan i = s.chan i) ∧ t.rest = { s.rest with chans := t.chans } ∧ t.sess = s.sess ∧ t.log = s.log := by
  obtain ⟨hoff, hgain, hskew, hbw⟩ := calReason_zero hreason
  rw [exec_calIntervalEnd_passed h4 hcal hend hkeep hreason]
  have hfactor {j : Nat} (hj : j < 64) := (s.endCal ch c).madeSet_factor ch (off := off) (gain := gain) (skew := skew) (bw := bw) (tj := tj) hj
  generalize (s.endCal ch c).madeSet ch off gain skew bw tj = f at hfactor ⊢
  let e := s.endCal ch c
  obtain ⟨hr, hc, hs, hl⟩ := e.putMade_frame ch f
  have hstatus : (e.putMade ch f).rd (Obj.CONV_CAL_STATUS ch) = 2 := rd_wr_same ..
  have hput {kind j : Nat} {b : Int} := e.putMade_rdI ch f (kind := kind) (j := j) (b := b)
  have hlen : ch < s.chans.length := hsz.chans_length.symm ▸ h4
  have helen : ch < e.chans.length := (List.length_modify ..).symm ▸ hlen
  change ∃ t, done s (e.putMade ch f) = .next t ∧ _
  generalize e.putMade ch f = t at hr hc hs hl hstatus hput ⊢
  have hchan (i : Nat) : t.chan i = (e.updChan ch fun x => { x with storing := some f }).chan i := chan_of_chans hc i
  have hself : t.chan ch = { e.chan ch with storing := some f } := (hchan ch).trans (chan_updChan_same _ helen)
  have hrest : t.rest = { s.rest with chans := t.chans } := by rw [hr]; rfl
  refine ⟨t, done_eq (congrArg State.wall hrest :) (congrArg State.pending hrest :), hstatus, ?_, by rw [hself]; rfl, fun j hj => ?_,
    fun i hi => ?_, hrest, hs, hl⟩
  · rw [hself]
    exact congrArg Chan.cal (chan_updChan_same _ hlen)
  · obtain ⟨h0, h1, h2, h3⟩ := hfactor hj
    exact ⟨(hput (kind := 0) (by decide) hj (h0.symm ▸ hoff j hj) (by decide)).trans h0,
      (hput (kind := 1) (by decide) hj (h1.symm ▸ hgain j hj) (by decide)).trans h1,
      (hput (kind := 2) (by decide) hj (h2.symm ▸ hskew j hj) (by decide)).trans h2,
      (hput (kind := 3) (by decide) hj (h3.symm ▸ hbw j hj) (by decide)).trans h3⟩
  · rw [hchan, chan_updChan_other _ _ hi]
    exact chan_updChan_other _ _ hi

/-! ### The advice (R46) -/

theorem advise_eq : ∃ v, s.advise ch = s.wr (Obj.CONV_CAL_ADVISED ch) v ∨
    s.advise ch = (s.wr (Obj.CONV_CAL_ADVISED ch) v).event 1 254 0x0101 ch := by
  unfold advise
  extract_lets f on was s1
  refine ⟨b2n on, ?_⟩
  split
  · exact .inr rfl
  · exact .inl rfl

theorem advise_rest : (s.advise ch).rest = s.rest := by
  obtain ⟨v, h | h⟩ := s.advise_eq ch
  · rw [h]; rfl
  · rw [h, event_rest]; rfl

theorem advise_rd {q : Nat} (hq : q ≠ Obj.CONV_CAL_ADVISED ch) (he : eventKey q = false) : (s.advise ch).rd q = s.rd q := by
  obtain ⟨v, h | h⟩ := s.advise_eq ch
  · rw [h, rd_wr_other _ _ _ _ hq]
  · rw [h, event_rd _ _ _ _ _ _ _ _ he, rd_wr_other _ _ _ _ hq]

/-! ### The set is stored (R39) -/

/-- With nothing that waits for it a calibration's end is told to no one. -/
theorem calDone_alone {s : State} {ch : Nat} (ok : Bool) (hreqs : (s.chan ch).calReqs = []) (hall : s.conv.all = none) :
    s.calDone ch ok = s.updChan ch fun x => { x with calReqs := [] } := by
  unfold calDone
  extract_lets st s1 s2
  have h1 : s1 = s := by unfold s1; rw [hreqs]; rfl
  have h2 : s2.conv.all = none := by unfold s2; rw [h1]; exact hall
  rw [h2]
  unfold s2
  rw [h1]

/-- The objects that show the active set. -/
theorem showSet_rd {s : State} {ch i : Nat} {f : FactorSet} (hi : i < 2) (hf : s.storedSet ch i = f) :
    (s.showSet ch i).rd (Obj.CONV_SET_ACTIVE ch) = i ∧ (s.showSet ch i).rd (Obj.CONV_SET_SEQ ch) = f.seq ∧
      (s.showSet ch i).rd (Obj.CONV_SET_TIME ch) = f.time ∧
      s.only (s.showSet ch i) [Obj.CONV_SET_ACTIVE ch, Obj.CONV_SET_SEQ ch, Obj.CONV_SET_TIME ch, Obj.CONV_SET_TJ ch] := by
  have hs : s.showSet ch i = (((s.wr (Obj.CONV_SET_ACTIVE ch) i).wr (Obj.CONV_SET_SEQ ch) f.seq).wr (Obj.CONV_SET_TIME ch) f.time).wrI
      (Obj.CONV_SET_TJ ch) f.tj := by
    have hi2 : ¬ i = 2 := by omega
    unfold showSet
    dsimp only
    rw [hf, if_neg hi2]; rfl
  rw [hs]
  refine ⟨?_, ?_, ?_, fun q hq => ?_⟩
  · simp [rd_wrI, rd_wr, Obj.CONV_SET_ACTIVE, Obj.CONV_SET_SEQ, Obj.CONV_SET_TIME, Obj.CONV_SET_TJ, key]
  · simp [rd_wrI, rd_wr, Obj.CONV_SET_SEQ, Obj.CONV_SET_TIME, Obj.CONV_SET_TJ, key]
  · simp [rd_wrI, Obj.CONV_SET_TIME, Obj.CONV_SET_TJ, key]
  · simp only [List.mem_cons, List.not_mem_nil, or_false, not_or] at hq
    obtain ⟨h1, h2, h3, h4⟩ := hq
    rw [rd_wrI, if_neg h4, rd_wr_other _ _ _ _ h3, rd_wr_other _ _ _ _ h2, rd_wr_other _ _ _ _ h1]

theorem showSet_frame (i : Nat) : (s.showSet ch i).rest = s.rest := by
  unfold showSet
  extract_lets f
  rw [wrI_rest, wrAll_rest, wr_rest]

/-- The set becomes the one at place i of A and B; a channel that was powered for the calibration alone is off again. -/
def keepSet (s : State) (ch i : Nat) (f : FactorSet) : State :=
  let s := s.updChan ch fun x => { x with storing := none, sets := x.sets.set i f, pointer := i }
  if !s.rdB (Obj.CONV_ENABLE ch) && !s.convFenced ch then s.wr (Obj.CONV_STATE ch) 0 else s

theorem keepSet_frame (i : Nat) (f : FactorSet) : ChannelFrame ch [Obj.CONV_STATE ch] s (s.keepSet ch i f) := by
  have h := (ChannelFrame.refl ch [Obj.CONV_STATE ch] s).updChan fun x => { x with storing := none, sets := x.sets.set i f, pointer := i }
  exact (h.wr 0 (List.mem_singleton.mpr rfl)).ite h

theorem keepSet_tuners (i : Nat) (f : FactorSet) : (s.keepSet ch i f).tuners = s.tuners := by
  unfold keepSet
  extract_lets s1
  split <;> rfl

theorem keepSet_chan {s : State} {ch : Nat} (i : Nat) (f : FactorSet) (hl : ch < s.chans.length) :
    (s.keepSet ch i f).chan ch = { s.chan ch with storing := none, sets := (s.chan ch).sets.set i f, pointer := i } := by
  unfold keepSet
  extract_lets s1
  split <;> exact chan_updChan_same _ hl

/-- Read back, the set is the one stored at its place. -/
theorem keepSet_storedSet {s : State} {ch i : Nat} (f : FactorSet) (hl : ch < s.chans.length) (hsets : (s.chan ch).sets.length = 2)
    (hi : i < 2) : (s.keepSet ch i f).storedSet ch i = f := by
  have hne : ¬ i = 2 := by omega
  unfold storedSet at'
  rw [if_neg hne, keepSet_chan i f hl, List.getD_eq_getElem?_getD]
  dsimp only
  rw [List.getElem?_set_self (hsets.symm ▸ hi)]
  rfl

theorem exec_calSetStored {s : State} {ch i : Nat} {f : FactorSet} (h4 : ch < 4) (hstoring : (s.chan ch).storing = some f)
    (hi : i = if s.rd (Obj.CONV_SET_ACTIVE ch) = 0 then 1 else 0) :
    exec (.calSetStored ch true) s =
      done s (((((s.keepSet ch i f).showSet ch i).wr (Obj.CONV_CAL_STATUS ch) 3).advise ch).calDone ch true) := by
  have hguard : ¬ Nat.ble 4 ch = true := by rw [Nat.ble_eq]; omega
  subst hi
  show execCalSetStored ch true s = _
  unfold execCalSetStored
  rw [hstoring]
  exact congrArg (done s) (if_neg hguard)

/-- The objects of a channel's sets, its calibration and its tracking are none of the event log's. -/
theorem eventKey_calObject {ch i b : Nat} (h4 : ch < 4) (hi : 0x3014 ≤ i) (hi' : i < 0x3100) (hb : b < 256) :
    eventKey (key (i + 0x100 * ch) b) = false := by
  unfold key
  exact eventKey_eq_false (by omega) fun i => by omega

/-- The clause of R38 and R39: the set read back is the active one, and the calibration is done. -/
theorem calSetStored_done {s : State} {ch : Nat} {f : FactorSet} (hsz : s.Sized) (h4 : ch < 4) (hstoring : (s.chan ch).storing = some f)
    (hsets : (s.chan ch).sets.length = 2) (hreqs : (s.chan ch).calReqs = []) (hall : s.conv.all = none) :
    ∃ t, exec (.calSetStored ch true) s = .next t ∧ t.rd (Obj.CONV_CAL_STATUS ch) = 3 ∧ (t.chan ch).storing = none ∧
      t.rd (Obj.CONV_SET_ACTIVE ch) = (if s.rd (Obj.CONV_SET_ACTIVE ch) = 0 then 1 else 0) ∧
      t.rd (Obj.CONV_SET_SEQ ch) = f.seq ∧ t.rd (Obj.CONV_SET_TIME ch) = f.time ∧
      (∀ i, i ≠ ch → t.chan i = s.chan i) ∧ t.rest = { s.rest with chans := t.chans } ∧
      s.onlyE t [Obj.CONV_CAL_STATUS ch, Obj.CONV_SET_ACTIVE ch, Obj.CONV_SET_SEQ ch, Obj.CONV_SET_TIME ch, Obj.CONV_SET_TJ ch,
        Obj.CONV_CAL_ADVISED ch, Obj.CONV_STATE ch] := by
  obtain ⟨i, hi⟩ : ∃ i, i = if s.rd (Obj.CONV_SET_ACTIVE ch) = 0 then 1 else 0 := ⟨_, rfl⟩
  have hi2 : i < 2 := by rw [hi]; split <;> decide
  have hl : ch < s.chans.length := hsz.chans_length.symm ▸ h4
  rw [exec_calSetStored h4 hstoring hi, ← hi]
  have hframe := s.keepSet_frame ch i f
  have hchan := keepSet_chan i f hl
  have hset := keepSet_storedSet f hl hsets hi2
  have hrestx := hframe.rest_chans (s.keepSet_tuners ch i f)
  generalize s.keepSet ch i f = x at hframe hchan hset hrestx ⊢
  obtain ⟨hactive, hseq, htime, honly⟩ := showSet_rd hi2 hset
  have hrestz : (((x.showSet ch i).wr (Obj.CONV_CAL_STATUS ch) 3).advise ch).rest = x.rest :=
    (advise_rest ..).trans ((wr_rest ..).trans (showSet_frame ..))
  have hrdz {q : Nat} (hq : q ≠ Obj.CONV_CAL_ADVISED ch) (he : eventKey q = false) :
      (((x.showSet ch i).wr (Obj.CONV_CAL_STATUS ch) 3).advise ch).rd q =
        if q = Obj.CONV_CAL_STATUS ch then 3 else (x.showSet ch i).rd q := (advise_rd _ _ hq he).trans (rd_wr ..)
  generalize ((x.showSet ch i).wr (Obj.CONV_CAL_STATUS ch) 3).advise ch = z at hrestz hrdz ⊢
  have hzc : z.chans = x.chans := chans_of_rest hrestz
  have hzv : z.conv = s.conv := (congrArg State.conv (hrestz.trans hrestx) :)
  have hzchan : z.chan ch = _ := (chan_of_chans hzc ch).trans hchan
  rw [calDone_alone (s := z) true (by rw [hzchan]; exact hreqs) (by rw [hzv]; exact hall)]
  have hrest : (z.updChan ch fun x => { x with calReqs := [] }).rest =
      { s.rest with chans := (z.updChan ch fun x => { x with calReqs := [] }).chans } := by rw [updChan_rest, hrestz, hrestx]
  have hset14 {b : Nat} (hb : b < 256) : z.rd (key (0x3014 + 0x100 * ch) b) = (x.showSet ch i).rd (key (0x3014 + 0x100 * ch) b) := by
    rw [hrdz (by unfold Obj.CONV_CAL_ADVISED key; omega) (eventKey_calObject h4 (by decide) (by decide) hb),
      if_neg (by unfold Obj.CONV_CAL_STATUS key; omega)]
  refine ⟨_, done_eq (congrArg State.wall hrest :) (congrArg State.pending hrest :), ?_, ?_, (hset14 (by decide)).trans hactive,
    (hset14 (by decide)).trans hseq, (hset14 (by decide)).trans htime, fun j hj => ?_, hrest, fun q hq he => ?_⟩
  · have he : eventKey (Obj.CONV_CAL_STATUS ch) = false := eventKey_calObject (i := 0x3021) h4 (by decide) (by decide) (by decide)
    rw [updChan_rd, hrdz (by unfold Obj.CONV_CAL_ADVISED Obj.CONV_CAL_STATUS key; omega) he, if_pos rfl]
  · rw [chan_updChan_same _ (by rw [hzc, hframe.length]; exact hl), hzchan]
  · rw [chan_updChan_other _ _ hj, chan_of_chans hzc, hframe.chan j hj]
  · simp only [List.mem_cons, List.not_mem_nil, or_false, not_or] at hq
    obtain ⟨h1, h2, h3, h4, h5, h6, h7⟩ := hq
    rw [updChan_rd, hrdz h6 he, if_neg h1, honly q (by simp [h2, h3, h4, h5]), hframe.only q (by simpa using h7)]

/-! ### Tracking (R45) -/

/-- Where an update moves a factor: a step at most towards the estimate, within its bound of the set's. -/
def trackTo (f : FactorSet) (kind : Nat) (target : List Int) (j : Nat) (cur : Int) : Int :=
  clampI (f.factor kind j - trackBound kind) (f.factor kind j + trackBound kind)
    (cur + clampI (-(trackStep kind)) (trackStep kind) (target.getD j cur - cur))

/-- All factors of a kind move. -/
def moveFactors (s : State) (ch kind : Nat) (f : FactorSet) (target : List Int) : State :=
  (List.range 64).foldl (fun s j => s.wrI (factorKey ch kind j) (trackTo f kind target j (s.rdI (factorKey ch kind j)))) s

theorem moveFactors_rest (kind : Nat) (f : FactorSet) (target : List Int) : (s.moveFactors ch kind f target).rest = s.rest :=
  foldl_same rest (fun s j => s.wrI (factorKey ch kind j) (trackTo f kind target j (s.rdI (factorKey ch kind j)))) (fun _ _ => rfl) _ s

theorem moveFactors_rd {kind : Nat} (hk : kind < 4) (f : FactorSet) (target : List Int) :
    (∀ j, j < 64 → (s.moveFactors ch kind f target).rd (factorKey ch kind j) =
      ofI 36 (trackTo f kind target j (s.rdI (factorKey ch kind j)))) ∧
    s.only (s.moveFactors ch kind f target) ((List.range 64).map (factorKey ch kind)) := by
  obtain ⟨hrd, honly⟩ := s.writeFactors_rd ch kind fun j x => trackTo f kind target j (toI 36 x)
  exact ⟨fun j hj => hrd j hk hj, honly⟩

/-- An update that is due and whose input condition the blocks meet. -/
theorem exec_trackingUpdate {s : State} {ch kind : Nat} {target : List Int} {bandOk : Bool} (h4 : ch < 4) (hk : kind < 3)
    (hdue : (s.chan ch).trackAt.getD kind 0 ≤ s.wall) (hon : s.rdB (Obj.CONV_TRACK_ENABLE ch) = true)
    (hstate : s.rd (Obj.CONV_STATE ch) = 2) (hn : ((s.chan ch).track.getD kind {}).n ≠ 0)
    (hloud : kind = 0 ∨ ((s.chan ch).track.getD kind {}).loud = true) (hband : kind = 2 → bandOk = true) :
    ∃ (g h : Chan → Chan) (v : Int), exec (.trackingUpdate ch kind target bandOk) s =
      done s (((((s.updChan ch g).moveFactors ch kind (s.baseSet ch) target).updChan ch h).wrI (Obj.CONV_TRACK_DRIFT ch kind) v).advise
        ch) := by
  have hguard : ¬ (Nat.ble 4 ch || Nat.ble 3 kind || !(Nat.ble ((s.chan ch).trackAt.getD kind 0) s.wall) ||
      !s.rdB (Obj.CONV_TRACK_ENABLE ch) || s.rd (Obj.CONV_STATE ch) != 2) = true := by
    rw [hon, hstate, Nat.ble_eq_true_of_le hdue]
    simp only [Bool.or_eq_true, Nat.ble_eq, Bool.not_true, bne_self_eq_false, Bool.false_eq_true, or_false]
    omega
  have hinput : ¬ (((s.chan ch).track.getD kind {}).n = 0 ∨ (kind ≠ 0 ∧ ((s.chan ch).track.getD kind {}).loud = false) ∨
      (kind = 2 ∧ bandOk = false)) := by
    rintro (h | ⟨h0, hl⟩ | ⟨h2, hb⟩)
    · exact hn h
    · exact hloud.elim h0 fun hl' => Bool.false_ne_true (hl.symm.trans hl')
    · exact Bool.false_ne_true (hb.symm.trans (hband h2))
  exact ⟨_, _, _, congrArg (done s) ((if_neg hguard).trans (if_neg hinput))⟩

/-- The clause of R45: each factor moves by a step at most, within its bound. -/
theorem trackingUpdate_moves {s : State} {ch kind : Nat} {target : List Int} {bandOk : Bool} (h4 : ch < 4) (hk : kind < 3)
    (hdue : (s.chan ch).trackAt.getD kind 0 ≤ s.wall) (hon : s.rdB (Obj.CONV_TRACK_ENABLE ch) = true)
    (hstate : s.rd (Obj.CONV_STATE ch) = 2) (hn : ((s.chan ch).track.getD kind {}).n ≠ 0)
    (hloud : kind = 0 ∨ ((s.chan ch).track.getD kind {}).loud = true) (hband : kind = 2 → bandOk = true) :
    ∃ t, exec (.trackingUpdate ch kind target bandOk) s = .next t ∧
      (∀ j, j < 64 → t.rd (factorKey ch kind j) = ofI 36 (trackTo (s.baseSet ch) kind target j (s.rdI (factorKey ch kind j)))) ∧
      (∀ i, i ≠ ch → t.chan i = s.chan i) ∧ t.rest = { s.rest with chans := t.chans } ∧
      s.onlyE t (Obj.CONV_TRACK_DRIFT ch kind :: Obj.CONV_CAL_ADVISED ch :: (List.range 64).map (factorKey ch kind)) := by
  obtain ⟨g, h, v, hexec⟩ := exec_trackingUpdate (target := target) h4 hk hdue hon hstate hn hloud hband
  have hk4 : kind < 4 := by omega
  obtain ⟨hrd, honly⟩ := (s.updChan ch g).moveFactors_rd ch hk4 (s.baseSet ch) target
  have hrest := (s.updChan ch g).moveFactors_rest ch kind (s.baseSet ch) target
  rw [hexec]
  generalize (s.updChan ch g).moveFactors ch kind (s.baseSet ch) target = x at hrd honly hrest ⊢
  have hxc : x.chans = (s.updChan ch g).chans := chans_of_rest hrest
  have hyc (i : Nat) (hi : i ≠ ch) : (x.updChan ch h).chan i = s.chan i := by
    rw [chan_updChan_other _ _ hi, chan_of_chans hxc, chan_updChan_other _ _ hi]
  have hyr : (x.updChan ch h).rest = { s.rest with chans := (x.updChan ch h).chans } := by
    rw [updChan_rest, hrest, updChan_rest]
  have hyq (q : Nat) : (x.updChan ch h).rd q = x.rd q := updChan_rd ..
  generalize x.updChan ch h = y at hyc hyr hyq ⊢
  have hrestt : ((y.wrI (Obj.CONV_TRACK_DRIFT ch kind) v).advise ch).rest = y.rest := (advise_rest ..).trans (wrI_rest ..)
  have hrdt {q : Nat} (h1 : q ≠ Obj.CONV_TRACK_DRIFT ch kind) (h2 : q ≠ Obj.CONV_CAL_ADVISED ch) (he : eventKey q = false) :
      ((y.wrI (Obj.CONV_TRACK_DRIFT ch kind) v).advise ch).rd q = x.rd q := by
    rw [advise_rd _ _ h2 he, rd_wrI, if_neg h1, hyq]
  generalize (y.wrI (Obj.CONV_TRACK_DRIFT ch kind) v).advise ch = t at hrestt hrdt ⊢
  have htc : t.chans = y.chans := chans_of_rest hrestt
  have htr : t.rest = { s.rest with chans := t.chans } := by rw [hrestt, htc, hyr]
  refine ⟨t, done_eq (congrArg State.wall htr :) (congrArg State.pending htr :), fun j hj => ?_, fun i hi => ?_, htr, fun q hq he => ?_⟩
  · have h1 : factorKey ch kind j ≠ Obj.CONV_TRACK_DRIFT ch kind := factorKey_ne (i := 0x3023) hk4 hj (by decide) (by decide) (by omega)
    have h2 : factorKey ch kind j ≠ Obj.CONV_CAL_ADVISED ch := factorKey_ne hk4 hj (by decide) (by decide) (by decide)
    rw [hrdt h1 h2 (eventKey_factorKey h4 hk4 hj), hrd j hj, updChan_rdI]
  · rw [chan_of_chans htc, hyc i hi]
  · simp only [List.mem_cons, not_or] at hq
    obtain ⟨h1, h2, h3⟩ := hq
    rw [hrdt h1 h2 he, honly q h3, updChan_rd]

end State

/-- Settles O2: the tone's two values, then each clause is the lemma of its command. -/
theorem converterCalibration : Obligations.ConverterCalibration := by
  unfold Obligations.ConverterCalibration
  refine ⟨fun s h => State.tone_muted h, fun s hd hskew hr => State.tone_mode hd hskew hr, ?_, ?_, ?_, ?_, ?_⟩
  · exact fun s sess tag ch hsz h4 hs hf hc hlock hskew hupd htwin => State.convCalCmd_begins hsz h4 hs hf hc hlock hskew hupd htwin
  · exact fun s sess tag hsz hs hne hc hlock hskew hupd htwin => State.convCalAll_begins hsz hs hne hc hlock hskew hupd htwin
  · exact fun s ch off gain skew bw sourceOk tj c hsz h4 hcal hend hkeep hreason =>
      State.calIntervalEnd_passes hsz h4 hcal hend hkeep hreason
  · exact fun s ch f hsz h4 hstoring hsets hreqs hall => State.calSetStored_done hsz h4 hstoring hsets hreqs hall
  · exact fun s ch kind target bandOk _ h4 hk hdue hon hstate hn hloud hband =>
      State.trackingUpdate_moves h4 hk hdue hon hstate hn hloud hband

end Sys2Proof.Machine

/-! ## Tuners (R63, R68, R72): O5 -/

namespace Sys2Proof.Machine

set_option Elab.async false

/-! ### What a sample leaves alone on its way down

A sample that a tuner delivers, and the record of a gap between its samples, reach rings, flows, trigger sources, contexts and their
blocks. One lemma per operation on that way says that it turns back to no tuner, no channel and nothing that `State.control` keeps. -/

/-- `t` differs from `s` below the tuners alone. -/
structure Downstream (s t : State) : Prop where
  control : t.control = s.control
  chans : t.chans = s.chans
  tuners : t.tuners = s.tuners

namespace Downstream

variable {s0 s t : State}

theorem refl (s : State) : Downstream s s := ⟨rfl, rfl, rfl⟩

theorem same (hs : Downstream s0 s) (hc : t.control = s.control) (hch : t.chans = s.chans) (ht : t.tuners = s.tuners) : Downstream s0 t := by
  obtain ⟨hc0, hch0, ht0⟩ := hs
  exact ⟨hc.trans hc0, hch.trans hch0, ht.trans ht0⟩

/-- Objects, sessions and the log lie below. -/
theorem ofRest (hs : Downstream s0 s) (hr : t.rest = s.rest) : Downstream s0 t :=
  hs.same (congrArg State.control hr :) (congrArg State.chans hr :) (congrArg State.tuners hr :)

theorem ite {c : Prop} [Decidable c] (hs : Downstream s0 s) (ht : Downstream s0 t) : Downstream s0 (if c then s else t) := by
  split
  · exact hs
  · exact ht

theorem foldl {α : Type} {f : State → α → State} {l : List α} (hs : Downstream s0 s)
    (hf : ∀ t a, Downstream s0 t → Downstream s0 (f t a)) :
    Downstream s0 (l.foldl f s) :=
  List.foldlRecOn l f hs fun t ht a _ => hf t a ht

theorem foldr {α : Type} {f : α → State → State} {l : List α} (hs : Downstream s0 s)
    (hf : ∀ a t, Downstream s0 t → Downstream s0 (f a t)) :
    Downstream s0 (l.foldr f s) :=
  List.foldrRecOn l f hs fun t ht a _ => hf a t ht

/-- As `foldl`, where the state is carried with something else. -/
theorem foldl_fst {α β : Type} {f : State × β → α → State × β} {l : List α} {p : State × β} (hp : Downstream s0 p.1)
    (hf : ∀ q a, Downstream s0 q.1 → Downstream s0 (f q a).1) : Downstream s0 (l.foldl f p).1 :=
  List.foldlRecOn (motive := fun q => Downstream s0 q.1) l f hp fun q hq a _ => hf q a hq

/-- The state of a pair that an operation answers. -/
theorem of_eq {α : Type} {p : State × α} {x : α} (h : Downstream s0 p.1) (e : p = (t, x)) : Downstream s0 t := by
  subst e; exact h

/-! #### Objects, events and units -/

theorem wr {k v : Nat} (hs : Downstream s0 s) : Downstream s0 (s.wr k v) := hs.ofRest (State.wr_rest ..)
theorem wrAll {l : List (Nat × Nat)} (hs : Downstream s0 s) : Downstream s0 (s.wrAll l) := hs.ofRest (State.wrAll_rest ..)
theorem countN {k n : Nat} (hs : Downstream s0 s) : Downstream s0 (s.countN k n) := hs.wr
theorem count {k : Nat} (hs : Downstream s0 s) : Downstream s0 (s.count k) := hs.wr
theorem event {c i e a b d : Nat} (hs : Downstream s0 s) : Downstream s0 (s.event c i e a b d) := hs.ofRest (State.event_rest ..)
theorem used {n : Nat} (hs : Downstream s0 s) : Downstream s0 (s.used n) := hs.same rfl rfl rfl
theorem updFlow {f : Nat} {g : Flow → Flow} (hs : Downstream s0 s) : Downstream s0 (s.updFlow f g) := hs.same rfl rfl rfl
theorem updRing {h : Nat} {g : Ring → Ring} (hs : Downstream s0 s) : Downstream s0 (s.updRing h g) := hs.same rfl rfl rfl
theorem updSrc {k : Nat} {g : Source → Source} (hs : Downstream s0 s) : Downstream s0 (s.updSrc k g) := hs.same rfl rfl rfl
theorem updSeqr {q : Nat} {g : Seqr → Seqr} (hs : Downstream s0 s) : Downstream s0 (s.updSeqr q g) := hs.same rfl rfl rfl
theorem updPlane {p : Nat} {g : Plane → Plane} (hs : Downstream s0 s) : Downstream s0 (s.updPlane p g) := hs.same rfl rfl rfl
theorem updDet {c : Nat} {g : Det → Det} (hs : Downstream s0 s) : Downstream s0 (s.updDet c g) := hs.same rfl rfl rfl
theorem updCtx {c : Nat} {g : Ctx → Ctx} (hs : Downstream s0 s) : Downstream s0 (s.updCtx c g) := hs.same rfl rfl rfl

theorem withFormed {x : Nat} (hs : Downstream s0 s) : Downstream s0 { s with formed := x } := hs.same rfl rfl rfl

/-! #### Records entered into flows and rings -/

theorem enterMirrored {f : Nat} (hs : Downstream s0 s) : Downstream s0 (s.enterMirrored f) := by
  have hf {l : List (Nat × Nat × Record)} : Downstream s0 (l.foldl (fun s e => s.updFlow f fun x => x.offer s.wall e.2.2) s) :=
    hs.foldl fun _ _ ht => ht.updFlow
  unfold State.enterMirrored; exact .ite hs (hf.same rfl rfl rfl)

theorem enter {f : Nat} {r : Record} (hs : Downstream s0 s) : Downstream s0 (s.enter f r) := by
  unfold State.enter; exact .ite hs.enterMirrored <| .ite hs.enterMirrored.updFlow hs.enterMirrored

theorem enterAll {fs : List Nat} {r : Record} (hs : Downstream s0 s) : Downstream s0 (s.enterAll fs r) := by
  unfold State.enterAll; exact hs.foldl fun _ _ ht => ht.enter

theorem side {h : Nat} {r : Record} (hs : Downstream s0 s) : Downstream s0 (s.side h r) := by
  unfold State.side; exact .ite hs.updRing.wr hs

theorem explain {f last : Nat} {r : Record} (hs : Downstream s0 s) : Downstream s0 (s.explain f last r) := by
  unfold State.explain; exact .ite (hs.updFlow.ite hs) <| .ite hs.enter hs

theorem tellTuner {n last : Nat} {r : Record} (hs : Downstream s0 s) : Downstream s0 (s.tellTuner n last r) := by
  unfold State.tellTuner; exact hs.side.foldl fun _ _ ht => ht.explain

/-! #### The tuner's history ring -/

theorem pushLine {h : Nat} {l : Line} (hs : Downstream s0 s) : Downstream s0 (s.pushLine h l) := by
  have hp : Downstream s0 ((s.updRing h fun r => { r with buf := r.buf ++ [l] }).setPanic h) := by
    unfold State.setPanic; exact .ite hs.updRing.updRing.count hs.updRing.updRing
  unfold State.pushLine; exact .ite hp (hs.countN.side.foldl fun _ _ ht => ht.explain).event

theorem finishLine {h : Nat} (hs : Downstream s0 s) : Downstream s0 (s.finishLine h) := by
  unfold State.finishLine
  extract_lets
  split
  · exact hs
  · exact hs.updRing.pushLine

theorem ringPut {h i : Nat} {v : Samp} (hs : Downstream s0 s) : Downstream s0 (s.ringPut h i v) := by
  unfold State.ringPut
  extract_lets _ s1 s2
  have h1 : Downstream s0 s1 := .ite hs hs.finishLine
  have h2 : Downstream s0 s2 := by
    unfold s2
    split
    · exact h1
    · exact .ite h1.pushLine h1
  exact .ite hs <| .ite h2.updRing.finishLine h2.updRing

theorem feedLine {h : Nat} {l : Line} (hs : Downstream s0 s) : Downstream s0 (s.feedLine h l) := by
  unfold State.feedLine; exact hs.foldl fun _ _ ht => ht.updFlow

theorem missFrame {f : Nat} {fr : TxFrame} (hs : Downstream s0 s) : Downstream s0 (s.missFrame f fr) := by
  have hl : Downstream s0 (s.loseFrame f fr) := by
    unfold State.loseFrame; exact .ite hs.updFlow.count.count.wr.event hs.updFlow.count.count.wr
  unfold State.missFrame; exact .ite (hs.updFlow.enter.same rfl rfl rfl) hl

theorem discardRing {h : Nat} (hs : Downstream s0 s) : Downstream s0 (s.discardRing h) := by
  have hl : Downstream s0 (s.loseRef h) := by
    unfold State.loseRef State.missFrames; exact hs.foldl fun _ _ ht => ht.foldl fun _ _ hu => hu.missFrame
  unfold State.discardRing; exact hl.updRing.wr.wr.wr

theorem ringGrid {n label d : Nat} (hs : Downstream s0 s) : Downstream s0 (s.ringGrid n label d) := by
  unfold State.ringGrid
  exact .ite hs <| .ite hs.updRing <|
    ((hs.finishLine.foldl fun _ _ ht => .ite ht ht.feedLine).foldl fun _ _ ht => ht.updFlow).discardRing.updRing.wr

/-! #### Trigger sources -/

theorem srcLevel {k p : Nat} {b : Bool} (hs : Downstream s0 s) : Downstream s0 (s.srcLevel k p b) := by
  unfold State.srcLevel State.showSrc; exact hs.updSrc.wr

theorem retireAll {p : SrcCfg → Bool} {label : Nat} (hs : Downstream s0 s) : Downstream s0 (s.retireAll p label) := by
  unfold State.retireAll; exact hs.foldl fun _ _ ht => ht.updSrc

theorem issue {k holdoff p flags : Nat} (hs : Downstream s0 s) : Downstream s0 (s.issue k holdoff p flags) := by
  unfold State.issue State.offerEvent
  exact .ite hs <| .ite hs.count <| hs.updSrc.wr.wr.foldl fun _ _ ht => .ite ht.updSeqr ht

theorem srcInput {k : Nat} {c : SrcCfg} {i : SrcInput} (hs : Downstream s0 s) : Downstream s0 (s.srcInput k c i) := by
  unfold State.srcInput State.showSrc
  extract_lets _ _ _ _ _ _ _ _ s1
  have h1 : Downstream s0 s1 := .ite hs.updSrc.srcLevel hs.updSrc
  exact .ite h1.srcLevel.issue h1.wr

theorem magnitudeInputs {n label d w : Nat} (hs : Downstream s0 s) : Downstream s0 (s.magnitudeInputs n label d w) := by
  unfold State.magnitudeInputs
  exact hs.retireAll.foldl fun _ _ ht => ht.srcInput.updSrc

theorem srcGap {k : Nat} {c : SrcCfg} {a b : Nat} (hs : Downstream s0 s) : Downstream s0 (s.srcGap k c a b) := by
  unfold State.srcGap State.showSrc State.countGap
  extract_lets _ _ s1
  have h1 : Downstream s0 s1 := (hs.srcLevel.ite hs).updSrc
  exact ((h1.foldl fun _ _ ht => .ite ht.count.updSeqr ht).ite h1).wr

theorem gapFor {kind a b p q : Nat} {test : Nat → Bool} {reads : SrcCfg → Bool} (hs : Downstream s0 s) :
    Downstream s0 (s.gapFor kind a b p q test reads) := by
  unfold State.gapFor; exact (hs.foldl fun _ _ ht => ht.srcGap).retireAll.foldl fun _ _ ht => ht.srcGap

/-! #### A context's block, where the context has a gap -/

theorem peakPayload {g : DetCfg} {b0 : Int} {l : List (Option Int)} (hs : Downstream s0 s) : Downstream s0 (s.peakPayload g b0 l).1 := by
  have hw {u : State} {k : Nat} (hu : Downstream s0 u) : Downstream s0 (u.peakWords l b0 k).1 := by
    unfold State.peakWords
    split
    · exact hu
    · exact hu.used
  unfold State.peakPayload
  exact foldl_fst hs fun _ _ ht => hw ht

theorem closePeriod {c : Nat} (hs : Downstream s0 s) : Downstream s0 (s.closePeriod c) := by
  unfold State.closePeriod
  extract_lets
  split
  · exact hs
  · split
    · exact hs.updDet
    · extract_lets
      split
      extract_lets
      split
      next t _ eq =>
        have ht : Downstream s0 t := of_eq (by split; exacts [hs.peakPayload, hs]) eq
        extract_lets _ _ s1 s2
        have h1 : Downstream s0 s1 := ht.updDet.countN
        have h2 : Downstream s0 s2 := h1.wr.ite h1
        exact h2.countN.ite h2

theorem closeIfCovered {c : Nat} (hs : Downstream s0 s) : Downstream s0 (s.closeIfCovered c) := by
  unfold State.closeIfCovered
  extract_lets
  split
  · exact hs
  · split
    · exact hs
    · exact .ite hs.closePeriod hs

theorem closeColumns {c : Nat} (hs : Downstream s0 s) : Downstream s0 (s.closeColumns c) := by
  unfold State.closeColumns State.planeSet
  extract_lets
  split
  · exact hs
  · split
    · exact hs.updDet
    · extract_lets _ _ _ s1
      have h1 : Downstream s0 s1 := hs.updDet.enterAll.updDet
      exact .ite (h1.ite h1.updPlane) h1

theorem coverColumns {c : Nat} (hs : Downstream s0 s) : Downstream s0 (s.coverColumns c) := by
  unfold State.coverColumns
  extract_lets
  split
  · exact hs
  · split
    · exact hs.closeColumns
    · exact .ite hs.closeColumns hs

theorem columnsUpTo {c label : Nat} (hs : Downstream s0 s) : Downstream s0 (s.columnsUpTo c label) := by
  unfold State.columnsUpTo State.restartColumns; exact foldl_fst hs fun _ _ ht => ht.updDet.ite ht

theorem detGap {c next : Nat} {recs : List Record} (hs : Downstream s0 s) : Downstream s0 (s.detGap c next recs) := by
  unfold State.detGap State.planeGap State.showDet
  extract_lets _ _ _ s1 s2 s3
  have h1 : Downstream s0 s1 := hs.columnsUpTo.updDet.closeIfCovered.coverColumns.updDet
  have h2 : Downstream s0 s2 := h1.foldl fun _ _ ht => ht.enterAll
  have h3 : Downstream s0 s3 := by
    unfold s3
    split
    · exact .ite (h2.updPlane.ite h2) h1
    · exact h1
  exact h3.wr

/-! #### Contexts -/

theorem flushGaps {c : Nat} (hs : Downstream s0 s) : Downstream s0 (s.flushGaps c) := by
  unfold State.flushGaps State.forwardAll State.frameGap
  extract_lets
  refine hs.updCtx.foldl fun _ _ ht => ?_
  split
  · exact ht
  · exact (ht.foldl fun _ _ hu => hu.enterAll).detGap.gapFor.gapFor.updCtx

theorem applyChange {w : Swap} {g : Nat} {u : UnitId} {b : Nat} (hs : Downstream s0 s) : Downstream s0 (s.applyChange w g u b) := by
  unfold State.applyChange
  extract_lets mine s1 s2 s3 f s4 s5
  have h3 : Downstream s0 s3 := (hs.wrAll (l := mine)).same rfl rfl rfl
  have h4 : Downstream s0 s4 := .ite h3.wr.wr h3
  have h5 : Downstream s0 s5 := .ite (h4.same rfl rfl rfl) h4
  exact h5.ofRest s5.serviceState_frame.1

theorem joint {g : Nat} {u : UnitId} {after : Swap → Nat → State → State} (hs : Downstream s0 s)
    (hafter : ∀ w b t, Downstream s0 t → Downstream s0 (after w b t)) : Downstream s0 (s.joint g u (fun _ _ x => x) after) := by
  unfold State.joint
  split
  · exact hs
  · exact hafter _ _ _ hs.applyChange

theorem endStagingRun {c : Nat} (hs : Downstream s0 s) : Downstream s0 (s.endStagingRun c) := by
  unfold State.endStagingRun
  split
  · exact hs
  · exact hs.updCtx

theorem contextJoint {c : Nat} (hs : Downstream s0 s) : Downstream s0 (s.contextJoint c) := by
  unfold State.contextJoint
  extract_lets
  refine hs.joint fun _ _ _ ht => ?_
  extract_lets _ _ s1 s2
  have h1 : Downstream s0 s1 := by unfold s1 State.showWindow; exact ht.updCtx.wrAll.wr
  have h2 : Downstream s0 s2 := .ite h1 h1.endStagingRun
  exact .ite h2.wr.wr.updCtx <| .ite h2.wr h2

theorem contextUpTo {c label : Nat} (hs : Downstream s0 s) : Downstream s0 (s.contextUpTo c label) := by
  unfold State.contextUpTo
  split
  · exact .ite hs.contextJoint hs
  · exact hs

theorem formFrames {n label d : Nat} (hs : Downstream s0 s) : Downstream s0 (s.formFrames n label d) := by
  unfold State.formFrames
  refine hs.foldl fun u c hu => ?_
  have h1 : Downstream s0 (u.contextUpTo c label) := hu.contextUpTo
  exact h1.ite (h1.foldr fun _ _ hv => hv.updCtx.withFormed.ite hv)

theorem contextGap {n a b : Nat} {conv : Option (Nat × Nat)} {recs : List Record} (hs : Downstream s0 s) :
    Downstream s0 (s.contextGap n a b conv recs) := by
  unfold State.contextGap
  refine hs.foldl fun _ _ ht => ?_
  extract_lets
  refine .ite ht.contextUpTo ?_
  split
  · exact ht.contextUpTo
  · extract_lets _ s1
    have h1 : Downstream s0 s1 := ht.contextUpTo.countN.countN.updCtx
    exact (h1.wr.ite h1).flushGaps

theorem closeRegion {n : Nat} {ws : List Withheld} {r : Nat × Nat} (hs : Downstream s0 s) : Downstream s0 (s.closeRegion n ws r) := by
  unfold State.closeRegion State.magnitudeGap
  extract_lets _ _ _ _ _ s1 s2
  have h1 : Downstream s0 s1 := hs.foldl fun _ _ ht => ht.tellTuner
  have h2 : Downstream s0 s2 := by
    unfold s2
    split
    · exact h1.wr.wr.countN
    · exact h1
  exact h2.gapFor.contextGap

end Downstream

namespace State

/-! ### A tuner's record -/

theorem Sized.tuners_length {s : State} (h : s.Sized) : s.tuners.length = 16 := congrArg (·.getD 13 0) h

theorem tuner_of_tuners {s t : State} (h : t.tuners = s.tuners) (i : Nat) : t.tuner i = s.tuner i := by unfold tuner; rw [h]

theorem wrAll_tuner (s : State) (l : List (Nat × Nat)) (i : Nat) : (s.wrAll l).tuner i = s.tuner i :=
  tuner_of_tuners (congrArg State.tuners (wrAll_rest s l) :) i

theorem tuner_updTuner_same {s : State} {i : Nat} (f : Tuner → Tuner) (h : i < s.tuners.length) : (s.updTuner i f).tuner i = f (s.tuner i) := by
  unfold tuner at' updTuner
  simp [List.getD_eq_getElem?_getD, h]

theorem tuner_updTuner_other {s : State} {i j : Nat} (f : Tuner → Tuner) (h : j ≠ i) : (s.updTuner i f).tuner j = s.tuner j := by
  unfold tuner at' updTuner
  simp [List.getD_eq_getElem?_getD, h.symm]

end State

/-! ### The release of a sample (R63) -/

/-- From the tuner's record on, a sample's way is downstream: its saturation and the tuner's state, its ring, sources and contexts. -/
theorem Downstream.sampleOut {s : State} {k m k' v' h i n l d w : Nat} {c : Prop} [Decidable c] {v : Samp} :
    Downstream s ((((if c then (s.countN k m).wr k' v' else s.countN k m).ringPut h i v).magnitudeInputs n l d w).formFrames n l d) := by
  have hs : Downstream s (s.countN k m) := (refl s).countN
  exact (hs.wr.ite hs).ringPut.magnitudeInputs.formFrames

/-- `t` differs from `s` in tuner n's record and below the tuners alone. -/
structure SampleFrame (n : Nat) (s t : State) : Prop where
  control : t.control = s.control
  chans : t.chans = s.chans
  length : t.tuners.length = s.tuners.length
  tuner : ∀ i, i ≠ n → t.tuner i = s.tuner i

namespace SampleFrame

variable {n : Nat} {s t u : State}

theorem downstream (h : SampleFrame n s t) (hd : Downstream t u) : SampleFrame n s u where
  control := hd.control.trans h.control
  chans := hd.chans.trans h.chans
  length := (congrArg List.length hd.tuners).trans h.length
  tuner i hi := (State.tuner_of_tuners hd.tuners i).trans (h.tuner i hi)

theorem updTuner (f : Tuner → Tuner) (h : SampleFrame n s t) : SampleFrame n s (t.updTuner n f) where
  control := h.control
  chans := h.chans
  length := (List.length_modify ..).trans h.length
  tuner i hi := (State.tuner_updTuner_other f hi).trans (h.tuner i hi)

theorem refl (n : Nat) (s : State) : SampleFrame n s s := ⟨rfl, rfl, rfl, fun _ _ => rfl⟩

theorem closeGaps {label : Nat} (h : SampleFrame n s t) : SampleFrame n s (t.closeGaps n label) := by
  unfold State.closeGaps
  extract_lets
  split
  · exact h
  · exact (h.downstream ((Downstream.refl t).foldl fun _ _ hu => hu.closeRegion)).updTuner _

end SampleFrame

namespace State

variable {s : State} {n b l : Nat} {w : Swap}

/-- With no change that is due a tuner's labels are looked at as they are. -/
theorem tunerUpTo_none (hdue : s.due 1 ⟨.tuner, n⟩ = none) : s.tunerUpTo n = s := by
  unfold tunerUpTo tunerSwitches tunerRetune joint
  rw [hdue]
  rfl

/-- A sample that is due: its tuner's record takes the label, and the rest of its way is downstream. -/
theorem exec_tunerSampleRelease (hdue : s.due 1 ⟨.tuner, n⟩ = none) (hl : (s.tuner n).nextLabel = some l)
    (hin : l + groupDelay ((s.tuner n).cfgAt l).d < (s.chan (tunerChannel n)).entered) :
    ∃ u t f, exec (.tunerSampleRelease n) s = done s t ∧ SampleFrame n s u ∧ Downstream (u.updTuner n f) t ∧
      ∀ x, (f x).at_ = l + 1 ∧ (f x).newest = l := by
  have hin' : ¬ Nat.ble (s.chan (tunerChannel n)).entered (l + groupDelay ((s.tuner n).cfgAt l).d) = true := by
    rw [Nat.ble_eq]; omega
  show ∃ u t f, execTunerSampleRelease n s = done s t ∧ _
  unfold execTunerSampleRelease
  rw [tunerUpTo_none hdue]
  extract_lets s0 ch
  rw [hl]
  exact ⟨_, _, _, congrArg (done s) (if_neg hin'), ((SampleFrame.refl n s).downstream (Downstream.refl s).ringGrid).closeGaps,
    .sampleOut, fun _ => ⟨rfl, rfl⟩⟩

/-- The clause of R63: the sample is delivered, and its tuner stands one label past it. -/
theorem tunerSampleRelease_delivered (hsz : s.Sized) (hn : n < 16) (hdue : s.due 1 ⟨.tuner, n⟩ = none) (hl : (s.tuner n).nextLabel = some l)
    (hin : l + groupDelay ((s.tuner n).cfgAt l).d < (s.chan (tunerChannel n)).entered) :
    ∃ t, exec (.tunerSampleRelease n) s = .next t ∧ (t.tuner n).at_ = l + 1 ∧ (t.tuner n).newest = l ∧
      (∀ i, i ≠ n → t.tuner i = s.tuner i) ∧ t.chans = s.chans ∧ t.control = s.control := by
  obtain ⟨u, t, f, hexec, hu, hd, hf⟩ := exec_tunerSampleRelease hdue hl hin
  have ht : SampleFrame n s t := (hu.updTuner f).downstream hd
  have htn : t.tuner n = f (u.tuner n) :=
    (tuner_of_tuners hd.tuners n).trans (tuner_updTuner_same f (by rw [hu.length, hsz.tuners_length]; exact hn))
  obtain ⟨hat, hnew⟩ := hf (u.tuner n)
  exact ⟨t, hexec.trans (done_eq (congrArg State.wall ht.control :) (congrArg State.pending ht.control :)), htn ▸ hat, htn ▸ hnew,
    ht.tuner, ht.chans, ht.control⟩

end State

/-! ### What a tuner's Joint changes -/

/-- Between `s` and `t` no more differs than tuner n's record and the objects named. -/
structure TunerFrame (n : Nat) (keys : List Nat) (s t : State) : Prop where
  rest : t.rest = { s.rest with tuners := t.tuners }
  length : t.tuners.length = s.tuners.length
  sess : t.sess = s.sess
  log : t.log = s.log
  tuner : ∀ i, i ≠ n → t.tuner i = s.tuner i
  only : s.only t keys

namespace TunerFrame

variable {n : Nat} {keys : List Nat} {s t u : State}

theorem refl (n : Nat) (keys : List Nat) (s : State) : TunerFrame n keys s s := ⟨rfl, rfl, rfl, rfl, fun _ _ => rfl, fun _ _ => rfl⟩

theorem trans {keys' : List Nat} (h : TunerFrame n keys s t) (h' : TunerFrame n keys' t u) : TunerFrame n (keys ++ keys') s u where
  rest := by rw [h'.rest, h.rest]
  length := h'.length.trans h.length
  sess := h'.sess.trans h.sess
  log := h'.log.trans h.log
  tuner i hi := (h'.tuner i hi).trans (h.tuner i hi)
  only q hq := (h'.only q fun hm => hq (List.mem_append_right _ hm)).trans (h.only q fun hm => hq (List.mem_append_left _ hm))

theorem wrAll {l : List (Nat × Nat)} (h : TunerFrame n keys s t) (hk : l.map Prod.fst ⊆ keys) : TunerFrame n keys s (t.wrAll l) where
  rest := by
    have htun : (t.wrAll l).tuners = t.tuners := (congrArg State.tuners (t.wrAll_rest l) :)
    rw [State.wrAll_rest, htun]; exact h.rest
  length := (congrArg (fun x : State => x.tuners.length) (t.wrAll_rest l) :).trans h.length
  sess := (State.wrAll_sess ..).trans h.sess
  log := (State.wrAll_log ..).trans h.log
  tuner i hi := (State.wrAll_tuner ..).trans (h.tuner i hi)
  only q hq := (State.rd_wrAll_other _ fun hm => hq (hk hm)).trans (h.only q hq)

theorem wr {k : Nat} (v : Nat) (h : TunerFrame n keys s t) (hk : k ∈ keys) : TunerFrame n keys s (t.wr k v) :=
  h.wrAll (l := [(k, v)]) (List.cons_subset.mpr ⟨hk, List.nil_subset _⟩)

theorem updTuner (f : Tuner → Tuner) (h : TunerFrame n keys s t) : TunerFrame n keys s (t.updTuner n f) where
  rest := by rw [State.updTuner_rest, h.rest]
  length := (List.length_modify ..).trans h.length
  sess := h.sess
  log := h.log
  tuner i hi := (State.tuner_updTuner_other f hi).trans (h.tuner i hi)
  only := h.only

end TunerFrame

/-- The objects that show a tuner's configuration in force. -/
def splitKeys (n : Nat) : List Nat :=
  [Obj.TUNE_MODE n, Obj.TUNE_DF n, Obj.TUNE_DC n, Obj.TUNE_PROTECT n, Obj.TUNE_DELAY n, Obj.TUNE_DELAY_HB n, Obj.TUNE_DELAY_CIC n,
    Obj.TUNE_DELAY_FIR n, Obj.TUNE_KERF_HALF n, Obj.TUNE_LAST_JOINT n]

/-- The states that a kerf changes: the tuner's and those of contexts. -/
def kerfKeys (n : Nat) : List Nat := Obj.TUNE_STATE n :: (List.range 32).map Obj.XFM_STATE

/-- A tuner's other objects are none of those. -/
theorem tune_notMem_kerfKeys {n q : Nat} (_hn : n < 16) (hq : q ∈ Obj.TUNE_ENABLE n :: Obj.TUNE_DECIM n :: splitKeys n) : q ∉ kerfKeys n := by
  have hrange : 0x340000 + 0x4000 * n < q ∧ q < 0x344000 + 0x4000 * n := by
    simp only [splitKeys, Obj.TUNE_ENABLE, Obj.TUNE_DECIM, Obj.TUNE_MODE, Obj.TUNE_DF, Obj.TUNE_DC, Obj.TUNE_PROTECT, Obj.TUNE_DELAY,
      Obj.TUNE_DELAY_HB, Obj.TUNE_DELAY_CIC, Obj.TUNE_DELAY_FIR, Obj.TUNE_KERF_HALF, Obj.TUNE_LAST_JOINT, key, List.mem_cons, List.not_mem_nil,
      or_false] at hq
    omega
  unfold kerfKeys Obj.TUNE_STATE Obj.XFM_STATE key
  simp only [List.mem_cons, List.mem_map, List.mem_range, not_or, not_exists, not_and]
  exact ⟨by omega, fun c _ => by omega⟩

/-- A Joint of the tuner shows what follows from D and does not set D. -/
theorem decim_notMem_splitKeys (n : Nat) : Obj.TUNE_DECIM n ∉ splitKeys n := by
  simp only [splitKeys, Obj.TUNE_DECIM, Obj.TUNE_MODE, Obj.TUNE_DF, Obj.TUNE_DC, Obj.TUNE_PROTECT, Obj.TUNE_DELAY,
    Obj.TUNE_DELAY_HB, Obj.TUNE_DELAY_CIC, Obj.TUNE_DELAY_FIR, Obj.TUNE_KERF_HALF, Obj.TUNE_LAST_JOINT, key, List.mem_cons, List.not_mem_nil,
    or_false]
  omega

/-! ### A change applies -/

/-- Between `s` and `t` no more differs than generations, swaps, ownership and objects: those of group g and those of a session's Joint. -/
structure JointFrame (g i : Nat) (s t : State) : Prop where
  rest : t.rest = { s.rest with gens := t.gens, swaps := t.swaps, owners := t.owners }
  sess : t.sess = s.sess
  log : t.log = s.log
  other : ∀ q, groupOf q ≠ g → q ∉ State.jointKeys i → t.rd q = s.rd q

namespace JointFrame

variable {g i : Nat} {s t u : State}

theorem refl (g i : Nat) (s : State) : JointFrame g i s s := ⟨rfl, rfl, rfl, fun _ _ _ => rfl⟩

theorem trans (h : JointFrame g i s t) (h' : JointFrame g i t u) : JointFrame g i s u where
  rest := by rw [h'.rest, h.rest]
  sess := h'.sess.trans h.sess
  log := h'.log.trans h.log
  other q hg hq := (h'.other q hg hq).trans (h.other q hg hq)

theorem same (h : JointFrame g i s t) (hr : u.rest = { t.rest with gens := u.gens, swaps := u.swaps, owners := u.owners })
    (hs : u.sess = t.sess) (hl : u.log = t.log) (ho : u.obj = t.obj) : JointFrame g i s u :=
  h.trans ⟨hr, hs, hl, fun q _ _ => by unfold State.rd; rw [ho]⟩

theorem wr {k v : Nat} (h : JointFrame g i s t) (hk : k ∈ State.jointKeys i) : JointFrame g i s (t.wr k v) :=
  h.trans ⟨rfl, rfl, rfl, fun _ _ hq => State.rd_wr_other _ _ _ _ (ne_of_mem_of_not_mem hk hq).symm⟩

theorem tuners (h : JointFrame g i s t) : t.tuners = s.tuners := (congrArg State.tuners h.rest :)

end JointFrame

namespace State

/-- A unit's part of a swap applies: its generation advances. -/
theorem applyChange_frame (s : State) (w : Swap) (g : Nat) (u : UnitId) (b : Nat) :
    JointFrame g w.sess s (s.applyChange w g u b) ∧ (s.applyChange w g u b).gens = nextGen u s.gens := by
  unfold applyChange
  extract_lets mine s1 s2 s3 f s4 s5
  have hr1 : s1.rest = s.rest := wrAll_rest s mine
  have h1 : JointFrame g w.sess s s1 := by
    refine ⟨hr1.trans ?_, wrAll_sess s mine, wrAll_log s mine, fun q hg _ => rd_wrAll_other s (l := mine) fun hm => hg ?_⟩
    · have hg : s1.gens = s.gens := (congrArg State.gens hr1 :)
      have hs : s1.swaps = s.swaps := (congrArg State.swaps hr1 :)
      have ho : s1.owners = s.owners := (congrArg State.owners hr1 :)
      rw [hg, hs, ho]; rfl
    · obtain ⟨p, hp, rfl⟩ := List.mem_map.mp hm
      have hpg := (List.mem_filter.mp hp).2
      rw [Bool.and_eq_true, beq_iff_eq] at hpg
      exact hpg.1
  have h3 : JointFrame g w.sess s s3 := h1.same rfl rfl rfl rfl
  have h4 : JointFrame g w.sess s s4 ∧ s4.gens = s3.gens := by
    unfold s4
    split
    · exact ⟨(h3.wr (by simp [jointKeys])).wr (by simp [jointKeys]), rfl⟩
    · exact ⟨h3, rfl⟩
  have h5 : JointFrame g w.sess s s5 ∧ s5.gens = s4.gens := by
    unfold s5
    split
    · exact ⟨h4.1.same rfl rfl rfl rfl, rfl⟩
    · exact ⟨h4.1, rfl⟩
  have h6 : JointFrame g w.sess s5 s5.serviceState ∧ s5.serviceState.gens = s5.gens := by
    unfold serviceState
    split_ifs
    · exact ⟨(JointFrame.refl ..).wr (by simp [jointKeys]), rfl⟩
    · exact ⟨(JointFrame.refl ..).wr (by simp [jointKeys]), rfl⟩
    · exact ⟨.refl .., rfl⟩
  have hgens : s3.gens = nextGen u s.gens := congrArg (nextGen u) (congrArg State.gens hr1 :)
  exact ⟨h5.1.trans h6.1, h6.2.trans <| h5.2.trans <| h4.2.trans hgens⟩

end State

/-! ### The objects and the record that a tuner's Joint writes (R67, R68) -/

/-- The kerf's half and the other delays are other objects than the group delay. -/
theorem delayKeys_ne (n : Nat) : Obj.TUNE_KERF_HALF n ≠ Obj.TUNE_DELAY n ∧ Obj.TUNE_DELAY_FIR n ≠ Obj.TUNE_DELAY n ∧
    Obj.TUNE_DELAY_CIC n ≠ Obj.TUNE_DELAY n ∧ Obj.TUNE_DELAY_HB n ≠ Obj.TUNE_DELAY n := by
  unfold Obj.TUNE_KERF_HALF Obj.TUNE_DELAY_FIR Obj.TUNE_DELAY_CIC Obj.TUNE_DELAY_HB Obj.TUNE_DELAY key
  omega

theorem mem_withheldIns (w : Withheld) (l : List Withheld) : w ∈ withheldIns w l := by
  induction l with
  | nil => exact List.mem_singleton_self w
  | cons x l ih =>
    unfold withheldIns
    split
    · exact List.mem_cons_self
    · exact List.mem_cons_of_mem x ih

namespace TunerFrame

variable {n : Nat} {keys : List Nat} {s t : State}

theorem showSplit (j : Nat) (h : TunerFrame n keys s t) (hk : splitKeys n ⊆ keys) :
    TunerFrame n keys s ((t.showSplit n).wr (Obj.TUNE_LAST_JOINT n) j) := by
  unfold State.showSplit
  exact (h.wrAll (List.Subset.trans (by simp [splitKeys]) hk)).wr j (hk (by simp [splitKeys]))

theorem withholdLabels {a b : Nat} {j : Option Nat} {r : Option Record} (h : TunerFrame n keys s t) (hk : kerfKeys n ⊆ keys) :
    TunerFrame n keys s (t.withholdLabels n a b j r) := by
  unfold State.withholdLabels
  split
  · exact h
  · refine (h.updTuner _).wrAll fun q hq => hk ?_
    obtain ⟨p, hp, rfl⟩ := List.mem_map.mp hq
    obtain ⟨c, hc, rfl⟩ := List.mem_map.mp hp
    exact List.mem_cons_of_mem _ (List.mem_map_of_mem (List.mem_filter.mp hc).1)

end TunerFrame

namespace State

variable {s x t : State} {n b : Nat} {w : Swap}

theorem showSplit_delay (s : State) (n : Nat) : (s.showSplit n).rd (Obj.TUNE_DELAY n) = groupDelay (s.rd (Obj.TUNE_DECIM n)) := by
  obtain ⟨h1, h2, h3, h4⟩ := delayKeys_ne n
  unfold showSplit
  rw [rd_wrAll]
  simp [h1, h2, h3, h4]

theorem showSplit_kerfHalf (s : State) (n : Nat) : (s.showSplit n).rd (Obj.TUNE_KERF_HALF n) = kerfHalf (s.rd (Obj.TUNE_DECIM n)) := by
  unfold showSplit
  rw [rd_wrAll]
  simp

/-- A Joint of the tuner shows J and the delays of the D in force (R67). -/
theorem jointShown (s : State) (n j : Nat) :
    ((s.showSplit n).wr (Obj.TUNE_LAST_JOINT n) j).rd (Obj.TUNE_LAST_JOINT n) = j ∧
      ((s.showSplit n).wr (Obj.TUNE_LAST_JOINT n) j).rd (Obj.TUNE_DELAY n) = groupDelay (s.rd (Obj.TUNE_DECIM n)) ∧
      ((s.showSplit n).wr (Obj.TUNE_LAST_JOINT n) j).rd (Obj.TUNE_KERF_HALF n) = kerfHalf (s.rd (Obj.TUNE_DECIM n)) := by
  refine ⟨rd_wr_same .., ?_, ?_⟩
  · rw [rd_wr_other _ _ _ _ (by unfold Obj.TUNE_LAST_JOINT Obj.TUNE_DELAY key; omega), showSplit_delay]
  · rw [rd_wr_other _ _ _ _ (by unfold Obj.TUNE_LAST_JOINT Obj.TUNE_KERF_HALF key; omega), showSplit_kerfHalf]

theorem mem_withholdLabels {a b : Nat} (j : Option Nat) (r : Option Record) (hn : n < s.tuners.length) (hab : a ≤ b) :
    ⟨a, b, j, r⟩ ∈ ((s.withholdLabels n a b j r).tuner n).withheld := by
  unfold withholdLabels
  rw [if_neg (by rw [Nat.blt_eq]; omega)]
  extract_lets s1
  rw [wrAll_tuner, tuner_updTuner_same _ hn]
  exact mem_withheldIns ..

/-- Beside the unit's own objects, generations, swaps and ownership a Joint of the tuner leaves all but the tuner's record as it was. -/
theorem joint_tail {u : UnitId} {keys : List Nat} (hx : JointFrame 1 w.sess s x) (hxg : x.gens = nextGen u s.gens)
    (ht : TunerFrame n keys x t) :
    t.gens = nextGen u s.gens ∧ (∀ i, i ≠ n → t.tuner i = s.tuner i) ∧
      t.rest = { s.rest with tuners := t.tuners, gens := t.gens, swaps := t.swaps, owners := t.owners } ∧ t.sess = s.sess ∧ t.log = s.log := by
  have hg : t.gens = x.gens := (congrArg State.gens ht.rest :)
  have hs : t.swaps = x.swaps := (congrArg State.swaps ht.rest :)
  have ho : t.owners = x.owners := (congrArg State.owners ht.rest :)
  refine ⟨hg.trans hxg, fun i hi => (ht.tuner i hi).trans (tuner_of_tuners hx.tuners i), ?_, ht.sess.trans hx.sess, ht.log.trans hx.log⟩
  rw [hg, hs, ho, ht.rest, hx.rest]

theorem tunerSwitches_due (hdue : s.due 1 ⟨.tuner, n⟩ = some (w, b)) : s.tunerSwitches n = w.changes s (Obj.TUNE_ENABLE n) := by
  unfold tunerSwitches; rw [hdue]

/-! ### Retuning (R68) -/

/-- What a change from configuration g to m at J does to a running tuner: the grid goes on under m, and the kerf is withheld. -/
def retuned (s : State) (n j : Nat) (g m : TunCfg) : State :=
  if !s.rdB (Obj.TUNE_ENABLE n) || (g.freq == m.freq && g.phase == m.phase && g.d == m.d) then s
  else
    let s := s.updTuner n fun x => { x with cfgs := m :: recent TunCfg.j s.settled x.cfgs }
    if kerfHalf g.d + kerfHalf m.d = 0 then s
    else (s.withholdLabels n (j - kerfHalf g.d) (j + kerfHalf m.d - 1) (some j) none).wr (Obj.TUNE_STATE n)
      (if s.rd (Obj.TUNE_STATE n) = 2 then 1 else s.rd (Obj.TUNE_STATE n))

theorem tunerRetune_due (hdue : s.due 1 ⟨.tuner, n⟩ = some (w, b)) (hx : s.applyChange w 1 ⟨.tuner, n⟩ b = x) :
    s.tunerRetune n = ((x.showSplit n).wr (Obj.TUNE_LAST_JOINT n) b).retuned n b (s.tunCfg n 0) (x.tunCfg n b) := by
  subst hx; unfold tunerRetune; exact joint_due hdue

theorem retuned_frame (s : State) (n j : Nat) (g m : TunCfg) : TunerFrame n (kerfKeys n) s (s.retuned n j g m) := by
  unfold retuned
  split
  · exact .refl ..
  · extract_lets s1
    have h1 : TunerFrame n (kerfKeys n) s s1 := (TunerFrame.refl ..).updTuner _
    split
    · exact h1
    · exact (h1.withholdLabels (List.Subset.refl _)).wr _ List.mem_cons_self

/-- A running tuner whose D changes withholds the labels from J − h_old to J + h_new − 1. -/
theorem retuned_withheld {j : Nat} {g m : TunCfg} (hn : n < s.tuners.length) (hon : s.rdB (Obj.TUNE_ENABLE n) = true) (hd : m.d ≠ g.d)
    (hk : 0 < kerfHalf g.d + kerfHalf m.d) :
    ⟨j - kerfHalf g.d, j + kerfHalf m.d - 1, some j, none⟩ ∈ ((s.retuned n j g m).tuner n).withheld := by
  have hne : (g.d == m.d) = false := beq_eq_false_iff_ne.mpr hd.symm
  unfold retuned
  rw [hon, hne, Bool.and_false, if_neg (by decide), if_neg (by omega)]
  exact mem_withholdLabels (s := s.updTuner n _) _ _ (by rw [updTuner_tuners, List.length_modify]; exact hn) (by omega)

/-- The clause of R67 and R68: a change of tuning at J. -/
theorem tunerJoint_retunes (hsz : s.Sized) (hn : n < 16) (hdue : s.due 1 ⟨.tuner, n⟩ = some (w, b))
    (hkeep : w.changes s (Obj.TUNE_ENABLE n) = false) :
    ∃ t, exec (.tunerJoint n) s = .next t ∧ t.rd (Obj.TUNE_LAST_JOINT n) = b ∧ t.gens = nextGen ⟨.tuner, n⟩ s.gens ∧
      t.rd (Obj.TUNE_DELAY n) = groupDelay (t.rd (Obj.TUNE_DECIM n)) ∧
      t.rd (Obj.TUNE_KERF_HALF n) = kerfHalf (t.rd (Obj.TUNE_DECIM n)) ∧
      (t.rdB (Obj.TUNE_ENABLE n) = true → t.rd (Obj.TUNE_DECIM n) ≠ s.rd (Obj.TUNE_DECIM n) →
        0 < kerfHalf (s.rd (Obj.TUNE_DECIM n)) + kerfHalf (t.rd (Obj.TUNE_DECIM n)) →
        ⟨b - kerfHalf (s.rd (Obj.TUNE_DECIM n)), b + kerfHalf (t.rd (Obj.TUNE_DECIM n)) - 1, some b, none⟩ ∈ (t.tuner n).withheld) ∧
      (∀ i, i ≠ n → t.tuner i = s.tuner i) ∧
      t.rest = { s.rest with tuners := t.tuners, gens := t.gens, swaps := t.swaps, owners := t.owners } ∧ t.sess = s.sess ∧
      t.log = s.log := by
  obtain ⟨x, hxeq⟩ : ∃ x, s.applyChange w 1 ⟨.tuner, n⟩ b = x := ⟨_, rfl⟩
  obtain ⟨hx, hxg⟩ := s.applyChange_frame w 1 ⟨.tuner, n⟩ b
  have hexec : exec (.tunerJoint n) s = done s (s.tunerRetune n) :=
    congrArg (done s) (if_neg (by rw [tunerSwitches_due hdue, hkeep]; decide))
  rw [tunerRetune_due hdue hxeq] at hexec
  rw [hxeq] at hx hxg
  obtain ⟨y, hy⟩ : ∃ y, (x.showSplit n).wr (Obj.TUNE_LAST_JOINT n) b = y := ⟨_, rfl⟩
  obtain ⟨t, ht⟩ : ∃ t, y.retuned n b (s.tunCfg n 0) (x.tunCfg n b) = t := ⟨_, rfl⟩
  obtain ⟨hlast, hdelay, hhalf⟩ := hy ▸ x.jointShown n b
  have hxy : TunerFrame n (splitKeys n) x y := hy ▸ (TunerFrame.refl n _ x).showSplit b (List.Subset.refl _)
  have hyt : TunerFrame n (kerfKeys n) y t := ht ▸ y.retuned_frame n b ..
  rw [hy, ht] at hexec
  obtain ⟨hgens, htun, hrest, hsess, hlog⟩ := joint_tail hx hxg (hxy.trans hyt)
  have hkeys {q : Nat} (hq : q ∈ Obj.TUNE_ENABLE n :: Obj.TUNE_DECIM n :: splitKeys n) : t.rd q = y.rd q :=
    hyt.only q (tune_notMem_kerfKeys hn hq)
  have hdecim : t.rd (Obj.TUNE_DECIM n) = x.rd (Obj.TUNE_DECIM n) := by rw [hkeys (by simp), hxy.only _ (decim_notMem_splitKeys n)]
  have hen : t.rdB (Obj.TUNE_ENABLE n) = y.rdB (Obj.TUNE_ENABLE n) := by unfold rdB; rw [hkeys (by simp)]
  have hyn : n < y.tuners.length := by rw [hxy.length, hx.tuners, hsz.tuners_length]; exact hn
  refine ⟨t, hexec.trans (done_eq (congrArg State.wall hrest :) (congrArg State.pending hrest :)), ?_, hgens, ?_, ?_, fun hon hd hk => ?_,
    htun, hrest, hsess, hlog⟩
  · rw [hkeys (by simp [splitKeys]), hlast]
  · rw [hkeys (by simp [splitKeys]), hdelay, hdecim]
  · rw [hkeys (by simp [splitKeys]), hhalf, hdecim]
  · rw [hdecim] at hd hk ⊢
    exact ht ▸ retuned_withheld hyn (hen ▸ hon) hd hk

end State

/-- The record of a tuner that starts under g at label `first`. -/
def Tuner.started (x : Tuner) (g : TunCfg) (first : Nat) : Tuner :=
  { cfgs := [{ g with j := 0 }], on := true, startAt := first, at_ := first, newest := x.newest, ringD := x.ringD }

namespace State

variable {s x : State} {n b : Nat} {w : Swap}

/-! ### Starting and stopping (R72) -/

/-- What a change of TUNE_ENABLE leaves: the record f gives, the split, the latest Joint and the tuner's state. -/
theorem switched_frame (x : State) (n j v : Nat) (f : Tuner → Tuner) (hn : n < x.tuners.length) :
    ∃ t, ((x.updTuner n f).showSplit n).wrAll [(Obj.TUNE_LAST_JOINT n, j), (Obj.TUNE_STATE n, v)] = t ∧
      TunerFrame n (Obj.TUNE_STATE n :: splitKeys n) x t ∧ t.rd (Obj.TUNE_STATE n) = v ∧ t.rd (Obj.TUNE_LAST_JOINT n) = j ∧
      t.rd (Obj.TUNE_DECIM n) = x.rd (Obj.TUNE_DECIM n) ∧ t.tuner n = f (x.tuner n) := by
  have ht : TunerFrame n (Obj.TUNE_STATE n :: splitKeys n) x _ :=
    (((TunerFrame.refl n _ x).updTuner f).showSplit j (List.subset_cons_self ..)).wr v List.mem_cons_self
  refine ⟨_, rfl, ht, rd_wr_same .., ?_, ht.only _ ?_, ?_⟩
  · rw [wrAll_cons, wrAll_cons, wrAll_nil, rd_wr_other _ _ _ _ (by unfold Obj.TUNE_LAST_JOINT Obj.TUNE_STATE key; omega), rd_wr_same]
  · rw [List.mem_cons, not_or]
    exact ⟨by unfold Obj.TUNE_DECIM Obj.TUNE_STATE key; omega, decim_notMem_splitKeys n⟩
  · rw [wrAll_tuner]; unfold showSplit; rw [wrAll_tuner, tuner_updTuner_same f hn]

/-- A Joint of the tuner leaves its channel's state as it was, so an unfenced tuner reads what the Joint gives it. -/
theorem tuneState_joint (hn : n < 16) (hx : JointFrame 1 w.sess s x) (hch : s.rd (Obj.CONV_STATE (tunerChannel n)) ≠ 5) (v : Nat) :
    x.tuneState n v = v := by
  have h4 : tunerChannel n < 4 := by unfold tunerChannel; omega
  have hgroup : groupOf (Obj.CONV_STATE (tunerChannel n)) ≠ 1 :=
    (by decide : ∀ ch, ch < 4 → groupOf (Obj.CONV_STATE ch) ≠ 1) _ h4
  unfold tuneState
  rw [hx.other _ hgroup (conv_notMem_jointKeys (b := 0) h4 (by decide)), if_neg hch]

/-- TUNER_ENABLE_JOINT with a change that is due, where the switch gives the tuner's record by f and its state v. -/
theorem tunerEnableJoint_switches {v : Nat} {f : Tuner → Tuner} (hsz : s.Sized) (hn : n < 16)
    (hdue : s.due 1 ⟨.tuner, n⟩ = some (w, b)) (hsw : w.changes s (Obj.TUNE_ENABLE n) = true)
    (hch : s.rd (Obj.CONV_STATE (tunerChannel n)) ≠ 5) (hx : s.applyChange w 1 ⟨.tuner, n⟩ b = x)
    (hf : s.tunerSwitch n =
      ((x.updTuner n f).showSplit n).wrAll [(Obj.TUNE_LAST_JOINT n, b), (Obj.TUNE_STATE n, x.tuneState n v)]) :
    ∃ t, exec (.tunerEnableJoint n) s = .next t ∧ t.rd (Obj.TUNE_STATE n) = v ∧ t.rd (Obj.TUNE_LAST_JOINT n) = b ∧
      t.rd (Obj.TUNE_DECIM n) = x.rd (Obj.TUNE_DECIM n) ∧ t.tuner n = f (s.tuner n) ∧ (∀ i, i ≠ n → t.tuner i = s.tuner i) ∧
      t.rest = { s.rest with tuners := t.tuners, gens := t.gens, swaps := t.swaps, owners := t.owners } ∧ t.sess = s.sess ∧
      t.log = s.log := by
  obtain ⟨hframe, hgens⟩ := s.applyChange_frame w 1 ⟨.tuner, n⟩ b
  rw [hx] at hframe hgens
  have hexec : exec (.tunerEnableJoint n) s = done s (s.tunerSwitch n) :=
    congrArg (done s) (if_pos (by rw [tunerSwitches_due hdue, hsw]))
  obtain ⟨t, ht, hxt, hstate, hlast, hdecim, htn⟩ :=
    switched_frame x n b (x.tuneState n v) f (by rw [hframe.tuners, hsz.tuners_length]; exact hn)
  obtain ⟨-, htun, hrest, hsess, hlog⟩ := joint_tail hframe hgens hxt
  rw [hf, ht] at hexec
  rw [tuner_of_tuners hframe.tuners] at htn
  exact ⟨t, hexec.trans (done_eq (congrArg State.wall hrest :) (congrArg State.pending hrest :)),
    hstate.trans (tuneState_joint hn hframe hch v), hlast, hdecim, htn, htun, hrest, hsess, hlog⟩

/-- A tuner that is off and has completed its labels starts on the first label of its grid from J + h on that its channel can serve. -/
theorem tunerSwitch_starts (hdue : s.due 1 ⟨.tuner, n⟩ = some (w, b)) (hoff : s.rdB (Obj.TUNE_ENABLE n) = false)
    (hdone : (s.tuner n).on = false) (hx : s.applyChange w 1 ⟨.tuner, n⟩ b = x) :
    s.tunerSwitch n = ((x.updTuner n fun y => y.started (x.tunCfg n b)
        (roundUp (max (b + kerfHalf (x.rd (Obj.TUNE_DECIM n)))
          ((x.chan (tunerChannel n)).firstAt + groupDelay (x.rd (Obj.TUNE_DECIM n)))) (2 * x.rd (Obj.TUNE_DECIM n)))).showSplit n).wrAll
      [(Obj.TUNE_LAST_JOINT n, b), (Obj.TUNE_STATE n, x.tuneState n 2)] := by
  subst hx
  unfold tunerSwitch
  rw [hoff, hdone, if_neg Bool.false_ne_true, if_neg Bool.false_ne_true]
  exact joint_due hdue

/-- An enabled tuner's run ends at J, or where it was to end before. -/
theorem tunerSwitch_stops (hdue : s.due 1 ⟨.tuner, n⟩ = some (w, b)) (hon : s.rdB (Obj.TUNE_ENABLE n) = true)
    (hx : s.applyChange w 1 ⟨.tuner, n⟩ b = x) :
    s.tunerSwitch n = ((x.updTuner n fun y => { y with stopAt := some (min b (y.stopAt.getD b)) }).showSplit n).wrAll
      [(Obj.TUNE_LAST_JOINT n, b), (Obj.TUNE_STATE n, x.tuneState n 0)] := by
  subst hx
  unfold tunerSwitch
  rw [if_pos hon]
  exact joint_due hdue

/-- The clause of R72: a tuner that is enabled starts on its grid. -/
theorem tunerEnableJoint_starts (hsz : s.Sized) (hn : n < 16) (hdue : s.due 1 ⟨.tuner, n⟩ = some (w, b))
    (hsw : w.changes s (Obj.TUNE_ENABLE n) = true) (hoff : s.rdB (Obj.TUNE_ENABLE n) = false) (hdone : (s.tuner n).on = false)
    (hch : s.rd (Obj.CONV_STATE (tunerChannel n)) ≠ 5) :
    ∃ t, exec (.tunerEnableJoint n) s = .next t ∧ t.rd (Obj.TUNE_STATE n) = 2 ∧ t.rd (Obj.TUNE_LAST_JOINT n) = b ∧
      (t.tuner n).on = true ∧ (0 < t.rd (Obj.TUNE_DECIM n) → b + kerfHalf (t.rd (Obj.TUNE_DECIM n)) ≤ (t.tuner n).startAt) ∧
      (∀ i, i ≠ n → t.tuner i = s.tuner i) ∧
      t.rest = { s.rest with tuners := t.tuners, gens := t.gens, swaps := t.swaps, owners := t.owners } ∧ t.sess = s.sess ∧
      t.log = s.log := by
  obtain ⟨t, hexec, hstate, hlast, hdecim, htn, hsame⟩ :=
    tunerEnableJoint_switches hsz hn hdue hsw hch rfl (tunerSwitch_starts hdue hoff hdone rfl)
  refine ⟨t, hexec, hstate, hlast, by rw [htn]; rfl, fun hd => ?_, hsame⟩
  rw [hdecim] at hd ⊢
  rw [htn]
  exact (Nat.le_max_left ..).trans (le_roundUp _ (by omega))

/-- The clause of R72: a tuner that is disabled stops at J. -/
theorem tunerEnableJoint_stops (hsz : s.Sized) (hn : n < 16) (hdue : s.due 1 ⟨.tuner, n⟩ = some (w, b))
    (hsw : w.changes s (Obj.TUNE_ENABLE n) = true) (hon : s.rdB (Obj.TUNE_ENABLE n) = true) (hrun : (s.tuner n).stopAt = none)
    (hch : s.rd (Obj.CONV_STATE (tunerChannel n)) ≠ 5) :
    ∃ t, exec (.tunerEnableJoint n) s = .next t ∧ t.rd (Obj.TUNE_STATE n) = 0 ∧ t.rd (Obj.TUNE_LAST_JOINT n) = b ∧
      (t.tuner n).stopAt = some b ∧ (∀ i, i ≠ n → t.tuner i = s.tuner i) ∧
      t.rest = { s.rest with tuners := t.tuners, gens := t.gens, swaps := t.swaps, owners := t.owners } ∧ t.sess = s.sess ∧
      t.log = s.log := by
  obtain ⟨t, hexec, hstate, hlast, -, htn, hsame⟩ := tunerEnableJoint_switches hsz hn hdue hsw hch rfl (tunerSwitch_stops hdue hon rfl)
  refine ⟨t, hexec, hstate, hlast, ?_, hsame⟩
  rw [htn, hrun]
  exact congrArg some (Nat.min_self b)

end State

/-- Settles O5: each clause is the lemma of its command. -/
theorem tunerCommands : Obligations.TunerCommands := by
  unfold Obligations.TunerCommands
  refine ⟨?_, ?_, ?_, ?_⟩
  · exact fun s n l hsz hn hdue hl hin => State.tunerSampleRelease_delivered hsz hn hdue hl hin
  · exact fun s n b w hsz hn hdue hkeep => State.tunerJoint_retunes hsz hn hdue hkeep
  · exact fun s n b w hsz hn hdue hsw hoff hdone hch => State.tunerEnableJoint_starts hsz hn hdue hsw hoff hdone hch
  · exact fun s n b w hsz hn hdue hsw hon hrun hch => State.tunerEnableJoint_stops hsz hn hdue hsw hon hrun hch

end Sys2Proof.Machine

/-! ## Contexts and detector blocks (R77 to R95, R101 to R113): O6 -/

namespace Sys2Proof.Machine

set_option Elab.async false

namespace State

/-! ### The records of contexts, blocks and loaded tables -/

theorem Sized.ctxs_length {s : State} (h : s.Sized) : s.ctxs.length = 32 := congrArg (·.getD 14 0) h
theorem Sized.dets_length {s : State} (h : s.Sized) : s.dets.length = 32 := congrArg (·.getD 15 0) h
theorem Sized.loads_length {s : State} (h : s.Sized) : s.loads.length = 52 := congrArg (·.getD 5 0) h

theorem ctx_of_ctxs {s t : State} (h : t.ctxs = s.ctxs) (i : Nat) : t.ctx i = s.ctx i := by unfold ctx; rw [h]

theorem ctx_of_rest {s t : State} (h : t.rest = s.rest) (i : Nat) : t.ctx i = s.ctx i := ctx_of_ctxs (congrArg State.ctxs h :) i

theorem det_of_dets {s t : State} (h : t.dets = s.dets) (i : Nat) : t.det i = s.det i := by unfold det; rw [h]

theorem load_of_loads {s t : State} (h : t.loads = s.loads) (i : Nat) : t.load i = s.load i := by unfold load; rw [h]

theorem ctx_updCtx_same {s : State} {c : Nat} (f : Ctx → Ctx) (h : c < s.ctxs.length) : (s.updCtx c f).ctx c = f (s.ctx c) := by
  unfold ctx at' updCtx
  simp [List.getD_eq_getElem?_getD, h]

theorem ctx_updCtx_other {s : State} {c i : Nat} (f : Ctx → Ctx) (h : i ≠ c) : (s.updCtx c f).ctx i = s.ctx i := by
  unfold ctx at' updCtx
  simp [List.getD_eq_getElem?_getD, h.symm]

theorem det_updDet_same {s : State} {c : Nat} (f : Det → Det) (h : c < s.dets.length) : (s.updDet c f).det c = f (s.det c) := by
  unfold det at' updDet
  simp [List.getD_eq_getElem?_getD, h]

theorem det_updDet_other {s : State} {c i : Nat} (f : Det → Det) (h : i ≠ c) : (s.updDet c f).det i = s.det i := by
  unfold det at' updDet
  simp [List.getD_eq_getElem?_getD, h.symm]

/-- What a change of a context's record leaves alone of it. -/
theorem ctx_updCtx_keeps {α : Type} (p : Ctx → α) (s : State) (c : Nat) {f : Ctx → Ctx} (hf : ∀ x, p (f x) = p x) :
    p ((s.updCtx c f).ctx c) = p (s.ctx c) := by
  by_cases h : c < s.ctxs.length
  · rw [ctx_updCtx_same f h, hf]
  · have hm : s.ctxs.modify c f = s.ctxs := List.modify_eq_self (Nat.le_of_not_lt h)
    exact congrArg p (ctx_of_ctxs hm c)

/-- What a change of a block's record leaves alone of it. -/
theorem det_updDet_keeps {α : Type} (p : Det → α) (s : State) (c : Nat) {f : Det → Det} (hf : ∀ x, p (f x) = p x) :
    p ((s.updDet c f).det c) = p (s.det c) := by
  by_cases h : c < s.dets.length
  · rw [det_updDet_same f h, hf]
  · have hm : s.dets.modify c f = s.dets := List.modify_eq_self (Nat.le_of_not_lt h)
    exact congrArg p (det_of_dets hm c)

theorem load_updLoad_same {s : State} {i : Nat} (f : Load → Load) (h : i < s.loads.length) : (s.updLoad i f).load i = f (s.load i) := by
  unfold load at' updLoad
  simp [List.getD_eq_getElem?_getD, h]

theorem load_updLoad_other {s : State} {i j : Nat} (f : Load → Load) (h : j ≠ i) : (s.updLoad i f).load j = s.load j := by
  unfold load at' updLoad
  simp [List.getD_eq_getElem?_getD, h.symm]

/-- A context that has something to release is one of the engine's. -/
theorem ctx_lt_of_items {s : State} {c : Nat} (h : (s.ctx c).items ≠ []) : c < s.ctxs.length := by
  refine Nat.lt_of_not_le fun hle => h ?_
  unfold ctx at'
  rw [List.getD_eq_default _ _ hle]
  rfl

end State

/-! ### What dispatch, skipping and a Joint change of a context -/

/-- Between `s` and `t` no more differs than context c's record and the objects named. -/
structure CtxFrame (c : Nat) (keys : List Nat) (s t : State) : Prop where
  rest : t.rest = { s.rest with ctxs := t.ctxs }
  length : t.ctxs.length = s.ctxs.length
  sess : t.sess = s.sess
  log : t.log = s.log
  ctx : ∀ i, i ≠ c → t.ctx i = s.ctx i
  only : s.only t keys

namespace CtxFrame

variable {c : Nat} {keys : List Nat} {s t u : State}

theorem refl (c : Nat) (keys : List Nat) (s : State) : CtxFrame c keys s s := ⟨rfl, rfl, rfl, rfl, fun _ _ => rfl, fun _ _ => rfl⟩

theorem trans (h : CtxFrame c keys s t) (h' : CtxFrame c keys t u) : CtxFrame c keys s u where
  rest := by rw [h'.rest, h.rest]
  length := h'.length.trans h.length
  sess := h'.sess.trans h.sess
  log := h'.log.trans h.log
  ctx i hi := (h'.ctx i hi).trans (h.ctx i hi)
  only q hq := (h'.only q hq).trans (h.only q hq)

/-- More objects may be named. -/
theorem mono {keys' : List Nat} (h : CtxFrame c keys s t) (hk : keys ⊆ keys') : CtxFrame c keys' s t :=
  { h with only := fun q hq => h.only q fun hm => hq (hk hm) }

theorem ite {p : Prop} [Decidable p] (h : CtxFrame c keys s t) (h' : CtxFrame c keys s u) : CtxFrame c keys s (if p then t else u) := by
  split
  · exact h
  · exact h'

theorem wrAll {l : List (Nat × Nat)} (h : CtxFrame c keys s t) (hk : l.map Prod.fst ⊆ keys) : CtxFrame c keys s (t.wrAll l) where
  rest := by rw [State.wrAll_rest, State.wrAll_ctxs]; exact h.rest
  length := by rw [State.wrAll_ctxs]; exact h.length
  sess := (State.wrAll_sess ..).trans h.sess
  log := (State.wrAll_log ..).trans h.log
  ctx i hi := (State.ctx_of_ctxs (State.wrAll_ctxs ..) i).trans (h.ctx i hi)
  only q hq := (State.rd_wrAll_other _ fun hm => hq (hk hm)).trans (h.only q hq)

theorem wr {k : Nat} (v : Nat) (h : CtxFrame c keys s t) (hk : k ∈ keys) : CtxFrame c keys s (t.wr k v) :=
  h.wrAll (l := [(k, v)]) (List.cons_subset.mpr ⟨hk, List.nil_subset _⟩)

theorem updCtx (f : Ctx → Ctx) (h : CtxFrame c keys s t) : CtxFrame c keys s (t.updCtx c f) where
  rest := by rw [State.updCtx_rest, h.rest]
  length := (List.length_modify ..).trans h.length
  sess := h.sess
  log := h.log
  ctx i hi := (State.ctx_updCtx_other f hi).trans (h.ctx i hi)
  only := h.only

theorem endStagingRun (h : CtxFrame c keys s t) : CtxFrame c keys s (t.endStagingRun c) := by
  unfold State.endStagingRun
  split
  · exact h
  · exact h.updCtx _

theorem showSlots (h : CtxFrame c keys s t) (hk : [Obj.XFM_SLOTS_INFLIGHT, Obj.XFM_SLOTS_PEAK] ⊆ keys) : CtxFrame c keys s t.showSlots := by
  obtain ⟨hin, hpeak⟩ := List.cons_subset.mp hk
  exact (h.wr _ hin).wr _ (List.cons_subset.mp hpeak).1

theorem done (h : CtxFrame c keys s t) : done s t = .next t :=
  done_eq (congrArg State.wall h.rest :) (congrArg State.pending h.rest :)

end CtxFrame

theorem JointFrame.ctxs {g i : Nat} {s t : State} (h : JointFrame g i s t) : t.ctxs = s.ctxs := (congrArg State.ctxs h.rest :)

/-! ### Dispatch (R94) -/

/-- The frames of a unit take their slot. -/
def CtxItem.dispatch (unit : Nat × Nat × Nat) (i : CtxItem) : CtxItem :=
  match i with
  | .frame g => if g.unit == unit then .frame { g with dispatched := true } else .frame g
  | .gap a b l => .gap a b l

/-- After that every frame of the unit holds it: a frame's unit does not depend on whether it is dispatched. -/
theorem CtxItem.dispatched_of_unit {unit : Nat × Nat × Nat} {l : List CtxItem} {g : Frm} (h : .frame g ∈ l.map (CtxItem.dispatch unit))
    (hu : g.unit = unit) : g.dispatched = true := by
  obtain ⟨i, -, hi⟩ := List.mem_map.mp h
  cases i with
  | gap a b l => cases hi
  | frame f =>
    unfold dispatch at hi
    dsimp only at hi
    split at hi
    next => cases hi; rfl
    next hne => cases hi; exact absurd (beq_iff_eq.mpr hu) hne

theorem Ctx.waiting_items {x : Ctx} {f : Frm} (h : x.waiting = some f) : x.items ≠ [] := by
  intro he
  unfold Ctx.waiting at h
  rw [he] at h
  cases h

namespace State

variable {s x : State} {c b : Nat} {w : Swap} {f : Frm}

/-- The clause of R93 to R95: the unit takes its slot. -/
theorem frameDispatch_dispatches (hw : (s.ctx c).waiting = some f) (hfree : s.slotFree c = true) (hturn : s.slotTurn c = true)
    (hwhole : s.unitWhole c f = true) (hstag : (s.ctx c).stag = none) :
    ∃ t, exec (.frameDispatch c) s = .next t ∧
      (∀ g, CtxItem.frame g ∈ (t.ctx c).items → g.unit = f.unit → g.dispatched = true) ∧
      (t.ctx c).items.length = (s.ctx c).items.length ∧ (∀ i, i ≠ c → t.ctx i = s.ctx i) ∧
      t.rest = { s.rest with ctxs := t.ctxs } ∧ t.sess = s.sess ∧ t.log = s.log ∧
      s.only t [Obj.XFM_SLOTS_INFLIGHT, Obj.XFM_SLOTS_PEAK] := by
  let y := s.updCtx c fun z => { z with items := z.items.map (CtxItem.dispatch f.unit) }
  have hrun : s.endStagingRun c = s := by unfold endStagingRun; rw [hstag]
  have hexec : exec (.frameDispatch c) s = done s y.showSlots := by
    show execFrameDispatch c s = _
    unfold execFrameDispatch
    rw [hw]
    dsimp only
    rw [hfree, hturn, hwhole, if_neg (by decide), hrun]
    rfl
  have hframe : CtxFrame c [Obj.XFM_SLOTS_INFLIGHT, Obj.XFM_SLOTS_PEAK] s y.showSlots :=
    ((CtxFrame.refl c _ s).updCtx _).showSlots (List.Subset.refl _)
  have hitems : (y.showSlots.ctx c).items = (s.ctx c).items.map (CtxItem.dispatch f.unit) :=
    congrArg Ctx.items (ctx_updCtx_same _ (ctx_lt_of_items (Ctx.waiting_items hw)))
  refine ⟨y.showSlots, hexec.trans hframe.done, fun g hg hu => ?_, ?_, hframe.ctx, hframe.rest, hframe.sess, hframe.log, hframe.only⟩
  · exact CtxItem.dispatched_of_unit (hitems ▸ hg) hu
  · rw [hitems, List.length_map]

end State

/-! ### A frame without a slot is skipped (R93) -/

/-- The frame labelled `label` that waits leaves the context, and the run of frames skipped grows by it. -/
def Ctx.skip (x : Ctx) (label : Nat) : Ctx :=
  { x with
    items := x.items.filter fun i => match i with
      | .frame g => !(g.label == label && !g.dispatched)
      | .gap .. => true
    stag := some (match x.stag with
      | none => (label, label, 1)
      | some (a, _, n) => (a, label, n + 1)) }

theorem Ctx.dispatched_of_skip {x : Ctx} {g : Frm} {label : Nat} (h : .frame g ∈ (x.skip label).items) (hl : g.label = label) :
    g.dispatched = true := by
  have hg := (List.mem_filter.mp h).2
  simpa [hl] using hg

namespace State

variable {s x : State} {c b : Nat} {w : Swap} {f : Frm}

/-- A run of frames skipped that frame f does not continue ends. -/
def endOtherRun (s : State) (c : Nat) (f : Frm) : State :=
  match (s.ctx c).stag with
  | some (_, b, _) => if s.nextStart c f.cfg b = f.label then s else s.endStagingRun c
  | none => s

theorem endOtherRun_frame (s : State) (c : Nat) (f : Frm) : CtxFrame c [] s (s.endOtherRun c f) := by
  unfold endOtherRun
  split
  · exact (CtxFrame.refl c _ s).ite (CtxFrame.refl c _ s).endStagingRun
  · exact .refl c _ s

/-- Frame f is skipped and counted. -/
def skipped (s : State) (c : Nat) (f : Frm) : State :=
  ((s.endOtherRun c f).updCtx c fun x => x.skip f.label).count (Obj.XFM_SKIP_STAGING c)

theorem skipped_frame (s : State) (c : Nat) (f : Frm) : CtxFrame c [Obj.XFM_SKIP_STAGING c] s (s.skipped c f) :=
  (((s.endOtherRun_frame c f).mono (List.nil_subset _)).updCtx _).wr _ List.mem_cons_self

/-- A context that is on goes on with its run of frames skipped. -/
theorem exec_frameStagingSkip (hon : s.rdB (Obj.XFM_ENABLE c) = true) (hw : (s.ctx c).waiting = some f)
    (hlost : f.label / (2 * f.d) + ringSamples f.cfg.n ≤ (at' s.tuners f.cfg.source).newest / (2 * f.d) + 1) :
    exec (.frameStagingSkip c) s = done s (s.skipped c f) := by
  have hdue : ¬ Nat.blt ((at' s.tuners f.cfg.source).newest / (2 * f.d) + 1) (f.label / (2 * f.d) + ringSamples f.cfg.n) = true := by
    rw [Nat.blt_eq]; omega
  have hstill : (s.skipped c f).rdB (Obj.XFM_ENABLE c) = true := by
    have hne : Obj.XFM_ENABLE c ∉ [Obj.XFM_SKIP_STAGING c] := by
      rw [List.mem_singleton]; unfold Obj.XFM_ENABLE Obj.XFM_SKIP_STAGING key; omega
    unfold rdB at hon ⊢; rw [(s.skipped_frame c f).only _ hne]; exact hon
  show execFrameStagingSkip c s = _
  unfold execFrameStagingSkip
  rw [hw]
  refine congrArg (done s) ((if_neg hdue).trans ?_)
  show (if (s.skipped c f).rdB (Obj.XFM_ENABLE c) || ((s.skipped c f).ctx c).waiting.isSome then s.skipped c f
    else (s.skipped c f).endStagingRun c) = s.skipped c f
  rw [hstill, Bool.true_or, if_pos rfl]

/-- The clause of R93: a frame whose samples are about to be overwritten is skipped and counted. -/
theorem frameStagingSkip_skips (hsz : s.Sized) (hc : c < 32) (hon : s.rdB (Obj.XFM_ENABLE c) = true) (hw : (s.ctx c).waiting = some f)
    (hlost : f.label / (2 * f.d) + ringSamples f.cfg.n ≤ (at' s.tuners f.cfg.source).newest / (2 * f.d) + 1) :
    ∃ t, exec (.frameStagingSkip c) s = .next t ∧
      t.rd (Obj.XFM_SKIP_STAGING c) = min (2 ^ 32 - 1) (s.rd (Obj.XFM_SKIP_STAGING c) + 1) ∧
      (∀ g, CtxItem.frame g ∈ (t.ctx c).items → g.label = f.label → g.dispatched = true) ∧ (t.ctx c).stag.isSome = true ∧
      (∀ i, i ≠ c → t.ctx i = s.ctx i) ∧ t.rest = { s.rest with ctxs := t.ctxs } ∧ t.sess = s.sess ∧ t.log = s.log ∧
      s.only t [Obj.XFM_SKIP_STAGING c] := by
  have ht := s.skipped_frame c f
  have hend := s.endOtherRun_frame c f
  have hctx : (s.skipped c f).ctx c = ((s.endOtherRun c f).ctx c).skip f.label :=
    ctx_updCtx_same (fun x => x.skip f.label) (by rw [hend.length, hsz.ctxs_length]; exact hc)
  refine ⟨s.skipped c f, (exec_frameStagingSkip hon hw hlost).trans ht.done, ?_, fun g hg hl => ?_, by rw [hctx]; rfl, ht.ctx, ht.rest, ht.sess,
    ht.log, ht.only⟩
  · unfold skipped; rw [rd_count, if_pos rfl, updCtx_rd, hend.only _ List.not_mem_nil]
  · exact Ctx.dispatched_of_skip (hctx ▸ hg) hl

/-! ### The Joint of a context (R90, R91) -/

/-- The objects from which a context's configuration is read. -/
def ctxCfgKeys (c : Nat) : List Nat :=
  [Obj.XFM_ENABLE c, Obj.XFM_SOURCE c, Obj.XFM_SIZE_LOG2 c, Obj.XFM_HOP c, Obj.XFM_FRAME_PHASE c, Obj.XFM_WIN_TYPE c, Obj.XFM_WIN_PARAM c,
    Obj.XFM_OUT_FORMAT c, Obj.XFM_OUT_EVERY c, Obj.XFM_BIN_FIRST c, Obj.XFM_BIN_COUNT c]

/-- The objects that show what a context's Joint does. -/
def ctxJointKeys (c : Nat) : List Nat :=
  [Obj.XFM_WIN_ENBW c, Obj.XFM_WIN_CGAIN c, Obj.XFM_WIN_SCALLOP c, Obj.XFM_LAST_JOINT c, Obj.XFM_FRAME_COUNT c, Obj.XFM_STATE c]

theorem ctxCfgKeys_notMem {q : Nat} (h : q ∈ ctxCfgKeys c) : q ∉ ctxJointKeys c := by
  simp only [ctxCfgKeys, ctxJointKeys, Obj.XFM_ENABLE, Obj.XFM_SOURCE, Obj.XFM_SIZE_LOG2, Obj.XFM_HOP, Obj.XFM_FRAME_PHASE, Obj.XFM_WIN_TYPE,
    Obj.XFM_WIN_PARAM, Obj.XFM_OUT_FORMAT, Obj.XFM_OUT_EVERY, Obj.XFM_BIN_FIRST, Obj.XFM_BIN_COUNT, Obj.XFM_WIN_ENBW, Obj.XFM_WIN_CGAIN,
    Obj.XFM_WIN_SCALLOP, Obj.XFM_LAST_JOINT, Obj.XFM_FRAME_COUNT, Obj.XFM_STATE, key, List.mem_cons, List.not_mem_nil, or_false] at h ⊢
  omega

theorem ctxCfg_congr {s t : State} (hg : t.gens = s.gens) (hrd : ∀ q ∈ ctxCfgKeys c, t.rd q = s.rd q) (m : Mem) :
    t.ctxCfg c b m = s.ctxCfg c b m := by
  have hgen : t.gen ⟨.context, c⟩ = s.gen ⟨.context, c⟩ := by unfold gen; rw [hg]
  simp only [ctxCfgKeys, List.forall_mem_cons] at hrd
  obtain ⟨h1, h2, h3, h4, h5, h6, h7, h8, h9, h10, h11, -⟩ := hrd
  unfold ctxCfg rdB rdI
  rw [hgen, h1, h2, h3, h4, h5, h6, h7, h8, h9, h10, h11]

/-- Configuration `g` is a context's newest, its Joint at `b` is shown, and a context that is off ends its run of frames skipped. -/
def ctxBegun (s : State) (c b : Nat) (g : CtxCfg) : State :=
  let s := s.updCtx c fun x => { x with cfgs := g :: recent CtxCfg.since s.settled x.cfgs }
  let s := (s.showWindow c).wr (Obj.XFM_LAST_JOINT c) b
  if g.on || (s.ctx c).waiting.isSome then s else s.endStagingRun c

/-- A context's state follows its switch. -/
def ctxSwitched (s : State) (c : Nat) (was on : Bool) : State :=
  if !was && on then
    ((s.wr (Obj.XFM_FRAME_COUNT c) 0).wr (Obj.XFM_STATE c) 1).updCtx c fun x => { x with skipTo := none, afterGap := false }
  else if was && !on then s.wr (Obj.XFM_STATE c) 0
  else s

theorem endStagingRun_cfgs (s : State) (c : Nat) : ((s.endStagingRun c).ctx c).cfgs = (s.ctx c).cfgs := by
  unfold endStagingRun
  split
  · rfl
  · exact ctx_updCtx_keeps Ctx.cfgs s c fun _ => rfl

theorem ctxBegun_frame (s : State) (c b : Nat) (g : CtxCfg) : CtxFrame c (ctxJointKeys c) s (s.ctxBegun c b g) := by
  unfold ctxBegun showWindow
  extract_lets _ get type win y
  have hy : CtxFrame c (ctxJointKeys c) s y :=
    (((CtxFrame.refl c _ s).updCtx _).wrAll (by simp [ctxJointKeys])).wr b (by simp [ctxJointKeys])
  exact hy.ite hy.endStagingRun

theorem ctxBegun_lastJoint (s : State) (c b : Nat) (g : CtxCfg) : (s.ctxBegun c b g).rd (Obj.XFM_LAST_JOINT c) = b := by
  unfold ctxBegun
  extract_lets y z
  have hz : z.rd (Obj.XFM_LAST_JOINT c) = b := rd_wr_same ..
  split
  · exact hz
  · exact ((CtxFrame.refl c [] z).endStagingRun.only _ List.not_mem_nil).trans hz

theorem ctxBegun_cfgs (b : Nat) (g : CtxCfg) (h : c < s.ctxs.length) : ((s.ctxBegun c b g).ctx c).cfgs.head? = some g := by
  unfold ctxBegun
  extract_lets y z
  have hyz : z.ctxs = y.ctxs := wrAll_ctxs ..
  have hz : (z.ctx c).cfgs.head? = some g := by
    rw [ctx_of_ctxs hyz]
    exact congrArg (fun x : Ctx => x.cfgs.head?) (ctx_updCtx_same _ h)
  split
  · exact hz
  · rw [endStagingRun_cfgs]; exact hz

theorem ctxSwitched_frame (s : State) (c : Nat) (was on : Bool) :
    CtxFrame c [Obj.XFM_FRAME_COUNT c, Obj.XFM_STATE c] s (s.ctxSwitched c was on) := by
  have h := CtxFrame.refl c [Obj.XFM_FRAME_COUNT c, Obj.XFM_STATE c] s
  unfold ctxSwitched
  exact (((h.wr 0 (by simp)).wr 1 (by simp)).updCtx _).ite ((h.wr 0 (by simp)).ite h)

theorem ctxSwitched_cfgs (s : State) (c : Nat) (was on : Bool) : ((s.ctxSwitched c was on).ctx c).cfgs = (s.ctx c).cfgs := by
  unfold ctxSwitched
  split
  · exact ctx_updCtx_keeps Ctx.cfgs ((s.wr _ 0).wr _ 1) c fun _ => rfl
  · split <;> rfl

theorem ctxSwitched_on (s : State) (c : Nat) :
    (s.ctxSwitched c false true).rd (Obj.XFM_STATE c) = 1 ∧ (s.ctxSwitched c false true).rd (Obj.XFM_FRAME_COUNT c) = 0 := by
  refine ⟨rd_wr_same .., (rd_wr_other _ _ _ _ ?_).trans (rd_wr_same ..)⟩
  unfold Obj.XFM_FRAME_COUNT Obj.XFM_STATE key; omega

theorem ctxSwitched_off (s : State) (c : Nat) : (s.ctxSwitched c true false).rd (Obj.XFM_STATE c) = 0 := rd_wr_same ..

/-- A context's Joint that is due: its objects are in force, and the configuration they give begins at the boundary. -/
theorem contextJoint_due {m : Mem} (hdue : s.due 2 ⟨.context, c⟩ = some (w, b)) (hx : s.applyChange w 2 ⟨.context, c⟩ b = x)
    (hm : m = match w.tables.find? fun e => e.1 == 16 + c with
      | some e => e.2
      | none => s.uwinForce c) :
    s.contextJoint c = (x.ctxBegun c b (x.ctxCfg c b m)).ctxSwitched c (s.rdB (Obj.XFM_ENABLE c)) (x.rdB (Obj.XFM_ENABLE c)) := by
  subst hx hm
  unfold contextJoint
  exact joint_due hdue

/-- Beside the unit's own objects, generations, swaps and ownership a Joint of the context leaves all but the context's record as it was. -/
theorem ctxJoint_tail {u : UnitId} {g i : Nat} {keys : List Nat} {t : State} (hx : JointFrame g i s x) (hxg : x.gens = nextGen u s.gens)
    (ht : CtxFrame c keys x t) :
    t.gens = x.gens ∧ t.gens = nextGen u s.gens ∧ (∀ i, i ≠ c → t.ctx i = s.ctx i) ∧
      t.rest = { s.rest with ctxs := t.ctxs, gens := t.gens, swaps := t.swaps, owners := t.owners } ∧ t.sess = s.sess ∧ t.log = s.log := by
  have hg : t.gens = x.gens := (congrArg State.gens ht.rest :)
  have hs : t.swaps = x.swaps := (congrArg State.swaps ht.rest :)
  have ho : t.owners = x.owners := (congrArg State.owners ht.rest :)
  refine ⟨hg, hg.trans hxg, fun i hi => (ht.ctx i hi).trans (ctx_of_ctxs hx.ctxs i), ?_, ht.sess.trans hx.sess, ht.log.trans hx.log⟩
  rw [hg, hs, ho, ht.rest, hx.rest]

/-- The clause of R90 and R91: the context's new configuration is in force from its boundary. -/
theorem contextJoint_applies (hsz : s.Sized) (hc : c < 32) (hdue : s.due 2 ⟨.context, c⟩ = some (w, b)) :
    ∃ t, exec (.contextJoint c) s = .next t ∧ t.rd (Obj.XFM_LAST_JOINT c) = b ∧ t.gens = nextGen ⟨.context, c⟩ s.gens ∧
      (t.ctx c).cfgs.head? = some (t.ctxCfg c b (match w.tables.find? fun e => e.1 == 16 + c with
        | some e => e.2
        | none => s.uwinForce c)) ∧
      (s.rdB (Obj.XFM_ENABLE c) = false → t.rdB (Obj.XFM_ENABLE c) = true → t.rd (Obj.XFM_STATE c) = 1 ∧ t.rd (Obj.XFM_FRAME_COUNT c) = 0) ∧
      (s.rdB (Obj.XFM_ENABLE c) = true → t.rdB (Obj.XFM_ENABLE c) = false → t.rd (Obj.XFM_STATE c) = 0) ∧
      (∀ i, i ≠ c → t.ctx i = s.ctx i) ∧
      t.rest = { s.rest with ctxs := t.ctxs, gens := t.gens, swaps := t.swaps, owners := t.owners } ∧ t.sess = s.sess ∧ t.log = s.log := by
  generalize hm : (match w.tables.find? fun e => e.1 == 16 + c with
    | some e => e.2
    | none => s.uwinForce c) = m
  obtain ⟨x, hx⟩ : ∃ x, s.applyChange w 2 ⟨.context, c⟩ b = x := ⟨_, rfl⟩
  obtain ⟨hsx, hgens⟩ := s.applyChange_frame w 2 ⟨.context, c⟩ b
  obtain ⟨y, hy⟩ : ∃ y, x.ctxBegun c b (x.ctxCfg c b m) = y := ⟨_, rfl⟩
  obtain ⟨t, ht⟩ : ∃ t, y.ctxSwitched c (s.rdB (Obj.XFM_ENABLE c)) (x.rdB (Obj.XFM_ENABLE c)) = t := ⟨_, rfl⟩
  have hexec : exec (.contextJoint c) s = done s t := congrArg (done s) ((contextJoint_due hdue hx hm.symm).trans (by rw [hy, ht]))
  rw [hx] at hsx hgens
  have hxy : CtxFrame c (ctxJointKeys c) x y := hy ▸ x.ctxBegun_frame c b _
  have hyt : CtxFrame c [Obj.XFM_FRAME_COUNT c, Obj.XFM_STATE c] y t := ht ▸ y.ctxSwitched_frame c _ _
  have hxt : CtxFrame c (ctxJointKeys c) x t := hxy.trans (hyt.mono (by simp [ctxJointKeys]))
  obtain ⟨hgx, hg, hctx, hrest, hsess, hlog⟩ := ctxJoint_tail hsx hgens hxt
  have hxlen : c < x.ctxs.length := by rw [hsx.ctxs, hsz.ctxs_length]; exact hc
  have hcfg (q : Nat) (hq : q ∈ ctxCfgKeys c) : t.rd q = x.rd q := hxt.only q (ctxCfgKeys_notMem hq)
  have hon : t.rdB (Obj.XFM_ENABLE c) = x.rdB (Obj.XFM_ENABLE c) := by unfold rdB; rw [hcfg _ (by simp [ctxCfgKeys])]
  refine ⟨t, hexec.trans (done_eq (congrArg State.wall hrest :) (congrArg State.pending hrest :)), ?_, hg, ?_, fun h0 h1 => ?_,
    fun h1 h0 => ?_, hctx, hrest, hsess, hlog⟩
  · have hne : Obj.XFM_LAST_JOINT c ∉ [Obj.XFM_FRAME_COUNT c, Obj.XFM_STATE c] := by
      simp only [Obj.XFM_LAST_JOINT, Obj.XFM_FRAME_COUNT, Obj.XFM_STATE, key, List.mem_cons, List.not_mem_nil, or_false]; omega
    rw [hyt.only _ hne, ← hy, ctxBegun_lastJoint]
  · rw [← ht, ctxSwitched_cfgs, ht, ctxCfg_congr hgx hcfg, ← hy]
    exact ctxBegun_cfgs b _ hxlen
  · rw [hon] at h1
    rw [← ht, h0, h1]
    exact y.ctxSwitched_on c
  · rw [hon] at h0
    rw [← ht, h0, h1]
    exact y.ctxSwitched_off c

/-! ### A coefficient pair is staged (R81) -/

/-- XFM_UWIN_WRITE is an object of the context's and loads its window. -/
theorem uwinWrite_unit (hc : c < 32) :
    groupOf (Obj.XFM_UWIN_WRITE c) = 2 ∧ loadOf (Obj.XFM_UWIN_WRITE c) = some (16 + c) ∧ segsOf (Obj.XFM_UWIN_WRITE c) = none ∧
      sizeOf' (Obj.XFM_UWIN_WRITE c) = none :=
  (by decide : ∀ c, c < 32 → groupOf (Obj.XFM_UWIN_WRITE c) = 2 ∧ loadOf (Obj.XFM_UWIN_WRITE c) = some (16 + c) ∧
    segsOf (Obj.XFM_UWIN_WRITE c) = none ∧ sizeOf' (Obj.XFM_UWIN_WRITE c) = none) c hc

/-- A change of the staged entries of a context's window shows its sum and what the windows hold together. -/
theorem stageLoad_window (s : State) (m : Mem → Mem) (hc : c < 32) (hl : 16 + c < s.loads.length) :
    ((s.stageLoad (16 + c) m).load (16 + c)).staged = m (s.load (16 + c)).staged ∧
      (∀ i, i ≠ 16 + c → (s.stageLoad (16 + c) m).load i = s.load i) ∧
      s.only (s.stageLoad (16 + c) m) [Obj.XFM_UWIN_SUM c, Obj.XFM_UWIN_USED] := by
  have hloads : (s.stageLoad (16 + c) m).loads = (s.updLoad (16 + c) fun l => { l with staged := m l.staged }).loads := by
    unfold stageLoad showLoad
    rw [if_neg (by omega), if_pos (by omega)]
    rfl
  refine ⟨?_, fun i hi => ?_, fun q hq => ?_⟩
  · rw [load_of_loads hloads, load_updLoad_same _ hl]
  · rw [load_of_loads hloads, load_updLoad_other _ hi]
  · simp only [List.mem_cons, List.not_mem_nil, or_false, not_or] at hq
    unfold stageLoad showLoad
    rw [if_neg (by omega), if_pos (by omega), showUwin_rd _ hq.2, Nat.add_sub_cancel_left, rd_wr_other _ _ _ _ hq.1]
    rfl

/-- A staged pair changes the window, the session's staging and what it has reserved. -/
theorem stagePut_window (s : State) (sess v : Nat) (hc : c < 32) :
    ∃ st o, s.stagePut sess (Obj.XFM_UWIN_WRITE c) v =
      { s.stageLoad (16 + c) (fun m => m.set zeroDflt (v / 2 ^ 36) (v % 2 ^ 36)) with staged := st, owners := o } := by
  obtain ⟨-, hload, hsegs, hsize⟩ := uwinWrite_unit hc
  unfold stagePut
  rw [hload, hsegs, hsize]
  dsimp only
  rw [if_neg (by omega), if_pos (by omega)]
  split <;> exact ⟨_, _, rfl⟩

/-- A pair within the window that is staged is in range. -/
theorem stageRange_window {sess v : Nat} (hc : c < 32) (hv : v / 2 ^ 36 < 2 ^ (s.staging sess (Obj.XFM_SIZE_LOG2 c) - 1)) :
    s.stageRange sess (Obj.XFM_UWIN_WRITE c) v = true := by
  obtain ⟨-, hload, -⟩ := uwinWrite_unit hc
  unfold stageRange
  rw [hload]
  dsimp only
  rw [if_neg (by omega), if_pos (by omega), Nat.add_sub_cancel_left, Nat.blt_eq]
  exact hv

/-- The clause of R81: a pair that is accepted is staged. -/
theorem xfmUwinWrite_stages {sess tag v : Nat} (hsz : s.Sized) (hc : c < 32) (hs : s.serves sess tag (Obj.XFM_UWIN_WRITE c) v = true)
    (hswap : s.swapHolds sess 2 = false) (hv : v / 2 ^ 36 < 2 ^ (s.staging sess (Obj.XFM_SIZE_LOG2 c) - 1)) :
    ∃ t, exec (.xfmUwinWrite sess tag c v) s = .next t ∧ s.replied t sess tag (Obj.XFM_UWIN_WRITE c) .ok ∧
      (t.load (16 + c)).staged = (s.load (16 + c)).staged.set zeroDflt (v / 2 ^ 36) (v % 2 ^ 36) ∧
      (∀ i, i ≠ 16 + c → t.load i = s.load i) ∧
      t.rest = { s.rest with loads := t.loads, staged := t.staged, owners := t.owners } ∧ t.log = s.log ∧
      s.only t [Obj.XFM_UWIN_SUM c, Obj.XFM_UWIN_USED] := by
  obtain ⟨y, hy⟩ : ∃ y, (s.hear sess).stageLoad (16 + c) (fun m => m.set zeroDflt (v / 2 ^ 36) (v % 2 ^ 36)) = y := ⟨_, rfl⟩
  obtain ⟨st, o, hput⟩ := (s.hear sess).stagePut_window sess v hc
  obtain ⟨hyr, hys, hyl⟩ := hy ▸ stageLoad_frame (s.hear sess) (16 + c) _
  obtain ⟨hload, hother, honly⟩ := hy ▸ (s.hear sess).stageLoad_window (fun m => m.set zeroDflt (v / 2 ^ 36) (v % 2 ^ 36)) hc
    (show 16 + c < s.loads.length by rw [hsz.loads_length]; omega)
  rw [hy] at hput
  have hfree : (s.hear sess).swapHolds sess 2 = false := by
    unfold swapHolds; rw [(hear_fields s sess sess).1]; exact hswap
  obtain ⟨z, hz⟩ : ∃ z : State, { y with staged := st, owners := o } = z := ⟨_, rfl⟩
  obtain ⟨t, ht⟩ : ∃ t, z.answer (s.req sess tag (Obj.XFM_UWIN_WRITE c)) .ok = t := ⟨_, rfl⟩
  have hexec : exec (.xfmUwinWrite sess tag c v) s = done s t := by
    show done s (s.direct sess tag (Obj.XFM_UWIN_WRITE c) v fun r s => s.stage r v) = _
    rw [direct_serves _ hs]
    unfold stage
    dsimp only
    rw [(uwinWrite_unit hc).1, hfree, if_neg Bool.false_ne_true, stageRange_window (s := s.hear sess) hc hv, if_pos rfl, hput, hz]
    exact congrArg (done s) ht
  have hrest : t.rest = { s.rest with loads := t.loads, staged := t.staged, owners := t.owners } := by
    subst ht hz
    rw [answer_rest, answer_loads, answer_staged, answer_owners]
    exact congrArg (fun x : State => { x with staged := st, owners := o }) hyr
  have htl : t.loads = y.loads := by subst ht hz; exact answer_loads ..
  refine ⟨t, hexec.trans (done_eq (congrArg State.wall hrest :) (congrArg State.pending hrest :)), ?_, ?_, fun i hi => ?_, hrest, ?_,
    fun q hq => ?_⟩
  · subst ht hz; exact replied_answer _ (serves_takes hs) _ hys
  · rw [load_of_loads htl]; exact hload
  · rw [load_of_loads htl]; exact hother i hi
  · subst ht hz; exact (answer_log ..).trans hyl
  · subst ht hz; exact (answer_rd ..).trans (honly q hq)

end State

/-! ### What a frame, or the end of a period, changes on its way through a context's block

A frame that is released reaches flows, its block, the block's plane and the trigger sources. One lemma per operation on that way says
that of the blocks it changes no other one's record, and of this one not the configurations; objects that only Joints set stay as well. -/

/-- Whether the context is on, and the latest Joint of its block. -/
def joinedKeys (c : Nat) : List Nat := [Obj.XFM_ENABLE c, Obj.DET_LAST_JOINT c]

/-- What a block writes: its own state and counts, and its context's count of bins delivered as zero. -/
def blockKeys (c : Nat) : List Nat := [Obj.XFM_POW_UFLOW c, Obj.DET_STATE c, Obj.DET_PERIODS c, Obj.DET_PARTIAL c, Obj.DET_HOLD_CLEARED c]

/-- What an input of a trigger source writes. -/
def inputKeys (k : Nat) : List Nat := [Obj.TRIG_SRC_STATE k, Obj.TRIG_SRC_HELD k, Obj.TRIG_SRC_EVENTS k, Obj.TRIG_SRC_LAST k]

/-- Between `s` and `t` block c has worked. -/
structure BlockFrame (c : Nat) (s t : State) : Prop where
  rest : t.rest = { s.rest with free := t.free, flows := t.flows, trig := t.trig, planes := t.planes, dets := t.dets, twin := t.twin }
  length : t.dets.length = s.dets.length
  det : ∀ i, i ≠ c → t.det i = s.det i
  cfgs : (t.det c).cfgs = (s.det c).cfgs
  joined : ∀ q ∈ joinedKeys c, t.rd q = s.rd q

namespace BlockFrame

variable {c : Nat} {s t u : State}

theorem refl (c : Nat) (s : State) : BlockFrame c s s := ⟨rfl, rfl, fun _ _ => rfl, rfl, fun _ _ => rfl⟩

theorem trans (h : BlockFrame c s t) (h' : BlockFrame c t u) : BlockFrame c s u where
  rest := by rw [h'.rest, h.rest]
  length := h'.length.trans h.length
  det i hi := (h'.det i hi).trans (h.det i hi)
  cfgs := h'.cfgs.trans h.cfgs
  joined q hq := (h'.joined q hq).trans (h.joined q hq)

theorem downstream (h : BlockFrame c s t) : Downstream s t :=
  ⟨(congrArg State.control h.rest :), (congrArg State.chans h.rest :), (congrArg State.tuners h.rest :)⟩

theorem ctxs (h : BlockFrame c s t) : t.ctxs = s.ctxs := (congrArg State.ctxs h.rest :)

theorem due (h : BlockFrame c s t) (g : Nat) (u : UnitId) : t.due g u = s.due g u := by
  have hs : t.swaps = s.swaps := (congrArg State.swaps h.rest :)
  have ht : t.tick = s.tick := (congrArg State.tick h.rest :)
  unfold State.due; rw [hs, ht]

/-- What is no block's and no object. -/
theorem same (h : BlockFrame c s t)
    (hr : u.rest = { t.rest with free := u.free, flows := u.flows, trig := u.trig, planes := u.planes, dets := u.dets, twin := u.twin })
    (hd : u.dets = t.dets) (ho : u.obj = t.obj) : BlockFrame c s u :=
  h.trans ⟨hr, congrArg List.length hd, fun i _ => State.det_of_dets hd i, congrArg Det.cfgs (State.det_of_dets hd c), fun _ _ => by
    unfold State.rd; rw [ho]⟩

theorem ite {p : Prop} [Decidable p] (h : BlockFrame c s t) (h' : BlockFrame c s u) : BlockFrame c s (if p then t else u) := by
  split
  · exact h
  · exact h'

theorem foldl {α : Type} {f : State → α → State} {l : List α} (h : BlockFrame c s t)
    (hf : ∀ x a, BlockFrame c s x → BlockFrame c s (f x a)) : BlockFrame c s (l.foldl f t) :=
  List.foldlRecOn l f h fun x hx a _ => hf x a hx

/-- As `foldl`, where the state is carried with something else. -/
theorem foldl_fst {α β : Type} {f : State × β → α → State × β} {l : List α} {p : State × β} (h : BlockFrame c s p.1)
    (hf : ∀ q a, BlockFrame c s q.1 → BlockFrame c s (f q a).1) : BlockFrame c s (l.foldl f p).1 :=
  List.foldlRecOn (motive := fun q => BlockFrame c s q.1) l f h fun q hq a _ => hf q a hq

/-- The state of a pair that an operation answers. -/
theorem of_eq {α : Type} {p : State × α} {x : α} (h : BlockFrame c s p.1) (e : p = (t, x)) : BlockFrame c s t := by
  subst e; exact h

theorem wr {k v : Nat} (h : BlockFrame c s t) (hk : k ∉ joinedKeys c) : BlockFrame c s (t.wr k v) :=
  h.trans ⟨rfl, rfl, fun _ _ => rfl, rfl, fun _ hq => State.rd_wr_other _ _ _ _ (ne_of_mem_of_not_mem hq hk)⟩

theorem updDet {f : Det → Det} (h : BlockFrame c s t) (hf : ∀ x, (f x).cfgs = x.cfgs) : BlockFrame c s (t.updDet c f) :=
  h.trans ⟨rfl, List.length_modify .., fun _ hi => State.det_updDet_other f hi, State.det_updDet_keeps Det.cfgs t c hf, fun _ _ => rfl⟩

theorem used {n : Nat} (h : BlockFrame c s t) : BlockFrame c s (t.used n) := h.same rfl rfl rfl
theorem updFlow {f : Nat} {g : Flow → Flow} (h : BlockFrame c s t) : BlockFrame c s (t.updFlow f g) := h.same rfl rfl rfl
theorem updPlane {p : Nat} {g : Plane → Plane} (h : BlockFrame c s t) : BlockFrame c s (t.updPlane p g) := h.same rfl rfl rfl
theorem updSrc {k : Nat} {g : Source → Source} (h : BlockFrame c s t) : BlockFrame c s (t.updSrc k g) := h.same rfl rfl rfl
theorem updSeqr {q : Nat} {g : Seqr → Seqr} (h : BlockFrame c s t) : BlockFrame c s (t.updSeqr q g) := h.same rfl rfl rfl

/-! #### Records entered into flows -/

theorem enter {f : Nat} {r : Record} (h : BlockFrame c s t) : BlockFrame c s (t.enter f r) := by
  have hm : BlockFrame c s (t.enterMirrored f) := by
    unfold State.enterMirrored
    exact h.ite ((h.foldl fun _ _ hx => hx.updFlow).same rfl rfl rfl)
  unfold State.enter; exact hm.ite <| hm.updFlow.ite hm

theorem enterAll {fs : List Nat} {r : Record} (h : BlockFrame c s t) : BlockFrame c s (t.enterAll fs r) := by
  unfold State.enterAll; exact h.foldl fun _ _ hx => hx.enter

/-! #### The block's periods (R101, R104) -/

theorem blockKeys_notMem {k : Nat} (hk : k ∈ blockKeys c) : k ∉ joinedKeys c := by
  simp only [blockKeys, joinedKeys, Obj.XFM_ENABLE, Obj.DET_LAST_JOINT, Obj.XFM_POW_UFLOW, Obj.DET_STATE, Obj.DET_PERIODS, Obj.DET_PARTIAL,
    Obj.DET_HOLD_CLEARED, key, List.mem_cons, List.not_mem_nil, or_false] at hk ⊢
  omega

/-- The block writes one of its own objects. -/
theorem wrOwn {k v : Nat} (h : BlockFrame c s t) (hk : k ∈ blockKeys c) : BlockFrame c s (t.wr k v) := h.wr (blockKeys_notMem hk)

theorem showDet {gap : Bool} (h : BlockFrame c s t) : BlockFrame c s (t.showDet c gap) := h.wrOwn (by simp [blockKeys])

theorem peakPayload {g : DetCfg} {b0 : Int} {l : List (Option Int)} (h : BlockFrame c s t) : BlockFrame c s (t.peakPayload g b0 l).1 := by
  have hw {x : State} {k : Nat} (hx : BlockFrame c s x) : BlockFrame c s (x.peakWords l b0 k).1 := by
    unfold State.peakWords
    split
    · exact hx
    · exact hx.used
  unfold State.peakPayload
  exact foldl_fst h fun _ _ hx => hw hx

theorem closePeriod (h : BlockFrame c s t) : BlockFrame c s (t.closePeriod c) := by
  unfold State.closePeriod
  extract_lets
  split
  · exact h
  · split
    · exact h.updDet fun _ => rfl
    · extract_lets
      split
      extract_lets
      split
      next x _ eq =>
        have hx : BlockFrame c s x := of_eq (by split; exacts [h.peakPayload, h]) eq
        extract_lets _ _ x1 x2
        have h1 : BlockFrame c s x1 := (hx.updDet fun _ => by rfl).wrOwn (by simp [blockKeys])
        have h2 : BlockFrame c s x2 := (h1.wrOwn (by simp [blockKeys])).ite h1
        exact (h2.wrOwn (by simp [blockKeys])).ite h2

theorem closeIfCovered (h : BlockFrame c s t) : BlockFrame c s (t.closeIfCovered c) := by
  unfold State.closeIfCovered
  extract_lets
  split
  · exact h
  · split
    · exact h
    · exact h.closePeriod.ite h

theorem openPeriod {start : Nat} {g : DetCfg} (h : BlockFrame c s t) : BlockFrame c s (t.openPeriod c start g) := by
  unfold State.openPeriod
  extract_lets _ _ _ _ x
  have hx : BlockFrame c s x := by
    unfold x
    split
    · exact h.wrOwn (by simp [blockKeys])
    · exact h
  exact hx.updDet fun _ => rfl

/-! #### Its column sets (R108) -/

theorem closeColumns (h : BlockFrame c s t) : BlockFrame c s (t.closeColumns c) := by
  unfold State.closeColumns State.planeSet
  extract_lets _ x
  have hx : BlockFrame c s x := h.updDet fun _ => rfl
  split
  · exact h
  · split
    · exact hx
    · extract_lets _ _ _ y
      have hy : BlockFrame c s y := hx.enterAll.updDet fun _ => rfl
      exact (hy.ite hy.updPlane).ite hy

theorem coverColumns (h : BlockFrame c s t) : BlockFrame c s (t.coverColumns c) := by
  unfold State.coverColumns
  extract_lets
  split
  · exact h
  · split
    · exact h.closeColumns
    · exact h.closeColumns.ite h

theorem restartColumns {get : Nat → Nat} {w : Swap} (h : BlockFrame c s t) : BlockFrame c s (t.restartColumns c get w) :=
  h.updDet fun _ => rfl

theorem columnsUpTo {label : Nat} (h : BlockFrame c s t) : BlockFrame c s (t.columnsUpTo c label) := by
  unfold State.columnsUpTo
  exact foldl_fst h fun _ _ hx => hx.restartColumns.ite hx

theorem tellRestored {p a : Nat} (h : BlockFrame c s t) : BlockFrame c s (t.tellRestored c p a) := by
  unfold State.tellRestored
  split
  · exact h
  · exact h.enterAll.enterAll.updPlane

theorem columnFrame {v : FrameView} (h : BlockFrame c s t) : BlockFrame c s (t.columnFrame c v) := by
  unfold State.columnFrame
  extract_lets
  split
  · exact h
  · refine h.ite ?_
    extract_lets _ x y
    have hx : BlockFrame c s x := h.ite h.closeColumns
    have hy : BlockFrame c s y := hx.tellRestored.ite hx
    exact hy.updDet fun _ => rfl

/-! #### A released frame (R89, R101) -/

theorem addFrame {g : DetCfg} {v : FrameView} (h : BlockFrame c s t) : BlockFrame c s (t.updDet c fun x => x.addFrame g v) :=
  h.updDet fun x => by
    unfold Det.addFrame
    split <;> rfl

/-- A frame that reaches its block while none of the block's changes is due. -/
theorem detFrame {v : FrameView} (h : BlockFrame c s t) (hdue : s.due 3 ⟨.context, c⟩ = none) : BlockFrame c s (t.detFrame c v) := by
  unfold State.detFrame
  rw [h.due, hdue]
  extract_lets _ x y z
  have hx : BlockFrame c s x := by
    unfold x
    split
    · exact h
    · extract_lets _ start p
      have hp : BlockFrame c s p := by
        unfold p
        split
        · exact h.ite h.closePeriod.openPeriod
        · exact h.openPeriod
      exact h.ite hp.addFrame
  have hz : BlockFrame c s z := hx.columnsUpTo.ite hx.columnsUpTo.columnFrame
  exact (hz.updDet fun _ => by rfl).closeIfCovered.coverColumns.showDet

/-! #### Trigger sources (R119, R120) -/

theorem inputKeys_notMem {i k : Nat} (_hc : c < 32) (hk : k ∈ inputKeys i) : k ∉ joinedKeys c := by
  simp only [inputKeys, joinedKeys, Obj.XFM_ENABLE, Obj.DET_LAST_JOINT, Obj.TRIG_SRC_STATE, Obj.TRIG_SRC_HELD, Obj.TRIG_SRC_EVENTS,
    Obj.TRIG_SRC_LAST, key, List.mem_cons, List.not_mem_nil, or_false] at hk ⊢
  omega

/-- A trigger source writes one of its objects. -/
theorem wrInput {i k v : Nat} (hc : c < 32) (h : BlockFrame c s t) (hk : k ∈ inputKeys i) : BlockFrame c s (t.wr k v) :=
  h.wr (inputKeys_notMem hc hk)

theorem showSrc {k : Nat} (hc : c < 32) (h : BlockFrame c s t) : BlockFrame c s (t.showSrc k) :=
  h.wrInput (i := k) hc (by simp [inputKeys])

theorem srcLevel {k p : Nat} {b : Bool} (hc : c < 32) (h : BlockFrame c s t) : BlockFrame c s (t.srcLevel k p b) := h.updSrc.showSrc hc

theorem issue {k holdoff p flags : Nat} (hc : c < 32) (h : BlockFrame c s t) : BlockFrame c s (t.issue k holdoff p flags) := by
  unfold State.issue State.offerEvent
  extract_lets _ x y
  have hx : BlockFrame c s x := h.updSrc
  have hy : BlockFrame c s y := (hx.wrInput (i := k) hc (by simp [inputKeys])).wrInput (i := k) hc (by simp [inputKeys])
  exact h.ite <| (h.wrInput (i := k) hc (by simp [inputKeys])).ite <| hy.foldl fun _ _ hz => hz.updSeqr.ite hz

theorem srcInput {k : Nat} {g : SrcCfg} {i : SrcInput} (hc : c < 32) (h : BlockFrame c s t) : BlockFrame c s (t.srcInput k g i) := by
  unfold State.srcInput
  extract_lets _ _ _ _ _ _ _ _ x
  have hx : BlockFrame c s x := (h.updSrc.srcLevel hc).ite h.updSrc
  exact ((hx.srcLevel hc).issue hc).ite (hx.showSrc hc)

theorem retireAll {p : SrcCfg → Bool} {label : Nat} (h : BlockFrame c s t) : BlockFrame c s (t.retireAll p label) := by
  unfold State.retireAll; exact h.foldl fun _ _ hx => hx.updSrc

theorem frameInputs {label n hop d : Nat} {pow : Int → Nat} {bp : Nat → Option Nat} (hc : c < 32) (h : BlockFrame c s t) :
    BlockFrame c s (t.frameInputs c label n hop d pow bp) := by
  unfold State.frameInputs
  exact (h.retireAll.foldl fun _ _ hx => hx.srcInput hc).foldl fun _ _ hx => hx.srcInput hc

end BlockFrame

/-! ### The release of a frame (R89, R95) -/

/-- Between `s` and `t` a frame that has left context c reaches its consumers. -/
structure ReleaseFrame (c : Nat) (s t : State) : Prop where
  down : Downstream s t
  due : t.due 3 ⟨.context, c⟩ = s.due 3 ⟨.context, c⟩
  ctx : ∀ i, i ≠ c → t.ctx i = s.ctx i
  items : (t.ctx c).items = (s.ctx c).items
  enable : t.rd (Obj.XFM_ENABLE c) = s.rd (Obj.XFM_ENABLE c)

namespace ReleaseFrame

variable {c : Nat} {s t u : State}

theorem refl (c : Nat) (s : State) : ReleaseFrame c s s := ⟨.refl s, rfl, fun _ _ => rfl, rfl, rfl⟩

theorem block (h : ReleaseFrame c s t) (hb : BlockFrame c t u) : ReleaseFrame c s u where
  down := h.down.same hb.downstream.control hb.downstream.chans hb.downstream.tuners
  due := (hb.due ..).trans h.due
  ctx i hi := (State.ctx_of_ctxs hb.ctxs i).trans (h.ctx i hi)
  items := (congrArg Ctx.items (State.ctx_of_ctxs hb.ctxs c)).trans h.items
  enable := (hb.joined _ List.mem_cons_self).trans h.enable

theorem updCtx {f : Ctx → Ctx} (h : ReleaseFrame c s t) (hf : ∀ x, (f x).items = x.items) : ReleaseFrame c s (t.updCtx c f) where
  down := h.down.updCtx
  due := h.due
  ctx i hi := (State.ctx_updCtx_other f hi).trans (h.ctx i hi)
  items := (State.ctx_updCtx_keeps Ctx.items t c hf).trans h.items
  enable := h.enable

theorem wr {k v : Nat} (h : ReleaseFrame c s t) (hk : k ≠ Obj.XFM_ENABLE c) : ReleaseFrame c s (t.wr k v) where
  down := h.down.wr
  due := h.due
  ctx := h.ctx
  items := h.items
  enable := (State.rd_wr_other _ _ _ _ hk.symm).trans h.enable

end ReleaseFrame

namespace State

variable {s x y : State} {c b : Nat} {w : Swap} {f : Frm}

/-- A context with no gap at its head has none to release. -/
theorem flushGaps_self (h : (s.ctx c).items = [] ∨ ∃ f rest, (s.ctx c).items = .frame f :: rest) : s.flushGaps c = s := by
  have hid : s.updCtx c id = s := by unfold updCtx; rw [List.modify_id]
  unfold flushGaps
  obtain h | ⟨f, rest, h⟩ := h <;> rw [h] <;> exact hid

/-- The direct output of a frame (R86 to R88). -/
def directOut (s : State) (c : Nat) (f : Frm) : State :=
  if f.cfg.format != 0 && f.number % f.cfg.every == 0 then
    let (r, low) := f.direct c (s.ctx c).afterGap
    ((s.enterAll ((s.sourceFlows 2 c).filter fun q => !(s.flow q).shed) r).countN (Obj.XFM_POW_UFLOW c) low).updCtx c fun x =>
      { x with afterGap := false }
  else s

theorem directOut_frame (s : State) (c : Nat) (f : Frm) : ReleaseFrame c s (s.directOut c f) := by
  unfold directOut
  split
  · split
    exact ((ReleaseFrame.refl c s).block ((BlockFrame.refl c s).enterAll.wrOwn (by simp [blockKeys]))).updCtx fun _ => rfl
  · exact .refl c s

/-- The only frame of a context leaves it for its consumers; what stays is to show the context's state and the slots in use. -/
theorem exec_frameRelease (hc : c < 32) (hitems : (s.ctx c).items = [CtxItem.frame f]) (hf : f.dispatched = true)
    (hold : s.olderFormed c f.label = true) (hdue : s.due 3 ⟨.context, c⟩ = none) :
    ∃ x, ReleaseFrame c (s.updCtx c fun z => { z with items := [] }) x ∧
      exec (.frameRelease c) s = done s ((if x.rdB (Obj.XFM_ENABLE c) && (at' x.tuners f.cfg.source).withheld.isEmpty then
        x.wr (Obj.XFM_STATE c) 2 else x).flushGaps c).showSlots := by
  have hready : ¬ (!f.dispatched || !s.olderFormed c f.label) = true := by rw [hf, hold]; decide
  show ∃ x, _ ∧ execFrameRelease c s = _
  unfold execFrameRelease
  rw [flushGaps_self (.inr ⟨f, [], hitems⟩)]
  extract_lets z
  rw [show (z.ctx c).items = [CtxItem.frame f] from hitems]
  refine ⟨_, ?_, congrArg (done s) (if_neg hready)⟩
  have hout : ReleaseFrame c (s.updCtx c fun z => { z with items := [] }) ((s.updCtx c fun z => { z with items := [] }).directOut c f) :=
    directOut_frame ..
  exact (hout.block (((BlockFrame.refl c _).detFrame (hout.due.trans hdue)).frameInputs hc)).wr
    (by unfold Obj.XFM_FRAME_COUNT Obj.XFM_ENABLE key; omega)

theorem showSlots_rest (s : State) : s.showSlots.rest = s.rest := rfl

theorem showSlots_ctxs (s : State) : s.showSlots.ctxs = s.ctxs := rfl

theorem showSlots_inflight (s : State) : s.showSlots.rd Obj.XFM_SLOTS_INFLIGHT = s.ctxs.foldl (fun n x => n + x.slots) 0 := by
  unfold showSlots
  rw [rd_peak, if_neg (by decide), rd_wr_same]

theorem showSlots_state (s : State) (c : Nat) : s.showSlots.rd (Obj.XFM_STATE c) = s.rd (Obj.XFM_STATE c) := by
  unfold showSlots
  rw [rd_peak, if_neg (by unfold Obj.XFM_STATE Obj.XFM_SLOTS_PEAK key; omega),
    rd_wr_other _ _ _ _ (by unfold Obj.XFM_STATE Obj.XFM_SLOTS_INFLIGHT key; omega)]

/-- The clause of R89 and R95: the frame leaves the context, and the context's state and slots follow. -/
theorem frameRelease_releases (hsz : s.Sized) (hc : c < 32) (hitems : (s.ctx c).items = [CtxItem.frame f]) (hf : f.dispatched = true)
    (hold : s.olderFormed c f.label = true) (hdue : s.due 3 ⟨.context, c⟩ = none) :
    ∃ t, exec (.frameRelease c) s = .next t ∧ (t.ctx c).items = [] ∧
      t.rd Obj.XFM_SLOTS_INFLIGHT = t.ctxs.foldl (fun n x => n + x.slots) 0 ∧
      (s.rdB (Obj.XFM_ENABLE c) = true → (at' s.tuners f.cfg.source).withheld = [] → t.rd (Obj.XFM_STATE c) = 2) ∧
      (∀ i, i ≠ c → t.ctx i = s.ctx i) ∧ t.tuners = s.tuners ∧ t.chans = s.chans ∧ t.control = s.control := by
  obtain ⟨x, hx, hexec⟩ := exec_frameRelease hc hitems hf hold hdue
  obtain ⟨y, hy⟩ : ∃ y, (if x.rdB (Obj.XFM_ENABLE c) && (at' x.tuners f.cfg.source).withheld.isEmpty then
    x.wr (Obj.XFM_STATE c) 2 else x) = y := ⟨_, rfl⟩
  obtain ⟨t, ht⟩ : ∃ t, y.showSlots = t := ⟨_, rfl⟩
  have hyx : y.rest = x.rest := by rw [← hy]; split <;> rfl
  have htx : t.rest = x.rest := ht ▸ (showSlots_rest y).trans hyx
  have hdown : Downstream s t := ((Downstream.refl s).updCtx.same hx.down.control hx.down.chans hx.down.tuners).ofRest htx
  have hitems : (x.ctx c).items = [] := by
    rw [hx.items, ctx_updCtx_same _ (by rw [hsz.ctxs_length]; exact hc)]
  have hgaps : y.flushGaps c = y := flushGaps_self (.inl ((congrArg Ctx.items (ctx_of_rest hyx c)).trans hitems))
  rw [hy, hgaps, ht] at hexec
  refine ⟨t, hexec.trans (done_eq (congrArg State.wall hdown.control :) (congrArg State.pending hdown.control :)), ?_, ?_,
    fun hon hkept => ?_, fun i hi => ?_, hdown.tuners, hdown.chans, hdown.control⟩
  · rw [ctx_of_rest htx, hitems]
  · rw [← ht, showSlots_inflight, showSlots_ctxs]
  · have hrun : (x.rdB (Obj.XFM_ENABLE c) && (at' x.tuners f.cfg.source).withheld.isEmpty) = true := by
      have htun : x.tuners = s.tuners := hx.down.tuners
      have hen : x.rd (Obj.XFM_ENABLE c) = s.rd (Obj.XFM_ENABLE c) := hx.enable
      unfold rdB at hon ⊢
      rw [htun, hen, hon, hkept]
      rfl
    rw [if_pos hrun] at hy
    rw [← ht, showSlots_state, ← hy, rd_wr_same]
  · rw [ctx_of_rest htx, hx.ctx i hi, ctx_updCtx_other _ hi]

end State

/-! ### The release of a period (R101, R109) -/

/-- The records of a period that a replay of its product begins with become the latest. -/
def Det.publish (x : Det) (recs : List (Nat × Record)) : Det :=
  { x with
    latest := (recs.filter fun (e : Nat × Record) => e.1 == 0 || e.1 == 1 || e.1 == 2 || e.1 == 5) ++
      x.latest.filter fun o => !recs.any fun (e : Nat × Record) => e.1 == o.1 }

namespace State

variable {s x : State} {c b : Nat} {w : Swap}

/-- Records that enter flows are the work of no block: block i's record is as after the work of another. -/
theorem enterAll_det (s : State) (fs : List Nat) (r : Record) (i : Nat) : (s.enterAll fs r).det i = s.det i :=
  (BlockFrame.refl (i + 1) s).enterAll.det i (Nat.ne_of_lt i.lt_succ_self)

/-- A record of a period enters the flows that bind its product. -/
def enterProduct (c : Nat) (s : State) (e : Nat × Record) : State := s.enterAll (s.productFlows c e.1) e.2

/-- A band power and its tick are shown. -/
def showBand (s : State) (b : Nat × Nat × Nat) : State := (s.wr (Obj.DET_BP_VALUE b.1) b.2.1).wr (Obj.DET_BP_TICK b.1) b.2.2

/-- The oldest period formed is released. -/
theorem exec_productPeriodRelease {recs : List (Nat × Record)} {bands : List (Nat × Nat × Nat)} {rest : List DetItem}
    (h : (s.det c).out = DetItem.period recs bands :: rest) :
    exec (.productPeriodRelease c) s = done s (bands.foldl showBand
      ((recs.foldl (enterProduct c) (s.updDet c fun x => { x with out := rest })).updDet c fun x => x.publish recs)) := by
  show execProductPeriodRelease c s = _
  unfold execProductPeriodRelease
  rw [h]
  rfl

/-- The clause of R101: a period of one band power and no record. -/
theorem productPeriodRelease_band {bp v tk : Nat} {rest : List DetItem} (hsz : s.Sized) (hc : c < 32)
    (h : (s.det c).out = DetItem.period [] [(bp, v, tk)] :: rest) :
    ∃ t, exec (.productPeriodRelease c) s = .next t ∧ (t.det c).out = rest ∧ t.rd (Obj.DET_BP_VALUE bp) = v ∧
      t.rd (Obj.DET_BP_TICK bp) = tk ∧ (∀ i, i ≠ c → t.det i = s.det i) ∧ t.rest = { s.rest with dets := t.dets } ∧
      t.sess = s.sess ∧ t.log = s.log ∧ s.only t [Obj.DET_BP_VALUE bp, Obj.DET_BP_TICK bp] := by
  let y := s.updDet c fun x => { x with out := rest }
  let z := y.updDet c fun x => x.publish []
  have hlen : c < s.dets.length := by rw [hsz.dets_length]; exact hc
  have hout : (z.det c).out = rest :=
    (det_updDet_keeps Det.out y c (f := fun x => x.publish []) fun _ => rfl).trans <|
      congrArg Det.out (det_updDet_same (fun x => { x with out := rest }) hlen)
  have hne : Obj.DET_BP_VALUE bp ≠ Obj.DET_BP_TICK bp := by unfold Obj.DET_BP_VALUE Obj.DET_BP_TICK key; omega
  refine ⟨z.showBand (bp, v, tk), (exec_productPeriodRelease h).trans (done_eq rfl rfl), hout, ?_, rd_wr_same .., fun i hi => ?_, rfl, rfl, rfl,
    fun q hq => ?_⟩
  · exact (rd_wr_other _ _ _ _ hne).trans (rd_wr_same ..)
  · exact (det_updDet_other _ hi).trans (det_updDet_other _ hi)
  · simp only [List.mem_cons, List.not_mem_nil, or_false, not_or] at hq
    exact (rd_wr_other _ _ _ _ hq.2).trans (rd_wr_other _ _ _ _ hq.1)

/-- The clause of R101: whatever the period's records and band powers, its release leaves the block beside it and what lies above. -/
theorem productPeriodRelease_released {recs : List (Nat × Record)} {bands : List (Nat × Nat × Nat)} {rest : List DetItem} (hsz : s.Sized)
    (hc : c < 32) (h : (s.det c).out = DetItem.period recs bands :: rest) :
    ∃ t, exec (.productPeriodRelease c) s = .next t ∧ (t.det c).out = rest ∧ (∀ i, i ≠ c → t.det i = s.det i) ∧
      t.ctxs = s.ctxs ∧ t.tuners = s.tuners ∧ t.control = s.control := by
  let y := s.updDet c fun x => { x with out := rest }
  obtain ⟨z, hz⟩ : ∃ z, recs.foldl (enterProduct c) y = z := ⟨_, rfl⟩
  obtain ⟨u, hu⟩ : ∃ u, z.updDet c (fun x => x.publish recs) = u := ⟨_, rfl⟩
  obtain ⟨t, ht⟩ : ∃ t, bands.foldl showBand u = t := ⟨_, rfl⟩
  have hexec : exec (.productPeriodRelease c) s = done s t := (exec_productPeriodRelease h).trans (by rw [hz, hu, ht])
  have hzy : z.det c = y.det c := hz ▸ foldl_same (fun s => s.det c) (enterProduct c) (fun _ _ => enterAll_det ..) recs y
  have hlen : c < s.dets.length := by rw [hsz.dets_length]; exact hc
  have hsy : BlockFrame c s y := (BlockFrame.refl c s).updDet fun _ => rfl
  have hyz : BlockFrame c s (recs.foldl (enterProduct c) y) := hsy.foldl fun _ _ hx => hx.enterAll
  have hsu : BlockFrame c s u := hu ▸ (hz ▸ hyz).updDet fun _ => rfl
  have htu : t.rest = u.rest := ht ▸ foldl_same State.rest showBand (fun _ _ => rfl) bands u
  have hdown : Downstream s t := hsu.downstream.ofRest htu
  have hdet (i : Nat) : t.det i = u.det i := det_of_dets (congrArg State.dets htu :) i
  refine ⟨t, hexec.trans (done_eq (congrArg State.wall hdown.control :) (congrArg State.pending hdown.control :)), ?_, fun i hi => ?_, ?_,
    hdown.tuners, hdown.control⟩
  · rw [hdet, ← hu, det_updDet_keeps Det.out z c (f := fun x => x.publish recs) fun _ => rfl, hzy]
    exact congrArg Det.out (det_updDet_same (fun x => { x with out := rest }) hlen)
  · rw [hdet, hsu.det i hi]
  · exact (congrArg State.ctxs htu :).trans hsu.ctxs

/-! ### A hold clear (R104) -/

/-- The clause of R104: the clear waits under the tick at which it was served. -/
theorem detHoldClear_waits {sess tag : Nat} (hsz : s.Sized) (hc : c < 32) (hs : s.serves sess tag (Obj.DET_HOLD_CLEAR c) 1 = true) :
    ∃ t, exec (.detHoldClear sess tag c 1) s = .next t ∧ s.replied t sess tag (Obj.DET_HOLD_CLEAR c) .ok ∧
      t.det c = { s.det c with clearAt := (s.det c).clearAt ++ [s.tick] } ∧
      (∀ i, i ≠ c → t.det i = s.det i) ∧ t.rest = { s.rest with dets := t.dets } ∧ t.obj = s.obj ∧ t.log = s.log := by
  let y := (s.hear sess).updDet c fun x => { x with clearAt := x.clearAt ++ [s.tick] }
  obtain ⟨t, ht⟩ : ∃ t, y.answer (s.req sess tag (Obj.DET_HOLD_CLEAR c)) .ok = t := ⟨_, rfl⟩
  have hexec : exec (.detHoldClear sess tag c 1) s = done s t := by
    show done s (s.direct sess tag (Obj.DET_HOLD_CLEAR c) 1 (holdClear c 1)) = _
    rw [direct_serves _ hs, ← ht]
    rfl
  have hty : t.rest = y.rest := ht ▸ answer_rest ..
  have htd : t.dets = y.dets := (congrArg State.dets hty :)
  have hdet (i : Nat) : t.det i = y.det i := det_of_dets htd i
  have hlen : c < (s.hear sess).dets.length := by
    show c < s.dets.length
    rw [hsz.dets_length]; exact hc
  refine ⟨t, hexec.trans (done_eq (congrArg State.wall hty :) (congrArg State.pending hty :)), ht ▸ replied_answer _ (serves_takes hs) _ rfl, ?_,
    fun i hi => ?_, ?_, ht ▸ answer_obj .., ht ▸ answer_log ..⟩
  · rw [hdet, det_updDet_same _ hlen]; rfl
  · rw [hdet, det_updDet_other _ hi]; rfl
  · rw [htd, hty]; rfl

/-! ### The Joint of a block (R111) -/

/-- A Joint with no work of its own changes generations, swaps and ownership beside objects. -/
theorem joint_rest {s t : State} {g : Nat} {u : UnitId} (ht : s.joint g u (fun _ _ s => s) (fun _ _ s => s) = t) :
    t.rest = { s.rest with gens := t.gens, swaps := t.swaps, owners := t.owners } := by
  subst ht
  unfold joint
  split
  · rfl
  · exact (applyChange_frame ..).1.rest

/-- The integrators that change with a block have applied their changes. -/
def integratorsJoined (s : State) (c : Nat) (w : Swap) : State :=
  (List.range 64).foldl (fun s i =>
    match w.change 3 ⟨.integrator, i⟩ with
    | some _ =>
      if s.rd (Obj.DET_BP_CONTEXT i) = c || w.value s (Obj.DET_BP_CONTEXT i) = c then
        s.joint 3 ⟨.integrator, i⟩ (fun _ _ s => s) fun _ _ s => s
      else s
    | none => s) s

theorem integratorsJoined_rest (s : State) (c : Nat) (w : Swap) :
    (s.integratorsJoined c w).rest = { s.rest with
      gens := (s.integratorsJoined c w).gens, swaps := (s.integratorsJoined c w).swaps, owners := (s.integratorsJoined c w).owners } := by
  refine List.foldlRecOn (motive := fun y : State => y.rest = { s.rest with gens := y.gens, swaps := y.swaps, owners := y.owners }) _ _ rfl
    fun y hy i _ => ?_
  split
  · split
    · rw [joint_rest rfl, hy]
    · exact hy
  · exact hy

/-- A block's Joint that is due: after its objects and those of its integrators its column sets begin anew, if they have not, and a
configuration begins at the boundary; then what its frames complete is closed. -/
theorem detectorJoint_due (hdue : s.due 3 ⟨.context, c⟩ = some (w, b)) (hx : s.applyChange w 3 ⟨.context, c⟩ b = x) :
    ∃ z f, BlockFrame c (x.integratorsJoined c w) z ∧ (∀ d : Det, (f d).cfgs.head?.map DetCfg.since = some b) ∧
      s.detectorJoint c = (((((z.updDet c f).wr (Obj.DET_LAST_JOINT c) b).wr (Obj.DET_PERIODS c) 0).showDet c false).closeIfCovered
        c).coverColumns c := by
  subst hx
  have hrestart (y : State) : BlockFrame c y (if Nat.blt (y.det c).colSwap (w.id + 1) then y.restartColumns c y.rd w else y) :=
    (BlockFrame.refl c y).restartColumns.ite (.refl c y)
  exact ⟨_, _, hrestart _, fun _ => rfl, joint_due hdue⟩

/-- The clause of R111: the block's new configuration is in force from its product boundary. -/
theorem detectorJoint_applies (hsz : s.Sized) (hc : c < 32) (hdue : s.due 3 ⟨.context, c⟩ = some (w, b)) :
    ∃ t, exec (.detectorJoint c) s = .next t ∧ t.rd (Obj.DET_LAST_JOINT c) = b ∧
      ((t.det c).cfgs.head?.map DetCfg.since) = some b ∧ (∀ i, i ≠ c → t.det i = s.det i) ∧
      t.ctxs = s.ctxs ∧ t.tuners = s.tuners ∧ t.control = s.control := by
  obtain ⟨x, hx⟩ : ∃ x, s.applyChange w 3 ⟨.context, c⟩ b = x := ⟨_, rfl⟩
  have hsx : JointFrame 3 w.sess s x := hx ▸ (s.applyChange_frame w 3 ⟨.context, c⟩ b).1
  obtain ⟨z, f, hyz, hf, hjoint⟩ := detectorJoint_due hdue hx
  have hxy := x.integratorsJoined_rest c w
  generalize x.integratorsJoined c w = y at hyz hxy
  obtain ⟨u, hu⟩ : ∃ u, (z.updDet c f).wr (Obj.DET_LAST_JOINT c) b = u := ⟨_, rfl⟩
  obtain ⟨t, ht⟩ : ∃ t, s.detectorJoint c = t := ⟨_, rfl⟩
  have hut : BlockFrame c u t := by
    rw [← ht, hjoint, hu]
    exact ((BlockFrame.refl c u).wrOwn (by simp [blockKeys])).showDet.closeIfCovered.coverColumns
  have hys : y.rest = { s.rest with gens := y.gens, swaps := y.swaps, owners := y.owners } := by rw [hxy, hsx.rest]
  have hyd : y.dets = s.dets := (congrArg State.dets hys :)
  have hyc : y.ctxs = s.ctxs := (congrArg State.ctxs hys :)
  have hsy : Downstream s y := ⟨(congrArg State.control hys :), (congrArg State.chans hys :), (congrArg State.tuners hys :)⟩
  have hzu : u.rest = (z.updDet c f).rest := hu ▸ rfl
  have hsu : Downstream s u := ((hsy.same hyz.downstream.control hyz.downstream.chans hyz.downstream.tuners).updDet (g := f)).ofRest hzu
  have hst : Downstream s t := hsu.same hut.downstream.control hut.downstream.chans hut.downstream.tuners
  have hud : u.dets = (z.updDet c f).dets := (congrArg State.dets hzu :)
  have huc : u.ctxs = z.ctxs := (congrArg State.ctxs hzu :)
  have hlen : c < z.dets.length := by rw [hyz.length, hyd, hsz.dets_length]; exact hc
  have hexec : exec (.detectorJoint c) s = done s t := congrArg (done s) ht
  refine ⟨t, hexec.trans (done_eq (congrArg State.wall hst.control :) (congrArg State.pending hst.control :)), ?_, ?_, fun i hi => ?_, ?_,
    hst.tuners, hst.control⟩
  · rw [hut.joined _ (by simp [joinedKeys]), ← hu, rd_wr_same]
  · rw [hut.cfgs, det_of_dets hud, det_updDet_same f hlen]
    exact hf _
  · rw [hut.det i hi, det_of_dets hud, det_updDet_other f hi, hyz.det i hi, det_of_dets hyd]
  · rw [hut.ctxs, huc, hyz.ctxs, hyc]

end State

/-- Settles O6: each clause is the lemma of its command. -/
theorem contextsAndDetectors : Obligations.ContextsAndDetectors := by
  unfold Obligations.ContextsAndDetectors
  refine ⟨?_, ?_, ?_, ?_, ?_, ?_, ?_, ?_, ?_⟩
  · exact fun s c f hw hfree hturn hwhole hstag => State.frameDispatch_dispatches hw hfree hturn hwhole hstag
  · exact fun s c f hsz hc hitems hf hold hdue => State.frameRelease_releases hsz hc hitems hf hold hdue
  · exact fun s c f hsz hc hon hw hlost => State.frameStagingSkip_skips hsz hc hon hw hlost
  · exact fun s c b w hsz hc hdue => State.contextJoint_applies hsz hc hdue
  · exact fun s sess tag c v hsz hc hs hswap hv => State.xfmUwinWrite_stages hsz hc hs hswap hv
  · exact fun s c bp v tk rest hsz hc h => State.productPeriodRelease_band hsz hc h
  · exact fun s c recs bands rest hsz hc h => State.productPeriodRelease_released hsz hc h
  · exact fun s sess tag c hsz hc hs => State.detHoldClear_waits hsz hc hs
  · exact fun s c b w hsz hc hdue => State.detectorJoint_applies hsz hc hdue

end Sys2Proof.Machine

/-! ## Triggering: what the statements of chapter 6 share -/

namespace Sys2Proof.Machine

set_option Elab.async false

/-! ### Lists of units -/

section Units

variable {α : Type} [Inhabited α] {l : List α} {i j : Nat}

theorem at'_modify_same (f : α → α) (h : i < l.length) : at' (l.modify i f) i = f (at' l i) := by
  simp [at', List.getD_eq_getElem?_getD, h]

theorem at'_modify_other (f : α → α) (h : j ≠ i) : at' (l.modify i f) j = at' l j := by
  simp [at', List.getD_eq_getElem?_getD, h.symm]

/-- A unit is as it was, or as the change leaves it. -/
theorem at'_modify_cases (P : α → Prop) {f : α → α} (h : P (at' l j)) (hf : P (f (at' l j))) : P (at' (l.modify i f) j) := by
  by_cases hj : j = i
  · subst hj
    by_cases hl : j < l.length
    · rwa [at'_modify_same f hl]
    · rwa [List.modify_eq_self (Nat.le_of_not_lt hl)]
  · rwa [at'_modify_other f hj]

end Units

namespace State

variable {s t : State} {i j : Nat}

theorem Sized.sources_length (h : s.Sized) : s.trig.sources.length = 32 := congrArg (·.getD 6 0) h
theorem Sized.seqs_length (h : s.Sized) : s.trig.seqs.length = 16 := congrArg (·.getD 7 0) h
theorem Sized.groups_length (h : s.Sized) : s.trig.groups.length = 4 := congrArg (·.getD 8 0) h
theorem Sized.outs_length (h : s.Sized) : s.trig.outs.length = 4 := congrArg (·.getD 9 0) h
theorem Sized.caps_length (h : s.Sized) : s.trig.caps.length = 4 := congrArg (·.getD 10 0) h

theorem src_of_trig (h : t.trig = s.trig) (i : Nat) : t.src i = s.src i := by unfold src; rw [h]
theorem seqr_of_trig (h : t.trig = s.trig) (i : Nat) : t.seqr i = s.seqr i := by unfold seqr; rw [h]
theorem grp_of_trig (h : t.trig = s.trig) (i : Nat) : t.grp i = s.grp i := by unfold grp; rw [h]
theorem outPin_of_trig (h : t.trig = s.trig) (i : Nat) : t.outPin i = s.outPin i := by unfold outPin; rw [h]
theorem cap_of_trig (h : t.trig = s.trig) (i : Nat) : t.cap i = s.cap i := by unfold cap; rw [h]
theorem rd_of_obj (h : t.obj = s.obj) (k : Nat) : t.rd k = s.rd k := by unfold rd; rw [h]

theorem src_updSrc_same (f : Source → Source) (h : i < s.trig.sources.length) : (s.updSrc i f).src i = f (s.src i) := at'_modify_same f h
theorem src_updSrc_other (f : Source → Source) (h : j ≠ i) : (s.updSrc i f).src j = s.src j := at'_modify_other f h
theorem seqr_updSeqr_same (f : Seqr → Seqr) (h : i < s.trig.seqs.length) : (s.updSeqr i f).seqr i = f (s.seqr i) := at'_modify_same f h
theorem seqr_updSeqr_other (f : Seqr → Seqr) (h : j ≠ i) : (s.updSeqr i f).seqr j = s.seqr j := at'_modify_other f h
theorem grp_updGrp_same (f : Group → Group) (h : i < s.trig.groups.length) : (s.updGrp i f).grp i = f (s.grp i) := at'_modify_same f h
theorem grp_updGrp_other (f : Group → Group) (h : j ≠ i) : (s.updGrp i f).grp j = s.grp j := at'_modify_other f h
theorem outPin_updOut_same (f : OutPin → OutPin) (h : i < s.trig.outs.length) : (s.updOut i f).outPin i = f (s.outPin i) := at'_modify_same f h
theorem outPin_updOut_other (f : OutPin → OutPin) (h : j ≠ i) : (s.updOut i f).outPin j = s.outPin j := at'_modify_other f h
theorem cap_updCap_same (f : Capture → Capture) (h : i < s.trig.caps.length) : (s.updCap i f).cap i = f (s.cap i) := at'_modify_same f h
theorem cap_updCap_other (f : Capture → Capture) (h : j ≠ i) : (s.updCap i f).cap j = s.cap j := at'_modify_other f h

end State

/-! ### Commands that change triggering alone -/

/-- Between `s` and `t` no more differs than triggering and the objects named. -/
structure TrigFrame (keys : List Nat) (s t : State) : Prop where
  rest : t.rest = { s.rest with trig := t.trig }
  sess : t.sess = s.sess
  log : t.log = s.log
  only : s.only t keys

namespace TrigFrame

variable {keys : List Nat} {s t u : State}

theorem refl (keys : List Nat) (s : State) : TrigFrame keys s s := ⟨rfl, rfl, rfl, fun _ _ => rfl⟩

theorem trans (h : TrigFrame keys s t) (h' : TrigFrame keys t u) : TrigFrame keys s u where
  rest := by rw [h'.rest, h.rest]
  sess := h'.sess.trans h.sess
  log := h'.log.trans h.log
  only q hq := (h'.only q hq).trans (h.only q hq)

/-- More objects may be named. -/
theorem mono {keys' : List Nat} (h : TrigFrame keys s t) (hk : keys ⊆ keys') : TrigFrame keys' s t :=
  { h with only := fun q hq => h.only q fun hm => hq (hk hm) }

/-- Any change of triggering; that of one of its units is a case. -/
theorem withTrig (x : Trig) (h : TrigFrame keys s t) : TrigFrame keys s { t with trig := x } :=
  h.trans ⟨rfl, rfl, rfl, fun _ _ => rfl⟩

theorem wr {k : Nat} (v : Nat) (h : TrigFrame keys s t) (hk : k ∈ keys) : TrigFrame keys s (t.wr k v) :=
  h.trans ⟨rfl, rfl, rfl, fun _ hq => State.rd_wr_other _ _ _ _ (ne_of_mem_of_not_mem hk hq).symm⟩

theorem foldl {α : Type} {f : State → α → State} {l : List α} (h : TrigFrame keys s t)
    (hf : ∀ a ∈ l, ∀ x, TrigFrame keys s x → TrigFrame keys s (f x a)) : TrigFrame keys s (l.foldl f t) :=
  List.foldlRecOn l f h fun x hx a ha => hf a ha x hx

theorem ite {c : Prop} [Decidable c] (h : TrigFrame keys s t) (h' : TrigFrame keys s u) : TrigFrame keys s (if c then t else u) := by
  split
  · exact h
  · exact h'

theorem updSrc (i : Nat) (f : Source → Source) (h : TrigFrame keys s t) : TrigFrame keys s (t.updSrc i f) := h.withTrig _
theorem updSeqr (i : Nat) (f : Seqr → Seqr) (h : TrigFrame keys s t) : TrigFrame keys s (t.updSeqr i f) := h.withTrig _
theorem updGrp (i : Nat) (f : Group → Group) (h : TrigFrame keys s t) : TrigFrame keys s (t.updGrp i f) := h.withTrig _
theorem updOut (i : Nat) (f : OutPin → OutPin) (h : TrigFrame keys s t) : TrigFrame keys s (t.updOut i f) := h.withTrig _
theorem updCap (i : Nat) (f : Capture → Capture) (h : TrigFrame keys s t) : TrigFrame keys s (t.updCap i f) := h.withTrig _

theorem done (h : TrigFrame keys s t) : done s t = .next t :=
  done_eq (congrArg State.wall h.rest :) (congrArg State.pending h.rest :)

end TrigFrame

/-- A served write whose body changes triggering alone and answers OK. -/
theorem State.direct_trig {s y : State} {sess tag k v : Nat} {keys : List Nat} {body : Req → State → State}
    (hs : s.serves sess tag k v = true) (hy : TrigFrame keys (s.hear sess) y)
    (hbody : body ⟨sess, (s.ses sess).inc, tag, k⟩ (s.hear sess) = y.answer ⟨sess, (s.ses sess).inc, tag, k⟩ .ok) :
    ∃ t, done s (s.direct sess tag k v body) = .next t ∧ s.replied t sess tag k .ok ∧ t.trig = y.trig ∧ t.obj = y.obj ∧
      t.rest = { s.rest with trig := t.trig } ∧ t.log = s.log ∧ s.only t keys := by
  obtain ⟨t, ht⟩ : ∃ t, y.answer ⟨sess, (s.ses sess).inc, tag, k⟩ .ok = t := ⟨_, rfl⟩
  have htrig : t.trig = y.trig := ht ▸ answer_trig ..
  have hobj : t.obj = y.obj := ht ▸ answer_obj ..
  have hrest : t.rest = { s.rest with trig := t.trig } := by
    rw [htrig, ← ht, answer_rest]; exact hy.rest
  refine ⟨t, ?_, ht ▸ replied_answer _ (serves_takes hs) _ hy.sess, htrig, hobj, hrest, ht ▸ (answer_log ..).trans hy.log, fun q hq => ?_⟩
  · rw [direct_serves _ hs, hbody, ht]
    exact done_eq (congrArg State.wall hrest :) (congrArg State.pending hrest :)
  · exact (rd_of_obj hobj q).trans (hy.only q hq)

/-! ### Sources: levels and events (R118, R122) -/

theorem levelAt_levelIns_same (p : Nat) (b : Bool) (l : List (Nat × Bool)) : levelAt p (levelIns p b l) = b := by
  induction l with
  | nil => simp [levelIns, levelAt]
  | cons x l ih =>
    unfold levelIns
    split
    · simp [levelAt]
    next h => simp only [levelAt, if_neg h, ih]

/-- A change of level leaves the level of every position below it. -/
theorem levelAt_levelIns_above {p q : Nat} (b : Bool) (h : p < q) (l : List (Nat × Bool)) : levelAt p (levelIns q b l) = levelAt p l := by
  have hq : ¬ q ≤ p := Nat.not_le_of_lt h
  induction l with
  | nil => simp only [levelIns, levelAt, if_neg hq]
  | cons x l ih =>
    unfold levelIns
    split
    · simp only [levelAt, if_neg hq]
    · simp only [levelAt, ih]

namespace State

variable {s t : State} {k p : Nat}

/-- An event that is offered reaches sequencers' queues alone. -/
theorem offerEvent_eq (s : State) (n : Nat) (e : TEvent) : ∃ l, s.offerEvent n e = { s with trig := { s.trig with seqs := l } } := by
  unfold offerEvent
  refine List.foldlRecOn (motive := fun t : State => ∃ l, t = { s with trig := { s.trig with seqs := l } }) _ _ ⟨s.trig.seqs, rfl⟩ ?_
  rintro _ ⟨l, rfl⟩ q _
  split
  · exact ⟨_, rfl⟩
  · exact ⟨l, rfl⟩

/-- It reaches none below the number from which it is offered. -/
theorem offerEvent_seqr {n q : Nat} (s : State) (e : TEvent) (h : q < n) : (s.offerEvent n e).seqr q = s.seqr q := by
  refine foldl_same (fun s => s.seqr q) _ (fun s a => ?_) _ s
  split
  next ha =>
    rw [Bool.and_eq_true, Nat.ble_eq] at ha
    exact seqr_updSeqr_other _ (by omega)
  · rfl

theorem offerEvent_src (s : State) (n : Nat) (e : TEvent) (i : Nat) : (s.offerEvent n e).src i = s.src i := by
  obtain ⟨l, h⟩ := s.offerEvent_eq n e
  rw [h]; rfl

theorem offerEvent_rd (s : State) (n : Nat) (e : TEvent) (q : Nat) : (s.offerEvent n e).rd q = s.rd q := by
  obtain ⟨l, h⟩ := s.offerEvent_eq n e
  rw [h]; rfl

end State

theorem TrigFrame.offerEvent {keys : List Nat} {s t : State} (n : Nat) (e : TEvent) (h : TrigFrame keys s t) :
    TrigFrame keys s (t.offerEvent n e) := by
  obtain ⟨l, hl⟩ := t.offerEvent_eq n e
  rw [hl]; exact h.withTrig _

namespace State

variable {s t : State} {k p : Nat}

/-- The source issues an event at p. -/
def issueNow (s : State) (k p flags : Nat) : State :=
  (((s.updSrc k fun x => { x with lastEvent := some p }).wr (Obj.TRIG_SRC_EVENTS k)
    (s.rd (Obj.TRIG_SRC_EVENTS k) + 1)).wr (Obj.TRIG_SRC_LAST k) (p / 65536)).offerEvent 0 ⟨p, 2 + k, flags⟩

/-- An event is withheld, suppressed and counted, or issued. -/
theorem issue_cases (s : State) (k holdoff p flags : Nat) :
    s.issue k holdoff p flags = s ∨ s.issue k holdoff p flags = s.count (Obj.TRIG_SRC_HELD k) ∨
      s.issue k holdoff p flags = s.issueNow k p flags := by
  unfold issue
  extract_lets near
  clear_value near
  split_ifs
  · exact .inl rfl
  · exact .inr (.inl rfl)
  · exact .inr (.inr rfl)

/-- A source that has issued no event, while triggering is not suspended, issues this one. -/
theorem issue_first {holdoff flags : Nat} (hlast : (s.src k).lastEvent = none) (hrun : s.pwr.suspended = false) :
    s.issue k holdoff p flags = s.issueNow k p flags := by
  unfold issue
  rw [hlast, hrun]
  rfl

theorem issueNow_frame (s : State) (k p flags : Nat) :
    TrigFrame [Obj.TRIG_SRC_EVENTS k, Obj.TRIG_SRC_LAST k] s (s.issueNow k p flags) :=
  ((((TrigFrame.refl _ s).updSrc ..).wr _ (by simp)).wr _ (by simp)).offerEvent ..

theorem issueNow_src (s : State) (k p flags i : Nat) :
    (s.issueNow k p flags).src i = (s.updSrc k fun x => { x with lastEvent := some p }).src i := offerEvent_src ..

/-- What such an event changes. -/
structure Issued (k p : Nat) (s t : State) : Prop where
  frame : TrigFrame [Obj.TRIG_SRC_EVENTS k, Obj.TRIG_SRC_LAST k] s t
  events : t.rd (Obj.TRIG_SRC_EVENTS k) = s.rd (Obj.TRIG_SRC_EVENTS k) + 1
  last : t.rd (Obj.TRIG_SRC_LAST k) = p / 65536
  other : ∀ i, i ≠ k → t.src i = s.src i
  nextTime : (t.src k).nextTime = (s.src k).nextTime

theorem issued {holdoff flags : Nat} (hlast : (s.src k).lastEvent = none) (hrun : s.pwr.suspended = false) :
    Issued k p s (s.issue k holdoff p flags) := by
  rw [issue_first hlast hrun]
  have hne : Obj.TRIG_SRC_EVENTS k ≠ Obj.TRIG_SRC_LAST k := by unfold Obj.TRIG_SRC_EVENTS Obj.TRIG_SRC_LAST key; omega
  refine ⟨issueNow_frame .., ?_, ?_, fun i hi => ?_, ?_⟩
  · unfold issueNow
    rw [offerEvent_rd, rd_wr_other _ _ _ _ hne, rd_wr_same]
  · unfold issueNow
    rw [offerEvent_rd, rd_wr_same]
  · rw [issueNow_src, src_updSrc_other _ hi]
  · rw [issueNow_src]
    exact at'_modify_cases (fun x : Source => x.nextTime = (s.src k).nextTime) rfl rfl

end State

end Sys2Proof.Machine

/-! ## Trigger sources (R127, R128): O7 -/

namespace Sys2Proof.Machine

set_option Elab.async false

namespace State

variable {s t : State} {k p : Nat}

/-! ### An edge at a pin (R127) -/

/-- The source is in no gap and its level at position p is b. -/
def ShowsEdge (s : State) (p : Nat) (b : Bool) (k : Nat) : Prop := (s.src k).gap = false ∧ levelAt p (s.src k).levels = b

theorem ShowsEdge.of_src {b : Bool} (h : s.ShowsEdge p b k) (hs : t.src k = s.src k) : t.ShowsEdge p b k := by
  unfold ShowsEdge; rw [hs]; exact h

/-- A change of a source's record that opens no gap and changes no level. -/
theorem ShowsEdge.updSrc {b : Bool} {i : Nat} {f : Source → Source} (h : s.ShowsEdge p b k)
    (hf : ∀ x : Source, x.gap = false → (f x).gap = false) (hl : ∀ x, (f x).levels = x.levels) : (s.updSrc i f).ShowsEdge p b k :=
  at'_modify_cases (fun x : Source => x.gap = false ∧ levelAt p x.levels = b) h ⟨hf _ h.1, (congrArg (levelAt p) (hl _)).trans h.2⟩

/-- The same level from a later position on, of this source or another. -/
theorem ShowsEdge.srcLevel {b : Bool} {i q : Nat} (h : s.ShowsEdge p b k) (hq : p ≤ q) : (s.srcLevel i q b).ShowsEdge p b k := by
  refine at'_modify_cases (fun x : Source => x.gap = false ∧ levelAt p x.levels = b) h ⟨h.1, ?_⟩
  rcases Nat.lt_or_eq_of_le hq with hlt | rfl
  · exact (levelAt_levelIns_above b hlt _).trans h.2
  · exact levelAt_levelIns_same ..

theorem ShowsEdge.issue {b : Bool} {i holdoff q flags : Nat} (h : s.ShowsEdge p b k) : (s.issue i holdoff q flags).ShowsEdge p b k := by
  rcases s.issue_cases i holdoff q flags with he | he | he <;> rw [he]
  · exact h
  · exact h
  · exact (h.updSrc (f := fun x => { x with lastEvent := some q }) (fun _ hx => hx) fun _ => rfl).of_src (issueNow_src ..)

theorem showsEdge_srcLevel {b : Bool} (hk : k < s.trig.sources.length) (hg : (s.src k).gap = false) :
    (s.srcLevel k p b).ShowsEdge p b k := by
  refine ShowsEdge.of_src (s := s.updSrc k fun x => { x with levels := levelIns p b x.levels }) ?_ rfl
  unfold ShowsEdge
  rw [src_updSrc_same _ hk]
  exact ⟨hg, levelAt_levelIns_same ..⟩

/-- What a source shows once the edge is entered it shows with the edge entered for later configurations too. -/
theorem ShowsEdge.pinLevel {b : Bool} {i pin : Nat} (h : (s.srcLevel i p b).ShowsEdge p b k) : (s.pinLevel i pin p b).ShowsEdge p b k := by
  unfold State.pinLevel
  refine List.foldlRecOn (motive := fun x : State => x.ShowsEdge p b k) _ _ h fun x hx c hc => hx.srcLevel ?_
  have hpc := (List.mem_filter.mp (List.mem_reverse.mp hc)).2
  rw [Bool.and_eq_true, Nat.blt_eq] at hpc
  exact Nat.le_of_lt hpc.2

/-- The pin's level by an edge at p, for source k, which is in no gap any more. -/
def edgeLevel (s : State) (k pin p : Nat) (rising : Bool) : State := (s.updSrc k fun x => { x with gap := false }).pinLevel k pin p rising

/-- What an edge at p does to a source of the pin under its configuration. -/
def edgeAt (pin p : Nat) (rising : Bool) (s : State) (kc : Nat × SrcCfg) : State :=
  if (kc.2.dir = 0 && rising) || (kc.2.dir = 1 && !rising) || kc.2.dir = 2 then
    ((s.edgeLevel kc.1 pin p rising).updSrc kc.1 fun x => x.updRun kc.2.since fun r => { r with afterGap := false }).issue kc.1
      kc.2.holdoff p (2 * b2n kc.2.st.afterGap)
  else s.edgeLevel kc.1 pin p rising

theorem ShowsEdge.edgeLevel {b : Bool} {i pin : Nat} (h : s.ShowsEdge p b k) : (s.edgeLevel i pin p b).ShowsEdge p b k :=
  ((h.updSrc (f := fun x => { x with gap := false }) (fun _ _ => rfl) fun _ => rfl).srcLevel (Nat.le_refl p)).pinLevel

/-- The source itself shows the edge. -/
theorem showsEdge_edgeLevel {b : Bool} {pin : Nat} (hk : k < s.trig.sources.length) : (s.edgeLevel k pin p b).ShowsEdge p b k := by
  refine (showsEdge_srcLevel (s := s.updSrc k fun x => { x with gap := false }) ?_ ?_).pinLevel
  · rw [updSrc_trig]; simpa using hk
  · rw [src_updSrc_same _ hk]

theorem showsEdge_of_edgeLevel {b : Bool} {pin : Nat} {kc : Nat × SrcCfg} (h : (s.edgeLevel kc.1 pin p b).ShowsEdge p b k) :
    (edgeAt pin p b s kc).ShowsEdge p b k := by
  unfold edgeAt
  split
  · exact (h.updSrc (f := fun x => x.updRun kc.2.since fun r => { r with afterGap := false }) (fun _ hx => hx) fun _ => rfl).issue
  · exact h

end State

/-- Between `s` and `t` an edge has reached sources of a pin. -/
structure EdgeFrame (s t : State) : Prop where
  frame : TrigFrame sourceKeys s t
  length : t.trig.sources.length = s.trig.sources.length
  inLevel : t.trig.inLevel = s.trig.inLevel

theorem inputKeys_subset {k : Nat} (hk : k < 32) : inputKeys k ⊆ sourceKeys := by
  intro q hq
  refine List.mem_flatMap.mpr ⟨k, List.mem_range.mpr hk, ?_⟩
  rw [inputKeys, List.mem_cons, List.mem_cons, List.mem_cons, List.mem_singleton] at hq
  obtain rfl | rfl | rfl | rfl := hq <;> simp

namespace EdgeFrame

variable {s t u : State} {k : Nat}

theorem refl (s : State) : EdgeFrame s s := ⟨.refl .., rfl, rfl⟩

theorem updSrc (f : Source → Source) (h : EdgeFrame s t) : EdgeFrame s (t.updSrc k f) :=
  ⟨h.frame.updSrc .., (List.length_modify ..).trans h.length, h.inLevel⟩

theorem wr {q : Nat} (v : Nat) (h : EdgeFrame s t) (hk : k < 32) (hq : q ∈ inputKeys k) : EdgeFrame s (t.wr q v) :=
  ⟨h.frame.wr v (inputKeys_subset hk hq), h.length, h.inLevel⟩

theorem srcLevel (p : Nat) (b : Bool) (h : EdgeFrame s t) (hk : k < 32) : EdgeFrame s (t.srcLevel k p b) :=
  (h.updSrc _).wr _ hk (by simp [inputKeys])

theorem issue (holdoff p flags : Nat) (h : EdgeFrame s t) (hk : k < 32) : EdgeFrame s (t.issue k holdoff p flags) := by
  rcases t.issue_cases k holdoff p flags with he | he | he <;> rw [he]
  · exact h
  · exact h.wr _ hk (by simp [inputKeys])
  · unfold State.issueNow
    obtain ⟨l, hl⟩ := State.offerEvent_eq (((t.updSrc k fun x => { x with lastEvent := some p }).wr (Obj.TRIG_SRC_EVENTS k)
      (t.rd (Obj.TRIG_SRC_EVENTS k) + 1)).wr (Obj.TRIG_SRC_LAST k) (p / 65536)) 0 ⟨p, 2 + k, flags⟩
    have hw := ((h.updSrc (k := k) fun x => { x with lastEvent := some p }).wr (t.rd (Obj.TRIG_SRC_EVENTS k) + 1) hk
      (q := Obj.TRIG_SRC_EVENTS k) (by simp [inputKeys])).wr (p / 65536) hk (q := Obj.TRIG_SRC_LAST k) (by simp [inputKeys])
    rw [hl]
    exact ⟨hw.frame.withTrig _, hw.length, hw.inLevel⟩

theorem edgeAt (pin p : Nat) (b : Bool) {kc : Nat × SrcCfg} (h : EdgeFrame s t) (hk : kc.1 < 32) : EdgeFrame s (t.edgeAt pin p b kc) := by
  have hl : EdgeFrame s (t.edgeLevel kc.1 pin p b) :=
    List.foldlRecOn (motive := EdgeFrame s) _ _ ((h.updSrc _).srcLevel p b hk) fun _ hx _ _ => hx.srcLevel _ _ hk
  unfold State.edgeAt
  split
  · exact (hl.updSrc _).issue _ _ _ hk
  · exact hl

end EdgeFrame

namespace State

variable {s t : State} {k p : Nat}

theorem sourcesOf_lt {kind label : Nat} {test : Nat → Bool} {kc : Nat × SrcCfg} (h : kc ∈ s.sourcesOf kind label test) : kc.1 < 32 := by
  obtain ⟨k, hk, he⟩ := List.mem_filterMap.mp h
  split at he
  · split at he
    · cases he; exact List.mem_range.mp hk
    · cases he
  · cases he

/-- An edge that reaches every source of a list is shown by each of them. -/
theorem edges_shown (pin p : Nat) (b : Bool) (l : List (Nat × SrcCfg)) (s : State) (hl : ∀ kc ∈ l, kc.1 < 32)
    (hn : s.trig.sources.length = 32) :
    EdgeFrame s (l.foldl (edgeAt pin p b) s) ∧ ∀ kc ∈ l, (l.foldl (edgeAt pin p b) s).ShowsEdge p b kc.1 := by
  refine ⟨List.foldlRecOn (motive := EdgeFrame s) _ _ (.refl s) fun _ hx kc hkc => hx.edgeAt _ _ _ (hl kc hkc), ?_⟩
  induction l generalizing s with
  | nil => exact fun _ h => absurd h List.not_mem_nil
  | cons a l ih =>
    have ha := hl a List.mem_cons_self
    intro kc hkc
    rw [List.foldl_cons]
    rcases List.mem_cons.mp hkc with rfl | hkc
    · exact List.foldlRecOn (motive := fun x : State => x.ShowsEdge p b kc.1) _ _
        (showsEdge_of_edgeLevel (showsEdge_edgeLevel (hn ▸ ha))) fun _ hx _ _ => showsEdge_of_edgeLevel hx.edgeLevel
    · exact ih _ (fun x hx => hl x (List.mem_cons_of_mem _ hx)) (((EdgeFrame.refl s).edgeAt pin p b ha).length.trans hn) kc hkc

/-- The clause of R127: an edge that is stamped, the queue of stamps holding those of the last 1 µs (log entry 12). -/
theorem trigInEdge_stamps {pin x : Nat} {rising : Bool} (hsz : s.Sized) (hpin : pin < 4) (hlock : s.masterLocked = true)
    (hp : posOf s.tick + x % 16 * 4096 - inDelay (s.rd (Obj.TRIG_IN_DELAY pin)) = p) (hsrc : s.pinSources pin (p / 65536) ≠ [])
    (hroom : ((at' s.trig.stamps pin).filter fun t => Nat.blt s.tick (t + 32000)).length < 64) :
    ∃ t, exec (.trigInEdge pin rising x) s = .next t ∧ t.trig.inLevel = s.trig.inLevel.set pin rising ∧
      (∀ kc ∈ s.pinSources pin (p / 65536), (t.src kc.1).gap = false ∧ levelAt p (t.src kc.1).levels = rising) ∧
      t.rest = { s.rest with trig := t.trig } ∧ t.sess = s.sess ∧ t.log = s.log ∧ s.only t sourceKeys := by
  obtain ⟨st, hst⟩ : ∃ st, s.trig.stamps.set pin (s.tick :: (at' s.trig.stamps pin).filter fun t => Nat.blt s.tick (t + 32000)) = st := ⟨_, rfl⟩
  obtain ⟨y, hy⟩ : ∃ y : State, { s with trig := { s.trig with stamps := st, inLevel := s.trig.inLevel.set pin rising } } = y := ⟨_, rfl⟩
  have hsy : TrigFrame sourceKeys s y := hy ▸ (TrigFrame.refl ..).withTrig _
  obtain ⟨hframe, hshown⟩ := edges_shown pin p rising (s.pinSources pin (p / 65536)) y (fun _ => sourcesOf_lt)
    (hy ▸ hsz.sources_length)
  have hblt : Nat.blt pin 4 = true := by rw [Nat.blt_eq]; exact hpin
  have hble : Nat.ble 64 ((at' s.trig.stamps pin).filter fun t => Nat.blt s.tick (t + 32000)).length = false := by
    rw [← Bool.not_eq_true, Nat.ble_eq]; omega
  have hexec : exec (.trigInEdge pin rising x) s = Machine.done s ((s.pinSources pin (p / 65536)).foldl (edgeAt pin p rising) y) := by
    show execTrigInEdge pin rising x s = _
    unfold execTrigInEdge
    extract_lets held p'
    subst hp hst hy
    rw [hlock, hblt, List.isEmpty_eq_false_iff.mpr hsrc, if_neg (by decide), hble, if_neg (by decide)]
    rfl
  have hsx := hsy.trans hframe.frame
  exact ⟨_, hexec.trans hsx.done, hframe.inLevel.trans (hy ▸ rfl), hshown, hsx.rest, hsx.sess, hsx.log, hsx.only⟩

/-! ### Time occurrences and twin marks (R128) -/

/-- The clause of R128: an occurrence that is reached. -/
theorem trigTimeEvent_issues {n : Nat} {c : SrcCfg} (hsz : s.Sized) (hk : k < 32) (hnext : (s.src k).nextTime = some n)
    (hcfg : (s.src k).cfgAt s.tick = some c) (hkind : c.kind = 5) (hn : n ≤ s.tick) (hlast : (s.src k).lastEvent = none)
    (hrun : s.pwr.suspended = false) :
    ∃ t, exec (.trigTimeEvent k) s = .next t ∧ t.rd (Obj.TRIG_SRC_EVENTS k) = s.rd (Obj.TRIG_SRC_EVENTS k) + 1 ∧
      t.rd (Obj.TRIG_SRC_LAST k) = n ∧ (t.src k).nextTime = (if c.timePeriod = 0 then none else some (n + c.timePeriod)) ∧
      (∀ i, i ≠ k → t.src i = s.src i) ∧ t.rest = { s.rest with trig := t.trig } ∧ t.sess = s.sess ∧ t.log = s.log ∧
      s.only t [Obj.TRIG_SRC_STATE k, Obj.TRIG_SRC_EVENTS k, Obj.TRIG_SRC_LAST k] := by
  have hlen : k < s.trig.sources.length := by rw [hsz.sources_length]; exact hk
  obtain ⟨y, hy⟩ : ∃ y, (s.updSrc k fun x => { x with nextTime := if c.timePeriod = 0 then none else some (n + c.timePeriod) }).srcLevel k
    (posOf n) true = y := ⟨_, rfl⟩
  have hsrc : y.src k = { s.src k with
      nextTime := if c.timePeriod = 0 then none else some (n + c.timePeriod), levels := levelIns (posOf n) true (s.src k).levels } := by
    subst hy
    refine (src_updSrc_same (fun x => { x with levels := levelIns (posOf n) true x.levels }) ?_).trans ?_
    · rw [updSrc_trig]; simpa using hlen
    · rw [src_updSrc_same _ hlen]
  have hother (i : Nat) (hi : i ≠ k) : y.src i = s.src i := by
    subst hy; exact (src_updSrc_other _ hi).trans (src_updSrc_other _ hi)
  have hsy : TrigFrame [Obj.TRIG_SRC_STATE k, Obj.TRIG_SRC_EVENTS k, Obj.TRIG_SRC_LAST k] s y :=
    hy ▸ (((TrigFrame.refl _ s).updSrc ..).updSrc ..).wr _ List.mem_cons_self
  have hyt : Issued k (posOf n) y (y.issue k c.holdoff (posOf n) 0) := issued (by rw [hsrc]; exact hlast) (by rw [← hy]; exact hrun)
  have hexec : exec (.trigTimeEvent k) s = Machine.done s (y.issue k c.holdoff (posOf n) 0) := by
    have hble : (decide (c.kind = 5) && Nat.ble n s.tick) = true := by simp [hkind, hn]
    show execTrigTimeEvent k s = _
    unfold execTrigTimeEvent
    rw [hnext, hcfg]
    subst hy
    exact congrArg (Machine.done s) (if_pos hble)
  have hst := hsy.trans (hyt.frame.mono (List.subset_cons_self ..))
  refine ⟨_, hexec.trans hst.done, ?_, ?_, ?_, fun i hi => (hyt.other i hi).trans (hother i hi), hst.rest, hst.sess, hst.log, hst.only⟩
  · rw [hyt.events, ← hy]
    refine congrArg (· + 1) (rd_wr_other _ _ _ _ ?_)
    unfold Obj.TRIG_SRC_EVENTS Obj.TRIG_SRC_STATE key; omega
  · rw [hyt.last]; exact Nat.mul_div_cancel n (by decide)
  · rw [hyt.nextTime, hsrc]

/-- The clause of R128: a mark of the twin at or above the horizon. -/
theorem twinMarkReceive_issues {q posTick posFine : Nat} {c : SrcCfg} (hpair : s.paired = true)
    (hsrc : (s.sourcesOf 6 posTick fun i => i == q) = [(k, c)]) (hpos : s.tick - 640000 ≤ posTick) (hlast : (s.src k).lastEvent = none)
    (hrun : s.pwr.suspended = false) :
    ∃ t, exec (.twinMarkReceive q posTick posFine) s = .next t ∧
      t.rd (Obj.TRIG_SRC_EVENTS k) = s.rd (Obj.TRIG_SRC_EVENTS k) + 1 ∧ t.rd (Obj.TRIG_SRC_LAST k) = posTick ∧
      (∀ i, i ≠ k → t.src i = s.src i) ∧ t.rest = { s.rest with trig := t.trig } ∧ t.sess = s.sess ∧ t.log = s.log ∧
      s.only t [Obj.TRIG_SRC_EVENTS k, Obj.TRIG_SRC_LAST k] := by
  have hle : Nat.ble (posOf (s.tick - 640000)) (posOf posTick + posFine % 65536) = true := by
    rw [Nat.ble_eq]; exact (Nat.mul_le_mul_right 65536 hpos).trans (Nat.le_add_right ..)
  have hst : Issued k (posOf posTick + posFine % 65536) s _ := issued (holdoff := c.holdoff) (flags := 16) hlast hrun
  have hexec : exec (.twinMarkReceive q posTick posFine) s =
      Machine.done s (s.issue k c.holdoff (posOf posTick + posFine % 65536) 16) := by
    show execTwinMarkReceive q posTick posFine s = _
    unfold execTwinMarkReceive
    rw [hpair, if_neg (by decide)]
    dsimp only
    rw [hsrc, List.foldl_cons, List.foldl_nil, if_pos hle]
  refine ⟨_, hexec.trans hst.frame.done, hst.events, ?_, hst.other, hst.frame.rest, hst.frame.sess, hst.frame.log, hst.frame.only⟩
  rw [hst.last]
  unfold posOf
  omega

/-! ### Forced events (R128) -/

/-- Where no forced event waits none is released. -/
theorem releaseForced_none (h : ∀ i, i < 32 → (s.src i).forced = []) : s.releaseForced = s := by
  unfold releaseForced
  refine List.foldlRecOn (motive := fun x => x = s) _ _ rfl ?_
  rintro _ rfl i hi
  unfold forcedUpTo
  rw [h i (List.mem_range.mp hi)]
  rfl

/-- The clause of R128: an event that is forced now. -/
theorem trigSrcForce_issues {sess tag : Nat} (hs : s.serves sess tag (Obj.TRIG_SRC_FORCE k) 0 = true)
    (hkind : s.rd (Obj.TRIG_SRC_KIND k) = 7) (hforced : ∀ i, i < 32 → (s.src i).forced = []) (hlast : (s.src k).lastEvent = none)
    (hrun : s.pwr.suspended = false) :
    ∃ t, exec (.trigSrcForce sess tag k 0) s = .next t ∧ s.replied t sess tag (Obj.TRIG_SRC_FORCE k) .ok ∧
      t.rd (Obj.TRIG_SRC_EVENTS k) = s.rd (Obj.TRIG_SRC_EVENTS k) + 1 ∧ t.rd (Obj.TRIG_SRC_LAST k) = s.tick ∧
      (∀ i, i ≠ k → t.src i = s.src i) ∧ t.rest = { s.rest with trig := t.trig } ∧ t.log = s.log ∧
      s.only t [Obj.TRIG_SRC_EVENTS k, Obj.TRIG_SRC_LAST k] := by
  have hy : Issued k (posOf s.tick) (s.hear sess) _ := issued (holdoff := s.rd (Obj.TRIG_SRC_HOLDOFF k)) (flags := 64) hlast hrun
  obtain ⟨t, ht, hrep, htrig, hobj, hrest, hlog, honly⟩ := direct_trig (body := forceSource k 0) hs hy.frame (by
    unfold forceSource
    rw [releaseForced_none (s := s.hear sess) hforced]
    dsimp only
    rw [hear_rd, hkind, if_neg (by decide)]
    exact if_pos rfl)
  refine ⟨t, ht, hrep, (rd_of_obj hobj _).trans hy.events, ?_, fun i hi => (src_of_trig htrig i).trans (hy.other i hi), hrest, hlog, honly⟩
  rw [rd_of_obj hobj, hy.last]
  exact Nat.mul_div_cancel _ (by decide)

end State

/-- Settles O7: each clause is the lemma of its event. -/
theorem triggerSourceEvents : Obligations.TriggerSourceEvents := by
  unfold Obligations.TriggerSourceEvents
  refine ⟨?_, ?_, ?_, ?_⟩
  · exact fun s pin x rising hsz hpin hlock hsrc hroom => State.trigInEdge_stamps hsz hpin hlock rfl hsrc hroom
  · exact fun s k n c hsz hk hnext hcfg hkind hn hlast hrun => State.trigTimeEvent_issues hsz hk hnext hcfg hkind hn hlast hrun
  · exact fun s q k posTick posFine c _ hpair hsrc hpos hlast hrun => State.twinMarkReceive_issues hpair hsrc hpos hlast hrun
  · exact fun s sess tag k _ _ hs hkind hforced hlast hrun => State.trigSrcForce_issues hs hkind hforced hlast hrun

end Sys2Proof.Machine

/-! ## Marks, pulses and positions (R130 to R147)

What a sequencer's work on a position and a group's firing leave alone; one lemma per operation, each following the operation's own
text. -/

namespace Sys2Proof.Machine

set_option Elab.async false

namespace Downstream

variable {s0 s : State}

theorem updGrp {i : Nat} {f : Group → Group} (hs : Downstream s0 s) : Downstream s0 (s.updGrp i f) := hs.same rfl rfl rfl
theorem updOut {i : Nat} {f : OutPin → OutPin} (hs : Downstream s0 s) : Downstream s0 (s.updOut i f) := hs.same rfl rfl rfl
theorem updCap {i : Nat} {f : Capture → Capture} (hs : Downstream s0 s) : Downstream s0 (s.updCap i f) := hs.same rfl rfl rfl

theorem offerEvent {n : Nat} {e : TEvent} (hs : Downstream s0 s) : Downstream s0 (s.offerEvent n e) := by
  obtain ⟨l, h⟩ := s.offerEvent_eq n e
  rw [h]; exact hs.same rfl rfl rfl

theorem trans {t : State} (hs : Downstream s0 s) (ht : Downstream s t) : Downstream s0 t := hs.same ht.control ht.chans ht.tuners

end Downstream

namespace State

theorem side_trig (s : State) (h : Nat) (r : Record) : (s.side h r).trig = s.trig := by
  unfold side; split <;> rfl

/-- A record that enters a flow changes flows, and the records that a standby holds for them. -/
theorem enter_eq (s : State) (f : Nat) (r : Record) : ∃ x y, s.enter f r = { s with flows := x, twin := y } := by
  have hm : ∃ x y, s.enterMirrored f = { s with flows := x, twin := y } := by
    unfold enterMirrored
    extract_lets due z
    have hz : ∃ x, z = { s with flows := x } := by
      refine List.foldlRecOn (motive := fun z : State => ∃ x, z = { s with flows := x }) _ _ ⟨s.flows, rfl⟩ ?_
      rintro _ ⟨x, rfl⟩ e _
      exact ⟨_, rfl⟩
    clear_value z
    obtain ⟨x, rfl⟩ := hz
    split
    · exact ⟨s.flows, s.twin, rfl⟩
    · exact ⟨x, _, rfl⟩
  unfold enter
  obtain ⟨x, y, h⟩ := hm
  rw [h]
  dsimp only
  split_ifs
  · exact ⟨x, y, rfl⟩
  · exact ⟨_, y, rfl⟩
  · exact ⟨x, y, rfl⟩

theorem enterAll_trig (s : State) (fs : List Nat) (r : Record) : (s.enterAll fs r).trig = s.trig :=
  foldl_same State.trig _ (fun s f => by obtain ⟨x, y, h⟩ := s.enter_eq f r; rw [h]) fs s

theorem enterAll_obj (s : State) (fs : List Nat) (r : Record) : (s.enterAll fs r).obj = s.obj :=
  foldl_same State.obj _ (fun s f => by obtain ⟨x, y, h⟩ := s.enter_eq f r; rw [h]) fs s

end State

/-- Between `s` and `t` marks and pulses were formed and sequencer q worked on positions of its own: it has received no event, no source
has changed, no group has been armed or disarmed, and the objects named read as before. -/
structure TrigWork (q : Nat) (keys : List Nat) (s t : State) : Prop where
  down : Downstream s t
  sources : t.trig.sources = s.trig.sources
  armed : ∀ g, (t.grp g).armed = (s.grp g).armed
  pend : (t.seqr q).pend ⊆ (s.seqr q).pend
  doneTo : (s.seqr q).doneTo ≤ (t.seqr q).doneTo
  kept : ∀ k ∈ keys, t.rd k = s.rd k

/-- The objects named are those of arming groups, none of which a mark or a pulse writes. -/
def GroupObjects (keys : List Nat) : Prop := ∀ k ∈ keys, 0x4B0000 ≤ k ∧ k < 0x4B4000

theorem groupObjects_nil : GroupObjects [] := fun _ h => absurd h List.not_mem_nil

/-- An object beyond the groups' is none of them. -/
theorem GroupObjects.notMem {keys : List Nat} {k : Nat} (h : GroupObjects keys) (hk : 0x4B4000 ≤ k) : k ∉ keys := fun hm => by
  have := (h k hm).2
  omega

namespace TrigWork

variable {q : Nat} {keys : List Nat} {s t u : State}

theorem refl (q : Nat) (keys : List Nat) (s : State) : TrigWork q keys s s :=
  ⟨.refl s, rfl, fun _ => rfl, List.Subset.refl _, Nat.le_refl _, fun _ _ => rfl⟩

theorem trans (h : TrigWork q keys s t) (h' : TrigWork q keys t u) : TrigWork q keys s u where
  down := h.down.trans h'.down
  sources := h'.sources.trans h.sources
  armed g := (h'.armed g).trans (h.armed g)
  pend := List.Subset.trans h'.pend h.pend
  doneTo := Nat.le_trans h.doneTo h'.doneTo
  kept k hk := (h'.kept k hk).trans (h.kept k hk)

/-- An operation outside triggering. -/
theorem ofTrig (h : TrigWork q keys s t) (hd : Downstream t u) (ht : u.trig = t.trig) (hk : ∀ k ∈ keys, u.rd k = t.rd k) :
    TrigWork q keys s u :=
  h.trans ⟨hd, congrArg Trig.sources ht, fun g => congrArg Group.armed (State.grp_of_trig ht g),
    by rw [State.seqr_of_trig ht]; exact List.Subset.refl _, by rw [State.seqr_of_trig ht], hk⟩

theorem ite {c : Prop} [Decidable c] (h : TrigWork q keys s t) (h' : TrigWork q keys s u) : TrigWork q keys s (if c then t else u) := by
  split
  · exact h
  · exact h'

theorem foldl {α : Type} {f : State → α → State} {l : List α} (h : TrigWork q keys s t)
    (hf : ∀ x a, TrigWork q keys s x → TrigWork q keys s (f x a)) : TrigWork q keys s (l.foldl f t) :=
  List.foldlRecOn l f h fun x hx a _ => hf x a hx

/-- The state of a pair that an operation answers. -/
theorem of_eq {α : Type} {p : State × α} {x : α} (h : TrigWork q keys s p.1) (e : p = (t, x)) : TrigWork q keys s t := by
  subst e; exact h

theorem wr {k v : Nat} (h : TrigWork q keys s t) (hk : k ∉ keys) : TrigWork q keys s (t.wr k v) :=
  h.ofTrig (.wr (.refl t)) rfl fun _ hm => State.rd_wr_other _ _ _ _ (ne_of_mem_of_not_mem hm hk)

theorem used {n : Nat} (h : TrigWork q keys s t) : TrigWork q keys s (t.used n) := h.ofTrig (.used (.refl t)) rfl fun _ _ => rfl

theorem updOut {i : Nat} {f : OutPin → OutPin} (h : TrigWork q keys s t) : TrigWork q keys s (t.updOut i f) :=
  h.trans ⟨.updOut (.refl t), rfl, fun _ => rfl, List.Subset.refl _, Nat.le_refl _, fun _ _ => rfl⟩

theorem updCap {i : Nat} {f : Capture → Capture} (h : TrigWork q keys s t) : TrigWork q keys s (t.updCap i f) :=
  h.trans ⟨.updCap (.refl t), rfl, fun _ => rfl, List.Subset.refl _, Nat.le_refl _, fun _ _ => rfl⟩

theorem updGrp {i : Nat} {f : Group → Group} (h : TrigWork q keys s t) (hf : ∀ x, (f x).armed = x.armed) :
    TrigWork q keys s (t.updGrp i f) :=
  h.trans ⟨.updGrp (.refl t), rfl, fun g => at'_modify_cases (fun x : Group => x.armed = (t.grp g).armed) rfl (hf _),
    List.Subset.refl _, Nat.le_refl _, fun _ _ => rfl⟩

/-- A change of a sequencer's record that puts no event in its queue. -/
theorem updSeqr {i : Nat} {f : Seqr → Seqr} (h : TrigWork q keys s t) (hf : ∀ x, (f x).pend ⊆ x.pend) (hd : ∀ x, x.doneTo ≤ (f x).doneTo) :
    TrigWork q keys s (t.updSeqr i f) :=
  h.trans ⟨.updSeqr (.refl t), rfl, fun _ => rfl,
    at'_modify_cases (fun x : Seqr => x.pend ⊆ (t.seqr q).pend) (List.Subset.refl _) (hf _),
    at'_modify_cases (fun x : Seqr => (t.seqr q).doneTo ≤ x.doneTo) (Nat.le_refl _) (hd _), fun _ _ => rfl⟩

/-- An event that is offered to sequencers above q alone. -/
theorem offerEvent {n : Nat} {e : TEvent} (h : TrigWork q keys s t) (hn : q < n) : TrigWork q keys s (t.offerEvent n e) := by
  have hs : (t.offerEvent n e).seqr q = t.seqr q := State.offerEvent_seqr t e hn
  obtain ⟨l, hl⟩ := t.offerEvent_eq n e
  refine h.trans ⟨.offerEvent (.refl t), (congrArg (fun x : State => x.trig.sources) hl :),
    fun g => (congrArg (fun x : State => (x.grp g).armed) hl :), ?_, ?_, fun _ _ => State.offerEvent_rd ..⟩
  · rw [hs]; exact List.Subset.refl _
  · rw [hs]

section

variable (hk : GroupObjects keys)

include hk

theorem event {c i e a b d : Nat} (h : TrigWork q keys s t) : TrigWork q keys s (t.event c i e a b d) :=
  h.ofTrig (.event (.refl t)) (congrArg State.trig (State.event_rest t c i e a b d) :) fun k hm => State.event_rd _ _ _ _ _ _ _ _ <| by
    have := hk k hm
    exact eventKey_eq_false (by omega) fun i => by omega

/-! ### Marks (R142, R143) -/

theorem captureTrigger {i p : Nat} {r : Record} (h : TrigWork q keys s t) : TrigWork q keys s (t.captureTrigger i p r) := by
  have hst : Obj.TRIG_CAP_STATE i ∉ keys := hk.notMem (by unfold Obj.TRIG_CAP_STATE key; omega)
  have hig : Obj.TRIG_CAP_IGNORED i ∉ keys := hk.notMem (by unfold Obj.TRIG_CAP_IGNORED key; omega)
  unfold State.captureTrigger
  exact h.ite <| (h.wr hig).ite (h.updCap.wr hst)

/-- A mark reaches the sequencers above its origin alone. -/
theorem emitMark {origin tuners p supp : Nat} {m : MarkFields} (h : TrigWork q keys s t) (hq : q ≤ origin) :
    TrigWork q keys s (t.emitMark origin tuners p supp m) := by
  have hid : Obj.TRIG_MARK_ID ∉ keys := hk.notMem (by decide)
  unfold State.emitMark
  extract_lets _ _ r x1 x2 x3 x4
  have h1 : TrigWork q keys s x1 := h.wr hid
  have h2 : TrigWork q keys s x2 := h1.foldl fun y i hy => hy.ofTrig (.side (.refl y)) (y.side_trig i r) fun k hm => by
    unfold State.side
    split
    · exact State.rd_wr_other _ _ _ _ (ne_of_mem_of_not_mem hm (hk.notMem (by unfold Obj.RSV_HIST_SIDE_OLDEST key; omega)))
    · rfl
  have h3 : TrigWork q keys s x3 := h2.ofTrig (.enterAll (.refl x2)) (State.enterAll_trig ..) fun _ _ => State.rd_of_obj (State.enterAll_obj ..) _
  have h4 : TrigWork q keys s x4 := h3.foldl fun _ _ hy => (hy.captureTrigger hk).ite hy
  exact (h4.offerEvent (by omega)).ite h4

theorem withhold {origin k supp : Nat} {alerted : Bool} (h : TrigWork q keys s t) (hn : k ∉ keys) :
    TrigWork q keys s (t.withhold origin k supp alerted) := by
  have hd : Obj.TRIG_MARK_DROP_ALL ∉ keys := hk.notMem (by decide)
  have hc : TrigWork q keys s ((t.count k).count Obj.TRIG_MARK_DROP_ALL) := (h.wr hn).wr hd
  unfold State.withhold
  exact hc.ite (hc.event hk)

theorem grpMark {g p : Nat} {m : MarkFields} (h : TrigWork q keys s t) (hq : q ≤ 16) (hg : Obj.TRIG_GRP_IGNORED g ∉ keys) :
    TrigWork q keys s (t.grpMark g p m) := by
  unfold State.grpMark
  exact ((h.updGrp fun _ => by rfl).emitMark hk (by omega)).ite ((h.updGrp fun _ => by rfl).withhold hk hg)

/-! ### Pulses (R146) -/

theorem requestPulse {p n : Nat} (h : TrigWork q keys s t) : TrigWork q keys s (t.requestPulse p n) := by
  have hl : Obj.TRIG_OUT_LATE n ∉ keys := hk.notMem (by unfold Obj.TRIG_OUT_LATE key; omega)
  unfold State.requestPulse
  split
  exact (h.used.updOut.wr hl).ite h.used.updOut

theorem requestPulses {p mask : Nat} (h : TrigWork q keys s t) : TrigWork q keys s (t.requestPulses p mask) := by
  unfold State.requestPulses; exact h.foldl fun _ _ hx => hx.requestPulse hk

end

/-! ### A sequencer's work on a position (R132 to R137) -/

theorem wrAny {k v : Nat} (h : TrigWork q [] s t) : TrigWork q [] s (t.wr k v) := h.wr List.not_mem_nil

theorem seqMark {p : Nat} {m : MarkFields} (h : TrigWork q [] s t) : TrigWork q [] s (t.seqMark q p m) := by
  have hsame {f : Seqr → Seqr} (hp : ∀ x, (f x).pend = x.pend) (hd : ∀ x, (f x).doneTo = x.doneTo) :
      TrigWork q [] s (t.updSeqr q f) :=
    h.updSeqr (fun x => by rw [hp]; exact List.Subset.refl _) fun x => by rw [hd]
  unfold State.seqMark
  exact ((hsame (fun _ => by rfl) fun _ => by rfl).wrAny.wrAny.emitMark groupObjects_nil (Nat.le_refl q)).ite
    ((hsame (fun _ => by rfl) fun _ => by rfl).withhold groupObjects_nil List.not_mem_nil)

theorem groupAction {p : Nat} {e : TEvent} (h : TrigWork q [] s t) : TrigWork q [] s (t.groupAction q p e) := by
  unfold State.groupAction
  exact h.foldl fun _ _ hx => hx.ite <| (hx.updGrp fun _ => by rfl).ite <| (hx.updGrp fun _ => by rfl).ite hx

theorem counterActions {p w : Nat} (h : TrigWork q [] s t) : TrigWork q [] s (t.counterActions q p w).1 := by
  unfold State.counterActions
  exact List.foldlRecOn (motive := fun x : State × List TEvent => TrigWork q [] s x.1) _ _ (h.foldl fun _ _ hx => hx.wrAny)
    fun _ hx _ _ => hx.wrAny

theorem startTimers {p w : Nat} (h : TrigWork q [] s t) : TrigWork q [] s (t.startTimers q p w) := by
  unfold State.startTimers
  exact h.foldl fun _ _ hx => (hx.updSeqr (fun _ => by exact List.filter_subset_self _) fun _ => by exact Nat.le_refl _).wrAny

theorem takeSlot {p k : Nat} {e : TEvent} {rest : List TEvent} (h : TrigWork q [] s t) : TrigWork q [] s (t.takeSlot q p k e rest).1 := by
  unfold State.takeSlot
  extract_lets
  split
  next x _ eq =>
    have hx : TrigWork q [] s x := h.counterActions.of_eq eq
    extract_lets x1 _ _ x2
    have h1 : TrigWork q [] s x1 := hx.startTimers
    have h2 : TrigWork q [] s x2 := (h1.seqMark.ite h1).requestPulses groupObjects_nil
    exact (h2.groupAction.ite h2).wrAny

theorem initSeq (h : TrigWork q [] s t) : TrigWork q [] s (t.initSeq q) := by
  unfold State.initSeq
  exact ((h.updSeqr (fun _ => by exact List.filter_subset_self _) fun _ => by exact Nat.le_refl _).foldl fun _ _ hx => hx.wrAny.wrAny).wrAny.wrAny

theorem resumeSeq {p : Nat} (h : TrigWork q [] s t) : TrigWork q [] s (t.resumeSeq q p) := by
  unfold State.resumeSeq
  exact (h.updSeqr (fun _ => by exact List.filter_subset_self _) fun _ => by exact Nat.le_max_left ..).initSeq

theorem haltSeq (h : TrigWork q [] s t) : TrigWork q [] s (t.haltSeq q) := by
  unfold State.haltSeq
  extract_lets again x x1
  have h1 : TrigWork q [] s x1 := (h.foldl fun _ _ hx => hx.wrAny).wrAny.wrAny.event groupObjects_nil
  clear_value again
  split
  · exact h1.resumeSeq
  · exact h1.updSeqr (fun _ => by exact List.filter_subset_self _) fun _ => by exact Nat.le_refl _

theorem runEvents {fuel p n : Nat} {taken : Bool} {rest : List TEvent} (h : TrigWork q [] s t) :
    TrigWork q [] s (State.runEvents fuel t q p n taken rest) := by
  induction fuel generalizing t n taken rest with
  | zero => exact h
  | succ fuel ih =>
    have taking {k : Nat} {e : TEvent} {l : List TEvent} : TrigWork q [] s (if n = 8 then t.haltSeq q else
        match t.takeSlot q p k e l with
        | (x, rest) => State.runEvents fuel x q p (n + 1) true rest) := by
      refine h.haltSeq.ite ?_
      split
      next x _ eq => exact ih (h.takeSlot.of_eq eq)
    unfold State.runEvents
    refine h.ite ?_
    split
    · exact taking
    · split
      · exact h
      · split
        · exact ih h
        · exact taking

end TrigWork

end Sys2Proof.Machine

/-! ## Sequencers (R132, R135, R137, R138): O8 -/

namespace Sys2Proof.Machine

set_option Elab.async false

namespace State

variable {s x : State} {q p : Nat}

/-! ### A position (R132) -/

/-- Position p is taken: nothing waits at it and it lies below what is done, whatever the events at it do. -/
theorem seqAt_done (hq : q < s.trig.seqs.length) :
    Downstream s (s.seqAt q p) ∧ (s.seqAt q p).trig.sources = s.trig.sources ∧ p < ((s.seqAt q p).seqr q).doneTo ∧
      ∀ e ∈ ((s.seqAt q p).seqr q).pend, e.pos ≠ p := by
  unfold seqAt
  extract_lets now y z evs w
  have hy : y.seqr q = { s.seqr q with pend := (s.seqr q).pend.filter fun e => e.pos != p, doneTo := p + 1 } := seqr_updSeqr_same _ hq
  have hyz : TrigWork q [] y z := (TrigWork.refl q [] y).initSeq.ite (.refl ..)
  have hyw : TrigWork q [] y w := hyz.updSeqr (fun _ => List.Subset.refl _) fun _ => Nat.le_refl _
  have hyt : TrigWork q [] y (State.runEvents (evs.length + 64) w q p 0 false evs) := hyw.runEvents
  refine ⟨(Downstream.updSeqr (.refl s)).trans hyt.down, hyt.sources, ?_, fun e he => ?_⟩
  · refine Nat.lt_of_succ_le (Nat.le_trans ?_ hyt.doneTo)
    rw [hy]
  · have hm := hyt.pend he
    rw [hy] at hm
    simpa using (List.mem_filter.mp hm).2

/-- The clause of R132: the lowest waiting position. -/
theorem seqPosition_takes {e : TEvent} {rest : List TEvent} (hsz : s.Sized) (hq : q < 16) (hforced : ∀ i, i < 32 → (s.src i).forced = [])
    (hrun : s.rd (Obj.TRIG_SEQ_RUN q) = 1) (hpend : (s.seqr q).pend = e :: rest)
    (hpos : e.pos ≤ min (s.seqLimit 16 q) (s.trigCap ⟨.sequencer, q⟩)) :
    ∃ t, exec (.seqPosition q) s = .next t ∧ e.pos < (t.seqr q).doneTo ∧ (∀ x ∈ (t.seqr q).pend, x.pos ≠ e.pos) ∧
      t.trig.sources = s.trig.sources ∧ t.chans = s.chans ∧ t.tuners = s.tuners ∧ t.control = s.control := by
  obtain ⟨hdown, hsrc, hdone, hgone⟩ := seqAt_done (p := e.pos) (show q < s.trig.seqs.length by rw [hsz.seqs_length]; exact hq)
  have hexec : exec (.seqPosition q) s = done s (s.seqAt q e.pos) := by
    show execSeqPosition q s = _
    unfold execSeqPosition
    rw [releaseForced_none hforced]
    dsimp only
    rw [hrun, if_neg (by decide), hpend]
    exact congrArg (done s) (if_pos (Nat.ble_eq.mpr hpos))
  exact ⟨_, hexec.trans (done_eq (congrArg State.wall hdown.control :) (congrArg State.pending hdown.control :)), hdone, hgone, hsrc,
    hdown.chans, hdown.tuners, hdown.control⟩

/-! ### A timer's expiry (R135) -/

/-- A timer that runs is one of the sequencer's. -/
theorem timer_lt {l : List (Option Nat)} {j e : Nat} (h : at' l j = some e) : j < l.length := by
  refine Nat.lt_of_not_le fun hle => ?_
  unfold at' at h
  rw [List.getD_eq_default _ _ hle] at h
  cases h

/-- The clause of R135: the expiry waits as an event, and a periodic timer runs on. -/
theorem trigTimerExpiry_waits {j e : Nat} (hsz : s.Sized) (hq : q < 16) (htimer : at' (s.seqr q).timers j = some e)
    (hrun : s.rd (Obj.TRIG_SEQ_RUN q) = 1) (he : e ≤ posOf s.tick) :
    ∃ t, exec (.trigTimerExpiry q j) s = .next t ∧ (t.seqr q).pend = eventIns ⟨e, 38 + j, 0⟩ (s.seqr q).pend ∧
      at' (t.seqr q).timers j = (if s.rd (Obj.TRIG_TMR_MODE q j) = 1 then some (e + posOf (s.rd (Obj.TRIG_TMR_PERIOD q j))) else none) ∧
      (∀ i, i ≠ q → t.seqr i = s.seqr i) ∧ t.rest = { s.rest with trig := t.trig } ∧ t.sess = s.sess ∧ t.log = s.log ∧
      s.only t [Obj.TRIG_TMR_EXPIRY q j] := by
  obtain ⟨next, hnext⟩ : ∃ next, (if s.rd (Obj.TRIG_TMR_MODE q j) = 1 then some (e + posOf (s.rd (Obj.TRIG_TMR_PERIOD q j))) else none) = next :=
    ⟨_, rfl⟩
  obtain ⟨y, hy⟩ : ∃ y, (s.updSeqr q fun x => { x with timers := x.timers.set j next, pend := eventIns ⟨e, 38 + j, 0⟩ x.pend }).wr
    (Obj.TRIG_TMR_EXPIRY q j) ((next.getD 0) / 65536 % 2 ^ 64) = y := ⟨_, rfl⟩
  have hsy : TrigFrame [Obj.TRIG_TMR_EXPIRY q j] s y := hy ▸ ((TrigFrame.refl _ s).updSeqr ..).wr _ List.mem_cons_self
  have hexec : exec (.trigTimerExpiry q j) s = done s y := by
    have hblt : Nat.blt (posOf s.tick) e = false := by rw [← Bool.not_eq_true, Nat.blt_eq]; omega
    show execTrigTimerExpiry q j s = _
    unfold execTrigTimerExpiry
    rw [htimer]
    dsimp only
    rw [hrun, hblt, if_neg (by decide), hnext, hy]
  have hseqr : y.seqr q = { s.seqr q with
      timers := (s.seqr q).timers.set j next, pend := eventIns ⟨e, 38 + j, 0⟩ (s.seqr q).pend } := by
    rw [← hy]; exact seqr_updSeqr_same _ (show q < s.trig.seqs.length by rw [hsz.seqs_length]; exact hq)
  refine ⟨y, hexec.trans hsy.done, by rw [hseqr], ?_, fun i hi => ?_, hsy.rest, hsy.sess, hsy.log, hsy.only⟩
  · rw [hseqr]
    unfold at'
    rw [List.getD_eq_getElem?_getD, List.getElem?_set_self (timer_lt htimer), hnext]
    rfl
  · rw [← hy]; exact seqr_updSeqr_other _ hi

/-! ### The initial state (R137, R138) -/

/-- The objects that entering the initial state writes. -/
def initKeys (q : Nat) : List Nat :=
  Obj.TRIG_SEQ_RUN q :: Obj.TRIG_SEQ_CUR q :: (List.range 4).flatMap fun j => [Obj.TRIG_CNT_VALUE q j, Obj.TRIG_TMR_EXPIRY q j]

theorem mem_initKeys {k : Nat} : k ∈ initKeys q ↔ k = Obj.TRIG_SEQ_RUN q ∨ k = Obj.TRIG_SEQ_CUR q ∨
    ∃ j, j < 4 ∧ (k = Obj.TRIG_CNT_VALUE q j ∨ k = Obj.TRIG_TMR_EXPIRY q j) := by
  simp [initKeys, List.mem_flatMap]

/-- Configuration and the counts of marks and Joints are other objects. -/
theorem notMem_initKeys {k : Nat} (hk : k ∈ [Obj.TRIG_SEQ_INIT q, Obj.TRIG_SEQ_ENABLE q, Obj.TRIG_SEQ_MARKS q, Obj.TRIG_SEQ_LAST_JOINT q]) :
    k ∉ initKeys q := by
  rw [mem_initKeys]
  simp only [List.mem_cons, List.not_mem_nil, or_false, Obj.TRIG_SEQ_INIT, Obj.TRIG_SEQ_ENABLE, Obj.TRIG_SEQ_MARKS,
    Obj.TRIG_SEQ_LAST_JOINT, key] at hk
  simp only [not_or, not_exists, not_and, Obj.TRIG_SEQ_RUN, Obj.TRIG_SEQ_CUR, Obj.TRIG_CNT_VALUE, Obj.TRIG_TMR_EXPIRY, key]
  exact ⟨by omega, by omega, fun j hj => by omega⟩

/-- A counter and its timer at rest. -/
def clearCounter (q : Nat) (s : State) (j : Nat) : State := (s.wr (Obj.TRIG_CNT_VALUE q j) 0).wr (Obj.TRIG_TMR_EXPIRY q j) 0

theorem clearCounter_rd (s : State) (j k : Nat) : (clearCounter q s j).rd k =
    if k = Obj.TRIG_TMR_EXPIRY q j then 0 else if k = Obj.TRIG_CNT_VALUE q j then 0 else s.rd k := by
  unfold clearCounter; rw [rd_wr, rd_wr]

/-- What is at rest stays at rest. -/
theorem clearCounters_stays (l : List Nat) {k : Nat} (s : State) (h : s.rd k = 0) : (l.foldl (clearCounter q) s).rd k = 0 :=
  List.foldlRecOn (motive := fun x : State => x.rd k = 0) _ _ h fun x hx j _ => by
    rw [clearCounter_rd, hx, ite_self, ite_self]

theorem clearCounters_rd {l : List Nat} {j k : Nat} (s : State) (hj : j ∈ l) (hk : k = Obj.TRIG_CNT_VALUE q j ∨ k = Obj.TRIG_TMR_EXPIRY q j) :
    (l.foldl (clearCounter q) s).rd k = 0 := by
  induction l generalizing s with
  | nil => exact absurd hj List.not_mem_nil
  | cons a l ih =>
    rw [List.foldl_cons]
    rcases List.mem_cons.mp hj with rfl | hj
    · refine clearCounters_stays l _ ?_
      rw [clearCounter_rd]
      rcases hk with rfl | rfl
      · rw [if_pos rfl, ite_self]
      · rw [if_pos rfl]
    · exact ih _ hj

/-- Sequencer q has entered its initial state. -/
structure Initial (q : Nat) (s t : State) : Prop where
  frame : TrigFrame (initKeys q) s t
  run : t.rd (Obj.TRIG_SEQ_RUN q) = 1
  cur : t.rd (Obj.TRIG_SEQ_CUR q) = s.rd (Obj.TRIG_SEQ_INIT q)
  counters : ∀ j, j < 4 → t.rd (Obj.TRIG_CNT_VALUE q j) = 0 ∧ t.rd (Obj.TRIG_TMR_EXPIRY q j) = 0
  other : ∀ i, i ≠ q → t.seqr i = s.seqr i

theorem initSeq_initial (s : State) (q : Nat) : Initial q s (s.initSeq q) := by
  unfold initSeq
  extract_lets y z
  have hsy : TrigFrame (initKeys q) s y := (TrigFrame.refl ..).updSeqr ..
  have hsz : TrigFrame (initKeys q) s z := hsy.foldl fun j hj x hx =>
    (hx.wr 0 (mem_initKeys.mpr (.inr (.inr ⟨j, List.mem_range.mp hj, .inl rfl⟩)))).wr 0
      (mem_initKeys.mpr (.inr (.inr ⟨j, List.mem_range.mp hj, .inr rfl⟩)))
  have hzero {j k : Nat} (hj : j < 4) (hk : k = Obj.TRIG_CNT_VALUE q j ∨ k = Obj.TRIG_TMR_EXPIRY q j) : z.rd k = 0 :=
    clearCounters_rd y (List.mem_range.mpr hj) hk
  have hother {i : Nat} (hi : i ≠ q) : z.seqr i = s.seqr i :=
    (foldl_same (fun x : State => x.seqr i) (clearCounter q) (fun _ _ => rfl) _ y).trans (seqr_updSeqr_other _ hi)
  clear_value z
  have hcur : Obj.TRIG_SEQ_CUR q ≠ Obj.TRIG_SEQ_RUN q := by unfold Obj.TRIG_SEQ_CUR Obj.TRIG_SEQ_RUN key; omega
  have hcounter {j k : Nat} (hj : j < 4) (hk : k = Obj.TRIG_CNT_VALUE q j ∨ k = Obj.TRIG_TMR_EXPIRY q j) :
      ((z.wr (Obj.TRIG_SEQ_CUR q) (z.rd (Obj.TRIG_SEQ_INIT q))).wr (Obj.TRIG_SEQ_RUN q) 1).rd k = 0 := by
    have hne : k ≠ Obj.TRIG_SEQ_RUN q ∧ k ≠ Obj.TRIG_SEQ_CUR q := by
      unfold Obj.TRIG_CNT_VALUE Obj.TRIG_TMR_EXPIRY key at hk
      unfold Obj.TRIG_SEQ_RUN Obj.TRIG_SEQ_CUR key
      omega
    rw [rd_wr_other _ _ _ _ hne.1, rd_wr_other _ _ _ _ hne.2, hzero hj hk]
  refine ⟨(hsz.wr _ (mem_initKeys.mpr (.inr (.inl rfl)))).wr _ (mem_initKeys.mpr (.inl rfl)), rd_wr_same .., ?_,
    fun j hj => ⟨hcounter hj (.inl rfl), hcounter hj (.inr rfl)⟩, fun i hi => hother hi⟩
  rw [rd_wr_other _ _ _ _ hcur, rd_wr_same]
  exact hsz.only _ (notMem_initKeys (by simp))

theorem resumeSeq_initial (s : State) (q p : Nat) : Initial q s (s.resumeSeq q p) := by
  obtain ⟨y, hy⟩ : ∃ y, (s.updSeqr q fun x =>
    { x with pend := x.pend.filter (fun e => Nat.ble p e.pos && e.code != 0), doneTo := max x.doneTo p, from_ := p }) = y := ⟨_, rfl⟩
  have hyt := initSeq_initial y q
  have hsy : TrigFrame (initKeys q) s y := hy ▸ (TrigFrame.refl ..).updSeqr ..
  refine (show s.resumeSeq q p = y.initSeq q by rw [← hy]; rfl) ▸
    ⟨hsy.trans hyt.frame, hyt.run, hyt.cur.trans (hy ▸ rfl), hyt.counters, fun i hi => (hyt.other i hi).trans ?_⟩
  rw [← hy]; exact seqr_updSeqr_other _ hi

/-! ### TRIG_SEQ_REARM (R137) -/

/-- The clause of R137: a halted sequencer resumes in its initial state. -/
theorem trigSeqRearm_resumes {sess tag : Nat} (hs : s.serves sess tag (Obj.TRIG_SEQ_REARM q) 1 = true) (hrun : s.rd (Obj.TRIG_SEQ_RUN q) = 2) :
    ∃ t, exec (.trigSeqRearm sess tag q 1) s = .next t ∧ s.replied t sess tag (Obj.TRIG_SEQ_REARM q) .ok ∧
      t.rd (Obj.TRIG_SEQ_RUN q) = 1 ∧ t.rd (Obj.TRIG_SEQ_CUR q) = s.rd (Obj.TRIG_SEQ_INIT q) ∧
      (∀ j, j < 4 → t.rd (Obj.TRIG_CNT_VALUE q j) = 0 ∧ t.rd (Obj.TRIG_TMR_EXPIRY q j) = 0) ∧
      (∀ i, i ≠ q → t.seqr i = s.seqr i) ∧ t.rest = { s.rest with trig := t.trig } ∧ t.log = s.log ∧ s.only t (initKeys q) := by
  have hy := resumeSeq_initial (s.hear sess) q (max (posOf s.tick) (s.seqr q).doneTo)
  obtain ⟨t, ht, hrep, htrig, hobj, hrest, hlog, honly⟩ := direct_trig (body := rearm q 1) hs hy.frame (by
    unfold rearm
    dsimp only
    rw [hear_rd, hrun, if_neg (by decide), if_pos rfl]
    rfl)
  refine ⟨t, ht, hrep, ?_, ?_, fun j hj => ?_, fun i hi => (seqr_of_trig htrig i).trans (hy.other i hi), hrest, hlog, honly⟩
  · rw [rd_of_obj hobj, hy.run]
  · rw [rd_of_obj hobj, hy.cur]; rfl
  · rw [rd_of_obj hobj, rd_of_obj hobj]; exact hy.counters j hj

/-- The clause of R137: in a running sequencer the rearm waits as an event. -/
theorem trigSeqRearm_waits {sess tag : Nat} (hsz : s.Sized) (hq : q < 16) (hs : s.serves sess tag (Obj.TRIG_SEQ_REARM q) 1 = true)
    (hrun : s.rd (Obj.TRIG_SEQ_RUN q) = 1) :
    ∃ t, exec (.trigSeqRearm sess tag q 1) s = .next t ∧ s.replied t sess tag (Obj.TRIG_SEQ_REARM q) .ok ∧
      (t.seqr q).pend = eventIns ⟨max (posOf s.tick) (s.seqr q).doneTo, 0, 0⟩ (s.seqr q).pend ∧
      (∀ i, i ≠ q → t.seqr i = s.seqr i) ∧ t.rest = { s.rest with trig := t.trig } ∧ t.obj = s.obj ∧ t.log = s.log := by
  have hlen : q < (s.hear sess).trig.seqs.length := by
    show q < s.trig.seqs.length
    rw [hsz.seqs_length]; exact hq
  have hy : TrigFrame [] (s.hear sess) ((s.hear sess).updSeqr q fun x =>
      { x with pend := eventIns ⟨max (posOf s.tick) (s.seqr q).doneTo, 0, 0⟩ x.pend }) := (TrigFrame.refl ..).updSeqr ..
  obtain ⟨t, ht, hrep, htrig, hobj, hrest, hlog, -⟩ := direct_trig (body := rearm q 1) hs hy (by
    unfold rearm
    dsimp only
    rw [hear_rd, hrun, if_neg (by decide), if_neg (by decide), if_pos rfl]
    rfl)
  refine ⟨t, ht, hrep, ?_, fun i hi => ?_, hrest, hobj, hlog⟩
  · rw [seqr_of_trig htrig, seqr_updSeqr_same _ hlen]; rfl
  · rw [seqr_of_trig htrig, seqr_updSeqr_other _ hi]; rfl

/-! ### The Joint (R138) -/

/-- A Joint leaves a sequencer in its initial state, running where it is enabled and off where it is not. -/
theorem trigAfter_sequencer (s : State) (w : Swap) (q b : Nat) :
    TrigFrame (Obj.TRIG_SEQ_MARKS q :: Obj.TRIG_SEQ_LAST_JOINT q :: initKeys q) s (s.trigAfter w ⟨.sequencer, q⟩ b) ∧
      (s.trigAfter w ⟨.sequencer, q⟩ b).rd (Obj.TRIG_SEQ_LAST_JOINT q) = b ∧ (s.trigAfter w ⟨.sequencer, q⟩ b).rd (Obj.TRIG_SEQ_MARKS q) = 0 ∧
      (s.trigAfter w ⟨.sequencer, q⟩ b).rd (Obj.TRIG_SEQ_RUN q) =
        (if (s.trigAfter w ⟨.sequencer, q⟩ b).rdB (Obj.TRIG_SEQ_ENABLE q) = true then 1 else 0) ∧
      ∀ i, i ≠ q → (s.trigAfter w ⟨.sequencer, q⟩ b).seqr i = s.seqr i := by
  obtain ⟨y, hy⟩ : ∃ y, ((s.updSeqr q fun x => { x with
    pend := x.pend.filter (fun e => Nat.ble (posOf b) e.pos && e.code != 0), from_ := posOf b, inputGap := false }).initSeq q) = y := ⟨_, rfl⟩
  obtain ⟨z, hz⟩ : ∃ z, (if y.rdB (Obj.TRIG_SEQ_ENABLE q) then y
    else (y.updSeqr q fun _ => {}).wrAll [(Obj.TRIG_SEQ_RUN q, 0), (Obj.TRIG_SEQ_CUR q, 0)]) = z := ⟨_, rfl⟩
  have hinit : Initial q (s.updSeqr q _) y := hy ▸ initSeq_initial _ q
  have hrun : Obj.TRIG_SEQ_RUN q ∈ initKeys q := mem_initKeys.mpr (.inl rfl)
  have hcur : Obj.TRIG_SEQ_CUR q ∈ initKeys q := mem_initKeys.mpr (.inr (.inl rfl))
  have hyz : TrigFrame (initKeys q) y z := by
    subst hz
    exact (TrigFrame.refl ..).ite ((((TrigFrame.refl ..).updSeqr ..).wr 0 hrun).wr 0 hcur)
  have hne : Obj.TRIG_SEQ_MARKS q ≠ Obj.TRIG_SEQ_LAST_JOINT q ∧ Obj.TRIG_SEQ_RUN q ≠ Obj.TRIG_SEQ_LAST_JOINT q ∧
      Obj.TRIG_SEQ_RUN q ≠ Obj.TRIG_SEQ_MARKS q ∧ Obj.TRIG_SEQ_RUN q ≠ Obj.TRIG_SEQ_CUR q := by
    unfold Obj.TRIG_SEQ_MARKS Obj.TRIG_SEQ_LAST_JOINT Obj.TRIG_SEQ_RUN Obj.TRIG_SEQ_CUR key; omega
  have hzrun : z.rd (Obj.TRIG_SEQ_RUN q) = if y.rdB (Obj.TRIG_SEQ_ENABLE q) = true then 1 else 0 := by
    rw [← hz]
    split
    · exact hinit.run
    · exact (rd_wr_other _ _ _ _ hne.2.2.2).trans (rd_wr_same ..)
  have hafter : s.trigAfter w ⟨.sequencer, q⟩ b = (z.wr (Obj.TRIG_SEQ_MARKS q) 0).wr (Obj.TRIG_SEQ_LAST_JOINT q) b := by
    rw [← hz, ← hy]; rfl
  have hsz : TrigFrame (Obj.TRIG_SEQ_MARKS q :: Obj.TRIG_SEQ_LAST_JOINT q :: initKeys q) s z :=
    (((TrigFrame.refl ..).updSeqr ..).trans (hinit.frame.trans hyz |>.mono fun _ h => List.mem_cons_of_mem _ (List.mem_cons_of_mem _ h)))
  have hzt : TrigFrame [Obj.TRIG_SEQ_MARKS q, Obj.TRIG_SEQ_LAST_JOINT q] z
      ((z.wr (Obj.TRIG_SEQ_MARKS q) 0).wr (Obj.TRIG_SEQ_LAST_JOINT q) b) :=
    ((TrigFrame.refl ..).wr _ (by simp)).wr _ (by simp)
  have henableKey : Obj.TRIG_SEQ_ENABLE q ∉ [Obj.TRIG_SEQ_MARKS q, Obj.TRIG_SEQ_LAST_JOINT q] := by
    simp only [List.mem_cons, List.not_mem_nil, or_false, Obj.TRIG_SEQ_ENABLE, Obj.TRIG_SEQ_MARKS, Obj.TRIG_SEQ_LAST_JOINT, key]
    omega
  have henable : ((z.wr (Obj.TRIG_SEQ_MARKS q) 0).wr (Obj.TRIG_SEQ_LAST_JOINT q) b).rdB (Obj.TRIG_SEQ_ENABLE q) =
      y.rdB (Obj.TRIG_SEQ_ENABLE q) := by
    unfold rdB
    rw [hzt.only _ henableKey, hyz.only _ (notMem_initKeys (by simp))]
  rw [hafter]
  refine ⟨hsz.trans (hzt.mono (by simp)), rd_wr_same .., (rd_wr_other _ _ _ _ hne.1).trans (rd_wr_same ..), ?_, fun i hi => ?_⟩
  · rw [henable, ← hzrun, rd_wr_other _ _ _ _ hne.2.1, rd_wr_other _ _ _ _ hne.2.2.1]
  · have hzy : z.seqr i = y.seqr i := by
      rw [← hz]
      split
      · rfl
      · show (y.updSeqr q fun _ => {}).seqr i = y.seqr i
        exact seqr_updSeqr_other _ hi
    exact hzy.trans ((hinit.other i hi).trans (seqr_updSeqr_other _ hi))

/-- The clause of R138: a change of a sequencer that is due and ready. -/
theorem triggerJoint_sequencer {sess b : Nat} {w : Swap} (hch : s.trigChanges sess = [⟨.sequencer, q⟩])
    (hdue : s.due 4 ⟨.sequencer, q⟩ = some (w, b)) (hready : s.trigReady ⟨.sequencer, q⟩ b = true) :
    ∃ t, exec (.triggerJoint sess) s = .next t ∧ t.rd (Obj.TRIG_SEQ_LAST_JOINT q) = b ∧ t.rd (Obj.TRIG_SEQ_MARKS q) = 0 ∧
      t.rd (Obj.TRIG_SEQ_RUN q) = (if t.rdB (Obj.TRIG_SEQ_ENABLE q) = true then 1 else 0) ∧
      t.gens = nextGen ⟨.sequencer, q⟩ s.gens ∧ (∀ i, i ≠ q → t.seqr i = s.seqr i) ∧
      t.rest = { s.rest with trig := t.trig, gens := t.gens, swaps := t.swaps, owners := t.owners } ∧ t.sess = s.sess ∧ t.log = s.log := by
  obtain ⟨x, hx⟩ : ∃ x, s.applyChange w 4 ⟨.sequencer, q⟩ b = x := ⟨_, rfl⟩
  obtain ⟨hsx, hgens⟩ := hx ▸ s.applyChange_frame w 4 ⟨.sequencer, q⟩ b
  obtain ⟨hxt, hlast, hmarks, hrun, hother⟩ := trigAfter_sequencer x w q b
  have hexec : exec (.triggerJoint sess) s = done s (x.trigAfter w ⟨.sequencer, q⟩ b) := by
    show execTriggerJoint sess s = _
    unfold execTriggerJoint
    rw [hch, List.foldl_cons, List.foldl_nil, hdue]
    dsimp only
    rw [if_pos hready, joint_due hdue, hx]
  generalize x.trigAfter w ⟨.sequencer, q⟩ b = t at hxt hlast hmarks hrun hother hexec
  have hxtrig : x.trig = s.trig := (congrArg State.trig hsx.rest :)
  have htg : t.gens = x.gens := (congrArg State.gens hxt.rest :)
  have hts : t.swaps = x.swaps := (congrArg State.swaps hxt.rest :)
  have hto : t.owners = x.owners := (congrArg State.owners hxt.rest :)
  have hrest : t.rest = { s.rest with trig := t.trig, gens := t.gens, swaps := t.swaps, owners := t.owners } := by
    rw [htg, hts, hto, hxt.rest, hsx.rest]
  exact ⟨t, hexec.trans (done_eq (congrArg State.wall hrest :) (congrArg State.pending hrest :)), hlast, hmarks, hrun, htg.trans hgens,
    fun i hi => (hother i hi).trans (seqr_of_trig hxtrig i), hrest, hxt.sess.trans hsx.sess, hxt.log.trans hsx.log⟩

end State

/-- Settles O8: each clause is the lemma of its command. -/
theorem sequencerCommands : Obligations.SequencerCommands := by
  unfold Obligations.SequencerCommands
  refine ⟨?_, ?_, ?_, ?_, ?_⟩
  · exact fun s q e rest hsz hq hforced hrun hpend hpos => State.seqPosition_takes hsz hq hforced hrun hpend hpos
  · exact fun s q j e hsz hq _ htimer hrun he => State.trigTimerExpiry_waits hsz hq htimer hrun he
  · exact fun s sess tag q _ hs hrun => State.trigSeqRearm_resumes hs hrun
  · exact fun s sess tag q hsz hq hs hrun => State.trigSeqRearm_waits hsz hq hs hrun
  · exact fun s sess q b w _ _ hch hdue hready => State.triggerJoint_sequencer hch hdue hready

end Sys2Proof.Machine

/-! ## Arming groups (R139, R140): O9 -/

namespace Sys2Proof.Machine

set_option Elab.async false

namespace State

variable {s : State} {g : Nat} {i : GrpItem}

/-! ### TRIG_GRP_ARM and TRIG_GRP_DISARM -/

/-- A command of an enabled group waits among its positions. -/
theorem groupCommand_waits {sess tag k : Nat} (what : Nat) (hsz : s.Sized) (hg : g < 4) (hs : s.serves sess tag k 1 = true)
    (hon : s.rdB (Obj.TRIG_GRP_ENABLE g) = true) :
    ∃ t, done s (s.direct sess tag k 1 (groupCommand g what 1)) = .next t ∧ s.replied t sess tag k .ok ∧
      (t.grp g).items = itemIns ⟨posOf s.tick, what, 0, default⟩ (s.grp g).items ∧ (∀ i, i ≠ g → t.grp i = s.grp i) ∧
      t.rest = { s.rest with trig := t.trig } ∧ t.obj = s.obj ∧ t.log = s.log := by
  have hlen : g < (s.hear sess).trig.groups.length := by
    show g < s.trig.groups.length
    rw [hsz.groups_length]; exact hg
  have hy : TrigFrame [] (s.hear sess) ((s.hear sess).updGrp g fun x => { x with items := itemIns ⟨posOf s.tick, what, 0, default⟩ x.items }) :=
    (TrigFrame.refl ..).updGrp ..
  obtain ⟨t, ht, hrep, htrig, hobj, hrest, hlog, -⟩ := direct_trig (body := groupCommand g what 1) hs hy (by
    unfold groupCommand
    rw [hear_rdB, hon, if_neg (by decide), if_pos rfl]
    rfl)
  refine ⟨t, ht, hrep, ?_, fun i hi => ?_, hrest, hobj, hlog⟩
  · rw [grp_of_trig htrig, grp_updGrp_same _ hlen]; rfl
  · rw [grp_of_trig htrig, grp_updGrp_other _ hi]; rfl

/-! ### GROUP_RESOLVE -/

/-- Item i has left the group, which it has armed or disarmed. -/
def resolved (s : State) (g : Nat) (i : GrpItem) : State :=
  s.updGrp g fun x =>
    { x with items := x.items.filter fun y => y.pos != i.pos, armed := (x.armed || i.what == 0) && !(i.what == 1) }

theorem resolved_grp (hsz : s.Sized) (hg : g < 4) (hitems : (s.grp g).items = [i]) :
    (s.resolved g i).grp g = { s.grp g with items := [], armed := ((s.grp g).armed || i.what == 0) && !(i.what == 1) } := by
  unfold resolved
  rw [grp_updGrp_same _ (by rw [hsz.groups_length]; exact hg), hitems]
  simp

/-- The only item of a group is resolved; a group that is armed fires for it where it is a candidate. -/
theorem exec_groupResolve (hitems : (s.grp g).items = [i]) (hon : s.rdB (Obj.TRIG_GRP_ENABLE g) = true)
    (hpos : i.pos ≤ min (s.grpHorizon g) (s.trigCap ⟨.group, g⟩)) :
    exec (.groupResolve g) s = done s ((if i.what = 2 then
      if ((s.resolved g i).grp g).armed then (s.resolved g i).fire g i.pos i [i] else (s.resolved g i).countN (Obj.TRIG_GRP_IGNORED g) 1
      else s.resolved g i).showGrp g) := by
  have hblt : Nat.blt (min (s.grpHorizon g) (s.trigCap ⟨.group, g⟩)) i.pos = false := by
    rw [← Bool.not_eq_true, Nat.blt_eq]; omega
  have hnow : ([i].filter fun x => x.pos == i.pos) = [i] := by simp
  show execGroupResolve g s = _
  unfold execGroupResolve
  rw [hitems]
  dsimp only
  rw [hon, hblt, if_neg (by decide), hnow, List.any_cons, List.any_cons, List.any_nil, List.any_nil, Bool.or_false, Bool.or_false]
  by_cases hw : i.what = 2
  · have hcands : ([i].filter fun x : GrpItem => x.what == 2) = [i] := by simp [hw]
    rw [hcands, if_pos hw]
    rfl
  · have hcands : ([i].filter fun x : GrpItem => x.what == 2) = [] := by simp [hw]
    rw [hcands, if_neg hw]
    rfl

theorem showGrp_on {a : Bool} (hon : s.rdB (Obj.TRIG_GRP_ENABLE g) = true) (ha : (s.grp g).armed = a) :
    s.showGrp g = s.wr (Obj.TRIG_GRP_STATE g) (if a then 2 else 1) := by
  unfold showGrp
  rw [hon, ha, if_pos rfl]

/-- The clause of R139: an arming that is resolved. -/
theorem groupResolve_arms (hsz : s.Sized) (hg : g < 4) (hitems : (s.grp g).items = [i]) (hwhat : i.what = 0)
    (hon : s.rdB (Obj.TRIG_GRP_ENABLE g) = true) (hpos : i.pos ≤ min (s.grpHorizon g) (s.trigCap ⟨.group, g⟩)) :
    ∃ t, exec (.groupResolve g) s = .next t ∧ (t.grp g).armed = true ∧ (t.grp g).items = [] ∧ t.rd (Obj.TRIG_GRP_STATE g) = 2 ∧
      (∀ j, j ≠ g → t.grp j = s.grp j) ∧ t.rest = { s.rest with trig := t.trig } ∧ t.sess = s.sess ∧ t.log = s.log ∧
      s.only t [Obj.TRIG_GRP_STATE g] := by
  have hgrp := resolved_grp hsz hg hitems
  have harmed : ((s.resolved g i).grp g).armed = true := by rw [hgrp, hwhat]; simp
  have hexec : exec (.groupResolve g) s = done s ((s.resolved g i).wr (Obj.TRIG_GRP_STATE g) 2) := by
    rw [exec_groupResolve hitems hon hpos, hwhat, if_neg (by decide), showGrp_on (s := s.resolved g i) hon harmed]
    rfl
  have hst : TrigFrame [Obj.TRIG_GRP_STATE g] s ((s.resolved g i).wr (Obj.TRIG_GRP_STATE g) 2) :=
    ((TrigFrame.refl ..).updGrp ..).wr 2 List.mem_cons_self
  exact ⟨_, hexec.trans hst.done, harmed, congrArg Group.items hgrp, rd_wr_same .., fun j hj => grp_updGrp_other _ hj, hst.rest, hst.sess,
    hst.log, hst.only⟩

/-! ### A firing (R140, R142, R146) -/

/-- What tells that group g has fired, and whether it is enabled. -/
def firedKeys (g : Nat) : List Nat := [Obj.TRIG_GRP_FIRES g, Obj.TRIG_GRP_LAST g, Obj.TRIG_GRP_ENABLE g]

theorem firedKeys_groupObjects (hg : g < 4) : GroupObjects (firedKeys g) := by
  intro k hk
  simp only [firedKeys, List.mem_cons, List.not_mem_nil, or_false, Obj.TRIG_GRP_FIRES, Obj.TRIG_GRP_LAST, Obj.TRIG_GRP_ENABLE, key] at hk
  omega

theorem notMem_firedKeys {k : Nat} (hk : k ∈ [Obj.TRIG_GRP_IGNORED g, Obj.TRIG_GRP_STATE g]) : k ∉ firedKeys g := by
  simp only [List.mem_cons, List.not_mem_nil, or_false, Obj.TRIG_GRP_IGNORED, Obj.TRIG_GRP_STATE, key] at hk
  simp only [firedKeys, List.mem_cons, List.not_mem_nil, or_false, Obj.TRIG_GRP_FIRES, Obj.TRIG_GRP_LAST, Obj.TRIG_GRP_ENABLE, key]
  omega

/-- A group that fires disarms, counts the firing and reads its tick, also where its mark is withheld (log entry 31); its mark and its pulses
lie below. -/
theorem fire_fires {p : Nat} {cands : List GrpItem} (hg : g < 4) (hlen : g < s.trig.groups.length) :
    Downstream s (s.fire g p i cands) ∧ ((s.fire g p i cands).grp g).armed = false ∧
      (s.fire g p i cands).rd (Obj.TRIG_GRP_FIRES g) = s.rd (Obj.TRIG_GRP_FIRES g) + 1 ∧
      (s.fire g p i cands).rd (Obj.TRIG_GRP_LAST g) = p / 65536 ∧
      (s.fire g p i cands).rd (Obj.TRIG_GRP_ENABLE g) = s.rd (Obj.TRIG_GRP_ENABLE g) := by
  have hk := firedKeys_groupObjects hg
  unfold fire
  extract_lets _ out _ y z u
  have hne : Obj.TRIG_GRP_FIRES g ≠ Obj.TRIG_GRP_LAST g ∧ Obj.TRIG_GRP_ENABLE g ≠ Obj.TRIG_GRP_LAST g ∧
      Obj.TRIG_GRP_ENABLE g ≠ Obj.TRIG_GRP_FIRES g := by
    unfold Obj.TRIG_GRP_FIRES Obj.TRIG_GRP_LAST Obj.TRIG_GRP_ENABLE key; omega
  have hsz : Downstream s z := (Downstream.refl s).updGrp.wr.wr
  have hzt : TrigWork 0 (firedKeys g) z (u.requestPulses p out) :=
    ((TrigWork.refl ..).grpMark hk (by decide) (notMem_firedKeys (by simp))).requestPulses hk
  have hzg : (z.grp g).armed = false := congrArg Group.armed (grp_updGrp_same (fun x => { x with armed := false }) hlen)
  have hzf : z.rd (Obj.TRIG_GRP_FIRES g) = s.rd (Obj.TRIG_GRP_FIRES g) + 1 := (rd_wr_other _ _ _ _ hne.1).trans (rd_wr_same ..)
  have hzl : z.rd (Obj.TRIG_GRP_LAST g) = p / 65536 := rd_wr_same ..
  have hze : z.rd (Obj.TRIG_GRP_ENABLE g) = s.rd (Obj.TRIG_GRP_ENABLE g) :=
    (rd_wr_other _ _ _ _ hne.2.1).trans (rd_wr_other _ _ _ _ hne.2.2)
  exact ⟨hsz.trans hzt.down, (hzt.armed g).trans hzg, (hzt.kept _ (by simp [firedKeys])).trans hzf,
    (hzt.kept _ (by simp [firedKeys])).trans hzl, (hzt.kept _ (by simp [firedKeys])).trans hze⟩

/-- The clause of R140: an armed group fires for its candidate. -/
theorem groupResolve_fires (hsz : s.Sized) (hg : g < 4) (hitems : (s.grp g).items = [i]) (hwhat : i.what = 2)
    (harmed : (s.grp g).armed = true) (hon : s.rdB (Obj.TRIG_GRP_ENABLE g) = true)
    (hpos : i.pos ≤ min (s.grpHorizon g) (s.trigCap ⟨.group, g⟩)) :
    ∃ t, exec (.groupResolve g) s = .next t ∧ (t.grp g).armed = false ∧ t.rd (Obj.TRIG_GRP_STATE g) = 1 ∧
      t.rd (Obj.TRIG_GRP_FIRES g) = s.rd (Obj.TRIG_GRP_FIRES g) + 1 ∧ t.rd (Obj.TRIG_GRP_LAST g) = i.pos / 65536 ∧
      t.chans = s.chans ∧ t.tuners = s.tuners ∧ t.control = s.control := by
  have hstill : ((s.resolved g i).grp g).armed = true := by rw [resolved_grp hsz hg hitems, harmed, hwhat]; rfl
  have hlen : g < (s.resolved g i).trig.groups.length := by
    show g < (s.trig.groups.modify g _).length
    rw [List.length_modify, hsz.groups_length]; exact hg
  obtain ⟨hdown, hoff, hfires, hlast, henable⟩ := fire_fires (s := s.resolved g i) (i := i) (p := i.pos) (cands := [i]) hg hlen
  have hexec : exec (.groupResolve g) s = done s (((s.resolved g i).fire g i.pos i [i]).wr (Obj.TRIG_GRP_STATE g) 1) := by
    rw [exec_groupResolve hitems hon hpos, if_pos hwhat, if_pos hstill, showGrp_on (by unfold rdB at hon ⊢; rw [henable]; exact hon) hoff]
    rfl
  generalize (s.resolved g i).fire g i.pos i [i] = y at hdown hoff hfires hlast hexec
  have hst : Downstream s (y.wr (Obj.TRIG_GRP_STATE g) 1) := ((Downstream.refl s).updGrp.trans hdown).wr
  have hkept {k : Nat} (hk : k ∈ firedKeys g) : (y.wr (Obj.TRIG_GRP_STATE g) 1).rd k = y.rd k :=
    rd_wr_other _ _ _ _ (ne_of_mem_of_not_mem hk (notMem_firedKeys (by simp)))
  exact ⟨_, hexec.trans (done_eq (congrArg State.wall hst.control :) (congrArg State.pending hst.control :)), hoff, rd_wr_same ..,
    (hkept (by simp [firedKeys])).trans hfires, (hkept (by simp [firedKeys])).trans hlast, hst.chans, hst.tuners, hst.control⟩

end State

/-- Settles O9: each clause is the lemma of its command. -/
theorem groupCommands : Obligations.GroupCommands := by
  unfold Obligations.GroupCommands
  refine ⟨?_, ?_, ?_, ?_⟩
  · exact fun s sess tag g hsz hg hs hon => State.groupCommand_waits 0 hsz hg hs hon
  · exact fun s sess tag g hsz hg hs hon => State.groupCommand_waits 1 hsz hg hs hon
  · exact fun s g i hsz hg hitems hwhat hon hpos => State.groupResolve_arms hsz hg hitems hwhat hon hpos
  · exact fun s g i hsz hg hitems hwhat harmed hon hpos => State.groupResolve_fires hsz hg hitems hwhat harmed hon hpos

end Sys2Proof.Machine

/-! ## Outputs and masks (R125, R146): O10 -/

namespace Sys2Proof.Machine

set_option Elab.async false

namespace State

variable {s : State} {n : Nat}

/-! ### TRIG_OUT (R146) -/

theorem outLevel_low (h : s.rd Obj.DEV_STATE < 2 ∨ s.isStandby = true ∨ s.pwr.suspended = true) : s.outLevel n = false := by
  unfold outLevel
  rcases h with h | h | h
  · have hble : Nat.ble 2 (s.rd Obj.DEV_STATE) = false := by rw [← Bool.not_eq_true, Nat.ble_eq]; omega
    rw [hble, Bool.and_false]
  · simp [h]
  · simp [h]

theorem outLevel_pin (hready : 2 ≤ s.rd Obj.DEV_STATE) (hown : s.isStandby = false) (hrun : s.pwr.suspended = false) :
    s.outLevel n = (s.outPin n).high := by
  have hble : Nat.ble 2 (s.rd Obj.DEV_STATE) = true := Nat.ble_eq.mpr hready
  unfold outLevel
  rw [hble, hown, hrun]
  simp

end State

/-- The pin in a pulse from l that lasts w ticks, with the launches that wait after it. -/
def OutPin.pulse (o : OutPin) (l w : Nat) (rest : List (Nat × Nat)) : OutPin :=
  { queue := rest, high := true, until_ := if o.high then max o.until_ (l + w) else l + w }

theorem OutPin.le_pulse_until (o : OutPin) (l w : Nat) (rest : List (Nat × Nat)) : l + w ≤ (o.pulse l w rest).until_ := by
  show l + w ≤ if o.high then max o.until_ (l + w) else l + w
  split
  · exact Nat.le_max_right ..
  · exact Nat.le_refl _

namespace State

variable {s : State} {n : Nat}

/-- A change of one pin leaves the other pins and all but triggering as it was. -/
theorem updOut_frame (s : State) (n : Nat) (f : OutPin → OutPin) :
    done s (s.updOut n f) = .next (s.updOut n f) ∧ (∀ i, i ≠ n → (s.updOut n f).outPin i = s.outPin i) ∧
      (s.updOut n f).rest = { s.rest with trig := (s.updOut n f).trig } ∧ (s.updOut n f).obj = s.obj ∧ (s.updOut n f).sess = s.sess ∧
      (s.updOut n f).log = s.log :=
  ⟨done_eq rfl rfl, fun _ hi => outPin_updOut_other f hi, rfl, rfl, rfl, rfl⟩

/-- The clause of R146: a launch whose tick is reached. -/
theorem trigOutLaunch_raises {l w : Nat} {rest : List (Nat × Nat)} (hsz : s.Sized) (hn : n < 4) (hq : (s.outPin n).queue = (l, w) :: rest)
    (hl : s.launchAt l = l) (htick : l ≤ s.tick) (hlock : s.masterLocked = true) (hmode : s.rd (Obj.TRIG_OUT_MODE n) = 1) :
    ∃ t, exec (.trigOutLaunch n) s = .next t ∧ (t.outPin n).high = true ∧ (t.outPin n).queue = rest ∧
      l + w ≤ (t.outPin n).until_ ∧ (∀ i, i ≠ n → t.outPin i = s.outPin i) ∧ t.rest = { s.rest with trig := t.trig } ∧
      t.obj = s.obj ∧ t.sess = s.sess ∧ t.log = s.log := by
  obtain ⟨hdone, hother, hrest, hobj, hsess, hlog⟩ := s.updOut_frame n fun o => o.pulse l w rest
  have hpin : (s.updOut n fun o => o.pulse l w rest).outPin n = (s.outPin n).pulse l w rest :=
    outPin_updOut_same _ (by rw [hsz.outs_length]; exact hn)
  have hexec : exec (.trigOutLaunch n) s = done s (s.updOut n fun o => o.pulse l w rest) := by
    show execTrigOutLaunch n s = _
    unfold execTrigOutLaunch
    rw [hq]
    dsimp only
    rw [hl, hlock, hmode, if_neg (by simpa using htick), if_pos (by simp)]
    rfl
  refine ⟨_, hexec.trans hdone, ?_, ?_, ?_, hother, hrest, hobj, hsess, hlog⟩ <;> rw [hpin]
  · rfl
  · rfl
  · exact OutPin.le_pulse_until ..

/-- The clause of R146: a pulse's end. -/
theorem trigOutPulseEnd_falls (hsz : s.Sized) (hn : n < 4) (hmode : s.rd (Obj.TRIG_OUT_MODE n) = 1) (hhigh : (s.outPin n).high = true)
    (htick : (s.outPin n).until_ ≤ s.tick) :
    ∃ t, exec (.trigOutPulseEnd n) s = .next t ∧ t.outPin n = { s.outPin n with high := false } ∧
      (∀ i, i ≠ n → t.outPin i = s.outPin i) ∧ t.rest = { s.rest with trig := t.trig } ∧ t.obj = s.obj ∧ t.sess = s.sess ∧
      t.log = s.log := by
  obtain ⟨hdone, hother, hrest, hobj, hsess, hlog⟩ := s.updOut_frame n fun o => { o with high := false }
  have hexec : exec (.trigOutPulseEnd n) s = done s (s.updOut n fun o => { o with high := false }) := by
    show execTrigOutPulseEnd n s = _
    unfold execTrigOutPulseEnd
    rw [hmode, hhigh, Nat.ble_eq.mpr htick]
    rfl
  exact ⟨_, hexec.trans hdone, outPin_updOut_same _ (by rw [hsz.outs_length]; exact hn), hother, hrest, hobj, hsess, hlog⟩

/-- The clause of R146: the mode is written, and mode 0 ends a pulse. -/
theorem trigOutModeWrite_writes {sess tag v : Nat} (hsz : s.Sized) (hn : n < 4) (hs : s.serves sess tag (Obj.TRIG_OUT_MODE n) v = true) :
    ∃ t, exec (.trigOutModeWrite sess tag n v) s = .next t ∧ s.replied t sess tag (Obj.TRIG_OUT_MODE n) .ok ∧
      t.rd (Obj.TRIG_OUT_MODE n) = v ∧ t.outPin n = { s.outPin n with high := (s.outPin n).high && v != 0 } ∧
      (∀ i, i ≠ n → t.outPin i = s.outPin i) ∧ t.rest = { s.rest with trig := t.trig } ∧ t.log = s.log ∧
      s.only t [Obj.TRIG_OUT_MODE n] := by
  obtain ⟨y, hy⟩ : ∃ y, (s.hear sess).wr (Obj.TRIG_OUT_MODE n) v = y := ⟨_, rfl⟩
  obtain ⟨z, hz⟩ : ∃ z, (if v = 0 then y.updOut n fun o => { o with high := false } else y) = z := ⟨_, rfl⟩
  have hyz : TrigFrame [Obj.TRIG_OUT_MODE n] (s.hear sess) z := by
    have hsy : TrigFrame [Obj.TRIG_OUT_MODE n] (s.hear sess) y := hy ▸ (TrigFrame.refl ..).wr v List.mem_cons_self
    rw [← hz]; exact (hsy.updOut ..).ite hsy
  have hpins (i : Nat) : y.outPin i = s.outPin i := hy ▸ rfl
  have hlen : n < y.trig.outs.length := by
    rw [← hy]
    show n < s.trig.outs.length
    rw [hsz.outs_length]; exact hn
  obtain ⟨t, ht, hrep, htrig, hobj, hrest, hlog, honly⟩ := direct_trig (body := writeOutMode n v) hs hyz (by rw [← hz, ← hy]; rfl)
  refine ⟨t, ht, hrep, ?_, ?_, fun i hi => ?_, hrest, hlog, honly⟩
  · rw [rd_of_obj hobj, ← hz]
    split <;> exact hy ▸ rd_wr_same ..
  · rw [outPin_of_trig htrig, ← hz]
    split
    next hv => rw [outPin_updOut_same _ hlen, hpins, hv]; simp
    next hv => rw [hpins, bne_iff_ne.mpr hv, Bool.and_true]
  · rw [outPin_of_trig htrig, ← hz]
    split
    · rw [outPin_updOut_other _ hi, hpins]
    · exact hpins i

/-! ### Masks (R125) -/

theorem maskSegs_unit {m : Nat} (hm : m < 16) : groupOf (Obj.TRIG_MASK_SEGS m) = 4 ∧ segsOf (Obj.TRIG_MASK_SEGS m) = some m ∧
    sizeOf' (Obj.TRIG_MASK_SEGS m) = none ∧ loadOf (Obj.TRIG_MASK_SEGS m) = none :=
  (by decide : ∀ m, m < 16 → groupOf (Obj.TRIG_MASK_SEGS m) = 4 ∧ segsOf (Obj.TRIG_MASK_SEGS m) = some m ∧
    sizeOf' (Obj.TRIG_MASK_SEGS m) = none ∧ loadOf (Obj.TRIG_MASK_SEGS m) = none) m hm

theorem maskWrite_unit {m : Nat} (hm : m < 16) : groupOf (Obj.TRIG_MASK_WRITE m) = 4 ∧ segsOf (Obj.TRIG_MASK_WRITE m) = none ∧
    sizeOf' (Obj.TRIG_MASK_WRITE m) = none ∧ loadOf (Obj.TRIG_MASK_WRITE m) = some m :=
  (by decide : ∀ m, m < 16 → groupOf (Obj.TRIG_MASK_WRITE m) = 4 ∧ segsOf (Obj.TRIG_MASK_WRITE m) = none ∧
    sizeOf' (Obj.TRIG_MASK_WRITE m) = none ∧ loadOf (Obj.TRIG_MASK_WRITE m) = some m) m hm

/-- A change of a mask's staged entries shows their sum. -/
theorem stageLoad_mask (s : State) {m : Nat} (f : Mem → Mem) (hm : m < 16) (hl : m < s.loads.length) :
    ((s.stageLoad m f).load m).staged = f (s.load m).staged ∧ (∀ i, i ≠ m → (s.stageLoad m f).load i = s.load i) ∧
      (s.stageLoad m f).rd (Obj.TRIG_MASK_SUM m) = ofI 64 (maskSum (f (s.load m).staged)) ∧
      s.only (s.stageLoad m f) [Obj.TRIG_MASK_SUM m] := by
  have hload : (s.updLoad m fun l => { l with staged := f l.staged }).load m = { s.load m with staged := f (s.load m).staged } :=
    load_updLoad_same _ hl
  unfold stageLoad showLoad
  rw [if_pos hm, hload]
  refine ⟨congrArg Load.staged hload, fun i hi => load_updLoad_other _ hi, rd_wr_same .., fun q hq => ?_⟩
  exact rd_wr_other _ _ _ _ (by simpa using hq)

/-- The number of segments has no bounds but its own range. -/
theorem maskSegs_inBounds {sess m v : Nat} (hm : m < 16) : s.inBounds sess (Obj.TRIG_MASK_SEGS m) v = true := by
  have hctx : (Nat.ble 0x3800 (Obj.TRIG_MASK_SEGS m / 256) && Nat.blt (Obj.TRIG_MASK_SEGS m / 256) 0x4000) = false ∧
      ((List.range 20).any fun h => Obj.TRIG_MASK_SEGS m == Obj.RSV_HIST_PANS h) = false :=
    (by decide : ∀ m, m < 16 → (Nat.ble 0x3800 (Obj.TRIG_MASK_SEGS m / 256) && Nat.blt (Obj.TRIG_MASK_SEGS m / 256) 0x4000) = false ∧
      ((List.range 20).any fun h => Obj.TRIG_MASK_SEGS m == Obj.RSV_HIST_PANS h) = false) m hm
  unfold inBounds
  dsimp only
  rw [hctx.1, hctx.2]
  rfl

theorem stageLoad_keeps (s : State) (i : Nat) (f : Mem → Mem) :
    (s.stageLoad i f).staged = s.staged ∧ (s.stageLoad i f).owners = s.owners :=
  ⟨(congrArg State.staged (stageLoad_frame s i f).1 :), (congrArg State.owners (stageLoad_frame s i f).1 :)⟩

/-- A write of a mask's object that is in range stages its value and changes the mask's staged entries. -/
theorem stageWrite_mask {sess tag k v m : Nat} {f : Mem → Mem} {owners : List Owner} (hsz : s.Sized) (hm : m < 16)
    (hs : s.serves sess tag k v = true) (hg : groupOf k = 4) (hswap : s.swapHolds sess 4 = false) (hrange : s.stageRange sess k v = true)
    (hput : (s.hear sess).stagePut sess k v = { (s.hear sess).stageLoad m f with
      staged := s.staged.set zeroDflt (sk sess k) (v + 1), owners := owners }) :
    ∃ t, done s (s.stageWrite sess tag k v) = .next t ∧ s.replied t sess tag k .ok ∧ t.staging sess k = v ∧
      (t.load m).staged = f (s.load m).staged ∧ t.rd (Obj.TRIG_MASK_SUM m) = ofI 64 (maskSum (f (s.load m).staged)) ∧
      (∀ i, i ≠ m → t.load i = s.load i) ∧
      t.rest = { s.rest with loads := t.loads, staged := t.staged, owners := t.owners } ∧ t.log = s.log ∧
      s.only t [Obj.TRIG_MASK_SUM m] := by
  obtain ⟨y, hy⟩ : ∃ y, (s.hear sess).stageLoad m f = y := ⟨_, rfl⟩
  obtain ⟨hyr, hys, hyl⟩ := hy ▸ stageLoad_frame (s.hear sess) m f
  obtain ⟨hload, hother, hsum, honly⟩ := hy ▸ (s.hear sess).stageLoad_mask f hm (show m < s.loads.length by rw [hsz.loads_length]; omega)
  obtain ⟨z, hz⟩ : ∃ z : State, { y with staged := s.staged.set zeroDflt (sk sess k) (v + 1), owners := owners } = z := ⟨_, rfl⟩
  obtain ⟨t, ht⟩ : ∃ t, z.answer ⟨sess, (s.ses sess).inc, tag, k⟩ .ok = t := ⟨_, rfl⟩
  have hfree : (s.hear sess).swapHolds sess 4 = false := by
    unfold swapHolds; rw [(hear_fields s sess sess).1]; exact hswap
  have hexec : done s (s.stageWrite sess tag k v) = done s t := by
    unfold stageWrite
    rw [direct_serves _ hs]
    unfold stage
    dsimp only
    rw [hg, hfree, if_neg Bool.false_ne_true, if_pos (show (s.hear sess).stageRange sess k v = true from hrange), hput, hy, hz, ht]
  have hrest : t.rest = { s.rest with loads := t.loads, staged := t.staged, owners := t.owners } := by
    subst ht hz
    rw [answer_rest, answer_loads, answer_staged, answer_owners]
    exact congrArg (fun x : State => { x with staged := s.staged.set zeroDflt (sk sess k) (v + 1), owners := owners }) hyr
  have htl : t.loads = y.loads := by subst ht hz; exact answer_loads ..
  have hto (q : Nat) : t.rd q = y.rd q := by subst ht hz; exact answer_rd ..
  have hts : t.staged = s.staged.set zeroDflt (sk sess k) (v + 1) := by subst ht hz; exact answer_staged ..
  refine ⟨t, hexec.trans (done_eq (congrArg State.wall hrest :) (congrArg State.pending hrest :)), ?_, ?_, ?_, ?_, fun i hi => ?_, hrest, ?_,
    fun q hq => (hto q).trans (honly q hq)⟩
  · subst ht hz; exact replied_answer _ (serves_takes hs) _ hys
  · unfold staging; rw [hts, Mem.get_set_same]
  · rw [load_of_loads htl]; exact hload
  · rw [hto]; exact hsum
  · rw [load_of_loads htl]; exact hother i hi
  · subst ht hz; exact (answer_log ..).trans hyl

/-- The clause of R125: a count of segments is staged, and resets the mask's staged segments. -/
theorem trigMaskSegsWrite_stages {sess tag m v : Nat} (hsz : s.Sized) (hm : m < 16) (hs : s.serves sess tag (Obj.TRIG_MASK_SEGS m) v = true)
    (hswap : s.swapHolds sess 4 = false) :
    ∃ t, exec (.trigMaskSegsWrite sess tag m v) s = .next t ∧ s.replied t sess tag (Obj.TRIG_MASK_SEGS m) .ok ∧
      t.staging sess (Obj.TRIG_MASK_SEGS m) = v ∧ (t.load m).staged = [] ∧ t.rd (Obj.TRIG_MASK_SUM m) = 0 ∧
      (∀ i, i ≠ m → t.load i = s.load i) ∧
      t.rest = { s.rest with loads := t.loads, staged := t.staged, owners := t.owners } ∧ t.log = s.log ∧
      s.only t [Obj.TRIG_MASK_SUM m] := by
  obtain ⟨hg, hsegs, hsize, hload⟩ := maskSegs_unit hm
  have hrange : s.stageRange sess (Obj.TRIG_MASK_SEGS m) v = true := by
    unfold stageRange
    rw [hload]
    exact maskSegs_inBounds hm
  obtain ⟨owners, hput⟩ : ∃ owners, (s.hear sess).stagePut sess (Obj.TRIG_MASK_SEGS m) v = { (s.hear sess).stageLoad m (fun _ => []) with
      staged := s.staged.set zeroDflt (sk sess (Obj.TRIG_MASK_SEGS m)) (v + 1), owners := owners } := by
    unfold stagePut
    rw [hsegs, hsize, hload]
    dsimp only
    rw [(stageLoad_keeps ..).1]
    split <;> exact ⟨_, rfl⟩
  exact stageWrite_mask hsz hm hs hg hswap hrange hput

/-- The clause of R125: one field of one segment is staged. -/
theorem trigMaskWrite_stages {sess tag m v : Nat} (hsz : s.Sized) (hm : m < 16) (hs : s.serves sess tag (Obj.TRIG_MASK_WRITE m) v = true)
    (hswap : s.swapHolds sess 4 = false) (hfield : v / 2 ^ 48 % 4 ≠ 3)
    (hseg : v / 2 ^ 36 % 2 ^ 11 < s.staging sess (Obj.TRIG_MASK_SEGS m)) :
    ∃ t, exec (.trigMaskWrite sess tag m v) s = .next t ∧ s.replied t sess tag (Obj.TRIG_MASK_WRITE m) .ok ∧
      maskField (t.load m).staged (v / 2 ^ 36 % 2 ^ 11) (v / 2 ^ 48 % 4) = v % 2 ^ 36 ∧
      (∀ i, i ≠ m → t.load i = s.load i) ∧
      t.rest = { s.rest with loads := t.loads, staged := t.staged, owners := t.owners } ∧ t.log = s.log ∧
      s.only t [Obj.TRIG_MASK_SUM m] := by
  obtain ⟨hg, hsegs, hsize, hload⟩ := maskWrite_unit hm
  have hrange : s.stageRange sess (Obj.TRIG_MASK_WRITE m) v = true := by
    unfold stageRange
    rw [hload]
    dsimp only
    rw [if_pos hm, Bool.and_eq_true]
    exact ⟨bne_iff_ne.mpr hfield, Nat.blt_eq.mpr hseg⟩
  obtain ⟨owners, hput⟩ : ∃ owners, (s.hear sess).stagePut sess (Obj.TRIG_MASK_WRITE m) v = { (s.hear sess).stageLoad m
        (fun l => l.set maskDflt (4 * (v / 2 ^ 36 % 2 ^ 11) + v / 2 ^ 48 % 4) (v % 2 ^ 36)) with
      staged := s.staged.set zeroDflt (sk sess (Obj.TRIG_MASK_WRITE m)) (v + 1), owners := owners } := by
    unfold stagePut
    rw [hsegs, hsize, hload]
    dsimp only
    rw [if_pos hm, (stageLoad_keeps ..).1]
    split <;> exact ⟨_, rfl⟩
  obtain ⟨t, ht, hrep, -, hstaged, -, hother, hrest, hlog, honly⟩ := stageWrite_mask hsz hm hs hg hswap hrange hput
  refine ⟨t, ht, hrep, ?_, hother, hrest, hlog, honly⟩
  unfold maskField
  rw [hstaged, Mem.get_set_same]

end State

end Sys2Proof.Machine

/-! ## Capture units (R148, R149): O10 -/

namespace Sys2Proof.Machine

set_option Elab.async false

namespace State

variable {s : State} {u : Nat}

/-- The clause of R148: a unit that is armed fills from the served tick. -/
theorem trigCapArm_fills {sess tag : Nat} (hsz : s.Sized) (hu : u < 4) (hs : s.serves sess tag (Obj.TRIG_CAP_ARM u) 1 = true)
    (hon : s.rdB (Obj.TRIG_CAP_ENABLE u) = true) :
    ∃ t, exec (.trigCapArm sess tag u 1) s = .next t ∧ s.replied t sess tag (Obj.TRIG_CAP_ARM u) .ok ∧
      t.rd (Obj.TRIG_CAP_STATE u) = 1 ∧ t.rd (Obj.TRIG_CAP_SEGS u) = 0 ∧
      t.cap u = { threshold := s.tick + s.rd (Obj.TRIG_CAP_PRE u) * s.capStep u } ∧ (∀ i, i ≠ u → t.cap i = s.cap i) ∧
      t.rest = { s.rest with trig := t.trig } ∧ t.log = s.log ∧ s.only t [Obj.TRIG_CAP_STATE u, Obj.TRIG_CAP_SEGS u] := by
  obtain ⟨y, hy⟩ : ∃ y, (((s.hear sess).updCap u fun _ => { threshold := s.tick + s.rd (Obj.TRIG_CAP_PRE u) * s.capStep u }).wr
    (Obj.TRIG_CAP_STATE u) 1).wr (Obj.TRIG_CAP_SEGS u) 0 = y := ⟨_, rfl⟩
  have hsy : TrigFrame [Obj.TRIG_CAP_STATE u, Obj.TRIG_CAP_SEGS u] (s.hear sess) y :=
    hy ▸ (((TrigFrame.refl ..).updCap ..).wr _ (by simp)).wr _ (by simp)
  have hlen : u < (s.hear sess).trig.caps.length := by
    show u < s.trig.caps.length
    rw [hsz.caps_length]; exact hu
  have hne : Obj.TRIG_CAP_STATE u ≠ Obj.TRIG_CAP_SEGS u := by unfold Obj.TRIG_CAP_STATE Obj.TRIG_CAP_SEGS key; omega
  obtain ⟨t, ht, hrep, htrig, hobj, hrest, hlog, honly⟩ := direct_trig (body := armCapture u 1) hs hsy (by
    unfold armCapture
    rw [hear_rdB, hon, if_neg (by decide), if_pos rfl, ← hy]
    rfl)
  refine ⟨t, ht, hrep, ?_, ?_, ?_, fun i hi => ?_, hrest, hlog, honly⟩
  · rw [rd_of_obj hobj, ← hy, rd_wr_other _ _ _ _ hne, rd_wr_same]
  · rw [rd_of_obj hobj, ← hy, rd_wr_same]
  · rw [cap_of_trig htrig, ← hy]; exact cap_updCap_same _ hlen
  · rw [cap_of_trig htrig, ← hy]; exact cap_updCap_other _ hi

/-- The clause of R148: a unit is armed once it is filled. -/
theorem captureFillEnd_arms (hst : s.rd (Obj.TRIG_CAP_STATE u) = 1) (htick : (s.cap u).threshold ≤ s.tick) :
    ∃ t, exec (.captureFillEnd u) s = .next t ∧ t.rd (Obj.TRIG_CAP_STATE u) = 2 ∧ s.keeps t [Obj.TRIG_CAP_STATE u] ∧ t.sess = s.sess := by
  have hexec : exec (.captureFillEnd u) s = done s (s.wr (Obj.TRIG_CAP_STATE u) 2) := by
    show execCaptureFillEnd u s = _
    unfold execCaptureFillEnd
    rw [hst, Nat.ble_eq.mpr htick]
    rfl
  exact ⟨_, hexec.trans (done_eq rfl rfl), rd_wr_same .., ⟨fun q hq => rd_wr_other _ _ _ _ (by simpa using hq), rfl, rfl⟩, rfl⟩

end State

/-! ### A segment is read (R149) -/

/-- Between `s` and `t` capture unit u reads from the Reservoir and its records enter flows: triggering and the unit's count of segments
are as they were. -/
structure SegmentRead (u : Nat) (s t : State) : Prop where
  down : Downstream s t
  trig : t.trig = s.trig
  segs : t.rd (Obj.TRIG_CAP_SEGS u) = s.rd (Obj.TRIG_CAP_SEGS u)

namespace SegmentRead

variable {u : Nat} {s t x : State}

theorem refl (u : Nat) (s : State) : SegmentRead u s s := ⟨.refl s, rfl, rfl⟩

theorem trans (h : SegmentRead u s t) (h' : SegmentRead u t x) : SegmentRead u s x :=
  ⟨h.down.trans h'.down, h'.trig.trans h.trig, h'.segs.trans h.segs⟩

theorem ite {c : Prop} [Decidable c] (h : SegmentRead u s t) (h' : SegmentRead u s x) : SegmentRead u s (if c then t else x) := by
  split
  · exact h
  · exact h'

theorem foldl {α : Type} {f : State → α → State} {l : List α} (h : SegmentRead u s t)
    (hf : ∀ y a, SegmentRead u s y → SegmentRead u s (f y a)) : SegmentRead u s (l.foldl f t) :=
  List.foldlRecOn l f h fun y hy a _ => hf y a hy

/-- The state of a pair that an operation answers. -/
theorem of_eq {α : Type} {p : State × α} {y : α} (h : SegmentRead u s p.1) (e : p = (t, y)) : SegmentRead u s t := by
  subst e; exact h

theorem wr {k v : Nat} (h : SegmentRead u s t) (hk : Obj.TRIG_CAP_SEGS u ≠ k) : SegmentRead u s (t.wr k v) :=
  h.trans ⟨.wr (.refl t), rfl, State.rd_wr_other _ _ _ _ hk⟩

/-- An object of the Reservoir. -/
theorem wrRsv {k v : Nat} (hu : u < 4) (h : SegmentRead u s t) (hk : 0x500000 ≤ k) : SegmentRead u s (t.wr k v) :=
  h.wr (by unfold Obj.TRIG_CAP_SEGS key; omega)

theorem used {n : Nat} (h : SegmentRead u s t) : SegmentRead u s (t.used n) := h.trans ⟨.used (.refl t), rfl, rfl⟩

theorem updPch {k : Nat} {f : Pch → Pch} (h : SegmentRead u s t) : SegmentRead u s (t.updPch k f) :=
  h.trans ⟨(Downstream.refl t).same rfl rfl rfl, rfl, rfl⟩

theorem enterAll {fs : List Nat} {r : Record} (h : SegmentRead u s t) : SegmentRead u s (t.enterAll fs r) :=
  h.trans ⟨.enterAll (.refl t), State.enterAll_trig .., State.rd_of_obj (State.enterAll_obj ..) _⟩

theorem event {c i e a b d : Nat} (hu : u < 4) (h : SegmentRead u s t) : SegmentRead u s (t.event c i e a b d) :=
  h.trans ⟨.event (.refl t), (congrArg State.trig (State.event_rest t c i e a b d) :), State.event_rd _ _ _ _ _ _ _ _ <| by
    unfold Obj.TRIG_CAP_SEGS key
    exact eventKey_eq_false (by omega) fun i => by omega⟩

theorem access {line id : Nat} {read : Bool} (hu : u < 4) (h : SegmentRead u s t) : SegmentRead u s (t.access line id read) := by
  unfold State.access State.request State.enqueue State.showOutstanding
  exact h.ite <| ((h.updPch.wrRsv hu (by decide)).wrRsv hu (by decide)).ite h.updPch

theorem setFloors (hu : u < 4) (h : SegmentRead u s t) : SegmentRead u s t.setFloors := by
  unfold State.setFloors
  extract_lets
  refine h.trans ⟨.wrAll (.refl t), State.wrAll_trig t _, State.rd_wrAll_other _ ?_⟩
  simp only [List.map_cons, List.map_nil, List.mem_cons, List.not_mem_nil, or_false, Obj.TRIG_CAP_SEGS, Obj.DEV_FLOOR_BFLY, Obj.DEV_FLOOR_CELL,
    Obj.DEV_FLOOR_RSV, Obj.DEV_FLOOR_PORT, Obj.DEV_FLOOR_POOL, key]
  omega

theorem failPch {k : Nat} (hu : u < 4) (h : SegmentRead u s t) : SegmentRead u s (t.failPch k) := by
  have hin : Obj.TRIG_CAP_SEGS u ≠ Obj.DEV_PCH_IN_SERVICE := by unfold Obj.TRIG_CAP_SEGS Obj.DEV_PCH_IN_SERVICE key; omega
  have hmap : 0x500000 ≤ Obj.RSV_PCH_MAP (k / 32) := by unfold Obj.RSV_PCH_MAP key; omega
  unfold State.failPch
  extract_lets x m x1 x2
  have h1 : SegmentRead u s x1 := (h.updPch.wrRsv hu hmap).wr hin
  have h2 : SegmentRead u s x2 := ((h1.wrRsv hu (by decide)).wrRsv hu (by decide)).setFloors hu
  exact h.ite (h2.event hu)

theorem ecc {k addr corrected uncorrectable : Nat} (hu : u < 4) (h : SegmentRead u s t) :
    SegmentRead u s (t.ecc k addr corrected uncorrectable) := by
  unfold State.ecc
  extract_lets x1 _ _ _ x2
  have h1 : SegmentRead u s x1 := h.ite (h.wrRsv hu (by decide))
  have h2 : SegmentRead u s x2 := (((h1.wrRsv hu (by decide)).wrRsv hu (by decide)).event hu).updPch
  exact h1.ite ((h2.failPch hu).ite h2)

theorem badLine {line : Nat} (hu : u < 4) (h : SegmentRead u s t) : SegmentRead u s (t.badLine line) := by
  unfold State.badLine; exact h.ite (h.used.ecc hu)

theorem deliverSegment {h' i0 len : Nat} {dead fs : List Nat} (h : SegmentRead u s t) :
    SegmentRead u s (t.deliverSegment u h' i0 len dead fs) := by
  unfold State.deliverSegment
  extract_lets
  split
  next y _ eq =>
    have hy : SegmentRead u s y := of_eq (List.foldlRecOn (motive := fun z : State × Nat => SegmentRead u s z.1) _ _ h
      fun _ hz _ _ => (hz.foldl fun _ _ hw => hw.enterAll).enterAll) eq
    exact hy.foldl fun _ _ hz => hz.enterAll

end SegmentRead

namespace State

variable {s : State} {u : Nat}

/-- Segment g leaves the unit for its flows: its mark, then its samples split around what is not there, or one record that it is lost. -/
def readSegment (s : State) (u : Nat) (bad : List Nat) (g : CapSeg) (rest : List CapSeg) : State :=
  let h := s.rd (Obj.TRIG_CAP_TUNER u)
  let step := s.capStep u
  let len := s.rd (Obj.TRIG_CAP_LEN u)
  let i0 := g.t / step - s.rd (Obj.TRIG_CAP_PRE u)
  let first := i0 * step
  let last := (i0 + len - 1) * step
  let fs := s.sourceFlows 6 u
  let s := s.updCap u fun c => { c with segs := rest }
  let s := s.enterAll fs (g.capMark u)
  if Nat.blt first (s.rd (Obj.RSV_HIST_OLDEST h)) then
    (s.count (Obj.TRIG_CAP_LOST u)).enterAll fs (gapRecord 7 u first last 8 1 0)
  else
    let lines := (List.range ((i0 + len - 1) / 64 - i0 / 64 + 1)).map fun j => i0 / 64 + j
    let s := lines.foldl (fun s l => s.access (s.physLine h l) (captureRq u) true) s
    let s := (lines.filter bad.contains).foldl (fun s l => s.badLine (s.physLine h l)) s
    s.deliverSegment u h i0 len (lines.filter fun l => bad.contains l || s.deadLine (s.physLine h l)) fs

theorem readSegment_read (s : State) {u : Nat} (hu : u < 4) (bad : List Nat) (g : CapSeg) (rest : List CapSeg) :
    SegmentRead u (s.updCap u fun c => { c with segs := rest }) (s.readSegment u bad g rest) := by
  unfold readSegment
  extract_lets h step len i0 first last fs x y lines y1 y2
  have hy : SegmentRead u x y := (SegmentRead.refl u x).enterAll
  have hlost : SegmentRead u x (y.count (Obj.TRIG_CAP_LOST u)) := hy.wr (by unfold Obj.TRIG_CAP_SEGS Obj.TRIG_CAP_LOST key; omega)
  have h1 : SegmentRead u x y1 := hy.foldl fun _ _ hz => hz.access hu
  have h2 : SegmentRead u x y2 := h1.foldl fun _ _ hz => hz.badLine hu
  exact hlost.enterAll.ite h2.deliverSegment

/-- A segment that has been read is counted; the last one of an arming ends it. -/
def countSegment (s : State) (u : Nat) (g : CapSeg) : State :=
  let n := s.rd (Obj.TRIG_CAP_SEGS u) + 1
  let s := (s.wr (Obj.TRIG_CAP_SEGS u) (min (2 ^ 32 - 1) n)).wr (Obj.TRIG_CAP_LAST u) g.t
  let cnt := s.rd (Obj.TRIG_CAP_COUNT u)
  if cnt != 0 && Nat.ble cnt n then s.wr (Obj.TRIG_CAP_STATE u) 4 else s

theorem countSegment_counts (s : State) (u : Nat) (g : CapSeg) :
    (s.countSegment u g).rest = s.rest ∧ (s.countSegment u g).rd (Obj.TRIG_CAP_LAST u) = g.t ∧
      (s.countSegment u g).rd (Obj.TRIG_CAP_SEGS u) = min (2 ^ 32 - 1) (s.rd (Obj.TRIG_CAP_SEGS u) + 1) := by
  have hne : Obj.TRIG_CAP_SEGS u ≠ Obj.TRIG_CAP_LAST u ∧ Obj.TRIG_CAP_LAST u ≠ Obj.TRIG_CAP_STATE u ∧
      Obj.TRIG_CAP_SEGS u ≠ Obj.TRIG_CAP_STATE u := by
    unfold Obj.TRIG_CAP_SEGS Obj.TRIG_CAP_LAST Obj.TRIG_CAP_STATE key; omega
  unfold countSegment
  extract_lets n y cnt
  have hrest : y.rest = s.rest := rfl
  have hlast : y.rd (Obj.TRIG_CAP_LAST u) = g.t := rd_wr_same ..
  have hsegs : y.rd (Obj.TRIG_CAP_SEGS u) = min (2 ^ 32 - 1) n := by
    unfold y; rw [rd_wr_other _ _ _ _ hne.1, rd_wr_same]
  clear_value y
  split
  · rw [rd_wr_other _ _ _ _ hne.2.1, rd_wr_other _ _ _ _ hne.2.2]
    exact ⟨hrest, hlast, hsegs⟩
  · exact ⟨hrest, hlast, hsegs⟩

/-- The clause of R149: the oldest segment, whose samples the ring holds. -/
theorem captureSegmentRead_delivers {bad : List Nat} {g : CapSeg} {rest : List CapSeg} (hsz : s.Sized) (hu : u < 4)
    (hsegs : (s.cap u).segs = g :: rest)
    (hheld : (g.t / s.capStep u - s.rd (Obj.TRIG_CAP_PRE u) + s.rd (Obj.TRIG_CAP_LEN u) - 1) * s.capStep u ≤
      s.rd (Obj.RSV_HIST_NEWEST (s.rd (Obj.TRIG_CAP_TUNER u))))
    (hrun : s.rd (Obj.RSV_HIST_STATE (s.rd (Obj.TRIG_CAP_TUNER u))) ≠ 2)
    (hask : s.mayAsk (s.linePch (s.physLine (s.rd (Obj.TRIG_CAP_TUNER u)) ((g.t / s.capStep u - s.rd (Obj.TRIG_CAP_PRE u)) / 64)))
      (captureRq u) = true) :
    ∃ t, exec (.captureSegmentRead u bad) s = .next t ∧ (t.cap u).segs = rest ∧ t.rd (Obj.TRIG_CAP_LAST u) = g.t ∧
      t.rd (Obj.TRIG_CAP_SEGS u) = min (2 ^ 32 - 1) (s.rd (Obj.TRIG_CAP_SEGS u) + 1) ∧ (∀ i, i ≠ u → t.cap i = s.cap i) ∧
      t.chans = s.chans ∧ t.tuners = s.tuners ∧ t.control = s.control := by
  have hexec : exec (.captureSegmentRead u bad) s = done s ((s.readSegment u bad g rest).countSegment u g) := by
    have hblt : Nat.blt (s.rd (Obj.RSV_HIST_NEWEST (s.rd (Obj.TRIG_CAP_TUNER u))))
        ((g.t / s.capStep u - s.rd (Obj.TRIG_CAP_PRE u) + s.rd (Obj.TRIG_CAP_LEN u) - 1) * s.capStep u) = false := by
      rw [← Bool.not_eq_true, Nat.blt_eq]; exact Nat.not_lt_of_le hheld
    show execCaptureSegmentRead u bad s = _
    unfold execCaptureSegmentRead
    rw [hsegs]
    dsimp only
    rw [hblt, beq_eq_false_iff_ne.mpr hrun, hask, if_neg (by decide)]
    rfl
  have hread := s.readSegment_read hu bad g rest
  obtain ⟨hrest, hlast, hcount⟩ := (s.readSegment u bad g rest).countSegment_counts u g
  generalize s.readSegment u bad g rest = y at hexec hread hrest hlast hcount
  generalize y.countSegment u g = t at hexec hrest hlast hcount
  have hdown : Downstream s t := ((Downstream.refl s).updCap.trans hread.down).ofRest hrest
  have hcap (i : Nat) : t.cap i = (s.updCap u fun c => { c with segs := rest }).cap i :=
    (cap_of_trig (congrArg State.trig hrest :) i).trans (cap_of_trig hread.trig i)
  refine ⟨t, hexec.trans (done_eq (congrArg State.wall hdown.control :) (congrArg State.pending hdown.control :)), ?_, hlast,
    hcount.trans (by rw [hread.segs]; rfl), fun i hi => (hcap i).trans (cap_updCap_other _ hi), hdown.chans, hdown.tuners, hdown.control⟩
  rw [hcap, cap_updCap_same _ (by rw [hsz.caps_length]; exact hu)]

end State

/-- Settles O10: each clause is the lemma of its command. -/
theorem outputAndCaptureCommands : Obligations.OutputAndCaptureCommands := by
  unfold Obligations.OutputAndCaptureCommands
  refine ⟨?_, ?_, ?_, ?_, ?_, ?_, ?_, ?_, ?_, ?_⟩
  · exact fun s n h => State.outLevel_low h
  · exact fun s n hready hown hrun => State.outLevel_pin hready hown hrun
  · exact fun s n l w rest hsz hn hq hl htick hlock hmode => State.trigOutLaunch_raises hsz hn hq hl htick hlock hmode
  · exact fun s n hsz hn hmode hhigh htick => State.trigOutPulseEnd_falls hsz hn hmode hhigh htick
  · exact fun s sess tag n v hsz hn hs => State.trigOutModeWrite_writes hsz hn hs
  · exact fun s sess tag m v hsz hm hs hswap => State.trigMaskSegsWrite_stages hsz hm hs hswap
  · exact fun s sess tag m v hsz hm hs hswap hfield hseg => State.trigMaskWrite_stages hsz hm hs hswap hfield hseg
  · exact fun s sess tag u hsz hu hs hon => State.trigCapArm_fills hsz hu hs hon
  · exact fun s u hst htick => State.captureFillEnd_arms hst htick
  · exact fun s u bad g rest hsz hu hsegs hheld hrun hask => State.captureSegmentRead_delivers hsz hu hsegs hheld hrun hask

end Sys2Proof.Machine

/-! ## Density planes (R158 to R168): O11 -/

namespace Sys2Proof.Machine

set_option Elab.async false

namespace State

variable {s : State} {p i : Nat}

theorem Sized.planes_length (h : s.Sized) : s.planes.length = 8 := congrArg (·.getD 11 0) h
theorem Sized.plane_lt (h : s.Sized) (hp : p < 8) : p < s.planes.length := by rw [h.planes_length]; exact hp

theorem plane_updPlane_same (f : Plane → Plane) (h : p < s.planes.length) : (s.updPlane p f).plane p = f (s.plane p) := at'_modify_same f h
theorem plane_updPlane_other (f : Plane → Plane) (h : i ≠ p) : (s.updPlane p f).plane i = s.plane i := at'_modify_other f h
theorem plane_of_planes {t : State} (h : t.planes = s.planes) (i : Nat) : t.plane i = s.plane i := by unfold plane; rw [h]

end State

/-! ### Work that changes one plane alone -/

/-- Between `s` and `t` no more differs than objects and plane p, whose view is the same. -/
structure PlaneFrame {β : Type} (view : Plane → β) (p : Nat) (s t : State) : Prop where
  rest : t.rest = { s.rest with planes := t.planes }
  length : t.planes.length = s.planes.length
  sess : t.sess = s.sess
  log : t.log = s.log
  plane : ∀ i, i ≠ p → t.plane i = s.plane i
  kept : view (t.plane p) = view (s.plane p)

/-- What waits at a plane: its column sets, and the boundaries of its clears. -/
def Plane.waiting (x : Plane) : List ColSet × List Nat := (x.sets, x.clearAt)

/-- The plane without its waiting sets that are labelled below b. -/
def Plane.setsFrom (b : Nat) (x : Plane) : Plane := { x with sets := x.sets.filter fun y => !Nat.blt y.label b }

/-- The plane once Harvest h is read: its rows lie below these positions of the flows that bind the plane. -/
def Plane.complete (h : Harvest) (ends : List (Nat × Nat)) (x : Plane) : Plane := { x with reading := none, last := some h, staged := ends }

namespace PlaneFrame

variable {β : Type} {view : Plane → β} {p : Nat} {s t u : State}

theorem refl (s : State) : PlaneFrame view p s s := ⟨rfl, rfl, rfl, rfl, fun _ _ => rfl, rfl⟩

theorem trans (h : PlaneFrame view p s t) (h' : PlaneFrame view p t u) : PlaneFrame view p s u where
  rest := by rw [h'.rest, h.rest]
  length := h'.length.trans h.length
  sess := h'.sess.trans h.sess
  log := h'.log.trans h.log
  plane i hi := (h'.plane i hi).trans (h.plane i hi)
  kept := h'.kept.trans h.kept

/-- A view of the plane may be forgotten. -/
theorem forget (h : PlaneFrame view p s t) : PlaneFrame (fun _ => ()) p s t := { h with kept := rfl }

theorem wr {k v : Nat} (h : PlaneFrame view p s t) : PlaneFrame view p s (t.wr k v) := h.trans ⟨rfl, rfl, rfl, rfl, fun _ _ => rfl, rfl⟩

theorem count {k : Nat} (h : PlaneFrame view p s t) : PlaneFrame view p s (t.count k) := h.wr

/-- A change of the plane's record; that it leaves the view alone is seen once the change is known. -/
theorem updPlane {f : Plane → Plane} (h : PlaneFrame view p s t) (hf : ∀ x, view (f x) = view x := by intro x; rfl) :
    PlaneFrame view p s (t.updPlane p f) :=
  h.trans ⟨rfl, List.length_modify .., rfl, rfl, fun _ hi => State.plane_updPlane_other f hi,
    at'_modify_cases (fun x => view x = view (t.plane p)) rfl (hf _)⟩

theorem foldl {α : Type} {f : State → α → State} {l : List α} (h : PlaneFrame view p s t)
    (hf : ∀ a x, PlaneFrame view p s x → PlaneFrame view p s (f x a)) : PlaneFrame view p s (l.foldl f t) :=
  List.foldlRecOn l f h fun x hx a _ => hf a x hx

theorem ite {c : Prop} [Decidable c] (h : PlaneFrame view p s t) (h' : PlaneFrame view p s u) :
    PlaneFrame view p s (if c then t else u) := by
  split
  · exact h
  · exact h'

theorem sets (h : PlaneFrame Plane.waiting p s t) : (t.plane p).sets = (s.plane p).sets := congrArg Prod.fst h.kept
theorem clearAt (h : PlaneFrame Plane.waiting p s t) : (t.plane p).clearAt = (s.plane p).clearAt := congrArg Prod.snd h.kept

/-- The swap that is due at a unit, of which a plane's work knows nothing. -/
theorem due (h : PlaneFrame view p s t) (g : Nat) (v : UnitId) : t.due g v = s.due g v := by
  have hswaps : t.swaps = s.swaps := (congrArg State.swaps h.rest :)
  have htick : t.tick = s.tick := (congrArg State.tick h.rest :)
  unfold State.due
  rw [hswaps, htick]

theorem done (h : PlaneFrame view p s t) : done s t = .next t :=
  done_eq (congrArg State.wall h.rest :) (congrArg State.pending h.rest :)

end PlaneFrame

namespace State

variable {s : State} {p b : Nat}

/-! ### Column sets (R157 to R161) -/

/-- A column set is counted: the cells after its hits, and its columns above and below the range, with cut fill, and its saturating hits. -/
def setApplied (s : State) (p : Nat) (m : Mem) (above below sat cut : Nat) : State :=
  (((((s.updPlane p fun x => { x with cells := m, since := x.since + 1 }).countN (Obj.CRYS_OVER p) above).countN (Obj.CRYS_UNDER p)
    below).countN (Obj.CRYS_SAT_HITS p) sat).countN (Obj.CRYS_FILL_CUT p) cut).wr (Obj.CRYS_SETS p) ((s.rd (Obj.CRYS_SETS p) + 1) % 2 ^ 64)

/-- A set of as many columns as the plane has is applied. -/
theorem applySet_match {x : ColSet} (h : x.cols.length = s.rd (Obj.CRYS_COLS p)) :
    ∃ m above below sat cut, s.applySet p x = s.setApplied p m above below sat cut := by
  unfold applySet
  extract_lets rows
  rw [if_neg (by rw [h]; simp)]
  split
  next m sat cut _ =>
    refine ⟨m, rows.countP fun r => r.2 == 1, rows.countP fun r => r.2 == 2, sat, cut, ?_⟩
    extract_lets _ y
    have hne : Obj.CRYS_SETS p ≠ Obj.CRYS_OVER p ∧ Obj.CRYS_SETS p ≠ Obj.CRYS_UNDER p ∧ Obj.CRYS_SETS p ≠ Obj.CRYS_SAT_HITS p := by
      unfold Obj.CRYS_SETS Obj.CRYS_OVER Obj.CRYS_UNDER Obj.CRYS_SAT_HITS key; omega
    have hsets : y.rd (Obj.CRYS_SETS p) = s.rd (Obj.CRYS_SETS p) := by
      unfold y; rw [rd_countN, if_neg hne.2.2, rd_countN, if_neg hne.2.1, rd_countN, if_neg hne.1]; rfl
    rw [hsets]
    rfl

/-- A set of another number of columns is counted and nothing more (R173). -/
theorem applySet_mismatch {x : ColSet} (h : x.cols.length ≠ s.rd (Obj.CRYS_COLS p)) : s.applySet p x = s.count (Obj.CRYS_SET_MISMATCH p) :=
  if_pos (bne_iff_ne.mpr h)

theorem setApplied_frame (s : State) (p : Nat) (m : Mem) (above below sat cut : Nat) :
    PlaneFrame Plane.waiting p s (s.setApplied p m above below sat cut) :=
  (PlaneFrame.refl s).updPlane.wr.wr.wr.wr.wr

theorem setApplied_only (s : State) (p : Nat) (m : Mem) (above below sat cut : Nat) :
    s.only (s.setApplied p m above below sat cut)
      [Obj.CRYS_OVER p, Obj.CRYS_UNDER p, Obj.CRYS_SAT_HITS p, Obj.CRYS_FILL_CUT p, Obj.CRYS_SETS p] := by
  intro q hq
  simp only [List.mem_cons, List.not_mem_nil, or_false, not_or] at hq
  obtain ⟨hover, hunder, hsat, hcut, hsets⟩ := hq
  unfold setApplied
  rw [rd_wr_other _ _ _ _ hsets, rd_countN, if_neg hcut, rd_countN, if_neg hsat, rd_countN, if_neg hunder, rd_countN, if_neg hover]
  rfl

theorem applySet_frame (s : State) (p : Nat) (x : ColSet) : PlaneFrame Plane.waiting p s (s.applySet p x) := by
  by_cases h : x.cols.length = s.rd (Obj.CRYS_COLS p)
  · obtain ⟨m, above, below, sat, cut, hx⟩ := applySet_match h
    rw [hx]; exact s.setApplied_frame ..
  · rw [applySet_mismatch h]; exact (PlaneFrame.refl s).count

/-- The clause of R158: the oldest waiting set, which no boundary precedes. -/
theorem columnSetApply_applies {x : ColSet} {rest : List ColSet} (hsz : s.Sized) (hp : p < 8) (hsets : (s.plane p).sets = x :: rest)
    (hlabel : x.label < (s.plane p).next) (hon : s.rdB (Obj.CRYS_ENABLE p) = true) (hcols : x.cols.length = s.rd (Obj.CRYS_COLS p)) :
    ∃ t, exec (.columnSetApply p) s = .next t ∧ (t.plane p).sets = rest ∧ (t.plane p).since = (s.plane p).since + 1 ∧
      t.rd (Obj.CRYS_SETS p) = (s.rd (Obj.CRYS_SETS p) + 1) % 2 ^ 64 ∧ (∀ i, i ≠ p → t.plane i = s.plane i) ∧
      t.rest = { s.rest with planes := t.planes } ∧ t.sess = s.sess ∧ t.log = s.log ∧
      s.only t [Obj.CRYS_OVER p, Obj.CRYS_UNDER p, Obj.CRYS_SAT_HITS p, Obj.CRYS_FILL_CUT p, Obj.CRYS_SETS p] := by
  have hlen : p < s.planes.length := hsz.plane_lt hp
  obtain ⟨y, hy⟩ : ∃ y, y = s.updPlane p fun x => { x with sets := x.sets.drop 1 } := ⟨_, rfl⟩
  have hyp : y.plane p = { s.plane p with sets := rest } := by
    rw [hy, plane_updPlane_same _ hlen, hsets]; rfl
  have hylen : p < y.planes.length := by rw [hy]; exact (List.length_modify ..).symm ▸ hlen
  have hyo : y.obj = s.obj := by rw [hy]; rfl
  obtain ⟨m, above, below, sat, cut, ha⟩ := applySet_match (s := y) (p := p) (hcols.trans (rd_of_obj hyo _).symm)
  have hexec : exec (.columnSetApply p) s = done s (y.setApplied p m above below sat cut) := by
    rw [← ha]
    show execColumnSetApply p s = _
    unfold execColumnSetApply
    rw [hsets]
    dsimp only
    rw [Nat.blt_eq.mpr hlabel, if_pos rfl, ← hy, if_pos (by unfold rdB at hon ⊢; rw [rd_of_obj hyo]; exact hon)]
  have hwork := y.setApplied_frame p m above below sat cut
  have hframe : PlaneFrame (fun _ => ()) p s (y.setApplied p m above below sat cut) := by
    refine .trans ?_ hwork.forget
    rw [hy]
    exact (PlaneFrame.refl s).updPlane
  refine ⟨_, hexec.trans hframe.done, ?_, ?_, ?_, hframe.plane, hframe.rest, hframe.sess, hframe.log, fun q hq => ?_⟩
  · rw [hwork.sets, hyp]
  · exact (congrArg Plane.since (plane_updPlane_same _ hylen)).trans (congrArg (·.since + 1) hyp)
  · exact (rd_wr_same ..).trans (by rw [rd_of_obj hyo])
  · exact (y.setApplied_only p m above below sat cut q hq).trans (rd_of_obj hyo q)

/-! ### The grid (R160 to R166) -/

theorem takeHarvest_frame (s : State) (p b : Nat) : PlaneFrame Plane.waiting p s (s.takeHarvest p b) := by
  unfold takeHarvest
  exact (PlaneFrame.refl s).updPlane.wr.wr.wr

theorem harvestStep_frame (s : State) (p b : Nat) : PlaneFrame Plane.waiting p s (s.harvestStep p b) := by
  unfold harvestStep
  extract_lets _ _ y
  have hy : PlaneFrame Plane.waiting p s y := (PlaneFrame.refl s).updPlane.ite (.refl s)
  have htake := hy.trans (y.takeHarvest_frame p b)
  exact htake.ite ((hy.count.ite htake).ite hy)

/-- The first step takes the sets below the boundary; the others wait. -/
theorem applySetsBelow_frame (s : State) (p b : Nat) :
    PlaneFrame Plane.waiting p (s.updPlane p (Plane.setsFrom b)) (s.applySetsBelow p b) := by
  unfold applySetsBelow
  extract_lets _ y
  exact ((PlaneFrame.refl y).foldl fun x z hz => hz.trans (z.applySet_frame p x)).ite (.refl y)

theorem clearPlane_frame (s : State) (p b : Nat) : PlaneFrame Plane.sets p s (s.clearPlane p b) := by
  unfold clearPlane
  exact (PlaneFrame.refl s).updPlane.wr

/-- A clear empties the plane, and no clear waits at its boundary. -/
theorem clearPlane_clears (hlen : p < s.planes.length) :
    ((s.clearPlane p b).plane p).cells = [] ∧ ((s.clearPlane p b).plane p).clearAt.contains b = false ∧
      (s.clearPlane p b).rd (Obj.CRYS_LAST_CLEAR p) = b := by
  have hplane : (s.clearPlane p b).plane p = _ := plane_updPlane_same _ hlen
  refine ⟨by rw [hplane], ?_, rd_wr_same ..⟩
  rw [hplane]
  simp [Nat.blt_eq]

theorem planeJoint_none (h : s.due 5 ⟨.plane, p⟩ = none) : s.planeJoint p b = s := by
  unfold planeJoint
  rw [h]

/-- The steps of a boundary at which no Joint is due. -/
theorem takeBoundary_takes (hlen : p < s.planes.length) (hdue : s.due 5 ⟨.plane, p⟩ = none) :
    PlaneFrame (fun _ => ()) p s (s.takeBoundary p b) ∧ ((s.takeBoundary p b).plane p).next = b + 4194304 ∧
      (∀ x ∈ ((s.takeBoundary p b).plane p).sets, b ≤ x.label) ∧
      ((s.plane p).clearAt.contains b = true → ((s.takeBoundary p b).plane p).cells = [] ∧
        ((s.takeBoundary p b).plane p).clearAt.contains b = false ∧ (s.takeBoundary p b).rd (Obj.CRYS_LAST_CLEAR p) = b) := by
  have hsx : PlaneFrame Plane.clearAt p s (s.updPlane p (Plane.setsFrom b)) := (PlaneFrame.refl s).updPlane
  have h1 := s.applySetsBelow_frame p b
  have hxsets : ∀ y ∈ ((s.updPlane p (Plane.setsFrom b)).plane p).sets, b ≤ y.label := by
    rw [plane_updPlane_same _ hlen]
    simp [Plane.setsFrom, ← Bool.not_eq_true]
  generalize s.updPlane p (Plane.setsFrom b) = x at hsx h1 hxsets
  unfold takeBoundary
  extract_lets x1 g x2 taken x3 harvested x4 x5
  have h3 : PlaneFrame Plane.waiting p x x3 := (h1.updPlane.ite h1).trans (x2.harvestStep_frame p b)
  have h4 : PlaneFrame Plane.sets p x x4 := by
    have h3' : PlaneFrame Plane.sets p x x3 := { h3 with kept := h3.sets }
    exact (h3'.trans (x3.clearPlane_frame p b)).ite h3'
  have hs4 : PlaneFrame (fun _ => ()) p s x4 := hsx.forget.trans h4.forget
  have h5 : x5 = x4 := planeJoint_none ((hs4.due ..).trans hdue)
  have hlast := plane_updPlane_same (s := x4) (fun y => { y with next := b + planeGrid }) (by rw [hs4.length]; exact hlen)
  rw [h5]
  refine ⟨hs4.updPlane, by rw [hlast]; rfl, ?_, fun hclear => ?_⟩
  · rw [hlast]; exact h4.kept ▸ hxsets
  · have hdueClear : (x3.plane p).clearAt.any (fun c => Nat.ble c b) = true := by
      rw [h3.clearAt, hsx.kept]
      exact List.any_eq_true.mpr ⟨b, List.contains_iff_mem.mp hclear, Nat.ble_eq.mpr (Nat.le_refl b)⟩
    have hx4 : x4 = x3.clearPlane p b := if_pos (by rw [hdueClear]; rfl)
    rw [hlast, hx4]
    exact clearPlane_clears (by rw [h3.length, hsx.length]; exact hlen)

/-- A context that is not shed has nothing that a boundary would cover. -/
theorem coverShed_running {c : Nat} (h : s.rd (Obj.XFM_STATE c) ≠ 4) : s.coverShed c = s := if_neg h

/-- The clause of R161: the next boundary of a plane that may take it. -/
theorem planeBoundary_takes (hsz : s.Sized) (hp : p < 8) (hnext : s.planeNext p = some b) (hready : s.planeReady p b = true)
    (hdue : s.due 5 ⟨.plane, p⟩ = none) (hrun : ∀ c, c < 32 → s.rd (Obj.XFM_STATE c) ≠ 4) :
    ∃ t, exec (.planeBoundary p) s = .next t ∧ (t.plane p).next = b + 4194304 ∧ (∀ x ∈ (t.plane p).sets, b ≤ x.label) ∧
      ((s.plane p).clearAt.contains b = true → (t.plane p).cells = [] ∧ (t.plane p).clearAt.contains b = false ∧ t.rd (Obj.CRYS_LAST_CLEAR p) = b) ∧
      (∀ i, i ≠ p → t.plane i = s.plane i) ∧ t.rest = { s.rest with planes := t.planes } ∧ t.sess = s.sess ∧ t.log = s.log := by
  have hcover : (List.range 32).foldl coverShed s = s := foldl_eq_self fun c hc => coverShed_running (hrun c (List.mem_range.mp hc))
  have hexec : exec (.planeBoundary p) s = done s (s.takeBoundary p b) := by
    show execPlaneBoundary p s = _
    unfold execPlaneBoundary
    rw [hnext, Nat.blt_eq.mpr hp, if_neg (by decide)]
    dsimp only
    rw [hcover, hready, if_neg (by decide)]
  obtain ⟨hframe, htn, hsets, hclear⟩ := takeBoundary_takes (b := b) (hsz.plane_lt hp) hdue
  exact ⟨_, hexec.trans hframe.done, htn, hsets, hclear, hframe.plane, hframe.rest, hframe.sess, hframe.log⟩

/-! ### A Harvest that is read (R167, R168) -/

/-- An operation that changes flows, and the records that a standby holds for them, changes these alone however often it is done. -/
theorem foldl_flows_eq {α : Type} {f : State → α → State} (hf : ∀ s a, ∃ x y, f s a = { s with flows := x, twin := y }) (l : List α)
    (s : State) : ∃ x y, l.foldl f s = { s with flows := x, twin := y } := by
  refine List.foldlRecOn (motive := fun t : State => ∃ x y, t = { s with flows := x, twin := y }) _ _ ⟨s.flows, s.twin, rfl⟩ ?_
  rintro _ ⟨x, y, rfl⟩ a -
  obtain ⟨x', y', h⟩ := hf { s with flows := x, twin := y } a
  exact ⟨x', y', h⟩

theorem enterAll_eq (s : State) (fs : List Nat) (r : Record) : ∃ x y, s.enterAll fs r = { s with flows := x, twin := y } :=
  foldl_flows_eq (fun s f => s.enter_eq f r) fs s

/-- The clause of R168: the read ends, and the Harvest is the newest complete one. -/
theorem harvestReadDone_completes {h : Harvest} (hsz : s.Sized) (hp : p < 8) (hreading : (s.plane p).reading = some h) :
    ∃ t, exec (.harvestReadDone p) s = .next t ∧ (t.plane p).reading = none ∧ (t.plane p).last = some h ∧
      (∀ i, i ≠ p → t.plane i = s.plane i) ∧ t.rest = { s.rest with planes := t.planes, flows := t.flows, twin := t.twin } ∧
      t.obj = s.obj ∧ t.sess = s.sess ∧ t.log = s.log := by
  have hlen : p < s.planes.length := hsz.plane_lt hp
  obtain ⟨x, y, hrows⟩ := foldl_flows_eq (fun z r => z.enterAll_eq (s.sourceFlows 4 p) (h.row p r)) (List.range h.rows) s
  have hexec : exec (.harvestReadDone p) s = done s (State.updPlane { s with flows := x, twin := y } p
      (Plane.complete h ((s.sourceFlows 4 p).map fun f => (f, (at' x f).pos)))) := by
    show execHarvestReadDone p s = _
    unfold execHarvestReadDone
    rw [hreading]
    dsimp only
    rw [hrows]
    rfl
  have hplane := plane_updPlane_same (s := { s with flows := x, twin := y })
    (Plane.complete h ((s.sourceFlows 4 p).map fun f => (f, (at' x f).pos))) hlen
  exact ⟨_, hexec.trans (done_eq rfl rfl), congrArg Plane.reading hplane, congrArg Plane.last hplane, fun i hi => plane_updPlane_other _ hi,
    rfl, rfl, rfl, rfl⟩

/-! ### CRYS_CLEAR and CRYS_HARV_CMD (R164, R165) -/

/-- A served write whose body changes the plane's record and answers OK. -/
theorem direct_updPlane {sess tag k v : Nat} {body : Req → State → State} {f : Plane → Plane} (hsz : s.Sized) (hp : p < 8)
    (hs : s.serves sess tag k v = true)
    (hbody : ∀ r, body r (s.hear sess) = ((s.hear sess).updPlane p f).answer r .ok) :
    ∃ t, done s (s.direct sess tag k v body) = .next t ∧ s.replied t sess tag k .ok ∧ t.plane p = f (s.plane p) ∧
      (∀ i, i ≠ p → t.plane i = s.plane i) ∧ t.rest = { s.rest with planes := t.planes } ∧ t.obj = s.obj ∧ t.log = s.log := by
  have hlen : p < (s.hear sess).planes.length := hsz.plane_lt hp
  have hy : PlaneFrame (fun _ => ()) p (s.hear sess) ((s.hear sess).updPlane p f) := (PlaneFrame.refl _).updPlane
  have hyp := plane_updPlane_same f hlen
  have hyo : ((s.hear sess).updPlane p f).obj = s.obj := rfl
  have hys : ((s.hear sess).updPlane p f).sess = (s.hear sess).sess := rfl
  rw [direct_serves _ hs, hbody]
  generalize (s.hear sess).updPlane p f = y at hy hyp hyo hys
  have hrest : (y.answer ⟨sess, (s.ses sess).inc, tag, k⟩ .ok).rest =
      { s.rest with planes := (y.answer ⟨sess, (s.ses sess).inc, tag, k⟩ .ok).planes } := by
    rw [answer_planes, answer_rest]; exact hy.rest
  exact ⟨_, done_eq (congrArg State.wall hrest :) (congrArg State.pending hrest :), replied_answer _ (serves_takes hs) _ hys,
    (plane_of_planes (answer_planes ..) p).trans hyp, fun i hi => (plane_of_planes (answer_planes ..) i).trans (hy.plane i hi), hrest,
    (answer_obj ..).trans hyo, (answer_log ..).trans hy.log⟩

/-- The clause of R164: the first clear at the next grid boundary. -/
theorem crysClear_waits {sess tag : Nat} (hsz : s.Sized) (hp : p < 8) (hs : s.serves sess tag (Obj.CRYS_CLEAR p) 1 = true)
    (hnone : (s.plane p).clearAt.contains s.nextGrid = false) :
    ∃ t, exec (.crysClear sess tag p 1) s = .next t ∧ s.replied t sess tag (Obj.CRYS_CLEAR p) .ok ∧
      t.plane p = { s.plane p with clearAt := (s.plane p).clearAt ++ [(s.tick / 4194304 + 1) * 4194304] } ∧
      (∀ i, i ≠ p → t.plane i = s.plane i) ∧ t.rest = { s.rest with planes := t.planes } ∧ t.obj = s.obj ∧ t.log = s.log := by
  obtain ⟨t, ht, hrep, hplane, hframe⟩ := direct_updPlane (body := clearCmd p 1) hsz hp hs fun _ => rfl
  refine ⟨t, ht, hrep, ?_, hframe⟩
  rw [hplane]
  show { s.plane p with
    clearAt := if (s.plane p).clearAt.contains s.nextGrid then (s.plane p).clearAt else (s.plane p).clearAt ++ [s.nextGrid] } = _
  rw [hnone]
  rfl

/-- The clause of R165: a Harvest at the next grid boundary, while none is read and none waits. -/
theorem crysHarvCmd_waits {sess tag : Nat} (hsz : s.Sized) (hp : p < 8) (hs : s.serves sess tag (Obj.CRYS_HARV_CMD p) 1 = true)
    (hread : (s.plane p).reading = none) (hnone : (s.plane p).harvAt = none) :
    ∃ t, exec (.crysHarvCmd sess tag p 1) s = .next t ∧ s.replied t sess tag (Obj.CRYS_HARV_CMD p) .ok ∧
      t.plane p = { s.plane p with harvAt := some ((s.tick / 4194304 + 1) * 4194304) } ∧
      (∀ i, i ≠ p → t.plane i = s.plane i) ∧ t.rest = { s.rest with planes := t.planes } ∧ t.obj = s.obj ∧ t.log = s.log := by
  refine direct_updPlane (body := harvestCmd p 1) (f := fun x => { x with harvAt := some s.nextGrid }) hsz hp hs fun r => ?_
  have hfree : (((s.hear sess).plane p).reading.isSome || ((s.hear sess).plane p).harvAt.isSome) = false := by
    show ((s.plane p).reading.isSome || (s.plane p).harvAt.isSome) = false
    rw [hread, hnone]; rfl
  unfold harvestCmd
  rw [if_neg (by decide), hfree, if_neg (by decide)]
  rfl

end State

/-- Settles O11: each clause is the lemma of its command. -/
theorem planeCommands : Obligations.PlaneCommands := by
  unfold Obligations.PlaneCommands
  refine ⟨?_, ?_, ?_, ?_, ?_⟩
  · exact fun s p x rest hsz hp hsets hlabel hon hcols => State.columnSetApply_applies hsz hp hsets hlabel hon hcols
  · exact fun s p b hsz hp hnext hready hdue hrun => State.planeBoundary_takes hsz hp hnext hready hdue hrun
  · exact fun s p h hsz hp hreading => State.harvestReadDone_completes hsz hp hreading
  · exact fun s sess tag p hsz hp hs hnone => State.crysClear_waits hsz hp hs hnone
  · exact fun s sess tag p hsz hp hs hread hnone => State.crysHarvCmd_waits hsz hp hs hread hnone

end Sys2Proof.Machine

/-! ## History rings and replay (R180, R182, R197, R198): O12

`Obligations.RingsAndReplay` fails at a ring's Joint. It takes the flows that hold frames of the ring by reference from the state before the
Joint. A flow of a capture unit (FLOW_SRC 6) reads its ring's number from TRIG_CAP_TUNER of the unit FLOW_SRC_INDEX, and the statement does not
hold that index below 4, the number of capture units: at index 5Bh the key is that of RSV_HIST_PANS 3, which the Joint of ring 3 may write. -/

namespace Sys2Proof.Machine

set_option Elab.async false

namespace State

variable {s t x : State} {b : Nat} {w : Swap}

theorem flow_of_done (h : done s x = .next t) (f : Nat) : t.flow f = x.flow f := by
  unfold done at h
  injection h with h
  subst h
  rfl

/-- HIST_RING_JOINT of a ring whose swap is due: the change applies, and the ring's values follow it. -/
theorem exec_histRingJoint_ring {h : Nat} (h20 : h < 20) (hdue : s.due 6 ⟨.ring, h⟩ = some (w, b)) :
    exec (.histRingJoint h) s =
      done s ((s.applyChange w 6 ⟨.ring, h⟩ b).ringAfter h b (s.rdB (Obj.RSV_HIST_ENABLE h)) (s.rd (Obj.RSV_HIST_PANS h))) := by
  show done s (if h < 20 then _ else _) = _
  rw [if_pos h20, joint_due hdue]

end State

/-- A swap that gives ring 3, which stays disabled, three pans. -/
def pansSwap : Swap :=
  { id := 1, req := ⟨1, 0, 7, Obj.DEV_COMMIT⟩, sess := 1, seq := 1, groups := 2 ^ 6, validating := false, served := 0
    vals := [(Obj.RSV_HIST_PANS 3, 3)], units := [⟨6, ⟨.ring, 3⟩, 0⟩] }

/-- Flow 5 runs and holds a frame; its source is the capture unit of index 5Bh, and `pansSwap` is due at ring 3. -/
def foreignCapture : State :=
  { (State.reset.wrAll [(Obj.FLOW_STATE 5, 2), (Obj.FLOW_SRC 5, 6), (Obj.FLOW_SRC_INDEX 5, 0x5B)]).updFlow 5 fun x =>
      { x with frames := [{ seq := 0, pos := 0, words := [], firstRec := 0, tick := 0 }] } with
    swaps := [pansSwap] }

/-- The key that flow 5 takes its ring's number from is the one that the swap writes. -/
theorem capTuner_foreign : Obj.TRIG_CAP_TUNER 0x5B = Obj.RSV_HIST_PANS 3 := rfl

theorem foreignCapture_sized : foreignCapture.Sized := by unfold State.Sized; decide +kernel

theorem foreignCapture_due : foreignCapture.due 6 ⟨.ring, 3⟩ = some (pansSwap, 0) := by decide +kernel

/-- Before the Joint the flow's number of a ring is 0, so ring 3 has no flow. -/
theorem foreignCapture_refFlows : foreignCapture.refFlows 3 = [] := by decide +kernel

/-- At the Joint the number is 3, so the flow's frame is lost with the disabled ring's content. -/
theorem foreignCapture_joint_loses :
    (((foreignCapture.applyChange pansSwap 6 ⟨.ring, 3⟩ 0).ringAfter 3 0 (foreignCapture.rdB (Obj.RSV_HIST_ENABLE 3))
      (foreignCapture.rd (Obj.RSV_HIST_PANS 3))).flow 5).frames = [] := by decide +kernel

/-- Refutes O12: in `foreignCapture` no flow holds frames of ring 3 before its Joint, and yet flow 5 loses its frame at the Joint, where the
second clause has everything but the Reservoir, generations, swaps and owners stay as it was. -/
theorem not_ringsAndReplay : ¬ Obligations.RingsAndReplay := by
  unfold Obligations.RingsAndReplay
  rintro ⟨-, hjoint, -⟩
  obtain ⟨t, ht, -, -, -, hkeep⟩ := hjoint foreignCapture 3 0 pansSwap foreignCapture_sized (by decide) foreignCapture_due
  obtain ⟨-, hrest, -⟩ := hkeep fun f hf => by rw [foreignCapture_refFlows] at hf; cases hf
  rw [State.exec_histRingJoint_ring (by decide) foreignCapture_due] at ht
  have hlost : (t.flow 5).frames = [] := by rw [State.flow_of_done ht]; exact foreignCapture_joint_loses
  have hflows : t.flows = foreignCapture.flows := (congrArg State.flows hrest :)
  have hheld : (t.flow 5).frames = (foreignCapture.flow 5).frames := by unfold State.flow; rw [hflows]
  exact absurd (hheld.symm.trans hlost) (by decide +kernel)

end Sys2Proof.Machine

/-! ## Requests of the pseudo-channels (R185, R189, R190): O13 -/

namespace Sys2Proof.Machine

set_option Elab.async false

namespace State

variable {s t : State} {k i : Nat}

theorem Sized.pch_length (h : s.Sized) : s.rsv.pch.length = 128 := congrArg (·.getD 3 0) h

theorem pch_updPch_same (f : Pch → Pch) (h : k < s.rsv.pch.length) : (s.updPch k f).pch k = f (s.pch k) := at'_modify_same f h
theorem pch_updPch_other (f : Pch → Pch) (h : i ≠ k) : (s.updPch k f).pch i = s.pch i := at'_modify_other f h
theorem pch_of_rsv (h : t.rsv = s.rsv) (i : Nat) : t.pch i = s.pch i := by unfold pch; rw [h]

theorem promote_nil (h : (s.pch k).waiting = []) : s.promote k = s := by unfold promote; rw [h]; rfl

theorem showOutstanding_rd (s : State) : s.showOutstanding.rd Obj.RSV_OUTSTANDING = s.showOutstanding.outstanding :=
  (rd_peak ..).trans <| (if_neg (by decide)).trans (rd_wr_same ..)

end State

/-! ### Work on requests -/

/-- Between `s` and `t` no more differs than pseudo-channels, flows and the objects named; where it is `loud`, it may raise events too. -/
structure RequestFrame (loud : Prop) (keys : List Nat) (s t : State) : Prop where
  rest : t.rest = { s.rest with rsv := { s.rsv with pch := t.rsv.pch }, flows := t.flows }
  quiet : ¬ loud → t.sess = s.sess ∧ t.log = s.log
  rd : ∀ q, q ∉ keys → (loud → eventKey q = false) → t.rd q = s.rd q

namespace RequestFrame

variable {loud : Prop} {keys : List Nat} {s t u : State}

theorem refl (s : State) : RequestFrame loud keys s s := ⟨rfl, fun _ => ⟨rfl, rfl⟩, fun _ _ _ => rfl⟩

theorem rsv (h : RequestFrame loud keys s t) : t.rsv = { s.rsv with pch := t.rsv.pch } := (congrArg State.rsv h.rest :)

theorem rest_rsv (h : RequestFrame loud keys s t) : t.rest = { s.rest with rsv := t.rsv, flows := t.flows } := by rw [h.rsv]; exact h.rest

theorem trans (h : RequestFrame loud keys s t) (h' : RequestFrame loud keys t u) : RequestFrame loud keys s u where
  rest := by rw [h'.rest, h.rest, h.rsv]
  quiet hl := ⟨(h'.quiet hl).1.trans (h.quiet hl).1, (h'.quiet hl).2.trans (h.quiet hl).2⟩
  rd q hq he := (h'.rd q hq he).trans (h.rd q hq he)

theorem ite {c : Prop} [Decidable c] (h : RequestFrame loud keys s t) (h' : RequestFrame loud keys s u) :
    RequestFrame loud keys s (if c then t else u) := by
  split
  · exact h
  · exact h'

theorem foldl {α : Type} {f : State → α → State} {l : List α} (h : RequestFrame loud keys s t)
    (hf : ∀ x a, RequestFrame loud keys s x → RequestFrame loud keys s (f x a)) : RequestFrame loud keys s (l.foldl f t) :=
  List.foldlRecOn l f h fun x hx a _ => hf x a hx

theorem wr {q v : Nat} (h : RequestFrame loud keys s t) (hq : q ∈ keys) : RequestFrame loud keys s (t.wr q v) :=
  h.trans ⟨rfl, fun _ => ⟨rfl, rfl⟩, fun _ hn _ => State.rd_wr_other _ _ _ _ fun e => hn (e ▸ hq)⟩

theorem updPch {k : Nat} {f : Pch → Pch} (h : RequestFrame loud keys s t) : RequestFrame loud keys s (t.updPch k f) :=
  h.trans ⟨rfl, fun _ => ⟨rfl, rfl⟩, fun _ _ _ => rfl⟩

theorem updFlow {f : Nat} {g : Flow → Flow} (h : RequestFrame loud keys s t) : RequestFrame loud keys s (t.updFlow f g) :=
  h.trans ⟨rfl, fun _ => ⟨rfl, rfl⟩, fun _ _ _ => rfl⟩

theorem event {c i e a b d : Nat} (h : RequestFrame loud keys s t) (hl : loud) : RequestFrame loud keys s (t.event c i e a b d) where
  rest := by
    have hr := State.event_rest t c i e a b d
    have hrsv : (t.event c i e a b d).rsv = t.rsv := (congrArg State.rsv hr :)
    have hflows : (t.event c i e a b d).flows = t.flows := (congrArg State.flows hr :)
    rw [hr, hrsv, hflows]; exact h.rest
  quiet hn := absurd hl hn
  rd q hq he := (State.event_rd _ _ _ _ _ _ _ _ (he hl)).trans (h.rd q hq he)

theorem ecc_corrected {k addr corrected : Nat} (h : RequestFrame loud keys s t) (hce : Obj.RSV_ECC_CE ∈ keys) :
    RequestFrame loud keys s (t.ecc k addr corrected 0) := by
  unfold State.ecc
  rw [if_pos rfl]
  exact h.ite (h.wr hce)

theorem done (h : RequestFrame loud keys s t) : done s t = .next t :=
  done_eq (congrArg State.wall h.rest :) (congrArg State.pending h.rest :)

/-! #### The queues (R14, R185) -/

theorem showOutstanding (h : RequestFrame loud keys s t) (hk : [Obj.RSV_OUTSTANDING, Obj.RSV_OUTSTANDING_PEAK] ⊆ keys) :
    RequestFrame loud keys s t.showOutstanding := by
  rw [List.cons_subset, List.cons_subset] at hk
  obtain ⟨hout, hpeak, -⟩ := hk
  exact (h.wr hout).wr hpeak

theorem enqueue {k : Nat} {q : Rq} (h : RequestFrame loud keys s t) (hk : [Obj.RSV_OUTSTANDING, Obj.RSV_OUTSTANDING_PEAK] ⊆ keys) :
    RequestFrame loud keys s (t.enqueue k q) := h.updPch.showOutstanding hk

theorem request {k : Nat} {q : Rq} (h : RequestFrame loud keys s t) (hk : [Obj.RSV_OUTSTANDING, Obj.RSV_OUTSTANDING_PEAK] ⊆ keys) :
    RequestFrame loud keys s (t.request k q) := by
  unfold State.request; exact h.ite ((h.enqueue hk).ite h.updPch)

theorem promote {k : Nat} (h : RequestFrame loud keys s t) (hk : [Obj.RSV_OUTSTANDING, Obj.RSV_OUTSTANDING_PEAK] ⊆ keys) :
    RequestFrame loud keys s (t.promote k) := h.foldl fun _ _ hx => (hx.updPch.enqueue hk).ite hx

end RequestFrame

/-! ### A request is served -/

/-- What a pseudo-channel keeps while the outcome of a request that has left its queue is settled. -/
def Pch.requests (p : Pch) : List Rq × List Rq × Bool := (p.queue, p.waiting, p.failed)

/-- As `RequestFrame`, where of the pseudo-channels only k changes, and not in what it holds. -/
structure ServeFrame (loud : Prop) (keys : List Nat) (k : Nat) (s t : State) : Prop where
  frame : RequestFrame loud keys s t
  other : ∀ i, i ≠ k → t.pch i = s.pch i
  kept : (t.pch k).requests = (s.pch k).requests

namespace ServeFrame

variable {loud : Prop} {keys : List Nat} {k : Nat} {s t u : State}

theorem refl (s : State) : ServeFrame loud keys k s s := ⟨.refl s, fun _ _ => rfl, rfl⟩

theorem ite {c : Prop} [Decidable c] (h : ServeFrame loud keys k s t) (h' : ServeFrame loud keys k s u) :
    ServeFrame loud keys k s (if c then t else u) := by
  split
  · exact h
  · exact h'

/-- Work that leaves the Reservoir as it was. -/
theorem ofRsv (h : ServeFrame loud keys k s t) (hu : RequestFrame loud keys s u) (hr : u.rsv = t.rsv) : ServeFrame loud keys k s u :=
  ⟨hu, fun i hi => (State.pch_of_rsv hr i).trans (h.other i hi), (congrArg Pch.requests (State.pch_of_rsv hr k)).trans h.kept⟩

theorem wr {q v : Nat} (h : ServeFrame loud keys k s t) (hq : q ∈ keys) : ServeFrame loud keys k s (t.wr q v) := h.ofRsv (h.frame.wr hq) rfl

theorem updFlow {f : Nat} {g : Flow → Flow} (h : ServeFrame loud keys k s t) : ServeFrame loud keys k s (t.updFlow f g) :=
  h.ofRsv h.frame.updFlow rfl

theorem event {c i e a b d : Nat} (h : ServeFrame loud keys k s t) (hl : loud) : ServeFrame loud keys k s (t.event c i e a b d) :=
  h.ofRsv (h.frame.event hl) (congrArg State.rsv (State.event_rest t c i e a b d) :)

theorem updPch {f : Pch → Pch} (h : ServeFrame loud keys k s t) (hf : ∀ p : Pch, (f p).requests = p.requests := by intro p; rfl) :
    ServeFrame loud keys k s (t.updPch k f) :=
  ⟨h.frame.updPch, fun i hi => (State.pch_updPch_other f hi).trans (h.other i hi),
    at'_modify_cases (fun p : Pch => p.requests = (s.pch k).requests) h.kept ((hf _).trans h.kept)⟩

theorem ecc_corrected {addr corrected : Nat} (h : ServeFrame loud keys k s t) (hce : Obj.RSV_ECC_CE ∈ keys) :
    ServeFrame loud keys k s (t.ecc k addr corrected 0) := by
  unfold State.ecc
  rw [if_pos rfl]
  exact h.ite (h.wr hce)

/-- A targeted refresh is charged to its requester in classes 3 and 4 alone (R190). -/
theorem causeTrr {id bank row : Nat} (h : ServeFrame loud keys k s t)
    (hc : 3 ≤ id / 2 ^ 12 → loud ∧ Obj.RSV_THROTTLE_COUNT ∈ keys ∧ Obj.RSV_THROTTLE_LAST ∈ keys) :
    ServeFrame loud keys k s (t.causeTrr k id bank row) := by
  unfold State.causeTrr
  split
  · exact h
  next hid =>
    obtain ⟨hl, hcount, hlast⟩ := hc (Nat.le_of_not_lt hid)
    extract_lets c n here already c' x y
    have hx : ServeFrame loud keys k s x := h.updPch
    have hy : ServeFrame loud keys k s y := (hx.wr hcount).wr hlast
    exact .ite (hy.ite (hy.event hl)) hx

end ServeFrame

/-- The request has left the queue of pseudo-channel k, and its outcome is settled. -/
structure Served (loud : Prop) (keys : List Nat) (k : Nat) (q : Rq) (s t : State) : Prop where
  frame : RequestFrame loud keys s t
  other : ∀ i, i ≠ k → t.pch i = s.pch i
  queue : (t.pch k).queue = (s.pch k).queue.erase q
  waiting : (t.pch k).waiting = (s.pch k).waiting
  failed : (t.pch k).failed = (s.pch k).failed

namespace State

variable {s t : State} {k i : Nat} {q : Rq}

/-- The request leaves, its outcome is settled, and then the scan-out reader and those that wait take their turns. -/
theorem serveRq_served {loud : Prop} {keys : List Nat} {bank row addr corrected : Nat} (hk : k < s.rsv.pch.length)
    (htrr : Obj.RSV_TRR_COUNT ∈ keys) (hce : Obj.RSV_ECC_CE ∈ keys)
    (hc : 3 ≤ q.cls → loud ∧ Obj.RSV_THROTTLE_COUNT ∈ keys ∧ Obj.RSV_THROTTLE_LAST ∈ keys) :
    ∃ x, Served loud keys k q s x ∧
      s.serveRq k bank row addr corrected 0 q = ((if q.cls = 2 then x.scanFetched else x).promote k).showOutstanding := by
  unfold serveRq
  split
  next rows n _ =>
    extract_lets hot rows' x1 x2 x3 x4
    refine ⟨x4, ?_, rfl⟩
    have h2 : ServeFrame loud keys k x1 x2 := .ite ((ServeFrame.refl x1).wr htrr |>.causeTrr hc) (.refl x1)
    have h3 : ServeFrame loud keys k x1 x3 := .ite (h2.ecc_corrected hce) h2
    have h4 : ServeFrame loud keys k x1 x4 := by
      unfold x4
      split
      · exact h3
      · exact h3.ite h3.updFlow
    have hpch : (x4.pch k).requests = ((s.pch k).queue.erase q, (s.pch k).waiting, (s.pch k).failed) :=
      h4.kept.trans (congrArg Pch.requests (pch_updPch_same _ hk))
    exact
      { frame := (RequestFrame.refl s).updPch.trans h4.frame
        other := fun i hi => (h4.other i hi).trans (pch_updPch_other _ hi)
        queue := congrArg Prod.fst hpch
        waiting := congrArg (fun p => p.2.1) hpch
        failed := congrArg (fun p => p.2.2) hpch }

/-- RESERVOIR_REQUEST_SERVE where nothing waits for a place. -/
theorem exec_reservoirRequestServe {bank row addr corrected : Nat} (hfailed : (s.pch k).failed = false) (hup : s.rsvUp = true)
    (hwaiting : (s.pch k).waiting = []) (hq : s.nextRq k = some q) :
    exec (.reservoirRequestServe k bank row addr corrected 0) s = done s (s.serveRq k bank row addr corrected 0 q) := by
  show done s (if (s.pch k).failed || !s.rsvUp then s else _) = _
  rw [hfailed, hup, if_neg (by decide), promote_nil hwaiting]
  dsimp only
  rw [hq]

/-- Objects that the serving of a request writes, where the requester is not the scan-out reader. -/
def servedKeys : List Nat :=
  [Obj.RSV_OUTSTANDING, Obj.RSV_OUTSTANDING_PEAK, Obj.RSV_TRR_COUNT, Obj.RSV_THROTTLE_COUNT, Obj.RSV_THROTTLE_LAST, Obj.RSV_ECC_CE]

/-- Objects that the serving of the scan-out reader's request writes. -/
def fetchedKeys : List Nat :=
  [Obj.RSV_OUTSTANDING, Obj.RSV_OUTSTANDING_PEAK, Obj.RSV_TRR_COUNT, Obj.RSV_ECC_CE, Obj.RSV_PANIC_COUNT]

/-- No object of the scan-out is among them. -/
theorem fetchedKeys_lt : ∀ q ∈ fetchedKeys, q < 0x680000 := by decide

/-- The clause of a requester other than the scan-out reader. -/
theorem reservoirRequestServe_leaves {bank row addr corrected : Nat} (hsz : s.Sized) (hk : k < 128) (hfailed : (s.pch k).failed = false)
    (hup : s.rsvUp = true) (hwaiting : (s.pch k).waiting = []) (hq : s.nextRq k = some q) (hcls : q.cls ≠ 2) :
    ∃ t, exec (.reservoirRequestServe k bank row addr corrected 0) s = .next t ∧ (t.pch k).queue = (s.pch k).queue.erase q ∧
      t.rd Obj.RSV_OUTSTANDING = t.outstanding ∧ (∀ i, i ≠ k → t.pch i = s.pch i) ∧
      t.rest = { s.rest with rsv := t.rsv, flows := t.flows } ∧
      s.onlyE t [Obj.RSV_OUTSTANDING, Obj.RSV_OUTSTANDING_PEAK, Obj.RSV_TRR_COUNT, Obj.RSV_THROTTLE_COUNT, Obj.RSV_THROTTLE_LAST,
        Obj.RSV_ECC_CE] := by
  obtain ⟨x, hx, heq⟩ := serveRq_served (loud := True) (keys := servedKeys) (q := q) (bank := bank) (row := row) (addr := addr)
    (corrected := corrected) (hsz.pch_length ▸ hk) (by decide) (by decide) fun _ => ⟨trivial, by decide, by decide⟩
  have hframe := hx.frame.showOutstanding (by decide)
  rw [exec_reservoirRequestServe hfailed hup hwaiting hq, heq, if_neg hcls, promote_nil (hx.waiting.trans hwaiting)]
  refine ⟨_, hframe.done, hx.queue, showOutstanding_rd x, hx.other, hframe.rest_rsv,
    fun r hr he => hframe.rd r hr fun _ => he⟩

/-! ### The scan-out reader (R184, R186, R283) -/

/-- The reader's panic level is told from the lines fetched and sent and from objects of the scan-out. -/
theorem scanPanicLevel_congr (hscan : t.scan = { s.scan with panic := t.scan.panic }) (hrd : ∀ q, 0x680000 ≤ q → t.rd q = s.rd q) :
    t.scanPanicLevel = s.scanPanicLevel := by
  have hfetched : t.scan.fetched = s.scan.fetched := by rw [hscan]
  have hline : t.scan.line = s.scan.line := by rw [hscan]
  have hsending : t.scan.sending = s.scan.sending := by rw [hscan]
  have hblank : t.scan.blank = s.scan.blank := by rw [hscan]
  have hon (l : Nat) : t.rd (Obj.SCAN_L_ENABLE l) = s.rd (Obj.SCAN_L_ENABLE l) := hrd _ (by unfold Obj.SCAN_L_ENABLE key; omega)
  unfold scanPanicLevel scanFetching rdB
  simp only [hfetched, hline, hsending, hblank, hon, hrd Obj.SCAN_TOL_LINES (by decide), hrd Obj.SCAN_VACTIVE (by decide)]

/-- The reader with its panic level as it stands. -/
def panicSet (s : State) : State := { s with scan := { s.scan with panic := s.scanPanicLevel } }

theorem setScanPanic_frame {loud : Prop} {keys : List Nat} (hk : Obj.RSV_PANIC_COUNT ∈ keys) :
    RequestFrame loud keys s.panicSet s.setScanPanic ∧ s.setScanPanic.rsv = s.rsv := by
  have hset : RequestFrame loud keys s.panicSet s.panicSet := .refl _
  unfold setScanPanic
  exact ⟨.ite (hset.wr hk) hset, by dsimp only; split <;> rfl⟩

/-- Where no pseudo-channel has failed, the reader's next line is asked for, and not had at once. -/
theorem scanReader_frame {loud : Prop} {keys : List Nat} (hlive : ∀ i, (s.pch i).failed = false)
    (hk : [Obj.RSV_OUTSTANDING, Obj.RSV_OUTSTANDING_PEAK] ⊆ keys) (hp : Obj.RSV_PANIC_COUNT ∈ keys) :
    RequestFrame loud keys s.panicSet s.scanReader := by
  obtain ⟨hframe, hrsv⟩ := setScanPanic_frame (s := s) (loud := loud) hp
  have hdead (line : Nat) : s.setScanPanic.deadLine line = false := by unfold deadLine; rw [pch_of_rsv hrsv]; exact hlive _
  unfold scanReader scanAsk
  extract_lets n
  refine .ite ?_ hframe
  rw [hdead, if_neg (by decide)]
  exact hframe.request hk

/-- The reader once the line of its request is fetched. -/
def lineFetched (s : State) : State := { s with scan := { s.scan with fetched := max (s.scan.fetched + 1) s.scan.line } }

theorem scanFetched_eq (s : State) : s.scanFetched = s.lineFetched.scanReader := rfl

/-- The clause of the scan-out reader. -/
theorem reservoirRequestServe_fetches {bank row addr corrected : Nat} (hsz : s.Sized) (hk : k < 128)
    (hlive : ∀ p ∈ s.rsv.pch, p.failed = false) (hup : s.rsvUp = true) (hwaiting : (s.pch k).waiting = []) (hq : s.nextRq k = some q)
    (hcls : q.cls = 2) :
    ∃ t, exec (.reservoirRequestServe k bank row addr corrected 0) s = .next t ∧ t.scan.fetched = max (s.scan.fetched + 1) s.scan.line ∧
      t.scan.panic = t.scanPanicLevel ∧ t.scan = { s.scan with fetched := t.scan.fetched, panic := t.scan.panic } ∧
      t.rd Obj.RSV_OUTSTANDING = t.outstanding ∧
      t.rest = { s.rest with rsv := t.rsv, scan := t.scan, flows := t.flows } ∧ t.sess = s.sess ∧ t.log = s.log ∧
      s.only t [Obj.RSV_OUTSTANDING, Obj.RSV_OUTSTANDING_PEAK, Obj.RSV_TRR_COUNT, Obj.RSV_ECC_CE, Obj.RSV_PANIC_COUNT] := by
  have hall (i : Nat) : (s.pch i).failed = false := by
    by_cases hi : i < s.rsv.pch.length
    · exact hlive _ (by unfold pch at'; rw [List.getD_eq_getElem _ _ hi]; exact List.getElem_mem hi)
    · unfold pch at'; rw [List.getD_eq_default _ _ (Nat.le_of_not_lt hi)]; rfl
  obtain ⟨x, hx, heq⟩ := serveRq_served (loud := False) (keys := fetchedKeys) (q := q) (bank := bank) (row := row) (addr := addr)
    (corrected := corrected) (hsz.pch_length ▸ hk) (by decide) (by decide) fun h3 => absurd h3 (by omega)
  have hxlive (i : Nat) : (x.lineFetched.pch i).failed = false := by
    by_cases hi : i = k
    · subst hi; exact hx.failed.trans (hall i)
    · exact (congrArg Pch.failed (hx.other i hi)).trans (hall i)
  have hxscan : x.scan = s.scan := (congrArg State.scan hx.frame.rest :)
  rw [exec_reservoirRequestServe (hall k) hup hwaiting hq, heq, if_pos hcls, scanFetched_eq]
  have hframe := ((scanReader_frame (loud := False) hxlive (by decide) (by decide)).promote (k := k) (by decide)).showOutstanding
    (keys := fetchedKeys) (by decide)
  have hout := showOutstanding_rd (x.lineFetched.scanReader.promote k)
  generalize (x.lineFetched.scanReader.promote k).showOutstanding = t at hframe hout
  have hscan : t.scan = x.lineFetched.panicSet.scan := (congrArg State.scan hframe.rest :)
  have hrest : t.rest = { s.rest with rsv := t.rsv, scan := t.scan, flows := t.flows } := by
    have hx' : t.rest = { x.rest with rsv := t.rsv, scan := t.scan, flows := t.flows } := by rw [hscan]; exact hframe.rest_rsv
    rw [hx', hx.frame.rest_rsv]
  have hrd (r : Nat) (hr : r ∉ fetchedKeys) : t.rd r = x.rd r := hframe.rd r hr False.elim
  have hlevel : t.scanPanicLevel = x.lineFetched.scanPanicLevel :=
    scanPanicLevel_congr (by rw [hscan]; rfl) fun r hr => hrd r fun hm => absurd hr (Nat.not_le.mpr (fetchedKeys_lt r hm))
  refine ⟨t, done_eq (congrArg State.wall hrest :) (congrArg State.pending hrest :), ?_, ?_, ?_, hout, hrest,
    (hframe.quiet id).1.trans (hx.frame.quiet id).1, (hframe.quiet id).2.trans (hx.frame.quiet id).2,
    fun r hr => (hrd r hr).trans (hx.frame.rd r hr False.elim)⟩
  · rw [hscan, ← hxscan]; rfl
  · rw [hlevel, hscan]; rfl
  · rw [hscan, ← hxscan]; rfl

end State
end Sys2Proof.Machine

/-! ## Refresh, power-down, retraining, scrubbing and training (R188, R191 to R196): O13 -/

namespace Sys2Proof.Machine

set_option Elab.async false

namespace State

variable {s : State} {k : Nat}

/-! ### Refresh (R185, R188) -/

theorem newWindow_frame (s : State) (stack : Nat) : RequestFrame False [] s (s.newWindow stack) :=
  (RequestFrame.refl s).foldl fun _ _ hx => hx.updPch

theorem newWindow_other (s : State) {stack i : Nat} (h : i / 32 ≠ stack) : (s.newWindow stack).pch i = s.pch i :=
  List.foldlRecOn (motive := fun x : State => x.pch i = s.pch i) _ _ rfl fun x hx j hj =>
    (pch_updPch_other _ (by have := List.mem_range.mp hj; omega)).trans hx

theorem newWindow_flows (s : State) (stack : Nat) : (s.newWindow stack).flows = s.flows :=
  List.foldlRecOn (motive := fun x : State => x.flows = s.flows) _ _ rfl fun _ hx _ _ => hx

/-- A change of several pseudo-channels that always brings about P brings it about in each of them. -/
theorem foldl_updPch_holds {P : Pch → Prop} {f : State → Pch → Pch} (hf : ∀ s p, P (f s p)) {g : Nat → Nat} {j : Nat}
    {l : List Nat} (hj : j ∈ l) (s : State) (hlen : g j < s.rsv.pch.length) : P ((l.foldl (fun s j => s.updPch (g j) (f s)) s).pch (g j)) := by
  induction l generalizing s with
  | nil => exact absurd hj List.not_mem_nil
  | cons a l ih =>
    rw [List.foldl_cons]
    rcases List.mem_cons.mp hj with rfl | hjl
    · refine List.foldlRecOn (motive := fun x : State => P (x.pch (g j))) _ _ ?_ fun x hx _ _ => at'_modify_cases P hx (hf ..)
      rw [pch_updPch_same _ hlen]
      exact hf ..
    · exact ih hjl _ (hlen.trans_eq (List.length_modify ..).symm)

theorem newWindow_cleared {stack j : Nat} (hlen : s.rsv.pch.length = 128) (h4 : stack < 4) (hj : j < 32) :
    ((s.newWindow stack).pch (stack * 32 + j)).rows = [] ∧ ((s.newWindow stack).pch (stack * 32 + j)).causes = [] := by
  have hlt : stack * 32 + j < s.rsv.pch.length := by omega
  unfold newWindow
  exact foldl_updPch_holds (P := fun p => p.rows = [] ∧ p.causes = []) (g := fun j => stack * 32 + j) (fun _ _ => ⟨rfl, rfl⟩)
    (List.mem_range.mpr hj) s hlt

/-- The stack's temperature is read, and its rate of refresh follows. -/
def tempRead (s : State) (stack : Nat) (temp : Int) : State :=
  (s.wrI (Obj.RSV_STACK_TEMP stack) temp).wr (Obj.RSV_REFRESH_X2 stack) (b2n (decide (85 * 256 < temp)))

theorem tempRead_rd (s : State) (stack : Nat) (temp : Int) :
    (s.tempRead stack temp).rd (Obj.RSV_STACK_TEMP stack) = ofI 36 temp ∧
      (s.tempRead stack temp).rd (Obj.RSV_REFRESH_X2 stack) = (if 21760 < temp then 1 else 0) ∧
      s.only (s.tempRead stack temp) [Obj.RSV_STACK_TEMP stack, Obj.RSV_REFRESH_X2 stack] := by
  unfold tempRead
  refine ⟨?_, ?_, fun q hq => ?_⟩
  · rw [rd_wr_other _ _ _ _ (by unfold Obj.RSV_STACK_TEMP Obj.RSV_REFRESH_X2 key; omega), rd_wrI, if_pos rfl]
  · rw [rd_wr_same]
    unfold b2n
    simp only [decide_eq_true_eq]
    rfl
  · rw [List.mem_cons, List.mem_singleton, not_or] at hq
    rw [rd_wr_other _ _ _ _ hq.2, rd_wrI, if_neg hq.1]

/-- The stack's next refresh is set, a window ahead. -/
def refreshSet (s : State) (stack : Nat) : State :=
  { s with rsv := { s.rsv with refreshAt := s.rsv.refreshAt.set stack (s.wall + s.refreshWindow stack) } }

theorem refreshSet_pch (s : State) (stack i : Nat) : (s.refreshSet stack).pch i = s.pch i := rfl
theorem refreshSet_rd (s : State) (stack q : Nat) : (s.refreshSet stack).rd q = s.rd q := rfl
theorem refreshSet_rest (s : State) (stack : Nat) : (s.refreshSet stack).rest = { s.rest with rsv := (s.refreshSet stack).rsv } := rfl

theorem refreshSet_refreshAt {stack : Nat} (h : stack < s.rsv.refreshAt.length) :
    at' (s.refreshSet stack).rsv.refreshAt stack = s.wall + s.refreshWindow stack := by
  simp [refreshSet, at', List.getD_eq_getElem?_getD, h]

/-- REFRESH_DUE where no real-time request is in panic. -/
theorem exec_refreshDue {stack : Nat} {temp : Int} (hup : s.rsvUp = true) (h4 : stack < 4) (hdue : at' s.rsv.refreshAt stack ≤ s.wall)
    (hpanic : s.panic2 = false) (hwaits : ∀ j, j < 32 → s.panicWaits (stack * 32 + j) = false) :
    exec (.refreshDue stack temp) s = done s (((s.tempRead stack temp).newWindow stack).refreshSet stack) := by
  have hnone : ((s.tempRead stack temp).panic2 ||
      (List.range 32).any fun j => (s.tempRead stack temp).panicWaits (stack * 32 + j)) = false := by
    rw [Bool.or_eq_false_iff, List.any_eq_false]
    exact ⟨hpanic, fun j hj => Bool.eq_false_iff.mp (hwaits j (List.mem_range.mp hj))⟩
  show done s (if (s.rsvUp && Nat.blt stack 4 && Nat.ble (at' s.rsv.refreshAt stack) s.wall) = true then
    (if ((s.tempRead stack temp).panic2 || (List.range 32).any fun j => (s.tempRead stack temp).panicWaits (stack * 32 + j)) &&
      Nat.blt ((s.tempRead stack temp).pch (stack * 32)).postponed 8 then _ else _) else _) = _
  rw [if_pos (by simp [hup, h4, hdue]), hnone, Bool.false_and, if_neg (by decide)]
  rfl

/-- The clause of REFRESH_DUE. -/
theorem refreshDue_refreshes {stack : Nat} {temp : Int} (hsz : s.Sized) (hup : s.rsvUp = true) (h4 : stack < 4)
    (hlen : stack < s.rsv.refreshAt.length) (hdue : at' s.rsv.refreshAt stack ≤ s.wall) (hpanic : s.panic2 = false)
    (hwaits : ∀ j, j < 32 → s.panicWaits (stack * 32 + j) = false) :
    ∃ t, exec (.refreshDue stack temp) s = .next t ∧ t.rd (Obj.RSV_STACK_TEMP stack) = ofI 36 temp ∧
      t.rd (Obj.RSV_REFRESH_X2 stack) = (if 21760 < temp then 1 else 0) ∧
      at' t.rsv.refreshAt stack = s.wall + (if 21760 < temp then 512000000 else 1024000000) ∧
      (∀ j, j < 32 → (t.pch (stack * 32 + j)).rows = [] ∧ (t.pch (stack * 32 + j)).causes = []) ∧
      (∀ i, i / 32 ≠ stack → t.pch i = s.pch i) ∧ t.rest = { s.rest with rsv := t.rsv } ∧ t.sess = s.sess ∧ t.log = s.log ∧
      s.only t [Obj.RSV_STACK_TEMP stack, Obj.RSV_REFRESH_X2 stack] := by
  obtain ⟨htemp, hx2, honly⟩ := tempRead_rd s stack temp
  have hframe := (s.tempRead stack temp).newWindow_frame stack
  have hother := fun {i : Nat} => (s.tempRead stack temp).newWindow_other (stack := stack) (i := i)
  have hcleared := fun {j : Nat} => newWindow_cleared (s := s.tempRead stack temp) (stack := stack) (j := j) hsz.pch_length h4
  have hflows : ((s.tempRead stack temp).newWindow stack).flows = s.flows := newWindow_flows ..
  have hexec := exec_refreshDue (temp := temp) hup h4 hdue hpanic hwaits
  generalize (s.tempRead stack temp).newWindow stack = y at *
  have hwall : y.wall = s.wall := (congrArg State.wall hframe.rest :)
  have hrefresh : y.rsv.refreshAt = s.rsv.refreshAt := (congrArg Reservoir.refreshAt hframe.rsv :)
  have hrd (q : Nat) : y.rd q = (s.tempRead stack temp).rd q := hframe.rd q List.not_mem_nil False.elim
  have hrest : (y.refreshSet stack).rest = { s.rest with rsv := (y.refreshSet stack).rsv } := by
    rw [refreshSet_rest, hframe.rest_rsv, hflows]; rfl
  refine ⟨y.refreshSet stack, hexec.trans (done_eq (congrArg State.wall hrest :) (congrArg State.pending hrest :)), (hrd _).trans htemp,
    (hrd _).trans hx2, ?_, fun j hj => hcleared hj, fun i hi => hother hi, hrest, (hframe.quiet id).1, (hframe.quiet id).2,
    fun q hq => (hrd q).trans (honly q hq)⟩
  rw [refreshSet_refreshAt (hrefresh ▸ hlen), hwall]
  unfold refreshWindow rdB
  rw [hrd, hx2]
  split <;> rfl

/-! ### Power-down and retraining (R191, R194) -/

/-- The clause of PCH_POWER_DOWN. -/
theorem pchPowerDown_enters (hsz : s.Sized) (hup : s.rsvUp = true) (hk : k < 128) (hns : s.rd Obj.RSV_IDLE_PD ≠ 0)
    (hqueue : (s.pch k).queue = []) (hidle : (s.pch k).idleSince + s.rd Obj.RSV_IDLE_PD * 32 ≤ s.wall) :
    ∃ t, exec (.pchPowerDown k) s = .next t ∧ t.pch k = { s.pch k with powerDown := true } ∧ (∀ i, i ≠ k → t.pch i = s.pch i) ∧
      t.rest = { s.rest with rsv := t.rsv } ∧ t.obj = s.obj ∧ t.sess = s.sess ∧ t.log = s.log := by
  have hexec : exec (.pchPowerDown k) s = done s (s.updPch k fun p => { p with powerDown := true }) := by
    show done s (if s.rsvUp && s.rd Obj.RSV_IDLE_PD != 0 && (s.pch k).queue.isEmpty &&
      Nat.ble ((s.pch k).idleSince + s.rd Obj.RSV_IDLE_PD * 32) s.wall then _ else _) = _
    rw [if_pos (by simp [hup, hns, hqueue, hidle])]
  exact ⟨_, hexec, pch_updPch_same _ (hsz.pch_length ▸ hk), fun i hi => pch_updPch_other _ hi, rfl, rfl, rfl, rfl⟩

/-- The clause of PCH_RETRAIN. -/
theorem pchRetrain_restarts {ok : Bool} (hsz : s.Sized) (hup : s.rsvUp = true) (hk : k < 128) (hfailed : (s.pch k).failed = false)
    (hdue : (s.pch k).retrainAt + s.rd Obj.RSV_RETRAIN_PERIOD * 32000000 ≤ s.wall) (hpanic : s.panic2 = false)
    (hwaits : s.panicWaits k = false) :
    ∃ t, exec (.pchRetrain k ok true) s = .next t ∧
      t.pch k = { s.pch k with retrainAt := s.wall, retrainTemp := s.rdI (Obj.RSV_STACK_TEMP (k / 32)), deferred := false } ∧
      (∀ i, i ≠ k → t.pch i = s.pch i) ∧ t.rest = { s.rest with rsv := t.rsv } ∧ t.obj = s.obj ∧ t.sess = s.sess ∧ t.log = s.log := by
  have hperiod : s.retrainDue k = true := Bool.or_eq_true_iff.mpr (.inl (Nat.ble_eq.mpr hdue))
  have hexec : exec (.pchRetrain k ok true) s = done s (s.updPch k fun p =>
      { p with retrainAt := s.wall, retrainTemp := s.rdI (Obj.RSV_STACK_TEMP (k / 32)), deferred := false }) := by
    show done s (if !s.retrainDue k || (s.pch k).failed || Nat.ble 128 k || !s.rsvUp then _ else if s.panic2 then _ else
      if s.panicWaits k then _ else if ok || true then _ else _) = _
    rw [if_neg (by simp [hperiod, hfailed, hup, hk]), hpanic, if_neg (by decide), hwaits, if_neg (by decide), Bool.or_true, if_pos rfl]
  exact ⟨_, hexec, pch_updPch_same _ (hsz.pch_length ▸ hk), fun i hi => pch_updPch_other _ hi, rfl, rfl, rfl, rfl⟩

/-! ### Scrubbing (R185, R195) -/

/-- The scrub of pseudo-channel k is made; the last one of a round sets the next round. -/
def scrubbed (s : State) (k : Nat) : State :=
  { s with rsv := { s.rsv with
      scrubAt := if (List.range 128).all (fun j => Nat.ble j k || (s.pch j).failed) then s.wall + s.rd Obj.RSV_SCRUB_PERIOD * 3600 * tps
        else s.rsv.scrubAt } }

theorem scrubbed_last (s : State) : (s.scrubbed 127).rsv.scrubAt = s.wall + s.rd Obj.RSV_SCRUB_PERIOD * 115200000000000 := by
  have hall : ((List.range 128).all fun j => Nat.ble j 127 || (s.pch j).failed) = true :=
    List.all_eq_true.mpr fun j hj => by
      rw [Nat.ble_eq.mpr (Nat.le_of_lt_succ (List.mem_range.mp hj)), Bool.true_or]
  unfold scrubbed
  rw [hall, if_pos rfl, Nat.mul_assoc]
  rfl

/-- The clause of SCRUB. -/
theorem scrub_corrects {addr corrected : Nat} (hup : s.rsvUp = true) (hperiod : s.rd Obj.RSV_SCRUB_PERIOD ≠ 0) (hdue : s.rsv.scrubAt ≤ s.wall)
    (hfailed : (s.pch k).failed = false) (hpanic : s.panic2 = false) (hnext : s.nextRq k = none) (hc : 0 < corrected) :
    ∃ t, exec (.scrub k addr corrected 0) s = .next t ∧
      t.rd Obj.RSV_ECC_CE = min (2 ^ 32 - 1) (s.rd Obj.RSV_ECC_CE + corrected) ∧
      (k = 127 → t.rsv.scrubAt = s.wall + s.rd Obj.RSV_SCRUB_PERIOD * 115200000000000) ∧
      t.rest = { s.rest with rsv := { s.rsv with scrubAt := t.rsv.scrubAt } } ∧ t.sess = s.sess ∧ t.log = s.log ∧
      s.only t [Obj.RSV_ECC_CE] := by
  have hexec : exec (.scrub k addr corrected 0) s = done s ((s.scrubbed k).countN Obj.RSV_ECC_CE corrected) := by
    show done s (if s.rd Obj.RSV_SCRUB_PERIOD = 0 || Nat.blt s.wall s.rsv.scrubAt || (s.pch k).failed || !s.rsvUp || s.panic2 ||
      (s.nextRq k).isSome then _ else (s.scrubbed k).ecc k addr corrected 0) = _
    rw [if_neg (by simp [hup, hperiod, hdue, hfailed, hpanic, hnext])]
    unfold ecc
    rw [if_pos rfl, if_neg (Nat.ne_of_gt hc)]
  refine ⟨_, hexec, (rd_countN ..).trans (if_pos rfl), ?_, rfl, rfl, rfl, fun q hq => (rd_countN ..).trans (if_neg (by simpa using hq))⟩
  rintro rfl
  exact s.scrubbed_last

/-! ### Training (R193) -/

/-- Every pseudo-channel freshly trained and in the layout. -/
def allTrained (s : State) : State := { s.trainAll [] with rsv := { (s.trainAll []).rsv with layout := List.range 128 } }

/-- Bits of RSV_PCH_MAP for the pseudo-channels of stack j. -/
def mapOf (j : Nat) : Nat := (List.range 32).foldl (fun m b => m + if (List.range 128).contains (32 * j + b) then 2 ^ b else 0) 0

theorem mapOf_full {j : Nat} (h4 : j < 4) : mapOf j = 2 ^ 32 - 1 := by
  revert j; decide

/-- RSV_PCH_MAP of every stack. -/
def mapWritten (s : State) : State := (List.range 4).foldl (fun s j => s.wr (Obj.RSV_PCH_MAP j) (mapOf j)) s

/-- The objects of a Reservoir in which every pseudo-channel is in service. -/
def serviceShown (s : State) : State :=
  (s.wrAll [(Obj.RSV_STATE, 2), (Obj.DEV_PCH_IN_SERVICE, 128), (Obj.RSV_PANS_TOTAL, 910), (Obj.RSV_PCH_FAILED, 0),
    (Obj.RSV_PANS_FREE, 910 - s.ringPans.length - s.smallPans.length)]).setFloors

theorem serviceShown_eq (s : State) : s.serviceShown =
    ((s.wrAll [(Obj.RSV_STATE, 2), (Obj.DEV_PCH_IN_SERVICE, 128), (Obj.RSV_PANS_TOTAL, 910), (Obj.RSV_PCH_FAILED, 0)]).showPans).setFloors := by
  unfold showPans
  rw [rd_wrAll]
  rfl

theorem rsv_of_rest {t : State} (h : t.rest = s.rest) : t.rsv = s.rsv := (congrArg State.rsv h :)

theorem allTrained_frame (s : State) : s.allTrained.rest = { s.rest with rsv := s.allTrained.rsv } ∧ s.allTrained.sess = s.sess ∧
    s.allTrained.log = s.log ∧ s.allTrained.rsv.small = s.rsv.small ∧ s.allTrained.rsv.trained = true := ⟨rfl, rfl, rfl, rfl, rfl⟩

theorem allTrained_ringPans (s : State) : s.allTrained.ringPans = s.ringPans := by
  unfold ringPans
  show ((s.rsv.rings.map fun r : Ring => { r with lines := [], lastNo := 0 }).map Ring.pans).flatten = _
  rw [List.map_map]
  rfl

theorem allTrained_lines (s : State) (h : Nat) : (s.allTrained.ring h).lines = [] := by
  unfold ring at'
  show ((s.rsv.rings.map fun r : Ring => { r with lines := [], lastNo := 0 }).getD h default).lines = []
  rw [List.getD_eq_getElem?_getD, List.getElem?_map]
  cases s.rsv.rings[h]? <;> rfl

theorem mapWritten_frame (s : State) : s.mapWritten.rest = s.rest ∧ s.mapWritten.sess = s.sess ∧ s.mapWritten.log = s.log :=
  let f (s : State) (j : Nat) : State := s.wr (Obj.RSV_PCH_MAP j) (mapOf j)
  ⟨foldl_same rest f (fun _ _ => rfl) _ s, foldl_same sess f (fun _ _ => rfl) _ s, foldl_same log f (fun _ _ => rfl) _ s⟩

theorem mapWritten_rd (s : State) {j : Nat} (h4 : j < 4) : s.mapWritten.rd (Obj.RSV_PCH_MAP j) = 2 ^ 32 - 1 :=
  (foldl_rd_at (f := fun s j => s.wr (Obj.RSV_PCH_MAP j) (mapOf j)) (g := fun j _ => mapOf j) (fun _ _ _ => rd_wr ..) s (by decide)
    (List.mem_range.mpr h4)).trans (mapOf_full h4)

theorem serviceShown_frame (s : State) : s.serviceShown.rest = s.rest ∧ s.serviceShown.sess = s.sess ∧ s.serviceShown.log = s.log := by
  unfold serviceShown
  rw [setFloors_rest, setFloors_sess]
  exact ⟨wrAll_rest .., wrAll_sess .., (wrAll_log ..).trans (wrAll_log ..)⟩

/-- The objects that the end of training writes, and RSV_PCH_MAP, which it has written before. -/
theorem serviceShown_rd (s : State) : s.serviceShown.rd Obj.RSV_STATE = 2 ∧ s.serviceShown.rd Obj.DEV_PCH_IN_SERVICE = 128 ∧
    s.serviceShown.rd Obj.RSV_PANS_TOTAL = 910 ∧ s.serviceShown.rd Obj.RSV_PANS_FREE = 910 - s.ringPans.length - s.smallPans.length ∧
      ∀ j, j < 4 → s.serviceShown.rd (Obj.RSV_PCH_MAP j) = s.rd (Obj.RSV_PCH_MAP j) := by
  unfold serviceShown
  refine ⟨?_, ?_, ?_, ?_, fun j hj => ?_⟩
  · rw [setFloors_rd_other _ (by decide), rd_wrAll]; rfl
  · rw [setFloors_rd_other _ (by decide), rd_wrAll]; rfl
  · rw [setFloors_rd_other _ (by decide), rd_wrAll]; rfl
  · rw [setFloors_rd_other _ (by decide), rd_wrAll]; rfl
  · rw [setFloors_rd_other _ (by revert j; decide)]
    refine rd_wrAll_other _ (?_ : _ ∉ [Obj.RSV_STATE, Obj.DEV_PCH_IN_SERVICE, Obj.RSV_PANS_TOTAL, Obj.RSV_PCH_FAILED, Obj.RSV_PANS_FREE])
    revert j; decide

/-- RESERVOIR_TRAINING_DONE at a start at which no pseudo-channel has failed. -/
theorem exec_reservoirTrainingDone (hstate : s.rd Obj.RSV_STATE = 1) (htested : s.start.tested = true) (hstep : s.pwr.step ≠ 6)
    (hlive : ∀ k, k < 128 → (s.pch k).failed = false) :
    exec (.reservoirTrainingDone []) s = done s s.allTrained.mapWritten.serviceShown := by
  have hwas : ((List.range 128).filter fun k => (s.pch k).failed) = [] :=
    List.filter_eq_nil_iff.mpr fun k hk => Bool.eq_false_iff.mp (hlive k (List.mem_range.mp hk))
  have hup : ((List.range 128).filter fun k => !([] : List Nat).contains k) = List.range 128 :=
    List.filter_eq_self.mpr fun _ _ => rfl
  show execReservoirTrainingDone [] s = _
  unfold execReservoirTrainingDone
  rw [hwas, if_neg (by simp [hstep]), if_pos (by simp [hstate, htested])]
  simp only [List.filter_nil, List.append_nil, List.eraseDups_nil, List.foldl_nil, hup, List.length_range]
  rw [serviceShown_eq, show pansFor 128 = 910 from rfl]
  rfl

/-- What training brings into service. -/
theorem trained_inService (s : State) : ∃ t, t = s.allTrained.mapWritten.serviceShown ∧ t.rd Obj.RSV_STATE = 2 ∧
    t.rd Obj.DEV_PCH_IN_SERVICE = 128 ∧ t.rd Obj.RSV_PANS_TOTAL = 910 ∧
      t.rd Obj.RSV_PANS_FREE = 910 - s.ringPans.length - s.smallPans.length ∧ (∀ j, j < 4 → t.rd (Obj.RSV_PCH_MAP j) = 2 ^ 32 - 1) ∧
      t.rsv.trained = true ∧ (∀ h, (t.ring h).lines = []) ∧ t.rest = { s.rest with rsv := t.rsv } ∧ t.sess = s.sess ∧ t.log = s.log := by
  obtain ⟨hr0, hs0, hl0, hsmall, htrained⟩ := s.allTrained_frame
  have hlines := s.allTrained_lines
  have hpans := s.allTrained_ringPans
  obtain ⟨hr1, hs1, hl1⟩ := s.allTrained.mapWritten_frame
  have hmap1 := fun {j : Nat} => s.allTrained.mapWritten_rd (j := j)
  generalize s.allTrained = x at *
  generalize x.mapWritten = y at *
  obtain ⟨hr2, hs2, hl2⟩ := y.serviceShown_frame
  obtain ⟨hst, hin, htotal, hfree, hmap⟩ := y.serviceShown_rd
  generalize y.serviceShown = t at *
  have hrsv : t.rsv = x.rsv := rsv_of_rest (hr2.trans hr1)
  refine ⟨t, rfl, hst, hin, htotal, ?_, fun j hj => (hmap j hj).trans (hmap1 hj), by rw [hrsv, htrained], fun h => ?_,
    by rw [hr2, hr1, hrsv, ← hr0], (hs2.trans hs1).trans hs0, (hl2.trans hl1).trans hl0⟩
  · have hrings : y.ringPans = s.ringPans := by rw [← hpans]; unfold ringPans; rw [rsv_of_rest hr1]
    have hsmalls : y.smallPans = s.smallPans := by unfold smallPans; rw [rsv_of_rest hr1, hsmall]
    rw [hfree, hrings, hsmalls]
  · rw [← hlines h]
    unfold ring
    rw [hrsv]

/-- The clause of RESERVOIR_TRAINING_DONE. -/
theorem reservoirTrainingDone_serves (hstate : s.rd Obj.RSV_STATE = 1) (htested : s.start.tested = true) (hstep : s.pwr.step ≠ 6)
    (hlive : ∀ k, k < 128 → (s.pch k).failed = false) :
    ∃ t, exec (.reservoirTrainingDone []) s = .next t ∧ t.rd Obj.RSV_STATE = 2 ∧ t.rd Obj.DEV_PCH_IN_SERVICE = 128 ∧
      t.rd Obj.RSV_PANS_TOTAL = 910 ∧ t.rd Obj.RSV_PANS_FREE = 910 - s.ringPans.length - s.smallPans.length ∧
      (∀ j, j < 4 → t.rd (Obj.RSV_PCH_MAP j) = 2 ^ 32 - 1) ∧
      t.rsv.trained = true ∧ (∀ h, (t.ring h).lines = []) ∧ t.rest = { s.rest with rsv := t.rsv } ∧ t.sess = s.sess ∧ t.log = s.log := by
  obtain ⟨t, ht, hst, hin, htotal, hfree, hmap, htrained, hlines, hrest, hsess, hlog⟩ := s.trained_inService
  have hdone : done s t = .next t := done_eq (congrArg State.wall hrest :) (congrArg State.pending hrest :)
  rw [exec_reservoirTrainingDone hstate htested hstep hlive, ← ht]
  exact ⟨t, hdone, hst, hin, htotal, hfree, hmap, htrained, hlines, hrest, hsess, hlog⟩

end State

/-- Settles O13: each clause is the lemma of its command. -/
theorem pseudoChannelCommands : Obligations.PseudoChannelCommands := by
  unfold Obligations.PseudoChannelCommands
  refine ⟨?_, ?_, ?_, ?_, ?_, ?_, ?_⟩
  · exact fun s k bank row addr corrected q hsz hk hfailed hup hwaiting hq hcls =>
      State.reservoirRequestServe_leaves hsz hk hfailed hup hwaiting hq hcls
  · exact fun s k bank row addr corrected q hsz hk hlive hup hwaiting hq hcls =>
      State.reservoirRequestServe_fetches hsz hk hlive hup hwaiting hq hcls
  · exact fun s stack temp hsz hup h4 hlen hdue hpanic hwaits => State.refreshDue_refreshes hsz hup h4 hlen hdue hpanic hwaits
  · exact fun s k hsz hup hk hns hqueue hidle => State.pchPowerDown_enters hsz hup hk hns hqueue hidle
  · exact fun s k ok hsz hup hk hfailed hdue hpanic hwaits => State.pchRetrain_restarts hsz hup hk hfailed hdue hpanic hwaits
  · exact fun s k addr corrected hup hperiod hdue hfailed hpanic hnext hc => State.scrub_corrects hup hperiod hdue hfailed hpanic hnext hc
  · exact fun s _ hstate htested hstep hlive => State.reservoirTrainingDone_serves hstate htested hstep hlive

end Sys2Proof.Machine

/-! ## Stream movers: what the statements of chapter 9 share -/

namespace Sys2Proof.Machine

set_option Elab.async false

/-! ### A channel's objects -/

/-- The object of channel m at offset j in the channel's part of the dictionary. -/
def moveKey (m j : Nat) : Nat := 0x540000 + 0x800 * m + j

theorem moveKey_inj {m i j : Nat} : moveKey m i = moveKey m j ↔ i = j := by unfold moveKey; omega

/-- The channel's objects by their offsets. -/
theorem moveKeys (m : Nat) :
    Obj.MOVE_STATE m = moveKey m 0x001 ∧ Obj.MOVE_OWNER m = moveKey m 0x002 ∧ Obj.MOVE_CLAIM m = moveKey m 0x100 ∧
      Obj.MOVE_BUF_LOG2 m = moveKey m 0x201 ∧ Obj.MOVE_BUF_BASE m = moveKey m 0x202 ∧ Obj.MOVE_START m = moveKey m 0x401 ∧
      Obj.MOVE_CMD m = moveKey m 0x402 ∧ Obj.MOVE_DESC_CUR m = moveKey m 0x501 ∧ Obj.MOVE_BEATS_LEFT m = moveKey m 0x502 ∧
      Obj.MOVE_DONE_TAG m = moveKey m 0x503 ∧ Obj.MOVE_DONE_COUNT m = moveKey m 0x504 ∧ Obj.MOVE_ERR_CODE m = moveKey m 0x601 ∧
      Obj.MOVE_ERR_DIR m = moveKey m 0x602 ∧ Obj.MOVE_ERR_ADDR m = moveKey m 0x603 ∧ Obj.MOVE_ERR_BEATS m = moveKey m 0x604 ∧
      Obj.MOVE_ERR_DESC m = moveKey m 0x605 ∧ Obj.MOVE_ERR_FINAL m = moveKey m 0x606 ∧ Obj.MOVE_WORDS m = moveKey m 0x701 ∧
      Obj.MOVE_ERR_COUNT m = moveKey m 0x703 := by
  unfold Obj.MOVE_STATE Obj.MOVE_OWNER Obj.MOVE_CLAIM Obj.MOVE_BUF_LOG2 Obj.MOVE_BUF_BASE Obj.MOVE_START Obj.MOVE_CMD Obj.MOVE_DESC_CUR
    Obj.MOVE_BEATS_LEFT Obj.MOVE_DONE_TAG Obj.MOVE_DONE_COUNT Obj.MOVE_ERR_CODE Obj.MOVE_ERR_DIR Obj.MOVE_ERR_ADDR Obj.MOVE_ERR_BEATS
    Obj.MOVE_ERR_DESC Obj.MOVE_ERR_FINAL Obj.MOVE_WORDS Obj.MOVE_ERR_COUNT moveKey key
  omega

/-- A channel's object is none of the chapters before. -/
theorem moveKey_ne {m j q : Nat} (h : q < 0x540000) : moveKey m j ≠ q := by unfold moveKey; omega

/-- An object of a channel: none of those that an event writes, and no session's. -/
theorem moveKey_quiet {m j : Nat} (hm : m < 96) (hj : j < 0x800) :
    eventKey (moveKey m j) = false ∧ ∀ i, moveKey m j ≠ sk i Obj.DEV_NOTIFY_LOST := by
  unfold moveKey sk Obj.DEV_NOTIFY_LOST key
  exact ⟨eventKey_eq_false (by omega) fun i => by omega, fun i => by omega⟩

/-! ### A channel's record -/

namespace State

variable {s t : State} {m i : Nat}

theorem Sized.movers_length (h : s.Sized) : s.movers.length = 96 := congrArg (·.getD 17 0) h

theorem Sized.mover_lt (h : s.Sized) (hm : m < 96) : m < s.movers.length := by rw [h.movers_length]; exact hm

theorem mover_of_movers (h : t.movers = s.movers) (i : Nat) : t.mover i = s.mover i := by unfold mover; rw [h]

theorem mover_updMover_same (f : Mover → Mover) (h : m < s.movers.length) : (s.updMover m f).mover m = f (s.mover m) := at'_modify_same f h
theorem mover_updMover_other (f : Mover → Mover) (h : i ≠ m) : (s.updMover m f).mover i = s.mover i := at'_modify_other f h

/-- The descriptor in progress follows from the channel's slots and its MOVE_DESC_CUR. -/
theorem curDesc_congr (hs : (t.mover m).slots = (s.mover m).slots) (hd : t.rd (Obj.MOVE_DESC_CUR m) = s.rd (Obj.MOVE_DESC_CUR m)) :
    t.curDesc m = s.curDesc m := by
  unfold curDesc Mover.desc Mover.word
  rw [hs, hd]

end State

/-! ### What a channel's work leaves alone -/

/-- Between `s` and `t` no more differs than channel m, what its beats move (the Reservoir and the flows), the objects named and the
sessions' records. -/
structure MoverFrame (m : Nat) (keys : List Nat) (s t : State) : Prop where
  rest : t.rest = { s.rest with movers := t.movers, rsv := t.rsv, flows := t.flows }
  length : t.movers.length = s.movers.length
  log : t.log = s.log
  mover : ∀ i, i ≠ m → t.mover i = s.mover i
  only : s.only t keys

namespace MoverFrame

variable {m : Nat} {keys : List Nat} {s t u : State}

theorem refl (s : State) : MoverFrame m keys s s := ⟨rfl, rfl, rfl, fun _ _ => rfl, fun _ _ => rfl⟩

theorem trans (h : MoverFrame m keys s t) (h' : MoverFrame m keys t u) : MoverFrame m keys s u where
  rest := by rw [h'.rest, h.rest]
  length := h'.length.trans h.length
  log := h'.log.trans h.log
  mover i hi := (h'.mover i hi).trans (h.mover i hi)
  only q hq := (h'.only q hq).trans (h.only q hq)

theorem mono {keys' : List Nat} (h : MoverFrame m keys s t) (hk : keys ⊆ keys') : MoverFrame m keys' s t :=
  { h with only := fun q hq => h.only q fun hm => hq (hk hm) }

theorem wr {k v : Nat} (h : MoverFrame m keys s t) (hk : k ∈ keys) : MoverFrame m keys s (t.wr k v) :=
  h.trans ⟨rfl, rfl, rfl, fun _ _ => rfl, fun _ hq => State.rd_wr_other _ _ _ _ (ne_of_mem_of_not_mem hk hq).symm⟩

theorem updMover {f : Mover → Mover} (h : MoverFrame m keys s t) : MoverFrame m keys s (t.updMover m f) :=
  h.trans ⟨rfl, List.length_modify .., rfl, fun _ hi => State.mover_updMover_other f hi, fun _ _ => rfl⟩

/-- What the beats move. -/
theorem moved {r : Reservoir} {f : List Flow} (h : MoverFrame m keys s t) : MoverFrame m keys s { t with rsv := r, flows := f } :=
  h.trans ⟨rfl, rfl, rfl, fun _ _ => rfl, fun _ _ => rfl⟩

theorem updFlow {f : Nat} {g : Flow → Flow} (h : MoverFrame m keys s t) : MoverFrame m keys s (t.updFlow f g) := h.moved

theorem ite {c : Prop} [Decidable c] (h : MoverFrame m keys s t) (h' : MoverFrame m keys s u) :
    MoverFrame m keys s (if c then t else u) := by
  split
  · exact h
  · exact h'

/-- The channel's requests to the Reservoir. -/
theorem requests {keys' : List Nat} (h : MoverFrame m keys s t) (hr : RequestFrame False keys' t u) (hk : keys' ⊆ keys) :
    MoverFrame m keys s u :=
  have hm : u.movers = t.movers := (congrArg State.movers hr.rest :)
  h.trans ⟨by rw [hm]; exact hr.rest_rsv, congrArg List.length hm, (hr.quiet id).2, fun i _ => State.mover_of_movers hm i,
    fun q hq => hr.rd q (fun hq' => hq (hk hq')) False.elim⟩

/-- Where the Reservoir is as it was. -/
theorem rest_flows (h : MoverFrame m keys s t) (hr : t.rsv = s.rsv) : t.rest = { s.rest with movers := t.movers, flows := t.flows } := by
  rw [h.rest, hr]; rfl

/-- Where the Reservoir and the flows are as they were. -/
theorem rest_movers (h : MoverFrame m keys s t) (hr : t.rsv = s.rsv) (hf : t.flows = s.flows) :
    t.rest = { s.rest with movers := t.movers } := by
  rw [h.rest_flows hr, hf]; rfl

theorem done (h : MoverFrame m keys s t) : done s t = .next t :=
  done_eq (congrArg State.wall h.rest :) (congrArg State.pending h.rest :)

end MoverFrame

end Sys2Proof.Machine

/-! ## Beats (R204, R208, R210) -/

namespace Sys2Proof.Machine

set_option Elab.async false

/-- Objects that requests to the Reservoir write. -/
def requestKeys : List Nat := [Obj.RSV_OUTSTANDING, Obj.RSV_OUTSTANDING_PEAK]

/-- Objects that a channel's beats write. -/
def beatKeys (m : Nat) : List Nat := [Obj.MOVE_BEATS_LEFT m, Obj.MOVE_WORDS m] ++ requestKeys

namespace State

variable {s t : State} {m n k skip : Nat} {keep : Bool}

/-! ### Beats that move -/

theorem askBeats_frame (s : State) (m b n : Nat) : RequestFrame False requestKeys s (s.askBeats m b n) := by
  unfold askBeats
  exact ((RequestFrame.refl s).foldl fun _ _ hx => hx.request (List.Subset.refl _)).foldl fun _ _ hx => hx.request (List.Subset.refl _)

/-- A request changes no more than its pseudo-channel's record. -/
theorem request_pchs (s : State) (k : Nat) (q : Rq) : (s.request k q).rsv.pch.length = s.rsv.pch.length := by
  unfold request
  split_ifs
  · rfl
  · exact List.length_modify ..
  · exact List.length_modify ..

theorem askBeats_pchs (s : State) (m b n : Nat) : (s.askBeats m b n).rsv.pch.length = s.rsv.pch.length := by
  unfold askBeats
  exact (foldl_same (fun x : State => x.rsv.pch.length) _ (fun _ _ => request_pchs ..) _ _).trans
    (foldl_same (fun x : State => x.rsv.pch.length) _ (fun _ _ => request_pchs ..) _ _)

/-- Without a beat no line is asked for. -/
theorem askBeats_zero (s : State) (m b : Nat) : s.askBeats m b 0 = s := rfl

/-- `t` is `s` with what beats move in its place: the Reservoir, save its pseudo-channels, and the flows. -/
def moves (s t : State) : Prop := ∃ r x, r.pch = s.rsv.pch ∧ t = { s with rsv := r, flows := x }

theorem moves.again {r : Reservoir} {x : List Flow} (h : s.moves t) (hr : r.pch = t.rsv.pch) : s.moves { t with rsv := r, flows := x } := by
  obtain ⟨r', x', hr', rfl⟩ := h
  exact ⟨r, x, hr.trans hr', rfl⟩

theorem moves.foldl {α : Type} {f : State → α → State} {l : List α} (h : s.moves t) (hf : ∀ x a, s.moves x → s.moves (f x a)) :
    s.moves (l.foldl f t) :=
  List.foldlRecOn l f h fun x hx a _ => hf x a hx

/-- A beat moves eight words, and nothing else. -/
theorem moves.beat (h : s.moves t) : s.moves (t.moveBeat m k skip keep) := by
  unfold moveBeat
  extract_lets d a words y words' a'
  have hy : s.moves y := by
    unfold y
    split
    · exact h.again rfl
    · exact h
  split
  · exact hy.foldl fun _ _ hx => hx.again rfl
  · split
    · exact hy.again rfl
    · exact hy.foldl fun _ _ hx => hx.again rfl

/-- The words that beats move, once their lines are asked for. -/
def moveWords (s : State) (m n : Nat) : State :=
  (List.range n).foldl (fun x i => x.moveBeat m ((s.mover m).beat + i) 0 false) (s.askBeats m (s.mover m).beat n)

theorem moveWords_moves (s : State) (m n : Nat) : (s.askBeats m (s.mover m).beat n).moves (s.moveWords m n) :=
  moves.foldl ⟨_, _, rfl, rfl⟩ fun _ _ hx => hx.beat

theorem moveWords_frame (s : State) (m n : Nat) : MoverFrame m requestKeys s (s.moveWords m n) ∧ (s.moveWords m n).movers = s.movers ∧
    (s.moveWords m n).sess = s.sess := by
  have hask := s.askBeats_frame m (s.mover m).beat n
  obtain ⟨r, x, -, h⟩ := s.moveWords_moves m n
  rw [h]
  exact ⟨((MoverFrame.refl s).requests hask (List.Subset.refl _)).moved, (congrArg State.movers hask.rest :), (hask.quiet id).1⟩

/-- The channel's count of words and of the beats that are left. -/
theorem moveBeats_eq (s : State) (m n : Nat) : s.moveBeats m n =
    ((((s.moveWords m n).updMover m fun x => { x with beat := (s.mover m).beat + n }).wr (Obj.MOVE_WORDS m)
      ((s.moveWords m n).rd (Obj.MOVE_WORDS m) + 8 * n)).wr (Obj.MOVE_BEATS_LEFT m)
      ((((s.moveWords m n).updMover m fun x => { x with beat := (s.mover m).beat + n }).curDesc m).count - ((s.mover m).beat + n))) := rfl

theorem moveBeats_frame (s : State) (m n : Nat) : MoverFrame m (beatKeys m) s (s.moveBeats m n) := by
  have hw : MoverFrame m (beatKeys m) s (s.moveWords m n) := (s.moveWords_frame m n).1.mono (List.subset_append_right ..)
  rw [moveBeats_eq]
  exact (hw.updMover.wr (by simp [beatKeys])).wr (by simp [beatKeys])

theorem moveBeats_sess (s : State) (m n : Nat) : (s.moveBeats m n).sess = s.sess := (s.moveWords_frame m n).2.2

theorem moveBeats_pchs (s : State) (m n : Nat) : (s.moveBeats m n).rsv.pch.length = s.rsv.pch.length := by
  obtain ⟨r, x, hr, h⟩ := s.moveWords_moves m n
  have hrsv : (s.moveBeats m n).rsv = r := congrArg State.rsv h
  rw [hrsv, hr, askBeats_pchs]

/-- A channel's object is none that requests to the Reservoir write. -/
theorem moveKey_notMem_requestKeys (m j : Nat) : moveKey m j ∉ requestKeys := by
  simp [requestKeys, moveKey_ne (m := m) (j := j) (show Obj.RSV_OUTSTANDING < 0x540000 by decide),
    moveKey_ne (m := m) (j := j) (show Obj.RSV_OUTSTANDING_PEAK < 0x540000 by decide)]

/-- Of the channel's own objects its beats write two. -/
theorem moveBeats_rd (s : State) (m n : Nat) {j : Nat} (hj : j ≠ 0x502) (hj' : j ≠ 0x701) :
    (s.moveBeats m n).rd (moveKey m j) = s.rd (moveKey m j) := by
  refine (s.moveBeats_frame m n).only _ ?_
  simp [beatKeys, moveKeys, moveKey_inj, hj, hj', moveKey_notMem_requestKeys]

/-- Beats move: the channel is n beats further, has counted their words and shows those that are left. -/
theorem moveBeats_moves (h : m < s.movers.length) :
    (s.moveBeats m n).mover m = { s.mover m with beat := (s.mover m).beat + n } ∧
    (s.moveBeats m n).rd (Obj.MOVE_WORDS m) = s.rd (Obj.MOVE_WORDS m) + 8 * n ∧
    (s.moveBeats m n).rd (Obj.MOVE_BEATS_LEFT m) = (s.curDesc m).count - ((s.mover m).beat + n) := by
  obtain ⟨hframe, hmovers, -⟩ := s.moveWords_frame m n
  have hrd (j : Nat) : (s.moveWords m n).rd (moveKey m j) = s.rd (moveKey m j) := hframe.only _ (moveKey_notMem_requestKeys m j)
  rw [moveBeats_eq]
  generalize s.moveWords m n = y at *
  have hm := mover_updMover_same (s := y) (fun x => { x with beat := (s.mover m).beat + n }) (hmovers ▸ h)
  rw [mover_of_movers hmovers] at hm
  have hdesc : (y.updMover m fun x => { x with beat := (s.mover m).beat + n }).curDesc m = s.curDesc m :=
    curDesc_congr (by rw [hm]) (by simpa [moveKeys] using hrd _)
  generalize (y.updMover m fun x => { x with beat := (s.mover m).beat + n }) = z at *
  refine ⟨hm, ?_, by rw [rd_wr_same, hdesc]⟩
  rw [rd_wr_other _ _ _ _ (by simp [moveKeys, moveKey_inj]), rd_wr_same]
  simp [moveKeys, hrd]

/-- With no beat to move nothing is asked for and nothing moves. -/
theorem moveBeats_zero (s : State) (m : Nat) : MoverFrame m [Obj.MOVE_BEATS_LEFT m] s (s.moveBeats m 0) ∧ (s.moveBeats m 0).rsv = s.rsv ∧
    (s.moveBeats m 0).flows = s.flows := by
  obtain ⟨hrest, hlength, hlog, hmover, -⟩ := s.moveBeats_frame m 0
  refine ⟨⟨hrest, hlength, hlog, hmover, fun q hq => ?_⟩, rfl, rfl⟩
  rw [moveBeats_eq, rd_wr_other _ _ _ _ (by simpa using hq), rd_wr]
  split
  next h => rw [h]; rfl
  next => rfl

/-! ### Beats that do not fail -/

/-- Where no pseudo-channel has failed, and where no beat is to move, none meets a fault. -/
theorem advance_moves (h : s.rsv.pch.any Pch.failed = true → n = 0) : s.advance m n = s.moveBeats m n := by
  have hbad : (if s.rsv.pch.any Pch.failed then (List.range n).find? fun i => (s.beatFault m ((s.mover m).beat + i)).isSome else none) = none := by
    split
    next hf => rw [h hf]; rfl
    next => rfl
  unfold advance
  dsimp only
  rw [hbad]

theorem beatsReady_zero (s : State) (m : Nat) : s.beatsReady m 0 = 0 := by simp [beatsReady]

/-- The beats that are ready do not depend on a halt. -/
theorem beatsReady_unhalted (h : m < s.movers.length) :
    (s.updMover m fun x => { x with halt := none }).beatsReady m n = s.beatsReady m n := by
  have hm := mover_updMover_same (s := s) (fun x => { x with halt := none }) h
  have hdesc := curDesc_congr (t := s.updMover m fun x => { x with halt := none }) (s := s) (m := m) (by rw [hm]) rfl
  unfold beatsReady goneDir
  rw [hdesc, hm]
  rfl

/-! ### A halt takes effect (R211) -/

/-- A halt whose boundary can be reached without a fault, and lies below the descriptor's last beat. -/
theorem halted_eq {b : Nat} (hlen : m < s.movers.length) (hstate : s.rd (Obj.MOVE_STATE m) = 2)
    (hlive : s.rsv.pch.any Pch.failed = true → b - (s.mover m).beat = 0) (hbelow : (s.mover m).beat + (b - (s.mover m).beat) < (s.curDesc m).count)
    (hready : s.beatsReady m (b - (s.mover m).beat) = b - (s.mover m).beat) :
    s.halted m b = ((s.updMover m fun x => { x with halt := none }).moveBeats m (b - (s.mover m).beat)).wr (Obj.MOVE_STATE m) 3 := by
  obtain ⟨n, hn⟩ : ∃ n, n = b - (s.mover m).beat := ⟨_, rfl⟩
  have hmin : min b (s.curDesc m).count - (s.mover m).beat = n := by omega
  rw [← hn] at hlive hbelow hready ⊢
  have hm := mover_updMover_same (s := s) (fun x => { x with halt := none }) hlen
  have hz := moveBeats_rd (s.updMover m fun x => { x with halt := none }) m n (j := 0x001) (by decide) (by decide)
  obtain ⟨hbeat, -, -⟩ := moveBeats_moves (s := s.updMover m fun x => { x with halt := none }) (n := n)
    (Nat.lt_of_lt_of_eq hlen (List.length_modify ..).symm)
  have hadv := advance_moves (s := s.updMover m fun x => { x with halt := none }) (m := m) (n := n) hlive
  rw [hm] at hbeat
  unfold halted moverHaltAt completeIf
  dsimp only
  rw [hmin, beatsReady_unhalted hlen, hready, hadv]
  generalize (s.updMover m fun x => { x with halt := none }).moveBeats m n = z at *
  have hrun : z.rd (Obj.MOVE_STATE m) = 2 := by
    rw [← hstate, (moveKeys m).1]; exact hz
  have hnot : ¬ (decide (z.rd (Obj.MOVE_STATE m) = 2) && (z.mover m).beat == (s.curDesc m).count) = true := by
    rw [hbeat]
    simpa [hrun] using hbelow.ne
  rw [if_neg hnot, if_pos hrun]

end State

end Sys2Proof.Machine

/-! ## Mover commands (R202, R205, R209, R211): O14 -/

namespace Sys2Proof.Machine

set_option Elab.async false

namespace State

variable {s t x : State} {sess tag m v beats slot : Nat} {keys : List Nat}

/-! ### A served write of a channel's object -/

/-- No session has the number by which firmware commands its channels. -/
theorem takes_session (h : s.takes sess tag = true) : sess ≠ 254 := by
  simp only [takes, Bool.and_eq_true, Nat.blt_eq] at h
  omega

/-- The answer OK to a served write, after work that leaves the sessions alone. -/
theorem answered {k : Nat} (hs : s.serves sess tag k v = true) (hw : x.wall = s.wall) (hp : x.pending = s.pending)
    (hsess : x.sess = (s.hear sess).sess) :
    ∃ t, done s (x.answer ⟨sess, (s.ses sess).inc, tag, k⟩ .ok) = .next t ∧ s.replied t sess tag k .ok ∧
      t.rest = x.rest ∧ t.obj = x.obj ∧ t.log = x.log :=
  ⟨_, done_eq ((answer_wall ..).trans hw) ((answer_pending ..).trans hp), replied_answer _ (serves_takes hs) _ hsess, answer_rest ..,
    answer_obj .., answer_log ..⟩

/-- The same where the work was the channel's own. -/
theorem answered_frame {k : Nat} (hs : s.serves sess tag k v = true) (hx : MoverFrame m keys (s.hear sess) x)
    (hsess : x.sess = (s.hear sess).sess) :
    ∃ t, done s (x.answer ⟨sess, (s.ses sess).inc, tag, k⟩ .ok) = .next t ∧ s.replied t sess tag k .ok ∧
      t.rest = x.rest ∧ t.obj = x.obj ∧ MoverFrame m keys s t := by
  obtain ⟨t, ht, hrep, hrest, hobj, hlog⟩ := answered (x := x) hs (congrArg State.wall hx.rest :) (congrArg State.pending hx.rest :) hsess
  have hmovers : t.movers = x.movers := (congrArg State.movers hrest :)
  have hrsv : t.rsv = x.rsv := (congrArg State.rsv hrest :)
  have hflows : t.flows = x.flows := (congrArg State.flows hrest :)
  exact ⟨t, ht, hrep, hrest, hobj, by rw [hmovers, hrsv, hflows, hrest]; exact hx.rest, (congrArg List.length hmovers).trans hx.length,
    hlog.trans hx.log, fun i hi => (mover_of_movers hmovers i).trans (hx.mover i hi), fun q hq => (rd_of_obj hobj q).trans (hx.only q hq)⟩

/-- A served write of MOVE_CMD. -/
theorem moveCommand_serves (h96 : m < 96) (hs : s.serves sess tag (Obj.MOVE_CMD m) v = true) :
    s.moveCommand sess tag m v beats = (s.hear sess).moveCmd m v beats ⟨sess, (s.ses sess).inc, tag, Obj.MOVE_CMD m⟩ := by
  unfold moveCommand
  rw [if_neg (takes_session (serves_takes hs)), when_true _ _ (Nat.blt_eq.mpr h96), direct_serves _ hs]

end State

namespace MoverFrame

variable {m : Nat} {keys : List Nat} {s t : State}

theorem beginSlot {slot : Nat} (h : MoverFrame m keys s t) (hk : [Obj.MOVE_DESC_CUR m, Obj.MOVE_BEATS_LEFT m] ⊆ keys) :
    MoverFrame m keys s (t.beginSlot m slot) := by
  rw [List.cons_subset, List.cons_subset] at hk
  obtain ⟨hcur, hleft, -⟩ := hk
  exact (h.updMover.wr hcur).wr hleft

end MoverFrame

namespace State

variable {s t x : State} {sess tag m v beats slot : Nat} {r : Req} {keys : List Nat}

/-! ### A start (R209) -/

/-- A slot that begins is the one in progress, and none of its beats has moved. -/
theorem beginSlot_begins (h : m < s.movers.length) : (s.beginSlot m slot).rd (Obj.MOVE_DESC_CUR m) = slot ∧
    (s.beginSlot m slot).rd (Obj.MOVE_BEATS_LEFT m) = ((s.mover m).desc slot).count ∧ ((s.beginSlot m slot).mover m).beat = 0 := by
  have hm := mover_updMover_same (s := s) (fun x => { x with beat := 0, ahead := 0, halt := none, retried := false }) h
  unfold beginSlot
  refine ⟨?_, ?_, congrArg Mover.beat hm⟩
  · rw [rd_wr_other _ _ _ _ (by simp [moveKeys, moveKey_inj]), rd_wr_same]
  · rw [rd_wr_same, hm]; rfl

/-- A channel whose chain runs from MOVE_START. -/
def started (s : State) (m : Nat) : State :=
  ((((s.updMover m fun x => { x with gone := [] }).beginSlot m (s.rd (Obj.MOVE_START m))).wr (Obj.MOVE_DONE_COUNT m) 0).wr
    (Obj.MOVE_STATE m) 2)

theorem moverStart_ok (hstate : s.rd (Obj.MOVE_STATE m) = 1 ∨ m < 32 ∧ s.rd (Obj.MOVE_STATE m) = 0)
    (hslots : ∀ i ∈ (s.mover m).reach 16 [] (s.rd (Obj.MOVE_START m)), s.slotOk r.sess m i = true) :
    s.moverStart m r = (s.started m).answer r .ok := by
  have hfind : (((s.mover m).reach 16 [] (s.rd (Obj.MOVE_START m))).find? fun i => !s.slotOk r.sess m i) = none :=
    List.find?_eq_none.mpr fun i hi => by simp [hslots i hi]
  unfold moverStart
  rw [if_neg (by rcases hstate with h | ⟨h32, h⟩ <;> simp [*])]
  dsimp only
  rw [hfind]
  rfl

theorem started_still (s : State) (m : Nat) : (s.started m).rsv = s.rsv ∧ (s.started m).flows = s.flows ∧ (s.started m).sess = s.sess := by
  simp [started, beginSlot]

theorem mover_hear (i : Nat) : (s.hear i).mover m = s.mover m := rfl

theorem slotOk_hear (i j k : Nat) : (s.hear i).slotOk j m k = s.slotOk j m k := by
  unfold slotOk sideOk; rfl

theorem started_frame (s : State) (m : Nat) :
    MoverFrame m [Obj.MOVE_STATE m, Obj.MOVE_DESC_CUR m, Obj.MOVE_DONE_COUNT m, Obj.MOVE_BEATS_LEFT m] s (s.started m) :=
  (((MoverFrame.refl s).updMover.beginSlot (by simp)).wr (by simp)).wr (by simp)

theorem started_runs (h : m < s.movers.length) : (s.started m).rd (Obj.MOVE_STATE m) = 2 ∧
    (s.started m).rd (Obj.MOVE_DESC_CUR m) = s.rd (Obj.MOVE_START m) ∧ (s.started m).rd (Obj.MOVE_DONE_COUNT m) = 0 ∧
    (s.started m).rd (Obj.MOVE_BEATS_LEFT m) = ((s.mover m).desc (s.rd (Obj.MOVE_START m))).count ∧ ((s.started m).mover m).beat = 0 := by
  have hm := mover_updMover_same (s := s) (fun x => { x with gone := [] }) h
  obtain ⟨hcur, hleft, hbeat⟩ := beginSlot_begins (s := s.updMover m fun x => { x with gone := [] })
    (slot := s.rd (Obj.MOVE_START m)) (Nat.lt_of_lt_of_eq h (List.length_modify ..).symm)
  rw [hm] at hleft
  refine ⟨rd_wr_same .., ?_, ?_, ?_, hbeat⟩ <;> unfold started
  · rw [rd_wr_other _ _ _ _ (by simp [moveKeys, moveKey_inj]), rd_wr_other _ _ _ _ (by simp [moveKeys, moveKey_inj]), hcur]
  · rw [rd_wr_other _ _ _ _ (by simp [moveKeys, moveKey_inj]), rd_wr_same]
  · rw [rd_wr_other _ _ _ _ (by simp [moveKeys, moveKey_inj]), rd_wr_other _ _ _ _ (by simp [moveKeys, moveKey_inj]), hleft]; rfl

/-- The clause of MOVE_START: a session's chain. -/
theorem moveStart_runs (hsz : s.Sized) (h96 : m < 96) (hs : s.serves sess tag (Obj.MOVE_CMD m) 1 = true)
    (hstate : s.rd (Obj.MOVE_STATE m) = 1)
    (hslots : ∀ i ∈ (s.mover m).reach 16 [] (s.rd (Obj.MOVE_START m)), s.slotOk sess m i = true) :
    ∃ t, exec (.moveStart sess tag m) s = .next t ∧ s.replied t sess tag (Obj.MOVE_CMD m) .ok ∧ t.rd (Obj.MOVE_STATE m) = 2 ∧
      t.rd (Obj.MOVE_DESC_CUR m) = s.rd (Obj.MOVE_START m) ∧ t.rd (Obj.MOVE_DONE_COUNT m) = 0 ∧
      t.rd (Obj.MOVE_BEATS_LEFT m) = ((s.mover m).desc (s.rd (Obj.MOVE_START m))).count ∧ (t.mover m).beat = 0 ∧
      (∀ i, i ≠ m → t.mover i = s.mover i) ∧ t.rest = { s.rest with movers := t.movers } ∧ t.log = s.log ∧
      s.only t [Obj.MOVE_STATE m, Obj.MOVE_DESC_CUR m, Obj.MOVE_DONE_COUNT m, Obj.MOVE_BEATS_LEFT m] := by
  have hexec : exec (.moveStart sess tag m) s =
      done s (((s.hear sess).started m).answer ⟨sess, (s.ses sess).inc, tag, Obj.MOVE_CMD m⟩ .ok) := by
    show done s (s.moveCommand sess tag m 1 0) = _
    rw [moveCommand_serves h96 hs]
    refine congrArg (done s) (moverStart_ok (s := s.hear sess) (.inl hstate) ?_)
    rw [mover_hear, hear_rd]
    exact fun i hi => (slotOk_hear ..).trans (hslots i hi)
  obtain ⟨hrun, hcur, hcount, hleft, hbeat⟩ := started_runs (s := s.hear sess) (hsz.mover_lt h96)
  obtain ⟨hrsv, hflows, hsess⟩ := (s.hear sess).started_still m
  obtain ⟨t, ht, hrep, hrest, hobj, hframe⟩ := answered_frame hs ((s.hear sess).started_frame m) hsess
  rw [hexec]
  exact ⟨t, ht, hrep, (rd_of_obj hobj _).trans hrun, (rd_of_obj hobj _).trans hcur, (rd_of_obj hobj _).trans hcount,
    (rd_of_obj hobj _).trans hleft, (congrArg Mover.beat (mover_of_movers (congrArg State.movers hrest :) m)).trans hbeat, hframe.mover,
    hframe.rest_movers ((congrArg State.rsv hrest :).trans hrsv) ((congrArg State.flows hrest :).trans hflows), hframe.log, hframe.only⟩

/-- An answer to a session that the engine does not have reaches no one. -/
theorem answer_absent (st : Status) (h : s.sess.length ≤ r.sess) : s.answer r st = s := by
  have hm : (s.ses r.sess).mirror = false := by unfold ses at'; rw [List.getD_eq_default _ _ h]; rfl
  unfold answer respond
  rw [queue_plain _ _ hm]
  unfold updSes
  rw [List.modify_eq_self h]

/-- The clause of MOVE_START: firmware's chain. -/
theorem moveStart_runsFirmware (hsz : s.Sized) (h32 : m < 32) (hstate : s.rd (Obj.MOVE_STATE m) = 0)
    (hslots : ∀ i ∈ (s.mover m).reach 16 [] (s.rd (Obj.MOVE_START m)), s.slotOk 254 m i = true) :
    ∃ t, exec (.moveStart 254 tag m) s = .next t ∧ t.rd (Obj.MOVE_STATE m) = 2 ∧ t.rd (Obj.MOVE_DESC_CUR m) = s.rd (Obj.MOVE_START m) ∧
      (t.mover m).beat = 0 ∧ (∀ i, i ≠ m → t.mover i = s.mover i) ∧ t.rest = { s.rest with movers := t.movers } ∧ t.sess = s.sess ∧
      t.log = s.log ∧ s.only t [Obj.MOVE_STATE m, Obj.MOVE_DESC_CUR m, Obj.MOVE_DONE_COUNT m, Obj.MOVE_BEATS_LEFT m] := by
  have hsess : s.sess.length = 8 := congrArg (·.getD 0 0) hsz
  obtain ⟨hrsv, hflows, hsame⟩ := s.started_still m
  have hframe := s.started_frame m
  have habsent := answer_absent (s := s.started m) (r := s.req 254 tag (Obj.MOVE_CMD m)) .ok (by
    show (s.started m).sess.length ≤ 254
    rw [hsame, hsess]; decide)
  have hstarts := (moverStart_ok (r := s.req 254 tag (Obj.MOVE_CMD m)) (.inr ⟨h32, hstate⟩) hslots).trans habsent
  have hexec : exec (.moveStart 254 tag m) s = done s (s.started m) := by
    show done s (s.moveCommand 254 tag m 1 0) = _
    unfold moveCommand
    rw [if_pos rfl, when_true _ _ (Nat.blt_eq.mpr h32)]
    exact congrArg (done s) hstarts
  obtain ⟨hrun, hcur, -, -, hbeat⟩ := started_runs (s := s) (hsz.mover_lt (by omega : m < 96))
  rw [hexec]
  exact ⟨_, hframe.done, hrun, hcur, hbeat, hframe.mover, hframe.rest_movers hrsv hflows, hsame, hframe.log, hframe.only⟩

/-! ### A claim and a release (R202) -/

theorem holder_own (s : State) (u : UnitId) (i : Nat) (b : Bool) : (s.own u i b).holder u = some i := by simp [holder, own]

theorem holder_disown (s : State) (u : UnitId) : (s.disown u).holder u = none := by simp [holder, disown]

/-- A channel that a session has claimed. -/
def claimed (s : State) (m sess : Nat) : State :=
  (s.own ⟨.mover, m⟩ sess true).wrAll [(Obj.MOVE_STATE m, 1), (Obj.MOVE_OWNER m, sess), (Obj.MOVE_WORDS m, 0)]

theorem moverClaim_ok (h32 : 32 ≤ m) (hfree : s.holder ⟨.mover, m⟩ = none)
    (hquota : s.heldOf .mover r.sess < s.rd (Obj.DEV_QUOTA_MOVERS r.sess)) : s.moverClaim m r = (s.claimed m r.sess).answer r .ok := by
  unfold moverClaim claim
  rw [if_neg (by rw [Nat.blt_eq]; omega), hfree]
  exact if_neg (by rw [Nat.ble_eq]; exact Nat.not_le.mpr hquota)

theorem claimed_rest (s : State) (m sess : Nat) : (s.claimed m sess).rest = { s.rest with owners := (s.claimed m sess).owners } := by
  unfold claimed; rw [wrAll_owners, wrAll_rest]; rfl

/-- The clause of MOVE_CLAIM. -/
theorem moveClaim_takes (h32 : 32 ≤ m) (h96 : m < 96) (hs : s.serves sess tag (Obj.MOVE_CLAIM m) 1 = true)
    (hfree : s.holder ⟨.mover, m⟩ = none) (hquota : s.heldOf .mover sess < s.rd (Obj.DEV_QUOTA_MOVERS sess)) :
    ∃ t, exec (.moveClaim sess tag m) s = .next t ∧ s.replied t sess tag (Obj.MOVE_CLAIM m) .ok ∧
      t.holder ⟨.mover, m⟩ = some sess ∧ t.rd (Obj.MOVE_STATE m) = 1 ∧ t.rd (Obj.MOVE_OWNER m) = sess ∧ t.rd (Obj.MOVE_WORDS m) = 0 ∧
      t.rest = { s.rest with owners := t.owners } ∧ t.log = s.log ∧
      s.only t [Obj.MOVE_STATE m, Obj.MOVE_OWNER m, Obj.MOVE_WORDS m] := by
  have hexec : exec (.moveClaim sess tag m) s =
      done s (((s.hear sess).claimed m sess).answer ⟨sess, (s.ses sess).inc, tag, Obj.MOVE_CLAIM m⟩ .ok) := by
    show done s (when (Nat.blt m 96) (fun s => s.direct sess tag (Obj.MOVE_CLAIM m) 1 fun r s => s.moverClaim m r) s) = _
    rw [when_true _ _ (Nat.blt_eq.mpr h96), direct_serves _ hs]
    exact congrArg (done s) (moverClaim_ok h32 hfree hquota)
  have hx := (s.hear sess).claimed_rest m sess
  obtain ⟨t, ht, hrep, hrest, hobj, hlog⟩ :=
    answered (x := (s.hear sess).claimed m sess) hs (congrArg State.wall hx :) (congrArg State.pending hx :)
    (wrAll_sess ..)
  have howners : t.owners = ((s.hear sess).claimed m sess).owners := (congrArg State.owners hrest :)
  have hrd (q : Nat) : t.rd q = ((s.hear sess).claimed m sess).rd q := rd_of_obj hobj q
  rw [hexec]
  refine ⟨t, ht, hrep, ?_, ?_, ?_, ?_, by rw [howners, hrest]; exact hx, hlog.trans (wrAll_log ..), fun q hq => ?_⟩
  · unfold holder
    rw [howners]
    exact holder_own (s.hear sess) ⟨.mover, m⟩ sess true
  · rw [hrd, claimed, rd_wrAll]; simp [moveKeys, moveKey_inj]
  · rw [hrd, claimed, rd_wrAll]; simp [moveKeys, moveKey_inj]
  · rw [hrd, claimed, rd_wrAll]; simp
  · rw [hrd]; exact rd_wrAll_other _ hq

/-- Dropping what is staged for a unit touches the staged values alone. -/
theorem dropUnit_frame (s : State) (u : UnitId) : (s.dropUnit u).rest = { s.rest with staged := (s.dropUnit u).staged } ∧
    (s.dropUnit u).sess = s.sess ∧ (s.dropUnit u).log = s.log ∧ (s.dropUnit u).obj = s.obj :=
  List.foldlRecOn (motive := fun t : State => t.rest = { s.rest with staged := t.staged } ∧ t.sess = s.sess ∧ t.log = s.log ∧ t.obj = s.obj)
    _ _ ⟨rfl, rfl, rfl, rfl⟩ fun t ⟨hr, hs, hl, ho⟩ i _ => ⟨by rw [dropStaged_rest, hr], hs, hl, ho⟩

/-- A channel that waits for no halt and has no buffer any more. -/
def unbuffered (s : State) (m : Nat) : State :=
  (((((s.updMover m fun x => { x with halt := none }).wr (Obj.MOVE_STATE m) 1).wr (Obj.MOVE_BUF_LOG2 m) 0).wrc (Obj.MOVE_BUF_LOG2 m) 0).wr
    (Obj.MOVE_BUF_BASE m) 0).freeSmall (Obj.MOVE_BUF_LOG2 m) 0

/-- A channel that does not run is freed without a beat. -/
theorem freeMover_eq (h : s.rd (Obj.MOVE_STATE m) ≠ 2) : s.freeMover m =
    (((s.unbuffered m).disown ⟨.mover, m⟩).dropUnit ⟨.mover, m⟩).wrAll [(Obj.MOVE_STATE m, 0), (Obj.MOVE_OWNER m, 255)] := by
  unfold freeMover moverStop unbuffered
  rw [if_neg h]

/-- Small rings are freed: the Reservoir changes, and of the objects the free pans. -/
theorem freeSmall_frame (s : State) (k n : Nat) : (s.freeSmall k n).rest = { s.rest with rsv := (s.freeSmall k n).rsv } ∧
    (s.freeSmall k n).sess = s.sess ∧ (s.freeSmall k n).log = s.log ∧ s.only (s.freeSmall k n) [Obj.RSV_PANS_FREE] := by
  unfold freeSmall showPans
  exact ⟨rfl, rfl, rfl, fun q hq => rd_wr_other _ _ _ _ (by simpa using hq)⟩

theorem unbuffered_frame (s : State) (m : Nat) : (s.unbuffered m).rest = { s.rest with
      com := (s.unbuffered m).com, rsv := (s.unbuffered m).rsv, movers := (s.unbuffered m).movers } ∧
    (s.unbuffered m).sess = s.sess ∧ (s.unbuffered m).log = s.log ∧ (∀ i, i ≠ m → (s.unbuffered m).mover i = s.mover i) ∧
    (s.unbuffered m).rd (Obj.MOVE_BUF_LOG2 m) = 0 ∧
    s.only (s.unbuffered m) [Obj.MOVE_STATE m, Obj.MOVE_BUF_LOG2 m, Obj.MOVE_BUF_BASE m, Obj.RSV_PANS_FREE] := by
  unfold unbuffered
  generalize hy : (((((s.updMover m fun x => { x with halt := none }).wr (Obj.MOVE_STATE m) 1).wr (Obj.MOVE_BUF_LOG2 m) 0).wrc
    (Obj.MOVE_BUF_LOG2 m) 0).wr (Obj.MOVE_BUF_BASE m) 0) = y
  have hyr : y.rest = { s.rest with com := y.com, movers := y.movers } := by rw [← hy]; rfl
  have hyf : y.sess = s.sess ∧ y.log = s.log ∧ ∀ i, i ≠ m → y.mover i = s.mover i := by
    rw [← hy]
    exact ⟨rfl, rfl, fun i hi => (mover_of_movers (s := s.updMover m fun x => { x with halt := none }) (by simp) i).trans
      (mover_updMover_other _ hi)⟩
  have hyl : y.rd (Obj.MOVE_BUF_LOG2 m) = 0 := by
    rw [← hy, rd_wr_other _ _ _ _ (by simp [moveKeys, moveKey_inj])]; exact rd_wr_same ..
  have hyo : s.only y [Obj.MOVE_STATE m, Obj.MOVE_BUF_LOG2 m, Obj.MOVE_BUF_BASE m] := fun q hq => by
    simp only [List.mem_cons, List.not_mem_nil, or_false, not_or] at hq
    obtain ⟨hstate, hlog2, hbase⟩ := hq
    rw [← hy, rd_wr_other _ _ _ _ hbase]
    exact (rd_wr_other _ _ _ _ hlog2).trans (rd_wr_other _ _ _ _ hstate)
  obtain ⟨hsess, hlog, hmover⟩ := hyf
  obtain ⟨hr, hs, hl, ho⟩ := y.freeSmall_frame (Obj.MOVE_BUF_LOG2 m) 0
  generalize y.freeSmall (Obj.MOVE_BUF_LOG2 m) 0 = z at *
  have hcom : z.com = y.com := (congrArg State.com hr :)
  have hmovers : z.movers = y.movers := (congrArg State.movers hr :)
  refine ⟨by rw [hcom, hmovers, hr, hyr], hs.trans hsess, hl.trans hlog, fun i hi => (mover_of_movers hmovers i).trans (hmover i hi), ?_,
    fun q hq => ?_⟩
  · rw [ho _ (by simpa [moveKeys] using moveKey_ne (by decide)), hyl]
  · simp only [List.mem_cons, List.not_mem_nil, or_false, not_or] at hq
    rw [ho q (by simp [hq]), hyo q (by simp [hq])]

/-- A channel that does not run is idle, unowned and without a buffer once freed. -/
theorem freeMover_frees (h : s.rd (Obj.MOVE_STATE m) ≠ 2) : (s.freeMover m).holder ⟨.mover, m⟩ = none ∧
    (s.freeMover m).rd (Obj.MOVE_STATE m) = 0 ∧ (s.freeMover m).rd (Obj.MOVE_OWNER m) = 255 ∧ (s.freeMover m).rd (Obj.MOVE_BUF_LOG2 m) = 0 ∧
    (∀ i, i ≠ m → (s.freeMover m).mover i = s.mover i) ∧
    (s.freeMover m).rest = { s.rest with
      owners := (s.freeMover m).owners, com := (s.freeMover m).com, staged := (s.freeMover m).staged, rsv := (s.freeMover m).rsv
      movers := (s.freeMover m).movers } ∧ (s.freeMover m).sess = s.sess ∧ (s.freeMover m).log = s.log ∧
    s.only (s.freeMover m) [Obj.MOVE_STATE m, Obj.MOVE_OWNER m, Obj.MOVE_BUF_LOG2 m, Obj.MOVE_BUF_BASE m, Obj.RSV_PANS_FREE] := by
  rw [freeMover_eq h]
  obtain ⟨hyr, hys, hyl, hym, hylog2, hyo⟩ := s.unbuffered_frame m
  generalize s.unbuffered m = y at *
  obtain ⟨hzr, hzs, hzl, hzo⟩ := (y.disown ⟨.mover, m⟩).dropUnit_frame ⟨.mover, m⟩
  generalize (y.disown ⟨.mover, m⟩).dropUnit ⟨.mover, m⟩ = z at *
  obtain ⟨x, hx⟩ : ∃ x, x = z.wrAll [(Obj.MOVE_STATE m, 0), (Obj.MOVE_OWNER m, 255)] := ⟨_, rfl⟩
  have hxr : x.rest = z.rest := by rw [hx]; exact wrAll_rest ..
  have hxs : x.sess = z.sess ∧ x.log = z.log := by rw [hx]; exact ⟨wrAll_sess .., wrAll_log ..⟩
  have hxrd (q : Nat) (hq : q ≠ Obj.MOVE_STATE m) (hq' : q ≠ Obj.MOVE_OWNER m) : x.rd q = y.rd q := by
    rw [hx, rd_wrAll_other _ (by simp [hq, hq'])]; exact rd_of_obj hzo q
  have howners : x.owners = (y.disown ⟨.mover, m⟩).owners := (congrArg State.owners (hxr.trans hzr) :)
  have hcom : x.com = y.com := (congrArg State.com (hxr.trans hzr) :)
  have hstaged : x.staged = z.staged := (congrArg State.staged hxr :)
  have hrsv : x.rsv = y.rsv := (congrArg State.rsv (hxr.trans hzr) :)
  have hmovers : x.movers = y.movers := (congrArg State.movers (hxr.trans hzr) :)
  rw [← hx]
  refine ⟨?_, ?_, ?_, ?_, fun i hi => (mover_of_movers hmovers i).trans (hym i hi), ?_, hxs.1.trans (hzs.trans hys), hxs.2.trans (hzl.trans hyl),
    fun q hq => ?_⟩
  · unfold holder
    rw [howners]
    exact y.holder_disown ⟨.mover, m⟩
  · rw [hx, rd_wrAll]; simp [moveKeys, moveKey_inj]
  · rw [hx, rd_wrAll]; simp [moveKeys]
  · rw [hxrd _ (by simp [moveKeys, moveKey_inj]) (by simp [moveKeys, moveKey_inj]), hylog2]
  · rw [howners, hcom, hstaged, hrsv, hmovers, hxr, hzr, disown_rest, hyr]
  · simp only [List.mem_cons, List.not_mem_nil, or_false, not_or] at hq
    obtain ⟨hstate, howner, hlog2, hbase, hpans⟩ := hq
    rw [hxrd q hstate howner, hyo q (by simp [hstate, hlog2, hbase, hpans])]

/-- The clause of MOVE_RELEASE. -/
theorem moveRelease_frees (h32 : 32 ≤ m) (h96 : m < 96) (hs : s.serves sess tag (Obj.MOVE_CLAIM m) 2 = true)
    (hholds : s.holder ⟨.mover, m⟩ = some sess) (hstate : s.rd (Obj.MOVE_STATE m) = 1) :
    ∃ t, exec (.moveRelease sess tag m) s = .next t ∧ s.replied t sess tag (Obj.MOVE_CLAIM m) .ok ∧ t.holder ⟨.mover, m⟩ = none ∧
      t.rd (Obj.MOVE_STATE m) = 0 ∧ t.rd (Obj.MOVE_OWNER m) = 255 ∧ t.rd (Obj.MOVE_BUF_LOG2 m) = 0 ∧
      (∀ i, i ≠ m → t.mover i = s.mover i) ∧
      t.rest = { s.rest with owners := t.owners, com := t.com, staged := t.staged, swaps := t.swaps, rsv := t.rsv, movers := t.movers } ∧
      t.log = s.log ∧
      s.only t [Obj.MOVE_STATE m, Obj.MOVE_OWNER m, Obj.MOVE_BUF_LOG2 m, Obj.MOVE_BUF_BASE m, Obj.RSV_PANS_FREE] := by
  have hexec : exec (.moveRelease sess tag m) s =
      done s (((s.hear sess).freeMover m).answer ⟨sess, (s.ses sess).inc, tag, Obj.MOVE_CLAIM m⟩ .ok) := by
    show done s (when (Nat.blt m 96) (fun s => s.direct sess tag (Obj.MOVE_CLAIM m) 2 fun r s => s.moverRelease m r) s) = _
    rw [when_true _ _ (Nat.blt_eq.mpr h96), direct_serves _ hs]
    unfold moverRelease unclaim
    rw [if_neg (by rw [Nat.blt_eq]; omega), show (s.hear sess).holder ⟨.mover, m⟩ = some sess from hholds]
    exact congrArg (done s) (if_pos rfl)
  obtain ⟨hgone, hidle, howner, hlog2, hmover, hxr, hxs, hxl, hxo⟩ :=
    freeMover_frees (s := s.hear sess) (m := m) (by rw [hear_rd, hstate]; decide)
  rw [hexec]
  generalize (s.hear sess).freeMover m = x at *
  obtain ⟨t, ht, hrep, hrest, hobj, hlog⟩ := answered (x := x) hs (congrArg State.wall hxr :) (congrArg State.pending hxr :) hxs
  have howners : t.owners = x.owners := (congrArg State.owners hrest :)
  have hmovers : t.movers = x.movers := (congrArg State.movers hrest :)
  have hrd (q : Nat) : t.rd q = x.rd q := rd_of_obj hobj q
  refine ⟨t, ht, hrep, ?_, (hrd _).trans hidle, (hrd _).trans howner, (hrd _).trans hlog2,
    fun i hi => (mover_of_movers hmovers i).trans (hmover i hi), ?_, hlog.trans hxl, fun q hq => (hrd q).trans (hxo q hq)⟩
  · unfold holder at hgone ⊢
    rw [howners]
    exact hgone
  · have hcom : t.com = x.com := (congrArg State.com hrest :)
    have hstaged : t.staged = x.staged := (congrArg State.staged hrest :)
    have hswaps : t.swaps = s.swaps := (congrArg State.swaps (hrest.trans hxr) :)
    have hrsv : t.rsv = x.rsv := (congrArg State.rsv hrest :)
    rw [howners, hcom, hstaged, hswaps, hrsv, hmovers, hrest]
    exact hxr

/-! ### A descriptor word (R205) -/

/-- A channel with a word of a slot put. -/
def worded (s : State) (m v : Nat) : State :=
  s.updMover m fun x => { x with slots := x.slots.set zeroDflt (8 * (v / 2 ^ 40 % 16) + v / 2 ^ 36 % 8) (v % 2 ^ 36) }

theorem moverDesc_ok (h : s.rd (Obj.MOVE_STATE m) = 1) : s.moverDesc m v r = (s.worded m v).answer r .ok := by
  unfold moverDesc
  rw [h]
  rfl

/-- The clause of MOVE_DESC_WRITE. -/
theorem moveDescWrite_puts (hsz : s.Sized) (h96 : m < 96) (hs : s.serves sess tag (Obj.MOVE_DESC_WRITE m) v = true)
    (hstate : s.rd (Obj.MOVE_STATE m) = 1) :
    ∃ t, exec (.moveDescWrite sess tag m v) s = .next t ∧ s.replied t sess tag (Obj.MOVE_DESC_WRITE m) .ok ∧
      (t.mover m).word (v / 2 ^ 40 % 16) (v / 2 ^ 36 % 8) = v % 2 ^ 36 ∧
      t.mover m = { s.mover m with slots := (t.mover m).slots } ∧ (∀ i, i ≠ m → t.mover i = s.mover i) ∧
      t.rest = { s.rest with movers := t.movers } ∧ t.obj = s.obj ∧ t.log = s.log := by
  have hexec : exec (.moveDescWrite sess tag m v) s =
      done s (((s.hear sess).worded m v).answer ⟨sess, (s.ses sess).inc, tag, Obj.MOVE_DESC_WRITE m⟩ .ok) := by
    show done s (if sess = 254 then when (Nat.blt m 32) (fun s => s.moverDesc m v (s.req 254 tag (Obj.MOVE_DESC_WRITE m))) s
      else when (Nat.blt m 96) (fun s => s.direct sess tag (Obj.MOVE_DESC_WRITE m) v fun r s => s.moverDesc m v r) s) = _
    rw [if_neg (takes_session (serves_takes hs)), when_true _ _ (Nat.blt_eq.mpr h96), direct_serves _ hs]
    exact congrArg (done s) (moverDesc_ok hstate)
  have hm : ((s.hear sess).worded m v).mover m = _ := mover_updMover_same (s := s.hear sess) _ (hsz.mover_lt h96)
  obtain ⟨t, ht, hrep, hrest, hobj, hframe⟩ := answered_frame (keys := []) (x := (s.hear sess).worded m v) hs (MoverFrame.refl _).updMover rfl
  have htm : t.mover m = _ := (mover_of_movers (congrArg State.movers hrest :) m).trans hm
  rw [hexec]
  refine ⟨t, ht, hrep, ?_, ?_, hframe.mover, hframe.rest_movers (congrArg State.rsv hrest :) (congrArg State.flows hrest :), hobj, hframe.log⟩
  · rw [htm]
    exact Mem.get_set_same ..
  · rw [htm, mover_hear]

/-! ### A halt and its end (R211) -/

theorem moverHalt_now (hstate : s.rd (Obj.MOVE_STATE m) = 2) (hb : beats ≤ (s.mover m).beat) :
    s.moverHalt m beats r = (s.halted m beats).answer r .ok := by
  unfold moverHalt
  rw [hstate]
  exact if_pos hb

/-- The clause of MOVE_HALT: at once where the boundary is reached. -/
theorem moveHalt_halts (hsz : s.Sized) (h96 : m < 96) (hs : s.serves sess tag (Obj.MOVE_CMD m) 2 = true)
    (hstate : s.rd (Obj.MOVE_STATE m) = 2) (hbelow : (s.mover m).beat < (s.curDesc m).count) (hb : beats ≤ (s.mover m).beat) :
    ∃ t, exec (.moveHalt sess tag m beats) s = .next t ∧ s.replied t sess tag (Obj.MOVE_CMD m) .ok ∧ t.rd (Obj.MOVE_STATE m) = 3 ∧
      (t.mover m).beat = (s.mover m).beat ∧ (∀ i, i ≠ m → t.mover i = s.mover i) ∧
      t.rest = { s.rest with movers := t.movers } ∧ t.log = s.log ∧ s.only t [Obj.MOVE_STATE m, Obj.MOVE_BEATS_LEFT m] := by
  obtain ⟨y, hy⟩ : ∃ y, y = (s.hear sess).updMover m fun x => { x with halt := none } := ⟨_, rfl⟩
  have hhalt : (s.hear sess).halted m beats = (y.moveBeats m 0).wr (Obj.MOVE_STATE m) 3 := by
    have hzero : beats - ((s.hear sess).mover m).beat = 0 := Nat.sub_eq_zero_of_le hb
    have h := halted_eq (s := s.hear sess) (b := beats) (hsz.mover_lt h96) hstate (fun _ => hzero) (by rw [hzero]; exact hbelow)
      (by rw [hzero]; exact beatsReady_zero ..)
    rw [h, hzero, hy]
  have hexec : exec (.moveHalt sess tag m beats) s =
      done s (((y.moveBeats m 0).wr (Obj.MOVE_STATE m) 3).answer ⟨sess, (s.ses sess).inc, tag, Obj.MOVE_CMD m⟩ .ok) := by
    show done s (s.moveCommand sess tag m 2 beats) = _
    rw [moveCommand_serves h96 hs, ← hhalt]
    exact congrArg (done s) (moverHalt_now (s := s.hear sess) hstate hb)
  have hym := mover_updMover_same (s := s.hear sess) (fun x => { x with halt := none }) (hsz.mover_lt h96)
  rw [← hy] at hym
  have hyframe : MoverFrame m [Obj.MOVE_STATE m, Obj.MOVE_BEATS_LEFT m] (s.hear sess) y := hy ▸ (MoverFrame.refl _).updMover
  have hsame : y.sess = (s.hear sess).sess := by rw [hy]; rfl
  have hyr : y.rsv = s.rsv ∧ y.flows = s.flows := by rw [hy]; exact ⟨rfl, rfl⟩
  obtain ⟨hzero, hrsv, hflows⟩ := y.moveBeats_zero m
  have hbeat := (moveBeats_moves (s := y) (n := 0) (hyframe.length ▸ hsz.mover_lt h96)).1
  have hzframe : MoverFrame m [Obj.MOVE_STATE m, Obj.MOVE_BEATS_LEFT m] (s.hear sess) ((y.moveBeats m 0).wr (Obj.MOVE_STATE m) 3) :=
    (hyframe.trans (hzero.mono (List.subset_cons_self ..))).wr (List.mem_cons_self ..)
  obtain ⟨t, ht, hrep, hrest, hobj, hframe⟩ := answered_frame hs hzframe (hsame ▸ y.moveBeats_sess m 0)
  have hmovers : t.movers = (y.moveBeats m 0).movers := (congrArg State.movers hrest :)
  rw [hexec]
  refine ⟨t, ht, hrep, (rd_of_obj hobj _).trans (rd_wr_same ..), ?_, hframe.mover, hframe.rest_movers
    (((congrArg State.rsv hrest :).trans hrsv).trans hyr.1) (((congrArg State.flows hrest :).trans hflows).trans hyr.2), hframe.log, hframe.only⟩
  rw [mover_of_movers hmovers, hbeat, hym]
  rfl

theorem moverHalt_later (hstate : s.rd (Obj.MOVE_STATE m) = 2) (hb : (s.mover m).beat < beats) :
    s.moverHalt m beats r = (s.updMover m fun x => { x with halt := some (x.halt.getD beats) }).answer r .ok := by
  unfold moverHalt
  rw [hstate]
  exact if_neg (Nat.not_le.mpr hb)

/-- The clause of MOVE_HALT: the channel waits for the boundary. -/
theorem moveHalt_waits (hsz : s.Sized) (h96 : m < 96) (hs : s.serves sess tag (Obj.MOVE_CMD m) 2 = true)
    (hstate : s.rd (Obj.MOVE_STATE m) = 2) (hb : (s.mover m).beat < beats) :
    ∃ t, exec (.moveHalt sess tag m beats) s = .next t ∧ s.replied t sess tag (Obj.MOVE_CMD m) .ok ∧
      t.mover m = { s.mover m with halt := some ((s.mover m).halt.getD beats) } ∧ (∀ i, i ≠ m → t.mover i = s.mover i) ∧
      t.rest = { s.rest with movers := t.movers } ∧ t.obj = s.obj ∧ t.log = s.log := by
  obtain ⟨y, hy⟩ : ∃ y, y = (s.hear sess).updMover m fun x => { x with halt := some (x.halt.getD beats) } := ⟨_, rfl⟩
  have hexec : exec (.moveHalt sess tag m beats) s = done s (y.answer ⟨sess, (s.ses sess).inc, tag, Obj.MOVE_CMD m⟩ .ok) := by
    show done s (s.moveCommand sess tag m 2 beats) = _
    rw [moveCommand_serves h96 hs, hy]
    exact congrArg (done s) (moverHalt_later (s := s.hear sess) hstate hb)
  have hym := mover_updMover_same (s := s.hear sess) (fun x => { x with halt := some (x.halt.getD beats) }) (hsz.mover_lt h96)
  rw [hexec, hy]
  obtain ⟨t, ht, hrep, hrest, hobj, hframe⟩ := answered_frame (keys := []) hs ((MoverFrame.refl (m := m) (s.hear sess)).updMover
    (f := fun x => { x with halt := some (x.halt.getD beats) })) rfl
  exact ⟨t, ht, hrep, (mover_of_movers (congrArg State.movers hrest :) m).trans hym, hframe.mover,
    hframe.rest_movers (congrArg State.rsv hrest :) (congrArg State.flows hrest :), hobj, hframe.log⟩

theorem moverResume_ok (h : s.rd (Obj.MOVE_STATE m) = 3) : s.moverResume m r = (s.wr (Obj.MOVE_STATE m) 2).answer r .ok := by
  unfold moverResume
  rw [h]
  rfl

/-- The clause of MOVE_RESUME. -/
theorem moveResume_runs (h96 : m < 96) (hs : s.serves sess tag (Obj.MOVE_CMD m) 6 = true) (hstate : s.rd (Obj.MOVE_STATE m) = 3) :
    ∃ t, exec (.moveResume sess tag m) s = .next t ∧ s.replied t sess tag (Obj.MOVE_CMD m) .ok ∧ t.rd (Obj.MOVE_STATE m) = 2 ∧
      s.keeps t [Obj.MOVE_STATE m] := by
  have hexec : exec (.moveResume sess tag m) s =
      done s (((s.hear sess).wr (Obj.MOVE_STATE m) 2).answer ⟨sess, (s.ses sess).inc, tag, Obj.MOVE_CMD m⟩ .ok) := by
    show done s (s.moveCommand sess tag m 6 0) = _
    rw [moveCommand_serves h96 hs]
    exact congrArg (done s) (moverResume_ok (s := s.hear sess) hstate)
  obtain ⟨t, ht, hrep, hrest, hobj, hframe⟩ := answered_frame (keys := [Obj.MOVE_STATE m]) hs
    ((MoverFrame.refl (m := m) (s.hear sess)).wr (List.mem_singleton.mpr rfl)) rfl
  rw [hexec]
  exact ⟨t, ht, hrep, (rd_of_obj hobj _).trans (rd_wr_same ..), hframe.only, hrest, hframe.log⟩

theorem moverAbort_halted (h : s.rd (Obj.MOVE_STATE m) = 3) :
    s.moverAbort m beats r = ((s.updMover m fun x => { x with halt := none }).wr (Obj.MOVE_STATE m) 1).answer r .ok := by
  unfold moverAbort moverStop
  rw [h]
  rfl

/-- The clause of MOVE_ABORT. -/
theorem moveAbort_idles (h96 : m < 96) (hs : s.serves sess tag (Obj.MOVE_CMD m) 5 = true) (hstate : s.rd (Obj.MOVE_STATE m) = 3) :
    ∃ t, exec (.moveAbort sess tag m beats) s = .next t ∧ s.replied t sess tag (Obj.MOVE_CMD m) .ok ∧ t.rd (Obj.MOVE_STATE m) = 1 ∧
      (∀ i, i ≠ m → t.mover i = s.mover i) ∧ t.rest = { s.rest with movers := t.movers } ∧ t.log = s.log ∧ s.only t [Obj.MOVE_STATE m] := by
  have hexec : exec (.moveAbort sess tag m beats) s = done s ((((s.hear sess).updMover m fun x => { x with halt := none }).wr
      (Obj.MOVE_STATE m) 1).answer ⟨sess, (s.ses sess).inc, tag, Obj.MOVE_CMD m⟩ .ok) := by
    show done s (s.moveCommand sess tag m 5 beats) = _
    rw [moveCommand_serves h96 hs]
    exact congrArg (done s) (moverAbort_halted (s := s.hear sess) hstate)
  obtain ⟨t, ht, hrep, hrest, hobj, hframe⟩ := answered_frame (keys := [Obj.MOVE_STATE m]) hs
    (((MoverFrame.refl (m := m) (s.hear sess)).updMover (f := fun x => { x with halt := none })).wr (List.mem_singleton.mpr rfl)) rfl
  rw [hexec]
  exact ⟨t, ht, hrep, (rd_of_obj hobj _).trans (rd_wr_same ..), hframe.mover,
    hframe.rest_movers (congrArg State.rsv hrest :) (congrArg State.flows hrest :), hframe.log, hframe.only⟩

/-! ### After an error: retry and skip (R211, R213) -/

/-- A channel that goes on at the beat its latched error names. -/
def wentBack (s : State) (m : Nat) : State := s.updMover m fun x => { x with beat := s.rd (Obj.MOVE_ERR_BEATS m), ahead := 0 }

theorem moverRetry_ok (h : s.rd (Obj.MOVE_STATE m) = 4) : s.moverRetry m r =
    (((s.wentBack m).wr (Obj.MOVE_BEATS_LEFT m) (((s.wentBack m).curDesc m).count - ((s.wentBack m).mover m).beat)).wr
      (Obj.MOVE_STATE m) 2).answer r .ok := by
  unfold moverRetry
  rw [h]
  rfl

/-- The clause of MOVE_RETRY. -/
theorem moveRetry_runs (hsz : s.Sized) (h96 : m < 96) (hs : s.serves sess tag (Obj.MOVE_CMD m) 3 = true)
    (hstate : s.rd (Obj.MOVE_STATE m) = 4) :
    ∃ t, exec (.moveRetry sess tag m) s = .next t ∧ s.replied t sess tag (Obj.MOVE_CMD m) .ok ∧ t.rd (Obj.MOVE_STATE m) = 2 ∧
      (t.mover m).beat = s.rd (Obj.MOVE_ERR_BEATS m) ∧ (∀ i, i ≠ m → t.mover i = s.mover i) ∧
      t.rest = { s.rest with movers := t.movers } ∧ t.log = s.log ∧ s.only t [Obj.MOVE_STATE m, Obj.MOVE_BEATS_LEFT m] := by
  have hexec : exec (.moveRetry sess tag m) s = done s ((s.hear sess).moverRetry m ⟨sess, (s.ses sess).inc, tag, Obj.MOVE_CMD m⟩) := by
    show done s (s.moveCommand sess tag m 3 0) = _
    rw [moveCommand_serves h96 hs]
    rfl
  have hym : ((s.hear sess).wentBack m).mover m = _ := mover_updMover_same (s := s.hear sess) _ (hsz.mover_lt h96)
  have hyframe : MoverFrame m [Obj.MOVE_STATE m, Obj.MOVE_BEATS_LEFT m] (s.hear sess) ((s.hear sess).wentBack m) :=
    (MoverFrame.refl _).updMover
  have hys : ((s.hear sess).wentBack m).sess = (s.hear sess).sess ∧ ((s.hear sess).wentBack m).rsv = s.rsv ∧
    ((s.hear sess).wentBack m).flows = s.flows := ⟨rfl, rfl, rfl⟩
  rw [hexec, moverRetry_ok (s := s.hear sess) hstate]
  generalize (s.hear sess).wentBack m = y at *
  obtain ⟨hsess, hrsv, hflows⟩ := hys
  obtain ⟨t, ht, hrep, hrest, hobj, hframe⟩ := answered_frame (x := (y.wr (Obj.MOVE_BEATS_LEFT m) ((y.curDesc m).count - (y.mover m).beat)).wr
    (Obj.MOVE_STATE m) 2) hs ((hyframe.wr (by simp)).wr (by simp)) hsess
  exact ⟨t, ht, hrep, (rd_of_obj hobj _).trans (rd_wr_same ..),
    (congrArg Mover.beat ((mover_of_movers (congrArg State.movers hrest :) m).trans hym) :), hframe.mover,
    hframe.rest_movers ((congrArg State.rsv hrest :).trans hrsv) ((congrArg State.flows hrest :).trans hflows), hframe.log, hframe.only⟩

/-- Octets that the slot in progress holds in a receive flow are released. -/
def released (s : State) (m : Nat) : State :=
  if (s.curDesc m).srcSpace = 3 then
    s.updFlow (s.curDesc m).src fun x =>
      { x with rxWords := x.rxWords.drop (((s.mover m).ahead + 1) * beatBytes (s.curDesc m).srcWidth) }
  else s

theorem moverSkip_ok (h : s.rd (Obj.MOVE_STATE m) = 4) :
    s.moverSkip m r = (((s.released m).wr (Obj.MOVE_STATE m) 2).nextSlot m).answer r .ok := by
  unfold moverSkip
  rw [h]
  rfl

theorem released_frame (s : State) (m : Nat) : MoverFrame m [] s (s.released m) ∧ (s.released m).sess = s.sess ∧
    (s.released m).rsv = s.rsv ∧ (s.released m).movers = s.movers := by
  unfold released
  split
  · exact ⟨(MoverFrame.refl s).updFlow, rfl, rfl, rfl⟩
  · exact ⟨.refl s, rfl, rfl, rfl⟩

/-- After the last slot the channel reads done; else the next slot begins. -/
theorem nextSlot_last (h : (s.curDesc m).last = true) : s.nextSlot m = s.wr (Obj.MOVE_STATE m) 5 := by
  unfold nextSlot; exact if_pos h

theorem nextSlot_next (h : (s.curDesc m).last = false) : s.nextSlot m = s.beginSlot m (s.curDesc m).next := by
  unfold nextSlot; exact if_neg (by rw [h]; decide)

/-- The clause of MOVE_SKIP. -/
theorem moveSkip_goesOn (hsz : s.Sized) (h96 : m < 96) (hs : s.serves sess tag (Obj.MOVE_CMD m) 4 = true)
    (hstate : s.rd (Obj.MOVE_STATE m) = 4) :
    ∃ t, exec (.moveSkip sess tag m) s = .next t ∧ s.replied t sess tag (Obj.MOVE_CMD m) .ok ∧
      t.rd (Obj.MOVE_STATE m) = (if (s.curDesc m).last = true then 5 else 2) ∧
      ((s.curDesc m).last = false → t.rd (Obj.MOVE_DESC_CUR m) = (s.curDesc m).next ∧ (t.mover m).beat = 0) ∧
      (∀ i, i ≠ m → t.mover i = s.mover i) ∧ t.rest = { s.rest with movers := t.movers, flows := t.flows } ∧ t.log = s.log ∧
      s.only t [Obj.MOVE_STATE m, Obj.MOVE_DESC_CUR m, Obj.MOVE_BEATS_LEFT m] := by
  have hexec : exec (.moveSkip sess tag m) s = done s ((s.hear sess).moverSkip m ⟨sess, (s.ses sess).inc, tag, Obj.MOVE_CMD m⟩) := by
    show done s (s.moveCommand sess tag m 4 0) = _
    rw [moveCommand_serves h96 hs]
    rfl
  rw [hexec, moverSkip_ok (s := s.hear sess) hstate]
  obtain ⟨y, hy⟩ : ∃ y, y = ((s.hear sess).released m).wr (Obj.MOVE_STATE m) 2 := ⟨_, rfl⟩
  obtain ⟨hr, hrs, hrr, hrm⟩ := (s.hear sess).released_frame m
  have hyframe : MoverFrame m [Obj.MOVE_STATE m, Obj.MOVE_DESC_CUR m, Obj.MOVE_BEATS_LEFT m] (s.hear sess) y := by
    rw [hy]; exact (hr.mono (List.nil_subset _)).wr (by simp)
  have hys : y.sess = (s.hear sess).sess ∧ y.rsv = s.rsv ∧ y.movers = s.movers := by rw [hy]; exact ⟨hrs, hrr, hrm⟩
  have hrun : y.rd (Obj.MOVE_STATE m) = 2 := by rw [hy]; exact rd_wr_same ..
  have hcur : y.curDesc m = s.curDesc m := by
    refine curDesc_congr (by rw [mover_of_movers hys.2.2]) ?_
    rw [hy, rd_wr_other _ _ _ _ (by simp [moveKeys, moveKey_inj]), hr.only _ List.not_mem_nil]; rfl
  rw [← hy]
  clear hr hrs hrr hrm hy
  obtain ⟨hsess, hrsv, hmovers⟩ := hys
  cases hl : (s.curDesc m).last with
  | true =>
    obtain ⟨t, ht, hrep, hrest, hobj, hframe⟩ := answered_frame hs (hyframe.wr (v := 5) (List.mem_cons_self ..)) hsess
    rw [nextSlot_last (hcur ▸ hl)]
    exact ⟨t, ht, hrep, (rd_of_obj hobj _).trans (rd_wr_same ..), nofun, hframe.mover,
      hframe.rest_flows ((congrArg State.rsv hrest :).trans hrsv), hframe.log, hframe.only⟩
  | false =>
    obtain ⟨hcur', -, hbeat⟩ := beginSlot_begins (s := y) (slot := (s.curDesc m).next) (hmovers ▸ hsz.mover_lt h96)
    have hxframe := hyframe.beginSlot (slot := (s.curDesc m).next) (by simp)
    have hxs : (y.beginSlot m (s.curDesc m).next).sess = y.sess ∧ (y.beginSlot m (s.curDesc m).next).rsv = y.rsv ∧
        (y.beginSlot m (s.curDesc m).next).rd (Obj.MOVE_STATE m) = 2 := by
      unfold beginSlot
      refine ⟨rfl, rfl, ?_⟩
      rw [rd_wr_other _ _ _ _ (by simp [moveKeys, moveKey_inj]), rd_wr_other _ _ _ _ (by simp [moveKeys, moveKey_inj])]
      exact hrun
    rw [nextSlot_next (hcur ▸ hl), hcur]
    generalize y.beginSlot m (s.curDesc m).next = x at *
    obtain ⟨hxsess, hxrsv, hxrun⟩ := hxs
    obtain ⟨t, ht, hrep, hrest, hobj, hframe⟩ := answered_frame hs hxframe (hxsess.trans hsess)
    exact ⟨t, ht, hrep, (rd_of_obj hobj _).trans hxrun, fun _ => ⟨(rd_of_obj hobj _).trans hcur',
      (congrArg Mover.beat (mover_of_movers (congrArg State.movers hrest :) m)).trans hbeat⟩, hframe.mover,
      hframe.rest_flows ((congrArg State.rsv hrest :).trans (hxrsv.trans hrsv)), hframe.log, hframe.only⟩

end State

/-- Settles O14: each clause is the lemma of its command. -/
theorem moverCommands : Obligations.MoverCommands := by
  unfold Obligations.MoverCommands
  refine ⟨?_, ?_, ?_, ?_, ?_, ?_, ?_, ?_, ?_, ?_, ?_⟩
  · exact fun s sess tag m h32 h96 hs hfree hquota => State.moveClaim_takes h32 h96 hs hfree hquota
  · exact fun s sess tag m h32 h96 hs hholds hstate => State.moveRelease_frees h32 h96 hs hholds hstate
  · exact fun s sess tag m v hsz _ h96 hs hstate => State.moveDescWrite_puts hsz h96 hs hstate
  · exact fun s sess tag m hsz _ h96 hs hstate hslots => State.moveStart_runs hsz h96 hs hstate hslots
  · exact fun s tag m hsz h32 hstate hslots => State.moveStart_runsFirmware hsz h32 hstate hslots
  · exact fun s sess tag m beats hsz _ h96 hs hstate hbelow hb => State.moveHalt_halts hsz h96 hs hstate hbelow hb
  · exact fun s sess tag m beats hsz _ h96 hs hstate hb => State.moveHalt_waits hsz h96 hs hstate hb
  · exact fun s sess tag m hsz _ h96 hs hstate => State.moveRetry_runs hsz h96 hs hstate
  · exact fun s sess tag m hsz _ h96 hs hstate => State.moveSkip_goesOn hsz h96 hs hstate
  · exact fun s sess tag m beats _ h96 hs hstate => State.moveAbort_idles h96 hs hstate
  · exact fun s sess tag m _ h96 hs hstate => State.moveResume_runs h96 hs hstate

end Sys2Proof.Machine

/-! ## Mover completion, beat errors and buffer Joints (R204, R210, R212 to R215): O15 -/

namespace Sys2Proof.Machine

set_option Elab.async false

namespace State

variable {s t : State} {m n k b : Nat}

/-! ### DESCRIPTOR_COMPLETE (R210, R211) -/

/-- Where every pseudo-channel is in order none has failed. -/
theorem any_failed_false (h : ∀ p ∈ s.rsv.pch, p.failed = false) : s.rsv.pch.any Pch.failed = false :=
  List.any_eq_false.mpr fun p hp => Bool.eq_false_iff.mp (h p hp)

/-- A slot with LAST and without NOTIFY completes: its tag, the count, and the channel reads done. -/
theorem completeSlot_last (hl : (s.curDesc m).last = true) (hn : (s.curDesc m).notify = false) : s.completeSlot m =
    ((s.wr (Obj.MOVE_DONE_TAG m) (s.curDesc m).tag).wr (Obj.MOVE_DONE_COUNT m) ((s.rd (Obj.MOVE_DONE_COUNT m) + 1) % 2 ^ 32)).wr
      (Obj.MOVE_STATE m) 5 := by
  have hcur (v w : Nat) : ((s.wr (Obj.MOVE_DONE_TAG m) v).wr (Obj.MOVE_DONE_COUNT m) w).curDesc m = s.curDesc m :=
    curDesc_congr rfl (by simp [rd_wr, moveKeys, moveKey_inj])
  unfold completeSlot
  dsimp only
  rw [hn, if_neg Bool.false_ne_true, nextSlot_last (by rw [hcur]; exact hl)]

/-- A channel that runs and that the engine has. -/
theorem descriptorComplete_runs (h96 : m < 96) (hstate : s.rd (Obj.MOVE_STATE m) = 2) :
    ¬ (s.rd (Obj.MOVE_STATE m) != 2 || Nat.ble 96 m) = true := by
  rw [hstate, Bool.or_eq_true, Nat.ble_eq]
  exact not_or.mpr ⟨by decide, Nat.not_le.mpr h96⟩

theorem exec_descriptorComplete (h96 : m < 96) (hstate : s.rd (Obj.MOVE_STATE m) = 2) (hgone : s.goneDir m = none)
    (hhalt : (s.mover m).halt = none) : exec (.descriptorComplete m) s =
      done s ((s.advance m (s.beatsReady m ((s.curDesc m).count - (s.mover m).beat))).completeIf m (s.curDesc m).count) := by
  show execDescriptorComplete m s = _
  unfold execDescriptorComplete
  rw [if_neg (descriptorComplete_runs h96 hstate), hgone]
  dsimp only
  rw [hhalt]

theorem exec_descriptorComplete_halt (h96 : m < 96) (hstate : s.rd (Obj.MOVE_STATE m) = 2) (hgone : s.goneDir m = none)
    (hhalt : (s.mover m).halt = some b) : exec (.descriptorComplete m) s = done s (s.halted m b) := by
  show execDescriptorComplete m s = _
  unfold execDescriptorComplete
  rw [if_neg (descriptorComplete_runs h96 hstate), hgone]
  dsimp only
  rw [hhalt]

/-- The clause of a last descriptor whose beats can all move. -/
theorem descriptorComplete_done (hsz : s.Sized) (h96 : m < 96) (hstate : s.rd (Obj.MOVE_STATE m) = 2) (hgone : s.goneDir m = none)
    (hhalt : (s.mover m).halt = none) (hlive : ∀ p ∈ s.rsv.pch, p.failed = false) (hle : (s.mover m).beat ≤ (s.curDesc m).count)
    (hready : s.beatsReady m ((s.curDesc m).count - (s.mover m).beat) = (s.curDesc m).count - (s.mover m).beat)
    (hlast : (s.curDesc m).last = true) (hnotify : (s.curDesc m).notify = false) :
    ∃ t, exec (.descriptorComplete m) s = .next t ∧ t.rd (Obj.MOVE_STATE m) = 5 ∧ t.rd (Obj.MOVE_DONE_TAG m) = (s.curDesc m).tag ∧
      t.rd (Obj.MOVE_DONE_COUNT m) = (s.rd (Obj.MOVE_DONE_COUNT m) + 1) % 2 ^ 32 ∧ t.rd (Obj.MOVE_BEATS_LEFT m) = 0 ∧
      (∀ i, i ≠ m → t.mover i = s.mover i) ∧ t.rest = { s.rest with movers := t.movers, rsv := t.rsv, flows := t.flows } ∧
      t.sess = s.sess ∧ t.log = s.log ∧
      s.only t [Obj.MOVE_STATE m, Obj.MOVE_DONE_TAG m, Obj.MOVE_DONE_COUNT m, Obj.MOVE_BEATS_LEFT m, Obj.MOVE_WORDS m,
        Obj.RSV_OUTSTANDING, Obj.RSV_OUTSTANDING_PEAK] := by
  obtain ⟨n, hn⟩ : ∃ n, n = (s.curDesc m).count - (s.mover m).beat := ⟨_, rfl⟩
  have hcount : (s.mover m).beat + n = (s.curDesc m).count := by omega
  have hadv := advance_moves (s := s) (m := m) (n := n) fun hf => absurd hf (by rw [any_failed_false hlive]; exact Bool.false_ne_true)
  rw [exec_descriptorComplete h96 hstate hgone hhalt, hready, ← hn, hadv]
  have hframe := s.moveBeats_frame m n
  have hsess := s.moveBeats_sess m n
  obtain ⟨hmover, -, hleft⟩ := moveBeats_moves (n := n) (hsz.mover_lt h96)
  have hrd {j : Nat} (hj : j ≠ 0x502) (hj' : j ≠ 0x701) := s.moveBeats_rd m n hj hj'
  generalize s.moveBeats m n = z at *
  have hrun : z.rd (Obj.MOVE_STATE m) = 2 := by
    rw [← hstate, (moveKeys m).1]; exact hrd (by decide) (by decide)
  have hdesc : z.curDesc m = s.curDesc m :=
    curDesc_congr (by rw [hmover]) (by simpa [moveKeys] using hrd (j := 0x501) (by decide) (by decide))
  have hdone : z.rd (Obj.MOVE_DONE_COUNT m) = s.rd (Obj.MOVE_DONE_COUNT m) := by
    simpa [moveKeys] using hrd (j := 0x504) (by decide) (by decide)
  have hall : z.completeIf m (s.curDesc m).count = z.completeSlot m := by
    unfold completeIf
    rw [hmover, hrun, hcount]
    exact if_pos (by simp)
  have hlast' : (z.curDesc m).last = true := by rw [hdesc]; exact hlast
  have hnotify' : (z.curDesc m).notify = false := by rw [hdesc]; exact hnotify
  rw [hall, completeSlot_last hlast' hnotify', hdesc, hdone]
  have ht := (((hframe.mono (keys' := [Obj.MOVE_STATE m, Obj.MOVE_DONE_TAG m, Obj.MOVE_DONE_COUNT m, Obj.MOVE_BEATS_LEFT m, Obj.MOVE_WORDS m,
    Obj.RSV_OUTSTANDING, Obj.RSV_OUTSTANDING_PEAK]) (by simp [beatKeys, requestKeys])).wr (k := Obj.MOVE_DONE_TAG m)
    (v := (s.curDesc m).tag) (by simp)).wr (k := Obj.MOVE_DONE_COUNT m) (v := (s.rd (Obj.MOVE_DONE_COUNT m) + 1) % 2 ^ 32) (by simp)).wr
    (k := Obj.MOVE_STATE m) (v := 5) (by simp)
  refine ⟨_, ht.done, rd_wr_same .., ?_, ?_, ?_, ht.mover, ht.rest, hsess, ht.log, ht.only⟩
  · simp [rd_wr, moveKeys, moveKey_inj]
  · simp [rd_wr, moveKeys, moveKey_inj]
  · rw [hcount, Nat.sub_self] at hleft
    simpa [rd_wr, moveKeys, moveKey_inj] using hleft

/-- The clause of a halt whose beats can move. -/
theorem descriptorComplete_halts (hsz : s.Sized) (h96 : m < 96) (hstate : s.rd (Obj.MOVE_STATE m) = 2) (hgone : s.goneDir m = none)
    (hhalt : (s.mover m).halt = some b) (hlive : ∀ p ∈ s.rsv.pch, p.failed = false) (hle : (s.mover m).beat ≤ b)
    (hbelow : b < (s.curDesc m).count) (hready : s.beatsReady m (b - (s.mover m).beat) = b - (s.mover m).beat) :
    ∃ t, exec (.descriptorComplete m) s = .next t ∧ t.rd (Obj.MOVE_STATE m) = 3 ∧ (t.mover m).beat = b ∧ (t.mover m).halt = none ∧
      t.rd (Obj.MOVE_BEATS_LEFT m) = (s.curDesc m).count - b ∧ t.rd (Obj.MOVE_WORDS m) = s.rd (Obj.MOVE_WORDS m) + 8 * (b - (s.mover m).beat) ∧
      (∀ i, i ≠ m → t.mover i = s.mover i) ∧ t.rest = { s.rest with movers := t.movers, rsv := t.rsv, flows := t.flows } ∧
      t.sess = s.sess ∧ t.log = s.log ∧
      s.only t [Obj.MOVE_STATE m, Obj.MOVE_BEATS_LEFT m, Obj.MOVE_WORDS m, Obj.RSV_OUTSTANDING, Obj.RSV_OUTSTANDING_PEAK] := by
  have hlen := hsz.mover_lt h96
  have hb : (s.mover m).beat + (b - (s.mover m).beat) = b := Nat.add_sub_of_le hle
  rw [exec_descriptorComplete_halt h96 hstate hgone hhalt,
    halted_eq hlen hstate (fun hf => absurd hf (by rw [any_failed_false hlive]; exact Bool.false_ne_true)) (by rw [hb]; exact hbelow) hready]
  obtain ⟨y, hy⟩ : ∃ y, y = s.updMover m fun x => { x with halt := none } := ⟨_, rfl⟩
  have hym := mover_updMover_same (s := s) (fun x => { x with halt := none }) hlen
  have hyframe : MoverFrame m (Obj.MOVE_STATE m :: beatKeys m) s y := hy ▸ (MoverFrame.refl s).updMover
  have hys : y.sess = s.sess ∧ ∀ q, y.rd q = s.rd q := by rw [hy]; exact ⟨rfl, fun _ => rfl⟩
  rw [← hy] at hym ⊢
  obtain ⟨hsess, hyrd⟩ := hys
  have hdesc : y.curDesc m = s.curDesc m := curDesc_congr (by rw [hym]) (hyrd _)
  obtain ⟨hmover, hwords, hleft⟩ := moveBeats_moves (s := y) (n := b - (s.mover m).beat) (hyframe.length ▸ hlen)
  have hzframe := hyframe.trans ((y.moveBeats_frame m (b - (s.mover m).beat)).mono (List.subset_cons_self ..))
  have hzsess := y.moveBeats_sess m (b - (s.mover m).beat)
  rw [hym] at hmover hleft
  rw [hyrd] at hwords
  rw [hdesc] at hleft
  dsimp only at hmover hleft
  rw [hb] at hmover hleft
  generalize y.moveBeats m (b - (s.mover m).beat) = z at *
  have ht := hzframe.wr (k := Obj.MOVE_STATE m) (v := 3) (List.mem_cons_self ..)
  have htm : (z.wr (Obj.MOVE_STATE m) 3).mover m = z.mover m := rfl
  refine ⟨_, ht.done, rd_wr_same .., by rw [htm, hmover], by rw [htm, hmover], ?_, ?_, ht.mover, ht.rest, hzsess.trans hsess, ht.log,
    (ht.mono (by simp [beatKeys, requestKeys])).only⟩
  · rw [rd_wr_other _ _ _ _ (by simp [moveKeys, moveKey_inj]), hleft]
  · rw [rd_wr_other _ _ _ _ (by simp [moveKeys, moveKey_inj]), hwords]

end State

end Sys2Proof.Machine

namespace Sys2Proof.Machine

set_option Elab.async false

/-! ### What an error's report leaves alone (R195, R215) -/

/-- Between `s` and `t` no more differs than the Reservoir, free values, sessions' records, the log and objects that are not channel m's. -/
structure Reported (m : Nat) (s t : State) : Prop where
  rest : t.rest = { s.rest with rsv := t.rsv, free := t.free }
  pchs : t.rsv.pch.length = s.rsv.pch.length
  rd : ∀ j, j < 0x800 → t.rd (moveKey m j) = s.rd (moveKey m j)

namespace Reported

variable {m : Nat} {s t u : State}

theorem refl (s : State) : Reported m s s := ⟨rfl, rfl, fun _ _ => rfl⟩

theorem trans (h : Reported m s t) (h' : Reported m t u) : Reported m s u :=
  ⟨by rw [h'.rest, h.rest], h'.pchs.trans h.pchs, fun j hj => (h'.rd j hj).trans (h.rd j hj)⟩

theorem movers (h : Reported m s t) (i : Nat) : t.mover i = s.mover i := State.mover_of_movers (congrArg State.movers h.rest :) i

theorem used {n : Nat} (h : Reported m s t) : Reported m s (t.used n) := h.trans ⟨rfl, rfl, fun _ _ => rfl⟩

/-- An object of the chapters before. -/
theorem wr {q v : Nat} (h : Reported m s t) (hq : q < 0x540000) : Reported m s (t.wr q v) :=
  h.trans ⟨rfl, rfl, fun _ _ => State.rd_wr_other _ _ _ _ (moveKey_ne hq)⟩

theorem updPch {k : Nat} {f : Pch → Pch} (h : Reported m s t) : Reported m s (t.updPch k f) :=
  h.trans ⟨rfl, List.length_modify .., fun _ _ => rfl⟩

/-- What leaves everything but objects, sessions and the log as it was. -/
theorem ofRest (h : Reported m s t) (hr : u.rest = t.rest) (hrd : ∀ j, j < 0x800 → u.rd (moveKey m j) = t.rd (moveKey m j)) :
    Reported m s u := by
  have hrsv : u.rsv = t.rsv := (congrArg State.rsv hr :)
  have hfree : u.free = t.free := (congrArg State.free hr :)
  exact h.trans ⟨by rw [hr, hrsv, hfree]; rfl, by rw [hrsv], hrd⟩

theorem event {c i e a b d : Nat} (hm : m < 96) (h : Reported m s t) : Reported m s (t.event c i e a b d) :=
  h.ofRest (State.event_rest ..) fun _ hj => State.event_rd _ _ _ _ _ _ _ _ (moveKey_quiet hm hj).1

theorem notify {i c d : Nat} {w : List Nat} (hm : m < 96) (h : Reported m s t) : Reported m s (t.notify i c d w) :=
  h.ofRest (State.notify_rest ..) fun _ hj => State.notify_rd _ _ _ _ _ _ ((moveKey_quiet hm hj).2 i)

theorem setFloors (h : Reported m s t) : Reported m s t.setFloors :=
  h.ofRest (State.setFloors_rest t) fun j _ => State.setFloors_rd_other t (by
    have hne {q : Nat} (hq : q < 0x540000) := moveKey_ne (m := m) (j := j) hq
    simp only [List.mem_cons, List.not_mem_nil, or_false, not_or]
    exact ⟨hne (by decide), hne (by decide), hne (by decide), hne (by decide), hne (by decide)⟩)

/-- A pseudo-channel that fails is shown, logged and counted. -/
theorem failPch {k : Nat} (hm : m < 96) (hk : k < 128) (h : Reported m s t) : Reported m s (t.failPch k) := by
  unfold State.failPch
  split
  · exact h
  · exact (((((h.updPch.wr (by unfold Obj.RSV_PCH_MAP key; omega)).wr (by decide)).wr (by decide)).wr (by decide)).setFloors).event hm

/-- An uncorrectable burst is counted and logged, and may be the one that fails its pseudo-channel (R195, R196). -/
theorem ecc {k addr : Nat} (hm : m < 96) (hlen : t.rsv.pch.length = 128) (h : Reported m s t) : Reported m s (t.ecc k addr 0 1) := by
  unfold State.ecc
  rw [if_pos rfl, if_neg (by decide)]
  extract_lets a x y z
  have hz : Reported m s z := ((h.wr (by decide)).wr (by decide)).event hm |>.updPch
  split
  next hue =>
    refine hz.failPch hm (Nat.lt_of_not_le fun hk => ?_)
    have hnone : z.pch k = default := by
      unfold State.pch at'
      refine List.getD_eq_default _ _ ?_
      rw [hz.pchs, ← h.pchs, hlen]
      exact hk
    rw [hnone] at hue
    exact absurd hue (by decide)
  next => exact hz

theorem badLine {line : Nat} (hm : m < 96) (hlen : t.rsv.pch.length = 128) (h : Reported m s t) : Reported m s (t.badLine line) := by
  unfold State.badLine
  split
  · exact h
  · exact h.used.ecc hm hlen

end Reported

namespace State

variable {s t : State} {m k code : Nat}

/-! ### A beat that is read fails (R212 to R215) -/

/-- The channel with the error latched. -/
def latched (s : State) (m k code addr final left words : Nat) : State :=
  (((s.used 1).updMover m fun x => { x with ahead := 0, halt := none }).wrAll
    [(Obj.MOVE_STATE m, 4), (Obj.MOVE_ERR_CODE m, code), (Obj.MOVE_ERR_DIR m, 0), (Obj.MOVE_ERR_ADDR m, addr), (Obj.MOVE_ERR_BEATS m, k),
      (Obj.MOVE_ERR_DESC m, s.rd (Obj.MOVE_DESC_CUR m)), (Obj.MOVE_ERR_FINAL m, final), (Obj.MOVE_BEATS_LEFT m, left),
      (Obj.MOVE_WORDS m, words)]).count (Obj.MOVE_ERR_COUNT m)

/-- Of the state the latch changes the channel's record and the free values. -/
theorem latched_frame (s : State) (m k code addr final left words : Nat) : ∃ f x,
    (s.latched m k code addr final left words).rest = { s.rest with movers := s.movers.modify m f, free := x } ∧
      ∀ x, (f x).retried = x.retried := by
  refine ⟨fun x => { x with ahead := 0, halt := none }, (s.used 1).free, ?_, fun _ => rfl⟩
  unfold latched wrAll
  simp only [List.foldl_cons, List.foldl_nil]
  rfl

/-- What is latched. -/
theorem latched_rd (s : State) (m k code addr final left words : Nat) :
    (s.latched m k code addr final left words).rd (Obj.MOVE_STATE m) = 4 ∧
      (s.latched m k code addr final left words).rd (Obj.MOVE_ERR_CODE m) = code ∧
      (s.latched m k code addr final left words).rd (Obj.MOVE_ERR_DIR m) = 0 ∧
      (s.latched m k code addr final left words).rd (Obj.MOVE_ERR_BEATS m) = k ∧
      (s.latched m k code addr final left words).rd (Obj.MOVE_ERR_DESC m) = s.rd (Obj.MOVE_DESC_CUR m) ∧
      (s.latched m k code addr final left words).rd (Obj.MOVE_ERR_COUNT m) = min (2 ^ 32 - 1) (s.rd (Obj.MOVE_ERR_COUNT m) + 1) := by
  have hu (q : Nat) : ((s.used 1).updMover m fun x => { x with ahead := 0, halt := none }).rd q = s.rd q := rfl
  unfold latched wrAll
  generalize (s.used 1).updMover m (fun x => { x with ahead := 0, halt := none }) = y at *
  simp [rd_count, rd_wr, moveKeys, moveKey_inj, hu]

/-- A beat that is read fails: those before it move, the error is latched, and it is reported. -/
theorem failBeat_read (hm : m < 96) (hlen : s.rsv.pch.length = 128) : ∃ addr final left words,
    Reported m ((s.moveBeats m (k - (s.mover m).beat)).latched m k code addr final left words) (s.failBeat m k code 0) := by
  have hpch := (s.moveBeats_pchs m (k - (s.mover m).beat)).trans hlen
  unfold failBeat
  generalize s.moveBeats m (k - (s.mover m).beat) = z at *
  extract_lets d z0 ahead z1 z2 z3 space wrapOf off final z4 z5 t
  have hahead : ahead = 0 := if_neg (by decide)
  have h2 : z2 = z.used 1 := by unfold z2; rw [hahead]; rfl
  have h3 : z3 = (z.used 1).updMover m fun x => { x with ahead := 0, halt := none } := by unfold z3; rw [h2, hahead]
  have h5 : z5 = z.latched m k code (space * 2 ^ 60 + off % 2 ^ 36) final (d.count - (k + 1 + ahead)) (z3.rd (Obj.MOVE_WORDS m) + 8 * ahead) := by
    unfold z5 z4; rw [h3]; rfl
  have ht : Reported m z5 t := by
    unfold t
    split
    · exact (Reported.refl z5).badLine hm (by rw [h5]; exact hpch)
    · exact .refl z5
  rw [h5] at ht
  split
  · exact ⟨_, _, _, _, ht⟩
  · exact ⟨_, _, _, _, ht.notify hm⟩

end State

/-- Between `s` and `t` beat k of channel m has failed, and no more differs than the channel, what its beats move, and the error's report. -/
structure BeatFailed (m k code : Nat) (s t : State) : Prop where
  rest : t.rest = { s.rest with movers := t.movers, rsv := t.rsv, flows := t.flows, free := t.free }
  length : t.movers.length = s.movers.length
  mover : ∀ i, i ≠ m → t.mover i = s.mover i
  retried : (t.mover m).retried = (s.mover m).retried
  state : t.rd (Obj.MOVE_STATE m) = 4
  code : t.rd (Obj.MOVE_ERR_CODE m) = code
  dir : t.rd (Obj.MOVE_ERR_DIR m) = 0
  beats : t.rd (Obj.MOVE_ERR_BEATS m) = k
  desc : t.rd (Obj.MOVE_ERR_DESC m) = s.rd (Obj.MOVE_DESC_CUR m)
  count : t.rd (Obj.MOVE_ERR_COUNT m) = min (2 ^ 32 - 1) (s.rd (Obj.MOVE_ERR_COUNT m) + 1)

/-- The error's report leaves what is latched as it was. -/
theorem BeatFailed.reported {m k code : Nat} {s t u : State} (h : BeatFailed m k code s t) (hr : Reported m t u) :
    BeatFailed m k code s u := by
  have hmovers : u.movers = t.movers := (congrArg State.movers hr.rest :)
  have hflows : u.flows = t.flows := (congrArg State.flows hr.rest :)
  have hrd {j : Nat} (hj : j < 0x800) := hr.rd j hj
  refine ⟨by rw [hmovers, hflows, hr.rest, h.rest], by rw [hmovers, h.length], fun i hi => by rw [hr.movers, h.mover i hi],
    by rw [hr.movers, h.retried], ?_, ?_, ?_, ?_, ?_, ?_⟩
  · rw [← h.state]; simpa [moveKeys] using hrd (j := 0x001) (by decide)
  · rw [← h.code]; simpa [moveKeys] using hrd (j := 0x601) (by decide)
  · rw [← h.dir]; simpa [moveKeys] using hrd (j := 0x602) (by decide)
  · rw [← h.beats]; simpa [moveKeys] using hrd (j := 0x604) (by decide)
  · rw [← h.desc]; simpa [moveKeys] using hrd (j := 0x605) (by decide)
  · rw [← h.count]; simpa [moveKeys] using hrd (j := 0x703) (by decide)

namespace State

variable {s t : State} {m k code : Nat}

/-- A beat that is read fails. -/
theorem failBeat_failed (hsz : s.Sized) (hm : m < 96) : BeatFailed m k code s (s.failBeat m k code 0) := by
  obtain ⟨addr, final, left, words, hr⟩ := failBeat_read (s := s) (k := k) (code := code) hm hsz.pch_length
  refine BeatFailed.reported ?_ hr
  have hz := s.moveBeats_frame m (k - (s.mover m).beat)
  obtain ⟨hmover, -, -⟩ := moveBeats_moves (s := s) (n := k - (s.mover m).beat) (hsz.mover_lt hm)
  have hdesc := s.moveBeats_rd m (k - (s.mover m).beat) (j := 0x501) (by decide) (by decide)
  have hcount := s.moveBeats_rd m (k - (s.mover m).beat) (j := 0x703) (by decide) (by decide)
  generalize s.moveBeats m (k - (s.mover m).beat) = z at *
  obtain ⟨f, x, hrest, hf⟩ := z.latched_frame m k code addr final left words
  obtain ⟨hstate, hcode, hdir, hbeats, hd, hn⟩ := z.latched_rd m k code addr final left words
  generalize z.latched m k code addr final left words = t at *
  have hmovers : t.movers = z.movers.modify m f := (congrArg State.movers hrest :)
  have hrsv : t.rsv = z.rsv := (congrArg State.rsv hrest :)
  have hflows : t.flows = z.flows := (congrArg State.flows hrest :)
  have hfree : t.free = x := (congrArg State.free hrest :)
  have hat (i : Nat) : t.mover i = (z.updMover m f).mover i := mover_of_movers hmovers i
  refine ⟨?_, ?_, fun i hi => ?_, ?_, hstate, hcode, hdir, hbeats, ?_, ?_⟩
  · rw [hmovers, hrsv, hflows, hfree, hrest, hz.rest]
  · rw [hmovers, List.length_modify, hz.length]
  · rw [hat, mover_updMover_other _ hi, hz.mover i hi]
  · rw [hat, mover_updMover_same _ (hz.length ▸ hsz.mover_lt hm), hf, hmover]
  · rw [hd]; simpa [moveKeys] using hdesc
  · rw [hn, show z.rd (Obj.MOVE_ERR_COUNT m) = s.rd (Obj.MOVE_ERR_COUNT m) by simpa [moveKeys] using hcount]

/-! ### BEAT_ERROR of a beat that is read (R212 to R215) -/

theorem exec_beatError (hm : m < 96) (hstate : s.rd (Obj.MOVE_STATE m) = 2) (hle : (s.mover m).beat ≤ k) (hlt : k < (s.curDesc m).count)
    (hready : k - (s.mover m).beat < s.beatsReady m ((s.curDesc m).count - (s.mover m).beat)) :
    exec (.beatError m k 1 0) s = done s (s.failed m k 1 0) := by
  have hgo : ¬ (Nat.ble 96 m || !((1 == 1 && 0 == 0) || (1 == 2 && 0 == 1))) = true := by simpa using hm
  have hbeat : ¬ (s.rd (Obj.MOVE_STATE m) != 2 || Nat.blt k (s.mover m).beat || Nat.ble (s.curDesc m).count k ||
      Nat.ble (s.beatsReady m ((s.curDesc m).count - (s.mover m).beat)) (k - (s.mover m).beat)) = true := by
    simp [hstate, Nat.blt]; omega
  show execBeatError m k 1 0 s = _
  unfold execBeatError
  dsimp only
  rw [if_neg hgo, if_neg (by simp [hstate]), if_neg hbeat]

/-- The clause of a session's channel: it halts with the error latched. -/
theorem beatError_session (hsz : s.Sized) (h32 : 32 ≤ m) (hm : m < 96) (hstate : s.rd (Obj.MOVE_STATE m) = 2) (hle : (s.mover m).beat ≤ k)
    (hlt : k < (s.curDesc m).count) (hready : k - (s.mover m).beat < s.beatsReady m ((s.curDesc m).count - (s.mover m).beat)) :
    ∃ t, exec (.beatError m k 1 0) s = .next t ∧ t.rd (Obj.MOVE_STATE m) = 4 ∧ t.rd (Obj.MOVE_ERR_CODE m) = 1 ∧
      t.rd (Obj.MOVE_ERR_DIR m) = 0 ∧ t.rd (Obj.MOVE_ERR_BEATS m) = k ∧ t.rd (Obj.MOVE_ERR_DESC m) = s.rd (Obj.MOVE_DESC_CUR m) ∧
      (∀ i, i ≠ m → t.mover i = s.mover i) ∧
      t.rest = { s.rest with movers := t.movers, rsv := t.rsv, flows := t.flows, free := t.free } := by
  have h := failBeat_failed (k := k) (code := 1) hsz hm
  have hf : s.failed m k 1 0 = s.failBeat m k 1 0 := if_neg (Nat.not_lt.mpr h32)
  rw [exec_beatError hm hstate hle hlt hready, hf]
  exact ⟨_, done_eq (congrArg State.wall h.rest :) (congrArg State.pending h.rest :), h.state, h.code, h.dir, h.beats, h.desc, h.mover, h.rest⟩

/-- The channel runs again from the beat that failed. -/
def retry (s : State) (m : Nat) : State :=
  let y := s.updMover m fun x => { x with retried := true, beat := s.rd (Obj.MOVE_ERR_BEATS m), ahead := 0 }
  (y.wr (Obj.MOVE_BEATS_LEFT m) ((y.curDesc m).count - (y.mover m).beat)).wr (Obj.MOVE_STATE m) 2

/-- Firmware logs an error of its own channel, and retries a slot that it has not retried yet. -/
theorem firmwareHandles_retries (hm : m < 96) (hr : (s.mover m).retried = false) :
    ∃ y, Reported m s y ∧ s.firmwareHandles m = y.retry m := by
  have hy : Reported m s ((s.used 1).event (s.freeN % 2) 254 (s.freeN / 2 % 65536) m 0) := (Reported.refl s).used.event hm
  refine ⟨_, hy, ?_⟩
  unfold firmwareHandles
  dsimp only
  rw [hy.movers, hr]
  exact if_neg Bool.false_ne_true

/-- A retry changes the channel's record, the beats that it shows as left, and its state. -/
theorem retry_frame (s : State) (m : Nat) : MoverFrame m [Obj.MOVE_BEATS_LEFT m, Obj.MOVE_STATE m] s (s.retry m) ∧
    (s.retry m).rsv = s.rsv ∧ (s.retry m).flows = s.flows := by
  unfold retry
  exact ⟨((MoverFrame.refl s).updMover.wr (by simp)).wr (by simp), rfl, rfl⟩

/-- The clause of firmware's channel: it retries the slot once from the beat that failed. -/
theorem beatError_firmware (hsz : s.Sized) (h32 : m < 32) (hstate : s.rd (Obj.MOVE_STATE m) = 2) (hle : (s.mover m).beat ≤ k)
    (hlt : k < (s.curDesc m).count) (hready : k - (s.mover m).beat < s.beatsReady m ((s.curDesc m).count - (s.mover m).beat))
    (hretried : (s.mover m).retried = false) :
    ∃ t, exec (.beatError m k 1 0) s = .next t ∧ t.rd (Obj.MOVE_ERR_CODE m) = 1 ∧ t.rd (Obj.MOVE_ERR_BEATS m) = k ∧
      t.rd (Obj.MOVE_ERR_COUNT m) = min (2 ^ 32 - 1) (s.rd (Obj.MOVE_ERR_COUNT m) + 1) ∧ t.rd (Obj.MOVE_STATE m) = 2 ∧
      (t.mover m).beat = k ∧ (t.mover m).retried = true ∧ (∀ i, i ≠ m → t.mover i = s.mover i) ∧
      t.rest = { s.rest with movers := t.movers, rsv := t.rsv, flows := t.flows, free := t.free } := by
  have hm : m < 96 := by omega
  have hb := failBeat_failed (k := k) (code := 1) hsz hm
  obtain ⟨y, hry, hy⟩ := firmwareHandles_retries hm (hb.retried.trans hretried)
  have h := hb.reported hry
  have hf : s.failed m k 1 0 = y.retry m := (if_pos h32).trans hy
  obtain ⟨hframe, hrsv, hflows⟩ := y.retry_frame m
  have hfree : (y.retry m).free = y.free := (congrArg State.free hframe.rest :)
  have hown : (y.retry m).mover m = _ :=
    mover_updMover_same (s := y) (fun x => { x with retried := true, beat := y.rd (Obj.MOVE_ERR_BEATS m), ahead := 0 })
      (h.length ▸ hsz.mover_lt hm)
  have hrest : (y.retry m).rest = { s.rest with
      movers := (y.retry m).movers, rsv := (y.retry m).rsv, flows := (y.retry m).flows, free := (y.retry m).free } := by
    rw [hrsv, hflows, hfree, hframe.rest_movers hrsv hflows, h.rest]
  have hrd {j : Nat} (hj : j ≠ 0x502) (hj' : j ≠ 0x001) : (y.retry m).rd (moveKey m j) = y.rd (moveKey m j) :=
    hframe.only _ (by simp [moveKeys, moveKey_inj, hj, hj'])
  rw [exec_beatError hm hstate hle hlt hready, hf]
  refine ⟨_, done_eq (congrArg State.wall hrest :) (congrArg State.pending hrest :), ?_, ?_, ?_, rd_wr_same .., by rw [hown]; exact h.beats,
    by rw [hown], fun i hi => (hframe.mover i hi).trans (h.mover i hi), hrest⟩
  · rw [← h.code]; simpa [moveKeys] using hrd (j := 0x601) (by decide) (by decide)
  · rw [← h.beats]; simpa [moveKeys] using hrd (j := 0x604) (by decide) (by decide)
  · rw [← h.count]; simpa [moveKeys] using hrd (j := 0x703) (by decide) (by decide)

end State

end Sys2Proof.Machine

namespace Sys2Proof.Machine

set_option Elab.async false

namespace State

variable {s t : State} {m b : Nat} {w : Swap}

/-! ### A buffer's Joint (R204) -/

/-- A channel's buffer size takes effect at the mover group's Joint, and belongs to the channel. -/
theorem moveBufLog2_unit (hm : m < 96) : groupOf (Obj.MOVE_BUF_LOG2 m) = 7 ∧ ownId (Obj.MOVE_BUF_LOG2 m) = ⟨.mover, m⟩ :=
  (by decide : ∀ m, m < 96 → groupOf (Obj.MOVE_BUF_LOG2 m) = 7 ∧ ownId (Obj.MOVE_BUF_LOG2 m) = ⟨.mover, m⟩) m hm

/-- A channel's object is none that a Joint writes beside its swap's. -/
theorem moveKey_notMem_jointKeys {j sess : Nat} (hm : m < 96) (hj : j < 0x800) : moveKey m j ∉ jointKeys sess := by
  simp only [jointKeys, sk, Obj.DEV_STATE, Obj.DEV_JOINT_FIRST, Obj.DEV_JOINT_LAST, key, moveKey, List.mem_cons, List.not_mem_nil, or_false]
  omega

/-- The Joint of a unit that is owned by claim ends no ownership. -/
theorem applyChange_owners {u : UnitId} (hu : u.claimed = true) (s : State) (w : Swap) (g b : Nat) : (s.applyChange w g u b).owners = s.owners := by
  unfold applyChange
  extract_lets mine s1 s2 s3 f s4 s5
  have h1 : s1.owners = s.owners := foldl_same State.owners (fun x (p : Nat × Nat) => x.wr p.1 p.2) (fun _ _ => rfl) mine s
  have h4 : s4.owners = s3.owners := by unfold s4; split <;> rfl
  have h5 : s5 = s4 := by unfold s5; rw [hu]; rfl
  calc s5.serviceState.owners = s5.owners := (congrArg State.owners s5.serviceState_frame.1 :)
    _ = s3.owners := by rw [h5, h4]
    _ = s.owners := h1

/-- A channel that does not run fails at once for nothing that is gone: the mark is its own. -/
theorem loseUse_stopped {mark : Nat} (h : s.rd (Obj.MOVE_STATE m) ≠ 2) : MoverFrame m [] s (s.loseUse m mark) ∧
    (s.loseUse m mark).rsv = s.rsv ∧ (s.loseUse m mark).flows = s.flows ∧ (s.loseUse m mark).sess = s.sess := by
  unfold loseUse
  dsimp only
  have hf : MoverFrame m [] s (s.updMover m fun x => { x with gone := mark :: x.gone.filter fun k => k != mark }) :=
    (MoverFrame.refl s).updMover
  split
  · split
    · exact ⟨hf, rfl, rfl, rfl⟩
    · exact ⟨hf, rfl, rfl, rfl⟩
  · exact ⟨.refl s, rfl, rfl, rfl⟩

/-- The buffer of the new size is put in its place. -/
def buffered (s : State) (m : Nat) : State :=
  let y := s.freeSmall (Obj.MOVE_BUF_LOG2 m) (if s.rd (Obj.MOVE_BUF_LOG2 m) = 0 then 0 else 2 ^ s.rd (Obj.MOVE_BUF_LOG2 m))
  (y.wr (Obj.MOVE_BUF_BASE m) (((y.small (Obj.MOVE_BUF_LOG2 m)).map SmallRing.base).getD 0)).loseUse m 0

theorem buffered_stopped (h : s.rd (Obj.MOVE_STATE m) ≠ 2) :
    (s.buffered m).rest = { s.rest with movers := (s.buffered m).movers, rsv := (s.buffered m).rsv } ∧
      (∀ i, i ≠ m → (s.buffered m).mover i = s.mover i) ∧ (s.buffered m).sess = s.sess ∧ (s.buffered m).log = s.log ∧
      (s.buffered m).rd (Obj.MOVE_BUF_LOG2 m) = s.rd (Obj.MOVE_BUF_LOG2 m) ∧
      (s.buffered m).rd (Obj.MOVE_BUF_BASE m) = (((s.buffered m).small (Obj.MOVE_BUF_LOG2 m)).map SmallRing.base).getD 0 := by
  unfold buffered
  dsimp only
  obtain ⟨hr, hs, hl, ho⟩ := s.freeSmall_frame (Obj.MOVE_BUF_LOG2 m)
    (if s.rd (Obj.MOVE_BUF_LOG2 m) = 0 then 0 else 2 ^ s.rd (Obj.MOVE_BUF_LOG2 m))
  generalize s.freeSmall (Obj.MOVE_BUF_LOG2 m) _ = y at *
  have hyo {j : Nat} : y.rd (moveKey m j) = s.rd (moveKey m j) := ho _ (by simpa using moveKey_ne (by decide))
  obtain ⟨v, hv⟩ : ∃ v, v = ((y.small (Obj.MOVE_BUF_LOG2 m)).map SmallRing.base).getD 0 := ⟨_, rfl⟩
  rw [← hv]
  have hstate : (y.wr (Obj.MOVE_BUF_BASE m) v).rd (Obj.MOVE_STATE m) ≠ 2 := by
    rw [rd_wr_other _ _ _ _ (by simp [moveKeys, moveKey_inj]), (moveKeys m).1, hyo, ← (moveKeys m).1]
    exact h
  obtain ⟨hf, hrsv, hflows, hsess⟩ := loseUse_stopped (mark := 0) hstate
  generalize (y.wr (Obj.MOVE_BUF_BASE m) v).loseUse m 0 = t at *
  have hty : t.rsv = y.rsv := hrsv
  have hsmall : t.small (Obj.MOVE_BUF_LOG2 m) = y.small (Obj.MOVE_BUF_LOG2 m) := by unfold small; rw [hty]
  have hmovers : y.movers = s.movers := (congrArg State.movers hr :)
  have hto (q : Nat) : t.rd q = (y.wr (Obj.MOVE_BUF_BASE m) v).rd q := hf.only q (List.not_mem_nil)
  refine ⟨?_, fun i hi => (hf.mover i hi).trans (mover_of_movers hmovers i), hsess.trans hs, hf.log.trans hl, ?_, ?_⟩
  · rw [hf.rest_movers hrsv hflows, hty, State.wr_rest, hr]
  · rw [hto, rd_wr_other _ _ _ _ (by simp [moveKeys, moveKey_inj])]
    simpa [moveKeys] using hyo
  · rw [hto, rd_wr_same, hsmall, hv]

/-- MOVE_BUFFER_JOINT of a claimed channel whose buffer's size changes. -/
theorem exec_moveBufferJoint {v : Nat} (hdue : s.due 7 ⟨.mover, m⟩ = some (w, b)) (hne : s.rd (Obj.MOVE_BUF_LOG2 m) ≠ v)
    (hv : (s.applyChange w 7 ⟨.mover, m⟩ b).rd (Obj.MOVE_BUF_LOG2 m) = v)
    (hclaimed : (s.applyChange w 7 ⟨.mover, m⟩ b).rd (Obj.MOVE_STATE m) ≠ 0) :
    exec (.moveBufferJoint m) s = done s ((s.applyChange w 7 ⟨.mover, m⟩ b).buffered m) := by
  show execMoveBufferJoint m s = _
  unfold execMoveBufferJoint
  dsimp only
  rw [joint_due hdue]
  generalize s.applyChange w 7 ⟨.mover, m⟩ b = x at *
  have hfree : (x.rd (Obj.MOVE_STATE m) == 0) = false := beq_false_of_ne hclaimed
  have hlog : ¬ s.rd (Obj.MOVE_BUF_LOG2 m) = x.rd (Obj.MOVE_BUF_LOG2 m) := by rw [hv]; exact hne
  rw [hfree, if_neg Bool.false_ne_true, if_neg (by simpa using hlog)]
  rfl

/-- The clause of a buffer's Joint on a channel that is claimed and does not run. -/
theorem moveBufferJoint_buffered (hm : m < 96) (hdue : s.due 7 ⟨.mover, m⟩ = some (w, b)) (hrun : s.rd (Obj.MOVE_STATE m) ≠ 2)
    (hclaimed : s.rd (Obj.MOVE_STATE m) ≠ 0) (hvals : w.vals = [(Obj.MOVE_BUF_LOG2 m, w.value s (Obj.MOVE_BUF_LOG2 m))])
    (hne : s.rd (Obj.MOVE_BUF_LOG2 m) ≠ w.value s (Obj.MOVE_BUF_LOG2 m)) :
    ∃ t, exec (.moveBufferJoint m) s = .next t ∧ t.rd (Obj.MOVE_BUF_LOG2 m) = w.value s (Obj.MOVE_BUF_LOG2 m) ∧
      t.gens = nextGen ⟨.mover, m⟩ s.gens ∧
      t.rd (Obj.MOVE_BUF_BASE m) = ((t.small (Obj.MOVE_BUF_LOG2 m)).map SmallRing.base).getD 0 ∧
      t.rest = { s.rest with movers := t.movers, rsv := t.rsv, gens := t.gens, swaps := t.swaps } ∧
      (∀ i, i ≠ m → t.mover i = s.mover i) ∧ t.sess = s.sess ∧ t.log = s.log := by
  obtain ⟨v, hv⟩ : ∃ v, v = w.value s (Obj.MOVE_BUF_LOG2 m) := ⟨_, rfl⟩
  rw [← hv] at hvals hne ⊢
  obtain ⟨hg, hu⟩ := moveBufLog2_unit hm
  obtain ⟨swaps, owners, hr, hs, hl, hval, ho⟩ := s.applyChange_one b hvals hg hu
    (by rw [(moveKeys m).2.2.2.1]; exact moveKey_notMem_jointKeys hm (by decide))
  have howners := applyChange_owners (u := ⟨.mover, m⟩) rfl s w 7 b
  have hstate : (s.applyChange w 7 ⟨.mover, m⟩ b).rd (Obj.MOVE_STATE m) = s.rd (Obj.MOVE_STATE m) := by
    refine ho _ ?_
    rw [List.mem_cons, not_or, (moveKeys m).1]
    exact ⟨by simp [moveKeys, moveKey_inj], moveKey_notMem_jointKeys hm (by decide)⟩
  rw [exec_moveBufferJoint hdue hne hval (hstate ▸ hclaimed)]
  generalize s.applyChange w 7 ⟨.mover, m⟩ b = x at *
  obtain ⟨hbr, hbm, hbs, hbl, hlog2, hbase⟩ := x.buffered_stopped (m := m) (hstate ▸ hrun)
  generalize x.buffered m = t at *
  have hgens : t.gens = nextGen ⟨.mover, m⟩ s.gens :=
    Eq.trans (congrArg State.gens hbr :) (congrArg State.gens hr :)
  have hswaps : t.swaps = swaps := Eq.trans (congrArg State.swaps hbr :) (congrArg State.swaps hr :)
  have hmovers : x.movers = s.movers := (congrArg State.movers hr :)
  have hy : owners = s.owners := Eq.trans (congrArg State.owners hr :).symm howners
  have hrest : t.rest = { s.rest with movers := t.movers, rsv := t.rsv, gens := t.gens, swaps := t.swaps } := by
    rw [hgens, hswaps, hbr, hr, hy]; rfl
  exact ⟨t, done_eq (congrArg State.wall hrest :) (congrArg State.pending hrest :), hlog2.trans hval, hgens, hbase, hrest,
    fun i hi => (hbm i hi).trans (mover_of_movers hmovers i), hbs.trans hs, hbl.trans hl⟩

end State

/-- Settles O15: each clause is the lemma of what happens to the channel. -/
theorem moverEvents : Obligations.MoverEvents := by
  unfold Obligations.MoverEvents
  exact ⟨fun _ _ hsz _ => State.descriptorComplete_done hsz, fun _ _ _ hsz _ => State.descriptorComplete_halts hsz,
    fun _ _ _ => State.beatError_session, fun _ _ _ => State.beatError_firmware, fun _ _ _ _ _ => State.moveBufferJoint_buffered⟩

end Sys2Proof.Machine
